-- ==== Sys2Proof/Word.lean ====
section
/-! DEFINITION. The word types of the Selzan 4920 block and of its sparse storage. -/

namespace Sys2Proof

/-- One byte. -/
abbrev Byte := BitVec 8

/-- One register of BAR0 (R6). -/
abbrev Word := BitVec 32

/-- A SHA3-256 digest (R41), read as a little-endian number of its 32 bytes. -/
abbrev Digest := BitVec 256

/-- Storage by key in one canonical form: keys strictly rising, no entry equal to the default. -/
abbrev Sparse (α : Type) := List (Nat × α)

end Sys2Proof
end

