-- ==== Sys2Proof/Machine/StateBase.lean ====
section
/-! DEFINITION. The state of the core units: time, status tree, counters, unlock, mailbox, live parameters,
loader, life cycle, power, time base, recorder and monitor converter. A field's default is its value at reset. -/

namespace Sys2Proof.Machine

/-- The states of SYS_STATE (04, SYS_STATE table). -/
inductive SysState where
  | powerUp | loading | running | restarting | safe | stopped | standbyEntry | standby | off | faultOff
  deriving DecidableEq, Repr, Inhabited

/-- Why a stop sequence of the function runs (R75, R79, R126, R451). -/
inductive StopKind where
  | restart | rootUnlock | controlled | standby
  deriving DecidableEq, Repr, Inhabited

/-- Why the function stopped under control (R451). -/
inductive StopReason where
  | none | thermal | margin
  deriving DecidableEq, Repr, Inhabited

/-- The content of the power-down cause latch (R473, R477). -/
inductive PowerCause where
  | none | railFault | storeTrain | inputTrip | thermalShutdown
  deriving DecidableEq, Repr, Inhabited

/-- CLK_STATE[LOCK] (R120). -/
inductive LockState where
  | internal | acquiring | locked | holdover | refFar
  deriving DecidableEq, Repr, Inhabited

/-- Time as the block counts it. -/
structure TimeBase where
  /-- CK_ENG cycles since power-up, the model's own clock; Nat; 01 R13; 0 -/
  cycle : Nat := 0
  /-- sample count and epoch: count in bits [63:0], epoch in bits [79:64]; 80; 05 R130, 00 R8; 0 -/
  count : BitVec 80 := 0
  /-- whether the sample-time counter runs (step 5 of R57 passed); 1; 05 R130; false -/
  counting : Bool := false
  deriving DecidableEq, Repr, Inhabited

/-- The status tree (R92 to R95). -/
structure StatusTree where
  /-- STAT_SUMMARY, bits latched before this CK_FAB cycle; 25; 04 R92; 0 -/
  summary : Word := 0
  /-- STAT_SUMMARY, bits latched in this CK_FAB cycle; 25; 04 R86; 0 -/
  summaryFresh : Word := 0
  /-- STAT_VEC0_EN; 25; 04 STAT block; 0x1FF_FFFF -/
  vec0En : Word := 0x1FFFFFF
  /-- STAT_GRPn by n, bits latched before this CK_FAB cycle; 25 of 32; 04 R92; 0 -/
  grp : Sparse Word := []
  /-- STAT_GRPn by n, bits latched in this CK_FAB cycle; 25 of 32; 04 R86; 0 -/
  grpFresh : Sparse Word := []
  /-- event leaf bits pulsing in this CK_FAB cycle, by 64n + k for leaf register k of block n; 32 each; 04 R92; 0 -/
  pulses : Sparse Word := []
  deriving DecidableEq, Repr, Inhabited

/-- One counter with its live WRAP flag (R97, R98). -/
structure Counter where
  /-- counter value; 64 or 32; 04 R97; 0 -/
  value : Nat := 0
  /-- live WRAP flag; 1; 04 R98; false -/
  wrap : Bool := false
  deriving DecidableEq, Repr, Inhabited

/-- One holding slot (R97). -/
structure Held where
  /-- VALUE_LO and VALUE_HI; 64; 04 R97; 0 -/
  value : Nat := 0
  /-- FLAGS[WRAP]; 1; 04 R98; false -/
  wrap : Bool := false
  /-- FLAGS[SAT]; 1; 04 R98; false -/
  sat : Bool := false
  deriving DecidableEq, Repr, Inhabited

/-- Counters, their holding slots and the snapshot registers (R96 to R99). -/
structure Snapshot where
  /-- every counter, by the BAR0 offset of its holding slot; 64 or 32; 04 R97; 0 -/
  ctrs : Sparse Counter := []
  /-- every holding slot, by its BAR0 offset; 66; 04 R97; 0 -/
  held : Sparse Held := []
  /-- SNAP_SEQ; 32; 04 R96; 0 -/
  seq : Word := 0
  /-- SNAP_TIME_EP, SNAP_TIME_HI and SNAP_TIME_LO; 80; 04 R96; 0 -/
  time : BitVec 80 := 0
  /-- whether a snapshot was taken in this CK_FAB cycle, whose later increments it includes; 1; 04 R96; false -/
  here : Bool := false
  deriving DecidableEq, Repr, Inhabited

/-- A registered commit (R101, R102). -/
structure Commit where
  /-- the seam at which it takes effect; 32; 04 R102; none before a commit -/
  target : Nat
  /-- whether the range check has passed; 1; 04 R101; none before a commit -/
  checked : Bool
  deriving DecidableEq, Repr, Inhabited

/-- Live parameters (R100 to R105). -/
structure LiveBank where
  /-- LIVE_SHADOWn by n; 32; 04 R100; 0 -/
  shadow : Sparse Word := []
  /-- active values by n; 32; 04 R100; 0 -/
  active : Sparse Word := []
  /-- the pending commit; -; 04 R103; none -/
  commit : Option Commit := none
  /-- LIVE_STATUS[STATE]; 3; 04 LIVE block; 0 -/
  state : Nat := 0
  /-- LIVE_STATUS[FIRST_BAD]; 12; 04 LIVE block; 0 -/
  firstBad : Nat := 0
  /-- target seam of the last commit registered; 32; 04 R105; 0 -/
  target : Nat := 0
  /-- target seam of the last commit applied; 32; 04 LIVE block; 0 -/
  applied : Nat := 0
  /-- LIVE_SEAM, the current seam; 32; 04 LIVE block; 0 -/
  seam : Nat := 0
  deriving DecidableEq, Repr, Inhabited

/-- Mailbox commands that wait for something outside the control core (R108). -/
inductive MboxOp where
  | flashRead (off len : Nat)
  | flashErase (off : Nat)
  | flashProgram (off len : Nat)
  | ksWrite (slot : Nat) (digest : Digest)
  | ksRevoke (slot : Nat)
  | calStore (copy gen : Nat)
  | logFreeze
  | logClear (signer : Nat) (seq : Nat) (tokenDigest : Digest)
  deriving DecidableEq, Repr, Inhabited

/-- The command mailbox (R106 to R111). -/
structure Mailbox where
  /-- CMD_OPCODE; 32; 04 CMD block; 0 -/
  opcode : Word := 0
  /-- CMD_ARGn by n; 32 each; 04 CMD block; 0 -/
  arg : Sparse Word := []
  /-- CMD_RESULTn by n; 32 each; 04 CMD block; 0 -/
  res : Sparse Word := []
  /-- CMD_DATA by byte; 16 KiB; 04 CMD block; 0 -/
  data : Sparse Byte := []
  /-- the running command, BUSY while there is one; 1; 04 R106; none -/
  running : Option MboxOp := none
  /-- CMD_STATUS[RESP]; 8; 04 CMD block; 0 -/
  resp : Nat := 0
  /-- CMD_STATUS[SEQ]; 16; 04 R108; 0 -/
  seq : Nat := 0
  /-- CMD_RESTART_STATUS[RESP]; 8; 04 R111; 0 -/
  restartResp : Nat := 0
  /-- CMD_RESTART_STATUS[SEQ]; 16; 04 R111; 0 -/
  restartSeq : Nat := 0
  deriving DecidableEq, Repr, Inhabited

/-- One key slot in one-time-programmable memory (R46). -/
structure KeySlot where
  /-- key digest; 256; 02 R46; 0 -/
  digest : Digest := 0
  /-- ENABLED; 1; 02 R46; false -/
  enabled : Bool := false
  /-- REVOKED; 1; 02 R46; false -/
  revoked : Bool := false
  deriving DecidableEq, Repr, Inhabited

/-- What SFDP reports and how the flash is driven (R62). -/
structure FlashInfo where
  /-- octal DDR rather than 1S-1S-1S; 1; 03 R62; false -/
  octal : Bool := false
  /-- density in bytes; 32; 03 R62; 0 -/
  density : Nat := 0
  /-- page size in bytes; 32; 04 R110; 0 -/
  page : Nat := 0
  /-- sizes of the erase types; -; 04 R110; empty -/
  eraseTypes : List Nat := []
  deriving DecidableEq, Repr, Inhabited

/-- The areas of the boot pointer in use (R63, R64). -/
structure Areas where
  /-- image slot A; 32; 03 R63; 0 -/
  slotA : Nat := 0
  /-- image slot B; 32; 03 R63; 0 -/
  slotB : Nat := 0
  /-- calibration copy 0; 32; 03 R63; 0 -/
  cal0 : Nat := 0
  /-- calibration copy 1; 32; 03 R63; 0 -/
  cal1 : Nat := 0
  /-- recorder fallback area; 32; 03 R63; 0 -/
  logFallback : Nat := 0
  /-- board record; 32; 03 R63; 0 -/
  board : Nat := 0
  /-- BOARD_LEN; 32; 03 R63; 0 -/
  boardLen : Nat := 0
  deriving DecidableEq, Repr, Inhabited

/-- The loader (R44, R50, R62 to R67). -/
structure Loader where
  /-- the flash as read; -; 03 R62; nothing read -/
  flash : FlashInfo := {}
  /-- whether the boot pointer has been read; 1; 03 R64; false -/
  pointerRead : Bool := false
  /-- boot pointer in use: 0 copy 0, 1 copy 1, 2 default; 2; 03 R64; 0 -/
  pointer : Nat := 0
  /-- areas of the boot pointer in use; -; 03 R64; 0 -/
  areas : Areas := {}
  /-- whether the read of the board record has ended; 1; 03 R65; false -/
  boardDone : Bool := false
  /-- the held board record; at most 4,096 bytes; 03 R65; none -/
  board : Option (List Byte) := none
  /-- slot being loaded: 0 none, 1 slot A, 2 slot B; 2; 03 R67; 0 -/
  slot : Nat := 0
  /-- the copy of the image's bytes read into the store so far; at most 96 MiB; 02 R44; empty -/
  copy : List Byte := []
  /-- CK_ENG cycle at which the load began; -; 02 IMG_LOAD_CYCLES; 0 -/
  began : Nat := 0
  deriving DecidableEq, Repr, Inhabited

/-- Block IMG and the key slots (02). -/
structure ImgRegs where
  /-- IMG_STATUS[CODE_A]; 8; 02 IMG block; 0 -/
  codeA : Nat := 0
  /-- IMG_STATUS[CODE_B]; 8; 02 IMG block; 0 -/
  codeB : Nat := 0
  /-- IMG_STATUS[RUNNING]; 2; 02 IMG block; 0 -/
  running : Nat := 0
  /-- IMG_STATUS[SAFE]; 1; 02 IMG block; false -/
  safe : Bool := false
  /-- IMG_STATUS[VENDOR_PROGRAMME]; 1; 02 IMG block; false -/
  vendor : Bool := false
  /-- IMG_STATUS[LOADING]; 1; 02 IMG block; true -/
  loading : Bool := true
  /-- IMG_INFO[MAJOR]; 8; 02 IMG block; 0 -/
  major : Nat := 0
  /-- IMG_INFO[MINOR]; 8; 02 IMG block; 0 -/
  minor : Nat := 0
  /-- IMG_VERSION; 32; 02 IMG block; 0 -/
  version : Nat := 0
  /-- IMG_DIGEST0-7; 256; 02 R43; 0 -/
  digest : Digest := 0
  /-- IMG_FW_DIGEST0-7; 256; 02 R43; 0 -/
  fwDigest : Digest := 0
  /-- IMG_KS_SEL[SLOT]; 2; 02 IMG block; 0 -/
  ksSel : Nat := 0
  /-- IMG_LOAD_CYCLES; 32; 02 IMG block; 0 -/
  loadCycles : Nat := 0
  /-- KS0 to KS3 by number; 258 each; 02 R46; DESIGN CHOICE empty (log 2) -/
  keys : Sparse KeySlot := []
  deriving DecidableEq, Repr, Inhabited

/-- The sequence that stops a function (R75, R79, R451). -/
structure StopSeq where
  /-- why the function stops; -; 03 R75; none before a stop -/
  kind : StopKind
  /-- step of R75 reached, 1 to 6: 4 once the close of the volume has ended, while notices wait for their rings, 5 while the store is zeroed, 6 while records are written; 3; 03 R75; none before a stop -/
  step : Nat
  /-- whether rails turn off after step 4 for STBY; 1; 03 R80; none before a stop -/
  thenStandby : Bool
  deriving DecidableEq, Repr, Inhabited

/-- The life cycle of the function (03). -/
structure Life where
  /-- the root has not relocked within 1 s of its unlock; 1; 05 R126; false -/
  rootGone : Bool := false
  /-- SYS_STATE[STATE]; 4; 04 SYS block; POWER_UP (0) -/
  sys : SysState := .powerUp
  /-- the stop sequence in progress; -; 03 R75; none -/
  stop : Option StopSeq := none
  /-- whether zeroing of the store has completed; 1; 03 R57 step 8; false -/
  zeroed : Bool := false
  /-- whether a restart step 8 waits for the root to relock; 1; 05 R126; false -/
  awaitRoot : Bool := false
  /-- a controlled stop that arose during a restart; -; 19 R452; none -/
  stopAtStart : StopReason := .none
  /-- PWR_STATE[STOP_REASON]; 2; 19 R451; none -/
  stopReason : StopReason := .none
  /-- CK_ENG cycle in which the condition of the controlled stop was detected; -; 19 R452; 0 -/
  stopCycle : Nat := 0
  deriving DecidableEq, Repr, Inhabited

/-- Supplies, rails and the power controller (03, 19). -/
structure Power where
  /-- VIN48 valid; 1; 03 R51; false -/
  vin48 : Bool := false
  /-- VAUX3V3 valid; 1; 03 R51; false -/
  vaux : Bool := false
  /-- STBY pin; 1; 03 R53; false -/
  stby : Bool := false
  /-- PWR_CLASS[2:0] as latched; 3; 03 R54; none latched -/
  cls : Option Nat := none
  /-- TEST_EN as latched; 1; 20 R470; false -/
  testEn : Bool := false
  /-- sequencing in progress or complete, rails on; 1; 03 R55; false -/
  on : Bool := false
  /-- rail groups in regulation, 0 to 3; 2; 03 R55; 0 -/
  groups : Nat := 0
  /-- staged turn-off waits for the RAIL_FAULT record; 1; 19 R439; false -/
  staged : Bool := false
  /-- power-down cause latch, reason; 8; 03 R477; none -/
  cause : PowerCause := .none
  /-- power-down cause latch, group of the failed rail; 3; 03 R477; 0 -/
  causeGroup : Nat := 0
  /-- power-down cause latch, monitor input; 5; 03 R477; 0 -/
  causeInput : Nat := 0
  /-- whether the recorder has made the record of the latched cause; 1; 19 R439; false -/
  causeRecorded : Bool := false
  /-- oven oscillator runs (step 4 of R57); 1; 03 R57; false -/
  osc : Bool := false
  /-- root synthesiser locked; 1; 05 R126; false -/
  root : Bool := false
  /-- CK_HK taken from the root rather than the oven; 1; 05 R126, 03 R57; false -/
  hkFromRoot : Bool := false
  /-- engine, converter, context and fixed-unit rails on (off in the safe state and after step 5 of a controlled stop); 1; 03 R70, 19 R451; false -/
  analysis : Bool := false
  /-- PWR_STATE[AVS_POLICY]; 1; 19 R446; 0 -/
  avsHold : Bool := false
  /-- PWR_AVS[SETPOINT] in mV; 10; 19 R445; 850 -/
  setpoint : Nat := 850
  /-- PWR_AVS[FLOOR] in mV; 10; 19 R447; 0 -/
  floor : Nat := 0
  /-- MARGIN_LOW condition; 1; 19 R445; false -/
  marginLow : Bool := false
  /-- junction, raw code of 1/64 K; 16; 19 R449; 0 (no reading) -/
  tj : Nat := 0
  /-- PWR_TJ[SENSOR]; 4; 19 PWR block; 0 -/
  tjSensor : Nat := 0
  /-- highest junction since function start, raw code; 16; 19 R449; 0 (no reading) -/
  tjPeak : Nat := 0
  /-- THERMAL_WARN condition; 1; 19 R450; false -/
  warn : Bool := false
  /-- whether every die reading of the present pass lies below 97 degrees; 1; 19 R450; true -/
  passCool : Bool := true
  /-- PWR_IN in 0.1 W; 16; 19 R443; 0 -/
  pwrIn : Nat := 0
  /-- OVER_CLASS condition; 1; 19 R443; false -/
  overClass : Bool := false
  /-- PWR_SLACK in 1/256 cycle; 8; 19 R445; 0 -/
  slack : Nat := 0
  deriving DecidableEq, Repr, Inhabited

/-- The time base (05). -/
structure Clk where
  /-- CLK_STATE[REF_DETECT]; 2; 05 R118; 0 -/
  refDetect : Nat := 0
  /-- CLK_STATE[LOCK]; 3; 05 R120; INTERNAL (0) -/
  lock : LockState := .internal
  /-- oven settled; 1; 05 R117; false -/
  settled : Bool := false
  /-- consecutive oven samples within 10 mK; 10; 05 R117; 0 -/
  runIn : Nat := 0
  /-- consecutive oven samples outside 10 mK; 7; 05 R117; 0 -/
  runOut : Nat := 0
  /-- REF_OUT policy in use; 2; 05 R128; 0 -/
  refOut : Nat := 0
  /-- REF_LOCK policy in force; 2; 05 R119; 0 -/
  refLock : Nat := 0
  /-- tuning converter code; 24 signed; 05 R113; 0 -/
  code : Int := 0
  /-- code asked for by the owner of the converter, unclamped; signed; 05 R115, R116, R121; 0 -/
  target : Int := 0
  /-- code without the part of the offset still to be unwound; signed; 05 R115, R121, R122; 0 -/
  base : Int := 0
  /-- CK_HK cycle of the last step of the ageing model, with the base before it; Nat, signed; 05 R113; none -/
  stepped : Option (Nat × Int) := none
  /-- CK_HK cycle in which the converter last passed between its owners; Nat; 05 R113; none -/
  handed : Option Nat := none
  /-- synthesiser offset in units of 1e-12; 32 signed; 05 R124; 0 -/
  eps : Int := 0
  /-- synthesiser offset being stepped to; 32 signed; 05 R121; 0 -/
  epsTarget : Int := 0
  /-- whether the tuning converter unwinds the offset (step 4 of R121); 1; 05 R121; false -/
  unwinding : Bool := false
  /-- CLK_REF_ERR in units of 1e-12; 32 signed; 05 R118; 0 -/
  refErr : Int := 0
  /-- ageing model A0; 32 signed; 05 R114; 0 -/
  a0 : Int := 0
  /-- ageing model A1; 32 signed; 05 R114; 0 -/
  a1 : Int := 0
  /-- ageing model T0; 32; 05 R114; 0 -/
  t0 : Nat := 0
  /-- whether a reference has been acquired or locked since LOCK was last INTERNAL; 1; 05 R120; false -/
  engaged : Bool := false
  /-- held code and operating seconds from which the model's slope continues after a loss; -; 05 R122; none -/
  held : Option (Int × Nat) := none
  /-- tuning codes of the time locked, newest first, one per gate of 100 ms, at most 1,000; 24 each; 05 R122; empty -/
  history : List Int := []
  /-- CLK_OVEN[ERR] in mK; 16 signed; 05 R117; 0 -/
  ovenErr : Int := 0
  /-- CLK_OVEN[HEATER] in 10 mW; 16; 05 CLK block; 0 -/
  heater : Nat := 0
  deriving DecidableEq, Repr, Inhabited

/-- A record of the event recorder (R424). -/
structure Rec where
  /-- SEQ; 64; 18 R424; 0 -/
  seq : Nat := 0
  /-- POWER_CYCLES; 32; 18 R424; 0 -/
  cycles : Nat := 0
  /-- OP_SECONDS; 32; 18 R424; 0 -/
  seconds : Nat := 0
  /-- SAMPLE_TIME and EPOCH, epoch in the high part; 80; 18 R424; 0 -/
  time : Nat := 0
  /-- CODE; 16; 18 R424; 0 -/
  code : Nat := 0
  /-- SOURCE; 8; 18 R424; 0 -/
  source : Nat := 0
  /-- REPEAT; 16; 18 R428; 0 -/
  again : Nat := 0
  /-- PARAM0 to PARAM3; 32 each; 18 R424; empty -/
  params : List Nat := []
  /-- FLAGS[TIME_VALID]; 1; 18 R425; false -/
  timeValid : Bool := false
  /-- FLAGS[REPEAT_SAT]; 1; 18 R428; false -/
  repeatSat : Bool := false
  /-- FLAGS[FALLBACK]; 1; 18 R435; false -/
  fallback : Bool := false
  /-- FLAGS[RESERVED_FULL]; 1; 18 R429; false -/
  reservedFull : Bool := false
  /-- LAST_SECONDS; 32; 18 R428; 0 -/
  lastSeconds : Nat := 0
  deriving DecidableEq, Repr, Inhabited

/-- The numbers that the recorder goes on from at power-up: SEQ, the two counts and the highest generation (R422, R436). -/
structure RecNumbers where
  /-- SEQ; 64; 18 R422; 0 -/
  seq : Nat := 0
  /-- power-cycle count; 32; 18 R422; 0 -/
  cycles : Nat := 0
  /-- operating seconds; 32; 18 R422; 0 -/
  seconds : Nat := 0
  /-- highest calibration generation; 32; 18 R422; 0 -/
  gen : Nat := 0
  deriving DecidableEq, Repr, Inhabited

/-- The event recorder (18). -/
structure Recorder where
  /-- records in MRAM by 64 x block + place; 64 bytes each; 18 R422; DESIGN CHOICE empty (log 2) -/
  mram : Sparse (Option Rec) := []
  /-- seal table by block; 256 each; 18 R423; DESIGN CHOICE 0 (log 2) -/
  seals : Sparse Digest := []
  /-- seal of the block sealed last; 256; 18 R423; 0 -/
  prevSeal : Digest := 0
  /-- SEQ of the newest record; 64; 18 R424; 0 -/
  seq : Nat := 0
  /-- power-cycle count; 32; 18 R425; 0 -/
  cycles : Nat := 0
  /-- operating seconds; 32; 18 R425; 0 -/
  seconds : Nat := 0
  /-- CLEAR_SEQ; 64; 18 R433; 0 -/
  clearSeq : Nat := 0
  /-- highest calibration generation issued; 32; 17 R413; 0 -/
  highestGen : Nat := 0
  /-- bad blocks; at most 65; 18 R434; empty -/
  bad : List Nat := []
  /-- ring blocks given to the reserved segment; -; 18 R434; empty -/
  moved : List Nat := []
  /-- open block and next place of the ring; 11 and 6; 18 R427; block 64, place 0 -/
  ringOpen : Nat × Nat := (64, 0)
  /-- sealed or full blocks of the ring, oldest first; -; 18 R427; empty -/
  ringUsed : List Nat := []
  /-- open block and next place of the reserved segment, none when full; 11 and 6; 18 R427, R429; block 0, place 0 -/
  resOpen : Option (Nat × Nat) := some (0, 0)
  /-- used blocks of the reserved segment; -; 18 R427; empty -/
  resUsed : List Nat := []
  /-- place of the newest record, block and place; 11 and 6; 18 LOG_NEWEST; 0 -/
  newest : Nat × Nat := (0, 0)
  /-- place of the newest ring record, none when there is none; -; 18 R428; none -/
  newestRing : Option (Nat × Nat) := none
  /-- intake queue, oldest first; at most 256; 18 R426; empty -/
  queue : List Rec := []
  /-- events discarded since the last record; -; 18 R426; 0 -/
  lost : Nat := 0
  /-- events discarded during a freeze, told of after the queued records; -; 18 R430; 0 -/
  lostFrozen : Nat := 0
  /-- queued records that stand before that RECORDS_LOST record; at most 256; 18 R430; 0 -/
  lostAfter : Nat := 0
  /-- CK_ENG cycle at which the freeze began, none outside a freeze; -; 18 R430; none -/
  freeze : Option Nat := none
  /-- DEGRADED; 1; 18 R434; false -/
  degraded : Bool := false
  /-- the state block's numbers since DEGRADED began, when they are written no more; 160; 18 R422, R434; 0 -/
  stored : RecNumbers := {}
  /-- the MRAM cannot be read; 1; 18 R431; false -/
  unread : Bool := false
  /-- RESERVED_FULL; 1; 18 R429; false -/
  reservedFull : Bool := false
  /-- volatile ring by entry; 512; 18 R435; empty -/
  vring : Sparse (Option Rec) := []
  /-- next entry of the volatile ring; 9; 18 R435; 0 -/
  vnext : Nat := 0
  /-- degraded entries waiting for the flash, oldest first; -; 18 R435; empty -/
  vqueue : List Rec := []
  /-- next place of the flash fallback area; 10; 18 R435; DESIGN CHOICE 0 (log 2) -/
  fbNext : Nat := 0
  /-- fallback view, records as read at power-up by place; 64 KiB; 18 R431; DESIGN CHOICE empty (log 2) -/
  fbView : Sparse (Option Rec) := []
  /-- records of the fallback area as last programmed, by place; 64 KiB; 18 R435; DESIGN CHOICE empty (log 2) -/
  fbArea : Sparse (Option Rec) := []
  /-- LOG_WIN[PAGE]; 12; 18 R431; 0 -/
  win : Nat := 0
  deriving DecidableEq, Repr, Inhabited

/-- One entry of the monitor sequence (R457). -/
structure MonEntry where
  /-- INPUT_A; 5; 19 R457; 0 for host entries -/
  inputA : Nat := 0
  /-- INPUT_B; 5; 19 R457; 0 for host entries -/
  inputB : Nat := 0
  /-- conversions less one; 8; 19 R457; 0 for host entries -/
  reps : Nat := 0
  /-- WAIT; 1; 19 R457; false for host entries -/
  wait : Bool := false
  /-- DELAY_AFTER; 16; 19 R457; 0 for host entries -/
  delay : Nat := 0
  deriving DecidableEq, Repr, Inhabited

/-- The monitor converters (19 R454 to R459). -/
structure Monitor where
  /-- MON_CFG; 22; 19 MON block; 0 -/
  cfg : Word := 0
  /-- MON_TIMER; 24; 19 MON block; 160,000 -/
  timer : Word := 160000
  /-- MON_SEQ of host entries 96 to 127 by entry; 41 each; 19 R456; 0 -/
  host : Sparse MonEntry := []
  /-- MON_CFG as latched for the pass; 22; 19 R456; 0 -/
  passCfg : Word := 0
  /-- MON_TIMER as latched for the pass; 24; 19 R456; 160,000 -/
  passTimer : Word := 160000
  /-- host entries as latched for the pass; 41 each; 19 R456; 0 -/
  passHost : Sparse MonEntry := []
  /-- whether a pass runs; 1; 19 R456; false -/
  inPass : Bool := false
  /-- entry being converted or waiting to start; 7; 19 R456; 0 -/
  entry : Nat := 0
  /-- whether the entry's acquisition has begun; 1; 19 R457; false -/
  started : Bool := false
  /-- CK_ENG cycle at which the pass began; -; 19 MON_PASS_LEN; 0 -/
  passStart : Nat := 0
  /-- pass count; -; 19 R458; 0 -/
  pass : Nat := 0
  /-- MON_PASS_LEN in CK_HK cycles; 24; 19 MON block; 0 -/
  passLen : Nat := 0
  /-- MON_RES_An by n, value and pass; 24 each; 19 R458; 0 -/
  resA : Sparse (Nat × Nat) := []
  /-- MON_RES_Bn by n, value and pass; 24 each; 19 R458; 0 -/
  resB : Sparse (Nat × Nat) := []
  /-- MON_URGENT[INPUT_A] and [INPUT_B]; 5 each; 19 R459; 0 -/
  urgentIn : Nat × Nat := (0, 0)
  /-- the urgent conversion waiting or converting, its inputs; -; 19 R459; none -/
  urgent : Option (Nat × Nat) := none
  /-- MON_URGENT_RES; 32; 19 R459; 0 -/
  urgentRes : Word := 0
  deriving DecidableEq, Repr, Inhabited

/-- Pins and ports of the package (20). -/
structure Package where
  /-- SMBus BAR0 offset; 32; 20 R473; DESIGN CHOICE 0 (log 3) -/
  smbus : Nat := 0
  /-- positions whose DREFCLK runs, bit n for Dnn; 16; 20 R471; none -/
  drefclk : Nat := 0
  /-- ports whose DPERSTp_N is released, bit p; 8; 20 R471; none -/
  dperst : Nat := 0
  /-- ports whose DPERSTp_N release is due at this function start, bit p; 8; 20 R471; none -/
  dperstDue : Nat := 0
  /-- XSPI_RESET_N released; 1; 20 R474; false -/
  xspiReset : Bool := false
  /-- instruction of the test access port; 8; 20 R470; DESIGN CHOICE IDCODE (log 3) -/
  tap : Nat := 1
  /-- boundary register, over the contacts that R470 lists, as the last test instruction captured them; the module's length; 20 R470; DESIGN CHOICE 0 (log 3) -/
  boundary : Nat := 0
  /-- whether the test access port drives the contacts that R470 lists; 1; 20 R470; false -/
  driven : Bool := false
  deriving DecidableEq, Repr, Inhabited

end Sys2Proof.Machine
end

