-- ==== Sys2Proof/Machine/Forms.lean ====
section
/-! DEFINITION. The operand forms of commands: slot fields of the engines and the data that outside parties bring. -/

namespace Sys2Proof.Machine

/-- How a slot is gated: its PRED and the bundle's stage-predicate group (R214, R215). -/
structure Gate where
  pred : Nat := 0
  spgEn : Bool := false
  spg : Nat := 0
  deriving DecidableEq, Repr, Inhabited

/-- Fields of an LS slot, `slot` 0 for LS0 and 1 for LS1 (R230). -/
structure LsForm where
  slot : Nat := 0
  reg : Nat := 0
  xa : Nat := 0
  post : Bool := false
  f : Bool := false
  off : Int := 0
  deriving DecidableEq, Repr, Inhabited

/-- Fields of the MAC slot (R232). -/
structure MacForm where
  vd : Nat := 0
  va : Nat := 0
  vb : Nat := 0
  ac : Nat := 0
  sh : Nat := 0
  conj : Bool := false
  neg : Bool := false
  deriving DecidableEq, Repr, Inhabited

/-- Fields of the ALU slot with the bundle's immediate (R236, R217). -/
structure AluForm where
  d : Nat := 0
  a : Nat := 0
  b : Nat := 0
  h : Bool := false
  i : Bool := false
  xb : Bool := false
  imm : Nat := 0
  deriving DecidableEq, Repr, Inhabited

/-- Fields of the XCH slot (R241). -/
structure XchForm where
  reg : Nat := 0
  route : Nat := 0
  deriving DecidableEq, Repr, Inhabited

/-- Fields of a LOOP in the CTL slot with the bundle's immediate (R225, R227). -/
structure LoopForm where
  lc : Nat := 0
  rot : Bool := false
  drain : Nat := 0
  cs : Bool := false
  xs : Nat := 0
  last : Nat := 1
  imm : Nat := 0
  deriving DecidableEq, Repr, Inhabited

/-- What the relays and the flash show at a function start (R66, R137). -/
structure StartInfo where
  /-- position sensed by each channel's coupling relay after it was driven -/
  coupling : List Nat := []
  /-- position sensed by each channel's lining relay after it was driven -/
  lining : List Nat := []
  /-- transits the firmware commanded of each channel's relays, retries included -/
  transits : List Nat := []
  /-- the two calibration copies as read, none for a flash error -/
  copies : List (Option (List Byte)) := []
  deriving DecidableEq, Repr, Inhabited

/-- How the check codes of the words of a read came out (R183, R184). -/
inductive Ecc where
  | clean
  | corrected (addr : Nat)
  | bad (addr : Nat)
  deriving DecidableEq, Repr, Inhabited

/-- What Identify and Set Features give of a drive (R357). -/
structure IdentifyInfo where
  mdts : Nat := 0
  queues : Nat := 1
  nn : Nat := 1
  blocks : Nat := 0
  lbaBytes : Nat := 4096
  metadata : Nat := 0
  deriving DecidableEq, Repr, Inhabited

/-- A transaction of a drive toward the 4920 (R358, R359). -/
inductive DriveAccess where
  /-- a read of a mapped page of sleeve data, a buffer or a submission queue -/
  | read (addr len : Nat)
  /-- a write of a mapped page -/
  | write (addr : Nat) (data : List Byte)
  /-- an interrupt write -/
  | irq (addr : Nat) (data : Word)
  /-- a transaction addressed to another port or a peer -/
  | peer (addr : Nat)
  deriving DecidableEq, Repr, Inhabited

/-- An NVMe completion entry, its command identifier apart (R359, R362). -/
structure CompletionEntry where
  /-- SQ identifier -/
  queue : Nat := 0
  /-- SQ head -/
  head : Nat := 0
  /-- phase tag -/
  phase : Bool := true
  /-- whether its status is an error -/
  error : Bool := false
  deriving DecidableEq, Repr, Inhabited

/-- What a calibration measured on one range (R410, R414): the trims that null each slice, in codes. -/
structure Measurement where
  trims : List (Int × Int × Int) := []
  /-- integer delay found -/
  delay : Int := 0
  /-- residual fields of the record: offset and bytes -/
  resid : List (Nat × List Byte) := []
  deriving DecidableEq, Repr, Inhabited

/-- A tracker estimate of one slice in 1/16 code: gain and skew, which are valid together (R417). -/
structure Estimate where
  gain : Int := 0
  skew : Int := 0
  deriving DecidableEq, Repr, Inhabited

end Sys2Proof.Machine
end

