-- ==== Sys2Proof/Syntax.lean ====
section
/-! DEFINITION. The commands of the block, one constructor for each row of the opcode table, with the operands that
the party that brings the command about supplies. -/

namespace Sys2Proof

open Sys2Proof.Machine

/-- What the recorder's test at power-up finds when it fails (R436): whether the MRAM can be read, and the highest
GENERATION, OPERATING_SECONDS and POWER_CYCLES of the calibration copies. -/
structure MramFound where
  readable : Bool := false
  gen : Nat := 0
  seconds : Nat := 0
  cycles : Nat := 0
  deriving DecidableEq, Repr, Inhabited

/-- The commands of the Selzan 4920. -/
inductive Instr where
  /-- SUPPLY_VALID (R51) -/
  | supplyValid (vaux : Bool) (straps : Nat) (testEn : Bool)
  /-- SUPPLY_INVALID (R81) -/
  | supplyInvalid (vaux : Bool)
  /-- STBY_HIGH (R79) -/
  | stbyHigh
  /-- STBY_LOW (R53) -/
  | stbyLow (straps : Nat) (testEn : Bool)
  /-- STANDBY_RAILS_OFF (R79) -/
  | standbyRailsOff
  /-- RAIL_GROUP_IN_REGULATION (R55) -/
  | railGroupInRegulation (group : Nat)
  /-- RAIL_FAULT (R56) -/
  | railFault (group input : Nat)
  /-- OVEN_OSCILLATOR_RUNS (R57) -/
  | ovenOscillatorRuns (mramOk : Bool) (found : MramFound)
  /-- ROOT_SYNTH_LOCK (R130) -/
  | rootSynthLock
  /-- STORE_TRAINING_DONE (R185) -/
  | storeTrainingDone (ok0 ok1 : Bool)
  /-- STORE_ZEROED (R57) -/
  | storeZeroed
  /-- BOOT_POINTER_READ (R64) -/
  | bootPointerRead (flash : FlashInfo) (copy0 copy1 : Option (List Byte))
  /-- BOARD_RECORD_READ (R65) -/
  | boardRecordRead (data : Option (List Byte))
  /-- IMAGE_HEADER_READ (R50) -/
  | imageHeaderRead (data : Option (List Byte))
  /-- IMAGE_BODY_READ (R50) -/
  | imageBodyRead (data : Option (List Byte)) (firmwareOk : Bool)
  /-- FUNCTION_START (R57) -/
  | functionStart (info : StartInfo)
  /-- HOST_LINK_READY (R59) -/
  | hostLinkReady (speed width : Nat) (flit : Bool)
  /-- CONFIG_REQUEST (R380) -/
  | configRequest (write : Option Word) (dword : Nat)
  /-- PERST_RELEASE (R59) -/
  | perstRelease
  /-- PERST_ASSERT (R383) -/
  | perstAssert
  /-- HOT_RESET (R383) -/
  | hotReset
  /-- FUNCTION_LEVEL_RESET (R383) -/
  | functionLevelReset
  /-- LINK_DOWN (R383) -/
  | linkDown
  /-- D3HOT_ENTRY (R383) -/
  | d3hotEntry
  /-- UNSUPPORTED_REQUEST (R384) -/
  | unsupportedRequest (addr : Nat)
  /-- RESTART_REQUEST (R111) -/
  | restartRequest (v : Word)
  /-- FUNCTION_STOP_AT_SEAM (R75) -/
  | functionStopAtSeam
  /-- NVME_DRAIN_DONE (R75) -/
  | nvmeDrainDone
  /-- NVME_DRAIN_TIMEOUT (R75) -/
  | nvmeDrainTimeout
  /-- VOLUME_CLOSE_DONE (R76) -/
  | volumeCloseDone
  /-- ROOT_UNLOCK (R126) -/
  | rootUnlock
  /-- ROOT_RELOCK (R126) -/
  | rootRelock
  /-- ROOT_RELOCK_TIMEOUT (R126) -/
  | rootRelockTimeout
  /-- BAR0_WRITE (R84) -/
  | bar0Write (off : Nat) (dws : List (Word × Nat)) (poisoned : Bool)
  /-- STAT_SUMMARY_READ (R93) -/
  | statSummaryRead
  /-- STAT_GRP_READ (R92) -/
  | statGrpRead (n : Nat)
  /-- KEY_UNLOCK_WRITE (R89) -/
  | keyUnlockWrite (v : Word)
  /-- PLACKET_TIMEOUT (R89) -/
  | placketTimeout
  /-- SNAP_TAKE (R96) -/
  | snapTake (v : Word)
  /-- LIVE_SHADOW_WRITE (R100) -/
  | liveShadowWrite (n : Nat) (v : Word)
  /-- LIVE_COMMIT (R101) -/
  | liveCommit (v : Word)
  /-- LIVE_RANGE_CHECK_DONE (R101) -/
  | liveRangeCheckDone
  /-- SEAM_START (R197) -/
  | seamStart
  /-- SEAM_END (R197) -/
  | seamEnd
  /-- NOP (R110) -/
  | nop (kg : Bool)
  /-- GET_STATE (R110) -/
  | getState (kg : Bool)
  /-- FLASH_INFO (R110) -/
  | flashInfo (kg : Bool)
  /-- FLASH_READ (R110) -/
  | flashRead (kg : Bool)
  /-- FLASH_ERASE (R110) -/
  | flashErase (kg : Bool)
  /-- FLASH_PROGRAM (R110) -/
  | flashProgram (kg : Bool)
  /-- BOARD_READ (R65) -/
  | boardRead (kg : Bool)
  /-- KS_WRITE (R478) -/
  | ksWrite (kg : Bool)
  /-- KS_REVOKE (R478) -/
  | ksRevoke (kg : Bool)
  /-- CAL_RUN_CALIBRATE (R409) -/
  | calRunCalibrate (kg : Bool)
  /-- CAL_RUN_AGEING (R420) -/
  | calRunAgeing (kg : Bool)
  /-- CAL_STORE (R416) -/
  | calStore (kg : Bool)
  /-- CAL_ABORT (R411) -/
  | calAbort (kg : Bool)
  /-- LOG_FREEZE (R430) -/
  | logFreeze (kg : Bool)
  /-- LOG_THAW (R430) -/
  | logThaw (kg : Bool)
  /-- LOG_CLEAR (R432) -/
  | logClear (kg : Bool)
  /-- UNKNOWN_OPCODE (R107) -/
  | unknownOpcode (kg : Bool) (opcode : Word)
  /-- MAILBOX_COMPLETE (R108) -/
  | mailboxComplete (ok : Bool) (data : List Byte) (mismatch : Option Nat)
  /-- OVEN_SAMPLE (R117) -/
  | ovenSample (err : Int) (heater : Nat)
  /-- AGEING_EVALUATION (R114) -/
  | ageingEvaluation
  /-- TUNE_SLEW_STEP (R115) -/
  | tuneSlewStep
  /-- SYNTH_OFFSET_STEP (R124) -/
  | synthOffsetStep
  /-- REF_GATE_COMPLETE (R118) -/
  | refGateComplete (nominal : Nat) (err : Int)
  /-- REF_EDGE_TIMEOUT (R118) -/
  | refEdgeTimeout
  /-- LOCK_ACHIEVED (R121) -/
  | lockAchieved
  /-- OPERATING_SECOND (R425) -/
  | operatingSecond
  /-- CONVERTER_SAMPLE (R139) -/
  | converterSample (ch : Nat) (codes : List Int)
  /-- SLICE_CLAMP (R145) -/
  | sliceClamp (ch slice : Nat)
  /-- DEEP_TRIP (R146) -/
  | deepTrip (ch : Nat)
  /-- OVERLOAD_WINDOW_END (R146) -/
  | overloadWindowEnd (ch : Nat)
  /-- NEIGHBOUR_ADJ_END (R147) -/
  | neighbourAdjEnd (ch : Nat)
  /-- ADJ_WINDOW_END (R135) -/
  | adjWindowEnd (ch : Nat)
  /-- RELAY_SENSE_REACHED (R136) -/
  | relaySenseReached (ch relay : Nat)
  /-- RELAY_RETRY (R138) -/
  | relayRetry (ch relay : Nat)
  /-- RELAY_FAULT (R138) -/
  | relayFault (ch relay sensed : Nat)
  /-- SLEEVE_BLOCK_WRITE (R175) -/
  | sleeveBlockWrite (sleeve : Nat) (time : Nat) (data : List Byte)
  /-- WRITER_RESUME (R175) -/
  | writerResume (sleeve : Nat)
  /-- OPEN_TRANSACTION (R164) -/
  | openTransaction (borrowed : Bool)
  /-- OPEN_READ_DATA (R164) -/
  | openReadData (ecc : Ecc)
  /-- TAG_GRANT (R167) -/
  | tagGrant (requester : Nat)
  /-- BAR2_READ (R182) -/
  | bar2Read (x len : Nat)
  /-- BAR2_WRITE (R182) -/
  | bar2Write (x : Nat) (poisoned : Bool)
  /-- STREAM_READ_LAND (R201) -/
  | streamReadLand (e stream : Nat)
  /-- STREAM_WRITE_TAKE (R202) -/
  | streamWriteTake (e stream : Nat)
  /-- RESULT_LANDS (R218) -/
  | resultLands (e : Nat)
  /-- XCH_DELIVERY (R205) -/
  | xchDelivery (e : Nat)
  /-- LOOP_EXIT (R227) -/
  | loopExit (e : Nat)
  /-- STOP_BUNDLE (R192) -/
  | stopBundle (e : Nat)
  /-- SEAM_MARK (R196) -/
  | seamMark (e : Nat)
  /-- ILLEGAL_ENCODING (R216) -/
  | illegalEncoding (e : Nat)
  /-- BR (R226) -/
  | br (e : Nat) (g : Gate) (target : Nat)
  /-- BRX (R226) -/
  | brx (e : Nat) (g : Gate) (xs : Nat)
  /-- LOOP (R227) -/
  | loop (e : Nat) (g : Gate) (f : LoopForm)
  /-- BXCLR (R239) -/
  | bxclr (e : Nat) (g : Gate)
  /-- BSC (R240) -/
  | bsc (e : Nat) (g : Gate) (src : Bool) (xs imm : Nat)
  /-- CLRF (R223) -/
  | clrf (e : Nat) (g : Gate)
  /-- ROFSET (R225) -/
  | rofset (e : Nat) (g : Gate) (imm : Nat)
  /-- LDV (R231) -/
  | ldv (e : Nat) (g : Gate) (f : LsForm)
  /-- LDC (R231) -/
  | ldc (e : Nat) (g : Gate) (f : LsForm)
  /-- LDP12 (R231) -/
  | ldp12 (e : Nat) (g : Gate) (f : LsForm)
  /-- LDU16 (R231) -/
  | ldu16 (e : Nat) (g : Gate) (f : LsForm)
  /-- LDX (R231) -/
  | ldx (e : Nat) (g : Gate) (f : LsForm)
  /-- STV (R231) -/
  | stv (e : Nat) (g : Gate) (f : LsForm)
  /-- STH (R231) -/
  | sth (e : Nat) (g : Gate) (f : LsForm)
  /-- STQ (R231) -/
  | stq (e : Nat) (g : Gate) (f : LsForm)
  /-- STX (R231) -/
  | stx (e : Nat) (g : Gate) (f : LsForm)
  /-- CMUL (R233) -/
  | cmul (e : Nat) (g : Gate) (f : MacForm)
  /-- CMLA (R233) -/
  | cmla (e : Nat) (g : Gate) (f : MacForm)
  /-- CMAC (R233) -/
  | cmac (e : Nat) (g : Gate) (f : MacForm)
  /-- ACRD (R233) -/
  | acrd (e : Nat) (g : Gate) (f : MacForm)
  /-- ACRC (R233) -/
  | acrc (e : Nat) (g : Gate) (f : MacForm)
  /-- FCVTP (R235) -/
  | fcvtp (e : Nat) (g : Gate) (f : MacForm)
  /-- FCVTL (R235) -/
  | fcvtl (e : Nat) (g : Gate) (f : MacForm)
  /-- CADD (R237) -/
  | cadd (e : Nat) (g : Gate) (f : AluForm)
  /-- CSUB (R237) -/
  | csub (e : Nat) (g : Gate) (f : AluForm)
  /-- BFY (R237) -/
  | bfy (e : Nat) (g : Gate) (f : AluForm)
  /-- BFYJ (R237) -/
  | bfyj (e : Nat) (g : Gate) (f : AluForm)
  /-- VMOV (R237) -/
  | vmov (e : Nat) (g : Gate) (f : AluForm)
  /-- CONJ (R237) -/
  | conj (e : Nat) (g : Gate) (f : AluForm)
  /-- VSHR (R237) -/
  | vshr (e : Nat) (g : Gate) (f : AluForm)
  /-- NORM (R238) -/
  | norm (e : Nat) (g : Gate) (f : AluForm)
  /-- EXP (R238) -/
  | exp (e : Nat) (g : Gate) (f : AluForm)
  /-- ADD (R237) -/
  | add (e : Nat) (g : Gate) (f : AluForm)
  /-- SUB (R237) -/
  | sub (e : Nat) (g : Gate) (f : AluForm)
  /-- AND (R237) -/
  | and (e : Nat) (g : Gate) (f : AluForm)
  /-- OR (R237) -/
  | or (e : Nat) (g : Gate) (f : AluForm)
  /-- XOR (R237) -/
  | xor (e : Nat) (g : Gate) (f : AluForm)
  /-- SHL (R237) -/
  | shl (e : Nat) (g : Gate) (f : AluForm)
  /-- SHRA (R237) -/
  | shra (e : Nat) (g : Gate) (f : AluForm)
  /-- SHRL (R237) -/
  | shrl (e : Nat) (g : Gate) (f : AluForm)
  /-- MIN (R237) -/
  | min (e : Nat) (g : Gate) (f : AluForm)
  /-- MAX (R237) -/
  | max (e : Nat) (g : Gate) (f : AluForm)
  /-- MOVI (R237) -/
  | movi (e : Nat) (g : Gate) (f : AluForm)
  /-- MOVHI (R237) -/
  | movhi (e : Nat) (g : Gate) (f : AluForm)
  /-- BXGET (R239) -/
  | bxget (e : Nat) (g : Gate) (f : AluForm)
  /-- MOVF (R237) -/
  | movf (e : Nat) (g : Gate) (f : AluForm)
  /-- MOVXV (R237) -/
  | movxv (e : Nat) (g : Gate) (f : AluForm)
  /-- MOVVX (R237) -/
  | movvx (e : Nat) (g : Gate) (f : AluForm)
  /-- CMPEQ (R237) -/
  | cmpeq (e : Nat) (g : Gate) (f : AluForm)
  /-- CMPLT (R237) -/
  | cmplt (e : Nat) (g : Gate) (f : AluForm)
  /-- CMPLTU (R237) -/
  | cmpltu (e : Nat) (g : Gate) (f : AluForm)
  /-- PAND (R237) -/
  | pand (e : Nat) (g : Gate) (f : AluForm)
  /-- POR (R237) -/
  | por (e : Nat) (g : Gate) (f : AluForm)
  /-- PNOT (R237) -/
  | pnot (e : Nat) (g : Gate) (f : AluForm)
  /-- SEND (R241) -/
  | send (e : Nat) (g : Gate) (f : XchForm)
  /-- SENDX (R241) -/
  | sendx (e : Nat) (g : Gate) (f : XchForm)
  /-- FRAME_STAMP (R251) -/
  | frameStamp (stream : Nat)
  /-- TRACE_FRAME (R269) -/
  | traceFrame (d : Nat)
  /-- TRACE_INTERVAL_CLOSE (R268) -/
  | traceIntervalClose (d : Nat)
  /-- DENSITY_FRAME (R273) -/
  | densityFrame (p : Nat)
  /-- EXPOSURE_CLOSE (R274) -/
  | exposureClose (p : Nat)
  /-- COPY_PASS_START (R274) -/
  | copyPassStart (p : Nat)
  /-- COPY_PASS_END (R276) -/
  | copyPassEnd (p : Nat)
  /-- CONTEXT_INPUT_ROW (R285) -/
  | contextInputRow (c : Nat)
  /-- CONTEXT_INPUT_LOSS (R286) -/
  | contextInputLoss (c rows : Nat)
  /-- SETTLING_COMPLETE (R295) -/
  | settlingComplete (c : Nat)
  /-- CROSSFADE_END (R291) -/
  | crossfadeEnd (c : Nat)
  /-- DETECTOR_INTERVAL_CLOSE (R296) -/
  | detectorIntervalClose (c : Nat)
  /-- IQ_RECORD_CLOSE (R299) -/
  | iqRecordClose (c : Nat)
  /-- CONTEXT_RECORD_WRITE (R300) -/
  | contextRecordWrite (c : Nat)
  /-- FALLBACK_TOLERANCE_EXPIRY (R301) -/
  | fallbackToleranceExpiry (c : Nat)
  /-- FALLBACK_EXIT (R303) -/
  | fallbackExit (c : Nat)
  /-- MASK_FRAME (R313) -/
  | maskFrame (cond : Nat)
  /-- OCCURRENCE_ARRIVAL (R316) -/
  | occurrenceArrival (g k : Nat)
  /-- OCCURRENCE_EXPIRY (R316) -/
  | occurrenceExpiry (g : Nat)
  /-- HEM_END (R326) -/
  | hemEnd (g : Nat)
  /-- HOLDOFF_END (R320) -/
  | holdoffEnd (g : Nat)
  /-- TRG_ARM (R321) -/
  | trgArm (v : Word)
  /-- TRG_DISARM (R321) -/
  | trgDisarm (v : Word)
  /-- TRG_FORCE (R321) -/
  | trgForce (v : Word)
  /-- CAP_ABORT (R334) -/
  | capAbort (v : Word)
  /-- EVENT_EDGE (R341) -/
  | eventEdge (n : Nat) (rising : Bool) (code : Nat)
  /-- TIU_CAL (R345) -/
  | tiuCal (v : Word)
  /-- TIU_CAL_DONE (R346) -/
  | tiuCalDone (n : Nat) (hits : List Nat)
  /-- FREQUENCY_GATE_END (R351) -/
  | frequencyGateEnd (n : Nat)
  /-- THR_SETTLE_END (R340) -/
  | thrSettleEnd (n : Nat)
  /-- OUTPUT_PULSE_END (R352) -/
  | outputPulseEnd (o : Nat)
  /-- TIU_RECORD_WRITE (R347) -/
  | tiuRecordWrite (n : Nat)
  /-- DRIVE_LINK_UP (R353) -/
  | driveLinkUp (d speed width : Nat) (nvme : Bool)
  /-- DRIVE_LINK_TIMEOUT (R353) -/
  | driveLinkTimeout (d : Nat)
  /-- DRIVE_READY (R357) -/
  | driveReady (d : Nat)
  /-- DRIVE_READY_TIMEOUT (R357) -/
  | driveReadyTimeout (d : Nat)
  /-- IDENTIFY_DONE (R357) -/
  | identifyDone (d : Nat) (info : IdentifyInfo)
  /-- LABEL_READ (R368) -/
  | labelRead (labels : List (Nat × List (List Byte))) (entropy : Nat)
  /-- DRIVE_DMA_ACCESS (R359) -/
  | driveDmaAccess (d : Nat) (access : DriveAccess)
  /-- STRIPE_WRITE (R366) -/
  | stripeWrite (sleeve : Nat)
  /-- NVME_COMPLETION (R362) -/
  | nvmeCompletion (d id : Nat) (status : CompletionEntry)
  /-- NVME_COMMAND_TIMEOUT (R362) -/
  | nvmeCommandTimeout (d id : Nat)
  /-- DRIVE_LINK_LOST (R362) -/
  | driveLinkLost (d : Nat)
  /-- DMA_Q_TAIL_WRITE (R389) -/
  | dmaQTailWrite (q : Nat) (v : Word)
  /-- DMA_Q_CHEAD_WRITE (R389) -/
  | dmaQCheadWrite (q : Nat) (v : Word)
  /-- DMA_Q_CTRL_WRITE (R389) -/
  | dmaQCtrlWrite (q : Nat) (v : Word)
  /-- DMA_Q_ABORT (R401) -/
  | dmaQAbort (q : Nat)
  /-- DMA_Q_FLUSH (R401) -/
  | dmaQFlush (q : Nat)
  /-- DESCRIPTOR_FETCH (R390) -/
  | descriptorFetch (q : Nat) (data : Option (List Byte))
  /-- TABLE_FETCH (R398) -/
  | tableFetch (q : Nat) (data : Option (List Byte))
  /-- BURST_DONE (R397) -/
  | burstDone (q : Nat)
  /-- HOST_READ_COMPLETION (R402) -/
  | hostReadCompletion (q : Nat) (data : Option (List Byte))
  /-- DEST_WAIT_END (R396) -/
  | destWaitEnd (q : Nat)
  /-- STREAM_FLUSH_TIMEOUT (R403) -/
  | streamFlushTimeout (q : Nat)
  /-- NOTICE_WRITE (R405) -/
  | noticeWrite (q : Nat)
  /-- CAL_MEASUREMENT_DONE (R410) -/
  | calMeasurementDone (m : Measurement)
  /-- CAL_COMPUTE_DONE (R410) -/
  | calComputeDone (resid : List (Nat × List Byte))
  /-- CAL_TURN_END (R410) -/
  | calTurnEnd
  /-- TRACKER_INTERVAL_END (R417) -/
  | trackerIntervalEnd (ch : Nat) (power : Bool) (ofs : List Int) (est : List Estimate)
  /-- LOG_RECORD_WRITTEN (R426) -/
  | logRecordWritten (verify copyVerify stateVerify : Bool)
  /-- MRAM_TIMEOUT (R434) -/
  | mramTimeout
  /-- FREEZE_TIMEOUT (R430) -/
  | freezeTimeout
  /-- FALLBACK_PROGRAM (R435) -/
  | fallbackProgram
  /-- INPUT_TRIP (R442) -/
  | inputTrip
  /-- PWR_IN_UPDATE (R443) -/
  | pwrInUpdate (power : Nat)
  /-- SLACK_LOW (R445) -/
  | slackLow (slack : Nat)
  /-- AVS_LOWER (R445) -/
  | avsLower (slack : Nat)
  /-- THERMAL_SHUTDOWN (R453) -/
  | thermalShutdown
  /-- MON_PASS_START (R456) -/
  | monPassStart
  /-- MON_ENTRY_START (R457) -/
  | monEntryStart
  /-- MON_START_TIMEOUT (R457) -/
  | monStartTimeout
  /-- MON_ENTRY_END (R458) -/
  | monEntryEnd (a b : List Nat)
  /-- MON_URGENT_GO (R459) -/
  | monUrgentGo (v : Word)
  /-- URGENT_CONVERSION_DONE (R459) -/
  | urgentConversionDone (a b : Nat)
  /-- SMBUS_SET_OFFSET (R473) -/
  | smbusSetOffset (off : Nat)
  /-- SMBUS_READ (R473) -/
  | smbusRead
  /-- SMBUS_STATE (R473) -/
  | smbusState
  /-- COMPLETION_TIMEOUT (R384) -/
  | completionTimeout (q : Nat)
  /-- FLASH_NO_ANSWER (R50) -/
  | flashNoAnswer
  /-- VOLUME_CLOSE_TIMEOUT (R76) -/
  | volumeCloseTimeout
  /-- RAIL_FAULT_RECORD_WAIT_EXPIRY (R439) -/
  | railFaultRecordWaitExpiry
  /-- DPERST_RELEASE (R471) -/
  | dperstRelease (p : Nat)
  /-- TAP_INSTRUCTION (R470) -/
  | tapInstruction (code : Nat)
  deriving DecidableEq, Repr, Inhabited

end Sys2Proof
end

