-- ==== Sys2Proof/Config.lean ====
section
/-! DEFINITION. What the spec leaves to the module or open: constants without a body, so that no proof sees a value. -/

namespace Sys2Proof.Config

/-- The vendor key digest in mask ROM (R42); log 11. -/
opaque vendorKey : Digest

/-- The stepping number of the module (IMG_INFO); log 11. -/
opaque stepping : Nat

/-- The factory trim of index e of R407, from one-time-programmable memory: offset, gain, skew; log 11. -/
opaque factoryTrim : Nat → Int × Int × Int

/-- The factory integer delay of a channel; log 11. -/
opaque factoryDelay : Nat → Nat

/-- The ageing model of the factory trim block, A0, A1 and T0 (R406); log 11. -/
opaque factoryAge : Int × Int × Nat

/-- The bytes of DC_REF, LINING_DELAY, COMB and REFOUT_DLY in the factory trim block, by offset (R406); log 11. -/
opaque factoryByte : Nat → Byte

/-- The word from which the PWR_AVS_HOLD setpoint comes; log 11. -/
opaque avsHoldCode : Nat

/-- The module's PWR_AVS_HOLD setpoint in mV, within the engine rail's range (R437, R446, R447); log 11. -/
def avsHold : Nat := 650 + avsHoldCode % 201

/-- TIU_I_DELAY of an event input and TIU_O_DLY of an output, from one-time-programmable memory (R341, R352); log 11. -/
opaque tiuDelay : Nat → Nat
opaque outDelay : Nat → Nat

/-- The step of a calibration turn that CAL_STATE shows while one range is measured, by the CK_ENG cycle: DC, comb or
skew (R410 gives no time for each); log 18. -/
opaque calPhase : Nat → Nat

/-- A free value, by the count of free values used before it; log 8. -/
opaque freeValue : Nat → Nat

/-- How far the L16 code of a power lies from the exact one, by the power's pattern: within R257's tolerance; log 12. -/
opaque l16Error : Nat → Int

/-- Whether a flag set in the cycle in which CLRF lands stays set (R223 leaves their order open); log 13. -/
opaque clrfRace : Nat → Bool

/-- Where in its stretch of the configuration space a capability stands (R380 gives no place), by capability; log 5. -/
opaque capPlace : Nat → Nat

/-- The configuration dword that holds the Power Management capability, two dwords; log 5. -/
def pmCap : Nat := 0x10 + capPlace 0 % 7

/-- The configuration dword that holds MSI-X Message Control, three dwords; log 5. -/
def msixCap : Nat := 0x18 + capPlace 1 % 5

/-- The configuration dword that holds the PCI Express capability, fifteen dwords; log 5. -/
def pcieCap : Nat := 0x20 + capPlace 2 % 17

/-- The configuration dword that holds the k-th extended capability of R380's list, the first where PCIe's extended space
begins; log 5. -/
def extCap (k : Nat) : Nat := if k = 0 then 0x40 else 0x40 + 0x20 * k + capPlace (k + 2) % 8

/-- Configuration dwords that R380 does not state, read-only bits and capability headers, by dword number; log 5. -/
opaque cfgDword : Nat → Word

/-- The bits of a configuration dword that software can write, where R380 does not state them; log 5. -/
opaque cfgMask : Nat → Word

/-- The bits of IDCODE other than the part number and bit 0 (R470); log 3. -/
opaque idcodeRest : Word

/-- Whether an instruction of the test access port drives the contacts of R470 from the boundary register: those of IEEE
1149.1 and 1149.6 that do, whose codes R470 does not give; log 3. -/
opaque tapDrives : Nat → Bool

/-- The pattern of the state block of the recorder (R431: its layout belongs to the vendor); log 14. -/
opaque stateBlock : Nat → Byte

/-- The entries of the monitor sequence that mask ROM holds, by entry: INPUT_A, INPUT_B, repetitions, WAIT, delay; log 15. -/
opaque monRom : Nat → Nat × Nat × Nat × Bool × Nat

/-- Whether the vendor firmware makes one more attempt where the spec leaves it free, by the count of free values; log 8. -/
opaque freeBool : Nat → Bool

end Sys2Proof.Config
end

