-- ==== Sys2Proof/Machine/Bits.lean ====
section
/-! DEFINITION. Bit fields, signed readings, little-endian bytes and the two operations of sparse storage. -/

namespace Sys2Proof.Machine

/-- Field of `n` bits of `w` from bit `lo` upwards (R6). -/
def fld (w lo n : Nat) : Nat := (w >>> lo) % 2 ^ n

/-- Bit `i` of `w`. -/
def tbit (w i : Nat) : Bool := (w >>> i) % 2 = 1

/-- 1 for true, 0 for false. -/
def b2n (b : Bool) : Nat := if b then 1 else 0

/-- The two's-complement reading of the low `n` bits of `w`. -/
def sgn (n w : Nat) : Int :=
  let v := w % 2 ^ n
  if v < 2 ^ (n - 1) then (v : Int) else (v : Int) - (2 ^ n : Nat)

/-- The `n`-bit two's-complement code of an integer. -/
def enc (n : Nat) (i : Int) : Nat := (i % ((2 ^ n : Nat) : Int)).toNat

/-- An integer brought into `lo` to `hi`. -/
def clampI (lo hi i : Int) : Int := if i < lo then lo else if hi < i then hi else i

/-- Little-endian value of a list of bytes (R25). -/
def leVal : List Byte → Nat
  | [] => 0
  | b :: r => b.toNat + 256 * leVal r

/-- `n` little-endian bytes of a value. -/
def leBytes : Nat → Nat → List Byte
  | 0, _ => []
  | n + 1, v => BitVec.ofNat 8 v :: leBytes n (v / 256)

/-- The `n` bytes from offset `off`. -/
def slice (bs : List Byte) (off n : Nat) : List Byte := (bs.drop off).take n

/-- Little-endian field of `n` bytes at offset `off`; bytes beyond the end read as absent. -/
def le (bs : List Byte) (off n : Nat) : Nat := leVal (slice bs off n)

/-- Whether every byte is zero. -/
def allZero (bs : List Byte) : Bool := bs.all (· == 0)

/-- Whether the `n` bytes from `off` are zero (reserved bytes, R25). -/
def zeroAt (bs : List Byte) (off n : Nat) : Bool := allZero (slice bs off n)

/-- A 32-bit register value. -/
def w32 (n : Nat) : Word := BitVec.ofNat 32 n

/-- The entry of a key, or the default. -/
def look {α : Type} (d : α) : Sparse α → Nat → α
  | [], _ => d
  | (k', v) :: r, k => if k' = k then v else look d r k

/-- Storage with key `k` holding `v`; a default value removes the entry, so equal contents are equal lists. -/
def put {α : Type} [DecidableEq α] (d : α) (k : Nat) (v : α) : Sparse α → Sparse α
  | [] => if v = d then [] else [(k, v)]
  | (k', v') :: r =>
    if k < k' then (if v = d then (k', v') :: r else (k, v) :: (k', v') :: r)
    else if k = k' then (if v = d then r else (k, v) :: r)
    else (k', v') :: put d k v r

/-- Storage with the entry of key `k` changed by `f`. -/
def upd {α : Type} [DecidableEq α] (d : α) (k : Nat) (f : α → α) (m : Sparse α) : Sparse α :=
  put d k (f (look d m k)) m

/-- The canonical form of storage: keys strictly rising from `lo`, no default entry. -/
def wfFrom {α : Type} [DecidableEq α] (d : α) : Nat → Sparse α → Bool
  | _, [] => true
  | lo, (k, v) :: r => decide (lo ≤ k) && decide (v ≠ d) && wfFrom d (k + 1) r

/-- The canonical form of storage. -/
def wf {α : Type} [DecidableEq α] (d : α) (m : Sparse α) : Bool := wfFrom d 0 m

/-- Consecutive bytes written from address `a` upwards. -/
def putBytes (a : Nat) : List Byte → Sparse Byte → Sparse Byte
  | [], m => m
  | b :: r, m => putBytes (a + 1) r (put 0 a b m)

/-- `n` consecutive bytes from address `a`. -/
def getBytes (m : Sparse Byte) (a : Nat) : Nat → List Byte
  | 0 => []
  | n + 1 => look 0 m a :: getBytes m (a + 1) n

end Sys2Proof.Machine
end

