-- ==== Sys2Proof/Machine/Float.lean ====
section
/-! DEFINITION. IEEE 754 binary32 and binary64 patterns of non-negative values, exact before one rounding to nearest,
ties to even, and the L16 code of a power (R10, R235). -/

namespace Sys2Proof.Machine

/-- A binary format: exponent bits and fraction bits. -/
structure FloatFormat where
  eb : Nat
  mb : Nat
  deriving DecidableEq, Repr

/-- binary32. -/
def f32 : FloatFormat := { eb := 8, mb := 23 }

/-- binary64. -/
def f64 : FloatFormat := { eb := 11, mb := 52 }

/-- Exponent bias. -/
def FloatFormat.bias (f : FloatFormat) : Int := 2 ^ (f.eb - 1) - 1

/-- The pattern of infinity. -/
def FloatFormat.inf (f : FloatFormat) : Nat := (2 ^ f.eb - 1) * 2 ^ f.mb

/-- `m` divided by 2^`k`, rounded to nearest with ties to even. -/
def roundShift (m k : Nat) : Nat :=
  let q := m / 2 ^ k
  let r := m % 2 ^ k
  if 2 ^ k < 2 * r ∨ (2 * r = 2 ^ k ∧ q % 2 = 1) then q + 1 else q

/-- The pattern of m × 2^e rounded to the format; infinity above the largest finite value. -/
def FloatFormat.pack (f : FloatFormat) (m : Nat) (e : Int) : Nat :=
  if m = 0 then 0
  else
    let q := max ((m.log2 : Int) + e - f.mb) (1 - f.bias - f.mb)
    let t := if e < q then roundShift m (q - e).toNat else m * 2 ^ (e - q).toNat
    let n := if t = 2 ^ (f.mb + 1) then 2 ^ f.mb else t
    let q := if t = 2 ^ (f.mb + 1) then q + 1 else q
    if n < 2 ^ f.mb then n
    else
      let be := q + f.bias + f.mb
      if (2 ^ f.eb : Int) - 1 ≤ be then f.inf else be.toNat * 2 ^ f.mb + (n - 2 ^ f.mb)

/-- The exact value m × 2^e of a finite pattern without its sign. -/
def FloatFormat.unpack (f : FloatFormat) (w : Nat) : Nat × Int :=
  let be := fld w f.mb f.eb
  let fr := w % 2 ^ f.mb
  if be = 0 then (fr, 1 - f.bias - f.mb) else (fr + 2 ^ f.mb, (be : Int) - f.bias - f.mb)

/-- Whether a pattern is infinite or not a number. -/
def FloatFormat.special (f : FloatFormat) (w : Nat) : Bool := fld w f.mb f.eb == 2 ^ f.eb - 1

/-- Whether a pattern carries the sign bit. -/
def FloatFormat.negative (f : FloatFormat) (w : Nat) : Bool := tbit w (f.mb + f.eb)

/-- The sum of two finite non-negative patterns, rounded once. -/
def FloatFormat.add (f : FloatFormat) (a b : Nat) : Nat :=
  if f.special a then a else if f.special b then b
  else
    let x := f.unpack a
    let y := f.unpack b
    let e := min x.2 y.2
    f.pack (x.1 * 2 ^ (x.2 - e).toNat + y.1 * 2 ^ (y.2 - e).toNat) e

/-- The product of two finite non-negative patterns, rounded once. -/
def FloatFormat.mul (f : FloatFormat) (a b : Nat) : Nat :=
  if f.special a then a else if f.special b then b
  else f.pack ((f.unpack a).1 * (f.unpack b).1) ((f.unpack a).2 + (f.unpack b).2)

/-- A finite non-negative pattern divided by a positive count, rounded once: the quotient is taken with enough bits
and a sticky bit, so that one rounding is exact. -/
def FloatFormat.divNat (f : FloatFormat) (a n : Nat) : Nat :=
  if f.special a then a
  else
    let x := f.unpack a
    let m := x.1 * 2 ^ 128
    let q := m / n
    let sticky := if m % n = 0 then 0 else 1
    f.pack (2 * q + sticky) (x.2 - 129)

/-- A pattern of one format rounded to another. -/
def convert (f g : FloatFormat) (w : Nat) : Nat :=
  if f.special w then g.inf else g.pack (f.unpack w).1 (f.unpack w).2

/-- Whether m × 2^e is at least 10 to the power `t` / 2000. -/
def atLeastTen (m : Nat) (e t : Int) : Bool :=
  let pm := m ^ 2000
  let pe := 2000 * e
  let l := if 0 ≤ pe then pm * 2 ^ pe.toNat else pm
  let r := if 0 ≤ pe then 1 else 2 ^ (-pe).toNat
  if 0 ≤ t then decide (r * 10 ^ t.toNat ≤ l) else decide (r ≤ l * 10 ^ (-t).toNat)

/-- The largest code at most `hi` whose lower rounding bound the power reaches, by halving from step 2^k. -/
def l16Search (m : Nat) (e : Int) : Nat → Nat → Nat
  | 0, c => c
  | k + 1, c =>
    let c' := c + 2 ^ k
    if atLeastTen m e (2 * (c' : Int) - 80001) then l16Search m e k c' else l16Search m e k c

/-- The exactly rounded L16 code of a positive power m × 2^e, clamped to 0 to 65,535 (R10, R235). -/
def l16Exact (m : Nat) (e : Int) : Nat := l16Search m e 16 0

/-- The L16 code of a binary32 pattern, within one code of the exact one, and whether FDOM is set (R235). -/
def l16Code (w : Nat) : Nat × Bool :=
  if f32.negative w ∨ f32.special w then (0, !(w == 2 ^ 31))
  else if fld w 23 8 = 0 then (0, false)
  else
    let c := (l16Exact (f32.unpack w).1 (f32.unpack w).2 : Int) + clampI (-1) 1 (Config.l16Error w)
    ((clampI 0 65535 c).toNat, false)

end Sys2Proof.Machine
end

