-- ==== Sys2Proof/Machine/Image.lean ====
section
/-! DEFINITION. The parsed contents of an image: declarations, policy, live parameters, slot table, sleeves, rings. -/

namespace Sys2Proof.Machine

/-- A bound record (R33). -/
structure Bound where
  /-- CLASS -/
  cls : Nat
  /-- INDEX -/
  index : Nat
  /-- BOUND in CK_ENG cycles -/
  bound : Nat
  deriving DecidableEq, Repr, Inhabited

/-- DECLARATIONS (R31). -/
structure Decls where
  seamPeriod : Nat := 0
  scheduleCycles : Nat := 0
  powerMw : Nat := 0
  slotTableLen : Nat := 0
  staticSlots : Nat := 0
  refreshSlots : Nat := 0
  openSlots : Nat := 0
  sleevesUsed : Nat := 0
  groupsUsed : Nat := 0
  contextsUsed : Nat := 0
  liveCount : Nat := 0
  ringsUsed : Nat := 0
  contextRate : Nat := 0
  boundCount : Nat := 0
  bounds : List Bound := []
  deriving DecidableEq, Repr, Inhabited

/-- POLICY (R35). -/
structure Policy where
  refLock : Nat := 0
  refOut : Nat := 0
  trim : Nat := 0
  avs : Nat := 0
  faultOnLog : Nat := 0
  faultOnWarn : Nat := 0
  armAtStart : Nat := 0
  deriving DecidableEq, Repr, Inhabited

/-- A LIVE_PARAMS record (R36). -/
structure LiveRec where
  kind : Nat := 0
  target : Nat := 0
  min : Nat := 0
  max : Nat := 0
  initial : Nat := 0
  deriving DecidableEq, Repr, Inhabited

/-- What a slot of the slot table carries (R158). -/
inductive SlotKind where
  | openSlot
  | static (stream : Nat)
  | refresh
  deriving DecidableEq, Repr, Inhabited

/-- A static stream (R160). -/
structure StreamDecl where
  unit : Nat := 0
  dir : Nat := 0
  sleeve : Nat := 0
  index : Nat := 0
  bytesPerPass : Nat := 0
  lag : Nat := 0
  deriving DecidableEq, Repr, Inhabited

/-- SLOT_TABLE (R158). -/
structure SlotTable where
  weights : List Nat := []
  slots : List SlotKind := []
  streams : List StreamDecl := []
  deriving DecidableEq, Repr, Inhabited

/-- A reader of a sleeve (R170). -/
structure ReaderDecl where
  unit : Nat := 0
  guarded : Bool := false
  index : Nat := 0
  deriving DecidableEq, Repr, Inhabited

/-- Kind of a sleeve (R170). -/
inductive SleeveKind where
  | continuous | capture | stream
  deriving DecidableEq, Repr, Inhabited

/-- Format of a sleeve (R170). -/
inductive SleeveFormat where
  | result | p12 | u16 | flag
  deriving DecidableEq, Repr, Inhabited

/-- A sleeve as declared (R170). -/
structure SleeveDecl where
  kind : SleeveKind := .continuous
  format : SleeveFormat := .result
  base : Nat := 0
  maxGranules : Nat := 0
  granules : Nat := 0
  companion : Nat := 0xFFFF
  writerUnit : Nat := 0
  writerIndex : Nat := 0
  hostRead : Bool := false
  readers : List ReaderDecl := []
  deriving DecidableEq, Repr, Inhabited

/-- Kind of a ring (R387). -/
inductive RingKind where
  | stream | notice | xfer
  deriving DecidableEq, Repr, Inhabited

/-- A ring as declared (R388). -/
structure RingDecl where
  ring : Nat := 0
  kind : RingKind := .stream
  sleeve : Nat := 0
  flushUs : Nat := 0
  deriving DecidableEq, Repr, Inhabited

/-- An entry of a stream schedule (R208). -/
structure SchedEntry where
  stream : Nat := 0
  addr : Nat := 0
  bytes : Nat := 0
  step : Int := 0
  deriving DecidableEq, Repr, Inhabited

/-- An ENGINE_CODE record with the code, data and schedule it names (R208). -/
structure EngineDecl where
  engine : Nat := 0
  code : List Byte := []
  data : List Byte := []
  dataAddr : Nat := 0
  paramBase : Nat := 0
  schedule : List SchedEntry := []
  deriving DecidableEq, Repr, Inhabited

/-- An XCH_ROUTES record (R211). -/
structure RouteDecl where
  src : Nat := 0
  dst : Nat := 0
  buffer : Nat := 0
  hops : Nat := 0
  intervalLog2 : Nat := 0
  phase : Nat := 0
  path : Nat := 0
  deriving DecidableEq, Repr, Inhabited

/-- A mask-pool entry (R246). -/
structure MaskEntry where
  bin : Nat := 0
  l16 : Nat := 0
  p32 : Nat := 0
  deriving DecidableEq, Repr, Inhabited

/-- A SPUR_MASK stream record with its mask (R246). -/
structure FrameDecl where
  channeliser : Bool := false
  channel : Nat := 0
  src : Nat := 0
  dst : Nat := 0
  sizeLog2 : Nat := 0
  format : Nat := 0
  settle : Nat := 0
  hop : Nat := 0
  first : Nat := 0
  binFirst : Nat := 0
  binCount : Nat := 0
  mask : List MaskEntry := []
  gdFine : Nat := 0
  maskAddr : Nat := 0
  recordBytes : Nat := 0
  deriving DecidableEq, Repr, Inhabited

/-- A trace detector (R266, KIND 0). -/
structure TraceDecl where
  detector : Nat := 0
  stream : Nat := 0
  dst : Nat := 0
  mode : Nat := 0
  decim : Nat := 1
  pointFirst : Nat := 0
  pointCount : Nat := 0
  interval : Nat := 1
  firstFrame : Nat := 0
  recordBytes : Nat := 0
  deriving DecidableEq, Repr, Inhabited

/-- A density plane (R266, KIND 1). -/
structure PlaneDecl where
  plane : Nat := 0
  stream : Nat := 0
  dst : Nat := 0
  peak : Bool := false
  decim : Nat := 1
  colFirst : Nat := 0
  columns : Nat := 0
  rows : Nat := 0
  decay : Nat := 0
  rowBottom : Nat := 0
  rowStep : Nat := 1
  exposure : Nat := 1
  firstFrame : Nat := 0
  recordBytes : Nat := 0
  deriving DecidableEq, Repr, Inhabited

/-- A density condition (R266, KIND 2). -/
structure CondDecl where
  condition : Nat := 0
  plane : Nat := 0
  atMost : Bool := false
  colLo : Nat := 0
  colHi : Nat := 0
  rowLo : Nat := 0
  rowHi : Nat := 0
  threshold : Nat := 0
  minHits : Nat := 1
  deriving DecidableEq, Repr, Inhabited

/-- A context (R282), its coefficient banks taken from the pool as (real, imaginary). -/
structure ContextDecl where
  index : Nat := 0
  fromSleeve : Bool := false
  fast : Bool := false
  src : Nat := 0
  dst : Nat := 0
  stride : Nat := 1
  offset : Nat := 0
  inputDecim : Nat := 16
  origin : Int := 0
  originFine : Nat := 0
  taps : Nat := 0
  xfLen : Nat := 16
  lens : List Nat := []
  decims : List Nat := []
  bankA : List (Int × Int) := []
  bankB : List (Int × Int) := []
  outMode : Nat := 0
  recordFill : Nat := 1
  toleranceUs : Nat := 0
  detInterval : Nat := 1
  detScale : Nat := 0
  evtDetector : Bool := false
  gain : Nat := 0
  phase : Nat := 0
  tw : Nat := 0
  thrHigh : Nat := 0
  thrLow : Nat := 0
  bank : Nat := 0
  deriving DecidableEq, Repr, Inhabited

/-- Class of a trigger condition (R307). -/
inductive CondClass where
  | tdLevel | tdEdge | tdWidth | mask | density | context | event | overrange
  deriving DecidableEq, Repr, Inhabited

/-- A trigger condition (R322, KIND 0). -/
structure TrigCond where
  cond : Nat := 0
  cls : CondClass := .tdLevel
  source : Nat := 0
  polarity : Nat := 0
  outside : Bool := false
  level : Int := 0
  hyst : Nat := 0
  wmin : Nat := 1
  wmax : Nat := 1
  stream : Nat := 0
  spurExclude : Bool := false
  minBins : Nat := 1
  qual : Nat := 1
  deriving DecidableEq, Repr, Inhabited

/-- Where a group's captures go (R322). -/
inductive CapDest where
  | none | store | drive
  deriving DecidableEq, Repr, Inhabited

/-- A trigger group (R322, KIND 1). -/
structure GroupDecl where
  group : Nat := 0
  mode : Nat := 0
  auto : Bool := false
  provisional : Bool := false
  armedAtStart : Bool := false
  outMask : Nat := 0
  dest : CapDest := .none
  recordSleeve : Option Nat := none
  holdoffEvents : Nat := 0
  window : Nat := 0
  holdoffSamples : Nat := 0
  cuff : Nat := 0
  /-- none is an unbounded hem -/
  hem : Option Nat := some 1
  driveStream : Option Nat := none
  condsA : List Nat := []
  condsB : List Nat := []
  sleeves : List Nat := []
  /-- the place in SLEEVE, 0 to 7, of each captured sleeve; one not listed stands at its own place -/
  places : List Nat := []
  rings : List Nat := []
  deriving DecidableEq, Repr, Inhabited

/-- A mask (R314), upper and lower entry of each bin. -/
structure MaskDecl where
  group : Nat := 0
  limits : List (Nat × Nat) := []
  deriving DecidableEq, Repr, Inhabited

/-- A recording stream (R378). -/
structure RecStreamDecl where
  capture : Bool := false
  sleeves : List Nat := []
  deriving DecidableEq, Repr, Inhabited

/-- DRIVE_POLICY (R378). -/
structure DrivePolicy where
  /-- PORT_MODE of each port: bits [1:0] 0 off, 1 x4, 2 two x2; bits [3:2] its maximum speed, 0 64, 1 32, 2 16 GT/s -/
  modes : List Nat := []
  members : Nat := 0
  parity : Nat := 0
  volumeMode : Nat := 0
  memberMap : List Nat := []
  streams : List RecStreamDecl := []
  deriving DecidableEq, Repr, Inhabited

/-- An accepted image, parsed (R30). -/
structure Image where
  /-- IMAGE_VERSION -/
  version : Nat := 0
  /-- FORMAT_MAJOR and FORMAT_MINOR -/
  major : Nat := 1
  minor : Nat := 0
  /-- image digest and firmware digest (R43) -/
  digest : Digest := 0
  fwDigest : Digest := 0
  /-- block 1 carries the vendor key -/
  vendor : Bool := false
  decls : Decls := {}
  policy : Policy := {}
  live : List LiveRec := []
  slots : SlotTable := {}
  sleeves : List SleeveDecl := []
  rings : List RingDecl := []
  engines : List EngineDecl := []
  routes : List RouteDecl := []
  frames : List FrameDecl := []
  traces : List TraceDecl := []
  planes : List PlaneDecl := []
  denConds : List CondDecl := []
  contexts : List ContextDecl := []
  conds : List TrigCond := []
  groups : List GroupDecl := []
  masks : List MaskDecl := []
  drives : DrivePolicy := {}
  deriving DecidableEq, Repr, Inhabited

end Sys2Proof.Machine
end

