-- ==== Sys2Proof/Machine/StateDrive.lean ====
section
/-! DEFINITION. The state of the recording engine, the drives and the volume, and of the calibration core.
A field's default is its value at reset. -/

namespace Sys2Proof.Machine

/-- DSK_D_STATE[STATE] (15). -/
inductive DriveState where
  | absent | checking | accepted | member | failed | quarantined | rejected
  deriving DecidableEq, Repr, Inhabited

/-- What an NVMe command of the 4920 does (R356, R358, R364, R366, R371). -/
inductive NvmeOp where
  | identify (cns : Nat)                -- Identify: 1 the controller, 0 namespace 1 (R357)
  | setFeature (fid : Nat)              -- Set Features: 0x06, 0x07 or 0x0C (R356)
  | createCq (queue : Nat)              -- Create I/O completion queue
  | createSq (queue : Nat)              -- Create I/O submission queue
  | abort (queue id : Nat)              -- Abort of a command of a submission queue (R362)
  | labelRead (copy : Nat)              -- read of one label copy
  | unit (extent stripe part : Nat)     -- one part of a stripe unit of data or parity
  | header (extent stripe : Nat)        -- one copy of an extent header, in its header stripe
  | label (copy gen : Nat)              -- one label copy
  | flush (extent : Nat)                -- Flush before an extent becomes FINAL, 0 for the close
  deriving DecidableEq, Repr, Inhabited

/-- The registers of a drive's controller that the 4920 writes (R356). -/
inductive DriveReg where
  | aqa | asq | acq | cc
  | sqTail (queue : Nat)                -- submission doorbell
  | cqHead (queue : Nat)                -- completion doorbell
  | msixAddr (vector : Nat)             -- message address of a vector
  | msixData (vector : Nat)             -- message data of a vector
  deriving DecidableEq, Repr, Inhabited

/-- An NVMe command outstanding (R361, R362). -/
structure NvmeCmd where
  /-- command identifier; 16; 15 R359; none outstanding -/
  id : Nat
  /-- what it does; -; 15 R358; none outstanding -/
  op : NvmeOp
  /-- whether it is the second attempt; 1; 15 R362; none outstanding -/
  retried : Bool
  /-- queue it was submitted to, 0 the admin queue; 5; 15 R361; none outstanding -/
  queue : Nat := 0
  /-- place of its data pages in the bounce window; 9; 15 R358; none outstanding -/
  slot : Nat := 0
  /-- whether Abort has been sent for it; 1; 15 R362; none outstanding -/
  aborted : Bool := false
  deriving DecidableEq, Repr, Inhabited

/-- A submission queue and its completion queue, 32 entries each (R361). -/
structure NvmeQueue where
  /-- submission queue tail; 5; 15 R361; 0 -/
  tail : Nat := 0
  /-- submission queue head as last reported; 5; 15 R359; 0 -/
  head : Nat := 0
  /-- completion queue head; 5; 15 R359; 0 -/
  cqHead : Nat := 0
  /-- phase tag of the next completion entry; 1; 15 R359; 1 -/
  phase : Bool := true
  deriving DecidableEq, Repr, Inhabited

/-- A drive position (15). -/
structure Drive where
  /-- STATE; 3; 15 DSK_D_STATE; ABSENT (0) -/
  state : DriveState := .absent
  /-- MEMBER, none when not a member; 5; 15 DSK_D_STATE; none, shown as 31 (the spec's reset column reads 0) -/
  member : Option Nat := none
  /-- REASON; 8; 15 DSK_D_STATE; 0 -/
  reason : Nat := 0
  /-- link speed code; 2; 15 DSK_D_LINK; 0 -/
  speed : Nat := 0
  /-- link width; 3; 15 DSK_D_LINK; 0 -/
  width : Nat := 0
  /-- DSK_D_BADADDR; 64; 15 R360; 0 -/
  badAddr : Nat := 0
  /-- MDTS as identified; 8; 15 R357; 0 -/
  mdts : Nat := 0
  /-- blocks of namespace 1 as identified; 64; 15 R357; 0 -/
  blocks : Nat := 0
  /-- next command identifier; 16; 15 R359; DESIGN CHOICE 0 (log 6) -/
  nextId : Nat := 0
  /-- commands outstanding, oldest first; at most 512; 15 R361; empty -/
  cmds : List NvmeCmd := []
  /-- operations that wait for room in a queue, and whether each is a second attempt; -; 15 R361; empty -/
  waiting : List (NvmeOp × Bool) := []
  /-- operations of the drive's setup still to submit, one after another; -; 15 R361; empty -/
  setup : List NvmeOp := []
  /-- queue pairs the drive has, the admin queue included; 5; 15 R361; 0 -/
  queues : Nat := 0
  /-- the queues; -; 15 R361; empty -/
  qs : Sparse NvmeQueue := []
  /-- submission queue entries as written, by 32 x queue + place; 64 bytes each; 15 R358; empty -/
  entries : Sparse (List Byte) := []
  deriving DecidableEq, Repr, Inhabited

/-- DSK_STATE[VOLUME] (15). -/
inductive VolumeState where
  | none | bringup | opened | degraded | stopped | closed
  deriving DecidableEq, Repr, Inhabited

/-- How far an extent has come (R371, R372). -/
inductive ExtentPhase where
  | opened      -- takes stripes
  | draining    -- its data and parity commands complete
  | flushing    -- Flush on every live member
  | rewriting   -- its header is being rewritten
  | held        -- closed with PROVISIONAL alone
  deriving DecidableEq, Repr, Inhabited

/-- An extent of this session (R366, R367). -/
structure Extent where
  /-- EXTENT_SEQ; 64; 15 R367; none before an extent -/
  seq : Nat
  /-- STREAM; 16; 15 R367; none before an extent -/
  stream : Nat
  /-- SLEEVE; 16; 15 R367; none before an extent -/
  sleeve : Nat
  /-- STRIPE_START; 64; 15 R367; none before an extent -/
  start : Nat
  /-- stripes reserved, header stripe included; 9; 15 R369; none before an extent -/
  reserve : Nat
  /-- data stripes issued; 8; 15 R366; none before an extent -/
  stripes : Nat
  /-- payload bytes so far; -; 15 R366; none before an extent -/
  payload : List Byte
  /-- WC_START; 64; 15 R367; none before an extent -/
  wc : Nat
  /-- START_TIME and START_EPOCH; 80; 15 R367; none before an extent -/
  time : Nat
  /-- CAPTURE_NO; 64; 15 R367; none before an extent -/
  capture : Nat
  /-- CAL_GEN; 32; 15 R367; none before an extent -/
  calGen : Nat
  /-- FLAGS; 16; 15 R367; none before an extent -/
  flags : Nat
  /-- HEADER_GEN; 32; 15 R367; none before an extent -/
  gen : Nat
  /-- data stripes that carried a UE mark, UE_STRIPES being their number; 32; 15 R377; none before an extent -/
  ueStripes : List Nat
  /-- the header as last written; 4,096 bytes; 15 R367; none before an extent -/
  image : List Byte
  /-- CHAIN_PREV_SEQ, DATA_DIGEST and CHAIN_DIGEST of a FINAL header; 64 and 256; 15 R367; none before FINAL -/
  chain : Option (Nat × Digest × Digest)
  /-- phase; -; 15 R371; none before an extent -/
  phase : ExtentPhase
  /-- whether FINAL follows the drain; 1; 15 R371; none before an extent -/
  wantFinal : Bool
  deriving DecidableEq, Repr, Inhabited

/-- A stripe with units incomplete (R374). -/
structure StripeRun where
  /-- extent; 64; 15 R366; none in flight -/
  extent : Nat
  /-- stripe number; 64; 15 R366; none in flight -/
  stripe : Nat
  /-- its place in the order of issue; -; 15 R374; none in flight -/
  order : Nat
  /-- sleeve; 11; 15 R370; none in flight -/
  sleeve : Nat
  /-- write count of the stripe's first byte, and its end; 64; 15 R370; none in flight -/
  from_ : Nat
  upTo : Nat
  /-- write counts and lengths of its bytes that drives have read or are reading; 64 each; 15 R374; empty -/
  asked : List (Nat × Nat) := []
  deriving DecidableEq, Repr, Inhabited

/-- A capture handed to the recording engine (R332, R370). -/
structure CapJob where
  /-- group; 4; 15 R370; none before a capture -/
  group : Nat
  /-- recording stream; 5; 13 R322; none before a capture -/
  stream : Nat
  /-- CAPTURE_NO; 64; 15 R367; none before a capture -/
  number : Nat
  /-- provisional; 1; 15 R372; none before a capture -/
  provisional : Bool
  /-- disqualified; 1; 15 R372; none before a capture -/
  cancelled : Bool
  /-- closed: the ends of its regions are known; 1; 15 R370; none before a capture -/
  closed : Bool
  /-- sleeves with the region's start and its end, none while open; 64 each; 15 R370; none before a capture -/
  regions : List (Nat × Nat × Option Nat)
  deriving DecidableEq, Repr, Inhabited

/-- A label write in progress (R364). -/
structure LabelWrite where
  /-- copy being written; 1; 15 R364; none in progress -/
  copy : Nat
  /-- HEAD and LAST_SEQ as this write records them; 64; 15 R373; none in progress -/
  head : Nat
  lastSeq : Nat
  /-- STATE CLOSED; 1; 15 R364; none in progress -/
  closed : Bool
  /-- the label's bytes 0x000 to 0xFFB, MEMBER apart; 4,092 bytes; 15 R364; none in progress -/
  content : List Byte
  /-- the label write that must follow, none or its STATE CLOSED; 2; 15 R373; none in progress -/
  again : Option Bool
  deriving DecidableEq, Repr, Inhabited

/-- The volume (15 R363 to R376). -/
structure Volume where
  /-- VOLUME; 3; 15 DSK_STATE; NONE (0) -/
  state : VolumeState := .none
  /-- PARITY c; 2; 15 DSK_STATE; 0 -/
  parity : Nat := 0
  /-- N_m; 5; 15 DSK_STATE; 0 -/
  members : Nat := 0
  /-- drive of each member, none when there is none; -; 15 R368; empty -/
  map : List (Option Nat) := []
  /-- FAILED; 16; 15 R364; 0 -/
  failed : Nat := 0
  /-- LABEL_GEN; 32; 15 R364; 0 -/
  labelGen : Nat := 0
  /-- VOLUME_ID; 128; 15 R364; 0 -/
  volumeId : Nat := 0
  /-- DATA_STRIPES; 64; 15 R363; 0 -/
  dataStripes : Nat := 0
  /-- HEAD; 64; 15 R364; 0 -/
  head : Nat := 0
  /-- LAST_SEQ; 64; 15 R364; 0 -/
  lastSeq : Nat := 0
  /-- LAST_FINAL_SEQ, none when none; 64; 15 R364; none -/
  lastFinal : Option Nat := none
  /-- CHAIN_SEED; 256; 15 R367; 0 -/
  chainSeed : Digest := 0
  /-- LAST_CHAIN; 256; 15 R364; 0 -/
  lastChain : Digest := 0
  /-- UNCLEAN_OPENS; 16; 15 R368; 0 -/
  unclean : Nat := 0
  /-- VOLUME_MISMATCH; 1; 15 R368; false -/
  mismatch : Bool := false
  /-- VOLUME_FULL; 1; 15 R369; false -/
  full : Bool := false
  /-- allocation point; 64; 15 R369; 0 -/
  alloc : Nat := 0
  /-- next EXTENT_SEQ; 64; 15 R369; 1 -/
  nextSeq : Nat := 1
  /-- runs freed in this session, start and length, ascending; -; 15 R369; empty -/
  free : List (Nat × Nat) := []
  /-- extents of this session not yet done, oldest first; -; 15 R370; empty -/
  extents : List Extent := []
  /-- stripes with units incomplete, oldest first; -; 15 R374; empty -/
  runs : List StripeRun := []
  /-- stripes issued since the volume opened; -; 15 R374; 0 -/
  issued : Nat := 0
  /-- stripes issued up to the newest one that any member has completed; -; 15 R374; 0 -/
  newest : Nat := 0
  /-- captures handed over; -; 15 R370; empty -/
  captures : List CapJob := []
  /-- next write count to record, by sleeve; 64; 15 R370; 0 -/
  nextWc : Sparse Nat := []
  /-- label write in progress; -; 15 R364; none -/
  labelWrite : Option LabelWrite := .none
  /-- whether an extent waits for the label write that moves a reservation; 1; 15 R373; false -/
  reserveWait : Bool := false
  /-- close requested and not complete; 1; 15 R376; false -/
  closing : Bool := false
  deriving DecidableEq, Repr, Inhabited

/-- The recording engine (15). -/
structure Disk where
  /-- drives by position; -; 15 R353; absent -/
  drives : Sparse Drive := []
  /-- the volume; -; 15 R363; none -/
  vol : Volume := {}
  /-- DSK_DSEL[DRIVE]; 4; 15 DSK block; 0 -/
  dsel : Nat := 0
  deriving DecidableEq, Repr, Inhabited

/-- A trim entry (R407). -/
structure Trim where
  /-- OFFSET; 12 signed; 06 R141; 0 -/
  offset : Int := 0
  /-- GAIN; 12 signed; 06 R141; 0 -/
  gain : Int := 0
  /-- SKEW; 10 signed; 06 R141; 0 -/
  skew : Int := 0
  deriving DecidableEq, Repr, Inhabited

/-- The steps of a calibration turn (CAL_STATE[STEP]). -/
inductive CalStep where
  | none | connect | dc | comb | skew | compute | ret
  deriving DecidableEq, Repr, Inhabited

/-- A calibration run (R410). -/
structure CalRun where
  /-- CHANNEL; 2; 17 CAL_STATE; none when idle -/
  channel : Nat
  /-- STEP; 3; 17 CAL_STATE; none when idle -/
  step : CalStep
  /-- RANGE; 2; 17 CAL_STATE; none when idle -/
  range : Nat
  /-- PENDING, bit per channel; 4; 17 CAL_STATE; none when idle -/
  waiting : Nat
  /-- STATE is ABORTING; 1; 17 CAL_STATE; none when idle -/
  aborting : Bool
  /-- whether the relay waits for a seam to begin its transit; 1; 17 R410; none when idle -/
  awaitSeam : Bool
  /-- estimates measured, by trim index; -; 17 R410; none when idle -/
  measured : Sparse Trim
  /-- integer delay measured; 8 signed; 17 R410; none when idle -/
  delay : Int
  /-- SLICE_RESID, FLATNESS and SUMMARY as measured, record offset and bytes; -; 17 R414; none when idle -/
  resid : List (Nat × List Byte)
  /-- converter chiplet temperatures at the start of the turn, 0.01 degrees; 16 each; 17 R414; none when idle -/
  temps : List Int
  deriving DecidableEq, Repr, Inhabited

/-- New trims that wait for a seam (R143, R410, R419). -/
structure TrimUpdate where
  /-- KIND of the generation: 1 ON_COMMAND, 2 TRACKER; 2; 17 R414; none waiting -/
  kind : Nat
  /-- channel; 2; 17 R413; none waiting -/
  channel : Nat
  /-- entries by trim index; -; 17 R407; none waiting -/
  trims : List (Nat × Trim)
  /-- integer delay; 6; 17 R412; none waiting -/
  delay : Option Nat
  /-- LIMITED and TRACK_LIMITED; 2; 17 R412; none waiting -/
  limited : Bool
  trackLimited : Bool
  /-- residual fields of the record, offset and bytes; -; 17 R414; none waiting -/
  resid : List (Nat × List Byte)
  /-- TEMP; 16 each; 17 R414; none waiting -/
  temps : List Int
  deriving DecidableEq, Repr, Inhabited

/-- Drift of one slice (R417). -/
structure Drift where
  /-- CAL_T_OFS[DRIFT] and [VALID]; 17; 17 CAL block; 0 -/
  ofs : Int × Bool := (0, false)
  /-- CAL_T_GAIN; 17; 17 CAL block; 0 -/
  gain : Int × Bool := (0, false)
  /-- CAL_T_SKEW; 17; 17 CAL block; 0 -/
  skew : Int × Bool := (0, false)
  deriving DecidableEq, Repr, Inhabited

/-- Calibration, trims and the tracker (17). -/
structure Cal where
  /-- trims in force by index e of R407; 34 each; 17 R407; those of the factory block, held as the difference from it: empty -/
  trims : Sparse (Option Trim) := []
  /-- integer delays in force by channel; 6; 06 CONV_DELAY; 0 -/
  delays : Sparse Nat := []
  /-- anchor set by index; 34 each; 17 R419; the factory block's: empty -/
  anchor : Sparse (Option Trim) := []
  /-- anchor integer delays by channel; 6; 17 R414; 0 -/
  anchorDelays : Sparse Nat := []
  /-- whether a function start has applied a set since power-up; 1; 06 CONV block; false -/
  applied : Bool := false
  /-- CAL_GEN; 32; 17 R413; 0 -/
  gen : Nat := 0
  /-- CAL_ANCHOR; 32; 17 R419; 0 -/
  anchorGen : Nat := 0
  /-- generations in force since function start, newest first: sample count, generation; 80 and 32; 17 R413; empty -/
  history : List (Nat × Nat) := []
  /-- CAL_RECORD; 8,192 bytes; 17 R414; DESIGN CHOICE 0 before the first function start (log 7) -/
  record : List Byte := []
  /-- CAL_REC_DIGEST; 256; 17 CAL block; 0 -/
  digest : Digest := 0
  /-- ageing model held while LOCKED: A0, A1, T0; 32 each; 17 R420; none -/
  heldAge : Option (Int × Int × Nat) := none
  /-- the run in progress; -; 17 R410; none -/
  run : Option CalRun := none
  /-- updates that wait for a seam, oldest first; -; 17 R143; empty -/
  updates : List TrimUpdate := []
  /-- TRIM_POLICY in force; 1; 17 CAL_STATE; 0 -/
  policy : Nat := 0
  /-- CAL_COPY[IN_USE]; 2; 17 CAL block; 2 -/
  inUse : Nat := 2
  /-- CAL_COPY[VALID0]; 1; 17 CAL block; false -/
  valid0 : Bool := false
  /-- CAL_COPY[VALID1]; 1; 17 CAL block; false -/
  valid1 : Bool := false
  /-- drifts by 16 x channel + slice; 51; 17 R417; 0 -/
  drifts : Sparse Drift := []
  /-- sample count of the last application, by channel, plus one; 80; 17 R413, R419; none (0) -/
  lastApplied : Sparse Nat := []
  /-- temperatures at the start of each channel's tracker interval, 0.01 degrees; 4 x 4 x 16; 17 R414, R417; none -/
  trackTemps : Sparse (List Int) := []
  /-- CAL_TSEL; 6; 17 CAL block; 0 -/
  tsel : Nat := 0
  deriving DecidableEq, Repr, Inhabited

end Sys2Proof.Machine
end

