-- ==== Sys2Proof/Machine/StateEngine.lean ====
section
/-! DEFINITION. The state of the engine array: registers, issue, local memory, results in flight, exchange words.
A field's default is its value at reset, which is also its value at function start (R209). -/

namespace Sys2Proof.Machine

/-- Where a result lands (R218, R219). -/
inductive Dest where
  | v (phys : Nat)      -- physical vector register
  | x (n : Nat)         -- scalar register
  | p (n : Nat)         -- predicate
  | bscale              -- BSCALE
  | rofs                -- ROFS
  | clearFlags          -- EF cleared
  | flags               -- flags alone
  deriving DecidableEq, Repr, Inhabited

/-- A result in flight (R218). -/
structure Landing where
  /-- CK_ENG cycle in which it lands; -; 09 R218; none in flight -/
  due : Nat
  /-- slot precedence: 0 LS0, 1 LS1, 2 ALU, 3 MAC, 4 CTL; 3; 09 R219; none in flight -/
  rank : Nat
  /-- destination; -; 09 R218; none in flight -/
  dest : Dest
  /-- value; 192; 09 R218; none in flight -/
  value : BitVec 192
  /-- flags set as it lands; 4; 09 R223; none in flight -/
  flags : Nat
  deriving DecidableEq, Repr, Inhabited

/-- A store to local memory not yet seen by loads (R222). -/
structure LocalStore where
  /-- CK_ENG cycle of issue; -; 09 R222; none in flight -/
  cycle : Nat
  /-- precedence: 0 landing, 1 seam port, 2 LS0, 3 LS1; 2; 08 R189; none in flight -/
  rank : Nat
  /-- local address; 19; 08 R189; none in flight -/
  addr : Nat
  /-- bytes; -; 08 R189; none in flight -/
  bytes : List Byte
  deriving DecidableEq, Repr, Inhabited

/-- An active hardware loop (R227, R229). -/
structure LoopRec where
  /-- counter; 2; 09 R227; none active -/
  lc : Nat
  /-- bundle index A of the LOOP; 14; 09 R227; none active -/
  start : Nat
  /-- end bundle E; 15; 09 R227; none active -/
  last : Nat
  /-- staged: K and pass index J; -; 09 R229; none active -/
  staged : Option (Nat × Nat)
  deriving DecidableEq, Repr, Inhabited

/-- A block read in a stream slot and not yet landed, or taken for a write slot (R201, R202). -/
structure StreamBlock where
  /-- stream record; 10; 08 R200; none in flight -/
  stream : Nat
  /-- CK_ENG cycle at which it lands or its slot begins; -; 08 R201, R202; none in flight -/
  due : Nat
  /-- local address; 19; 08 R200; none in flight -/
  addr : Nat
  /-- bytes; at most 4,096; 08 R200; none in flight -/
  bytes : List Byte
  /-- how the check codes of a read block came out; -; 07 R183, R184; clean -/
  ecc : Ecc := .clean
  deriving DecidableEq, Repr, Inhabited

/-- One engine (08, 09). -/
structure Engine where
  /-- whether it has an ENGINE_CODE record; 1; 08 R192; false -/
  programmed : Bool := false
  /-- CODE_BYTES; 19; 08 R190; 0 -/
  codeBytes : Nat := 0
  /-- PARAM_BASE; 19; 08 R208; 0 -/
  paramBase : Nat := 0
  /-- local memory by byte; 512 KiB; 08 R189; 0 -/
  mem : Sparse Byte := []
  /-- stores not yet seen by loads, in order of cycle and precedence; -; 09 R222; empty -/
  stores : List LocalStore := []
  /-- physical vector registers; 64 of 192; 08 R186; 0 -/
  v : Sparse (BitVec 192) := []
  /-- accumulator components by 8n + 2 lane + component; 32 of 56; 08 R186; 0 -/
  ac : Sparse (BitVec 56) := []
  /-- X0 to X15; 32 each; 08 R186; 0 -/
  x : Sparse Word := []
  /-- P1 to P7 by number; 1 each; 08 R186; false -/
  p : Sparse Bool := []
  /-- LC0 to LC3; 17 each; 08 R186; 0 -/
  lc : Sparse Nat := []
  /-- active loops, most recently started first; -; 09 R228; empty -/
  loops : List LoopRec := []
  /-- XR0 to XR15; 192 each; 08 R186; 0 -/
  xr : Sparse (BitVec 192) := []
  /-- ROFS; 5; 08 R188; 0 -/
  rofs : Nat := 0
  /-- EF; 4; 09 R223; 0 -/
  ef : Nat := 0
  /-- BEXP with the tracked stores of older cycles; 5; 09 R239; 0 -/
  bexp : Nat := 0
  /-- tracked stores of the last cycles, cycle and count; -; 09 R239; empty -/
  tracked : List (Nat × Nat) := []
  /-- BSCALE; 6 signed; 09 R240; 0 -/
  bscale : Int := 0
  /-- results in flight; -; 09 R218; empty -/
  landings : List Landing := []
  /-- bundle index that issues next; 14; 08 R190; 0 -/
  pc : Nat := 0
  /-- bundle issued in the last issue cycle whose successor is not settled; 14; 09 R227; none -/
  issued : Option Nat := none
  /-- taken branch: bundles still to issue before the target, and the target; 2 and 14; 09 R226; none -/
  branch : Option (Nat × Nat) := none
  /-- whether the bundle issued last stands in a delay slot; 1; 09 R226; false -/
  inDelay : Bool := false
  /-- PARKED at a seam mark; 1; 08 R196; false -/
  parked : Bool := false
  /-- STOPPED; 1; 08 R192; false -/
  stopped : Bool := false
  /-- sleeve position by stream record; 64 signed; 08 R200; 0 -/
  pos : Sparse Int := []
  /-- schedule entries used by stream record; -; 08 R200; 0 -/
  used : Sparse Nat := []
  /-- blocks read from sleeves that have not landed; -; 08 R201; empty -/
  incoming : List StreamBlock := []
  /-- blocks taken for write slots that have not begun; -; 08 R202; empty -/
  outgoing : List StreamBlock := []
  /-- control-core words waiting for the seam port, address and word, oldest first; -; 08 R198; empty -/
  portQueue : List (Nat × Word) := []
  /-- ENG_E_STATE[BEXP] as latched at the last seam; 5; 08 ENG block; 0 -/
  seamBexp : Nat := 0
  /-- ENG_E_PC as latched at the last seam; 19; 08 ENG block; 0 -/
  seamPc : Nat := 0
  deriving DecidableEq, Repr, Inhabited

/-- A word on the exchange network (R205). -/
structure XchWord where
  /-- CK_ENG cycle in which it is written; -; 08 R205; none in flight -/
  due : Nat
  /-- destination engine; 8; 08 R205; none in flight -/
  engine : Nat
  /-- receive buffer; 4; 08 R205; none in flight -/
  buffer : Nat
  /-- the word; 192; 08 R205; none in flight -/
  word : BitVec 192
  deriving DecidableEq, Repr, Inhabited

/-- The engine array and the seam sequencer (08). -/
structure EngineArray where
  /-- engines by number; -; 08 R186; unused -/
  engines : Sparse Engine := []
  /-- words on the exchange network; -; 08 R205; empty -/
  words : List XchWord := []
  /-- ENG_STATE[RUNNING]; 1; 08 ENG block; false -/
  running : Bool := false
  /-- ENG_STATE[IN_SEAM]; 1; 08 ENG block; false -/
  inSeam : Bool := false
  /-- whether a function start has set the start cycle; 1; 08 R193; false -/
  started : Bool := false
  /-- ENG_T0, count and epoch; 80; 08 R193; 0 -/
  t0 : Nat := 0
  /-- ENG_PERIOD; 21; 08 ENG block; 0 -/
  period : Nat := 0
  /-- ENG_SCHED; 21; 08 ENG block; 0 -/
  sched : Nat := 0
  /-- whether the present CK_ENG cycle's landings are done and its bundles have still to issue; 1; 08 R195; false -/
  issuing : Bool := false
  /-- ENG_ESEL[ENGINE]; 8; 08 ENG block; 0 -/
  esel : Nat := 0
  deriving DecidableEq, Repr, Inhabited

end Sys2Proof.Machine
end

