-- ==== Sys2Proof/Machine/StateStore.lean ====
section
/-! DEFINITION. The state of the converter, the store, the sleeves, the host link and the DMA rings.
A field's default is its value at reset. -/

namespace Sys2Proof.Machine

/-- A relay on its way (R136 to R138). -/
structure Transit where
  /-- commanded position; 1; 06 R136; none before a transit -/
  target : Nat
  /-- whether the transit has been commanded once more; 1; 06 R138; none before a transit -/
  retried : Bool
  deriving DecidableEq, Repr, Inhabited

/-- One channel of the converter (06). -/
structure Chan where
  /-- range in force; 2; 06 CONV_CHCFG; 2 -/
  range : Nat := 2
  /-- range value held while the lining relay is away; 2; 06 R137; none -/
  heldRange : Option Nat := none
  /-- range to which a calibration turn returns the channel, none outside a turn; 2; 06 R137; none -/
  turnRange : Option Nat := none
  /-- position sensed by the coupling relay: 0 DC, 1 AC, 2 neither; 2; 06 R136; DESIGN CHOICE 0 (log 4) -/
  coupling : Nat := 0
  /-- position sensed by the lining relay: 0 INn, 1 lining, 2 neither; 2; 06 R137; DESIGN CHOICE 0 (log 4) -/
  lining : Nat := 0
  /-- transit of the coupling relay; -; 06 R136; none -/
  couplingTransit : Option Transit := none
  /-- transit of the lining relay; -; 06 R137; none -/
  liningTransit : Option Transit := none
  /-- whether the lining relay is out for a calibration: from the transit to the lining to the end of the transit back; 1; 06 R137; false -/
  liningOut : Bool := false
  /-- coupling value held; 1; 06 R136; none -/
  heldCoupling : Option Nat := none
  /-- RELAY_FAULT; 1; 06 R138; false -/
  fault : Bool := false
  /-- samples from the start of the last range switch up to this count carry ADJ; 80; 06 R135; 0 -/
  rangeUntil : Nat := 0
  /-- range switching window open; 1; 06 R135; false -/
  switching : Bool := false
  /-- slices clamping in this CK_ENG cycle, bit per slice; 16; 06 R145; 0 -/
  clamping : Nat := 0
  /-- slices that clamped in this CK_ENG cycle so far, bit per slice; 16; 06 R145; 0 -/
  clampNew : Nat := 0
  /-- sample count of the CK_ENG cycle in which the deep comparator last tripped; 80; 06 R146; none -/
  deepAt : Option Nat := none
  /-- count of the last clamped sample whose marking still acts; 80; 06 R146; none -/
  lastClamp : Option Nat := none
  /-- overload window open; 1; 06 R146; false -/
  window : Bool := false
  /-- deep comparator tripped in the window; 1; 06 R146; false -/
  deep : Bool := false
  /-- whether the 16 samples of this CK_ENG cycle have arrived; 1; 06 R139; false -/
  arrived : Bool := false
  /-- runs of OVR samples since function start, first and end, newest first; 80 each; 06 R149; empty -/
  ovrRuns : List (Nat × Nat) := []
  /-- runs of ADJ samples since function start, first and end, newest first; 80 each; 06 R149; empty -/
  adjRuns : List (Nat × Nat) := []
  /-- samples with OVR or ADJ in the tracker's interval so far; 36; 17 R417; 0 -/
  flagged : Nat := 0
  /-- runs of samples taken under CAL_ACTIVE, newest first; 80 each; 06 R137, 01 R17; empty -/
  calRuns : List (Nat × Nat) := []
  /-- runs of samples taken while R125's conditions held, newest first; 80 each; 05 R125, 10 R252; empty -/
  refRuns : List (Nat × Nat) := []
  /-- offsets of the first and last flagged sample of the flag block in progress; 6 each; 06 R151; none -/
  hull : Option (Nat × Nat) := none
  /-- OVR seen in the flag block in progress; 1; 06 R151; false -/
  hullOvr : Bool := false
  /-- ADJ seen in the flag block in progress; 1; 06 R151; false -/
  hullAdj : Bool := false
  deriving DecidableEq, Repr, Inhabited

/-- A marker of a sleeve (R176). -/
structure Marker where
  /-- OVERFLOW rather than GAP; 1; 07 R176; none before a marker -/
  overflow : Bool
  /-- BLOCKS; 32; 07 R176; none before a marker -/
  blocks : Nat
  /-- SAMPLE_TIME and EPOCH, epoch in the high part; 80; 07 R176; none before a marker -/
  time : Nat
  /-- POSITION; 64; 07 R176; none before a marker -/
  position : Nat
  deriving DecidableEq, Repr, Inhabited

/-- An event for an open reader of a sleeve (R178, R180). -/
inductive Notice where
  | lapped (bytes readCount : Nat)
  | resizeGap (amount readCount : Nat)
  deriving DecidableEq, Repr, Inhabited

/-- Input that a context reader has lost (R286). -/
structure InputLoss where
  /-- write count at which it stands; 64; 12 R286; none before a loss -/
  start : Nat
  /-- write count of the first byte after it; 64; 12 R286; none before a loss -/
  stop : Nat
  /-- BLOCKS of a GAP marker; -; 12 R286; none before a loss -/
  blocks : Nat
  deriving DecidableEq, Repr, Inhabited

/-- An open reader of a sleeve (R174, R178, R180). -/
structure Reader where
  /-- read count; 64; 07 R174; 0 -/
  count : Nat := 0
  /-- markers of the sleeve received since function start; -; 07 R176; 0 -/
  passed : Nat := 0
  /-- notices not yet taken by the reader's unit, oldest first; -; 07 R178, R180; empty -/
  notices : List Notice := []
  /-- a context reader's open read is on its way; 1; 07 R165; false -/
  asked : Bool := false
  /-- bytes read for the contexts and not yet taken by all of them, by write count, oldest first; -; 12 R285; empty -/
  landed : List (Nat × List Byte) := []
  /-- input losses met by a context reader since function start, oldest first; -; 12 R286; empty -/
  losses : List InputLoss := []
  deriving DecidableEq, Repr, Inhabited

/-- A sleeve of the running image (07). -/
structure Sleeve where
  /-- active length in granules; 32; 07 R180; LENGTH_GRANULES at function start, 0 before -/
  active : Nat := 0
  /-- length in force in granules; 32; 07 R180; LENGTH_GRANULES at function start, 0 before -/
  inForce : Nat := 0
  /-- write count; 64; 07 R174; 0 -/
  wcount : Nat := 0
  /-- bytes of open writes accepted and not yet written; -; 07 R164; 0 -/
  reserved : Nat := 0
  /-- bytes of a dropped block still to be passed over; -; 07 R175; 0 -/
  skip : Nat := 0
  /-- write count at the start of the writer's pass; 64; 07 R180; 0 -/
  passStart : Nat := 0
  /-- length in bytes of the pass before; -; 07 R180; 0 -/
  prevLen : Nat := 0
  /-- STOPPED; 1; 07 R175; false -/
  stopped : Bool := false
  /-- DROPPING; 1; 07 R175; false -/
  dropping : Bool := false
  /-- UE_SEEN; 1; 07 R184; false -/
  ueSeen : Bool := false
  /-- whether a resumption waits for room in the marker list; 1; 07 R175; false -/
  resumeHeld : Bool := false
  /-- whether the writer waits for its next whole block after a resumption or at a start; 1; 07 R175; false -/
  awaitBlock : Bool := false
  /-- whether the present block of a raw sleeve is being stored; 1; 07 R175; false -/
  storing : Bool := false
  /-- blocks dropped in the run in progress; -; 07 R175; 0 -/
  dropBlocks : Nat := 0
  /-- sample count of the first sample of the dropped run; 80; 07 R176; 0 -/
  dropTime : Nat := 0
  /-- marker list, oldest first; at most 64; 07 R176; empty -/
  markers : List Marker := []
  /-- markers removed from the list since function start; -; 07 R176; 0 -/
  markersGone : Nat := 0
  /-- high-water mark in bytes; -; 07 R182; 0 -/
  hwm : Nat := 0
  /-- open readers by position in the declaration; 64 each; 07 R174; read count 0 -/
  readers : Sparse Reader := []
  /-- sample count from which positions run, newest first: position, count; 64 and 80; 10 T(p) map; empty -/
  anchors : List (Nat × Nat) := []
  /-- sample count at which the writer began at function start or last resumed, none before its first block or record since; 80; 13 R328; none -/
  began : Option Nat := none
  /-- write counts at which results of a RESULT sleeve stand and their first samples' counts, newest first; 64 and 80; 15 R367; empty -/
  results : List (Nat × Nat) := []
  /-- write counts reached by a RESULT sleeve's writes and their CK_ENG cycles, newest first, for R34's measures; -; 02 R34; empty -/
  written : List (Nat × Nat) := []
  deriving DecidableEq, Repr, Inhabited

/-- What an open transaction is for, so that its answer reaches the right unit (R165). -/
inductive Purpose where
  | bar2 (x len : Nat)
  | dma (ring : Nat)
  | dskDrive (drive addr sleeve wc len extent stripe : Nat)
  | dskParity (sleeve wc len extent stripe : Nat)
  | ctxRead (sleeve wc len : Nat)
  | ctxWrite (context : Nat)
  | denCopy (plane : Nat)
  | core
  deriving DecidableEq, Repr, Inhabited

/-- An open transaction (R164). -/
structure Txn where
  /-- store address; 36; 07 R164; none before a transaction -/
  addr : Nat
  /-- bytes; 13; 07 R164; none before a transaction -/
  len : Nat
  /-- bytes to write, none for a read; -; 07 R164; none before a transaction -/
  data : Option (List Byte)
  /-- the requester's use of it; -; 07 R165; none before a transaction -/
  purpose : Purpose
  /-- whether it holds a tag; 1; 07 R167; none before a transaction -/
  tag : Bool
  deriving DecidableEq, Repr, Inhabited

/-- A read whose data is on its way (R164). -/
structure Flight where
  /-- requester; 3; 07 R165; none before a read -/
  req : Nat
  /-- the transaction; -; 07 R164; none before a read -/
  txn : Txn
  /-- the bytes as read in its slot; -; 07 R164; none before a read -/
  bytes : List Byte
  deriving DecidableEq, Repr, Inhabited

/-- The central store and its controller (07). -/
structure Store where
  /-- STACK0_TRAINED; 1; 07 STORE block; false -/
  trained0 : Bool := false
  /-- STACK1_TRAINED; 1; 07 STORE block; false -/
  trained1 : Bool := false
  /-- controller running a table (step 7 of R57 passed); 1; 07 R163; false -/
  table : Bool := false
  /-- IMAGE_TABLE; 1; 07 R163; false -/
  imageTable : Bool := false
  /-- the store's bytes; 48 GiB; 07 R156; every byte 0 after step 8 -/
  mem : Sparse Byte := []
  /-- transactions waiting, by requester, oldest first; -; 07 R164; empty -/
  queues : Sparse (List Txn) := []
  /-- reads served whose data has not arrived, oldest first; -; 07 R164; empty -/
  flights : List Flight := []
  /-- requester at its turn; 3; 07 R166; 0 -/
  turn : Nat := 0
  /-- open slots the requester at its turn has received; 4; 07 R166; 0 -/
  turnUsed : Nat := 0
  /-- requesters that had a transaction waiting at every open slot of this pass, bit r; 6; 07 R169; 63 -/
  alwaysWaiting : Nat := 63
  /-- whether an open slot of this pass has gone by; 1; 07 R169; false -/
  slotSeen : Bool := false
  /-- ring from which the DMA requester's next visit counts; 13; 16 R394; 0 -/
  nextRing : Nat := 0
  /-- requesters that wait for a shared tag, in order of request; -; 07 R167; empty -/
  tagOrder : List Nat := []
  /-- OPEN_BACKLOG; 1; 07 R169; false -/
  backlog : Bool := false
  /-- STORE_CE_ADDR; 36; 07 R183; 0 -/
  ceAddr : Nat := 0
  /-- STORE_UE_ADDR; 36; 07 R184; 0 -/
  ueAddr : Nat := 0
  /-- STORE_SLSEL[SLEEVE]; 11; 07 STORE block; 0 -/
  slsel : Nat := 0
  deriving DecidableEq, Repr, Inhabited

/-- One MSI-X table entry; masked at reset, as PCIe specifies (R385). -/
structure MsixEntry where
  /-- message address; 64; 16 R385; DESIGN CHOICE 0 (log 5) -/
  addr : Nat := 0
  /-- message data; 32; 16 R385; DESIGN CHOICE 0 (log 5) -/
  data : Word := 0
  /-- vector control, mask bit; 1; 16 R385; PRESUMED true (log 5) -/
  masked : Bool := true
  deriving DecidableEq, Repr, Inhabited

/-- The host link (16 R380 to R386). -/
structure HostLink where
  /-- HOST_LINK[SPEED]; 3; 16 HOST block; 0 -/
  speed : Nat := 0
  /-- HOST_LINK[WIDTH]; 5; 16 HOST block; 0 -/
  width : Nat := 0
  /-- HOST_LINK[FLIT]; 1; 16 HOST block; false -/
  flit : Bool := false
  /-- HOST_LINK[DL_UP]; 1; 16 HOST block; false -/
  up : Bool := false
  /-- HOST_LINK[D3HOT]; 1; 16 HOST block; false -/
  d3hot : Bool := false
  /-- PERST_N released; 1; 03 R59; false -/
  perst : Bool := false
  /-- ready for configuration requests; 1; 03 R59; false -/
  ready : Bool := false
  /-- BAR0 base, bits [31:24]; 8; 16 R380; PRESUMED 0 (log 5) -/
  bar0 : Nat := 0
  /-- BAR2 base, bits [63:36]; 28; 16 R380; PRESUMED 0 (log 5) -/
  bar2 : Nat := 0
  /-- configuration dwords that software wrote, by dword number, other than the BARs; 32 each; 16 R380; PRESUMED 0 (log 5) -/
  cfg : Sparse Word := []
  /-- MSI-X table by vector; 97 each; 16 R385; PRESUMED masked, 0 (log 5) -/
  msix : Sparse MsixEntry := []
  /-- MSI-X pending bits, by vector; 2,048; 16 R385; 0 -/
  pending : Sparse Bool := []
  /-- AER Uncorrectable Error Status; 32; 16 R384; PRESUMED 0 (log 5) -/
  aerUnc : Nat := 0
  /-- AER Correctable Error Status; 32; 16 R384; PRESUMED 0 (log 5) -/
  aerCor : Nat := 0
  /-- error bits of Device Status; 4; 16 R384; PRESUMED 0 (log 5) -/
  devStatus : Nat := 0
  /-- error bits of the Status register, bits 15 to 8; 16; 16 R384; PRESUMED 0 (log 5) -/
  status : Nat := 0
  /-- AER First Error Pointer; 5; 16 R384; PRESUMED 0 (log 5) -/
  aerFirst : Nat := 0
  /-- AER Header Log, four dwords; 32 each; 16 R384; PRESUMED 0 (log 5) -/
  aerHeader : List Nat := []
  /-- non-posted requests outstanding; 10; 16 R380; 0 -/
  reads : Nat := 0
  /-- host reads that wait for a place among the 768: ring, address, length; -; 16 R380; empty -/
  asks : List (Nat × Nat × Nat) := []
  deriving DecidableEq, Repr, Inhabited

/-- A transfer descriptor (R390). -/
structure Desc where
  op : Nat
  index : Bool
  tableSide : Nat
  irq : Bool
  swap : Nat
  tag : Nat
  length : Nat
  hostAddr : Nat
  storeAddr : Nat
  count : Nat
  deriving DecidableEq, Repr, Inhabited

/-- The phases of a descriptor or buffer in progress (R389 to R403). -/
inductive RunPhase where
  | needTable      -- its index table is being fetched
  | destWait       -- waits until its bytes fit in the writer sleeve
  | moving         -- its bursts run
  | bursting       -- a burst is in flight
  | burstOver      -- the burst in flight has ended, R397
  deriving DecidableEq, Repr, Inhabited

/-- A descriptor or buffer in progress (R390, R397, R403). -/
structure Run where
  /-- the descriptor; -; 16 R390; none when idle -/
  desc : Desc
  /-- phase; -; 16 R396, R398; none when idle -/
  phase : RunPhase
  /-- index table, address and length of each element; -; 16 R398; none when idle -/
  table : List (Nat × Nat)
  /-- table element reached; 32; 16 R401; none when idle -/
  elem : Nat
  /-- bytes moved of the element reached; 32; 16 R401; none when idle -/
  elemMoved : Nat
  /-- bytes moved; 64; 16 R391; none when idle -/
  moved : Nat
  /-- bytes of the burst in flight, 0 when none; 13; 16 R397; none when idle -/
  burst : Nat
  /-- data bytes of the burst in flight that have reached the 4920; -; 16 R397; none when idle -/
  bytes : Option (List Byte)
  /-- sleeve write count of the first byte; 64; 16 R391; none when idle -/
  wc : Nat
  /-- UE seen; 1; 16 R402; none when idle -/
  ue : Bool
  /-- an abort awaits the end of the burst in flight; 1; 16 R401; none when idle -/
  aborting : Bool
  /-- source bytes as they stood at the start of an overlapping transfer; -; 16 R400; none when idle -/
  source : Option (List Byte)
  /-- bytes of a STREAM buffer's last group that are still to be completed before they are swapped; -; 16 R399; empty -/
  rest : List Byte := []
  deriving DecidableEq, Repr, Inhabited

/-- A completion entry (R391). -/
structure Entry where
  kind : Nat
  status : Nat
  tag : Nat
  abortLate : Bool
  ue : Bool
  part : Bool
  irq : Bool
  epoch : Nat
  bytes : Nat
  residue : Nat
  wc : Nat
  deriving DecidableEq, Repr, Inhabited

/-- What a ring's host reads under way are for (R389, R397, R398). -/
inductive HostAsk where
  | desc
  | table
  | data
  deriving DecidableEq, Repr, Inhabited

/-- A ring (16 R387 to R405). -/
structure Ring where
  /-- DMA_Q_DBASE; 64; 16 DMA block; 0 -/
  dbase : Nat := 0
  /-- DMA_Q_CBASE; 64; 16 DMA block; 0 -/
  cbase : Nat := 0
  /-- DMA_Q_CTRL[ENABLE]; 1; 16 DMA block; false -/
  enable : Bool := false
  /-- DMA_Q_CTRL[JOIN]; 1; 16 DMA block; false -/
  join : Bool := false
  /-- DMA_Q_CTRL[DATA_IRQ]; 1; 16 DMA block; false -/
  dataIrq : Bool := false
  /-- DMA_Q_CTRL[SWAP]; 2; 16 DMA block; 0 -/
  swap : Nat := 0
  /-- DMA_Q_CTRL[SIZE_LOG2]; 5; 16 DMA block; 0 -/
  sizeLog2 : Nat := 0
  /-- DMA_Q_CTRL[VECTOR]; 11; 16 DMA block; 0 -/
  vector : Nat := 0
  /-- DMA_Q_TAIL; 16; 16 DMA block; 0 -/
  tail : Nat := 0
  /-- DMA_Q_HEAD; 16; 16 DMA block; 0 -/
  head : Nat := 0
  /-- DMA_Q_CHEAD; 16; 16 DMA block; 0 -/
  chead : Nat := 0
  /-- DMA_Q_CTAIL; 16; 16 DMA block; 0 -/
  ctail : Nat := 0
  /-- PHASE of the entries of this pass; 1; 16 R389; true -/
  phase : Bool := true
  /-- STATE is RUNNING (enabled, not halted, last entry of a disable not yet written); 1; 16 DMA block; false -/
  running : Bool := false
  /-- DMA_Q_STATE[HALT]; 2; 16 DMA block; 0 -/
  halt : Nat := 0
  /-- the descriptor or buffer in progress; -; 16 R390; none -/
  run : Option Run := none
  /-- entries that wait for a free place of the completion ring, oldest first; -; 16 R389; empty -/
  waiting : List Entry := []
  /-- a disable waits for the last entry; 1; 16 R401; false -/
  disabling : Bool := false
  /-- descriptor index up to which a FLUSH ends posted descriptors, none outside one; 16; 16 R401; none -/
  flushTo : Option Nat := none
  /-- what its host reads under way are for; -; 16 R389; none -/
  ask : Option HostAsk := none
  /-- host reads under way, waiting or outstanding; 10; 16 R380; 0 -/
  asked : Nat := 0
  deriving DecidableEq, Repr, Inhabited

end Sys2Proof.Machine
end

