-- ==== Sys2Proof/Machine/StateTrigger.lean ====
section
/-! DEFINITION. The state of the trigger engine, the captures and the time-interval unit. Times are absolute
sample counts with the epoch in the high part; fine times count fine ticks. A field's default is its value at reset. -/

namespace Sys2Proof.Machine

/-- A pulse being measured by a TD_WIDTH condition (R310). -/
structure Pulse where
  /-- start crossing in fine ticks; 88; 13 R310; none outside a pulse -/
  start : Nat
  /-- samples counted so far; 25; 13 R310; none outside a pulse -/
  width : Nat
  /-- WMIN and WMAX that govern the pulse; 25 each; 13 R325; none outside a pulse -/
  wmin : Nat
  wmax : Nat
  /-- whether the OUTSIDE occurrence has been given; 1; 13 R310; none outside a pulse -/
  fired : Bool
  deriving DecidableEq, Repr, Inhabited

/-- A trigger condition at work (13). -/
structure Cond where
  /-- LEVEL in force; 12 signed; 13 R325; declared value at function start -/
  level : Int := 0
  /-- HYST in force; 10; 13 R325; declared value at function start -/
  hyst : Nat := 0
  /-- WMIN in force; 25; 13 R325; declared value at function start -/
  wmin : Nat := 0
  /-- WMAX in force; 25; 13 R325; declared value at function start -/
  wmax : Nat := 0
  /-- MIN_BINS in force; 16; 13 R325; declared value at function start -/
  minBins : Nat := 0
  /-- QUAL_FRAMES in force; 8; 13 R325; declared value at function start -/
  qual : Nat := 0
  /-- applied values that wait for T_s: T_s, field, value; -; 13 R325; empty -/
  queued : List (Nat × Nat × Word) := []
  /-- re-armed for a rising occurrence; 1; 13 R308; true -/
  readyUp : Bool := true
  /-- re-armed for a falling occurrence; 1; 13 R308; true -/
  readyDown : Bool := true
  /-- code of the last sample; 12 signed; 13 R308; none -/
  prev : Option Int := none
  /-- pulse in progress; -; 13 R310; none -/
  pulse : Option Pulse := none
  /-- records of the stream read so far by a mask condition; -; 13 R313; 0 -/
  readRecords : Nat := 0
  /-- length of the run of violating frames; 9; 13 R313; 0 -/
  run : Nat := 0
  /-- SAMPLE_TIME of the first frame of the run; 80; 13 R313; 0 -/
  runTime : Nat := 0
  /-- whether the run has qualified; 1; 13 R313; false -/
  runDone : Bool := false
  /-- number of the last frame read; 64; 13 R313; none -/
  lastFrame : Option Nat := none
  deriving DecidableEq, Repr, Inhabited

/-- An occurrence (R307). -/
structure Occ where
  /-- condition, 0xFF for a forced trigger; 8; 13 R307; none before an occurrence -/
  cond : Nat
  /-- time in fine ticks; 88; 13 R307; none before an occurrence -/
  time : Nat
  deriving DecidableEq, Repr, Inhabited

/-- The states of a group (R318). -/
inductive GroupState where
  | disarmed | armed | provisional | capturing | holdoff
  deriving DecidableEq, Repr, Inhabited

/-- A capture (R326 to R336). -/
structure Capture where
  /-- CAPTURE_NO; 64; 13 R333; none before a capture -/
  number : Nat
  /-- the occurrence that gives the trigger time; -; 13 R317; none before a capture -/
  trig : Occ
  /-- QUAL_TIME, 0 before FINAL; 80; 13 R335; none before a capture -/
  qual : Nat
  /-- START_TIME; 80; 13 R326; none before a capture -/
  start : Nat
  /-- CUFF_ACTUAL; 64; 13 R328; none before a capture -/
  cuff : Nat
  /-- hem to be taken, none when unbounded; 64; 13 R329; none before a capture -/
  hem : Option Nat
  /-- CLIPPED; 64; 13 R329; none before a capture -/
  clipped : Nat
  /-- FLAGS; 10; 13 R336; none before a capture -/
  flags : Nat
  /-- MISSED at the trigger; 32; 13 R335; none before a capture -/
  missed : Nat
  /-- MISSED_FIRST and its epoch, none when there was no miss; 80; 13 R335; none before a capture -/
  missedFirst : Option Nat
  /-- CAL_GEN; 32; 13 R335; none before a capture -/
  calGen : Nat
  /-- captured sleeves with WC_START and WC_END; 64 each; 13 R335; none before a capture -/
  regions : List (Nat × Nat × Nat)
  /-- lengths in force of the captured sleeves at the trigger, in granules; 32 each; 13 R331; none before a capture -/
  lens : List Nat
  /-- T_rearm's hold-off in samples, as in force at the trigger; 64; 13 R325; none before a capture -/
  holdoff : Nat
  /-- misses the hold-off needs, as in force at the trigger; 16; 13 R325; none before a capture -/
  holdoffEvents : Nat
  deriving DecidableEq, Repr, Inhabited

/-- A trigger group at work (13). -/
structure Group where
  /-- state; 3; 13 R318; DISARMED (0) -/
  state : GroupState := .disarmed
  /-- WINDOW in force; 32; 13 R325; declared value at function start -/
  window : Nat := 0
  /-- HOLDOFF_SAMPLES in force; 64; 13 R325; declared value at function start -/
  holdoffSamples : Nat := 0
  /-- HOLDOFF_EVENTS in force; 16; 13 R325; declared value at function start -/
  holdoffEvents : Nat := 0
  /-- CUFF in force; 64; 13 R325; declared value at function start -/
  cuff : Nat := 0
  /-- HEM in force, none when unbounded; 64; 13 R325; declared value at function start -/
  hem : Option Nat := none
  /-- applied values, each in force for triggers from its T_s on, oldest first: T_s, field, value; -; 13 R325; empty -/
  queued : List (Nat × Nat × Word) := []
  /-- an arm is pending; 1; 13 R321; false -/
  pendingArm : Bool := false
  /-- ARM_MODE's effect cleared for the present cycle; 1; 13 R321; false -/
  disarmCycle : Bool := false
  /-- T_arm; 80; 13 R321; 0 -/
  tArm : Nat := 0
  /-- sample counts over which the group was DISARMED, first and end, newest first; 80 each; 13 R319; empty -/
  disarmed : List (Nat × Nat) := []
  /-- sample count at which the present DISARMED state began; 80; 13 R319; 0 -/
  disarmedFrom : Nat := 0
  /-- occurrences on their decision paths, in order of raising; -; 13 R316; empty -/
  inbox : List Occ := []
  /-- held stage A occurrences, oldest first; at most 16; 13 R316; empty -/
  heldA : List Occ := []
  /-- held stage B occurrences, oldest first; at most 16; 13 R316; empty -/
  heldB : List Occ := []
  /-- TD_LEVEL conditions that wait for the group's first sample in ARMED; 8 each; 13 R308; empty -/
  levelDue : List Nat := []
  /-- the provisional trigger waits for its mask run to qualify; 1; 13 R313; false -/
  awaitsRun : Bool := false
  /-- the provisional A occurrence or first mask frame; -; 13 R317; none -/
  provisional : Option Occ := none
  /-- capture running or provisional, or closed and in hold-off; -; 13 R326; none -/
  capture : Option Capture := none
  /-- STOP_TIME of the capture in hold-off; 80; 13 R320; 0 -/
  stopTime : Nat := 0
  /-- misses since the group's trigger; -; 13 R320; 0 -/
  misses : Nat := 0
  /-- first miss since the last capture began; 80; 13 TRG_G_MISS; none -/
  firstMiss : Option Nat := none
  /-- last trigger; -; 13 TRG_G_LAST; none -/
  last : Option Occ := none
  /-- notices waiting: ring, CK_ENG cycle of issue and the record's bytes, oldest first; at most 64; 13 R333; empty -/
  notices : List (Nat × Nat × List Byte) := []
  /-- CAP_G_NO; 64; 13 CAP block; 0 -/
  capNo : Nat := 0
  /-- CAP_G_FLAGS; 10; 13 CAP block; 0 -/
  capFlags : Nat := 0
  deriving DecidableEq, Repr, Inhabited

/-- The trigger engine (13). -/
structure Trigger where
  /-- conditions by number; -; 13 R306; none declared -/
  conds : Sparse Cond := []
  /-- groups by number; -; 13 R306; DISARMED -/
  groups : Sparse Group := []
  /-- CAP_NEXT; 64; 13 CAP block; 1 -/
  next : Nat := 1
  /-- TRG_GSEL[GROUP]; 4; 13 TRG block; 0 -/
  gsel : Nat := 0
  /-- CAP_GSEL[GROUP]; 4; 13 CAP block; 0 -/
  csel : Nat := 0
  deriving DecidableEq, Repr, Inhabited

/-- A TIU record waiting in its input's queue (R347). -/
structure TiuRecord where
  /-- its 32 bytes; -; 14 R347; none queued -/
  bytes : List Byte
  /-- sample count of its first result; 80; 07 R176; none queued -/
  time : Nat
  deriving DecidableEq, Repr, Inhabited

/-- An event input (14). -/
structure EvtInput where
  /-- THRESHOLD in mV; 13 signed; 14 R338; +500 -/
  threshold : Int := 500
  /-- SLOPE; 2; 14 R338; 0 -/
  slope : Nat := 0
  /-- DIFF; 1; 14 R338; 0 -/
  diff : Bool := false
  /-- TS_EN; 1; 14 R338; 0 -/
  tsEn : Bool := false
  /-- GATE; 25; 14 R338; 0 -/
  gate : Nat := 0
  /-- applied values that wait for T_s: T_s, field, value; -; 14 R340; empty -/
  queued : List (Nat × Nat × Word) := []
  /-- the comparator settles after a change of THRESHOLD or DIFF; 1; 14 R340; false -/
  settling : Bool := false
  /-- sample counts from which and before which edges carry THR_SETTLING; 80; 14 R340; 0 -/
  settleFrom : Nat := 0
  settleUntil : Nat := 0
  /-- bin-width table by code; 512 of 16; 14 R341; 0 -/
  widths : Sparse Nat := []
  /-- VALID; 1; 14 TIU_CAL_STATE; false -/
  valid : Bool := false
  /-- FAILED; 1; 14 TIU_CAL_STATE; false -/
  failed : Bool := false
  /-- USED; 10; 14 TIU_I_CALR; 0 -/
  used : Nat := 0
  /-- calibrating; 1; 14 R345; false -/
  calibrating : Bool := false
  /-- time of the last seen edge in fine ticks, by which dead time is judged; 88; 14 R342; none -/
  lastEdge : Option Nat := none
  /-- edge sequence; 32; 14 R347; 0 -/
  seq : Nat := 0
  /-- edges lost since the input's previous record; 32; 14 R347; 0 -/
  lost : Nat := 0
  /-- a record has been lost since the last stored one; 1; 14 R347; false -/
  recordLost : Bool := false
  /-- gate: T_s from which gates count; 80; 14 R351; 0 -/
  gateFrom : Nat := 0
  /-- gate k in progress; -; 14 R351; 0 -/
  gateIndex : Nat := 0
  /-- edge that opens the gate's span, in fine ticks; 88; 14 R351; none -/
  gateFirst : Option Nat := none
  /-- last edge handled since GATE was applied, in fine ticks; 88; 14 R351; none -/
  gateLast : Option Nat := none
  /-- an edge of the gate carried THR_SETTLING; 1; 14 R347; false -/
  gateSettling : Bool := false
  /-- periods in the gate; 32; 14 R351; 0 -/
  gateCount : Nat := 0
  /-- edges lost in the gate; 1; 14 R351; false -/
  gateLoss : Bool := false
  /-- record queue, oldest first; at most 512; 14 R347; empty -/
  queue : List TiuRecord := []
  deriving DecidableEq, Repr, Inhabited

/-- An edge as interval units hold it (R348). -/
structure HeldEdge where
  /-- time in fine ticks; 88; 14 R348; none held -/
  time : Nat
  /-- rising; 1; 14 R348; none held -/
  rising : Bool
  /-- THR_SETTLING; 1; 14 R348; none held -/
  settling : Bool
  /-- whether the table it was timed with was the nominal one; 1; 14 R347; none held -/
  uncal : Bool
  deriving DecidableEq, Repr, Inhabited

/-- An edge that waits for its turn in timestamp order (R342). -/
structure TiuEdge where
  /-- input; 3; 14 R342; none waiting -/
  input : Nat
  /-- the edge; -; 14 R342; none waiting -/
  edge : HeldEdge
  /-- whether the input saw it, one not seen being a lost edge; 1; 14 R342; none waiting -/
  seen : Bool
  deriving DecidableEq, Repr, Inhabited

/-- An interval unit (14). -/
structure IntervalUnit where
  /-- MODE; 2; 14 R338; 0 -/
  mode : Nat := 0
  /-- START; 3; 14 R338; 0 -/
  start : Nat := 0
  /-- STOP; 3; 14 R338; 0 -/
  stop : Nat := 0
  /-- START_EDGE; 2; 14 R338; 0 -/
  startEdge : Nat := 0
  /-- STOP_EDGE; 2; 14 R338; 0 -/
  stopEdge : Nat := 0
  /-- applied values that wait for T_s: T_s, field, value; -; 14 R340; empty -/
  queued : List (Nat × Nat × Word) := []
  /-- held start; -; 14 R348; none -/
  heldStart : Option HeldEdge := none
  /-- held stop; -; 14 R348; none -/
  heldStop : Option HeldEdge := none
  /-- measurement sequence; 32; 14 R347; 0 -/
  seq : Nat := 0
  /-- edges lost on START and STOP since the unit's previous record; 1; 14 R347; false -/
  loss : Bool := false
  deriving DecidableEq, Repr, Inhabited

/-- A trigger or marker output (R352). -/
structure OutPin where
  /-- WIDTH in CK_ENG cycles; 16; 14 R338; 32 -/
  width : Nat := 32
  /-- POLARITY; 1; 14 R338; 0 -/
  polarity : Nat := 0
  /-- ACTIVE; 1; 14 R352; false -/
  active : Bool := false
  /-- CK_ENG cycle of the last launch; -; 14 R352; none -/
  launched : Option Nat := none
  /-- CK_ENG cycle at which the running pulse ends; -; 14 R352; 0 -/
  ends : Nat := 0
  /-- TIU_O_LAST; 64; 14 TIU block; 0 -/
  last : Nat := 0
  deriving DecidableEq, Repr, Inhabited

/-- The time-interval unit (14). -/
structure Tiu where
  /-- event inputs by number; -; 14 R337; defaults of R338 -/
  inputs : Sparse EvtInput := []
  /-- interval units by number; -; 14 R348; off -/
  units : Sparse IntervalUnit := []
  /-- outputs by number; -; 14 R352; inactive -/
  outs : Sparse OutPin := []
  /-- edges that wait for their turn, in timestamp order; -; 14 R342; empty -/
  waiting : List TiuEdge := []
  /-- TIU_ISEL[INPUT]; 3; 14 TIU block; 0 -/
  isel : Nat := 0
  /-- TIU_OSEL[OUTPUT]; 3; 14 TIU block; 0 -/
  osel : Nat := 0
  deriving DecidableEq, Repr, Inhabited

end Sys2Proof.Machine
end

