-- ==== Sys2Proof/Machine/StateUnits.lean ====
section
/-! DEFINITION. The state of the frame stamper, the trace unit, the density accumulator and the context bank.
A field's default is its value at reset, which is also its value at function start. -/

namespace Sys2Proof.Machine

/-- A frame or channeliser stream (10). -/
structure FrameStream where
  /-- bytes of the record being stamped that have not left the writer engine; 18; 10 R250; 0 -/
  left : Nat := 0
  /-- record being stored: its frame number, FLAGS and SPUR_HIT_COUNT, none while one is dropped; -; 10 R250; none -/
  cur : Option (Nat × Nat × Nat) := none
  /-- bytes of a channeliser's rows that have left its writer engine; 64; 10 R260; 0 -/
  produced : Nat := 0
  /-- number k of the next frame or row; 64; 10 R242; 0 -/
  next : Nat := 0
  /-- bytes of the record that have left the writer engine; -; 10 R250; empty -/
  buf : List Byte := []
  /-- whether the record that is leaving was found to fit at its first byte, none between records; 1; 10 R250; none -/
  fate : Option Bool := none
  /-- frames still to be stamped UNSETTLED; 8; 10 R252; SETTLE_FRAMES at function start, 0 before -/
  settle : Nat := 0
  /-- whether the next stored frame carries OVERFLOW_BEFORE; 1; 10 R252; false -/
  before : Bool := false
  /-- last frame stamped carried UNSETTLED; 1; 10 SPEC_STATUS; false -/
  unsettled : Bool := false
  /-- stored records that the shared static reads have read, by which each read's check codes act once; -; 07 R183; 0 -/
  readTo : Nat := 0
  /-- SPEC_S_STATE[FLAGS]; 8; 10 SPEC block; 0 -/
  flags : Nat := 0
  /-- SPEC_S_FRAME; 64; 10 SPEC block; 0 -/
  frame : Nat := 0
  deriving DecidableEq, Repr, Inhabited

/-- The sums a trace or an exposure keeps of its used frames (R270, R271, R277). -/
structure FrameSums where
  /-- FRAMES_USED; 32; 11 R270; 0 -/
  used : Nat := 0
  /-- FRAMES_SKIPPED; 32; 11 R270; 0 -/
  skipped : Nat := 0
  /-- frame records read, used or skipped; 32; 11 R271; 0 -/
  seen : Nat := 0
  /-- SAMPLE_TIME and EPOCH of the first used frame; 80; 11 R270; 0 -/
  time : Nat := 0
  /-- CAL_GEN of the first used frame; 32; 11 R270; 0 -/
  calGen : Nat := 0
  /-- CAL_GEN differed; 1; 11 R271; false -/
  calChanged : Bool := false
  /-- OR of the used frames' FLAGS; 8; 11 R271; 0 -/
  flags : Nat := 0
  /-- some used frame had PFLAGS[SAT]; 1; 11 R271; false -/
  sat : Bool := false
  /-- OVR_COUNT; 32; 11 R270; 0 -/
  ovr : Nat := 0
  /-- ADJ_COUNT; 32; 11 R270; 0 -/
  adj : Nat := 0
  /-- SPUR_FRAMES; 16; 11 R270; 0 -/
  spur : Nat := 0
  deriving DecidableEq, Repr, Inhabited

/-- A trace detector (11). -/
structure Trace where
  /-- records of the stream read so far; -; 11 R265; 0 -/
  readRecords : Nat := 0
  /-- interval i in progress; 64; 11 R268; 0 -/
  interval : Nat := 0
  /-- sums of the interval; -; 11 R270; 0 -/
  sums : FrameSums := {}
  /-- PEAK accumulation by point, bin patterns; 32 each; 11 R269; 0 -/
  peak : Sparse Nat := []
  /-- MIN accumulation by point, bin patterns; 32 each; 11 R269; 0 -/
  low : Sparse Nat := []
  /-- RMS accumulation by point, binary64 patterns; 64 each; 11 R269; 0 -/
  acc : Sparse Nat := []
  /-- whether the interval is ready to close (its last frame or a later one has been read); 1; 11 R268; false -/
  ready : Bool := false
  /-- CK_ENG cycle at which the record that made it ready was complete; -; 11 R272; 0 -/
  closeAt : Nat := 0
  /-- TRC_D_LAST; 64; 11 TRC block; 0 -/
  last : Nat := 0
  deriving DecidableEq, Repr, Inhabited

/-- A copy pass of a plane (R274). -/
structure CopyPass where
  /-- EXPOSURE_NUMBER of the record; 64; 11 R277; none when idle -/
  exposure : Nat
  /-- EXPOSURES; 8; 11 R275; none when idle -/
  merged : Nat
  /-- sums of the record; -; 11 R277; none when idle -/
  sums : FrameSums
  /-- whether the pass has begun to move cells; 1; 11 R274; none when idle -/
  started : Bool
  /-- whether the record is written rather than dropped; 1; 11 R278; none when idle -/
  writing : Bool
  /-- cells passed; 20; 11 R274; none when idle -/
  cell : Nat
  /-- SAT_CELLS; 32; 11 R276; none when idle -/
  satCells : Nat
  deriving DecidableEq, Repr, Inhabited

/-- A density plane (11). -/
structure Plane where
  /-- records of the stream read so far; -; 11 R265; 0 -/
  readRecords : Nat := 0
  /-- exposure n in progress; 64; 11 R274; 0 -/
  exposure : Nat := 0
  /-- exposures merged into the one in progress; -; 11 R275; 0 -/
  merged : Nat := 0
  /-- sums of the exposure; -; 11 R277; 0 -/
  sums : FrameSums := {}
  /-- whether the exposure is ready to close; 1; 11 R274; false -/
  ready : Bool := false
  /-- active buffer by cell row x COLUMNS + column; 32 each; 11 R274; 0 -/
  active : Sparse Nat := []
  /-- copy buffer by cell; 32 each; 11 R274; 0 -/
  copyBuf : Sparse Nat := []
  /-- the copy pass; -; 11 R274; none -/
  pass : Option CopyPass := none
  /-- DEN_P_EXP; 64; 11 DEN block; 0 -/
  last : Nat := 0
  /-- DEN_P_STATE[SAT]; 1; 11 DEN block; false -/
  sat : Bool := false
  deriving DecidableEq, Repr, Inhabited

/-- A complex value of a context's chain, real and imaginary. -/
abbrev Cx := Int × Int

/-- A moving-average stage (R288). -/
structure Stage where
  /-- length L in force; 13; 12 CTX_C_STAGE; 0 -/
  len : Nat := 0
  /-- decimation D in force; 13; 12 CTX_C_STAGE; 0 -/
  decim : Nat := 0
  /-- last L inputs since the reset, newest first; 25 bits each; 12 R288; empty -/
  hist : List Cx := []
  /-- inputs since the reset; -; 12 R288; 0 -/
  count : Nat := 0
  deriving DecidableEq, Repr, Inhabited

/-- A running cross-fade (R290). -/
structure Fade where
  /-- bank faded from; 1; 12 R290; none when idle -/
  source : Nat
  /-- bank faded to; 1; 12 R290; none when idle -/
  target : Nat
  /-- k; 16; 12 R290; none when idle -/
  pos : Nat
  deriving DecidableEq, Repr, Inhabited

/-- An output record waiting in a context's queue (R298). -/
structure CtxRecord where
  /-- its 256 bytes; -; 12 R298; none queued -/
  bytes : List Byte
  /-- CK_ENG cycle at which it was generated; -; 12 R301; none queued -/
  born : Nat
  /-- CK_ENG cycle at which its last input row was complete; -; 12 R300; none queued -/
  input : Nat
  /-- whether it stands in the reserved place; 1; 12 R301; none queued -/
  reserved : Bool
  /-- whether it waits until the reserved place is free again; 1; 12 R301; none queued -/
  held : Bool
  /-- whether it has been offered to its sleeve; 1; 12 R300; none queued -/
  offered : Bool
  deriving DecidableEq, Repr, Inhabited

/-- A context (12). -/
structure Context where
  /-- rows taken from the source sleeve; -; 12 R285; 0 -/
  stored : Nat := 0
  /-- input losses of the source sleeve met since function start; -; 12 R286; 0 -/
  passed : Nat := 0
  /-- index s of the next row, stored and lost; -; 12 R285; 0 -/
  row : Nat := 0
  /-- a synchronising reset is due at the next row; 1; 12 R293; true from function start -/
  resetDue : Bool := true
  /-- the reset due was caused by an input loss; 1; 12 R286; false -/
  gapDue : Bool := false
  /-- NCO phase accumulator; 48; 12 R287; 0 -/
  phase : Nat := 0
  /-- TW in force; 48; 12 R282; 0 -/
  tw : Nat := 0
  /-- PHASE in force; 16; 12 R282; 0 -/
  phaseWord : Nat := 0
  /-- stages in force; -; 12 R288; empty -/
  stages : List Stage := []
  /-- FIR delay line, newest first; 25 bits each; 12 R289; empty -/
  fir : List Cx := []
  /-- bank A; 20 bits each; 12 R289; empty -/
  bankA : List Cx := []
  /-- bank B; 20 bits each; 12 R289; empty -/
  bankB : List Cx := []
  /-- active bank, during a fade the bank faded from; 1; 12 R291; 0 -/
  bank : Nat := 0
  /-- running fade; -; 12 R290; none -/
  fade : Option Fade := none
  /-- held swap request; 1; 12 R291; none -/
  heldBank : Option Nat := none
  /-- held coefficients: bank, tap, component, value; -; 12 R292; empty -/
  heldCoefs : List (Nat × Nat × Nat × Int) := []
  /-- values applied at a seam that wait for the first row at or after T_s: T_s, field, value; -; 12 R305; empty -/
  rowPending : List (Nat × Nat × Word) := []
  /-- swap and coefficient values that wait for the first output at or after T_s: T_s, field, value; -; 12 R305; empty -/
  outPending : List (Nat × Nat × Word) := []
  /-- RESET value last applied; 32; 12 R304; 0 -/
  resetValue : Word := 0
  /-- index of the next output since the reset; -; 12 R294; 0 -/
  out : Nat := 0
  /-- time of the last emitted output in fine ticks; 88; 12 R297; 0 -/
  outTime : Nat := 0
  /-- CK_ENG cycle at which the last emitted output's input row was complete; -; 12 R300; 0 -/
  outInput : Nat := 0
  /-- samples of the IQ record in progress, oldest first; 24 bits each; 12 R299; empty -/
  iq : List Cx := []
  /-- time of the first sample of the IQ record in fine ticks; 88; 12 R298; 0 -/
  iqTime : Nat := 0
  /-- flags of the IQ record in progress; 8; 12 R298; 0 -/
  iqFlags : Nat := 0
  /-- leading unsettled samples of the IQ record; 8; 12 R298; 0 -/
  iqUnsettled : Nat := 0
  /-- active bank at the first sample of the IQ record; 1; 12 R298; 0 -/
  iqBank : Nat := 0
  /-- SAT since the last record; 1; 12 R298; false -/
  sat : Bool := false
  /-- detector interval: outputs taken; 24; 12 R296; 0 -/
  detCount : Nat := 0
  /-- UNSETTLED and XFADE of the interval's outputs, as FLAGS bits; 8; 12 R298; 0 -/
  detFlags : Nat := 0
  /-- active bank at the first output of the interval; 1; 12 R298; 0 -/
  detBank : Nat := 0
  /-- time of the first output of the interval in fine ticks; 88; 12 R298; 0 -/
  detTime : Nat := 0
  /-- PEAK of the interval, binary64 pattern; 64; 12 R296; 0 -/
  detPeak : Nat := 0
  /-- MIN of the interval, binary64 pattern; 64; 12 R296; 0 -/
  detMin : Nat := 0
  /-- sum of the interval, binary64 pattern; 64; 12 R296; 0 -/
  detSum : Nat := 0
  /-- number of the interval in progress; 64; 12 R296; 0 -/
  interval : Nat := 0
  /-- DET_INTERVAL in force; 24; 12 R304; 0 -/
  detInterval : Nat := 0
  /-- THR_HIGH in force; 32; 12 R304; 0 -/
  thrHigh : Nat := 0
  /-- THR_LOW in force; 32; 12 R304; 0 -/
  thrLow : Nat := 0
  /-- event state ABOVE; 1; 12 R297; false -/
  above : Bool := false
  /-- last SEQ generated plus one; 32; 12 R298; 0 -/
  seq : Nat := 0
  /-- reset count; -; 12 R293; 0 -/
  resets : Nat := 0
  /-- whether the next record is the first after an INPUT_GAP reset; 1; 12 R298; false -/
  gapFlag : Bool := false
  /-- whether the next IQ record is still to carry SETTLED; 1; 12 R295; false -/
  settledDue : Bool := false
  /-- whether output L_s of this reset has been reached; 1; 12 R295; false -/
  settled : Bool := false
  /-- output queue, oldest first; at most 5; 12 R280; empty -/
  queue : List CtxRecord := []
  /-- in fall-back; 1; 12 R301; false -/
  fallback : Bool := false
  /-- RECORDS_DISCARDED of this fall-back; 32; 12 R299; 0 -/
  discarded : Nat := 0
  /-- EVENTS_LOST of this fall-back; 32; 12 R299; 0 -/
  eventsLost : Nat := 0
  /-- SAMPLES_DISCARDED of this fall-back; 64; 12 R299; 0 -/
  samplesLost : Nat := 0
  deriving DecidableEq, Repr, Inhabited

end Sys2Proof.Machine
end

