-- ==== Sys2Proof/Machine/State.lean ====
section
/-! DEFINITION. The whole state of the Selzan 4920 block, with its queue of waiting commands, and its reset. -/

namespace Sys2Proof.Machine

/-- What the module sends to a party outside it. -/
inductive Output where
  /-- data of a read of one BAR0 register, a TAP register or a configuration dword -/
  | word (v : Word)
  /-- data of a read through BAR2 (R182) -/
  | bar2 (data : List Byte)
  /-- a configuration write completed -/
  | cfgDone
  /-- Request Retry Status (R59) -/
  | cfgRetry
  /-- Unsupported Request (R384) -/
  | unsupported
  /-- an MSI-X message: vector, address and data (R385) -/
  | msi (vector addr : Nat) (data : Word)
  /-- a completion entry written to host memory, without Relaxed Ordering (R392) -/
  | hostWrite (addr : Nat) (data : List Byte)
  /-- data written to host memory, and whether with Relaxed Ordering (R392, R397) -/
  | hostData (addr : Nat) (data : List Byte) (relaxed : Bool)
  /-- an error message to the host: 0 ERR_COR, 1 ERR_NONFATAL, 2 ERR_FATAL (R384) -/
  | errorMessage (kind : Nat)
  /-- a read of host memory (R397) -/
  | hostRead (addr len : Nat)
  /-- bytes answered on the SMBus (R473) -/
  | smbus (data : List Byte)
  /-- a read of the flash (R110) -/
  | flashRead (off len : Nat)
  /-- an erase of the flash of one erase type, issued so many times (R110) -/
  | flashErase (off size times : Nat)
  /-- a program of the flash (R110) -/
  | flashProgram (off : Nat) (data : List Byte)
  /-- an NVMe command submitted to a drive: the queue and its entry (R358, R361, R363) -/
  | nvme (drive queue : Nat) (entry : List Byte)
  /-- a write to a register of a drive's controller (R356) -/
  | driveReg (drive : Nat) (reg : DriveReg) (value : Nat)
  /-- data returned to a read of a drive, with its bus address (R359) -/
  | driveData (drive addr : Nat) (data : List Byte)
  /-- an unsuccessful completion to a drive (R360) -/
  | driveRefused (drive : Nat)
  /-- a relay driven to a position: channel, relay (0 lining, 1 coupling), position (R136, R137) -/
  | relay (ch relay pos : Nat)
  /-- an output pin driven or released (R352) -/
  | pin (out : Nat) (level : Bool)
  deriving DecidableEq, Repr, Inhabited

/-- The reasons a step can fault: none, since the spec names no stop of the machine by a fault. -/
inductive Fault where
  deriving DecidableEq, Repr

/-- The reasons the model gives no meaning to a command. -/
inductive Refusal where
  /-- raised by an arm of exec whose command has no meaning yet; safe, since no claim follows from a stop -/
  | notModelled (mnemonic : String)
  deriving DecidableEq, Repr

/-- The state of the block. A field's default is its value at reset: nothing powered. -/
structure State where
  /-- time; -; 05 R130; 0 -/
  time : TimeBase := {}
  /-- status tree; -; 04 R92; reset values of its registers -/
  stat : StatusTree := {}
  /-- counters and holding slots; -; 04 R96; 0 -/
  snap : Snapshot := {}
  /-- CK_ENG cycle at which the open placket was opened; -; 04 R89; none open -/
  key : Option Nat := none
  /-- live parameters; -; 04 R100; 0 -/
  live : LiveBank := {}
  /-- command mailbox; -; 04 R106; 0 -/
  mbox : Mailbox := {}
  /-- loader; -; 02 R44, 03 R62; nothing read -/
  loader : Loader := {}
  /-- block IMG and key slots; -; 02 R46; reset values of its registers -/
  img : ImgRegs := {}
  /-- life cycle; -; 03 R57; POWER_UP -/
  life : Life := {}
  /-- supplies, rails, power and thermal; -; 03 R51, 19; nothing valid -/
  pwr : Power := {}
  /-- time base; -; 05 R113; reset values of its registers -/
  clk : Clk := {}
  /-- channels of the converter by number 0 to 3; -; 06 R131; default channel -/
  chans : Sparse Chan := []
  /-- central store; -; 07 R156; untrained -/
  store : Store := {}
  /-- sleeves by number; -; 07 R170; none exists -/
  sleeves : Sparse Sleeve := []
  /-- host link; -; 16 R380; down -/
  link : HostLink := {}
  /-- rings by number; -; 16 R387; default ring -/
  rings : Sparse Ring := []
  /-- engine array; -; 08 R186; not running -/
  eng : EngineArray := {}
  /-- frame and channeliser streams by number; -; 10 R242; default stream -/
  frames : Sparse FrameStream := []
  /-- SPEC_SSEL; 11; 10 SPEC block; 0 -/
  ssel : Nat := 0
  /-- trace detectors by number; -; 11 R265; default detector -/
  traces : Sparse Trace := []
  /-- TRC_DSEL; 8; 11 TRC block; 0 -/
  dselTrace : Nat := 0
  /-- density planes by number; -; 11 R272; default plane -/
  planes : Sparse Plane := []
  /-- DEN_PSEL; 4; 11 DEN block; 0 -/
  psel : Nat := 0
  /-- contexts by number; -; 12 R280; default context -/
  ctxs : Sparse Context := []
  /-- CTX_CSEL; 10; 12 CTX block; 0 -/
  ctxSel : Nat := 0
  /-- trigger engine and captures; -; 13 R306; nothing declared -/
  trig : Trigger := {}
  /-- time-interval unit; -; 14 R337; defaults of R338 -/
  tiu : Tiu := {}
  /-- recording engine; -; 15 R353; no drive, no volume -/
  disk : Disk := {}
  /-- calibration; -; 17 R406; nothing applied -/
  cal : Cal := {}
  /-- event recorder; -; 18 R422; empty -/
  recorder : Recorder := {}
  /-- monitor converters; -; 19 R454; idle -/
  mon : Monitor := {}
  /-- pins and ports; -; 20 R469; inactive -/
  pkg : Package := {}
  /-- the image that runs or ran last, as its units hold it; -; 02 R44; none -/
  image : Option Image := none
  /-- the image accepted by the loader and not yet started; -; 02 R67; none -/
  accepted : Option Image := none
  /-- paths that have exceeded their bound in this run, class and index; -; 02 R34; empty -/
  exceeded : List (Nat × Nat) := []
  /-- the model's own counter of free values used; Nat; -; DESIGN CHOICE 0 (log 8) -/
  free : Nat := 0
  /-- the model's own record of what the last command sent out of the module; -; -; DESIGN CHOICE empty (log 9) -/
  outbox : List Output := []
  /-- the model's own queue of commands, first in, first out; -; -; empty -/
  pending : List Instr := []
  deriving DecidableEq, Repr

/-- The machine right after reset: nothing powered, every register at its reset value, no command waiting. -/
def State.reset : State := {}

end Sys2Proof.Machine
end

