-- ==== Sys2Proof/Machine/Ops.lean ====
section
/-! DEFINITION. The operations every command shares: block addresses, counters with their holding slots, event
pulses, recorder events, MSI-X messages and the present time. -/

namespace Sys2Proof.Machine

/-- Base of the block with index `n` (R82). -/
def blockBase (n : Nat) : Nat :=
  ([0x000000, 0x010000, 0x020000, 0x030000, 0x040000, 0x050000, 0x060000, 0x070000, 0x080000, 0x090000,
    0x0A0000, 0x0B0000, 0x0C0000, 0x300000, 0x200000, 0x240000, 0x0D0000, 0x280000, 0x0E0000, 0x400000,
    0x0F0000, 0x100000, 0x110000, 0x120000, 0x130000] : List Nat).getD n 0

/-- Size of the block with index `n` (R82). -/
def blockSize (n : Nat) : Nat :=
  if n = 13 ∨ n = 19 then 0x100000 else if n = 14 ∨ n = 15 ∨ n = 17 then 0x40000 else 0x10000

/-- The block and the offset within it of a BAR0 offset below the holding area (R82). -/
def blockAt (off : Nat) : Option (Nat × Nat) :=
  ((List.range 25).find? (fun n => decide (blockBase n ≤ off) && decide (off < blockBase n + blockSize n))).map
    (fun n => (n, off - blockBase n))

/-- BAR0 offset of the holding slot at window offset `off` of block `n` (R97). -/
def holdKey (n off : Nat) : Nat := 0x800000 + blockBase n + off

/-- Sample count with the epoch in its high part (R8). -/
def now (s : State) : Nat := s.time.count.toNat

/-- CK_ENG cycles in one microsecond (R12). -/
def cyclesPerUs : Nat := 1280

/-- Whether a counter has 32 bits and saturates (13, 14 holding slots). -/
def saturates (key : Nat) : Bool :=
  (decide (holdKey 14 0 ≤ key) && decide (key < holdKey 14 0x400) && decide (key % 0x40 = 0)) ||
  (decide (holdKey 16 0 ≤ key) && decide (key < holdKey 16 0x200) && decide (key % 0x40 = 0x10)) ||
  (decide (holdKey 16 0x200 ≤ key) && decide (key < holdKey 16 0x280) && decide (key % 0x20 = 0x10))

/-- Whether a counter continues across a restart (R78 and the chapters that name it). -/
def continues (key : Nat) : Bool :=
  (decide (holdKey 6 0 ≤ key) && decide (key ≤ holdKey 6 0x20)) ||
  (decide (holdKey 7 0x100 ≤ key) && decide (key ≤ holdKey 7 0x130)) ||
  decide (key = holdKey 18 0) ||
  (decide (holdKey 23 0 ≤ key) && decide (key ≤ holdKey 23 0x30))

/-- A counter `n` further on: a saturating one stays at its largest value, any other wraps (R97, R98). -/
def Counter.plus (c : Counter) (sat : Bool) (n : Nat) : Counter :=
  if sat then { c with value := min (c.value + n) 0xFFFFFFFF }
  else { value := (c.value + n) % 2 ^ 64, wrap := c.wrap || decide (2 ^ 64 ≤ c.value + n) }

/-- What a snapshot copies of a counter (R96, R98). -/
def Counter.hold (c : Counter) (sat : Bool) : Held :=
  { value := c.value, wrap := c.wrap, sat := sat && decide (c.value = 0xFFFFFFFF) }

/-- A counter advanced. Its slot follows within the CK_FAB cycle of a snapshot (R96). -/
def Snapshot.bump (p : Snapshot) (key n : Nat) : Snapshot :=
  let c := (look {} p.ctrs key).plus (saturates key) n
  if p.here then
    { p with
      ctrs := put {} key { c with wrap := false } p.ctrs
      held := put {} key { c.hold (saturates key) with wrap := c.wrap || (look {} p.held key).wrap } p.held }
  else { p with ctrs := put {} key c p.ctrs }

/-- The counter with holding slot `off` of block `n` advanced by `k`. -/
def bumpBy (n off k : Nat) (s : State) : State :=
  if k = 0 then s else { s with snap := s.snap.bump (holdKey n off) k }

/-- The counter with holding slot `off` of block `n` advanced by one. -/
def bump (n off : Nat) (s : State) : State := bumpBy n off 1 s

/-- Value of a counter. -/
def counter (s : State) (n off : Nat) : Nat := (look {} s.snap.ctrs (holdKey n off)).value

/-- Event leaf bits `bits` of leaf register `k` of block `n` pulse (R92). -/
def pulse (n k : Nat) (bits : Word) (s : State) : State :=
  { s with stat := { s.stat with pulses := upd 0 (64 * n + k) (fun w => w ||| bits) s.stat.pulses } }

/-- Event leaf bit `bit` of leaf register 0 of block `n` pulses (R92). -/
def pulse0 (n bit : Nat) (s : State) : State := pulse n 0 (w32 (2 ^ bit)) s

/-- Something leaves the module. -/
def emit (o : Output) (s : State) : State := { s with outbox := s.outbox ++ [o] }

/-- Whether a record code belongs to the reserved class (18, code table). -/
def reservedCode (code : Nat) : Bool := code == 0x101A || code == 0x201B || code == 0x1024

/-- The record of an event at this time, without its sequence number (R424, R425). -/
def recordOf (s : State) (code source : Nat) (params : List Nat) : Rec :=
  { cycles := s.recorder.cycles, seconds := s.recorder.seconds, lastSeconds := s.recorder.seconds
    time := if s.time.counting then now s else 0, timeValid := s.time.counting
    code := code, source := source, params := params ++ List.replicate (4 - params.length) 0 }

/-- Whether two records merge under R428. -/
def Rec.same (a b : Rec) : Bool :=
  a.code == b.code && a.source == b.source && a.params == b.params && !reservedCode a.code

/-- A record with another merged into it, and with it the occurrences that one carries (R428, R430). -/
def Rec.merge (a b : Rec) : Rec :=
  let n := min 65535 (a.again + b.again + 1)
  { a with again := n, repeatSat := a.repeatSat || n == 65535, lastSeconds := b.lastSeconds }

/-- The queue with a record merged into its newest ring record, when R428 merges them (R430). -/
def mergeQueue (r : Rec) : List Rec → Option (List Rec)
  | [] => none
  | a :: q =>
    match mergeQueue r q with
    | some q' => some (a :: q')
    | none =>
      if q.any (fun b => !reservedCode b.code) then none
      else if a.same r then some (a.merge r :: q) else none

/-- An event enters the intake queue of the recorder (R426, R430). -/
def logEvent (code source : Nat) (params : List Nat) (s : State) : State :=
  let r := recordOf s code source params
  match (if s.recorder.freeze.isSome then mergeQueue r s.recorder.queue else none) with
  | some q => bump 23 0x30 { s with recorder := { s.recorder with queue := q } }
  | none =>
    if s.recorder.queue.length < 256 then
      { s with recorder := { s.recorder with queue := s.recorder.queue ++ [r] } }
    else
      pulse0 23 1 (bump 23 0x10 { s with recorder :=
        (if s.recorder.freeze.isSome then { s.recorder with lostFrozen := s.recorder.lostFrozen + 1 }
         else { s.recorder with lost := s.recorder.lost + 1 }) })

/-- MSI-X Message Control of the MSI-X capability, as configuration software wrote it (R385; PRESUMED layout, log 5). -/
def msixControl (l : HostLink) : Nat := fld (look 0 l.cfg Config.msixCap).toNat 16 16

/-- The link and what leaves the module when a vector's message is due: it is sent, or held as pending while masked (R94).
While MSI-X is disabled, the link is down or the function is in D3hot it is held in the same way (log 80). -/
def message (v : Nat) (l : HostLink) (out : List Output) : HostLink × List Output :=
  let e := look {} l.msix v
  if !e.masked && !tbit (msixControl l) 14 && tbit (msixControl l) 15 && l.up && !l.d3hot then
    (l, out ++ [.msi v e.addr e.data])
  else ({ l with pending := put false v true l.pending }, out)

/-- A vector's message is due (R385). -/
def sendVector (v : Nat) (s : State) : State :=
  let m := message v s.link s.outbox
  { s with link := m.1, outbox := m.2 }

/-- The state with its field time changed. -/
def mTime (f : TimeBase → TimeBase) (s : State) : State := { s with time := f s.time }

/-- The state with its field stat changed. -/
def mStat (f : StatusTree → StatusTree) (s : State) : State := { s with stat := f s.stat }

/-- The state with its field snap changed. -/
def mSnap (f : Snapshot → Snapshot) (s : State) : State := { s with snap := f s.snap }

/-- The state with its field live changed. -/
def mLive (f : LiveBank → LiveBank) (s : State) : State := { s with live := f s.live }

/-- The state with its field mbox changed. -/
def mMbox (f : Mailbox → Mailbox) (s : State) : State := { s with mbox := f s.mbox }

/-- The state with its field loader changed. -/
def mLoader (f : Loader → Loader) (s : State) : State := { s with loader := f s.loader }

/-- The state with its field img changed. -/
def mImg (f : ImgRegs → ImgRegs) (s : State) : State := { s with img := f s.img }

/-- The state with its field life changed. -/
def mLife (f : Life → Life) (s : State) : State := { s with life := f s.life }

/-- The state with its field pwr changed. -/
def mPwr (f : Power → Power) (s : State) : State := { s with pwr := f s.pwr }

/-- The state with its field clk changed. -/
def mClk (f : Clk → Clk) (s : State) : State := { s with clk := f s.clk }

/-- The state with its field store changed. -/
def mStore (f : Store → Store) (s : State) : State := { s with store := f s.store }

/-- The state with its field link changed. -/
def mLink (f : HostLink → HostLink) (s : State) : State := { s with link := f s.link }

/-- The state with its field eng changed. -/
def mEng (f : EngineArray → EngineArray) (s : State) : State := { s with eng := f s.eng }

/-- The state with its field trig changed. -/
def mTrig (f : Trigger → Trigger) (s : State) : State := { s with trig := f s.trig }

/-- The state with its field tiu changed. -/
def mTiu (f : Tiu → Tiu) (s : State) : State := { s with tiu := f s.tiu }

/-- The state with its field disk changed. -/
def mDisk (f : Disk → Disk) (s : State) : State := { s with disk := f s.disk }

/-- The state with its field cal changed. -/
def mCal (f : Cal → Cal) (s : State) : State := { s with cal := f s.cal }

/-- The state with its field recorder changed. -/
def mRec (f : Recorder → Recorder) (s : State) : State := { s with recorder := f s.recorder }

/-- The state with its field mon changed. -/
def mMon (f : Monitor → Monitor) (s : State) : State := { s with mon := f s.mon }

/-- The state with its field pkg changed. -/
def mPkg (f : Package → Package) (s : State) : State := { s with pkg := f s.pkg }

/-- The state with one channel changed. -/
def mChan (k : Nat) (f : Chan → Chan) (s : State) : State := { s with chans := upd {} k f s.chans }

/-- The state with one sleeve changed. -/
def mSleeve (k : Nat) (f : Sleeve → Sleeve) (s : State) : State := { s with sleeves := upd {} k f s.sleeves }

/-- The state with one ring changed. -/
def mRing (k : Nat) (f : Ring → Ring) (s : State) : State := { s with rings := upd {} k f s.rings }

/-- The state with one frame stream changed. -/
def mFrame (k : Nat) (f : FrameStream → FrameStream) (s : State) : State := { s with frames := upd {} k f s.frames }

/-- The state with one trace detector changed. -/
def mTrace (k : Nat) (f : Trace → Trace) (s : State) : State := { s with traces := upd {} k f s.traces }

/-- The state with one density plane changed. -/
def mPlane (k : Nat) (f : Plane → Plane) (s : State) : State := { s with planes := upd {} k f s.planes }

/-- The state with one context changed. -/
def mCtx (k : Nat) (f : Context → Context) (s : State) : State := { s with ctxs := upd {} k f s.ctxs }

/-- The state with one engine changed. -/
def mEngine (k : Nat) (f : Engine → Engine) (s : State) : State := { s with eng := { s.eng with engines := upd {} k f s.eng.engines } }

/-- The state with one trigger condition changed. -/
def mCond (k : Nat) (f : Cond → Cond) (s : State) : State := { s with trig := { s.trig with conds := upd {} k f s.trig.conds } }

/-- The state with one trigger group changed. -/
def mGroup (k : Nat) (f : Group → Group) (s : State) : State := { s with trig := { s.trig with groups := upd {} k f s.trig.groups } }

/-- The state with one event input changed. -/
def mInput (k : Nat) (f : EvtInput → EvtInput) (s : State) : State := { s with tiu := { s.tiu with inputs := upd {} k f s.tiu.inputs } }

/-- The state with one interval unit changed. -/
def mUnit (k : Nat) (f : IntervalUnit → IntervalUnit) (s : State) : State := { s with tiu := { s.tiu with units := upd {} k f s.tiu.units } }

/-- The state with one output changed. -/
def mOut (k : Nat) (f : OutPin → OutPin) (s : State) : State := { s with tiu := { s.tiu with outs := upd {} k f s.tiu.outs } }

/-- The state with one drive changed. -/
def mDrive (k : Nat) (f : Drive → Drive) (s : State) : State := { s with disk := { s.disk with drives := upd {} k f s.disk.drives } }

/-- The state code of SYS_STATE. -/
def SysState.code : SysState → Nat
  | .powerUp => 0 | .loading => 1 | .running => 2 | .restarting => 3 | .safe => 4
  | .stopped => 5 | .standbyEntry => 6 | .standby => 7 | .off => 8 | .faultOff => 9

/-- Whether the function runs. -/
def running (s : State) : Bool := s.life.sys == .running

/-- Whether the function's units still work: running, and not yet stopped at the seam of a stop sequence (R75). -/
def functionLive (s : State) : Bool := s.eng.running

/-- The image that the function's units hold. -/
def img (s : State) : Image := s.image.getD {}

/-- The next value of the model's counter of free values. -/
def nextFree (s : State) : State := { s with free := s.free + 1 }

end Sys2Proof.Machine
end

