-- ==== Sys2Proof/Machine/Status.lean ====
section
/-! DEFINITION. The status tree: the level of every leaf, the latches above them, vector 0, and the frame in which
every command acts. -/

namespace Sys2Proof.Machine

/-- A word with the given bits, bit 0 first. -/
def bitsW (bs : List Bool) : Word := w32 (bs.foldr (fun b n => b2n b + 2 * n) 0)

/-- Whether the store aperture is open (R60, R75 step 5). -/
def bar2Open (s : State) : Bool :=
  match s.life.sys with
  | .running => true
  | .restarting | .standbyEntry | .stopped => match s.life.stop with
    | some q => decide (q.step < 5)
    | none => false
  | _ => false

/-- The neighbours of a channel (R147). -/
def neighbours (c : Nat) : List Nat :=
  if c = 0 then [1] else if c = 3 then [2] else [c - 1, c + 1]

/-- A channel of the converter. -/
def chan (s : State) (c : Nat) : Chan := look {} s.chans c

/-- Whether channel `c` marks ADJ (R148), seen at the level of its leaf. -/
def adjActive (s : State) (c : Nat) : Bool :=
  let h := chan s c
  h.fault || h.couplingTransit.isSome || h.switching ||
    (neighbours c).any (fun d => (chan s d).window || (chan s d).lastClamp.isSome)

/-- Whether channel `c` switches range or has a relay in transit. -/
def switchingActive (s : State) (c : Nat) : Bool :=
  let h := chan s c
  h.switching || h.couplingTransit.isSome || h.liningTransit.isSome

/-- A sleeve. -/
def sleeve (s : State) (i : Nat) : Sleeve := look {} s.sleeves i

/-- The declaration of a sleeve. -/
def sleeveDecl (s : State) (i : Nat) : SleeveDecl := (img s).sleeves.getD i {}

/-- Whether some sleeve written by a unit is stopped. -/
def unitStopped (s : State) (unit : Nat) : Bool :=
  s.sleeves.any (fun p => p.2.stopped && (sleeveDecl s p.1).writerUnit == unit)

/-- Whether some spectra sleeve, a frame stream's DST, is stopped. -/
def spectraStopped (s : State) : Bool :=
  (img s).frames.any (fun f => (sleeve s f.dst).stopped)

/-- A ring of the DMA engine. -/
def ring (s : State) (q : Nat) : Ring := look {} s.rings q

/-- The declaration of a ring, none when it is not declared (R388). -/
def ringDecl (s : State) (q : Nat) : Option RingDecl := (img s).rings.find? (fun d => d.ring == q)

/-- Entries of a ring (R389). -/
def Ring.size (r : Ring) : Nat := 2 ^ r.sizeLog2

/-- Whether the completion ring has no free place (R389). -/
def Ring.full (r : Ring) : Bool := (r.ctail + 1) % r.size == r.chead

/-- Whether a ring waits for room in its writer sleeve (R396). -/
def Ring.destWaiting (r : Ring) : Bool := match r.run with
  | some u => u.phase == .destWait
  | none => false

/-- Whether a STREAM ring has stopped reading for want of a buffer or an entry (R404). -/
def stalled (s : State) (q : Nat) (r : Ring) : Bool :=
  match ringDecl s q with
  | some d => d.kind == .stream && r.running && r.halt == 0 &&
      ((r.run.isNone && r.head == r.tail) || r.full)
  | none => false

/-- Whether the recorder is frozen (R430). -/
def frozen (s : State) : Bool := s.recorder.freeze.isSome

/-- Whether the function was stopped by a controlled stop of the thermal or margin kind and stands STOPPED (R451). -/
def standsStopped (s : State) : Bool := s.life.sys == .stopped

/-- The tuning converter's code brought into its range (R116). -/
def clampCode (c : Int) : Int := clampI (-8388608) 8388607 c

/-- Whether the ageing model owns the tuning converter (R113). In REF_FAR, which R113 does not name, the model owns it
(DESIGN CHOICE, log 118). -/
def modelOwns (c : Clk) : Bool := c.lock != .acquiring && c.lock != .locked

/-- TUNE_LIMIT: the ageing model asks for a code outside the range and the converter holds the limit (R116). -/
def tuneLimit (c : Clk) : Bool := modelOwns c && clampCode c.target != c.target && c.code == clampCode c.target

/-- Whether a placket is open: 160,000 CK_HK cycles after its opening it closes (R89). -/
def placketOpen (s : State) : Bool := match s.key with
  | some c => decide (s.time.cycle - c < 1280000)
  | none => false

/-- The level leaves of leaf register `k` of block `n`, as the state gives them (R92). -/
def level (s : State) (n k : Nat) : Word :=
  match n, k with
  | 0, 0 => bitsW [false, false, !s.exceeded.isEmpty]
  | 2, 1 => bitsW [placketOpen s]
  | 6, 0 => bitsW [!s.clk.settled, s.clk.lock == .acquiring, false, s.clk.lock == .refFar, s.clk.lock == .holdover,
      tuneLimit s.clk]
  | 7, 0 => bitsW ((List.range 4).map (fun c => (chan s c).window) ++ (List.range 4).map (adjActive s) ++
      (List.range 4).map (switchingActive s) ++ (List.range 4).map (fun c => (chan s c).fault))
  | 7, k + 1 => if k < 4 then w32 (chan s k).clamping else 0
  | 8, 0 => bitsW [false, false, s.store.queues.any (fun p => p.2.any (fun t => !t.tag)), s.store.backlog]
  | 8, 1 => bitsW [s.sleeves.any (fun p => p.2.stopped), s.sleeves.any (fun p => p.2.dropping), false, false,
      s.sleeves.any (fun p => p.2.resumeHeld)]
  | 10, 0 => bitsW [false, false, false, s.frames.any (fun p => p.2.unsettled), spectraStopped s]
  | 11, 0 => bitsW [false, false, unitStopped s 0x05]
  | 12, 0 => bitsW [false, false, false, false,
      s.planes.any (fun p => match p.2.pass with | some c => c.started | none => false), unitStopped s 0x14]
  | 13, 0 => bitsW [false, false, s.ctxs.any (fun p => p.2.fallback), s.ctxs.any (fun p => p.2.heldBank.isSome)]
  | 14, 0 => bitsW [false, false, false, false, false, s.trig.groups.any (fun p => p.2.state == .armed)]
  | 15, 0 => bitsW [false, false, false, false, false, s.trig.groups.any (fun p => decide (64 ≤ p.2.notices.length))]
  | 16, 0 => bitsW [false, false, false, false, false, s.tiu.inputs.any (fun p => p.2.calibrating), false,
      s.tiu.inputs.any (fun p => p.2.settling)]
  | 17, 0 => bitsW [false, false, s.disk.vol.failed != 0, s.disk.vol.state == .stopped, false, false, false,
      s.disk.vol.mismatch, s.disk.vol.full]
  | 18, 0 => bitsW [false, !bar2Open s]
  | 19, 0 => bitsW [false, false, false, s.rings.any (fun p => p.2.halt != 0),
      s.rings.any (fun p => stalled s p.1 p.2), s.rings.any (fun p => p.2.destWaiting)]
  | 20, 0 => bitsW [s.pwr.warn, standsStopped s, s.pwr.overClass, s.pwr.marginLow && s.pwr.analysis,
      s.pwr.setpoint == 850 && s.pwr.on]
  | 22, 0 => bitsW [false, false, false, false, false, s.cal.run.isSome, s.cal.applied && s.cal.gen == 0]
  | 23, 0 => bitsW [false, false, false, s.recorder.degraded, frozen s, s.recorder.reservedFull]
  | _, _ => 0

/-- The leaf registers, block and position (R92); STAT_FAULT of block 1 is none of them (DESIGN CHOICE, log 140). -/
def leafRegs : List (Nat × Nat) :=
  [(0, 0), (2, 0), (2, 1), (4, 0), (5, 0), (6, 0), (7, 0), (7, 1), (7, 2), (7, 3), (7, 4), (8, 0), (8, 1), (9, 0),
   (10, 0), (11, 0), (12, 0), (13, 0), (14, 0), (15, 0), (16, 0), (17, 0), (18, 0), (19, 0), (20, 0), (21, 0), (22, 0),
   (23, 0)]

/-- A leaf register: its levels and the events that pulse in this CK_FAB cycle (R92). -/
def leaf (s : State) (n k : Nat) : Word := level s n k ||| look 0 s.stat.pulses (64 * n + k)

/-- STAT_GRPn with both its latched parts. -/
def StatusTree.group (t : StatusTree) (n : Nat) : Word := look 0 t.grp n ||| look 0 t.grpFresh n

/-- STAT_SUMMARY with both its latched parts. -/
def StatusTree.top (t : StatusTree) : Word := t.summary ||| t.summaryFresh

/-- Bit k of STAT_GRPn latches, and bit n of STAT_SUMMARY when the former was clear (R92). -/
def StatusTree.latch (t : StatusTree) (nk : Nat × Nat) : StatusTree :=
  { t with
    grpFresh := upd 0 nk.1 (fun w => w ||| w32 (2 ^ nk.2)) t.grpFresh
    summaryFresh := if t.group nk.1 &&& w32 (2 ^ nk.2) = 0 then t.summaryFresh ||| w32 (2 ^ nk.1) else t.summaryFresh }

/-- The leaf registers in which some bit rose between two states (R92, R93). -/
def rises (o s : State) : List (Nat × Nat) :=
  leafRegs.filter (fun p => (leaf s p.1 p.2 &&& ~~~ leaf o p.1 p.2) ≠ 0)

/-- The status tree after a command: every rise latches (R92). -/
def settledTree (o s : State) : StatusTree := (rises o s).foldl StatusTree.latch s.stat

/-- Whether STAT_SUMMARY AND STAT_VEC0_EN rose from zero (R94). -/
def vectorZeroDue (o : State) (t : StatusTree) : Bool :=
  (o.stat.top &&& o.stat.vec0En) == 0 && (t.top &&& t.vec0En) != 0

/-- The link and what leaves the module after a command: vector 0 is sent or held (R94). -/
def settledLink (o s : State) : HostLink × List Output :=
  if vectorZeroDue o (settledTree o s) then message 0 s.link s.outbox else (s.link, s.outbox)

/-- The state after a command's own effect, with the status tree and vector 0 brought up to date. -/
def settle (o s : State) : State :=
  { s with stat := settledTree o s, link := (settledLink o s).1, outbox := (settledLink o s).2 }

/-- A command's outcome: its effect, then the status tree. What the command before it sent has left the module. -/
def act (f : State → State) (s : State) : Host.Outcome State Fault Refusal :=
  .next (settle s (f { s with outbox := [] }))

/-- STAT_FAULT: each bit shows its cause, whether or not the policy lets it count (R95; DEDUCED, log 19). -/
def statFault (s : State) : Word :=
  bitsW [s.img.safe,
    s.pwr.cause == .railFault || s.pwr.cause == .storeTrain || s.pwr.cause == .inputTrip,
    s.life.sys == .stopped,
    s.pwr.cause == .thermalShutdown,
    s.pwr.warn,
    s.recorder.degraded]

/-- The bits of STAT_FAULT that count: the two that depend on a policy only when the running image sets it (R95). -/
def faultCounts (s : State) : Word :=
  0xF ||| bitsW [false, false, false, false,
    (img s).policy.faultOnWarn == 1 && s.image.isSome,
    (img s).policy.faultOnLog == 1 && s.image.isSome]

/-- Whether FAULT_N is asserted: the power controller drives it while VAUX3V3 is valid (R52, R95, R477). -/
def faultN (s : State) : Bool := s.pwr.vaux && (statFault s &&& faultCounts s) != 0

/-- The CK_FAB boundary: pulses end, latches of the ended cycle become readable (R86, R92). -/
def fabBoundary (s : State) : State :=
  { s with
    stat := { s.stat with
      pulses := []
      grp := s.stat.grpFresh.foldl (fun m p => upd 0 p.1 (fun w => w ||| p.2) m) s.stat.grp
      grpFresh := []
      summary := s.stat.top
      summaryFresh := 0 }
    snap := { s.snap with here := false } }

/-- The present time moved on by CK_ENG cycles; the sample count moves 16 a cycle while it counts (R13, R130). -/
def TimeBase.plus (t : TimeBase) (n : Nat) : TimeBase :=
  { t with cycle := t.cycle + n, count := if t.counting then t.count + BitVec.ofNat 80 (16 * n) else t.count }

/-- One CK_ENG cycle passes; two make a CK_FAB cycle (R12). -/
def passCycle (s : State) : State :=
  let s := { s with time := s.time.plus 1 }
  if s.time.cycle % 2 = 0 then fabBoundary s else s

end Sys2Proof.Machine
end

