-- ==== Sys2Proof/Machine/Sleeves.lean ====
section
/-! DEFINITION. Sleeves (07): geometry, guards, markers, writing by blocks, laps and length changes, reading. -/

namespace Sys2Proof.Machine

/-- Bytes of a granule (R172). -/
def SleeveFormat.granule : SleeveFormat → Nat
  | .p12 => 196608
  | _ => 4096

/-- Bytes of a block; a flag sleeve follows its raw sleeve, whose block is 8,192 samples (R172, R151). -/
def SleeveFormat.block : SleeveFormat → Nat
  | .p12 => 12288
  | .flag => 256
  | _ => 4096

/-- Length in force of a sleeve in bytes (R180). -/
def lenBytes (s : State) (i : Nat) : Nat := (sleeve s i).inForce * (sleeveDecl s i).format.granule

/-- Whether a reader of the declaration is an open one (R171). -/
def ReaderDecl.opened (r : ReaderDecl) : Bool := decide (0x10 ≤ r.unit)

/-- An open reader of a sleeve by its place in the declaration. -/
def reader (s : State) (i j : Nat) : Reader := look {} (sleeve s i).readers j

/-- Positions of the open readers of a sleeve. -/
def openReaders (s : State) (i : Nat) : List Nat :=
  (List.range (sleeveDecl s i).readers.length).filter (fun j => ((sleeveDecl s i).readers.getD j {}).opened)

/-- The place of the reader with a unit code and index. -/
def readerPlace (s : State) (i unit index : Nat) : Option Nat :=
  (List.range (sleeveDecl s i).readers.length).find? (fun j =>
    let r := (sleeveDecl s i).readers.getD j {}
    r.unit == unit && r.index == index)

/-- The length that bounds the writer against a reader: that of the old pass while the reader stands in it (R175, R180). -/
def boundLen (s : State) (i count : Nat) : Nat :=
  if count < (sleeve s i).passStart then (sleeve s i).prevLen else lenBytes s i

/-- Margin a writer keeps behind a guarded reader (R175). -/
def guardMargin (unit : Nat) : Nat := if unit = 0x10 then 1048576 else 0

/-- Whether the guard of a reader holds the writer: that of a recording stream only while the volume runs, and for a
CAPTURE stream only while it has a capture to record (R330, R370, R375). -/
def guardHolds (s : State) (d : ReaderDecl) : Bool :=
  d.guarded && (d.unit != 0x10 || ((s.disk.vol.state == .opened || s.disk.vol.state == .degraded) &&
    (match (img s).drives.streams[d.index]? with
     | some r => !r.capture || s.disk.vol.captures.any (fun j => j.stream == d.index)
     | none => true)))

/-- Whether `n` more bytes fit behind every guarded reader (R175). -/
def fits (s : State) (i n : Nat) : Bool :=
  (openReaders s i).all (fun j =>
    let d := (sleeveDecl s i).readers.getD j {}
    let c := (reader s i j).count
    !guardHolds s d || decide ((sleeve s i).wcount + (sleeve s i).reserved + n + guardMargin d.unit ≤ c + boundLen s i c))

/-- Largest LAG of a static stream that reads a sleeve (R160). -/
def maxLag (s : State) (i : Nat) : Nat :=
  ((img s).slots.streams.filter (fun d => d.dir == 1 && d.sleeve == i)).foldl (fun m d => max m d.lag) 0

/-- Whether a reader is that of a recording stream with nothing to record, which holds no place in the sleeve (R330). -/
def idleDsk (s : State) (d : ReaderDecl) : Bool := d.unit == 0x10 && !guardHolds s d

/-- Whether every reader has passed the oldest marker of the list (R176). -/
def markerPassed (s : State) (i : Nat) (m : Marker) : Bool :=
  (openReaders s i).all (fun j => idleDsk s ((sleeveDecl s i).readers.getD j {}) ||
    decide ((sleeve s i).markersGone < (reader s i j).passed)) &&
    decide (m.position + maxLag s i ≤ (sleeve s i).wcount)

/-- The oldest marker is removed once every reader has passed it, and so on down the list (R176). -/
def tidyLoop (i : Nat) : Nat → State → State
  | 0, s => s
  | k + 1, s => match (sleeve s i).markers with
    | [] => s
    | m :: rest => if markerPassed s i m then
        tidyLoop i k (mSleeve i (fun v => { v with markers := rest, markersGone := v.markersGone + 1 }) s) else s

/-- The flag sleeve of a raw sleeve, or the raw sleeve of a flag sleeve, when it has one (R151). -/
def companion (s : State) (i : Nat) : List Nat :=
  let c := (sleeveDecl s i).companion
  if c = 0xFFFF then [] else [c]

/-- A raw sleeve and its flag sleeve, which stop and resume together (R152). -/
def pair (s : State) (i : Nat) : List Nat := i :: companion s i

/-- A stopped raw writer and its flag writer resume together; while a marker list of theirs is full, the arm stays
pending (R152, R175). -/
def resumeWriter (i : Nat) (s : State) : State :=
  let room := (pair s i).all (fun j => decide ((sleeve s j).markers.length ≤ 63))
  (pair s i).foldl (fun s j => mSleeve j (fun v =>
    if !v.stopped then v
    else if room then { v with stopped := false, resumeHeld := false, awaitBlock := true }
    else { v with resumeHeld := true }) s) s

/-- Markers that every reader has passed are removed; a held arm then resumes its writer when there is room (R175,
R176). -/
def tidyMarkers (i : Nat) (s : State) : State :=
  let s := tidyLoop i 64 s
  if (sleeve s i).resumeHeld then resumeWriter i s else s

/-- The list with a GAP merged into the newest GAP marker (R177); the newest marker stands last. -/
def mergeGap (blocks : Nat) : List Marker → List Marker
  | [] => []
  | m :: r => if r.any (fun x => !x.overflow) then m :: mergeGap blocks r
    else if m.overflow then m :: r else { m with blocks := m.blocks + blocks } :: r

/-- A marker placed at the write count (R176, R177). -/
def placeMarker (i : Nat) (overflow : Bool) (blocks time : Nat) (s : State) : State :=
  let v := sleeve s i
  if !overflow && 64 ≤ v.markers.length then
    pulse0 8 5 (bump 8 0x8040 (mSleeve i (fun v => { v with markers := mergeGap blocks v.markers }) s))
  else mSleeve i (fun v => { v with
    markers := v.markers ++ [{ overflow := overflow, blocks := if overflow then 0 else blocks, time := time, position := v.wcount }] }) s

/-- The unit in which a RESIZE_GAP is told: samples for raw sleeves, bytes otherwise (R180). -/
def gapAmount (f : SleeveFormat) (bytes : Nat) : Nat :=
  match f with
  | .p12 => bytes * 2 / 3
  | .u16 => bytes / 2
  | _ => bytes

/-- A reader told of bytes lost by a length change (R180). -/
def resizeReader (i j amount newCount : Nat) (s : State) : State :=
  pulse 8 1 4 (mSleeve i (fun v => { v with readers := upd {} j (fun r => { r with
    count := newCount
    notices := r.notices ++ [.resizeGap (gapAmount (sleeveDecl s i).format amount) newCount] }) v.readers }) s)

/-- Whether a region of a drive capture has been recorded to its end (R370). -/
def regionDone (r : Nat × Nat × Option Nat) : Bool := match r.2.2 with
  | some e => decide (e ≤ r.2.1)
  | none => false

/-- Whether a CONTINUOUS stream records a sleeve (R370). -/
def recordsAlways (s : State) (i : Nat) : Bool :=
  (img s).drives.streams.any (fun r => !r.capture && (r.sleeves.flatMap (pair s)).contains i)

/-- The write counts at which the recording engine reads on in a sleeve: for the captures it has not recorded to their
ends, and for a CONTINUOUS stream (R330, R370). -/
def dskNext (s : State) (i : Nat) : List Nat :=
  (s.disk.vol.captures.filter (fun j => !j.cancelled)).flatMap (fun j =>
    (j.regions.filter (fun r => r.1 == i && !regionDone r)).map (fun r => r.2.1)) ++
  (if recordsAlways s i then [look 0 s.disk.vol.nextWc i] else [])

/-- Where an open reader stands as a length change finds it: the recording engine's where it reads on, which is past the
stripes it has still to complete (R180, R370). -/
def readsAt (s : State) (i j : Nat) : Nat :=
  let c := (reader s i j).count
  if ((sleeveDecl s i).readers.getD j {}).unit = 0x10 then
    match dskNext s i with
    | [] => c
    | n :: r => r.foldl min n
  else c

/-- An open reader of the old pass at or beyond the new end moves to offset 0 (R180). -/
def settleReader (i : Nat) (s : State) (j : Nat) : State :=
  let v := sleeve s i
  let c := readsAt s i j
  let off := v.prevLen - (v.passStart - c)
  if idleDsk s ((sleeveDecl s i).readers.getD j {}) then s
  else if c < v.passStart && lenBytes s i ≤ off then resizeReader i j (v.prevLen - off) v.passStart s else s

/-- The writer's wrap: the active length comes into force, readers beyond the new end move (R180). -/
def wrapSleeve (i : Nat) (s : State) : State :=
  let old := lenBytes s i
  let s := mSleeve i (fun v => { v with
    passStart := v.wcount, prevLen := old
    hwm := if v.active = v.inForce then v.hwm else 0
    inForce := v.active }) s
  (openReaders s i).foldl (settleReader i) s

/-- A LAPPED notice joined to the newest one not yet taken when that is one too (R178). -/
def addLapped (bytes count : Nat) : List Notice → List Notice
  | [] => [.lapped bytes count]
  | [.lapped b _] => [.lapped (b + bytes) count]
  | x :: r => x :: addLapped bytes count r

/-- An unguarded reader whose unread data the writer overwrites moves to the oldest block in the sleeve (R178). -/
def lapReader (i : Nat) (s : State) (j : Nat) : State :=
  let v := sleeve s i
  let d := (sleeveDecl s i).readers.getD j {}
  let c := (reader s i j).count
  let b := (sleeveDecl s i).format.block
  let top := (v.wcount + b - 1) / b * b
  if !guardHolds s d && !idleDsk s d && c + boundLen s i c < top then
    let n := if top - v.passStart < min v.prevLen (lenBytes s i) && c < v.passStart then top - v.prevLen
      else if c < v.passStart then v.passStart else top - lenBytes s i
    let s := if d.unit = 0x11 then bumpBy 19 (0x40 * d.index + 0x20) (n - c) s else s
    pulse 8 1 8 (mSleeve i (fun v => { v with readers := upd {} j (fun r => { r with
      count := n, notices := addLapped (n - c) n r.notices }) v.readers }) s)
  else s

/-- Bytes stored at the write count, at most to the end of the pass. -/
def storeChunk (i : Nat) (data : List Byte) (s : State) : State :=
  let v := sleeve s i
  let off := v.wcount - v.passStart
  let s := { s with store := { s.store with mem := putBytes ((sleeveDecl s i).base + off) data s.store.mem } }
  let s := mSleeve i (fun v => { v with wcount := v.wcount + data.length, hwm := max v.hwm (off + data.length) }) s
  let s := (openReaders s i).foldl (lapReader i) s
  if lenBytes s i ≤ off + data.length && 0 < lenBytes s i then wrapSleeve i s else s

/-- Bytes stored in circular order, cut at the ends of passes. -/
def storeBytes (i : Nat) : Nat → List Byte → State → State
  | 0, _, s => s
  | k + 1, data, s =>
    if data.isEmpty then s
    else
      let v := sleeve s i
      let room := lenBytes s i - (v.wcount - v.passStart)
      if room = 0 then s
      else storeBytes i k (data.drop room) (storeChunk i (data.take room) s)

/-- Bytes stored whatever their number: `length + 1` chunks always suffice. -/
def storeAll (i : Nat) (data : List Byte) (s : State) : State :=
  let s := storeBytes i (data.length + 1) data s
  if (sleeveDecl s i).format = .result then
    mSleeve i (fun v => { v with written := (v.wcount, s.time.cycle) :: v.written }) s
  else s

/-- The CK_ENG cycle at which write count `q` was reached, among writes newest first. -/
def reachedAt (q now : Nat) : List (Nat × Nat) → Nat
  | [] => now
  | w :: r => if q ≤ w.1 then reachedAt q w.2 r else now

/-- The CK_ENG cycle at which the bytes of a sleeve below write count `q` were complete (R34). -/
def completeAt (s : State) (i q : Nat) : Nat := reachedAt q s.time.cycle (sleeve s i).written

/-- The writer stops and an OVERFLOW marker is placed (R175). -/
def stopWriter (i time : Nat) (s : State) : State :=
  mSleeve i (fun v => { v with stopped := true, storing := false }) (placeMarker i true 0 time s)

/-- A block is dropped and counted (R175). -/
def dropBlock (i time : Nat) (s : State) : State :=
  bump 8 (0x10 * i) (mSleeve i (fun v => { v with
    dropping := true, storing := false
    dropBlocks := v.dropBlocks + 1, dropTime := if v.dropping then v.dropTime else time }) s)

/-- A block that fits after a dropped run: the GAP marker is placed before it (R175). -/
def endDrop (i : Nat) (s : State) : State :=
  let v := sleeve s i
  if v.dropping then
    mSleeve i (fun v => { v with dropping := false, dropBlocks := 0 }) (placeMarker i false v.dropBlocks v.dropTime s)
  else s

/-- A result whose first sample is sample `t` stands at the write count of a RESULT sleeve (R367). -/
def noteResult (i t : Nat) (s : State) : State :=
  if (sleeveDecl s i).format = .result then mSleeve i (fun v => { v with results := (v.wcount, t) :: v.results }) s else s

/-- A sleeve of RESULT format takes bytes: its writer decides at the start of each block (R175). The first result not
stored at offset `k` of the data bears the time `tm k` (R176). -/
def appendLoop (i : Nat) (tm : Nat → Nat) : Nat → Nat → List Byte → State → State
  | 0, _, _, s => s
  | k + 1, o, data, s =>
    let v := sleeve s i
    let b := (sleeveDecl s i).format.block
    if data.isEmpty || v.stopped then s
    else if 0 < v.skip then
      appendLoop i tm k (o + v.skip) (data.drop v.skip) (mSleeve i (fun v => { v with skip := v.skip - data.length }) s)
    else
      let n := b - v.wcount % b
      if v.wcount % b = 0 && !fits s i b then
        if (sleeveDecl s i).kind == .continuous then
          appendLoop i tm k o data (mSleeve i (fun v => { v with skip := b }) (dropBlock i (tm o) s))
        else stopWriter i (tm o) s
      else
        let s := if v.wcount % b = 0 then endDrop i s else s
        appendLoop i tm k (o + n) (data.drop n) (storeAll i (data.take n) (noteResult i (tm o) s))

/-- Bytes appended by the sleeve's writer, whose result at offset `k` bears the time `tm k` (R175). -/
def appendTimed (i : Nat) (tm : Nat → Nat) (data : List Byte) (s : State) : State :=
  tidyMarkers i (appendLoop i tm (2 * data.length + 2) 0 data s)

/-- Bytes appended by the sleeve's writer, whose results all bear `time` (R175). -/
def appendBytes (i time : Nat) (data : List Byte) (s : State) : State := appendTimed i (fun _ => time) data s

/-- Whether every block that `n` open bytes begin fits (R175, R300). -/
def recordFits (s : State) (i n : Nat) : Bool :=
  let w := (sleeve s i).wcount + (sleeve s i).reserved
  let b := (sleeveDecl s i).format.block
  let start := (w + b - 1) / b * b
  let last := (w + n + b - 1) / b * b
  !decide (start < w + n) || fits s i (last - w)

/-- A record that does not fit: a CONTINUOUS sleeve drops it whole, any other sleeve's writer stops (R175, R250). -/
def refuseRecord (i time : Nat) (s : State) : State :=
  if (sleeveDecl s i).kind == .continuous then dropBlock i time s else stopWriter i time s

/-- A record appended whole or not at all, as it fits at its first byte (R250, R272, R347). Second: whether it was
stored. -/
def appendRecord (i time : Nat) (data : List Byte) (s : State) : State × Bool :=
  if (sleeve s i).stopped then (s, false)
  else if fits s i data.length then (tidyMarkers i (storeAll i data (noteResult i time (endDrop i s))), true)
  else (refuseRecord i time s, false)

/-- Samples in a block of a raw sleeve (R172). -/
def rawBlock (f : SleeveFormat) : Nat := if f = .p12 then 8192 else 2048

/-- The start of a raw sleeve's block at sample count `n`: whether it is stored, for the sleeve and its flag sleeve
alike (R152, R175). -/
def beginRawBlock (i n : Nat) (s : State) : State :=
  let v := sleeve s i
  let both := pair s i
  if v.stopped then s
  else if both.all (fun j => fits s j (sleeveDecl s j).format.block) then
    let began := v.awaitBlock || v.anchors.isEmpty
    let fresh := began || v.dropping
    let s := both.foldl (fun s j => mSleeve j (fun v => { v with storing := true, awaitBlock := false }) (endDrop j s)) s
    let s := if began then mSleeve i (fun v => { v with began := some n }) s else s
    if fresh then
      mSleeve i (fun v => { v with
        anchors := ((if (sleeveDecl s i).format = .p12 then v.wcount * 2 / 3 else v.wcount / 2), n) :: v.anchors }) s
    else s
  else if (sleeveDecl s i).kind == .continuous then both.foldl (fun s j => dropBlock j n s) s
  else both.foldl (fun s j => stopWriter j n s) s

/-- The sample time of position `p` of a raw sleeve (R242). -/
def timeAt (s : State) (i p : Nat) : Nat :=
  match (sleeve s i).anchors.find? (fun a => decide (a.1 ≤ p)) with
  | some a => a.2 + (p - a.1)
  | none => p

/-- The positions a raw sleeve has stored (R242). -/
def storedPositions (s : State) (i : Nat) : Nat :=
  if (sleeveDecl s i).format = .p12 then (sleeve s i).wcount * 2 / 3 else (sleeve s i).wcount / 2

/-- Whether a marker of a raw sleeve stands within the `n` positions from `p`: where its writer went on, and where the
stored positions of a writer still stopped end (R252, R286). -/
def markerWithin (s : State) (i p n : Nat) : Bool :=
  (sleeve s i).anchors.dropLast.any (fun a => decide (p ≤ a.1) && decide (a.1 < p + n)) ||
    ((sleeve s i).stopped && decide (storedPositions s i < p + n))

/-- Offset in the sleeve of the byte with write count `q` (R180). -/
def byteOffset (s : State) (i q : Nat) : Nat :=
  let v := sleeve s i
  if v.passStart ≤ q then q - v.passStart else v.prevLen - (v.passStart - q)

/-- `n` bytes of a sleeve from write count `q`. -/
def sleeveBytes (s : State) (i q n : Nat) : List Byte :=
  (List.range n).map (fun k => look 0 s.store.mem ((sleeveDecl s i).base + byteOffset s i (q + k)))

/-- Bytes an open reader can take in one run: up to the write count, the end of its pass, or the next marker (R174,
R176, R180). -/
def readable (s : State) (i j : Nat) : Nat :=
  let v := sleeve s i
  let c := (reader s i j).count
  let top := if c < v.passStart then c + (min v.prevLen (lenBytes s i) - byteOffset s i c) else v.wcount
  let stopAt := match v.markers[(reader s i j).passed - v.markersGone]? with
    | some m => min top m.position
    | none => top
  stopAt - c

/-- The marker an open reader has reached and not yet received (R176). -/
def markerDue (s : State) (i j : Nat) : Option Marker :=
  match (sleeve s i).markers[(reader s i j).passed - (sleeve s i).markersGone]? with
  | some m => if m.position ≤ (reader s i j).count then some m else none
  | none => none

/-- A reader has received a marker. -/
def takeMarker (i j : Nat) (s : State) : State :=
  tidyMarkers i (mSleeve i (fun v => { v with readers := upd {} j (fun r => { r with passed := r.passed + 1 }) v.readers }) s)

/-- An open reader has read `n` bytes; at the new end of a shrunk sleeve it moves on (R180). -/
def advanceReader (i j n : Nat) (s : State) : State :=
  let s := mSleeve i (fun v => { v with readers := upd {} j (fun r => { r with count := r.count + n }) v.readers }) s
  tidyMarkers i (settleReader i s j)

/-- The state of a sleeve at function start (R78, R174). -/
def sleeveStart (d : SleeveDecl) : Sleeve :=
  { active := d.granules, inForce := d.granules }

/-- The sleeve that contains a store address, with the offset in it. -/
def sleeveAt (s : State) (a : Nat) : Option (Nat × Nat) :=
  ((List.range (img s).sleeves.length).find? (fun i =>
    let d := sleeveDecl s i
    decide (d.base ≤ a) && decide (a < d.base + d.maxGranules * d.format.granule))).map
      (fun i => (i, a - (sleeveDecl s i).base))

end Sys2Proof.Machine
end

