-- ==== Sys2Proof/Machine/Channels.lean ====
section
/-! DEFINITION. The channels of the converter (06): relays, ranges, overload windows, marks, raw and flag bytes. -/

namespace Sys2Proof.Machine

/-- A run of marked samples joined to the newest run it touches (R146). -/
def joinRun (a b : Nat) : List (Nat × Nat) → List (Nat × Nat)
  | [] => [(a, b)]
  | (x, y) :: r => if a ≤ y + 1 then (min x a, max y b) :: r else (a, b) :: (x, y) :: r

/-- Whether a sample lies in a run. -/
def inRuns (n : Nat) (rs : List (Nat × Nat)) : Bool := rs.any (fun r => decide (r.1 ≤ n) && decide (n ≤ r.2))

/-- Samples of `a` to `b` that lie in runs. -/
def countRuns (a b : Nat) (rs : List (Nat × Nat)) : Nat :=
  rs.foldl (fun c r => if max a r.1 ≤ min b r.2 then c + (min b r.2 + 1 - max a r.1) else c) 0

/-- Sample count of the first of the 16 samples of this CK_ENG cycle (R139). -/
def cycleBase (s : State) : Nat := now s / 16 * 16

/-- Recovery extension of an overload window in samples (R146). -/
def extension (deep : Bool) : Nat := if deep then 512 else 33

/-- ADJ marked on a channel from `a` to `b` (R148). -/
def markAdj (c a b : Nat) (s : State) : State := mChan c (fun h => { h with adjRuns := joinRun a b h.adjRuns }) s

/-- An overload window marked from `a` to `b`: OVR on the channel, ADJ on its neighbours (R146, R147). -/
def markWindow (c a b : Nat) (s : State) : State :=
  let s := mChan c (fun h => { h with ovrRuns := joinRun a b h.ovrRuns }) s
  (neighbours c).foldl (fun s d => markAdj d a (b + 512) s) s

/-- Whether a clamp at sample `n` joins the channel's overload window: it overlaps or touches its marking (R146). -/
def joinsWindow (h : Chan) (n : Nat) : Bool := match h.lastClamp with
  | some l => decide (n ≤ l + extension h.deep + 1)
  | none => false

/-- A slice of a channel clamps in this CK_ENG cycle (R145, R146). -/
def clampSlice (c slice : Nat) (s : State) : State :=
  let n := cycleBase s + slice
  let h := chan s c
  let joined := joinsWindow h n
  let deep := (joined && h.deep) || h.deepAt == some (cycleBase s)
  let top := if joined then max n (h.lastClamp.getD 0) else n
  let s := if joined then s else bump 7 (0x20 + 0x40 * c) s
  let s := mChan c (fun h => { h with
    clamping := h.clamping ||| 2 ^ slice, clampNew := h.clampNew ||| 2 ^ slice
    lastClamp := some top, window := true, deep := deep }) s
  markWindow c n (top + extension deep) s

/-- The deep comparator of a channel trips (R146). -/
def tripDeep (c : Nat) (s : State) : State :=
  let h := chan s c
  let inWindow := match h.lastClamp with
    | some l => decide (cycleBase s ≤ l + extension h.deep)
    | none => false
  let s := pulse 7 0 (w32 (2 ^ (16 + c))) (bump 7 (0x30 + 0x40 * c)
    (mChan c (fun h => { h with deepAt := some (cycleBase s), deep := h.deep || inWindow }) s))
  match h.lastClamp with
  | some l => if inWindow then markWindow c l (l + 512) s else s
  | none => s

/-- A relay commanded to a position: 0 lining relay, 1 coupling relay (R136 to R138). -/
def driveRelay (c relay pos : Nat) (s : State) : State := emit (.relay c relay pos) (bump 7 (0x100 + 0x10 * c) s)

/-- A coupling transit begins (R136). -/
def startCoupling (c pos : Nat) (s : State) : State :=
  driveRelay c 1 pos (mChan c (fun h => { h with couplingTransit := some { target := pos, retried := false } }) s)

/-- A lining transit begins (R137). -/
def startLining (c pos : Nat) (s : State) : State :=
  driveRelay c 0 pos (mChan c (fun h => { h with
    liningTransit := some { target := pos, retried := false }, liningOut := h.liningOut || pos == 1 }) s)

/-- Whether the lining relay of a channel is away from INn (R137). -/
def liningAway (s : State) (c : Nat) : Bool := (chan s c).liningTransit.isSome || (chan s c).lining != 0

/-- A range comes into force at sample `n`, the first of a seam: 820 samples carry ADJ (R135). -/
def switchRange (c r n : Nat) (s : State) : State :=
  if (chan s c).range = r then s
  else markAdj c n (n + 819) (mChan c (fun h => { h with range := r, rangeUntil := n + 820, switching := true }) s)

/-- A range value applied at a seam (R135, R137); it replaces one still held. -/
def applyRange (c r n : Nat) (s : State) : State :=
  if liningAway s c then mChan c (fun h => { h with heldRange := some r }) s
  else switchRange c r n (mChan c (fun h => { h with heldRange := none, turnRange := none }) s)

/-- A coupling value compared with the position sensed (R136). -/
def setCoupling (c v : Nat) (s : State) : State := if (chan s c).coupling = v then s else startCoupling c v s

/-- A coupling value applied at a seam (R136, R137); it replaces one still held. -/
def applyCoupling (c v : Nat) (s : State) : State :=
  if liningAway s c || (chan s c).couplingTransit.isSome then mChan c (fun h => { h with heldCoupling := some v }) s
  else setCoupling c v (mChan c (fun h => { h with heldCoupling := none }) s)

/-- At a seam, values held while a relay was away take effect, and with no range held the one before a calibration turn
does again (R136, R137). -/
def seamRelays (n : Nat) (s : State) (c : Nat) : State :=
  let h := chan s c
  if liningAway s c then s
  else
    let s := match h.heldRange.or h.turnRange with
      | some r => applyRange c r n s
      | none => s
    match h.heldCoupling with
    | some v => if h.couplingTransit.isSome then s else applyCoupling c v s
    | none => s

/-- The coupling relay's transit ends at a sensed position: a held value equal to it is discarded (R136). -/
def endCoupling (c pos : Nat) (s : State) : State :=
  mChan c (fun h => { h with
    coupling := pos, couplingTransit := none
    heldCoupling := if h.heldCoupling == some pos && h.liningTransit.isNone && h.lining == 0 then none
      else h.heldCoupling }) s

/-- The lining relay's transit ends at a sensed position; the end of the transit back ends the calibration's absence (R137). -/
def endLining (c pos : Nat) (s : State) : State :=
  mChan c (fun h => { h with
    lining := pos, liningTransit := none
    liningOut := h.liningOut && !(h.liningTransit.any (fun t => t.target == 0)) }) s

/-- A relay's sense shows the commanded position (R136, R137). -/
def relayReached (c relay : Nat) (s : State) : State :=
  let h := chan s c
  if relay = 0 then match h.liningTransit with
    | some t => endLining c t.target s
    | none => s
  else match h.couplingTransit with
    | some t => endCoupling c t.target s
    | none => s

/-- 3 ms without the commanded position: the transit is commanded once more (R138). -/
def retryRelay (c relay : Nat) (s : State) : State :=
  let h := chan s c
  if relay = 0 then match h.liningTransit with
    | some t => if t.retried then s else
        driveRelay c 0 t.target (mChan c (fun h => { h with liningTransit := some { t with retried := true } }) s)
    | none => s
  else match h.couplingTransit with
    | some t => if t.retried then s else
        driveRelay c 1 t.target (mChan c (fun h => { h with couplingTransit := some { t with retried := true } }) s)
    | none => s

/-- 6 ms without the commanded position, after the second command: RELAY_FAULT, with its record (R138). -/
def faultRelay (c relay sensed : Nat) (s : State) : State :=
  let h := chan s c
  if (if relay = 0 then h.liningTransit else h.couplingTransit).any (fun t => t.retried) then
    let s := if relay = 0 then endLining c sensed s else endCoupling c sensed s
    logEvent 0x3015 7 [c, relay, sensed] (mChan c (fun h => { h with fault := true }) s)
  else s

/-- Whether a channel carries CAL_ACTIVE now: from the transit of its lining relay to the lining until the end of the
transit back, in every other transit of that relay, and while the relay senses the lining (R17, R137, R138, R252). A relay
that faults on its way back and senses neither position gives none (DEDUCED, log 124). -/
def calActive (s : State) (c : Nat) : Bool :=
  (chan s c).liningOut || (chan s c).liningTransit.isSome || (chan s c).lining == 1

/-- The raw sleeves of a channel. -/
def rawSleeves (s : State) (c : Nat) : List Nat :=
  (List.range (img s).sleeves.length).filter (fun i =>
    (sleeveDecl s i).writerUnit == 0x01 && (sleeveDecl s i).writerIndex == c)

/-- Two P12 samples in 3 bytes, the earlier one lower (R10). -/
def packP12 : List Int → List Byte
  | a :: b :: r => leBytes 3 (enc 12 a + 4096 * enc 12 b) ++ packP12 r
  | [a] => leBytes 2 (enc 12 a)
  | [] => []

/-- U16 samples with their marks (R10, R150). -/
def packU16 (ovr adj : Nat → Bool) : Nat → List Int → List Byte
  | _, [] => []
  | n, a :: r => leBytes 2 (16 * enc 12 a + 2 * b2n (adj n) + b2n (ovr n)) ++ packU16 ovr adj (n + 1) r

/-- The flag record of a block from its hull (R151). -/
def flagRecord (h : Chan) : Nat :=
  match h.hull with
  | some (a, b) => a + 64 * b + 4096 * b2n h.hullOvr + 8192 * b2n h.hullAdj
  | none => 0

/-- The hull with one sample's marks (R151). -/
def hullSample (n : Nat) (ovr adj : Bool) (h : Chan) : Chan :=
  if ovr || adj then
    { h with
      hull := some (match h.hull with
        | some (a, _) => (a, n % 64)
        | none => (n % 64, n % 64))
      hullOvr := h.hullOvr || ovr, hullAdj := h.hullAdj || adj }
  else h

/-- The hull with the marks of the 16 samples from `n` (R151). -/
def hullCycle (n : Nat) (h : Chan) : Chan :=
  (List.range 16).foldl (fun h k => hullSample (n + k) (inRuns (n + k) h.ovrRuns) (inRuns (n + k) h.adjRuns) h) h

/-- Samples of the 16 from `n` that carry OVR or ADJ (R149, R417). -/
def flaggedIn (n : Nat) (h : Chan) : Nat :=
  ((List.range 16).filter (fun k => inRuns (n + k) h.ovrRuns || inRuns (n + k) h.adjRuns)).length

/-- The 16 samples of a cycle go to a raw sleeve, and a finished flag record to its flag sleeve (R150 to R152). -/
def storeRaw (c n : Nat) (codes : List Int) (s : State) (i : Nat) : State :=
  let d := sleeveDecl s i
  let h := chan s c
  let s := if (n - s.eng.t0) % rawBlock d.format = 0 then beginRawBlock i n s else s
  if !(sleeve s i).storing then s
  else
    let data := match d.format with
      | .u16 => packU16 (fun k => inRuns k h.ovrRuns) (fun k => inRuns k h.adjRuns) n codes
      | _ => packP12 codes
    let s := tidyMarkers i (storeAll i data s)
    if n % 64 = 48 then
      (companion s i).foldl (fun s f => tidyMarkers f (storeAll f (leBytes 2 (flagRecord h)) s)) s
    else s

/-- The 16 samples of channel `c` of this CK_ENG cycle: marks, counts, raw and flag sleeves (R139, R145 to R151). -/
def channelSamples (c : Nat) (codes : List Int) (s : State) : State :=
  let n := cycleBase s
  let h := chan s c
  let s := if h.couplingTransit.isSome || h.fault then markAdj c n (n + 15) s else s
  let s := if calActive s c then mChan c (fun h => { h with calRuns := joinRun n (n + 15) h.calRuns }) s else s
  let s := mChan c (fun h => hullCycle n { h with arrived := true, clamping := h.clampNew, clampNew := 0 }) s
  let h := chan s c
  let s := bumpBy 7 (0x40 * c) (countRuns n (n + 15) h.ovrRuns) s
  let s := bumpBy 7 (0x10 + 0x40 * c) (countRuns n (n + 15) h.adjRuns) s
  let s := mChan c (fun h => { h with flagged := h.flagged + flaggedIn n h }) s
  let s := if functionLive s && decide (s.eng.t0 ≤ n) then (rawSleeves s c).foldl (storeRaw c n codes) s else s
  if n % 64 = 48 then mChan c (fun h => { h with hull := none, hullOvr := false, hullAdj := false }) s else s
end Sys2Proof.Machine
end

