-- ==== Sys2Proof/Machine/Crc.lean ====
section
/-! DEFINITION. CRC-32 with the IEEE 802.3 polynomial (R63, R424), in the reflected form with all-ones start and final
complement that IEEE 802.3 uses (PRESUMED, log 16). -/

namespace Sys2Proof.Machine

/-- `n` bits of the CRC of one byte. -/
def crcBits : Nat → BitVec 32 → BitVec 32
  | 0, c => c
  | n + 1, c => crcBits n (if c.getLsbD 0 then (c >>> 1) ^^^ 0xEDB88320#32 else c >>> 1)

/-- The CRC register after more bytes. -/
def crcFrom : BitVec 32 → List Byte → BitVec 32
  | c, [] => c
  | c, b :: r => crcFrom (crcBits 8 (c ^^^ b.setWidth 32)) r

/-- CRC-32 of a byte string. -/
def crc32 (bs : List Byte) : Nat := (~~~ crcFrom 0xFFFFFFFF#32 bs).toNat

end Sys2Proof.Machine
end

