-- ==== Sys2Proof/Machine/Sha3.lean ====
section
/-! DEFINITION. SHA3-256 and the SHAKE functions (R27, R41, R43), as FIPS 202 defines them (PRESUMED, log 10). -/

namespace Sys2Proof.Machine

/-- A 64-bit lane rotated to the left. -/
def rotLane (x n : Nat) : Nat := ((x <<< n) ||| (x >>> (64 - n))) % 2 ^ 64

/-- Lane (x, y) of a Keccak state, held at x + 5 y. -/
def lane (a : List Nat) (x y : Nat) : Nat := a.getD (x % 5 + 5 * (y % 5)) 0

/-- A Keccak state from its lanes. -/
def lanes (f : Nat → Nat → Nat) : List Nat := (List.range 25).map (fun k => f (k % 5) (k / 5))

/-- The walk of the step rho over the lanes but (0, 0): the place after `t` moves from (1, 0). -/
def rhoPlace : Nat → Nat × Nat
  | 0 => (1, 0)
  | t + 1 => let p := rhoPlace t
    (p.2, (2 * p.1 + 3 * p.2) % 5)

/-- Rotation of lane (x, y) in the step rho: the triangular number of its move in the walk. -/
def rhoTurn (x y : Nat) : Nat := match (List.range 24).find? (fun t => rhoPlace t == (x, y)) with
  | some t => (t + 1) * (t + 2) / 2 % 64
  | none => 0

/-- Parity of column x. -/
def columnParity (a : List Nat) (x : Nat) : Nat := (List.range 5).foldl (fun p y => p ^^^ lane a x y) 0

/-- The step theta. -/
def theta (a : List Nat) : List Nat :=
  let c := (List.range 5).map (columnParity a)
  let col := fun (x : Nat) => c.getD (x % 5) 0
  lanes (fun x y => lane a x y ^^^ (col (x + 4) ^^^ rotLane (col (x + 1)) 1))

/-- The steps rho and pi. -/
def rhoPi (a : List Nat) : List Nat :=
  lanes (fun x y => rotLane (lane a (x + 3 * y) x) (rhoTurn ((x + 3 * y) % 5) x))

/-- The step chi. -/
def chi (a : List Nat) : List Nat :=
  lanes (fun x y => lane a x y ^^^ ((2 ^ 64 - 1 - lane a (x + 1) y) &&& lane a (x + 2) y))

/-- The shift register behind the step iota after `t` steps: its low bit is the `t`-th bit it gives. -/
def iotaState : Nat → Nat
  | 0 => 1
  | t + 1 => let r := 2 * iotaState t
    if r < 256 then r else r ^^^ 0x171

/-- The constant of round `i` of the step iota: seven bits of the register at the places one below a power of two. -/
def iotaConst (i : Nat) : Nat :=
  (List.range 7).foldl (fun w j => w + iotaState (7 * i + j) % 2 * 2 ^ (2 ^ j - 1)) 0

/-- One round of Keccak-f[1600]. -/
def keccakRound (a : List Nat) (rc : Nat) : List Nat := match chi (rhoPi (theta a)) with
  | [] => []
  | l :: r => (l ^^^ rc) :: r

/-- Keccak-f[1600]. -/
def keccakF (a : List Nat) : List Nat := (List.range 24).foldl (fun a i => keccakRound a (iotaConst i)) a

/-- The lanes of a block of whole lanes. -/
def blockLanes (bs : List Byte) : List Nat := (List.range (bs.length / 8)).map (fun k => leVal (slice bs (8 * k) 8))

/-- A block taken into the state. -/
def absorbBlock (a : List Nat) (block : List Byte) : List Nat :=
  let b := blockLanes block
  keccakF (lanes (fun x y => lane a x y ^^^ b.getD (x + 5 * y) 0))

/-- `n` blocks of `rate` bytes taken into the state. -/
def absorb (rate : Nat) : Nat → List Byte → List Nat → List Nat
  | 0, _, a => a
  | n + 1, bs, a => absorb rate n (bs.drop rate) (absorbBlock a (bs.take rate))

/-- The output of `n` blocks of `rate` bytes. -/
def squeeze (rate : Nat) : Nat → List Nat → List Byte
  | 0, _ => []
  | n + 1, a => (a.flatMap (leBytes 8)).take rate ++ squeeze rate n (keccakF a)

/-- A message with its domain bits and the padding to whole blocks; with one byte of padding both fall in it. -/
def padded (rate domain : Nat) (msg : List Byte) : List Byte :=
  let z := rate - msg.length % rate
  if z = 1 then msg ++ [BitVec.ofNat 8 (domain + 0x80)]
  else msg ++ BitVec.ofNat 8 domain :: (List.replicate (z - 2) 0 ++ [0x80])

/-- `n` bytes of a Keccak sponge over a message. -/
def sponge (rate domain n : Nat) (msg : List Byte) : List Byte :=
  let p := padded rate domain msg
  (squeeze rate ((n + rate - 1) / rate) (absorb rate (p.length / rate) p (List.replicate 25 0))).take n

/-- SHAKE128 and SHAKE256 with `n` bytes of output. -/
def shake128 (n : Nat) (msg : List Byte) : List Byte := sponge 168 0x1F n msg
def shake256 (n : Nat) (msg : List Byte) : List Byte := sponge 136 0x1F n msg

/-- SHA3-256 of a byte string (R27, R41, R43); a digest's byte 0 is its lowest. -/
@[irreducible] def sha3 (msg : List Byte) : Digest := BitVec.ofNat 256 (leVal (sponge 136 0x06 32 msg))

end Sys2Proof.Machine
end

