-- ==== Sys2Proof/Machine/Record.lean ====
section
/-! DEFINITION. The event recorder (18): the bytes of a record, its places in MRAM, writing, merging, sealing, failure,
freeze, clear and the pages a reader sees. -/

namespace Sys2Proof.Machine

/-- The 64 bytes of a record (R424). -/
def Rec.bytes (r : Rec) : List Byte :=
  let p := fun i => leBytes 4 (r.params.getD i 0)
  let body := leBytes 8 r.seq ++ leBytes 4 r.cycles ++ leBytes 4 r.seconds ++ leBytes 8 (r.time % 2 ^ 64) ++
    leBytes 2 (r.time / 2 ^ 64) ++ leBytes 2 r.code ++ leBytes 1 (r.code / 4096) ++ leBytes 1 r.source ++
    leBytes 2 r.again ++ p 0 ++ p 1 ++ p 2 ++ p 3 ++
    leBytes 2 (b2n r.timeValid + 2 * b2n r.repeatSat + 4 * b2n r.fallback + 8 * b2n r.reservedFull) ++
    leBytes 2 0 ++ leBytes 4 r.lastSeconds ++ leBytes 4 0
  body ++ leBytes 4 (crc32 body)

/-- The bytes of a place, zero where nothing stands. -/
def placeBytes (r : Option Rec) : List Byte := match r with
  | some r => r.bytes
  | none => List.replicate 64 0

/-- The 4,096 bytes of a record block (R422). -/
def blockBytes (m : Sparse (Option Rec)) (b : Nat) : List Byte :=
  (List.range 64).flatMap (fun p => placeBytes (look none m (64 * b + p)))

/-- Whether a block belongs to the ring as it stands (R422, R434). -/
def Recorder.ringBlock (r : Recorder) (b : Nat) : Bool :=
  decide (64 ≤ b) && decide (b < 2031) && !r.bad.contains b && !r.moved.contains b

/-- Usable ring blocks. -/
def Recorder.ringSize (r : Recorder) : Nat :=
  1967 - (r.bad.filter (fun b => decide (64 ≤ b) && !r.moved.contains b)).length - r.moved.length

/-- Whether a block belongs to the reserved segment as it stands (R422, R434). -/
def Recorder.resBlock (r : Recorder) (b : Nat) : Bool :=
  (decide (b < 64) || r.moved.contains b) && !r.bad.contains b

/-- The first block after `b` that a test admits, over one turn of `n` blocks from `lo`. -/
def nextBlock (lo n : Nat) (ok : Nat → Bool) : Nat → Nat → Option Nat
  | 0, _ => none
  | k + 1, b => let b' := if lo + n ≤ b + 1 then lo else b + 1
    if ok b' then some b' else nextBlock lo n ok k b'

/-- The records of a block. -/
def blockCount (m : Sparse (Option Rec)) (b : Nat) : Nat :=
  ((List.range 64).filter (fun p => (look none m (64 * b + p)).isSome)).length

/-- A block emptied. -/
def emptyBlock (m : Sparse (Option Rec)) (b : Nat) : Sparse (Option Rec) :=
  m.filter (fun p => p.1 / 64 ≠ b)

/-- The ring's next open block with the recorder's lists brought up to date: a free one, or the oldest reused whole
(R427). Second: records overwritten. -/
def takeRing (r : Recorder) : Recorder × Nat :=
  let used := if r.ringOpen.2 = 0 then r.ringUsed else r.ringUsed ++ [r.ringOpen.1]
  match nextBlock 64 1967 (fun b => r.ringBlock b && !used.contains b) 1967 r.ringOpen.1 with
  | some b => ({ r with ringOpen := (b, 0), ringUsed := used, mram := emptyBlock r.mram b }, 0)
  | none =>
    let b := used.headD r.ringOpen.1
    ({ r with ringOpen := (b, 0), ringUsed := used.drop 1, mram := emptyBlock r.mram b }, blockCount r.mram b)

/-- The reserved segment's next open block, none when it has no free one (R427, R429). -/
def takeReserved (r : Recorder) : Recorder :=
  let used := match r.resOpen with
    | some (b, p) => if p = 0 then r.resUsed else r.resUsed ++ [b]
    | none => r.resUsed
  let here := match r.resOpen with
    | some (b, _) => b
    | none => 0
  { r with
    resUsed := used
    resOpen := (nextBlock 0 2031 (fun b => r.resBlock b && !used.contains b) 2031 here).map (fun b => (b, 0)) }

/-- Whether a record goes to the reserved segment: its class is reserved and a place is free (R427, R429). -/
def Recorder.goesReserved (r : Recorder) (e : Rec) : Bool := reservedCode e.code && r.resOpen.isSome

/-- The block and place a record takes. -/
def Recorder.placeFor (r : Recorder) (e : Rec) : Nat × Nat :=
  if r.goesReserved e then r.resOpen.getD (0, 0) else r.ringOpen

/-- The block sealed: its seal follows from the seal before it (R423). -/
def sealBlock (b : Nat) (r : Recorder) : Recorder :=
  let d := sha3 (leBytes 32 r.prevSeal.toNat ++ blockBytes r.mram b)
  { r with seals := put 0 b d r.seals, prevSeal := d }

/-- The record stored at its place; a full block is sealed and the next one taken (R423, R427). Second: records
overwritten. -/
def storeRec (e : Rec) (r : Recorder) : Recorder × Nat :=
  let bp := r.placeFor e
  let res := r.goesReserved e
  let r := { r with
    mram := put none (64 * bp.1 + bp.2) (some e) r.mram
    newest := bp
    newestRing := if res then r.newestRing else some bp
    resOpen := if res then some (bp.1, bp.2 + 1) else r.resOpen
    ringOpen := if res then r.ringOpen else (bp.1, bp.2 + 1) }
  if bp.2 + 1 < 64 then (r, 0)
  else
    let r := sealBlock bp.1 r
    if res then (takeReserved r, 0) else takeRing r

/-- The record written as the next of the numbering, with RESERVED_FULL where R429 asks. -/
def numberRec (r : Recorder) (e : Rec) : Rec :=
  { e with seq := r.seq + 1, reservedFull := reservedCode e.code && r.resOpen.isNone }

/-- The newest ring record, when it stands in the ring's open block (R428). -/
def Recorder.mergeable (r : Recorder) (e : Rec) : Option (Nat × Nat) :=
  match r.newestRing with
  | some (b, p) =>
    if b = r.ringOpen.1 then
      match look none r.mram (64 * b + p) with
      | some a => if a.same e then some (b, p) else none
      | none => none
    else none
  | none => none

/-- An entry of the volatile ring (R435). -/
def writeVolatile (e : Rec) (s : State) : State :=
  let r := s.recorder
  let e := { e with seq := r.seq + 1, fallback := true }
  let full := (look none r.vring r.vnext).isSome
  pulse0 23 0 (bump 23 0 (bumpBy 23 0x20 (b2n full)
    { s with recorder := { r with
        seq := r.seq + 1
        vring := put none r.vnext (some e) r.vring
        vnext := (r.vnext + 1) % 512
        vqueue := r.vqueue ++ [e]
        newest := (2048 + r.vnext / 64, r.vnext % 64) } }))

/-- The recorder's numbers as they stand (R422). -/
def Recorder.numbers (r : Recorder) : RecNumbers :=
  { seq := r.seq, cycles := r.cycles, seconds := r.seconds, gen := r.highestGen }

/-- The recorder enters DEGRADED: the failure is the volatile ring's first entry (R434, R435), and the state block is
written no more. -/
def degrade (reason : Nat) (s : State) : State :=
  if s.recorder.degraded then s
  else writeVolatile (recordOf s 0x4023 0xFF [reason])
    { s with recorder := { s.recorder with degraded := true, stored := s.recorder.numbers } }

/-- The highest-numbered ring block (R434). -/
def Recorder.topRing (r : Recorder) : Option Nat :=
  (nextBlock 64 1967 (fun b => r.ringBlock (2094 - b)) 1967 2030).map (fun b => 2094 - b)

/-- The highest-numbered ring block goes to the reserved segment, and the records it held with it (R434). Second: records
lost. -/
def giveBlock (r : Recorder) : Recorder × Nat := match r.topRing with
  | none => (r, 0)
  | some b =>
    let n := blockCount r.mram b
    let r := { r with
      moved := b :: r.moved, mram := emptyBlock r.mram b, ringUsed := r.ringUsed.filter (· ≠ b)
      newestRing := if r.newestRing.map Prod.fst = some b then none else r.newestRing }
    if r.ringOpen.1 = b then
      let t := takeRing { r with ringOpen := (b, 0) }
      (t.1, n + t.2)
    else (r, n)

/-- A write-verify failed at a block's place (R434): the places before it are copied into the next free block of the
segment, and the block is marked bad. A bad reserved block is made good by a ring block. Second: records overwritten. -/
def replaceBlock (e : Rec) (r : Recorder) : Recorder × Nat :=
  let bp := r.placeFor e
  let res := r.goesReserved e
  let kept := (List.range bp.2).map (fun p => look none r.mram (64 * bp.1 + p))
  let r := { r with
    bad := bp.1 :: r.bad, seals := put 0 bp.1 (BitVec.allOnes 256) r.seals }
  let t := if res then
      let g := giveBlock r
      (takeReserved { g.1 with resOpen := some (bp.1, 0) }, g.2)
    else takeRing { r with ringOpen := (bp.1, 0) }
  let r := t.1
  let nb := if res then (r.resOpen.getD (bp.1, 0)).1 else r.ringOpen.1
  let m := (List.range kept.length).foldl (fun m p => put none (64 * nb + p) (kept.getD p none) m) r.mram
  ({ r with
     mram := m
     resOpen := if res then some (nb, bp.2) else r.resOpen
     ringOpen := if res then r.ringOpen else (nb, bp.2)
     newestRing := match r.newestRing with
       | some (b, p) => if b = bp.1 then some (nb, p) else some (b, p)
       | none => none }, t.2)

/-- The record at the front of the intake queue written in MRAM, numbered and placed (R424, R427, R429). -/
def placeRec (e : Rec) (s : State) : State :=
  let r := { s.recorder with seq := e.seq, reservedFull := s.recorder.reservedFull || e.reservedFull }
  let t := storeRec e r
  pulse0 23 0 (bump 23 0 (bumpBy 23 0x20 t.2 { s with recorder := t.1 }))

/-- A record merged into the newest ring record (R428). -/
def mergeRec (e : Rec) (bp : Nat × Nat) (s : State) : State :=
  let k := 64 * bp.1 + bp.2
  let a := ((look none s.recorder.mram k).getD {}).merge e
  let s := bump 23 0x30 { s with recorder := { s.recorder with mram := put none k (some a) s.recorder.mram } }
  if a.repeatSat then pulse0 23 7 s else s

/-- A record written into the ring or the reserved segment: merged where R428 says so, else at a place of its own. -/
def putRec (e : Rec) (s : State) : State := match s.recorder.mergeable e with
  | some bp => mergeRec e bp s
  | none => placeRec (numberRec s.recorder e) s

/-- The block marked bad and copied, before the failing record is written again (R434 steps 1 and 2). -/
def remapBlock (e : Rec) (s : State) : State :=
  let t := replaceBlock e s.recorder
  bumpBy 23 0x20 t.2 { s with recorder := t.1 }

/-- A record write whose verify failed (R434): the record goes with the copy of its block into the next free one, a merged
one in its place, and the BLOCK_BAD record follows it. Where the recorder enters DEGRADED the record follows LOG_DEGRADED
in the volatile ring (R435). -/
def failRec (e : Rec) (copyVerify : Bool) (s : State) : State :=
  if 64 ≤ s.recorder.bad.length then writeVolatile e (degrade 1 s)
  else if !copyVerify then writeVolatile e (degrade 0 s)
  else
    let b := (s.recorder.placeFor e).1
    let s := if (s.recorder.mergeable e).isSome then remapBlock e (putRec e s) else putRec e (remapBlock e s)
    pulse0 23 2 (putRec (recordOf s 0x2022 0xFF [b, s.recorder.bad.length]) s)

/-- The next record to be written, with the recorder without it. A RECORDS_LOST record comes first after a discard outside
a freeze, and after the records then queued at the end of a freeze that discarded some (R426, R430). -/
def takeRec (s : State) : Option (Rec × State) :=
  if s.recorder.lost ≠ 0 then
    some (recordOf s 0x2025 0xFF [s.recorder.lost], { s with recorder := { s.recorder with lost := 0 } })
  else if s.recorder.lostFrozen ≠ 0 ∧ s.recorder.lostAfter = 0 then
    some (recordOf s 0x2025 0xFF [s.recorder.lostFrozen], { s with recorder := { s.recorder with lostFrozen := 0 } })
  else match s.recorder.queue with
    | e :: q => some (e, { s with recorder := { s.recorder with queue := q, lostAfter := s.recorder.lostAfter - 1 } })
    | [] => none

/-- Whether a record is still to be written. -/
def recordWaits (s : State) : Bool :=
  s.recorder.lost != 0 || !s.recorder.queue.isEmpty || s.recorder.lostFrozen != 0

/-- One record write ends (R426 to R429, R434, R435). -/
def writeRecord (verify copyVerify stateVerify : Bool) (s : State) : State :=
  match takeRec s with
  | none => s
  | some (e, s) =>
    if s.recorder.degraded then writeVolatile e s
    else
      let s := if verify then putRec e s else failRec e copyVerify s
      if stateVerify then s else degrade 2 s

/-- The freeze begins, or its 10 s start again (R430). -/
def beginFreeze (s : State) : State :=
  { s with recorder := { s.recorder with freeze := some s.time.cycle } }

/-- The freeze ends; the queued records are then written in order, and after them RECORDS_LOST (R430). -/
def endFreeze (s : State) : State :=
  { s with recorder := { s.recorder with
      freeze := none, lostAfter := if s.recorder.freeze.isSome then s.recorder.queue.length else s.recorder.lostAfter } }

/-- The recorder emptied by a clear: CLEAR_SEQ past the newest record, both segments and the fallback view empty (R433).
The seal that follows is the digest that the token signs (R423). -/
def Recorder.cleared (token : Digest) (r : Recorder) : Recorder :=
  { r with
    clearSeq := r.seq + 1, mram := [], seals := r.seals.filter (fun p => r.bad.contains p.1)
    prevSeal := token, fbView := [], reservedFull := false
    ringOpen := ((nextBlock 64 1967 r.ringBlock 1967 2030).getD 64, 0), ringUsed := [], newestRing := none
    resOpen := some ((nextBlock 0 2031 r.resBlock 2031 2030).getD 0, 0), resUsed := [] }

/-- A clear (R433): the LOG_CLEAR record is the first of reserved block 0; in DEGRADED it is in the volatile ring (R435). -/
def clearLog (signer : Nat) (token : Digest) (s : State) : State :=
  let e := recordOf s 0x1024 0xFF [signer, s.recorder.seq % 2 ^ 32, s.recorder.seq / 2 ^ 32]
  let t := { s with recorder := s.recorder.cleared token }
  pulse0 23 6 (if s.recorder.degraded then writeVolatile e t else placeRec (numberRec t.recorder e) t)

/-- Whether the loader or a mailbox command holds the flash (R44, R435). -/
def flashHeld (s : State) : Bool :=
  s.img.loading || match s.mbox.running with
    | some (.flashRead _ _) | some (.flashErase _) | some (.flashProgram _ _) | some (.calStore _ _) => true
    | _ => false

/-- The erase type used for 64 KiB: the 64 KiB type, or the largest that divides it (R110). -/
def eraseSize (f : FlashInfo) : Nat :=
  (f.eraseTypes.filter (fun n => n ≠ 0 && decide (65536 % n = 0))).foldl max 0

/-- A degraded entry is programmed into the next erased place of the fallback area, erased first when it has none
(R435). -/
def programFallback (s : State) : State :=
  match s.recorder.vqueue with
  | [] => s
  | e :: q =>
    if flashHeld s then s
    else
      let r := s.recorder
      let area := if r.fbNext < 1024 then r.fbArea else []
      let place := if r.fbNext < 1024 then r.fbNext else 0
      let lostRecs := if r.fbNext < 1024 then 0 else r.fbArea.length
      let n := eraseSize s.loader.flash
      let s' := if r.fbNext < 1024 then s else emit (.flashErase s.loader.areas.logFallback n (65536 / n)) s
      emit (.flashProgram (s.loader.areas.logFallback + 64 * place) e.bytes) (bumpBy 23 0x20 lostRecs
        { s' with recorder := { r with
            vqueue := q, fbArea := put none place (some e) area, fbNext := place + 1 } })

/-- A place as a reader sees it: below CLEAR_SEQ it reads as zero (R431). -/
def seenPlace (r : Recorder) (p : Option Rec) : List Byte :=
  match p with
  | some e => if e.seq < r.clearSeq then List.replicate 64 0 else e.bytes
  | none => List.replicate 64 0

/-- The 4,096 bytes of a page of the window (R431). -/
def logPage (r : Recorder) (page : Nat) : List Byte :=
  if r.unread && decide (page < 2048) then List.replicate 4096 0
  else if page < 2031 then (List.range 64).flatMap (fun p => seenPlace r (look none r.mram (64 * page + p)))
  else if page < 2047 then (List.range 128).flatMap (fun i => leBytes 32 (look 0 r.seals (128 * (page - 2031) + i)).toNat)
  else if page = 2047 then (List.range 4096).map Config.stateBlock
  else if page < 2056 then (List.range 64).flatMap (fun p => seenPlace r (look none r.vring (64 * (page - 2048) + p)))
  else if page < 2072 then (List.range 64).flatMap (fun p => seenPlace r (look none r.fbView (64 * (page - 2056) + p)))
  else List.replicate 4096 0

/-- One of the recorder's two counts, stored by `set`, one higher: it saturates at 0xFFFF_FFFF and then says so in a
record (R425). -/
def countUp (kind v : Nat) (set : Nat → Recorder → Recorder) (s : State) : State :=
  let s := { s with recorder := set (min (v + 1) 0xFFFFFFFF) s.recorder }
  if v + 1 = 0xFFFFFFFF then logEvent 0x1021 0xFF [kind] s else s

/-- The greater of each of two sets of numbers. -/
def RecNumbers.max (a b : RecNumbers) : RecNumbers :=
  { seq := Nat.max a.seq b.seq, cycles := Nat.max a.cycles b.cycles, seconds := Nat.max a.seconds b.seconds
    gen := Nat.max a.gen b.gen }

/-- The numbers that one record gives (R415, R424). -/
def Rec.numbers (e : Rec) : RecNumbers :=
  { seq := e.seq, cycles := e.cycles, seconds := e.seconds, gen := if e.code = 0x101A then e.params.headD 0 else 0 }

/-- The highest numbers in the records of an area. -/
def highestIn (m : Sparse (Option Rec)) : RecNumbers :=
  m.foldl (fun n p => n.max ((p.2.map Rec.numbers).getD {})) {}

/-- The numbers that the state block and the records of MRAM give (R436). -/
def Recorder.mramNumbers (r : Recorder) : RecNumbers :=
  (if r.degraded then r.stored else r.numbers).max (highestIn r.mram)

/-- The numbers the recorder goes on from (R436): after a failed test the highest found in the MRAM where it can be read,
in the fallback view and in the calibration copies; after a passed one the highest of the MRAM and the fallback view
(log 156). -/
def Recorder.goesOn (mramOk : Bool) (f : MramFound) (r : Recorder) : RecNumbers :=
  let v := highestIn r.fbArea
  if mramOk then r.mramNumbers.max v
  else ((if f.readable then r.mramNumbers else {}).max v).max { cycles := f.cycles, seconds := f.seconds, gen := f.gen }

/-- Step 4 of R57 for the recorder: the fallback view, the test of the MRAM, which ends or begins DEGRADED, the numbers it
goes on from, and the power-cycle count (R425, R436). -/
def recorderPowerUp (mramOk : Bool) (f : MramFound) (s : State) : State :=
  let r := s.recorder
  let n := r.goesOn mramOk f
  let s := { s with recorder := { r with
    seq := n.seq, cycles := n.cycles, seconds := n.seconds, highestGen := n.gen
    fbView := r.fbArea, vring := [], vnext := 0, vqueue := [], freeze := none
    degraded := r.degraded && !mramOk, unread := !mramOk && !f.readable } }
  let s := if mramOk || r.degraded then s else
    let t := degrade 2 s
    { t with recorder := { t.recorder with stored := r.numbers } }
  let s := countUp 0 s.recorder.cycles (fun v r => { r with cycles := v }) s
  logEvent 0x0001 0xFF [s.recorder.cycles] s

end Sys2Proof.Machine
end

