-- ==== Sys2Proof/Machine/Clocks.lean ====
section
/-! DEFINITION. The time base (05): the oven, the tuning converter and its owners, the reference and its loss. -/

namespace Sys2Proof.Machine

/-- Code steps for a frequency offset in units of 1e-12; a step is 4e-6 / 2^24 (R112). Both ways the number is rounded
down (DESIGN CHOICE, log 143). -/
def stepsOf (ppt : Int) : Int := ppt * 16777216 / 4000000

/-- A frequency offset in units of 1e-12 for code steps (R112), rounded down (log 143). -/
def offsetOf (steps : Int) : Int := steps * 4000000 / 16777216

/-- The synthesiser offset kept to its range of 2e-6, in units of 1e-12 (R124). -/
def clampEps (e : Int) : Int := clampI (-2000000) 2000000 e

/-- The number of the present CK_HK cycle (log 93). -/
def hkCycle (s : State) : Nat := s.time.cycle / 8

/-- The code the ageing model asks for at `sec` operating seconds, the integer part (R114, R122). The integer part of
a negative code is its floor (DESIGN CHOICE, log 119). -/
def modelCode (c : Clk) (sec : Nat) : Int :=
  match c.held with
  | some (h, from_) => h + c.a1 * ((sec : Int) - from_) / (256 * 86400)
  | none => c.a0 + c.a1 * ((sec : Int) - c.t0) / (256 * 86400)

/-- A change `f` of the converter, with the event record of TUNE_LIMIT when it asserts (R116). -/
def underLimit (f : Clk → Clk) (s : State) : State :=
  let was := tuneLimit s.clk
  let s := mClk f s
  if tuneLimit s.clk && !was then logEvent 0x2011 6 [enc 32 (clampCode s.clk.target)] s else s

/-- The clocks with another ageing model: where the model owns the converter, it asks for the new code (R115). -/
def Clk.withModel (c : Clk) (a0 a1 : Int) (t0 sec : Nat) : Clk :=
  let c := { c with a0 := a0, a1 := a1, t0 := t0, held := none }
  if modelOwns c then { c with target := modelCode c sec } else c

/-- The ageing model changed: the converter slews to the new code (R115). -/
def changeModel (a0 a1 : Int) (t0 : Nat) (s : State) : State :=
  underLimit (fun c => c.withModel a0 a1 t0 s.recorder.seconds) s

/-- Step 4 of R57: the converter stands at the code of the factory model at once (R115, log 45). -/
def firstModel (a0 a1 : Int) (t0 : Nat) (s : State) : State :=
  underLimit (fun c =>
    let c := c.withModel a0 a1 t0 s.recorder.seconds
    { c with base := clampCode c.target, code := clampCode c.target }) s

/-- The base moved to `b`, the code with it; what is left of an offset to unwind stays (R115, R121). -/
def moveBase (b : Int) (c : Clk) : Clk := { c with base := b, code := clampCode (c.code + (b - c.base)) }

/-- The 60-second evaluation of the ageing model, discarded in the CK_HK cycle of a hand-over (R113, R114). A slew in
progress goes on toward the new code. -/
def evaluateModel (s : State) : State :=
  if modelOwns s.clk && decide (s.recorder.seconds < 0xFFFFFFFF) && s.clk.handed != some (hkCycle s) then
    underLimit (fun c =>
      let asked := { c with target := modelCode c s.recorder.seconds }
      if c.base != clampCode c.target then asked
      else { moveBase (clampCode asked.target) asked with stepped := some (hkCycle s, c.base) }) s
  else s

/-- The converter passes from one owner to the other: a step that the model took in the same CK_HK cycle is discarded
(R113). -/
def passOwner (s : State) : State :=
  let h := hkCycle s
  mClk (fun c =>
    let c := match c.stepped with
      | some (k, b) => if k = h then moveBase b c else c
      | none => c
    { c with handed := some h, stepped := none }) s

/-- The synthesiser offset once the code stands at `code`: what is left to unwind, reached by at most 2e-8 (R121, R124). -/
def unwoundEps (c : Clk) (code : Int) : Int :=
  c.eps + clampI (-20000) 20000 (clampEps (offsetOf (c.base - code)) - c.eps)

/-- One increment of the converter: toward the code the ageing model asks for, by at most 4,194 steps where the model
owns the converter (R115), and by at most 83,886 steps, 2e-8, while an offset unwinds, which falls by equal amounts
(R121, R122, R124). An increment stands for one second, or for a fifth of one while an offset unwinds
(DESIGN CHOICE, log 120). -/
def slewStep (s : State) : State :=
  underLimit (fun c =>
    let most : Int := if c.unwinding then 838 else 4194
    let c := if modelOwns c then moveBase (c.base + clampI (-most) most (clampCode c.target - c.base)) c else c
    if c.unwinding then
      let code := c.code + clampI (-83886) 83886 (c.base - c.code)
      let eps := unwoundEps c code
      let going := code != c.base || eps != 0
      { c with code := code, eps := eps, epsTarget := if going then c.epsTarget else 0, unwinding := going }
    else c) s

/-- One step of the synthesiser offset, at most 2e-8, toward the measured error, in an acquisition whose offset does
not unwind yet; once there, it begins to unwind (R121, R124). -/
def offsetStep (s : State) : State :=
  if s.clk.lock == .acquiring && !s.clk.unwinding then
    mClk (fun c =>
      let eps := c.eps + clampI (-20000) 20000 (c.epsTarget - c.eps)
      let there := eps == c.epsTarget
      { c with
        eps := eps, unwinding := there && c.target != c.code
        base := if there then c.target else c.base }) s
  else s

/-- The mean of the codes of the last 100 s, or of the time locked when shorter (R122), rounded down (DESIGN CHOICE,
log 143). -/
def meanCode (c : Clk) : Int :=
  if c.history.isEmpty then c.code else c.history.foldl (· + ·) 0 / c.history.length

/-- A model held while LOCKED is used from now on (R420). -/
def takeHeldAge (s : State) : State := match s.cal.heldAge with
  | some (a0, a1, t0) =>
    mCal (fun k => { k with heldAge := none }) (mClk (fun c => { c with a0 := a0, a1 := a1, t0 := t0 }) s)
  | none => s

/-- The loss of the reference under R122: the held code, the transfer of the offset, and the ageing model as owner
again. When the reference was neither being acquired nor locked, LOCK leaves REF_FAR for HOLDOVER, or for INTERNAL where
no reference has been acquired since LOCK was INTERNAL, and otherwise stays (R119, R120; DESIGN CHOICE, log 142). -/
def releaseReference (s : State) : State :=
  let held := s.clk.lock == .acquiring || s.clk.lock == .locked
  let s := logEvent 0x2012 6 [] (bump 6 0 (pulse0 6 2 s))
  if held then
    passOwner (mClk (fun c =>
      let code := clampCode (meanCode c)
      let all := code + stepsOf c.eps
      { c with
        lock := .holdover, code := code, target := all, base := all
        unwinding := c.eps != 0, epsTarget := c.eps
        held := some (all, s.recorder.seconds), history := [], stepped := none }) (takeHeldAge s))
  else if s.clk.lock == .refFar then
    mClk (fun c => { c with lock := if c.engaged then .holdover else .internal }) s
  else s

/-- The reference is lost (R118, R119, R122). -/
def loseReference (s : State) : State := releaseReference (mClk (fun c => { c with refDetect := 0, refErr := 0 }) s)

/-- The reference detected by a gate, with its error (R118, R119, R121). An error beyond the range of the offset is
taken up by the offset as far as its range goes and by the converter (DESIGN CHOICE, log 121). -/
def gateDetected (nominal : Nat) (err : Int) (s : State) : State :=
  let s := mClk (fun c => { c with refDetect := nominal, refErr := err }) s
  if s.clk.refLock = 0 then s
  else match s.clk.lock with
    | .acquiring => s
    | .locked => mClk (fun c =>
        let code := sgn 24 (Config.freeValue s.free)
        { c with code := code, target := code, base := code, history := (code :: c.history).take 1000 }) (nextFree s)
    | _ =>
      let taken := passOwner s
      let need := taken.clk.code + stepsOf err
      if clampCode need ≠ need then mClk (fun c => { c with lock := .refFar }) s
      else mClk (fun c => { c with
        lock := .acquiring, engaged := true, epsTarget := clampEps err, unwinding := false, target := need, base := c.code }) taken

/-- A REF_IN gate of 100 ms ends (R118). -/
def gateComplete (nominal : Nat) (err : Int) (s : State) : State :=
  if 1 ≤ nominal ∧ nominal ≤ 3 ∧ -5000000 ≤ err ∧ err ≤ 5000000 then gateDetected nominal err s
  else if s.clk.refDetect ≠ 0 then loseReference s
  else s

/-- One oven sample (R117). -/
def ovenSample (err : Int) (heater : Nat) (s : State) : State :=
  let inside := decide (-10 ≤ err) && decide (err ≤ 10)
  let c := s.clk
  let runIn := if inside then min (c.runIn + 1) 1001 else 0
  let runOut := if inside then 0 else min (c.runOut + 1) 102
  let settled := if c.settled then decide (runOut < 102) else decide (1001 ≤ runIn)
  let s := mClk (fun c => { c with
    ovenErr := err, heater := heater, runIn := runIn, runOut := runOut, settled := settled }) s
  if c.settled && !settled then logEvent 0x2013 6 [] s else s

/-- LOCK becomes LOCKED (R121). -/
def achieveLock (s : State) : State :=
  if s.clk.lock == .acquiring && s.clk.eps == 0 then
    bump 6 0x20 (mClk (fun c => { c with lock := .locked, unwinding := false, history := [] }) s)
  else s

/-- The policies of a new image come into force at a function start (R119, R123, R128). -/
def applyRefPolicy (lock out : Nat) (s : State) : State :=
  let s := if lock = 0 ∧ (s.clk.lock = .locked ∨ s.clk.lock = .acquiring) then releaseReference s else s
  mClk (fun c => { c with
    refLock := lock, refOut := out
    lock := if lock = 0 then .internal else c.lock, engaged := lock != 0 && c.engaged }) s

/-- Whether a frame whose first sample is taken now carries REF_SETTLING (R125). -/
def refSettling (s : State) : Bool :=
  !s.clk.settled || s.clk.lock == .acquiring || s.clk.eps != 0 || (s.clk.refLock == 2 && s.clk.lock != .locked)

/-- OVEN_SAMPLE (R117). -/
def execOvenSample (err : Int) (heater : Nat) (s : State) : Host.Outcome State Fault Refusal :=
  act (ovenSample err heater) s

/-- AGEING_EVALUATION (R114). -/
def execAgeingEvaluation (s : State) : Host.Outcome State Fault Refusal := act evaluateModel s

/-- TUNE_SLEW_STEP (R115, R121). -/
def execTuneSlewStep (s : State) : Host.Outcome State Fault Refusal := act slewStep s

/-- SYNTH_OFFSET_STEP (R124). -/
def execSynthOffsetStep (s : State) : Host.Outcome State Fault Refusal := act offsetStep s

/-- REF_GATE_COMPLETE (R118). -/
def execRefGateComplete (nominal : Nat) (err : Int) (s : State) : Host.Outcome State Fault Refusal :=
  act (gateComplete nominal err) s

/-- REF_EDGE_TIMEOUT (R118). -/
def execRefEdgeTimeout (s : State) : Host.Outcome State Fault Refusal :=
  act (fun s => if s.clk.refDetect ≠ 0 then loseReference s else s) s

/-- LOCK_ACHIEVED (R121). -/
def execLockAchieved (s : State) : Host.Outcome State Fault Refusal := act achieveLock s

/-- OPERATING_SECOND (R425). -/
def execOperatingSecond (s : State) : Host.Outcome State Fault Refusal :=
  act (fun s =>
    if 2 ≤ s.pwr.groups then
      countUp 1 s.recorder.seconds (fun v r => { r with seconds := v }) s
    else s) s

end Sys2Proof.Machine
end

