-- ==== Sys2Proof/Machine/Captures.lean ====
section
/-! DEFINITION. Captures (13 R326 to R336): outputs, regions, records, notices, beginning and closing. -/

namespace Sys2Proof.Machine

/-- The BOUND of a path in CK_ENG cycles, none when the image declares none (R33). Of two records that name one CLASS and
INDEX the first counts (DESIGN CHOICE, log 125). -/
def boundOf (s : State) (cls index : Nat) : Option Nat :=
  ((img s).decls.bounds.find? (fun b => b.cls == cls && b.index == index)).map Bound.bound

/-- Whether R125's conditions held at a sample count; of a sample that has not arrived yet they hold when they do now. -/
def refSettlingAt (s : State) (t : Nat) : Bool :=
  (List.range 4).any (fun c => inRuns t (chan s c).refRuns) || (decide (cycleBase s ≤ t) && refSettling s)

/-- A declared group of the running image. -/
def groupDecl (s : State) (g : Nat) : Option GroupDecl := (img s).groups.find? (fun d => d.group == g)

/-- A declared condition of the running image. -/
def condDecl (s : State) (c : Nat) : Option TrigCond := (img s).conds.find? (fun d => d.cond == c)

/-- A group at work. -/
def group (s : State) (g : Nat) : Group := look {} s.trig.groups g

/-- A condition at work. -/
def cond (s : State) (c : Nat) : Cond := look {} s.trig.conds c

/-- A value of an output, by its field (R338). -/
def OutPin.set (p : OutPin) (field : Nat) (v : Word) : OutPin :=
  if field = 0x40 then { p with width := v.toNat % 65536 } else { p with polarity := v.toNat % 2 }

/-- The level of an output's contact (R352). -/
def OutPin.level (p : OutPin) : Bool := p.active == (p.polarity == 0)

/-- A change of an output, shown at its contact when the level changes (R352). -/
def drivePin (o : Nat) (f : OutPin → OutPin) (s : State) : State :=
  let p := look {} s.tiu.outs o
  let s := mOut o f s
  if (f p).level = p.level then s else emit (.pin o (f p).level) s

/-- A group asks for a pulse on an output (R352). -/
def requestPulse (o : Nat) (s : State) : State :=
  if !functionLive s then s
  else
    let p := look {} s.tiu.outs o
    let live := p.active && decide (s.time.cycle < p.ends)
    if p.active && p.launched == some s.time.cycle then s
    else
      let s' := drivePin o (fun p => { p with
        active := true, launched := some s.time.cycle, ends := s.time.cycle + p.width, last := now s }) s
      if live then pulse0 16 6 (bump 16 0x400 s') else bump 16 (0x300 + 0x10 * o) s'

/-- OUTPUT_PULSE_END: an output goes inactive once its pulse has lasted its width (R352). -/
def endPulse (o : Nat) (s : State) : State :=
  let p := look {} s.tiu.outs o
  if p.active && decide (p.ends ≤ s.time.cycle) then drivePin o (fun p => { p with active := false }) s else s

/-- Outside a running function the outputs stay inactive (R352). -/
def stopOutputs (s : State) : State :=
  (List.range 6).foldl (fun s o => drivePin o (fun p => { p with active := false }) s) s

/-- The outputs of a mask, bit o for output o. -/
def maskOuts (m : Nat) (lo n : Nat) : List Nat := ((List.range n).map (· + lo)).filter (tbit m)

/-- The frame stream whose records a sleeve holds (R246). -/
def frameOf (s : State) (i : Nat) : Option FrameDecl := (img s).frames.find? (fun f => !f.channeliser && f.dst == i)

/-- The channeliser stream whose rows a sleeve holds (R260). -/
def rowsOf (s : State) (i : Nat) : Option FrameDecl := (img s).frames.find? (fun f => f.channeliser && f.dst == i)

/-- Bytes of a row of a channeliser stream (R260). -/
def rowBytes (d : FrameDecl) : Nat := max 1 (8 * d.binCount)

/-- The first sample of the result that stands at a write count of a sleeve, as its writer gave it; a channeliser's rows
follow on by its hop (R260, R367). -/
def resultTime (s : State) (i n : Nat) : Nat :=
  match (sleeve s i).results.find? (fun a => decide (a.1 ≤ n)), rowsOf s i with
  | some a, some f => a.2 + (n / rowBytes f - a.1 / rowBytes f) * f.hop
  | some a, none => a.2
  | none, _ => now s

/-- Bytes of a raw sleeve before position `p`, whole groups of a P12 sleeve: down to the group at the start of a region
and up at its end (R10, R326). -/
def rawBytes (f : SleeveFormat) (up : Bool) (p : Nat) : Nat := if f = .p12 then (p + b2n up) / 2 * 3 else 2 * p

/-- The writer's newest start in a sleeve: position and sample count (R242, R328). -/
def lastAnchor (s : State) (i : Nat) : Nat × Nat := (sleeve s i).anchors.headD (0, s.eng.t0)

/-- The anchor that governs a sample count. -/
def anchorFor (s : State) (i t : Nat) : Nat × Nat :=
  ((sleeve s i).anchors.find? (fun a => decide (a.2 ≤ t))).getD (lastAnchor s i)

/-- The span of a captured sleeve in samples, with the length in force (R323). -/
def spanOf (s : State) (i : Nat) : Nat :=
  match (sleeveDecl s i).format with
  | .p12 => lenBytes s i * 2 / 3
  | .u16 => lenBytes s i / 2
  | _ => match frameOf s i with
    | some f => lenBytes s i / max 1 f.recordBytes * f.hop
    | none => 0

/-- The write count in a captured sleeve at which the samples from `t` on stand, at the start or the end of a region
(R326). -/
def regionAt (s : State) (up : Bool) (i t : Nat) : Nat :=
  let a := anchorFor s i t
  match frameOf s i with
  | some f => a.1 + ((t - a.2) + f.hop - 1) / max 1 f.hop * f.recordBytes
  | none => rawBytes (sleeveDecl s i).format up (a.1 + (t - a.2))

/-- L of R323. -/
def minSpan (s : State) (is : List Nat) : Nat := match is with
  | [] => 0
  | i :: r => r.foldl (fun m j => min m (spanOf s j)) (spanOf s i)

/-- The generation in force at a sample count (R413). -/
def genAt (s : State) (t : Nat) : Nat := match s.cal.history.find? (fun h => decide (h.1 ≤ t)) with
  | some h => h.2
  | none => s.cal.gen

/-- The region of a capture in the sleeve that its group's record names in SLEEVE `j`, none where that names none (R322,
R335). -/
def regionOf (s : State) (g : Nat) (c : Capture) (j : Nat) : Option (Nat × Nat × Nat) :=
  let at_ := ((groupDecl s g).map GroupDecl.places).getD []
  ((List.range c.regions.length).find? (fun k => at_.getD k k == j)).bind (fun k => c.regions[k]?)

/-- The 256 bytes of a capture record (R335). -/
def captureRecord (s : State) (g notice : Nat) (c : Capture) (stop : Option Nat) : List Byte :=
  let t := c.trig.time / 256
  let st := stop.getD 0
  let hem := if stop.isSome then st - t else 0
  let miss := match c.missedFirst with
    | some m => leBytes 8 (m % 2 ^ 64) ++ leBytes 2 (m / 2 ^ 64)
    | none => List.replicate 10 0xFF
  leBytes 4 0x50435A53 ++ leBytes 1 1 ++ leBytes 1 g ++ leBytes 1 notice ++ leBytes 1 c.trig.cond ++
  leBytes 8 c.number ++ leBytes 8 (t % 2 ^ 64) ++ leBytes 2 (t / 2 ^ 64) ++ leBytes 1 (c.trig.time % 256) ++ leBytes 1 0 ++
  leBytes 4 c.flags ++ leBytes 8 (c.qual % 2 ^ 64) ++ leBytes 8 (c.start % 2 ^ 64) ++ leBytes 8 (st % 2 ^ 64) ++
  leBytes 8 c.cuff ++ leBytes 8 hem ++ leBytes 4 c.missed ++ leBytes 2 (c.start / 2 ^ 64) ++ leBytes 2 (st / 2 ^ 64) ++
  miss ++ leBytes 6 0 ++ leBytes 4 c.calGen ++ leBytes 4 0 ++ leBytes 8 (img s).digest.toNat ++ leBytes 8 c.clipped ++ leBytes 8 0 ++
  (List.range 8).flatMap (fun j => match regionOf s g c j with
    | some r => leBytes 8 r.2.1 ++ leBytes 8 (if stop.isSome then r.2.2 else 0)
    | none => leBytes 16 0)

/-- A notice of a capture goes to every ring of its group (R333). -/
def sendNotice (g notice : Nat) (c : Capture) (stop : Option Nat) (s : State) : State :=
  match groupDecl s g with
  | none => s
  | some d =>
    let bs := captureRecord s g notice c stop
    let was := (group s g).notices.length
    let s := mGroup g (fun x => { x with notices := x.notices ++ d.rings.map (fun q => (q, s.time.cycle, bs)) }) s
    if was < 64 && 64 ≤ (group s g).notices.length then bump 15 0x1000 s else s

/-- CLOSED and CANCELLED records go to the record sleeve too, whose writer decides by whole blocks (R175, R333). -/
def sleeveRecord (g notice : Nat) (c : Capture) (stop : Option Nat) (s : State) : State :=
  match (groupDecl s g).bind GroupDecl.recordSleeve with
  | some i => appendBytes i (c.trig.time / 256) (captureRecord s g notice c stop) s
  | none => s

/-- FLAGS with bits set. -/
def Capture.flag (c : Capture) (bits : Nat) : Capture := { c with flags := c.flags ||| bits }

/-- Flag-sleeve bounds of a raw region of a P12 sleeve (R327). -/
def flagBound (wc : Nat) (up : Bool) : Nat :=
  let p := wc * 2 / 3
  2 * (if up then (p + 63) / 64 else p / 64)

/-- The sleeves a drive capture records, with region start and end (R327, R370). -/
def driveRegions (s : State) (c : Capture) (closed : Bool) : List (Nat × Nat × Option Nat) :=
  c.regions.flatMap (fun r =>
    let e := if closed then some r.2.2 else none
    (r.1, r.2.1, e) :: (companion s r.1).map (fun f =>
      (f, flagBound r.2.1 false, if closed then some (flagBound r.2.2 true) else none)))

/-- Whether the volume takes captures (R368, R375). -/
def volumeRuns (s : State) : Bool := s.disk.vol.state == .opened || s.disk.vol.state == .degraded

/-- A write count of a sleeve's old pass at or beyond the new end stands for the start of the pass in force (R180). -/
def settledCount (s : State) (i n : Nat) : Nat :=
  let v := sleeve s i
  if n < v.passStart ∧ lenBytes s i ≤ v.prevLen - (v.passStart - n) then v.passStart else n

/-- Whether nothing of a region is left to record: it is recorded to its end, or a length change has taken what was left
(R180, R331, R370). -/
def regionOver (s : State) (r : Nat × Nat × Option Nat) : Bool := match r.2.2 with
  | some e => decide (e ≤ settledCount s r.1 r.2.1)
  | none => false

/-- The write counts from which the recording engine still needs a sleeve's bytes: its incomplete stripes, the captures
it has not recorded to their ends, and a CONTINUOUS stream's next byte (R330, R370, R374). -/
def dskNeeds (s : State) (i : Nat) : List Nat :=
  let v := s.disk.vol
  (v.runs.filter (fun r => r.sleeve == i)).map StripeRun.from_ ++
  (v.captures.filter (fun j => !j.cancelled)).flatMap (fun j =>
    (j.regions.filter (fun r => r.1 == i && !regionOver s r)).map (fun r => r.2.1)) ++
  (if recordsAlways s i then [look 0 v.nextWc i] else [])

/-- The recording stream's reader of a sleeve stands at the oldest byte still needed, or at the write count (R330, R370). -/
def settleDsk (i : Nat) (s : State) : State :=
  let low := settledCount s i ((dskNeeds s i).foldl min (sleeve s i).wcount)
  match (List.range (sleeveDecl s i).readers.length).find? (fun j => ((sleeveDecl s i).readers.getD j {}).unit == 0x10) with
  | some j => tidyMarkers i (mSleeve i (fun v => { v with readers := upd {} j (fun r => { r with
      count := low, notices := [], passed := v.markersGone + (v.markers.filter (fun m => decide (m.position ≤ low))).length }) v.readers }) s)
  | none => s

/-- The sample time of the result at a write count of a sleeve (R367). -/
def timeOfWc (s : State) (i n : Nat) : Nat :=
  match (sleeveDecl s i).format with
  | .p12 => timeAt s i (n * 2 / 3)
  | .u16 => timeAt s i (n / 2)
  | .flag => match companion s i with
    | r :: _ => timeAt s r (n / 2 * 64)
    | [] => 0
  | .result => match frameOf s i with
    | some f =>
      let a := ((sleeve s i).anchors.find? (fun a => decide (a.1 ≤ n))).getD (lastAnchor s i)
      a.2 + (n - a.1) / max 1 f.recordBytes * f.hop
    | none => resultTime s i n

/-- The first byte of a drive capture's region that no complete stripe holds: the capture's number, the sleeve, and the
next byte to record (R76, R375). -/
def recordedTo (s : State) (number i next : Nat) : Nat :=
  let v := s.disk.vol
  (v.runs.filter (fun r => r.sleeve == i && v.extents.any (fun e => e.seq == r.extent && e.capture == number))).foldl
    (fun m r => min m r.from_) next

/-- The first sample of a drive capture that was not recorded (R76, R375). -/
def firstUnrecorded (s : State) (j : CapJob) : Nat :=
  let ts := (j.regions.filter (fun r => (sleeveDecl s r.1).format != .flag)).map (fun r =>
    timeOfWc s r.1 (recordedTo s j.number r.1 r.2.1))
  ts.foldl min (ts.headD (now s))

/-- A drive capture handed to the recording engine, whose readers then stand at its start (R330, R332, R370). -/
def handOver (g : Nat) (provisional : Bool) (c : Capture) (s : State) : State :=
  match groupDecl s g with
  | some d => if d.dest == .drive && volumeRuns s then
      let j : CapJob := { group := g, stream := d.driveStream.getD 0, number := c.number, provisional := provisional
                          cancelled := false, closed := false, regions := driveRegions s c false }
      (j.regions.map Prod.fst).foldl (fun s i => settleDsk i s)
        (mDisk (fun k => { k with vol := { k.vol with captures := k.vol.captures ++ [j] } }) s)
    else s
  | none => s

/-- The job of a capture at the recording engine changed. -/
def mJob (number : Nat) (f : CapJob → CapJob) (s : State) : State :=
  mDisk (fun k => { k with vol := { k.vol with
    captures := k.vol.captures.map (fun j => if j.number = number then f j else j) } }) s

/-- The regions of a job with the ends of a capture that has closed (R327, R370). -/
def CapJob.close (s : State) (c : Capture) (j : CapJob) : CapJob :=
  { j with
    closed := true
    regions := j.regions.map (fun r => match (driveRegions s c true).find? (fun x => x.1 == r.1) with
      | some x => (r.1, r.2.1, x.2.2)
      | none => r) }

/-- The history a captured sleeve holds before sample `t` since its writer started or last resumed; a writer that has
resumed and not begun a block holds none (R328). -/
def historyOf (s : State) (t i : Nat) : Nat :=
  if (sleeve s i).awaitBlock then 0 else t - (sleeve s i).began.getD t

/-- START_TIME: rounded down to an even position of the captured raw sleeves (R326). -/
def evenStart (s : State) (is : List Nat) (t : Nat) : Nat :=
  match is.find? (fun i => (sleeveDecl s i).format == .p12 || (sleeveDecl s i).format == .u16) with
  | some i => t - (t - (anchorFor s i t).2) % 2
  | none => t

/-- A value set in a group by its field (R325). -/
def Group.set (x : Group) (q : Nat × Nat × Word) : Group :=
  let setLo := fun (o : Nat) (w : Word) => o / 2 ^ 32 * 2 ^ 32 + w.toNat
  let setHi := fun (o : Nat) (w : Word) => o % 2 ^ 32 + w.toNat * 2 ^ 32
  let hemOf := fun (n : Nat) => if n = 2 ^ 64 - 1 then (none : Option Nat) else some n
  match q.2.1 with
  | 0x10 => { x with holdoffSamples := setLo x.holdoffSamples q.2.2 }
  | 0x11 => { x with holdoffSamples := setHi x.holdoffSamples q.2.2 }
  | 0x12 => { x with holdoffEvents := q.2.2.toNat % 65536 }
  | 0x13 => { x with window := q.2.2.toNat }
  | 0x14 => { x with cuff := setLo x.cuff q.2.2 }
  | 0x15 => { x with cuff := setHi x.cuff q.2.2 }
  | 0x16 => { x with hem := hemOf (setLo (x.hem.getD (2 ^ 64 - 1)) q.2.2) }
  | 0x17 => { x with hem := hemOf (setHi (x.hem.getD (2 ^ 64 - 1)) q.2.2) }
  | _ => x

/-- A group with the values in force for a trigger at sample count `t` (R325). -/
def Group.at (x : Group) (t : Nat) : Group := (x.queued.filter (fun q => decide (q.1 ≤ t))).foldl Group.set x

/-- A group with the values of function start in force (R325). -/
def Group.apply (x : Group) (t : Nat) : Group := { x.at t with queued := x.queued.filter (fun q => !decide (q.1 ≤ t)) }

/-- What a capture holds when its trigger is raised (R328, R329, R335). -/
def makeCapture (s : State) (g : Nat) (d : GroupDecl) (o : Occ) (provisional : Bool) : Capture :=
  let t := o.time / 256
  let x := (group s g).at t
  let l := minSpan s d.sleeves
  let hist := d.sleeves.foldl (fun m i => min m (historyOf s t i)) (min x.cuff l)
  let start := evenStart s d.sleeves (t - hist)
  let full := x.hem.getD (2 ^ 64 - 1)
  let hem := if d.dest == .store then some (min full (l - hist)) else x.hem
  let clipped := match hem with
    | some a => full - a
    | none => 0
  { number := s.trig.next, trig := o, qual := 0, start := start, cuff := hist, hem := hem, clipped := clipped
    flags := b2n (decide (hist < x.cuff)) + 2 * b2n (decide (0 < clipped)) + 64 * b2n provisional +
      128 * b2n (d.dest == .drive) + 256 * b2n (refSettlingAt s t)
    missed := counter s 14 (0x40 * g) % 2 ^ 32, missedFirst := x.firstMiss, calGen := genAt s t
    regions := d.sleeves.map (fun i => (i, regionAt s false i start, 0)), lens := d.sleeves.map (fun i => (sleeve s i).inForce)
    holdoff := x.holdoffSamples, holdoffEvents := x.holdoffEvents }

/-- A capture with the ends of its regions, and CLIPPED when its hem was clipped: HEM less the hem taken (R326, R329). -/
def Capture.ended (s : State) (stop : Nat) (c : Capture) : Capture :=
  { c with
    regions := c.regions.map (fun r => (r.1, r.2.1, regionAt s true r.1 stop))
    clipped := if tbit c.flags 1 then c.hem.getD 0 + c.clipped - (stop - c.trig.time / 256) else c.clipped }

/-- A capture closes with STOP_TIME and flags: CLOSED, its record, the marker pulses, HOLDOFF (R333, R336). -/
def closeCapture (g stop flags : Nat) (s : State) : State :=
  match (group s g).capture with
  | none => s
  | some c =>
    let c := (c.ended s stop).flag flags
    let s := mJob c.number (CapJob.close s c) s
    let s := sleeveRecord g 4 c (some stop) (sendNotice g 4 c (some stop) s)
    let s := mGroup g (fun x => { x with
      state := .holdoff, stopTime := stop, capture := some c, capNo := c.number, capFlags := c.flags }) s
    let s := pulse0 15 0 (bump 15 (0x40 * g) s)
    let s := if tbit c.flags 2 then pulse0 15 1 (bump 15 (0x40 * g + 0x10) s) else s
    let s := if tbit c.flags 3 || tbit c.flags 4 then pulse0 15 4 (bump 15 (0x40 * g + 0x20) s) else s
    match groupDecl s g with
    | some d => (maskOuts d.outMask 4 2).foldl (fun s o => requestPulse o s) s
    | none => s

/-- A capture of DEST NONE, whose trigger only pulses outputs, stands in HOLDOFF (R318). -/
def pulseOnly (g : Nat) (c : Capture) (s : State) : State :=
  mGroup g (fun x => { x with state := .holdoff, stopTime := c.trig.time / 256, capture := some { c with number := 0 } }) s

/-- The trigger of a group qualifies: FINAL, the output pulses, CAPTURING (R326, R332). With DEST NONE only the rings
that saw a provisional notice see the FINAL one. -/
def qualify (g : Nat) (c : Capture) (d : GroupDecl) (s : State) : State :=
  let c := { c with qual := now s }
  let s := mGroup g (fun x => { x with
    state := .capturing, capture := some c, provisional := none, awaitsRun := false, last := some c.trig
    capNo := if d.dest == .none then x.capNo else c.number }) s
  let s := pulse0 14 0 (bump 14 (0x40 * g + 0x10) s)
  let s := (maskOuts d.outMask 0 4).foldl (fun s o => requestPulse o s) s
  if d.dest == .none then pulseOnly g c (if tbit c.flags 6 then sendNotice g 2 c none s else s)
  else
    let s := mJob c.number (fun j => { j with provisional := false }) s
    let s := sendNotice g 2 c none s
    let s := if tbit c.flags 0 then pulse0 15 3 s else s
    let s := if tbit c.flags 1 then pulse0 15 2 (bump 15 (0x40 * g + 0x30) s) else s
    if d.dest == .drive && !volumeRuns s then
      closeCapture g (match s.disk.vol.captures.find? (fun j => j.number == c.number) with
        | some j => max c.start (firstUnrecorded s j)
        | none => c.start) 4 s
    else s

/-- A capture takes its number. -/
def takeNumber (s : State) : State := mTrig (fun t => { t with next := t.next + 1 }) s

/-- The misses of a group are counted anew from the trigger at which its capture begins (R319, R320). -/
def clearMisses (g : Nat) (s : State) : State := mGroup g (fun x => { x with misses := 0, firstMiss := none }) s

/-- A capture begins at a trigger (R326). -/
def beginCapture (g : Nat) (o : Occ) (d : GroupDecl) (s : State) : State :=
  let c := makeCapture s g d o false
  let s := clearMisses g s
  if d.dest == .none then qualify g c d s else qualify g c d (handOver g false c (takeNumber s))

/-- A provisional trigger (R332). -/
def beginProvisional (g : Nat) (o : Occ) (d : GroupDecl) (s : State) : State :=
  let c := makeCapture s g d o true
  let s := takeNumber (clearMisses g s)
  let s := mGroup g (fun x => { x with
    state := .provisional, capture := some c, provisional := some o, awaitsRun := false, capNo := c.number }) s
  let s := pulse0 14 2 (bump 14 (0x40 * g + 0x20) s)
  handOver g true c (sendNotice g 1 c none s)

/-- A group enters ARMED: stopped writers of its captured sleeves resume (R175, R321). -/
def toArmed (g tArm : Nat) (s : State) : State :=
  match groupDecl s g with
  | none => s
  | some d =>
    let levels := (d.condsA ++ d.condsB).filter (fun c => match condDecl s c with
      | some k => k.cls == .tdLevel
      | none => false)
    let s := mGroup g (fun x => { x with
      state := .armed, tArm := tArm, levelDue := levels, capture := none, pendingArm := false, disarmCycle := false
      disarmed := if x.state = .disarmed then (x.disarmedFrom, tArm) :: x.disarmed else x.disarmed }) s
    d.sleeves.foldl (fun s i => resumeWriter i s) s

/-- A group enters DISARMED (R318). -/
def toDisarmed (g : Nat) (s : State) : State :=
  mGroup g (fun x => { x with
    state := .disarmed, capture := none, pendingArm := false, disarmCycle := false, disarmedFrom := now s, levelDue := [] }) s

/-- A provisional trigger is cancelled: CANCELLED, its record, the extents freed, ARMED at once (R332, R334). -/
def cancelProvisional (g flags : Nat) (s : State) : State :=
  match (group s g).capture with
  | none => s
  | some c =>
    let c := c.flag flags
    let s := mJob c.number (fun j => { j with cancelled := true }) s
    let s := sleeveRecord g 3 c none (sendNotice g 3 c none s)
    let s := pulse0 14 3 (bump 14 (0x40 * g + 0x30) s)
    let s := if flags = 0 then s else pulse0 15 4 (bump 15 (0x40 * g + 0x20) s)
    let s := mGroup g (fun x => { x with provisional := none, awaitsRun := false }) s
    if (group s g).disarmCycle && !(group s g).pendingArm then toDisarmed g s else toArmed g (group s g).tArm s

/-- A group leaves HOLDOFF once T_rearm has come, its misses are counted and its notice queue has room (R320). -/
def leaveHoldoff (g : Nat) (s : State) : State :=
  let x := group s g
  match x.state, x.capture, groupDecl s g with
  | .holdoff, some c, some d =>
    if x.stopTime ≤ now s ∧ c.trig.time / 256 + c.holdoff ≤ now s ∧ c.holdoffEvents ≤ x.misses ∧ x.notices.length < 64 then
      if (d.auto && !x.disarmCycle) || x.pendingArm then toArmed g (now s) s else toDisarmed g s
    else s
  | _, _, _ => s

/-- The sample count at which a captured sleeve's writer stopped, from its OVERFLOW marker (R330). -/
def stopSample (s : State) (i : Nat) : Nat := match (sleeve s i).markers.reverse.find? (fun m => m.overflow) with
  | some m => m.time
  | none => now s

/-- A capture ends at sample `t` for a cause of `flags`, but at its hem where that ended first (R326, R330, R331). -/
def closeAt (g t flags : Nat) (c : Capture) (s : State) : State :=
  match c.hem with
  | some h => if c.trig.time / 256 + h ≤ t then closeCapture g (c.trig.time / 256 + h) 0 s else closeCapture g t flags s
  | none => closeCapture g t flags s

/-- A captured sleeve whose writer has stopped, and one whose length has changed (R330, R331). -/
def captureCheck (s : State) (g : Nat) : State :=
  let x := group s g
  match x.state, x.capture with
  | .capturing, some c =>
    match (c.regions.flatMap (fun r => pair s r.1)).find? (fun i => (sleeve s i).stopped) with
    | some i => closeAt g (stopSample s i) 4 c s
    | none =>
      match (List.range c.regions.length).find? (fun k =>
          (sleeve s (c.regions.getD k (0, 0, 0)).1).inForce != c.lens.getD k 0) with
      | some k =>
        let i := (c.regions.getD k (0, 0, 0)).1
        let p := (sleeve s i).passStart
        let t := match frameOf s i with
          | some f => (anchorFor s i (now s)).2 + (p - (anchorFor s i (now s)).1) / max 1 f.recordBytes * f.hop
          | none => timeAt s i (if (sleeveDecl s i).format = .p12 then p * 2 / 3 else p / 2)
        closeAt g t 512 c s
      | none => s
  | _, _ => s

/-- Every running capture checked against its sleeves (R330, R331). -/
def checkCaptures (s : State) : State := (List.range 16).foldl captureCheck s

end Sys2Proof.Machine
end

