-- ==== Sys2Proof/Machine/Triggers.lean ====
section
/-! DEFINITION. The trigger engine (13 R306 to R325): occurrences, stages, judgement, arming, time-domain conditions. -/

namespace Sys2Proof.Machine

/-- Groups in one of whose stages a condition stands. -/
def groupsOf (s : State) (c : Nat) : List Nat :=
  ((img s).groups.filter (fun d => d.condsA.contains c || d.condsB.contains c)).map GroupDecl.group

/-- An occurrence of a condition sets out on the decision paths of its groups (R307, R316). -/
def raiseOcc (c time : Nat) (s : State) : State :=
  (groupsOf s c).foldl (fun s g => mGroup g (fun x => { x with inbox := x.inbox ++ [{ cond := c, time := time }] }) s)
    (bump 14 (0x1000 + 0x10 * c) s)

/-- Declared conditions of a class and source. -/
def condsFor (s : State) (k : CondClass) (source : Nat) : List TrigCond :=
  (img s).conds.filter (fun d => d.cls == k && d.source == source)

/-- Whether a group was DISARMED at a sample count (R319). -/
def wasDisarmed (x : Group) (t : Nat) : Bool :=
  x.disarmed.any (fun r => decide (r.1 ≤ t) && decide (t < r.2))

/-- A trigger counted in MISSED (R319); it can be the last that a hold-off waits for (R320). -/
def missTrigger (g : Nat) (o : Occ) (s : State) : State :=
  leaveHoldoff g (pulse0 14 1 (bump 14 (0x40 * g) (mGroup g (fun x => { x with
    misses := x.misses + 1, firstMiss := match x.firstMiss with
      | some t => some t
      | none => some (o.time / 256) }) s)))

/-- A trigger judged by the group's state at its arrival (R319). -/
def judge (g : Nat) (o : Occ) (s : State) : State :=
  let x := group s g
  match groupDecl s g with
  | none => s
  | some d => match x.state with
    | .armed =>
      if x.tArm ≤ o.time / 256 then beginCapture g o d s
      else if wasDisarmed x (o.time / 256) then s
      else missTrigger g o s
    | .disarmed => s
    | _ => missTrigger g o s

/-- A provisional trigger raised when the group is ARMED and its time is not before the arm (R332). -/
def raiseProvisional (g : Nat) (o : Occ) (s : State) : State :=
  let x := group s g
  match groupDecl s g with
  | none => s
  | some d => if x.state == .armed && decide (x.tArm ≤ o.time / 256) then beginProvisional g o d s else s

/-- The pending provisional trigger qualifies (R332). -/
def qualifyPending (g : Nat) (s : State) : State :=
  match groupDecl s g, (group s g).capture with
  | some d, some c => if (group s g).state == .provisional then qualify g c d s else s
  | _, _ => s

/-- The earliest occurrence of a list that matches. -/
def earliest (ok : Occ → Bool) (os : List Occ) : Option Occ :=
  os.foldl (fun m o => if ok o then match m with
      | some p => if o.time < p.time then some o else some p
      | none => some o else m) none

/-- An occurrence joins those a stage holds, at most 16: the oldest is discarded. Second: whether one was. -/
def holdOcc (o : Occ) (os : List Occ) : List Occ × Bool :=
  if 16 ≤ os.length then (os.drop 1 ++ [o], true) else (os ++ [o], false)

/-- A held occurrence was discarded (R316). -/
def holdA (g : Nat) (o : Occ) (s : State) : State :=
  let h := holdOcc o (group s g).heldA
  let s := mGroup g (fun x => { x with heldA := h.1 }) s
  if h.2 then pulse0 14 4 s else s

/-- A stage B occurrence is held (R316). -/
def holdB (g : Nat) (o : Occ) (s : State) : State :=
  let h := holdOcc o (group s g).heldB
  let s := mGroup g (fun x => { x with heldB := h.1 }) s
  if h.2 then pulse0 14 4 s else s

/-- The occurrence that gives the trigger time of a pair (R317). -/
def pairTime (mode : Nat) (a b : Occ) : Occ := if mode = 1 ∧ b.time < a.time then b else a

/-- Whether an A and a B occurrence of a group pair in a MODE, with the WINDOW for a trigger of that time (R316, R325). -/
def pairs (mode : Nat) (x : Group) (a b : Occ) : Bool :=
  let window := (x.at ((pairTime mode a b).time / 256)).window
  if mode = 1 then decide (a.time ≤ b.time + 256 * window) && decide (b.time ≤ a.time + 256 * window)
  else decide (a.time < b.time) && decide (b.time ≤ a.time + 256 * window)

/-- A stage A occurrence arrives (R316, R317). -/
def arriveA (g : Nat) (d : GroupDecl) (o : Occ) (s : State) : State :=
  let x := group s g
  if d.mode = 0 then judge g o s
  else match earliest (fun b => pairs d.mode x o b) x.heldB with
    | some b => judge g (pairTime d.mode o b) (mGroup g (fun x => { x with heldB := x.heldB.erase b }) s)
    | none =>
      if d.mode = 2 ∧ d.provisional = true ∧ x.state = .armed ∧ x.tArm ≤ o.time / 256 then raiseProvisional g o s
      else holdA g o s

/-- A stage B occurrence arrives (R316, R317). -/
def arriveB (g : Nat) (d : GroupDecl) (o : Occ) (s : State) : State :=
  let x := group s g
  let pending : Bool := match x.provisional with
    | some a => x.state == .provisional && d.mode != 0 && !x.awaitsRun && pairs d.mode x a o
    | none => false
  if d.mode = 0 then s
  else if pending then qualifyPending g s
  else match earliest (fun a => pairs d.mode x a o) x.heldA with
    | some a => judge g (pairTime d.mode a o) (mGroup g (fun x => { x with heldA := x.heldA.erase a }) s)
    | none => holdB g o s

/-- Whether an occurrence of a mask condition is the one that completes the group's pending run (R313, R319). -/
def completesRun (s : State) (g : Nat) (o : Occ) : Bool :=
  let x := group s g
  x.state == .provisional && x.awaitsRun && x.provisional == some o

/-- The run of a provisional trigger qualifies: alone in a SINGLE group, else as the A occurrence of a pair, for which
the group goes on waiting when no B stands held (R313, R316, R319; DEDUCED, log 34). -/
def runCompletes (g : Nat) (d : GroupDecl) (o : Occ) (s : State) : State :=
  let x := group s g
  if d.mode = 0 then qualifyPending g s
  else match earliest (fun b => pairs d.mode x o b) x.heldB with
    | some b => qualifyPending g (mGroup g (fun x => { x with heldB := x.heldB.erase b }) s)
    | none => mGroup g (fun x => { x with awaitsRun := false }) s

/-- An occurrence reaches its group (R316). -/
def arrive (g : Nat) (o : Occ) (s : State) : State :=
  match groupDecl s g with
  | none => s
  | some d =>
    if completesRun s g o then runCompletes g d o s
    else
      let s := if d.condsA.contains o.cond then arriveA g d o s else s
      if d.condsB.contains o.cond then arriveB g d o s else s

/-- OCCURRENCE_ARRIVAL: the k-th occurrence on the paths of a group arrives; from step 1 of a stop on, it starts nothing
and is not counted (R316, R75). -/
def arrivalOf (g k : Nat) (s : State) : State :=
  match (group s g).inbox[k]? with
  | some o =>
    let s' := mGroup g (fun x => { x with inbox := x.inbox.eraseIdx k }) s
    if functionLive s && running s then arrive g o s' else s'
  | none => s

/-- Bound of a condition in samples, from its decisive sample to the group (R307). -/
def condBound (s : State) (d : TrigCond) : Nat :=
  let cycles := fun (cls index : Nat) => 16 * (boundOf s cls index).getD 0
  match d.cls with
  | .tdLevel | .tdEdge | .tdWidth | .overrange => 1229
  | .mask => 2 ^ ((img s).frames.getD d.stream {}).sizeLog2 + cycles 1 d.source
  | .density => cycles 4 ((((img s).denConds.find? (fun c => c.condition == d.source)).map CondDecl.plane).getD 0)
  | .context => cycles 3 d.source
  | .event => 820

/-- Whether the sample count has passed an occurrence's time by WINDOW plus the largest bound among the conditions of
its group (R316). -/
def expired (s : State) (g : Nat) (d : GroupDecl) (o : Occ) : Bool :=
  let most := (d.condsA ++ d.condsB).foldl (fun m c => max m (((condDecl s c).map (condBound s)).getD 0)) 0
  decide (o.time / 256 + ((group s g).at (o.time / 256)).window + most < now s)

/-- OCCURRENCE_EXPIRY: the earliest occurrence that a group holds expires once its time has come; a provisional A is
disqualified (R316, R317). -/
def expire (g : Nat) (s : State) : State :=
  let x := group s g
  let d := (groupDecl s g).getD {}
  let first := earliest (fun _ => true) (x.heldA ++ x.heldB)
  let pending := if x.state == .provisional && d.mode != 0 && !x.awaitsRun then x.provisional else none
  let lets := fun (o : Occ) => if expired s g d o then mGroup g (fun x => { x with
    heldA := x.heldA.erase o, heldB := if x.heldA.contains o then x.heldB else x.heldB.erase o }) s else s
  match pending, first with
  | some p, none => if expired s g d p then cancelProvisional g 0 s else s
  | some p, some o =>
    if p.time ≤ o.time then if expired s g d p then cancelProvisional g 0 s else s else lets o
  | none, some o => lets o
  | none, none => s

/-- Whether every sample before count `n` has been taken: those of this CK_ENG cycle once they have arrived (R139). -/
def samplesPast (s : State) (n : Nat) : Bool :=
  decide (n ≤ cycleBase s) || ((List.range 4).any (fun c => (chan s c).arrived) && decide (n ≤ cycleBase s + 16))

/-- HEM_END: the capture closes once its hem's last sample has been taken (R326, R329). -/
def hemEnd (g : Nat) (s : State) : State :=
  match (group s g).state, (group s g).capture with
  | .capturing, some c => match c.hem with
    | some h => if samplesPast s (c.trig.time / 256 + h) then closeCapture g (c.trig.time / 256 + h) 0 s else s
    | none => s
  | _, _ => s

/-- TRG_ARM for one group (R321). -/
def armGroup (g : Nat) (s : State) : State :=
  if (groupDecl s g).isNone then s
  else match (group s g).state with
  | .disarmed => toArmed g (now s) s
  | .armed => s
  | _ => mGroup g (fun x => { x with pendingArm := true }) s

/-- TRG_DISARM for one group (R321). -/
def disarmGroup (g : Nat) (s : State) : State :=
  if (groupDecl s g).isNone then s
  else match (group s g).state with
  | .armed => toDisarmed g s
  | .disarmed => s
  | _ => mGroup g (fun x => { x with pendingArm := false, disarmCycle := true }) s

/-- TRG_FORCE for one group (R321). -/
def forceGroup (g : Nat) (s : State) : State := judge g { cond := 0xFF, time := 256 * now s } s

/-- CAP_ABORT for one group (R334). -/
def abortCapture (g : Nat) (s : State) : State :=
  let x := group s g
  match x.state, x.capture with
  | .capturing, some c =>
    match c.hem with
    | some h => if c.trig.time / 256 + h ≤ cycleBase s then closeCapture g (c.trig.time / 256 + h) 16 s
        else closeCapture g (max c.start (cycleBase s)) 8 s
    | none => closeCapture g (max c.start (cycleBase s)) 8 s
  | .provisional, some _ => cancelProvisional g 8 s
  | _, _ => s

/-- CAP_ABORT for the groups of a 16-bit mask (R334): a restart does not shut it out before the function stops. -/
def abortCaptures (w : Word) (s : State) : State :=
  if functionLive s then ((List.range 16).filter (tbit w.toNat)).foldl (fun s g => abortCapture g s) s else s

/-- The groups of a 16-bit mask, each acted on while the function runs (R321). -/
def eachGroup (f : Nat → State → State) (w : Word) (s : State) : State :=
  if running s && functionLive s then ((List.range 16).filter (tbit w.toNat)).foldl (fun s g => f g s) s else s

/-- Values that waited for sample `n` come into force in a condition (R325). -/
def Cond.apply (k : Cond) (n : Nat) : Cond :=
  let due := k.queued.filter (fun q => decide (q.1 ≤ n))
  let k := due.foldl (fun k q => match q.2.1 with
    | 0x00 => { k with level := sgn 12 q.2.2.toNat }
    | 0x01 => { k with hyst := q.2.2.toNat % 1024 }
    | 0x02 => { k with wmin := q.2.2.toNat % 2 ^ 25 }
    | 0x03 => { k with wmax := q.2.2.toNat % 2 ^ 25 }
    | 0x04 => { k with minBins := q.2.2.toNat % 65536 }
    | 0x05 => { k with qual := q.2.2.toNat % 256 }
    | _ => k) k
  { k with queued := k.queued.filter (fun q => !decide (q.1 ≤ n)) }

/-- Place in fine ticks of a crossing between sample n − 1, of code a, and sample n, of code b (R309). -/
def crossing (n : Nat) (a b level : Int) : Nat :=
  256 * (n - 1) + (512 * (level - a).natAbs + (b - a).natAbs) / (2 * (b - a).natAbs)

/-- Place of the crossing that ends at sample `n`, with the LEVEL of that sample where it lies between the two codes,
else with the LEVEL of the sample before, else at sample `n` (R309, R325; DESIGN CHOICE, log 126). -/
def crossingAt (n : Nat) (a b level before : Int) : Nat :=
  let between := fun (l : Int) => (decide (a < l) && decide (l ≤ b)) || (decide (l ≤ a) && decide (b < l))
  if between level then crossing n a b level
  else if between before then crossing n a b before
  else 256 * n

/-- One sample at a time-domain condition: the condition after it and the occurrence it gives (R308 to R310). Each
sample is high or low by the LEVEL of its own time, and a pulse is judged by the widths at its start (R325). With
`quiet`, under CAL_ACTIVE, no occurrence is given and no re-arm used up (R311). -/
def tdSample (d : TrigCond) (n : Nat) (code : Int) (quiet : Bool) (old : Cond) : Cond × Option Nat :=
  let k := old.apply n
  let high := decide (k.level ≤ code)
  let was := k.prev.map (fun a => decide (old.level ≤ a))
  let up := was == some false && high
  let down := was == some true && !high
  let place := match k.prev with
    | some a => if up || down then crossingAt n a code k.level old.level else 256 * n
    | none => 256 * n
  let widths := if place < 256 * n then old else k
  let rearm := fun (k : Cond) => { k with
    prev := some code
    readyUp := k.readyUp || decide (code < k.level - k.hyst)
    readyDown := k.readyDown || decide (k.level + k.hyst ≤ code) }
  match d.cls with
  | .tdLevel =>
    if d.polarity = 0 then
      if high && was != some true && k.readyUp && !quiet then (rearm { k with readyUp := false }, some (256 * n)) else (rearm k, none)
    else
      if !high && was != some false && k.readyDown && !quiet then (rearm { k with readyDown := false }, some (256 * n)) else (rearm k, none)
  | .tdEdge =>
    if up && d.polarity != 1 && k.readyUp && !quiet then
      (rearm { k with readyUp := false, readyDown := k.readyDown && d.polarity != 2 }, some place)
    else if down && d.polarity != 0 && k.readyDown && !quiet then
      (rearm { k with readyDown := false, readyUp := k.readyUp && d.polarity != 2 }, some place)
    else (rearm k, none)
  | .tdWidth =>
    let begins := if d.polarity = 0 then up else down
    let ends := if d.polarity = 0 then down else up
    if begins then
      (rearm { k with pulse := some { start := place, width := 1, wmin := widths.wmin, wmax := widths.wmax, fired := false } }, none)
    else match k.pulse with
      | none => (rearm k, none)
      | some p =>
        if ends then
          let hit := if d.outside then decide (p.width < p.wmin) else decide (p.wmin ≤ p.width) && decide (p.width ≤ p.wmax)
          (rearm { k with pulse := none }, if hit && !quiet then some p.start else none)
        else
          let p := { p with width := p.width + 1 }
          if d.outside && p.width == p.wmax + 1 && !p.fired then
            (rearm { k with pulse := some { p with fired := true } }, if quiet then none else some p.start)
          else (rearm { k with pulse := some p }, none)
  | _ => (k, none)

/-- Whether a TD_LEVEL condition's level holds at a code. -/
def levelHolds (d : TrigCond) (k : Cond) (code : Int) : Bool :=
  if d.polarity = 0 then decide (k.level ≤ code) else decide (code < k.level)

/-- Groups that have entered ARMED get their own occurrence at their first sample while a level holds (R308). -/
def levelGroups (d : TrigCond) (n : Nat) (code : Int) (own cal : Bool) (s : State) : State :=
  (groupsOf s d.cond).foldl (fun s g =>
    let x := group s g
    if x.levelDue.contains d.cond && decide (x.tArm ≤ n) then
      let s := mGroup g (fun x => { x with levelDue := x.levelDue.filter (· != d.cond) }) s
      if !own && !cal && levelHolds d (cond s d.cond) code && x.state == .armed then
        mGroup g (fun x => { x with inbox := x.inbox ++ [{ cond := d.cond, time := 256 * n }] }) s
      else s
    else s) s

/-- One sample of a channel at one of its time-domain conditions (R308, R311). -/
def tdStep (ch n : Nat) (code : Int) (s : State) (d : TrigCond) : State :=
  let cal := calActive s ch
  let r := tdSample d n code cal (cond s d.cond)
  let s := mCond d.cond (fun _ => r.1) s
  let s := match r.2 with
    | some t => raiseOcc d.cond t s
    | none => s
  if d.cls == .tdLevel then levelGroups d n code r.2.isSome cal s else s

/-- Time-domain conditions of a channel. -/
def tdConds (s : State) (ch : Nat) : List TrigCond :=
  (img s).conds.filter (fun d => (d.cls == .tdLevel || d.cls == .tdEdge || d.cls == .tdWidth) && d.source == ch)

/-- The samples of a cycle at the time-domain conditions of a channel, sample by sample (R308). -/
def tdSamples (ch : Nat) : Nat → List Int → State → State
  | _, [], s => s
  | n, a :: r, s => tdSamples ch (n + 1) r ((tdConds s ch).foldl (tdStep ch n a) s)

/-- The first OVR sample of an overload window is an OVERRANGE occurrence (R307, R311). -/
def overrange (ch n : Nat) (s : State) : State :=
  if calActive s ch || !functionLive s then s
  else (condsFor s .overrange ch).foldl (fun s d => raiseOcc d.cond (256 * n) s) s

/-- A condition at function start (R325). -/
def condStart (d : TrigCond) : Cond :=
  { level := d.level, hyst := d.hyst, wmin := d.wmin, wmax := d.wmax, minBins := d.minBins, qual := d.qual }

/-- A group at function start (R318, R325). -/
def groupStart (d : GroupDecl) : Group :=
  { window := d.window, holdoffSamples := d.holdoffSamples, holdoffEvents := d.holdoffEvents, cuff := d.cuff, hem := d.hem }

end Sys2Proof.Machine
end

