-- ==== Sys2Proof/Machine/Converter.lean ====
section
/-! DEFINITION. The commands of the converter (06): samples, clamping, windows and relays. -/

namespace Sys2Proof.Machine

/-- A CK_ENG cycle passes and no channel's samples of the new one have arrived (R139). -/
def nextCycle (s : State) : State :=
  (List.range 4).foldl (fun s c => mChan c (fun h => { h with arrived := false }) s) (passCycle s)

/-- The 16 samples of a channel: its marks, raw sleeves and time-domain conditions (R16, R139). When the present cycle's
have already arrived, the next CK_ENG cycle has begun. -/
def takeSamples (ch : Nat) (codes : List Int) (s : State) : State :=
  let s := if (chan s ch).arrived then nextCycle s else s
  let n := cycleBase s
  let s := if refSettling s then mChan ch (fun h => { h with refRuns := joinRun n (n + 15) h.refRuns }) s else s
  let s := channelSamples ch codes s
  checkCaptures (if functionLive s && decide (s.eng.t0 ≤ n) then tdSamples ch n codes s else s)

/-- A slice clamps: its window opens or is joined, and a window's first sample is an OVERRANGE occurrence (R146, R307). -/
def takeClamp (ch slice : Nat) (s : State) : State :=
  let n := cycleBase s + slice
  let fresh := !joinsWindow (chan s ch) n
  let s := clampSlice ch slice s
  if fresh then overrange ch n s else s

/-- The overload window of a channel ends (R146). -/
def endWindow (ch : Nat) (s : State) : State := mChan ch (fun h => { h with window := false, deep := false }) s

/-- 512 samples after a window: ADJ on the neighbours ends (R147). -/
def endNeighbourAdj (ch : Nat) (s : State) : State :=
  mChan ch (fun h => if h.window then h else { h with lastClamp := none }) s

/-- The 820 samples after a range switch end (R135). -/
def endAdjWindow (ch : Nat) (s : State) : State := mChan ch (fun h => { h with switching := false }) s

/-- CONVERTER_SAMPLE (R139). -/
def execConverterSample (ch : Nat) (codes : List Int) (s : State) : Host.Outcome State Fault Refusal :=
  act (takeSamples ch codes) s

/-- SLICE_CLAMP (R145). -/
def execSliceClamp (ch slice : Nat) (s : State) : Host.Outcome State Fault Refusal := act (takeClamp ch slice) s

/-- DEEP_TRIP (R146). -/
def execDeepTrip (ch : Nat) (s : State) : Host.Outcome State Fault Refusal := act (tripDeep ch) s

/-- OVERLOAD_WINDOW_END (R146). -/
def execOverloadWindowEnd (ch : Nat) (s : State) : Host.Outcome State Fault Refusal := act (endWindow ch) s

/-- NEIGHBOUR_ADJ_END (R147). -/
def execNeighbourAdjEnd (ch : Nat) (s : State) : Host.Outcome State Fault Refusal := act (endNeighbourAdj ch) s

/-- ADJ_WINDOW_END (R135). -/
def execAdjWindowEnd (ch : Nat) (s : State) : Host.Outcome State Fault Refusal := act (endAdjWindow ch) s

end Sys2Proof.Machine
end

