-- ==== Sys2Proof/Machine/Factory.lean ====
section
/-! DEFINITION. The factory trim block in one-time-programmable memory (17 R406, R407) and its digest. -/

namespace Sys2Proof.Machine

/-- A list of bytes with `data` in place of the bytes from `off`. -/
def overlay (bs : List Byte) (off : Nat) (data : List Byte) : List Byte :=
  bs.take off ++ data ++ bs.drop (off + data.length)

/-- A trim brought into its code range (R141). -/
def Trim.inRange (t : Trim) : Trim :=
  { offset := clampI (-2048) 2047 t.offset, gain := clampI (-2048) 2047 t.gain, skew := clampI (-512) 511 t.skew }

/-- The factory trim of index `e` (R407). -/
def factoryTrim (e : Nat) : Trim :=
  let t := Config.factoryTrim e
  Trim.inRange { offset := t.1, gain := t.2.1, skew := t.2.2 }

/-- The factory integer delay of a channel (R144, R406). -/
def factoryDelay (c : Nat) : Nat := Config.factoryDelay c % 64

/-- The six bytes of an entry of a trim set (R407). -/
def Trim.bytes (t : Trim) : List Byte := leBytes 2 (enc 16 t.offset) ++ leBytes 2 (enc 16 t.gain) ++ leBytes 2 (enc 16 t.skew)

/-- The 192 entries of a trim set (R407). -/
def setBytes (f : Nat → Trim) : List Byte := (List.range 192).flatMap (fun e => (f e).bytes)

/-- The 12 bytes of an ageing model (R406). -/
def ageBytes (a : Int × Int × Nat) : List Byte := leBytes 4 (enc 32 a.1) ++ leBytes 4 (enc 32 a.2.1) ++ leBytes 4 a.2.2

/-- The 4,096 bytes of the factory trim block (R406). -/
def factoryBlock : List Byte :=
  leBytes 4 0x42545A53 ++ leBytes 2 1 ++ leBytes 2 Config.stepping ++ leBytes 8 0 ++ setBytes factoryTrim ++
  (List.range 4).map (fun c => BitVec.ofNat 8 (factoryDelay c)) ++ ageBytes Config.factoryAge ++
  (List.range 482).map (fun k => Config.factoryByte (0x4A0 + k)) ++
  (List.range 8).flatMap (fun n => leBytes 2 (Config.tiuDelay n)) ++
  (List.range 6).flatMap (fun o => leBytes 2 (Config.outDelay o)) ++ leBytes 2402 0

/-- The trim digest (R406). -/
def trimDigest : Digest := sha3 factoryBlock

/-- CLK_REFOUT_DLY, from the factory trim block (R129, R406). -/
def refoutDelay : Nat := (Config.factoryByte 0x680).toNat + 256 * (Config.factoryByte 0x681).toNat

end Sys2Proof.Machine
end

