-- ==== Sys2Proof/Machine/CfgSpace.lean ====
section
/-! DEFINITION. The configuration space (16 R380 to R382, R384): the fields that the spec fixes, what software sets, and
the errors that AER logs and reports. R380 names the items; their places are PCIe's (PRESUMED, log 5). -/

namespace Sys2Proof.Machine

/-- Device Control, with its default: Relaxed Ordering and No Snoop enabled, read requests of 512 B (log 5). -/
def devControl (l : HostLink) : Nat := ((look 0 l.cfg (Config.pcieCap + 2) &&& 0xFFFF) ^^^ 0x2810).toNat

/-- Whether data writes carry Relaxed Ordering (R392). -/
def relaxedOn (l : HostLink) : Bool := tbit (devControl l) 4

/-- The AER capability stands first among the extended ones of `Config.extCap`. -/
def aerCap : Nat := Config.extCap 0

/-- Uncorrectable Error Mask, Uncorrectable Error Severity and Correctable Error Mask, with their defaults (log 5). -/
def aerMask (l : HostLink) : Nat := (look 0 l.cfg (aerCap + 2)).toNat
def aerSeverity (l : HostLink) : Nat := (look 0 l.cfg (aerCap + 3) ^^^ 0x00462030).toNat
def aerCorMask (l : HostLink) : Nat := (look 0 l.cfg (aerCap + 5) ^^^ 0x2000).toNat

/-- A status bit set. -/
def withBit (n k : Nat) : Nat := if tbit n k then n else n + 2 ^ k

/-- An uncorrectable error of kind `k` in the AER status (R384). The first one standing is pointed at, and where it is an
error of a packet, poisoned (12), with a bad ECRC (19) or unsupported (20), the packet's header is logged, which the
model's commands do not carry: free values (log 5). -/
def logUncorrectable (k : Nat) (s : State) : State :=
  let first := !tbit s.link.aerUnc s.link.aerFirst
  let s := mLink (fun l => { l with aerUnc := withBit l.aerUnc k, aerFirst := if first then k else l.aerFirst }) s
  if first && (k == 12 || k == 19 || k == 20) then
    nextFree (nextFree (nextFree (nextFree (mLink (fun l => { l with
      aerHeader := (List.range 4).map (fun j => Config.freeValue (s.free + j)) }) s))))
  else s

/-- An advisory non-fatal error of uncorrectable kind `k` (R384): the Correctable Error Status takes bit 13 and, unless that
is masked, the Uncorrectable Error Status bit `k`, and ERR_COR is sent where Device Control enables it. -/
def advisoryError (k : Nat) (s : State) : State :=
  let l := s.link
  let s := mLink (fun l => { l with
    aerCor := withBit l.aerCor 13, devStatus := withBit (if k = 20 then withBit l.devStatus 3 else l.devStatus) 0 }) s
  if tbit (aerCorMask l) 13 then s
  else
    let s := logUncorrectable k s
    if !tbit (aerMask l) k && tbit (devControl l) 0 then emit (.errorMessage 0) s else s

/-- An uncorrectable error of kind `k`, by its severity non-fatal or fatal (R384). -/
def uncorrectable (k : Nat) (s : State) : State :=
  let l := s.link
  let c := if tbit (aerSeverity l) k then 2 else 1
  let s := mLink (fun l => { l with
    devStatus := withBit (if k = 20 then withBit l.devStatus 3 else l.devStatus) c }) (logUncorrectable k s)
  if !tbit (aerMask l) k && tbit (devControl l) c then emit (.errorMessage c) s else s

/-- An error that PCIe lets the 4920 report as advisory while its severity is non-fatal (R384). -/
def reportError (k : Nat) (s : State) : State :=
  if tbit (aerSeverity s.link) k then uncorrectable k s else advisoryError k s

/-- A completion of a device read that fails: which way, poisoned, with UR or with CA, its command does not say, so it is a
free value. A poisoned one is an error of AER; UR and CA are shown in the Status register (R384; log 5). -/
def failedCompletion (s : State) : State :=
  let k := Config.freeValue s.free % 3
  let s := mLink (fun l => { l with status := withBit l.status (15 - k - b2n (decide (0 < k))) }) (nextFree s)
  if k = 0 then reportError 12 s else s

/-- Extended capability IDs, AER first: R380's list by PCIe's numbers (log 5). -/
def extIds : List Nat := [0x01, 0x25, 0x26, 0x2A, 0x31, 0x27]

/-- The bits that a configuration dword holds whatever software writes: which bits, and their value (R380 to R382). The
capabilities of R380 stand in two chains, and no other does (log 5). -/
def cfgFixed (s : State) (d : Nat) : Word × Word :=
  let l := s.link
  if d = 1 then (0xFF100000, w32 (l.status * 2 ^ 16) ||| 0x00100000)
  else if d = 3 then (0x00FF0000, 0)
  else if d = 13 then (0xFF, w32 (4 * Config.pmCap))
  else if d = Config.msixCap then (0x07FFFFFF, w32 (0x07FF0011 + 1024 * Config.pcieCap))
  else if d = Config.msixCap + 1 then (0xFFFFFFFF, 0x000E8000)
  else if d = Config.msixCap + 2 then (0xFFFFFFFF, 0x000E7F00)
  else if d = Config.pmCap then (0x0600FFFF, w32 (1 + 1024 * Config.msixCap))
  else if d = Config.pmCap + 1 then (3, w32 (if l.d3hot then 3 else 0))
  else if d = Config.pcieCap then (0x00FFFFFF, 0x00020010)
  else if d = Config.pcieCap + 1 then (0x10000007, 0x10000002)
  else if d = Config.pcieCap + 2 then (0x000F0000, w32 (l.devStatus * 2 ^ 16))
  else if d = Config.pcieCap + 3 then (0x00000FFF, 0x00000906)
  else if d = Config.pcieCap + 4 then (0x03FF0001, w32 (l.speed * 2 ^ 16 + l.width * 2 ^ 20))
  else if d = Config.pcieCap + 9 then (0x0003300F, 0x0003000F)
  else if d = aerCap + 1 then (0xFFFFFFFF, w32 l.aerUnc)
  else if d = aerCap + 4 then (0xFFFFFFFF, w32 l.aerCor)
  else if d = aerCap + 6 then (0x000000BF, w32 (0xA0 + l.aerFirst % 32))
  else if aerCap + 7 ≤ d ∧ d ≤ aerCap + 10 then (0xFFFFFFFF, w32 (l.aerHeader.getD (d - aerCap - 7) 0))
  else match (List.range 6).find? (fun k => Config.extCap k == d) with
    | some k => (0xFFF0FFFF, w32 (extIds.getD k 0 + if k = 5 then 0 else 4 * Config.extCap (k + 1) * 2 ^ 20))
    | none => (0, 0)

/-- The bits of a configuration dword that software sets whatever `Config.cfgMask` says of them: MSI-X Enable and Function
Mask, Device Control, the ASPM L1 enable, the AER masks and severity, and the ECRC enables (R380, R382, R384). -/
def cfgOpen (d : Nat) : Word :=
  if d = Config.msixCap then 0xC0000000
  else if d = Config.pcieCap + 2 then 0x79FF
  else if d = Config.pcieCap + 4 then 2
  else if d = aerCap + 2 ∨ d = aerCap + 3 ∨ d = aerCap + 5 then 0xFFFFFFFF
  else if d = aerCap + 6 then 0x140
  else 0

/-- The default of the bits that software can set. -/
def cfgDefault (d : Nat) : Word :=
  if d = Config.pcieCap + 2 then 0x2810
  else if d = aerCap + 3 then 0x00462030
  else if d = aerCap + 5 then 0x2000
  else 0

/-- The bits of a configuration dword that software can set. -/
def cfgWritable (s : State) (d : Nat) : Word := (Config.cfgMask d ||| cfgOpen d) &&& ~~~ (cfgFixed s d).1

/-- A configuration dword (R380). -/
def cfgRead (s : State) (d : Nat) : Word :=
  match d with
  | 0x0 => 0x49201FA4
  | 0x2 => 0x11800000 ||| w32 (Config.stepping % 256)
  | 0x4 => w32 (s.link.bar0 * 2 ^ 24)
  | 0x5 => 0
  | 0x6 => 0xC
  | 0x7 => w32 (s.link.bar2 * 16)
  | 0x8 => 0
  | 0x9 => 0
  | 0xB => 0x49201FA4
  | 0xC => 0
  | d =>
    let f := cfgFixed s d
    let w := cfgWritable s d
    (f.2 &&& f.1) ||| ((look 0 s.link.cfg d ^^^ cfgDefault d) &&& w) ||| (Config.cfgDword d &&& ~~~ f.1 &&& ~~~ w)

end Sys2Proof.Machine
end

