-- ==== Sys2Proof/Machine/Traffic.lean ====
section
/-! DEFINITION. Open traffic of the central store (R163 to R169): requests, tags, turns, slots, and error marks. -/

namespace Sys2Proof.Machine

/-- Weight of a requester in the table in use (R163, R166). -/
def weight (s : State) (r : Nat) : Nat :=
  if s.store.imageTable then (img s).slots.weights.getD r 0 else if r = 5 then 15 else 0

/-- Transactions of a requester that wait for a slot. -/
def waiting (s : State) (r : Nat) : List Txn := look [] s.store.queues r

/-- Tags a requester holds (R167). -/
def tagsHeld (s : State) (r : Nat) : Nat :=
  ((waiting s r).filter Txn.tag).length + (s.store.flights.filter (fun f => f.req == r)).length

/-- Tags in use, STORE_TAGS[IN_USE]. -/
def tagsInUse (s : State) : Nat := (List.range 6).foldl (fun n r => n + tagsHeld s r) 0

/-- Shared tags in use (R167). -/
def sharedInUse (s : State) : Nat := (List.range 6).foldl (fun n r => n + (tagsHeld s r - 1024)) 0

/-- Whether a requester holds back a transaction for want of a tag (R167). -/
def tagWaits (s : State) (r : Nat) : Bool := (waiting s r).any (fun t => !t.tag)

/-- Requesters that wait for a shared tag, in order of request (R167). -/
def tagQueue (s : State) : List Nat := s.store.tagOrder.filter (tagWaits s)

/-- Whether a tag is available to a requester: one of its own, or a shared one that no other requester has asked for
before it (R167). -/
def tagFree (s : State) (r : Nat) : Bool :=
  decide (tagsHeld s r < 1024) || (decide (sharedInUse s < 26624) && (tagQueue s).headD r == r)

/-- A transaction enters its requester's queue, with a tag when one is available (R164, R167). TAG_WAITS counts each time
a requester begins to wait (DESIGN CHOICE, log 146). -/
def openRequest (r addr len : Nat) (data : Option (List Byte)) (p : Purpose) (s : State) : State :=
  let tag := !tagWaits s r && tagFree s r
  let t : Txn := { addr := addr, len := len, data := data, purpose := p, tag := tag }
  let s := if !tag && !tagWaits s r then bump 8 0x8020 (mStore (fun v => { v with
      tagOrder := v.tagOrder.filter (· != r) ++ [r] }) s) else s
  mStore (fun v => { v with queues := upd [] r (· ++ [t]) v.queues }) s

/-- A request for the `n` bytes from address `a`, as the aligned run of 64-byte units that holds them (R164). -/
def openSpan (r a n : Nat) (data : Option (List Byte)) (p : Purpose) (s : State) : State :=
  openRequest r (a / 64 * 64) ((a + n + 63) / 64 * 64 - a / 64 * 64) data p s

/-- The first transaction without a tag receives one. -/
def tagFirst : List Txn → List Txn
  | [] => []
  | t :: q => if t.tag then t :: tagFirst q else { t with tag := true } :: q

/-- TAG_GRANT (R167): the requester's next transaction, if it has one more, asks after those that wait already. -/
def grantTag (r : Nat) (s : State) : State :=
  if tagFree s r && tagWaits s r then
    mStore (fun v => { v with queues := upd [] r tagFirst v.queues, tagOrder := v.tagOrder.filter (· != r) ++ [r] }) s
  else s

/-- Whether a requester can use a slot: its head transaction holds a tag. -/
def canUse (s : State) (r : Nat) : Bool := match waiting s r with
  | t :: _ => t.tag
  | [] => false

/-- The requester that an open slot serves, and how many slots of its turn that makes (R166). -/
def nextServed (s : State) : Nat → Nat → Nat → Option (Nat × Nat)
  | 0, _, _ => none
  | k + 1, r, used =>
    if canUse s r && decide (used < weight s r) then some (r, used + 1) else nextServed s k ((r + 1) % 6) 0

/-- The transactions one slot carries from the head of a queue: at most 4,096 bytes together (R164). -/
def slotLoad : Nat → List Txn → List Txn × List Txn
  | _, [] => ([], [])
  | room, t :: q =>
    if t.tag && decide (t.len ≤ room) then
      let r := slotLoad (room - t.len) q
      (t :: r.1, r.2)
    else ([], t :: q)

/-- Requesters with a transaction waiting, bit per requester. -/
def waitMask (s : State) : Nat := (List.range 6).foldl (fun n r => if (waiting s r).isEmpty then n else n + 2 ^ r) 0

/-- The last whole pass of the table ends: OPEN_BACKLOG follows what waited at every open slot of it, and where no slot was
taken in it what waits now (R169). -/
def endTablePass (s : State) : State :=
  let mask := if s.store.slotSeen then s.store.alwaysWaiting else waitMask s
  mStore (fun v => { v with backlog := mask != 0, alwaysWaiting := 63, slotSeen := false }) s

/-- The sleeve whose bytes an address belongs to, or 0xFFFF. -/
def sleeveOf (s : State) (a : Nat) : Nat := match sleeveAt s a with
  | some (i, _) => i
  | none => 0xFFFF

/-- A word read came out corrected or uncorrectable (R183, R184). -/
def eccEvent (x : Ecc) (s : State) : State := match x with
  | .clean => s
  | .corrected a => pulse0 8 0 (bump 8 0x8000 (mStore (fun v => { v with ceAddr := a }) s))
  | .bad a =>
    let i := sleeveOf s a
    let s := if i = 0xFFFF then s else mSleeve i (fun v => { v with ueSeen := true }) s
    logEvent 0x3016 8 [a % 2 ^ 32, a / 2 ^ 32, i] (pulse0 8 1 (bump 8 0x8010 (mStore (fun v => { v with ueAddr := a }) s)))

/-- How the check codes of the `n` bytes of a static read came out, and at which of them, with the bytes' addresses: a free
value (R183, R184; log 129). -/
def freeEcc (s : State) (addr : Nat → Nat) (n : Nat) : Ecc :=
  let a := addr (Config.freeValue (s.free + 1) % max 1 n) / 32 * 32
  match Config.freeValue s.free % 3 with
  | 0 => .clean
  | 1 => .corrected a
  | _ => .bad a

/-- Whether a read carries a UE mark (R184). -/
def Ecc.ue : Ecc → Bool
  | .bad _ => true
  | _ => false

/-- Whether BAR2 shows the `n` bytes from `x`: inside one host-readable sleeve, below its high-water mark (R182). A read
that begins there and runs past it is answered and counted as a whole like one that begins past it (DESIGN CHOICE,
log 145). -/
def bar2Shows (s : State) (x n : Nat) : Bool :=
  s.store.imageTable && match sleeveAt s x with
  | some (i, off) => (sleeveDecl s i).hostRead && decide (off + n ≤ (sleeve s i).hwm)
  | none => false

/-- The aligned blocks that a range of `n` bytes from `x` touches, cut at 4,096-byte blocks. -/
def cutBlocks : Nat → Nat → Nat → List (Nat × Nat)
  | 0, _, _ => []
  | k + 1, x, n =>
    if n = 0 then []
    else
      let m := min n (4096 - x % 4096)
      (x, m) :: cutBlocks k (x + m) (n - m)

/-- A read through BAR2 (R60, R182): stored data through a HOST transaction, or all ones. -/
def bar2Read (x n : Nat) (s : State) : State :=
  if !bar2Open s then emit (.bar2 (List.replicate n 0xFF)) s
  else if bar2Shows s x n then
    (cutBlocks (n / 4096 + 2) x n).foldl (fun s b =>
      openSpan 2 b.1 b.2 none (.bar2 b.1 b.2) s) s
  else emit (.bar2 (List.replicate n 0xFF)) (pulse0 8 4 (bump 8 0x8030 s))

/-- A write through BAR2: discarded (R182), a poisoned one with POISON (R384). -/
def bar2Write (poisoned : Bool) (s : State) : State :=
  let s := if poisoned then reportError 12 (pulse0 18 2 (bump 18 0x10 s)) else s
  if bar2Open s then pulse0 8 4 (bump 8 0x8030 s) else s

/-- The ring of a DMA transaction. -/
def Txn.ring (t : Txn) : Nat := match t.purpose with
  | .dma q => q
  | _ => 0

/-- A transaction in its place in ring order, counted from the ring after the one served last (R394). -/
def insertRing (from_ : Nat) (t : Txn) : List Txn → List Txn
  | [] => [t]
  | x :: r =>
    let k := fun (y : Txn) => (y.ring + 8192 - from_) % 8192
    if k x ≤ k t then x :: insertRing from_ t r else t :: x :: r

/-- The DMA requester's transactions in the order in which it serves its rings: those that hold tags by ring, ascending
from the ring after the last one served, then those that wait for one (R394). -/
def ringOrder (s : State) : State :=
  let q := waiting s 1
  let held := (q.filter Txn.tag).foldl (fun l t => insertRing s.store.nextRing t l) []
  mStore (fun v => { v with queues := put [] 1 (held ++ q.filter (fun t => !t.tag)) v.queues }) s

/-- One open slot: who is served, with the store's turn brought up to date (R166, R169). -/
def takeSlot (borrowed : Bool) (s : State) : Option (Nat × List Txn) × State :=
  let s := ringOrder s
  let mask := waitMask s
  let s := if borrowed then s else mStore (fun v => { v with alwaysWaiting := v.alwaysWaiting &&& mask, slotSeen := true }) s
  match nextServed s 7 s.store.turn s.store.turnUsed with
  | none => (none, s)
  | some (r, used) =>
    let l := slotLoad 4096 (waiting s r)
    let s := mStore (fun v => { v with
      turn := r, turnUsed := used, queues := put [] r l.2 v.queues
      nextRing := if r = 1 then (l.1.getLast?.map (fun t => t.ring + 1)).getD v.nextRing else v.nextRing }) s
    let s := bump 8 (0x8080 + 0x10 * r) s
    (some (r, l.1), if borrowed then bump 8 0x8050 s else s)

end Sys2Proof.Machine
end

