-- ==== Sys2Proof/Machine/Drives.lean ====
section
/-! DEFINITION. The drives as an NVMe host sees them (15 R353 to R363): positions, queues, commands, bounce windows. -/

namespace Sys2Proof.Machine

/-- A drive position. -/
def drive (s : State) (d : Nat) : Drive := look {} s.disk.drives d

/-- The state with the volume changed. -/
def mVol (f : Volume → Volume) (s : State) : State := mDisk (fun k => { k with vol := f k.vol }) s

/-- Whether a position exists under a port mode (R353). -/
def positionUsed (modes : List Nat) (d : Nat) : Bool :=
  let m := fld (modes.getD (d / 2) 0) 0 2
  m == 2 || (m == 1 && d % 2 == 0)

/-- Lanes of a position that exists (R353). -/
def positionLanes (modes : List Nat) (d : Nat) : Nat := if fld (modes.getD (d / 2) 0) 0 2 = 2 then 2 else 4

/-- The speed code of a port's declared maximum: 3 for 64, 2 for 32, 1 for 16 GT/s (R353, R378). -/
def positionSpeed (modes : List Nat) (d : Nat) : Nat := 3 - fld (modes.getD (d / 2) 0) 2 2

/-- Bytes of a stripe unit. -/
def unitSize : Nat := 1048576

/-- Commands into which one stripe unit is split on a drive (R361). -/
def unitParts (v : Drive) : Nat := if v.mdts = 0 then 1 else max 1 (256 / 2 ^ v.mdts)

/-- Bytes of one such command. -/
def partBytes (v : Drive) : Nat := unitSize / unitParts v

/-- Whether an operation goes to the admin queue (R356). -/
def NvmeOp.admin : NvmeOp → Bool
  | .identify _ | .setFeature _ | .createCq _ | .createSq _ | .abort _ _ => true
  | _ => false

/-- Whether an operation belongs to the checks and the setup of a drive (R357, R361). -/
def NvmeOp.bringUp : NvmeOp → Bool
  | .identify _ | .setFeature _ | .createCq _ | .createSq _ | .labelRead _ => true
  | _ => false

/-- Bytes that a command maps in the bounce window (R358). -/
def mappedBytes (v : Drive) : NvmeOp → Nat
  | .unit _ _ _ => partBytes v
  | .identify _ | .labelRead _ | .header _ _ | .label _ _ => 4096
  | .setFeature f => if f = 0x0C then 4096 else 0
  | .createCq _ | .createSq _ | .abort _ _ | .flush _ => 0

/-- Whether the drive writes the pages that a command maps, or reads them (R358). -/
def NvmeOp.fromDrive : NvmeOp → Bool
  | .identify _ | .labelRead _ => true
  | _ => false

/-- Member byte address of what a command reads or writes (R363, R366). -/
def byteAddress (v : Drive) : NvmeOp → Nat
  | .labelRead k | .label k _ => k * 0x100000
  | .header _ st => 0x200000 + st * 0x100000
  | .unit _ st part => 0x200000 + st * 0x100000 + part * partBytes v
  | _ => 0

/-- Base of a drive's bounce window (R358). -/
def windowBase (d : Nat) : Nat := 0x4000000000 + d * 0x20000000

/-- Data places of the bounce window (log 17). -/
def dataPlaces : Nat := 496

/-- Bus address of a data place, of the PRP list beside it, of a queue's pages and of a vector's doorbell, as this model
lays the window out (log 17). -/
def dataAt (d k : Nat) : Nat := windowBase d + k * unitSize
def listAt (d k : Nat) : Nat := windowBase d + dataPlaces * unitSize + 0x400000 + k * 4096
def sqAt (d q : Nat) : Nat := windowBase d + dataPlaces * unitSize + q * 4096
def cqAt (d q : Nat) : Nat := windowBase d + dataPlaces * unitSize + 0x100000 + q * 4096
def bellAt (d q : Nat) : Nat := windowBase d + dataPlaces * unitSize + 0x200000 + 4 * q

/-- Entries of a queue (R361). -/
def queueDepth : Nat := 32

/-- Opcode, namespace, CDW10 and CDW11 of an NVMe command (R356; the encodings are the NVM Express Base Specification's,
PRESUMED, log 132). -/
def nvmeWords (v : Drive) (op : NvmeOp) : Nat × Nat × Nat × Nat :=
  let lba := byteAddress v op / 4096
  match op with
  | .identify cns => (0x06, if cns = 0 then 1 else 0, cns, 0)
  | .setFeature f => (0x09, 0, f, if f = 0x07 then 0x000F000F else if f = 0x06 then 1 else 0)
  | .createCq q => (0x05, 0, 65536 * (queueDepth - 1) + q, 65536 * q + 3)
  | .createSq q => (0x01, 0, 65536 * (queueDepth - 1) + q, 65536 * q + 1)
  | .abort q id => (0x08, 0, 65536 * id + q, 0)
  | .labelRead _ => (0x02, 1, lba % 2 ^ 32, lba / 2 ^ 32)
  | .unit _ _ _ | .header _ _ | .label _ _ => (0x01, 1, lba % 2 ^ 32, lba / 2 ^ 32)
  | .flush _ => (0x00, 1, 0, 0)

/-- The first PRP entry of a command on drive `d` (R358). -/
def prp1 (d : Nat) (v : Drive) (c : NvmeCmd) : Nat := match c.op with
  | .createCq q => cqAt d q
  | .createSq q => sqAt d q
  | op => if mappedBytes v op = 0 then 0 else dataAt d c.slot

/-- The 64 bytes of a submission queue entry (R356, R358, R363; log 132). -/
def queueEntry (d : Nat) (v : Drive) (c : NvmeCmd) : List Byte :=
  let w := nvmeWords v c.op
  let n := mappedBytes v c.op
  leBytes 1 w.1 ++ leBytes 1 0 ++ leBytes 2 c.id ++ leBytes 4 w.2.1 ++ leBytes 16 0 ++ leBytes 8 (prp1 d v c) ++
  leBytes 8 (if n ≤ 4096 then 0 else listAt d c.slot) ++ leBytes 4 w.2.2.1 ++ leBytes 4 w.2.2.2 ++
  leBytes 4 (if c.op.admin then 0 else n / 4096 - 1) ++ leBytes 12 0

/-- A queue of a drive. -/
def nvmeQueue (v : Drive) (q : Nat) : NvmeQueue := look {} v.qs q

/-- Whether a submission queue has a free entry. -/
def queueRoom (v : Drive) (q : Nat) : Bool := ((nvmeQueue v q).tail + 1) % queueDepth != (nvmeQueue v q).head

/-- Commands a drive has outstanding on a queue. -/
def onQueue (v : Drive) (q : Nat) : Nat := (v.cmds.filter (fun c => c.queue == q)).length

/-- The queue an operation goes to: the admin queue, or the I/O queue with a free entry that has the fewest commands
outstanding (DESIGN CHOICE, log 132). -/
def queueFor (v : Drive) (op : NvmeOp) : Option Nat :=
  if op.admin then (if queueRoom v 0 then some 0 else none)
  else (((List.range v.queues).drop 1).filter (queueRoom v)).foldl (fun m q => match m with
    | some p => if onQueue v q < onQueue v p then some q else some p
    | none => some q) none

/-- Whether no outstanding command maps a data place (R358). -/
def placeFree (v : Drive) (k : Nat) : Bool := v.cmds.all (fun c => c.slot != k || mappedBytes v c.op == 0)

/-- The lowest free data place of a drive's window. -/
def freePlace (v : Drive) : Nat := ((List.range dataPlaces).find? (placeFree v)).getD 0

/-- Whether the drive's window has room for what a command maps (R358, log 17). -/
def mapRoom (v : Drive) (op : NvmeOp) : Bool := mappedBytes v op == 0 || (List.range dataPlaces).any (placeFree v)

/-- Commands outstanding over all drives (R361). -/
def outstanding (s : State) : Nat := s.disk.drives.foldl (fun n p => n + p.2.cmds.length) 0

/-- A command put in a queue, with its doorbell (R358, R361, R362). -/
def issueCmd (d q : Nat) (op : NvmeOp) (retried : Bool) (s : State) : State :=
  let v := drive s d
  let c : NvmeCmd := { id := v.nextId, op := op, retried := retried, queue := q, slot := freePlace v, aborted := false }
  let e := queueEntry d v c
  let t := (nvmeQueue v q).tail
  let s := mDrive d (fun v => { v with
    nextId := (v.nextId + 1) % 65536, cmds := v.cmds ++ [c]
    entries := put [] (32 * q + t) e v.entries
    qs := upd {} q (fun x => { x with tail := (t + 1) % queueDepth }) v.qs }) s
  emit (.driveReg d (.sqTail q) ((t + 1) % queueDepth)) (emit (.nvme d q e) (bump 17 (0x40 * d + 0x10) s))

/-- A command submitted to a drive; while its queue or the window is full, 512 are outstanding on the drive or 8,192 in
all, it waits its turn (R358, R361). -/
def submit (d : Nat) (op : NvmeOp) (retried : Bool) (s : State) : State :=
  let v := drive s d
  let wait := mDrive d (fun v => { v with waiting := v.waiting ++ [(op, retried)] }) s
  if v.waiting.isEmpty && mapRoom v op && decide (v.cmds.length < 512) && decide (outstanding s < 8192) then
    match queueFor v op with
    | some q => issueCmd d q op retried s
    | none => wait
  else wait

/-- The operations that wait on a drive are submitted in order, as far as there is room (R361). -/
def pumpDrive (s : State) (d : Nat) : State :=
  (drive s d).waiting.foldl (fun s x => submit d x.1 x.2 s) (mDrive d (fun v => { v with waiting := [] }) s)

/-- The next operation of a drive's setup, once the one before has completed (R357, R361). -/
def nextSetup (d : Nat) (s : State) : State :=
  let v := drive s d
  match v.setup with
  | op :: r => if v.cmds.any (fun c => c.op.bringUp) || v.waiting.any (fun x => x.1.bringUp) then s
      else submit d op false (mDrive d (fun v => { v with setup := r }) s)
  | [] => s

/-- The setup of an accepted drive: power states off, write cache on, its I/O queue pairs, and while the volume is being
brought up its label (R356, R361, R368). -/
def setupOps (queues : Nat) (labels : Bool) : List NvmeOp :=
  let qs := (List.range queues).map (· + 1)
  [.setFeature 0x0C, .setFeature 0x06] ++ qs.map .createCq ++ qs.map .createSq ++
    (if labels then [.labelRead 0, .labelRead 1] else [])

/-- A drive's controller enabled, with its admin queue and its message vectors (R356, R358; log 132). -/
def enableDrive (d : Nat) (s : State) : State :=
  let regs : List (DriveReg × Nat) := [(.aqa, 65536 * (queueDepth - 1) + queueDepth - 1), (.asq, sqAt d 0), (.acq, cqAt d 0)] ++
    (List.range 17).flatMap (fun q => [(.msixAddr q, bellAt d q), (.msixData q, q)]) ++ [(.cc, 0x00460001)]
  regs.foldl (fun s r => emit (.driveReg d r.1 r.2) s) (mDrive d (fun v => { v with queues := 1 }) s)

/-- Whether a drive is heeded: neither cut off nor failed. -/
def heeded (v : Drive) : Bool :=
  v.state == .checking || v.state == .accepted || v.state == .member

/-- A drive with no command outstanding and none to come. -/
def Drive.idle (v : Drive) : Drive := { v with cmds := [], waiting := [], setup := [] }

/-- A drive refused with a reason (R357). -/
def rejectDrive (d reason : Nat) (s : State) : State :=
  mDrive d (fun v => { v.idle with state := .rejected, reason := reason }) s

/-- What an address of a drive's bounce window stands for (R358). -/
inductive PageUse where
  | data (c : NvmeCmd) (off : Nat)
  | prpList (c : NvmeCmd) (off : Nat)
  | submission (q off : Nat)
  | completion
  | doorbell (vector : Nat)
  | unmapped
  deriving DecidableEq, Repr

/-- The use of the page at an address; none outside the drive's window (R358, R359). -/
def pageUse (s : State) (d a : Nat) : Option PageUse :=
  if a < windowBase d ∨ windowBase d + 0x20000000 ≤ a then none
  else
    let off := a - windowBase d
    let v := drive s d
    if off < dataPlaces * unitSize then
      match v.cmds.find? (fun c => c.slot == off / unitSize && decide (off % unitSize < mappedBytes v c.op)) with
      | some c => some (.data c (off % unitSize))
      | none => some .unmapped
    else
      let q := off - dataPlaces * unitSize
      if q < v.queues * 4096 then some (.submission (q / 4096) (q % 4096))
      else if 0x100000 ≤ q ∧ q < 0x100000 + v.queues * 4096 then some .completion
      else if 0x200000 ≤ q ∧ q < 0x200000 + v.queues * 4 then some (.doorbell ((q - 0x200000) / 4))
      else if 0x400000 ≤ q then
        match v.cmds.find? (fun c => c.slot == (q - 0x400000) / 4096 && decide (4096 < mappedBytes v c.op)) with
        | some c => some (.prpList c (q % 4096))
        | none => some .unmapped
      else some .unmapped

/-- Bytes of a submission queue page: its entries as written (R358). -/
def submissionPage (v : Drive) (q : Nat) : List Byte :=
  (List.range queueDepth).flatMap (fun k => let e := look [] v.entries (32 * q + k)
    e ++ List.replicate (64 - e.length) 0) ++ List.replicate 2048 0

/-- The PRP list of a command: the bus address of each page after the first (R358). -/
def prpList (d : Nat) (v : Drive) (c : NvmeCmd) : List Byte :=
  let n := mappedBytes v c.op / 4096
  (List.range (n - 1)).flatMap (fun k => leBytes 8 (dataAt d c.slot + (k + 1) * 4096)) ++
    List.replicate (4096 - 8 * (n - 1)) 0

end Sys2Proof.Machine
end

