-- ==== Sys2Proof/Machine/Disk.lean ====
section
/-! DEFINITION. The recording engine and the volume (15 R364 to R378): stripes, extents, labels, faults, quarantine. -/

namespace Sys2Proof.Machine

/-- GF(2^8) doubling with the polynomial 0x11D (R365). -/
def gfDouble (b : Byte) : Byte := if b.msb then (b <<< 1) ^^^ 0x1D#8 else b <<< 1

/-- Byte-wise XOR of two lists of equal length. -/
def xorBytes (a b : List Byte) : List Byte := List.zipWith (fun x y => x ^^^ y) a b

/-- P of the data units (R365). -/
def parityP : List (List Byte) → List Byte
  | [] => []
  | [u] => u
  | u :: r => xorBytes u (parityP r)

/-- Q of the data units: the sum of 2^d times unit d (R365). -/
def parityQ : List (List Byte) → List Byte
  | [] => []
  | [u] => u
  | u :: r => xorBytes u ((parityQ r).map gfDouble)

/-- Data units of a stripe (R365). -/
def Volume.dataUnits (v : Volume) : Nat := v.members - v.parity

/-- The member that holds P of stripe S (R365). -/
def Volume.memberP (v : Volume) (stripe : Nat) : Nat := v.members - 1 - stripe % v.members

/-- What a member's unit of a stripe holds: 0 P, 1 Q, 2 + d data unit d (R365). -/
def Volume.role (v : Volume) (stripe m : Nat) : Nat :=
  let k := (m + v.members - v.memberP stripe) % v.members
  if k < v.parity then k else k - v.parity + 2

/-- Payload bytes of one data unit of an extent, with zeros beyond the payload (R366). -/
def payloadUnit (v : Volume) (e : Extent) (stripe d : Nat) : List Byte :=
  let bs := slice e.payload (((stripe - e.start - 1) * v.dataUnits + d) * unitSize) unitSize
  bs ++ List.replicate (unitSize - bs.length) 0

/-- Parity unit of a stripe: 0 P, 1 Q (R365). -/
def parityUnit (v : Volume) (e : Extent) (stripe k : Nat) : List Byte :=
  let us := (List.range v.dataUnits).map (payloadUnit v e stripe)
  if k = 0 then parityP us else parityQ us

/-- The label as a label write records it, with MEMBER zero and without its CRC (R364). -/
def labelContent (s : State) (head lastSeq : Nat) (closed : Bool) : List Byte :=
  let v := s.disk.vol
  leBytes 4 0x56445A53 ++ leBytes 2 1 ++ leBytes 1 0 ++ leBytes 1 v.members ++ leBytes 1 v.parity ++
  leBytes 1 (if closed then 2 else 1) ++ leBytes 2 v.failed ++ leBytes 4 v.labelGen ++ leBytes 16 v.volumeId ++
  leBytes 8 v.dataStripes ++ leBytes 8 head ++ leBytes 8 lastSeq ++ leBytes 8 (v.lastFinal.getD (2 ^ 64 - 1)) ++
  leBytes 32 v.chainSeed.toNat ++ leBytes 32 v.lastChain.toNat ++
  leBytes 8 (if closed then now s % 2 ^ 64 else 0) ++ leBytes 2 (if closed then now s / 2 ^ 64 else 0) ++
  leBytes 2 v.unclean ++ leBytes 20 0 ++ leBytes 32 (img s).digest.toNat ++ leBytes 3900 0

/-- The label of member `m` in a label write (R364). -/
def labelBytes (m : Nat) (w : LabelWrite) : List Byte :=
  let body := w.content.take 6 ++ leBytes 1 m ++ w.content.drop 7
  body ++ leBytes 4 (crc32 body)

/-- The code of a sleeve's FORMAT (R170). -/
def SleeveFormat.code : SleeveFormat → Nat
  | .result => 0 | .p12 => 1 | .u16 => 2 | .flag => 3

/-- The first 0x0A0 bytes of an extent header (R367). -/
def headerHead (s : State) (e : Extent) : List Byte :=
  let finished := e.phase != .opened
  leBytes 4 0x58445A53 ++ leBytes 2 1 ++ leBytes 2 e.flags ++ leBytes 4 e.gen ++ leBytes 2 e.stream ++ leBytes 2 e.sleeve ++
  leBytes 16 s.disk.vol.volumeId ++ leBytes 8 e.seq ++ leBytes 8 e.start ++ leBytes 4 (if finished then e.stripes else 0) ++
  leBytes 1 (sleeveDecl s e.sleeve).format.code ++ leBytes 3 0 ++ leBytes 8 (if finished then e.payload.length else 0) ++
  leBytes 8 e.wc ++ leBytes 8 (e.time % 2 ^ 64) ++ leBytes 2 (e.time / 2 ^ 64) ++ leBytes 6 0 ++ leBytes 8 e.capture ++
  leBytes 4 e.calGen ++ leBytes 4 e.ueStripes.length ++ leBytes 8 ((e.chain.map (fun c => c.1)).getD 0) ++ leBytes 16 0 ++
  leBytes 32 ((e.chain.map (fun c => c.2.1.toNat)).getD 0)

/-- The 4 KiB extent header (R367). -/
def headerBytes (s : State) (e : Extent) : List Byte :=
  let body := headerHead s e ++ leBytes 32 ((e.chain.map (fun c => c.2.2.toNat)).getD 0) ++
    leBytes 32 (img s).digest.toNat ++ leBytes 32 trimDigest.toNat ++ leBytes 3836 0
  body ++ leBytes 4 (crc32 body)

/-- Whether a member is live. -/
def Volume.live (v : Volume) (m : Nat) : Bool := !tbit v.failed m && (v.map.getD m none).isSome

/-- The drives of the live members, with their member numbers. -/
def liveDrives (s : State) : List (Nat × Nat) :=
  let v := s.disk.vol
  (List.range v.members).filterMap (fun m => if v.live m then (v.map.getD m none).map (fun d => (d, m)) else none)

/-- Number of failed members. -/
def Volume.failures (v : Volume) : Nat := ((List.range v.members).filter (fun m => tbit v.failed m)).length

/-- A command to every live member. -/
def submitLive (op : NvmeOp) (s : State) : State := (liveDrives s).foldl (fun s p => submit p.1 op false s) s

/-- Whether some drive has a command outstanding, or waiting to be submitted, that a test admits. -/
def anyCmd (s : State) (f : NvmeOp → Bool) : Bool :=
  s.disk.drives.any (fun p => p.2.cmds.any (fun c => !c.aborted && f c.op) || p.2.waiting.any (fun x => f x.1))

/-- Whether an operation belongs to an extent's data or header. -/
def NvmeOp.ofExtent (e : Nat) : NvmeOp → Bool
  | .unit x _ _ => x == e
  | .header x _ => x == e
  | _ => false

/-- Whether an operation writes part of a stripe's units. -/
def NvmeOp.ofStripe (e st : Nat) : NvmeOp → Bool
  | .unit x t _ => x == e && t == st
  | _ => false

/-- Whether an operation writes a label. -/
def NvmeOp.ofLabel : NvmeOp → Bool
  | .label _ _ => true
  | _ => false

/-- A change of one extent. -/
def mExtent (seq : Nat) (f : Extent → Extent) (s : State) : State :=
  mVol (fun v => { v with extents := v.extents.map (fun e => if e.seq = seq then f e else e) }) s

/-- Whether reads of the engine's own for parity, of an extent and a stripe that a test admits, are still to come: those
it asked for, and those of a drive that has failed since (R374, R377). -/
def parityReads (s : State) (f : Nat → Nat → Bool) : Bool :=
  let mine := fun (p : Purpose) => match p with
    | .dskParity _ _ _ e st => f e st
    | .dskDrive d _ _ _ _ e st => f e st && !heeded (drive s d)
    | _ => false
  (waiting s 0).any (fun t => mine t.purpose) || s.store.flights.any (fun x => mine x.txn.purpose)

/-- An extent of this session by its number. -/
def extent (s : State) (seq : Nat) : Option Extent := s.disk.vol.extents.find? (fun e => e.seq == seq)

/-- An extent changes and its header is written on every live member as it then stands (R367). -/
def putHeader (seq : Nat) (f : Extent → Extent) (s : State) : State :=
  let s := mExtent seq f s
  match extent s seq with
  | some e => submitLive (.header seq e.start) (mExtent seq (fun x => { x with image := headerBytes s e }) s)
  | none => s

/-- A rewrite of an extent's header on every live member (R367). -/
def rewriteHeader (seq : Nat) (f : Extent → Extent) (s : State) : State :=
  putHeader seq (fun e => { f e with gen := e.gen + 1 }) s

/-- A change of FLAGS, with the rewrite it brings (R367). -/
def flagExtent (seq bits : Nat) (s : State) : State := rewriteHeader seq (fun e => { e with flags := e.flags ||| bits }) s

/-- Whether the allocation point or the next EXTENT_SEQ comes near its reservation (R373). -/
def Volume.near (v : Volume) : Bool := decide (v.head ≤ v.alloc + 1024) || decide (v.lastSeq ≤ v.nextSeq + 256)

/-- A label write begins; one asked for while another is in progress follows it (R364, R373). -/
def writeLabel (closed : Bool) (s : State) : State :=
  let v := s.disk.vol
  match v.labelWrite with
  | some w => mVol (fun v => { v with labelWrite := some { w with again := some (closed || w.again.getD false) } }) s
  | none =>
    let head := if closed then v.alloc else if v.near then v.head + 4096 else v.head
    let lastSeq := if closed then v.nextSeq - 1 else if v.near then v.lastSeq + 4096 else v.lastSeq
    let s := mVol (fun v => { v with labelGen := v.labelGen + 1 }) s
    submitLive (.label 0 (v.labelGen + 1)) (mVol (fun v => { v with labelWrite := some {
      copy := 0, head := head, lastSeq := lastSeq, closed := closed, content := labelContent s head lastSeq closed
      again := none } }) s)

/-- A run of stripes put in its place among free runs in ascending order, joined to those it touches (R369). -/
def joinFree (start n : Nat) : List (Nat × Nat) → List (Nat × Nat)
  | [] => [(start, n)]
  | (a, k) :: r =>
    if a + k < start then (a, k) :: joinFree start n r
    else if a + k = start then joinFree a (k + n) r
    else if start + n = a then (start, n + k) :: r
    else (start, n) :: (a, k) :: r

/-- A run of stripes returned to the free pool (R369). -/
def freeRun (start n : Nat) (v : Volume) : Volume := if n = 0 then v else { v with free := joinFree start n v.free }

/-- The run of stripes a new extent takes, with the volume after it: the lowest freed run first, then the allocation
point (R369). -/
def takeRun (v : Volume) : Option ((Nat × Nat) × Volume) :=
  match v.free with
  | r :: rest =>
    let n := min r.2 256
    some ((r.1, n), freeRun (r.1 + n) (r.2 - n) { v with free := rest })
  | [] =>
    let n := min 256 (v.dataStripes - v.alloc)
    if n = 0 then none else some ((v.alloc, n), { v with alloc := v.alloc + n })

/-- An extent takes no more stripes: its unused reserve returns to the free pool, and FLAGS bits are set (R369, R371). -/
def closeExtent (seq bits : Nat) (s : State) : State :=
  match extent s seq with
  | some e => if e.phase == .opened then
      mVol (freeRun (e.start + 1 + e.stripes) (e.reserve - 1 - e.stripes))
        (mExtent seq (fun e => { e with phase := .draining, flags := e.flags ||| bits, reserve := 1 + e.stripes }) s)
    else s
  | none => s

/-- Every open extent closes TRUNCATED (R371, R375). -/
def truncateExtents (s : State) : State := s.disk.vol.extents.foldl (fun s e => closeExtent e.seq 16 s) s

/-- An extent becomes FINAL in its header, as the next of the chain (R367, R371). -/
def chainExtent (seq : Nat) (s : State) : State :=
  match extent s seq with
  | none => s
  | some e =>
    let v := s.disk.vol
    let c := (v.lastFinal.getD (2 ^ 64 - 1), sha3 e.payload)
    let e' := { e with flags := e.flags ||| 4, phase := .rewriting, gen := e.gen + 1, chain := some (c.1, c.2, 0) }
    let d := sha3 (leBytes 32 v.lastChain.toNat ++ headerHead s e')
    putHeader seq (fun _ => { e' with chain := some (c.1, c.2, d) }) s

/-- The chain's tip is an extent whose FINAL header stands on every live member (R371, R373). -/
def Volume.moveTip (e : Extent) (v : Volume) : Volume :=
  { v with lastFinal := some e.seq, lastChain := (e.chain.map (fun c => c.2.2)).getD v.lastChain }

/-- An extent leaves the list of those at work. -/
def dropExtent (seq : Nat) (v : Volume) : Volume := { v with extents := v.extents.filter (fun x => x.seq ≠ seq) }

/-- What the end of an extent's header rewrite brings: a CANCELLED one frees its stripes, a FINAL one moves the label, a
provisional one waits for its trigger or goes on towards FINAL (R371 to R373). -/
def endRewrite (s : State) (e : Extent) : State :=
  if tbit e.flags 1 then
    pulse0 17 6 (bump 17 0x1010 (mVol (fun v => freeRun e.start e.reserve (dropExtent e.seq v)) s))
  else if tbit e.flags 2 then
    writeLabel (s.disk.vol.state == .stopped && !s.disk.vol.closing)
      (bump 17 0x1000 (mVol (fun v => dropExtent e.seq (v.moveTip e)) s))
  else mExtent e.seq (fun e => { e with phase := if e.wantFinal then .draining else .held }) s

/-- Whether another extent must become FINAL before this one, or the label still follows the one before (R372, R373). -/
def finalWaits (s : State) (e : Extent) : Bool :=
  s.disk.vol.labelWrite.isSome || s.disk.vol.extents.any (fun x =>
    x.wantFinal && x.phase != .opened && decide (x.seq < e.seq)) ||
    s.disk.vol.extents.any (fun x => x.phase == .rewriting && tbit x.flags 2)

/-- One extent moves on as far as its commands allow, and the engine's own reads for its parity, which can still bring a
UE mark (R371, R372, R377). -/
def advanceExtent (s : State) (e : Extent) : State :=
  if anyCmd s (NvmeOp.ofExtent e.seq) || parityReads s (fun x _ => x == e.seq) then s
  else match e.phase with
  | .opened => s
  | .draining =>
    if e.wantFinal then submitLive (.flush e.seq) (mExtent e.seq (fun e => { e with phase := .flushing }) s)
    else rewriteHeader e.seq (fun e => { e with phase := .rewriting }) s
  | .flushing =>
    if anyCmd s (fun o => o == .flush e.seq) || finalWaits s e then s else chainExtent e.seq s
  | .rewriting => endRewrite s e
  | .held => s

/-- The label write in progress moves on: copy 1 after copy 0, then its reservations stand (R364, R373, R375). -/
def advanceLabel (s : State) : State :=
  let v := s.disk.vol
  match v.labelWrite with
  | none => s
  | some w =>
    if anyCmd s NvmeOp.ofLabel then s
    else if w.copy = 0 then
      submitLive (.label 1 v.labelGen) (mVol (fun v => { v with labelWrite := some { w with copy := 1 } }) s)
    else
      let s := mVol (fun v => { v with
        labelWrite := none, head := w.head, lastSeq := w.lastSeq, reserveWait := false
        closing := v.closing && !w.closed
        state := if w.closed && v.state != .stopped then .closed else v.state }) s
      match w.again with
      | some c => writeLabel c s
      | none => s

/-- The label write that the state of the volume asks for: the close record once every extent is settled, or one that
moves the reservations (R371, R373, R376). -/
def labelDue (s : State) : State :=
  let v := s.disk.vol
  if v.labelWrite.isSome then s
  else if v.closing then
    if v.extents.all (fun e => e.phase == .held) && !anyCmd s (fun o => o == .flush 0) && !(liveDrives s).isEmpty then
      writeLabel true s else s
  else if volumeRuns s && v.near then writeLabel false s
  else s

/-- Stripes whose units are all complete leave the list (R374). -/
def endStripes (s : State) : State :=
  let done := s.disk.vol.runs.filter (fun r => !anyCmd s (NvmeOp.ofStripe r.extent r.stripe) &&
    !parityReads s (fun e st => e == r.extent && st == r.stripe))
  mVol (fun v => { v with runs := v.runs.filter (fun r => !done.contains r) }) (bumpBy 17 0x1020 done.length s)

/-- Whether a drive job has nothing left to record: closed, every region recorded to its end (R370). -/
def CapJob.finished (s : State) (j : CapJob) : Bool := j.closed && j.regions.all (regionOver s)

/-- One extent of a capture follows what has become of it: CANCELLED, qualified, or closed and recorded (R371, R372). -/
def serveExtent (s : State) (e : Extent) : State :=
  if e.capture = 0 then s
  else match s.disk.vol.captures.find? (fun j => j.number == e.capture) with
    | none => s
    | some j =>
      if j.cancelled then
        if tbit e.flags 1 then s
        else rewriteHeader e.seq (fun e => { e with flags := e.flags ||| 2, wantFinal := false, phase := .rewriting })
          (closeExtent e.seq 0 s)
      else
        let s := if !j.provisional && !e.wantFinal then mExtent e.seq (fun e => { e with
            wantFinal := true, phase := if e.phase = .held then .draining else e.phase }) s else s
        if j.closed && j.regions.any (fun r => r.1 == e.sleeve && regionOver s r) then closeExtent e.seq 0 s else s

/-- Extents follow their captures, and a capture that is cancelled, or decided and recorded, is done with (R370 to R372). -/
def serveJobs (s : State) : State :=
  mVol (fun v => { v with captures := v.captures.filter (fun j => !j.cancelled && !(j.finished s && !j.provisional)) })
    (s.disk.vol.extents.foldl serveExtent s)

/-- The operations that wait on the drives are submitted as far as there is room (R361). -/
def pumpAll (s : State) : State := (List.range 16).foldl pumpDrive s

/-- The sleeves that recording streams read (R370). -/
def dskSleeves (s : State) : List Nat := (img s).drives.streams.flatMap (fun r => r.sleeves.flatMap (pair s))

/-- Everything that completed commands and settled captures allow comes about (R371 to R374). -/
def progress (s : State) : State :=
  let s := advanceLabel (serveJobs (endStripes (pumpAll s)))
  let s := labelDue (s.disk.vol.extents.foldl advanceExtent s)
  (dskSleeves s).foldl (fun s i => settleDsk i s) s

/-- What the engine does as time passes, while there is a volume. -/
def driveWork (s : State) : State := if s.disk.vol.state == .none || s.disk.vol.state == .bringup then s else progress s

/-- A job whose recording stops ends where its data was last issued. -/
def CapJob.endHere (j : CapJob) : CapJob := { j with closed := true, regions := j.regions.map (fun r => (r.1, r.2.1, some r.2.1)) }

/-- An open capture of a job ends with OVERFLOW at the first sample that was not recorded (R375). -/
def overflowJob (s : State) (j : CapJob) : State :=
  if !j.closed && (group s j.group).state == .capturing then closeCapture j.group (firstUnrecorded s j) 4 s else s

/-- Recording stops: drive captures end with OVERFLOW, extents close TRUNCATED, the close record follows (R375). -/
def stopRecording (s : State) : State :=
  let s := serveJobs s
  let s := s.disk.vol.captures.foldl overflowJob s
  truncateExtents (mVol (fun v => { v with
    state := .stopped, closing := true, captures := (v.captures.filter CapJob.provisional).map CapJob.endHere }) s)

/-- A range of a sleeve's bytes cut where the store's blocks and the sleeve's passes end: store address, write count and
length (R164, R180). -/
def cutSleeve (s : State) (i : Nat) : Nat → Nat → Nat → List (Nat × Nat × Nat)
  | 0, _, _ => []
  | k + 1, wc, n =>
    if n = 0 then []
    else
      let v := sleeve s i
      let a := (sleeveDecl s i).base + byteOffset s i wc
      let pass := if wc < v.passStart then v.passStart - wc else lenBytes s i - (wc - v.passStart)
      let m := max 1 (min n (min (4096 - a % 4096) pass))
      (a, wc, m) :: cutSleeve s i k (wc + m) (n - m)

/-- Open reads of a sleeve's bytes for the recording engine, each with a purpose of its own (R164, R358). -/
def dskReads (i wc n : Nat) (p : Nat → Nat → Purpose) (s : State) : State :=
  (cutSleeve s i (n / 4096 + 4) wc n).foldl (fun s b =>
    openSpan 0 b.1 b.2.2 none (p b.2.1 b.2.2) s) s

/-- The parts of `lo` to `hi` that no range of a list covers, start and length (R374). -/
def uncovered : Nat → Nat → List (Nat × Nat) → List (Nat × Nat)
  | lo, hi, [] => if lo < hi then [(lo, hi - lo)] else []
  | lo, hi, a :: r => uncovered lo (min hi (max lo a.1)) r ++ uncovered (max lo (min hi (a.1 + a.2))) hi r

/-- The bytes of a stripe that drives have read or are reading, which the parity takes from those reads (R374). -/
def askedOf (s : State) (seq st : Nat) : List (Nat × Nat) :=
  ((s.disk.vol.runs.find? (fun r => r.extent == seq && r.stripe == st)).map StripeRun.asked).getD []

/-- The engine reads what the drive had not yet read of a failed member's data unit from the sleeve, to complete the
stripe's parity: the store reads the bytes once (R374). -/
def parityRead (m seq st : Nat) (s : State) : State :=
  let v := s.disk.vol
  match extent s seq with
  | some e =>
    let r := v.role st m
    if v.parity = 0 ∨ r < 2 then s
    else
      let p := ((st - e.start - 1) * v.dataUnits + (r - 2)) * unitSize
      let lo := e.wc + p
      (uncovered lo (lo + min unitSize (e.payload.length - p)) (askedOf s seq st)).foldl (fun s x =>
        dskReads e.sleeve x.1 x.2 (fun wc n => .dskParity e.sleeve wc n seq st) s) s
  | none => s

/-- The stripes of which a drive has units incomplete: an aborted attempt counts by its retry. -/
def openUnits (v : Drive) : List (Nat × Nat) :=
  (((v.cmds.filter (fun c => !c.aborted)).map NvmeCmd.op ++ v.waiting.map Prod.fst).filterMap (fun o => match o with
    | .unit e st _ => some (e, st)
    | _ => none)).eraseDups

/-- A member fails: its commands are discarded; the volume degrades and the engine reads the member's pending data for
parity, or recording stops (R374). -/
def failMember (d reason : Nat) (quarantine : Bool) (s : State) : State :=
  let x := drive s d
  let s := mDrive d (fun v => { v.idle with reason := reason, state := if quarantine then .quarantined else .failed }) s
  match x.member with
  | none => s
  | some m =>
    if tbit s.disk.vol.failed m then s
    else
      let s := mVol (fun v => { v with
        failed := v.failed ||| 2 ^ m
        state := if v.state = .opened then .degraded else v.state }) s
      let s := (s.disk.vol.extents.filter (fun e => e.phase == .opened)).foldl (fun s e => flagExtent e.seq 32 s) s
      let s := pulse0 17 0 (if quarantine then s else logEvent 0x3017 17 [d, reason] s)
      let s := if volumeRuns s && decide (s.disk.vol.parity < s.disk.vol.failures) then stopRecording s
        else (openUnits x).foldl (fun s u => parityRead m u.1 u.2 s) s
      progress s

/-- A drive breaks R359: quarantined (R360). -/
def quarantine (d reason addr : Nat) (s : State) : State :=
  let s := mDrive d (fun v => { v with badAddr := addr }) s
  let s := logEvent 0x3018 17 [d, reason, addr % 2 ^ 32, addr / 2 ^ 32] (pulse0 17 1 (bump 17 (0x40 * d + 0x30) s))
  failMember d reason true s

/-- The place in the order of issue of a stripe with units incomplete (R374). -/
def issueOrder (s : State) (u : Nat × Nat) : Option Nat :=
  (s.disk.vol.runs.find? (fun r => r.extent == u.1 && r.stripe == u.2)).map StripeRun.order

/-- The next data of a sleeve to record: stream, capture, next write count and end (R370, R180). Captures of one stream are
recorded one after another (DESIGN CHOICE, log 133). -/
def nextData (s : State) (i : Nat) : Option (Nat × Option CapJob × Nat × Option Nat) :=
  let open_ := fun (r : Nat × Nat × Option Nat) => r.1 == i && !regionOver s r
  match s.disk.vol.captures.find? (fun j => !j.cancelled && j.regions.any open_) with
  | some j => (j.regions.find? open_).map (fun r => (j.stream, some j, settledCount s i r.2.1, r.2.2))
  | none =>
    ((List.range (img s).drives.streams.length).find? (fun k =>
      let r := (img s).drives.streams.getD k {}
      !r.capture && (r.sleeves.flatMap (fun x => pair s x)).contains i)).map (fun k =>
        (k, none, settledCount s i (look 0 s.disk.vol.nextWc i), none))

/-- Whether a write count lies in an old pass that the sleeve's shrinking has cut short (R180). -/
def passCut (s : State) (i n : Nat) : Bool :=
  decide (n < (sleeve s i).passStart) && decide (lenBytes s i < (sleeve s i).prevLen)

/-- Write count up to which a recording stream at `n` finds bytes in one run: the end of a pass that was cut short, or
the write count (R180). -/
def runEnd (s : State) (i n : Nat) : Nat :=
  let v := sleeve s i
  if passCut s i n then v.passStart - v.prevLen + lenBytes s i else v.wcount

/-- Whole stripes whose data stands in the sleeves and is not yet issued. -/
def waitingStripes (s : State) : Nat :=
  (dskSleeves s).eraseDups.foldl (fun k i => match nextData s i with
    | some (_, _, n, stop) => k + (min (runEnd s i n) (stop.getD (runEnd s i n)) - n) / (max 1 s.disk.vol.dataUnits * unitSize)
    | none => k) 0

/-- Stripes by which an extent's wait for a reservation counts against a drive: those that wait, while the drive has still
to complete the label write that moves it (R373; log 154). -/
def waitLag (s : State) (d : Nat) : Nat :=
  let v := drive s d
  if s.disk.vol.reserveWait && (v.cmds.any (fun c => !c.aborted && c.op.ofLabel) || v.waiting.any (fun x => x.1.ofLabel)) then
    waitingStripes s
  else 0

/-- A member's lag: the stripes issued from its oldest incomplete unit up to the newest that any member has completed,
and those that wait for a reservation on its account (R373, R374). -/
def lagOf (s : State) (d : Nat) : Nat :=
  ((openUnits (drive s d)).filterMap (issueOrder s)).foldl (fun m o => max m (s.disk.vol.newest - o)) 0 + waitLag s d

/-- Members whose lag would exceed 64 stripes fail (R374). -/
def checkLag (s : State) : State :=
  (liveDrives s).foldl (fun s p => if 64 < lagOf s p.1 then failMember p.1 0x12 false s else s) s

/-- Bytes a completed command wrote. -/
def writtenBytes (v : Drive) : NvmeOp → Nat
  | .unit _ _ _ => partBytes v
  | .header _ _ | .label _ _ => 4096
  | _ => 0

/-- A completion consumed: the queue's head as reported, the next completion entry, and its doorbell (R359). -/
def consumeCmd (d : Nat) (c : NvmeCmd) (head : Nat) (s : State) : State :=
  let n := ((nvmeQueue (drive s d) c.queue).cqHead + 1) % queueDepth
  emit (.driveReg d (.cqHead c.queue) n) (mDrive d (fun v => { v with
    cmds := v.cmds.filter (fun x => x.id ≠ c.id)
    qs := upd {} c.queue (fun x => { x with head := head, cqHead := n, phase := if n = 0 then !x.phase else x.phase }) v.qs }) s)

/-- What a completed command brings about (R362, R374). -/
def completeCmd (d : Nat) (c : NvmeCmd) (s : State) : State :=
  let s := bumpBy 17 (0x40 * d) (writtenBytes (drive s d) c.op) s
  let s := match c.op with
    | .unit e st _ => if (openUnits (drive s d)).contains (e, st) then s
        else mVol (fun v => { v with newest := max v.newest (((issueOrder s (e, st)).map (· + 1)).getD 0) }) s
    | _ => s
  checkLag (progress (nextSetup d s))

/-- Whether a stop is past its second step, from which no command is retried and no stripe begun (R75). -/
def stopPast (s : State) : Bool := match s.life.stop with
  | some q => decide (2 ≤ q.step)
  | none => false

/-- A drive gives a command up: a member fails, another drive is refused (R357, R362). -/
def giveUp (d reason : Nat) (s : State) : State :=
  if (drive s d).member.isSome then failMember d reason false s else rejectDrive d reason s

/-- A command's attempt failed: once more, then the member fails (R362); a stop retries none (R75). -/
def attemptFailed (d : Nat) (c : NvmeCmd) (reason : Nat) (s : State) : State :=
  if c.retried || stopPast s then giveUp d reason s
  else submit d c.op true (pulse0 17 4 (bump 17 (0x40 * d + 0x20) s))

/-- The outstanding command that a completion entry completes; none when the entry is bad (R359). -/
def completes (v : Drive) (id : Nat) (x : CompletionEntry) : Option NvmeCmd :=
  if x.queue < v.queues ∧ x.head < queueDepth ∧ x.phase = (nvmeQueue v x.queue).phase then
    v.cmds.find? (fun c => c.id == id && c.queue == x.queue)
  else none

/-- A completion of an outstanding command (R362). The completion of a command that has been aborted, and of Abort itself,
only ends it. -/
def completed (d : Nat) (c : NvmeCmd) (x : CompletionEntry) (s : State) : State :=
  let s := consumeCmd d c x.head s
  match c.op with
  | .abort _ _ => progress s
  | _ => if c.aborted then progress s
    else if x.error then attemptFailed d c 0x11 s
    else completeCmd d c s

/-- NVME_COMPLETION (R359, R362). -/
def completion (d id : Nat) (x : CompletionEntry) (s : State) : State :=
  let v := drive s d
  if v.state == .absent then s
  else if v.state == .quarantined then emit (.driveRefused d) (bump 17 (0x40 * d + 0x30) s)
  else match completes v id x with
  | some c => completed d c x s
  | none => quarantine d 0x22 0 s

/-- NVME_COMMAND_TIMEOUT (R362): Abort, and the command once more. -/
def commandTimeout (d id : Nat) (s : State) : State :=
  match (drive s d).cmds.find? (fun c => c.id == id && !c.aborted) with
  | some c => match c.op with
    | .abort _ _ => s
    | _ => if c.retried || stopPast s then giveUp d 0x10 s
      else attemptFailed d c 0x10 (submit d (.abort c.queue c.id) false (mDrive d (fun v => { v with
        cmds := v.cmds.map (fun x => if x.id = c.id then { x with aborted := true } else x) }) s))
  | none => s

/-- DRIVE_LINK_LOST (R362). -/
def linkLost (d : Nat) (s : State) : State :=
  let s := mDrive d (fun v => { v with speed := 0, width := 0 }) s
  if heeded (drive s d) then giveUp d 0x13 s else s

/-- A label of 4 KiB read back: valid when MAGIC and CRC are right (R364). -/
def labelValid (bs : List Byte) : Bool :=
  bs.length == 4096 && le bs 0 4 == 0x56445A53 && le bs 0xFFC 4 == crc32 (bs.take 0xFFC)

/-- The valid copy with the higher LABEL_GEN (R364). -/
def bestLabel (copies : List (List Byte)) : Option (List Byte) :=
  (copies.filter labelValid).foldl (fun m b => match m with
    | none => some b
    | some a => if le a 0x0C 4 < le b 0x0C 4 then some b else some a) none

/-- Accepted drives. -/
def acceptedDrives (s : State) : List Nat := (List.range 16).filter (fun d => (drive s d).state == .accepted)

/-- DATA_STRIPES a drive allows (R363). -/
def stripesOf (v : Drive) : Nat := (v.blocks * 4096 - 2097152) / 1048576

/-- The drives of a map become members (R368). -/
def joinMembers (map : List (Option Nat)) (failed : Nat) (s : State) : State :=
  (List.range map.length).foldl (fun s m => match map.getD m none with
    | some d => mDrive d (fun v => { v with member := some m, state := if tbit failed m then .failed else .member }) s
    | none => s) s

/-- The streams of a volume that opens: CONTINUOUS ones begin at their sleeves' write counts (R370). -/
def startStreams (s : State) : State :=
  let s := mVol (fun v => { v with nextWc := (dskSleeves s).foldl (fun m i => put 0 i (sleeve s i).wcount m) v.nextWc }) s
  (dskSleeves s).foldl (fun s i => settleDsk i s) s

/-- A new volume formatted on the accepted drives of MEMBER_MAP (R368). -/
def formatVolume (entropy : Nat) (s : State) : State :=
  let p := (img s).drives
  let map := (List.range p.members).map (fun m =>
    let d := p.memberMap.getD m 0xFF
    if (acceptedDrives s).contains d then some d else none)
  let failed := (List.range p.members).foldl (fun n m => if (map.getD m none).isSome then n else n + 2 ^ m) 0
  let stripes := map.foldl (fun n d => match d with
    | some d => min n (stripesOf (drive s d))
    | none => n) (2 ^ 64)
  let id := entropy % 2 ^ 128
  let seed := sha3 (leBytes 16 id ++ leBytes 32 (img s).digest.toNat ++ leBytes 32 trimDigest.toNat)
  let s := joinMembers map failed s
  let s := mVol (fun _ => {
    state := if failed = 0 then .opened else .degraded, parity := p.parity, members := p.members, map := map
    failed := failed, volumeId := id, dataStripes := stripes, chainSeed := seed, lastChain := seed }) s
  let s := writeLabel false (startStreams s)
  if s.disk.vol.parity < s.disk.vol.failures then stopRecording s else s

/-- An existing volume opened from the labels of accepted drives, or none with VOLUME_MISMATCH (R368). -/
def openVolume (labels : List (Nat × List Byte)) (s : State) : State :=
  match labels with
  | [] => mVol (fun v => { v with state := .none, mismatch := true })
      ((acceptedDrives s).foldl (fun s d => mDrive d (fun v => { v with state := .rejected, reason := 7 }) s) s)
  | (_, first) :: _ =>
    let id := le first 0x10 16
    let mine := labels.filter (fun l => le l.2 0x10 16 == id)
    let top := mine.foldl (fun a l => if le a 0x0C 4 < le l.2 0x0C 4 then l.2 else a) first
    let n := le top 7 1
    let c := le top 8 1
    let map := (List.range n).map (fun m => (mine.find? (fun l => le l.2 6 1 == m)).map Prod.fst)
    let failed := (List.range n).foldl (fun f m => if (map.getD m none).isSome && !tbit (le top 0x0A 2) m then f else f + 2 ^ m) 0
    let s := (acceptedDrives s).foldl (fun s d => if mine.any (fun l => l.1 == d) then s
      else mDrive d (fun v => { v with state := .rejected, reason := 7 }) s) s
    let fails := ((List.range n).filter (fun m => tbit failed m)).length
    if c < fails then mVol (fun v => { v with state := .none, mismatch := true }) s
    else
      let wasOpen := le top 9 1 == 1
      let lastFinal := le top 0x38 8
      let s := mVol (fun _ => {
        state := if failed = 0 then .opened else .degraded, parity := c, members := n, map := map, failed := failed
        labelGen := le top 0x0C 4, volumeId := id, dataStripes := le top 0x20 8, head := le top 0x28 8
        lastSeq := le top 0x30 8, lastFinal := if lastFinal = 2 ^ 64 - 1 then none else some lastFinal
        chainSeed := BitVec.ofNat 256 (le top 0x40 32), lastChain := BitVec.ofNat 256 (le top 0x60 32)
        unclean := if wasOpen then min 65535 (le top 0x8A 2 + 1) else le top 0x8A 2
        alloc := le top 0x28 8, nextSeq := le top 0x30 8 + 1 }) (joinMembers map failed s)
      writeLabel false (startStreams s)

/-- A drive's commands for which a test holds are over, and so is its setup (R357, R368). -/
def endOps (d : Nat) (f : NvmeOp → Bool) (s : State) : State :=
  ((drive s d).cmds.filter (fun c => f c.op)).foldl (fun s c => consumeCmd d c (nvmeQueue (drive s d) c.queue).tail s)
    (mDrive d (fun v => { v with setup := [], waiting := v.waiting.filter (fun x => !f x.1) }) s)

/-- LABEL_READ (R368). -/
def labelRead (labels : List (Nat × List (List Byte))) (entropy : Nat) (s : State) : State :=
  if s.disk.vol.state ≠ .bringup then s
  else
    let good := (acceptedDrives s).filterMap (fun d =>
      ((labels.find? (fun l => l.1 == d)).bind (fun l => bestLabel l.2)).map (fun b => (d, b)))
    let s := (acceptedDrives s).foldl (fun s d => endOps d NvmeOp.bringUp s) s
    match (img s).drives.volumeMode with
    | 2 => formatVolume entropy s
    | 1 => if good.isEmpty then formatVolume entropy s else openVolume good s
    | _ => openVolume good s

/-- An extent opens for a sleeve's data, its header written on every live member (R366, R369). Second: none when no
stripe is free, false while a reservation must first move. -/
def openExtent (stream i n : Nat) (job : Option CapJob) (s : State) : Option Bool × State :=
  let v := s.disk.vol
  match takeRun v with
  | none => (none, s)
  | some ((start, len), v') =>
    if v.head < start + len ∨ v.lastSeq < v.nextSeq then 
      (some false, mVol (fun v => { v with reserveWait := true }) (if v.labelWrite.isSome then s else writeLabel false s))
    else
      let t := timeOfWc s i n
      let prov := (job.map (fun j => j.provisional)).getD false
      let e : Extent := {
        seq := v.nextSeq, stream := stream, sleeve := i, start := start, reserve := len, stripes := 0, payload := []
        wc := n, time := t, capture := (job.map CapJob.number).getD 0, calGen := genAt s t
        flags := b2n prov + 32 * b2n (v.failed != 0), gen := 0, ueStripes := [], image := [], chain := none
        phase := .opened, wantFinal := !prov }
      (some true, putHeader e.seq (fun e => e) (mVol (fun _ => { v' with nextSeq := v.nextSeq + 1, extents := v.extents ++ [e] }) s))

/-- The open extent of a stream's sleeve (R370). -/
def openFor (s : State) (stream i : Nat) : Option Extent :=
  s.disk.vol.extents.find? (fun e => e.stream == stream && e.sleeve == i && e.phase == .opened)

/-- The open extent that the bytes from write count `n` continue. -/
def continues_ (e : Extent) (n capture : Nat) : Bool := e.capture == capture && e.wc + e.payload.length == n

/-- An extent with room for a data stripe: an extent whose run is a single stripe holds its header only (R366, R369). -/
def openRoom (stream i n : Nat) (job : Option CapJob) : Nat → State → Option Bool × State
  | 0, s => (some false, s)
  | k + 1, s =>
    let r := openExtent stream i n job s
    match r.1, openFor r.2 stream i with
    | some true, some e => if e.reserve = 1 then openRoom stream i n job k (closeExtent e.seq 0 r.2) else r
    | _, _ => r

/-- The recording stream's reader comes to the new end of a pass that was cut short: RESIZE_GAP (R180). -/
def resizeDsk (i n : Nat) (s : State) : State :=
  match (List.range (sleeveDecl s i).readers.length).find? (fun j => ((sleeveDecl s i).readers.getD j {}).unit == 0x10) with
  | some j => if passCut s i n then
      resizeReader i j ((sleeve s i).prevLen - lenBytes s i) (reader s i j).count s else s
  | none => s

/-- One stripe of an extent issued on every live member; a failed member's data is read for the parity (R366, R374). -/
def issueStripe (e : Extent) (n : Nat) (data : List Byte) (job : Option CapJob) (s : State) : State :=
  let st := e.start + 1 + e.stripes
  let s := if n + data.length = runEnd s e.sleeve n then resizeDsk e.sleeve n s else s
  let s := mExtent e.seq (fun e => { e with stripes := e.stripes + 1, payload := e.payload ++ data }) s
  let s := mVol (fun v => { v with
    issued := v.issued + 1
    runs := v.runs ++ [{ extent := e.seq, stripe := st, order := v.issued, sleeve := e.sleeve, from_ := n, upTo := n + data.length }]
    nextWc := if job.isNone then put 0 e.sleeve (n + data.length) v.nextWc else v.nextWc
    captures := v.captures.map (fun j => if some j.number = job.map CapJob.number then { j with
      regions := j.regions.map (fun r => if r.1 = e.sleeve then (r.1, n + data.length, r.2.2) else r) } else j) }) s
  let s := (liveDrives s).foldl (fun s p =>
    (List.range (unitParts (drive s p.1))).foldl (fun s k => submit p.1 (.unit e.seq st k) false s) s) s
  let s := ((List.range s.disk.vol.members).filter (fun m => !s.disk.vol.live m)).foldl (fun s m => parityRead m e.seq st s) s
  if e.stripes + 1 = 255 ∨ e.stripes + 2 = e.reserve then closeExtent e.seq 0 s else s

/-- A stripe of data goes to the extent it continues, or to a new one; with no stripe free the recording stops with
VOLUME_FULL (R366, R369, R375). -/
def placeStripe (stream i n : Nat) (data : List Byte) (job : Option CapJob) (s : State) : State :=
  let cap := (job.map CapJob.number).getD 0
  let fresh := fun (s : State) =>
    let r := openRoom stream i n job (s.disk.vol.free.length + 2) s
    match r.1, openFor r.2 stream i with
    | none, _ => progress (stopRecording (mVol (fun v => { v with full := true }) r.2))
    | some true, some e => progress (issueStripe e n data job r.2)
    | _, _ => checkLag r.2
  match openFor s stream i with
  | some e => if continues_ e n cap then progress (issueStripe e n data job s) else fresh (closeExtent e.seq 0 s)
  | none => fresh s

/-- STRIPE_WRITE (R366, R369, R370): a whole stripe of a sleeve, or the last part of a closed region or of a pass that was
cut short. -/
def stripeWrite (i : Nat) (s : State) : State :=
  if !volumeRuns s || stopPast s then s
  else match nextData s i with
  | none => s
  | some (stream, job, n, stop) =>
    let want := s.disk.vol.dataUnits * unitSize
    let top := runEnd s i n
    let a := min top (stop.getD top) - n
    let last := ((job.map CapJob.closed).getD false && stop == some (n + a)) || (passCut s i n && n + a == top)
    if a < want && !(last && decide (0 < a)) then s
    else placeStripe stream i n (sleeveBytes s i n (min a want)) job s

/-- The flush and the close of the volume begin: open extents close TRUNCATED, and when all are FINAL the close record
follows (R75 step 4, R371, R376). -/
def beginClose (s : State) : State :=
  if s.disk.vol.state = .opened ∨ s.disk.vol.state = .degraded ∨ s.disk.vol.closing then
    progress (submitLive (.flush 0) (truncateExtents (mVol (fun v => { v with closing := true }) s)))
  else s

/-- Every command outstanding on the live members completes. -/
def completeAll (s : State) : State :=
  (liveDrives s).foldl (fun s p => (drive s p.1).cmds.foldl (fun s c =>
    if (drive s p.1).cmds.contains c then
      completed p.1 c { queue := c.queue, head := (nvmeQueue (drive s p.1) c.queue).tail } s else s) s) s

/-- Commands complete, and those that follow from them, as often as the count says. -/
def completeRounds : Nat → State → State
  | 0, s => s
  | k + 1, s => completeRounds k (progress (completeAll s))

/-- The close of the volume completes (R371, R376): every command left completes, each extent becomes FINAL in order, and
the close record with exact HEAD and LAST_SEQ is written. -/
def closeVolume (s : State) : State :=
  let v := s.disk.vol
  if v.state = .opened ∨ v.state = .degraded ∨ v.closing then
    mVol (fun v => { v with
      state := if v.state = .stopped then .stopped else .closed, extents := [], runs := [], captures := []
      labelWrite := none, closing := false }) (completeRounds (8 * (v.extents.length + 2)) s)
  else s

/-- Commands outstanding discarded at the end of a wait (R75 step 3). -/
def dropCommands (s : State) : State :=
  mDisk (fun k => { k with drives := k.drives.foldl (fun m p => put {} p.1 p.2.idle m) [] }) s

/-- The drives and the volume at a function start (R357, R360, R368). -/
def diskStart (p : DrivePolicy) (k : Disk) : Disk :=
  { dsel := k.dsel
    vol := { state := if p.members = 0 then .none else .bringup } }

/-- Bytes that a drive reads of an engine buffer: parity, header or label (R358). -/
def bufferBytes (s : State) (d : Nat) (c : NvmeCmd) (off n : Nat) : List Byte :=
  let v := s.disk.vol
  let m := (drive s d).member.getD 0
  let bs := match c.op with
    | .header x _ => slice (((extent s x).map Extent.image).getD []) off n
    | .label _ _ => slice ((v.labelWrite.map (labelBytes m)).getD []) off n
    | .unit x st part => match extent s x with
      | some e => slice (parityUnit v e st (v.role st m)) (part * partBytes (drive s d) + off) n
      | none => []
    | _ => []
  bs ++ List.replicate (n - bs.length) 0

/-- A drive's read of a mapped data page is served: sleeve data through DSK transactions, with zeros past the payload; a
buffer at once (R358, R366). -/
def serveDriveRead (d a : Nat) (c : NvmeCmd) (off n : Nat) (s : State) : State :=
  let v := s.disk.vol
  let now_ := emit (.driveData d a (bufferBytes s d c off n)) s
  match c.op with
  | .unit x st part => match extent s x with
    | some e =>
      let r := v.role st ((drive s d).member.getD 0)
      if r < 2 then now_
      else
        let p := ((st - e.start - 1) * v.dataUnits + (r - 2)) * unitSize + part * partBytes (drive s d) + off
        let have_ := min n (e.payload.length - p)
        let s := mVol (fun v => { v with runs := v.runs.map (fun r =>
          if r.extent = x ∧ r.stripe = st then { r with asked := r.asked ++ [(e.wc + p, have_)] } else r) }) s
        let s := dskReads e.sleeve (e.wc + p) have_ (fun wc m => .dskDrive d (a + (wc - (e.wc + p))) e.sleeve wc m e.seq st) s
        if have_ = n then s else emit (.driveData d (a + have_) (List.replicate (n - have_) 0)) s
    | none => now_
  | _ => now_

/-- An access that R360 forbids: refused, and the drive is quarantined with a reason and the address. -/
def refuseAccess (d reason a : Nat) (s : State) : State := quarantine d reason a (emit (.driveRefused d) s)

/-- The reason for which a read of a page of that use is blocked; none when it is served (R359). -/
def readDenied : Option PageUse → Option Nat
  | some (.data c _) => if c.op.fromDrive then some 0x21 else none
  | some (.prpList _ _) | some (.submission _ _) => none
  | some .completion | some (.doorbell _) => some 0x21
  | some .unmapped | none => some 0x20

/-- The reason for which a write to a page of that use is blocked; none when it is accepted (R359). -/
def writeDenied : Option PageUse → Option Nat
  | some (.data c _) => if c.op.fromDrive then none else some 0x21
  | some .completion => none
  | some (.prpList _ _) | some (.submission _ _) => some 0x21
  | some (.doorbell _) => some 0x23
  | some .unmapped | none => some 0x20

/-- An interrupt message of a drive to an address of that use (R359). -/
def driveIrq (d a : Nat) (w : Word) (u : Option PageUse) (s : State) : State := match u with
  | some (.doorbell q) => if a % 4 = 0 ∧ w.toNat = q then s else refuseAccess d 0x23 a s
  | _ => refuseAccess d 0x23 a s

/-- What a read of `n` bytes of a page in a use gives (R358). -/
def readUse (d a n : Nat) (s : State) : Option PageUse → State
  | some (.data c off) => serveDriveRead d a c off n s
  | some (.prpList c off) => emit (.driveData d a (slice (prpList d (drive s d) c) off n)) s
  | some (.submission q off) => emit (.driveData d a (slice (submissionPage (drive s d) q) off n)) s
  | _ => s

/-- A served read of `n` bytes of one page (R358). -/
def readPage (d a n : Nat) (s : State) : State := readUse d a n s (pageUse s d a)

/-- The first page of a range whose access is blocked, with the reason (R359). -/
def firstBlock (s : State) (d : Nat) (f : Option PageUse → Option Nat) (pages : List (Nat × Nat)) : Option (Nat × Nat) :=
  pages.findSome? (fun p => (f (pageUse s d p.1)).map (fun r => (r, p.1)))

/-- DRIVE_DMA_ACCESS (R358 to R360): every page of the access is checked before any of it is served. -/
def driveAccess (d : Nat) (x : DriveAccess) (s : State) : State :=
  let v := drive s d
  let pages := fun (a n : Nat) => cutBlocks (n / 4096 + 2) a (max 1 n)
  if v.state == .absent then s
  else if v.state == .quarantined then emit (.driveRefused d) (bump 17 (0x40 * d + 0x30) s)
  else match x with
    | .peer a => refuseAccess d 0x24 a s
    | .irq a w => driveIrq d a w (pageUse s d a) s
    | .read a n => (match firstBlock s d readDenied (pages a n) with
      | some (r, p) => refuseAccess d r p s
      | none => (cutBlocks (n / 4096 + 2) a n).foldl (fun s p => readPage d p.1 p.2 s) s)
    | .write a bs => (match firstBlock s d writeDenied (pages a bs.length) with
      | some (r, p) => refuseAccess d r p s
      | none => s)

/-- Bytes of a drive's read as they stand in its slot (R358). -/
def driveBytes (s : State) (i wc n : Nat) : List Byte := sleeveBytes s i wc n

/-- A UE mark in a stripe's data: UE_IN_DATA, the stripe counted once, one record per extent (R377). -/
def markUe (seq st : Nat) (s : State) : State :=
  match extent s seq with
  | some e =>
    if e.ueStripes.contains st then s
    else
      let s := if e.ueStripes.isEmpty then logEvent 0x2019 17 [seq % 2 ^ 32, seq / 2 ^ 32] s else s
      let s := pulse0 17 5 (bump 17 0x1030 (mExtent seq (fun e => { e with ueStripes := e.ueStripes ++ [st] }) s))
      if tbit e.flags 3 then s else flagExtent seq 8 s
  | none => s

/-- Sleeve data reaches the parity engine (R374, R377). -/
def parityData (seq st : Nat) (ue : Bool) (s : State) : State := if ue then markUe seq st s else s

/-- Sleeve data reaches a drive, unless the drive has been cut off since (R358, R360, R377). -/
def driveData (d a seq st : Nat) (bytes : List Byte) (ue : Bool) (s : State) : State :=
  parityData seq st ue (if heeded (drive s d) then emit (.driveData d a bytes) s else s)

/-- DRIVE_LINK_UP (R353, R355, R357): the link runs at no more than the port's declared speed and the position's lanes. -/
def driveLinkUp (d speed width : Nat) (nvme : Bool) (s : State) : State :=
  let modes := (img s).drives.modes
  let set := fun (st : DriveState) (r : Nat) => mDrive d (fun v => { v with
    state := st, reason := r, speed := min speed (positionSpeed modes d), width := min width (positionLanes modes d) }) s
  if positionUsed modes d && functionLive s && tbit s.pkg.dperst (d / 2) && (drive s d).state == .absent then
    if speed = 0 then rejectDrive d 1 s
    else if !nvme then set .rejected 2
    else enableDrive d (set .checking 0)
  else s

/-- DRIVE_READY (R357): Identify and queue setup follow. -/
def driveReady (d : Nat) (s : State) : State :=
  if (drive s d).state == .checking && (drive s d).cmds.isEmpty then
    submit d (.setFeature 0x07) false (submit d (.identify 0) false (submit d (.identify 1) false s))
  else s

/-- IDENTIFY_DONE (R357, R361). -/
def identifyDone (d : Nat) (x : IdentifyInfo) (s : State) : State :=
  if (drive s d).state ≠ .checking then s
  else
    let s := mDrive d (fun v => { v with mdts := x.mdts, blocks := x.blocks }) (endOps d NvmeOp.bringUp s)
    if (x.mdts ≠ 0 ∧ x.mdts < 5) ∨ x.queues < 1 ∨ x.nn = 0 ∨ 1024 < x.nn ∨ 2 ^ 48 < x.blocks then rejectDrive d 4 s
    else if x.lbaBytes ≠ 4096 ∨ x.metadata ≠ 0 then rejectDrive d 5 s
    else if x.blocks * 4096 < 2097152 + 268435456 then rejectDrive d 6 s
    else
      let n := min 16 x.queues
      nextSetup d (mDrive d (fun v => { v with
        state := .accepted, queues := 1 + n, setup := setupOps n (s.disk.vol.state == .bringup) }) s)

/-- DRIVE_LINK_TIMEOUT (R353, R357). -/
def driveLinkTimeout (d : Nat) (s : State) : State :=
  if (drive s d).state == .absent && positionUsed (img s).drives.modes d then rejectDrive d 1 s else s

/-- DRIVE_READY_TIMEOUT (R357). -/
def driveReadyTimeout (d : Nat) (s : State) : State :=
  if (drive s d).state == .checking then rejectDrive d 3 s else s

/-- DRIVE_LINK_UP (R353). -/
def execDriveLinkUp (d speed width : Nat) (nvme : Bool) (s : State) : Host.Outcome State Fault Refusal :=
  act (driveLinkUp d speed width nvme) s

/-- DRIVE_LINK_TIMEOUT (R353). -/
def execDriveLinkTimeout (d : Nat) (s : State) : Host.Outcome State Fault Refusal :=
  act (driveLinkTimeout d) s

/-- DRIVE_READY (R357). -/
def execDriveReady (d : Nat) (s : State) : Host.Outcome State Fault Refusal := act (driveReady d) s

/-- DRIVE_READY_TIMEOUT (R357). -/
def execDriveReadyTimeout (d : Nat) (s : State) : Host.Outcome State Fault Refusal :=
  act (driveReadyTimeout d) s

/-- IDENTIFY_DONE (R357). -/
def execIdentifyDone (d : Nat) (info : IdentifyInfo) (s : State) : Host.Outcome State Fault Refusal :=
  act (identifyDone d info) s

/-- LABEL_READ (R368). -/
def execLabelRead (labels : List (Nat × List (List Byte))) (entropy : Nat) (s : State) : Host.Outcome State Fault Refusal :=
  act (labelRead labels entropy) s

/-- DRIVE_DMA_ACCESS (R359). -/
def execDriveDmaAccess (d : Nat) (access : DriveAccess) (s : State) : Host.Outcome State Fault Refusal :=
  act (driveAccess d access) s

/-- STRIPE_WRITE (R366). -/
def execStripeWrite (sleeve : Nat) (s : State) : Host.Outcome State Fault Refusal := act (stripeWrite sleeve) s

/-- NVME_COMPLETION (R362). -/
def execNvmeCompletion (d id : Nat) (status : CompletionEntry) (s : State) : Host.Outcome State Fault Refusal :=
  act (completion d id status) s

/-- NVME_COMMAND_TIMEOUT (R362). -/
def execNvmeCommandTimeout (d id : Nat) (s : State) : Host.Outcome State Fault Refusal := act (commandTimeout d id) s

/-- DRIVE_LINK_LOST (R362). -/
def execDriveLinkLost (d : Nat) (s : State) : Host.Outcome State Fault Refusal := act (linkLost d) s

end Sys2Proof.Machine
end

