-- ==== Sys2Proof/Machine/Frames.lean ====
section
/-! DEFINITION. The frame stamper (10): positions and their times, headers, storing or dropping records; the bounded
paths (R34); writes of blocks by the sleeves' writers. -/

namespace Sys2Proof.Machine

/-- A path measured: its first excess in a run is recorded and shown, further ones are counted (R34). -/
def measure (cls index cycles : Nat) (s : State) : State :=
  match boundOf s cls index with
  | none => s
  | some b =>
    if cycles ≤ b then s
    else if s.exceeded.contains (cls, index) then bump 0 0x20 s
    else logEvent 0x200F 0 [cls, index, cycles] { s with exceeded := (cls, index) :: s.exceeded }

/-- A frame or channeliser stream's state. -/
def frameStream (s : State) (k : Nat) : FrameStream := look {} s.frames k

/-- A frame or channeliser stream's declaration. -/
def frameDecl (s : State) (k : Nat) : FrameDecl := (img s).frames.getD k {}

/-- Runs of sample counts of the positions `p` to `hi − 1`, over anchors newest first (R244). -/
def spansOf (p : Nat) : Nat → List (Nat × Nat) → List (Nat × Nat)
  | hi, [] => if p < hi then [(p, hi - 1)] else []
  | hi, a :: r =>
    if hi ≤ p then []
    else if a.1 < hi then (a.2 + (max p a.1 - a.1), a.2 + (hi - 1 - a.1)) :: spansOf p (min hi a.1) r
    else spansOf p hi r

/-- The sample counts of `n` positions from `p` of a raw sleeve, as runs (R244). -/
def spans (s : State) (i p n : Nat) : List (Nat × Nat) := spansOf p (p + n) (sleeve s i).anchors

/-- Marked samples among runs of sample counts. -/
def countSpans (sp rs : List (Nat × Nat)) : Nat := sp.foldl (fun c x => c + countRuns x.1 x.2 rs) 0

/-- Samples of a frame's transform. -/
def FrameDecl.size (d : FrameDecl) : Nat := 2 ^ d.sizeLog2

/-- First position of frame `k` (R242). -/
def FrameDecl.start (d : FrameDecl) (k : Nat) : Nat := d.first + k * d.hop

/-- RAW_GAP of frame `k`: a marker within its positions, or its last position not stored (R252). -/
def rawGap (s : State) (d : FrameDecl) (k : Nat) : Bool :=
  decide (storedPositions s d.src < d.start k + d.size) || markerWithin s d.src (d.start k) d.size

/-- FLAGS of frame `k` (R252). -/
def frameFlags (s : State) (f : FrameStream) (d : FrameDecl) (k : Nat) : Nat :=
  let h := chan s d.channel
  let sp := spans s d.src (d.start k) d.size
  b2n (inRuns (timeAt s d.src (d.start k)) h.refRuns) + 2 * b2n (decide (0 < countSpans sp h.calRuns)) +
    4 * b2n (decide (0 < f.settle)) + 8 * b2n (f.before || (sleeve s d.dst).awaitBlock) + 16 * b2n (rawGap s d k)

/-- The 128 bytes of a frame record's header with the device fields written (R251). -/
def stamped (s : State) (d : FrameDecl) (index k flags : Nat) (bs : List Byte) : List Byte :=
  let h := chan s d.channel
  let t := timeAt s d.src (d.start k)
  let sp := spans s d.src (d.start k) d.size
  leBytes 4 0x52465A53 ++ leBytes 1 1 ++ leBytes 1 d.channel ++ leBytes 2 index ++
  leBytes 8 (t % 2 ^ 64) ++ leBytes 2 (t / 2 ^ 64) ++ leBytes 1 flags ++ slice bs 0x13 1 ++
  leBytes 1 d.sizeLog2 ++ leBytes 1 d.format ++ slice bs 0x16 2 ++ leBytes 8 k ++
  leBytes 4 (countSpans sp h.ovrRuns) ++ leBytes 4 (countSpans sp h.adjRuns) ++ leBytes 4 (genAt s t) ++
  leBytes 2 d.binFirst ++ leBytes 2 d.binCount ++ leBytes 8 (img s).digest.toNat ++ leBytes 4 d.recordBytes ++
  slice bs 0x3C 2 ++ leBytes 2 0 ++ slice bs 0x40 64

/-- The times of a spectra sleeve's write counts: a new anchor where the frames' times do not follow on. -/
def spectraAnchor (d : FrameDecl) (t : Nat) (s : State) : State :=
  let a := (sleeve s d.dst).anchors.head?
  let w := (sleeve s d.dst).wcount
  if a.map (fun x => x.2 + (w - x.1) / max 1 d.recordBytes * d.hop) == some t then s
  else mSleeve d.dst (fun v => { v with anchors := (w, t) :: v.anchors }) s

/-- The last byte of a stored frame record has landed: its counts, events and measure (R252, R253). -/
def frameStored (k n flags spurs : Nat) (d : FrameDecl) (s : State) : State :=
  let s := mFrame k (fun f => { f with frame := n, flags := flags, unsettled := tbit flags 2, cur := none }) s
  let s := bump 10 (0x40 * k) s
  let s := if spurs = 0 then s else pulse0 10 2 (bump 10 (0x40 * k + 0x20) s)
  let s := if tbit flags 4 then pulse0 10 1 (bump 10 (0x40 * k + 0x30) s) else s
  let last := d.start n + d.size - 1
  if last < storedPositions s d.src then measure 2 d.dst (now s / 16 - timeAt s d.src last / 16) s else s

/-- At the first byte of a frame record the stamper decides for the whole record: it fits, or it is dropped or stops the
writer (R250). -/
def decideFrame (k : Nat) (s : State) : State :=
  let n := (frameStream s k).next
  let d := frameDecl s k
  let stopped := (sleeve s d.dst).stopped
  if !stopped && fits s d.dst d.recordBytes then mFrame k (fun f => { f with fate := some true }) s
  else
    let s := if stopped then s else refuseRecord d.dst (timeAt s d.src (d.start n)) s
    let s := mFrame k (fun f => { f with fate := some false, before := true }) s
    if (sleeveDecl s d.dst).kind == .continuous then pulse0 10 0 (bump 10 (0x40 * k + 0x10) s) else s

/-- Bytes of the record whose header has been stamped pass on: to the sleeve, or away when the record is dropped; the
rest belong to the next record, which is decided at its first byte (R250). -/
def passFrame (k : Nat) (data : List Byte) (s : State) : State :=
  let f := frameStream s k
  let d := frameDecl s k
  let n := min f.left data.length
  let s := mFrame k (fun f => { f with left := f.left - n, buf := f.buf ++ data.drop n }) s
  let s := if n = 0 then s
    else match f.cur with
      | none => s
      | some (i, flags, spurs) =>
        let s := tidyMarkers d.dst (storeAll d.dst (data.take n) s)
        if n = f.left then frameStored k i flags spurs d s else s
  if f.buf.isEmpty && decide (n < data.length) then decideFrame k s else s

/-- The header of a record that fits is stored: a writer that begins or resumes with it dates the sleeve's history
(R250, R328). -/
def storeHeader (k n flags : Nat) (d : FrameDecl) (bs : List Byte) (s : State) : State :=
  let t := timeAt s d.src (d.start n)
  let s := storeAll d.dst (stamped s d k n flags bs) (endDrop d.dst (spectraAnchor d t s))
  let s := mSleeve d.dst (fun v => { v with
    awaitBlock := false, began := if v.awaitBlock || v.began.isNone then some t else v.began }) (tidyMarkers d.dst s)
  mFrame k (fun f => { f with cur := some (n, flags, le bs 0x3C 2), before := false, fate := none }) s

/-- The header of a record leaves: it is stored or not as was decided at the record's first byte (R250). -/
def beginFrame (k n flags : Nat) (d : FrameDecl) (bs : List Byte) (s : State) : State :=
  let s := if (frameStream s k).fate.isNone then decideFrame k s else s
  if (frameStream s k).fate == some true then storeHeader k n flags d bs s
  else mFrame k (fun f => { f with cur := none, fate := none }) s

/-- FRAME_STAMP: the 128 bytes of the next record's header have left its writer engine; the stamper writes the header,
and what has left of the record follows it (R250 to R253). -/
def stampFrame (k : Nat) (s : State) : State :=
  let f := frameStream s k
  let d := frameDecl s k
  if d.channeliser || d.recordBytes < 128 || f.left != 0 || f.buf.length < 128 || !functionLive s then s
  else
    let flags := frameFlags s f d f.next
    let s := mFrame k (fun f => { f with
      next := f.next + 1, buf := [], left := d.recordBytes - 128
      settle := if tbit flags 4 then d.settle else f.settle - 1 }) (beginFrame k f.next flags d (f.buf.take 128) s)
    passFrame k (f.buf.drop 128) s

/-- The channeliser stream whose rows a sleeve holds. -/
def channeliserOf (s : State) (i : Nat) : Option Nat :=
  (List.range (img s).frames.length).find? (fun k => (frameDecl s k).channeliser && (frameDecl s k).dst == i)

/-- The frame stream whose records a sleeve holds. -/
def frameStreamOf (s : State) (i : Nat) : Option Nat :=
  (List.range (img s).frames.length).find? (fun k => !(frameDecl s k).channeliser && (frameDecl s k).dst == i)

/-- Time of row `r` of a channeliser stream, as the sample count of its input (R260). -/
def rowTime (s : State) (k r : Nat) : Nat :=
  let d := frameDecl s k
  timeAt s d.src (d.first + r * d.hop)

/-- Bytes that a channeliser's writer leaves out before its next whole row when it has resumed (R261). -/
def rowLead (s : State) (i row p : Nat) : Nat :=
  if (sleeve s i).awaitBlock && !(sleeve s i).stopped then (row - p % row) % row else 0

/-- Bytes of a channeliser's rows appended: a marker bears the time of the first row not stored, and the rows stored
and dropped are counted; a writer that has resumed goes on with a whole row (R260, R261). -/
def channeliserWrite (k i : Nat) (data : List Byte) (s : State) : State :=
  let row := rowBytes (frameDecl s k)
  let p := (frameStream s k).produced
  let w := (sleeve s i).wcount
  let d := counter s 8 (0x10 * i)
  let lead := rowLead s i row p
  let tm := fun o => rowTime s k ((p + lead + o) / row)
  let s := if lead < data.length then mSleeve i (fun v => { v with awaitBlock := v.awaitBlock && v.stopped }) s else s
  let s := appendTimed i tm (data.drop lead) s
  let stored := (sleeve s i).wcount / row - w / row
  let dropped := (counter s 8 (0x10 * i) - d) * (4096 / row)
  mFrame k (fun f => { f with produced := p + data.length, next := (p + data.length) / row })
    (bumpBy 10 (0x40 * k + 0x10) dropped (bumpBy 10 (0x40 * k) stored s))

/-- What follows a write to a sleeve: captures whose sleeves stopped or changed their length, then drive recording. -/
def afterWrite (s : State) : State := progress (checkCaptures s)

/-- SLEEVE_BLOCK_WRITE: bytes from a sleeve's writer. A frame stream's pass the stamper (R250), a channeliser's bear
their rows' time (R261). -/
def blockWrite (i time : Nat) (data : List Byte) (s : State) : State :=
  if !functionLive s || (img s).sleeves.length ≤ i then s
  else match frameStreamOf s i with
    | some k => afterWrite (passFrame k data s)
    | none => match channeliserOf s i with
      | some k => afterWrite (channeliserWrite k i data s)
      | none => afterWrite (appendBytes i time data s)

/-- A frame or channeliser stream at function start (R242, R252). -/
def frameStart (d : FrameDecl) : FrameStream := { settle := d.settle }

/-- FRAME_STAMP (R251). -/
def execFrameStamp (stream : Nat) (s : State) : Host.Outcome State Fault Refusal :=
  act (fun s => afterWrite (stampFrame stream s)) s

/-- SLEEVE_BLOCK_WRITE (R175). -/
def execSleeveBlockWrite (sleeve time : Nat) (data : List Byte) (s : State) : Host.Outcome State Fault Refusal :=
  act (blockWrite sleeve time data) s

/-- WRITER_RESUME (R175). -/
def execWriterResume (sleeve : Nat) (s : State) : Host.Outcome State Fault Refusal :=
  act (fun s => if (Machine.sleeve s sleeve).resumeHeld then resumeWriter sleeve s else s) s

end Sys2Proof.Machine
end

