-- ==== Sys2Proof/Machine/Density.lean ====
section
/-! DEFINITION. The trace detectors and the density planes (11). -/

namespace Sys2Proof.Machine

/-- The sum of two binary patterns with signs, rounded once; none where the sum is not a number. -/
def FloatFormat.signedAdd (f : FloatFormat) (a b : Nat) : Option Nat :=
  let top := 2 ^ (f.eb + f.mb)
  let isNaN := fun (w : Nat) => f.special w && decide (w % 2 ^ f.mb ≠ 0)
  if isNaN a || isNaN b then none
  else if f.special a then (if f.special b && a != b then none else some a)
  else if f.special b then some b
  else
    let x := f.unpack a
    let y := f.unpack b
    let e := min x.2 y.2
    let val := fun (w : Nat) (u : Nat × Int) =>
      (if f.negative w then -((u.1 * 2 ^ (u.2 - e).toNat : Nat) : Int) else ((u.1 * 2 ^ (u.2 - e).toNat : Nat) : Int))
    let v := val a x + val b y
    some (if v < 0 then top + f.pack v.natAbs e else f.pack v.natAbs e)

/-- The magnitude operation `g` on a pattern, its sign kept. -/
def FloatFormat.keepSign (f h : FloatFormat) (g : Nat → Nat) (w : Nat) : Nat :=
  if f.negative w then 2 ^ (h.eb + h.mb) + g (w % 2 ^ (f.eb + f.mb)) else g w

/-- A frame record of a stream: its `j`-th stored record (R249). -/
def frameRecord (s : State) (k j : Nat) : List Byte :=
  let d := frameDecl s k
  sleeveBytes s d.dst (j * d.recordBytes) d.recordBytes

/-- Whether the `j`-th record of a stream is complete in its sleeve (R253). -/
def recordReady (s : State) (k j : Nat) : Bool :=
  let d := frameDecl s k
  decide (0 < d.recordBytes) && decide ((j + 1) * d.recordBytes ≤ (sleeve s d.dst).wcount)

/-- The shared static stream of a spectra sleeve reads the `j`-th record, once for every unit that takes it: an error in
its words is reported (R183, R184, R249; log 129). -/
def sharedRead (k j : Nat) (s : State) : State :=
  if (frameStream s k).readTo ≤ j then
    let d := frameDecl s k
    let x := freeEcc s (fun n => (sleeveDecl s d.dst).base + byteOffset s d.dst (j * d.recordBytes + n)) d.recordBytes
    eccEvent x (nextFree (nextFree (mFrame k (fun f => { f with readTo := j + 1 }) s)))
  else s

/-- CK_ENG cycle at which the `j`-th record of a stream was complete. -/
def recordAt (s : State) (k j : Nat) : Nat :=
  completeAt s (frameDecl s k).dst ((j + 1) * (frameDecl s k).recordBytes)

/-- FRAME_NUMBER of a record. -/
def recNumber (bs : List Byte) : Nat := le bs 0x18 8

/-- Whether a record is skipped (R265). -/
def recSkipped (bs : List Byte) : Bool := tbit (le bs 0x12 1) 1 || tbit (le bs 0x12 1) 4

/-- SAMPLE_TIME of a record with its epoch. -/
def recTime (bs : List Byte) : Nat := le bs 8 8 + le bs 0x10 2 * 2 ^ 64

/-- Bin `b` of a record of a stream. -/
def recBin (d : FrameDecl) (bs : List Byte) (b : Nat) : Nat :=
  let v := if d.format = 0 then 4 else 2
  le bs (128 + v * (b - d.binFirst)) v

/-- Whether a bin is not a number. -/
def binNaN (d : FrameDecl) (w : Nat) : Bool := d.format == 0 && f32.special w && decide (w % 2 ^ 23 ≠ 0)

/-- A bin's place in the order of its format: P32 as a number, L16 as a code (R269). -/
def binKey (d : FrameDecl) (w : Nat) : Int :=
  if d.format = 0 && f32.negative w then -((w % 2 ^ 31 : Nat) : Int) else (w : Int)

/-- The L16 code of a bin (R273). -/
def binCode (d : FrameDecl) (w : Nat) : Nat := if d.format = 0 then (l16Code w).1 else w

/-- A saturating 32-bit sum. -/
def sat32 (n : Nat) : Nat := min n 0xFFFFFFFF

/-- The sums with a used frame (R270, R271, R277). -/
def FrameSums.take (u : FrameSums) (bs : List Byte) : FrameSums :=
  let gen := le bs 0x28 4
  { u with
    used := u.used + 1, seen := u.seen + 1
    time := if u.used = 0 then recTime bs else u.time
    calGen := if u.used = 0 then gen else u.calGen
    calChanged := u.calChanged || (u.used != 0 && gen != u.calGen)
    flags := u.flags ||| le bs 0x12 1
    sat := u.sat || tbit (le bs 0x13 1) 0
    ovr := sat32 (u.ovr + le bs 0x20 4), adj := sat32 (u.adj + le bs 0x24 4)
    spur := if le bs 0x3C 2 = 0 then u.spur else min 65535 (u.spur + 1) }

/-- The sums with a skipped frame (R265). -/
def FrameSums.skip (u : FrameSums) : FrameSums := { u with skipped := u.skipped + 1, seen := u.seen + 1 }

/-- FLAGS of a trace or density header; `frames` is how many numbers it covers (R271). -/
def FrameSums.header (u : FrameSums) (frames : Nat) (sat : Bool) : Nat :=
  b2n (tbit u.flags 0) + 2 * b2n (tbit u.flags 2) + 4 * b2n (tbit u.flags 3 || decide (u.seen < frames)) +
    8 * b2n (u.used == 0) + 16 * b2n u.calChanged + 32 * b2n sat

/-- A detector's declaration, with no stream when it is not declared. -/
def traceDecl (s : State) (d : Nat) : Option TraceDecl := (img s).traces.find? (fun t => t.detector == d)

/-- A detector at work. -/
def traceOf (s : State) (d : Nat) : Trace := look {} s.traces d

/-- A point's bins of a record (R269). -/
def pointBins (t : TraceDecl) (f : FrameDecl) (bs : List Byte) (q : Nat) : List Nat :=
  (List.range t.decim).map (fun k => recBin f bs (t.pointFirst + q * t.decim + k))

/-- The largest of bins, or the smallest. -/
def extreme (f : FrameDecl) (up : Bool) : List Nat → Nat
  | [] => 0
  | w :: r => r.foldl (fun m x => if up then (if binKey f m < binKey f x then x else m)
      else (if binKey f x < binKey f m then x else m)) w

/-- The RMS sum of a point with one frame's bins, in binary64 (R269). -/
def rmsAdd (acc : Nat) (bins : List Nat) : Option Nat :=
  bins.foldl (fun m w => m.bind (fun a =>
    if f32.special w && w % 2 ^ 23 != 0 then none
    else f64.signedAdd a (f32.keepSign f64 (convert f32 f64) w))) (some acc)

/-- One point of a detector with a used frame's bins; a bin that is not a number leaves a free value (R269). -/
def tracePoint (t : TraceDecl) (f : FrameDecl) (bs : List Byte) (first : Bool) (free : Nat) (x : Trace) (q : Nat) : Trace :=
  let bins := pointBins t f bs q
  let nan := bins.any (binNaN f)
  let keep := fun (up : Bool) (old : Nat) =>
    if nan then Config.freeValue (free + q) % 2 ^ 32
    else extreme f up (if first then bins else old :: bins)
  let x := if t.mode = 0 ∨ t.mode = 3 then { x with peak := upd 0 q (keep true) x.peak } else x
  let x := if t.mode = 2 ∨ t.mode = 3 then { x with low := upd 0 q (keep false) x.low } else x
  if t.mode = 1 then
    { x with acc := upd 0 q (fun a => (rmsAdd (if first then 0 else a) bins).getD (Config.freeValue (free + q) % 2 ^ 64)) x.acc }
  else x

/-- Free values that a frame's points may take. -/
def tracesFree (t : TraceDecl) (s : State) : State := { s with free := s.free + t.pointCount }

/-- The record read becomes part of interval `x.interval`, or shows that the interval is over (R268, R269). -/
def traceRecord (d : Nat) (t : TraceDecl) (bs : List Byte) (born : Nat) (s : State) : State :=
  let x := traceOf s d
  let f := frameDecl s t.stream
  let n := recNumber bs
  let last := t.firstFrame + x.interval * t.interval + t.interval - 1
  let read := fun (s : State) =>
    mTrace d (fun x => { x with readRecords := x.readRecords + 1 }) (sharedRead t.stream x.readRecords s)
  if n < t.firstFrame then read s
  else if last < n then mTrace d (fun x => { x with ready := true, closeAt := born }) s
  else
    let s := read (mTrace d (fun x => { x with ready := n == last, closeAt := if n == last then born else x.closeAt }) s)
    if recSkipped bs then bump 11 (0x40 * d + 0x20) (mTrace d (fun x => { x with sums := x.sums.skip }) s)
    else
      let first := x.sums.used == 0
      tracesFree t (mTrace d (fun x =>
        { ((List.range t.pointCount).foldl (tracePoint t f bs first s.free) x) with sums := x.sums.take bs }) s)

/-- TRACE_FRAME: a detector takes the next record of its stream (R265, R268, R269). -/
def traceFrame (d : Nat) (s : State) : State :=
  match traceDecl s d with
  | none => s
  | some t =>
    let x := traceOf s d
    if !functionLive s || x.ready || !recordReady s t.stream x.readRecords then s
    else traceRecord d t (frameRecord s t.stream x.readRecords) (recordAt s t.stream x.readRecords) s

/-- The bytes of a point (R269, R270). -/
def pointBytes (t : TraceDecl) (f : FrameDecl) (x : Trace) (q : Nat) : List Byte :=
  let v := if f.format = 0 then 4 else 2
  if x.sums.used = 0 then leBytes (if t.mode = 3 then 2 * v else v) 0
  else match t.mode with
    | 0 => leBytes v (look 0 x.peak q)
    | 1 => leBytes 4 (f64.keepSign f32 (fun w => convert f64 f32 (f64.divNat w (x.sums.used * t.decim))) (look 0 x.acc q))
    | 2 => leBytes v (look 0 x.low q)
    | _ => leBytes v (look 0 x.low q) ++ leBytes v (look 0 x.peak q)

/-- A trace record (R270). -/
def traceBytes (s : State) (d : Nat) (t : TraceDecl) (x : Trace) : List Byte :=
  let f := frameDecl s t.stream
  let u := x.sums
  leBytes 4 0x52545A53 ++ leBytes 1 1 ++ leBytes 1 d ++ leBytes 1 t.mode ++ leBytes 1 (u.header t.interval u.sat) ++
  leBytes 8 x.interval ++ leBytes 8 (u.time % 2 ^ 64) ++ leBytes 2 (u.time / 2 ^ 64) ++ leBytes 2 t.stream ++
  leBytes 4 u.used ++ leBytes 4 u.skipped ++ leBytes 4 u.calGen ++ leBytes 8 (img s).digest.toNat ++
  leBytes 4 u.ovr ++ leBytes 4 u.adj ++ leBytes 2 t.pointFirst ++ leBytes 2 t.pointCount ++ leBytes 1 t.decim ++
  leBytes 1 f.format ++ leBytes 2 u.spur ++ (List.range t.pointCount).flatMap (pointBytes t f x)

/-- TRACE_INTERVAL_CLOSE: the trace is written and the next interval begins (R268, R272). -/
def traceClose (d : Nat) (s : State) : State :=
  match traceDecl s d with
  | none => s
  | some t =>
    let x := traceOf s d
    if !functionLive s || !x.ready then s
    else
      let r := appendRecord t.dst x.sums.time (traceBytes s d t x) s
      let s := mTrace d (fun x => { x with
        interval := x.interval + 1, sums := {}, peak := [], low := [], acc := [], ready := false, last := x.interval }) r.1
      if r.2 then
        let s := bump 11 (0x40 * d) s
        let s := if x.sums.used = 0 then pulse0 11 1 s else s
        measure 5 t.dst (s.time.cycle - x.closeAt) s
      else if (sleeveDecl s t.dst).kind == .continuous then pulse0 11 0 (bump 11 (0x40 * d + 0x10) s)
      else s

/-- A plane's declaration. -/
def planeDecl (s : State) (p : Nat) : Option PlaneDecl := (img s).planes.find? (fun d => d.plane == p)

/-- A plane at work. -/
def planeOf (s : State) (p : Nat) : Plane := look {} s.planes p

/-- The carry of a cell (R274). -/
def carry (d : PlaneDecl) (c : Nat) : Nat := if d.decay = 0 then 0 else c - c / 2 ^ d.decay

/-- The row of a bin code (R273). -/
def PlaneDecl.row (d : PlaneDecl) (v : Nat) : Nat :=
  if v < d.rowBottom then 0 else min (d.rows - 1) ((v - d.rowBottom) / max 1 d.rowStep)

/-- The cells a used frame increments, in ascending bin order (R273). -/
def frameCells (d : PlaneDecl) (f : FrameDecl) (bs : List Byte) : List Nat :=
  (List.range d.columns).flatMap (fun c =>
    let bins := (List.range d.decim).map (fun k => recBin f bs (d.colFirst + c * d.decim + k))
    let codes := if d.peak then [binCode f (extreme f true bins)] else bins.map (binCode f)
    codes.map (fun v => d.row v * d.columns + c))

/-- The effective value of a cell (R279). -/
def effective (d : PlaneDecl) (x : Plane) (cell : Nat) : Nat :=
  look 0 x.active cell + (match x.pass with
    | some q => if q.cell ≤ cell then carry d (look 0 x.copyBuf cell) else 0
    | none => 0)

/-- One increment, with the hits of each condition of the plane after it (R276, R279). -/
def incrementCell (d : PlaneDecl) (cs : List CondDecl) (a : Plane × List Nat) (cell : Nat) : Plane × List Nat :=
  let x := { a.1 with active := upd 0 cell (fun n => sat32 (n + 1)) a.1.active }
  let e := effective d x cell
  let col := cell % max 1 d.columns
  let row := cell / max 1 d.columns
  (x, (List.range cs.length).map (fun i =>
    let c := cs.getD i {}
    let inside := decide (c.colLo ≤ col) && decide (col ≤ c.colHi) && decide (c.rowLo ≤ row) && decide (row ≤ c.rowHi)
    let hit := inside && (if c.atMost then decide (e ≤ c.threshold) else decide (c.threshold ≤ e))
    a.2.getD i 0 + b2n hit))

/-- A density condition fires: its time goes to the trigger conditions that name it (R279, R307). -/
def fireDensity (p born time : Nat) (s : State) (c : CondDecl) : State :=
  let s := pulse0 12 3 (bump 12 (0x200 + 0x10 * c.condition) s)
  let s := measure 4 p (s.time.cycle - born) s
  (condsFor s .density c.condition).foldl (fun s k => raiseOcc k.cond (256 * time) s) s

/-- A used frame at a plane: its increments, then the conditions it fires (R273, R279). -/
def planeUse (p : Nat) (d : PlaneDecl) (bs : List Byte) (born : Nat) (s : State) : State :=
  let f := frameDecl s d.stream
  let cs := (img s).denConds.filter (fun c => c.plane == p)
  let r := (frameCells d f bs).foldl (incrementCell d cs) (planeOf s p, cs.map (fun _ => 0))
  let s := mPlane p (fun _ => { r.1 with sums := r.1.sums.take bs }) s
  ((List.range cs.length).filter (fun i => decide ((cs.getD i {}).minHits ≤ r.2.getD i 0))).foldl
    (fun s i => fireDensity p born (recTime bs) s (cs.getD i {})) s

/-- DENSITY_FRAME: a plane takes the next record of its stream (R265, R273, R274). -/
def densityFrame (p : Nat) (s : State) : State :=
  match planeDecl s p with
  | none => s
  | some d =>
    let x := planeOf s p
    if !functionLive s || x.ready || !recordReady s d.stream x.readRecords then s
    else
      let bs := frameRecord s d.stream x.readRecords
      let born := recordAt s d.stream x.readRecords
      let n := recNumber bs
      let last := d.firstFrame + x.exposure * d.exposure + d.exposure - 1
      let read := fun (s : State) =>
        mPlane p (fun y => { y with readRecords := y.readRecords + 1 }) (sharedRead d.stream x.readRecords s)
      if n < d.firstFrame then read s
      else if last < n then mPlane p (fun x => { x with ready := true }) s
      else
        let s := read (mPlane p (fun x => { x with ready := n == last }) s)
        if recSkipped bs then mPlane p (fun x => { x with sums := x.sums.skip }) s
        else planeUse p d bs born s

/-- EXPOSURE_CLOSE: the buffers change roles, or exposures merge while a copy pass runs (R274, R275). -/
def exposureClose (p : Nat) (s : State) : State :=
  let x := planeOf s p
  if !functionLive s || !x.ready then s
  else
    let s := bump 12 (0x40 * p) s
    match x.pass with
    | some _ => pulse0 12 1 (bump 12 (0x40 * p + 0x10) (mPlane p (fun x => { x with
        exposure := x.exposure + 1, merged := x.merged + 1, ready := false }) s))
    | none => mPlane p (fun x => { x with
        exposure := x.exposure + 1, merged := 0, ready := false, sums := {}
        active := [], copyBuf := x.active
        pass := some { exposure := x.exposure, merged := x.merged + 1, sums := x.sums, started := false
                       writing := false, cell := 0, satCells := 0 } }) s

/-- Cells of a plane. -/
def PlaneDecl.cells (d : PlaneDecl) : Nat := d.columns * d.rows

/-- The header of a density record (R277). -/
def densityHeader (s : State) (p : Nat) (d : PlaneDecl) (c : CopyPass) : List Byte :=
  let u := c.sums
  leBytes 4 0x4E445A53 ++ leBytes 1 1 ++ leBytes 1 p ++
  leBytes 1 (u.header (d.exposure * c.merged) (c.satCells != 0)) ++ leBytes 1 d.decay ++
  leBytes 8 c.exposure ++ leBytes 8 (u.time % 2 ^ 64) ++ leBytes 2 (u.time / 2 ^ 64) ++ leBytes 2 d.stream ++
  leBytes 4 u.used ++ leBytes 4 u.skipped ++ leBytes 4 u.calGen ++ leBytes 8 (img s).digest.toNat ++
  leBytes 4 c.satCells ++ leBytes 2 d.columns ++ leBytes 2 d.rows ++ leBytes 2 d.rowBottom ++ leBytes 2 d.rowStep ++
  leBytes 1 (min 255 c.merged) ++ leBytes 3 0

/-- A density record: header, then cells in ascending row and column order (R277). -/
def densityBytes (s : State) (p : Nat) (d : PlaneDecl) (x : Plane) (c : CopyPass) : List Byte :=
  densityHeader s p d c ++ (List.range d.cells).flatMap (fun i => leBytes 4 (look 0 x.copyBuf i))

/-- The pieces of a record at its place in a sleeve, none across a block of 4,096 bytes or the end of a pass (R164). -/
def recordPieces (base len : Nat) : Nat → Nat → List Byte → List (Nat × List Byte)
  | 0, _, _ => []
  | k + 1, off, bs =>
    if bs.isEmpty || len = 0 then []
    else
      let n := min (4096 - (base + off) % 4096) (len - off)
      if n = 0 then recordPieces base len k 0 bs
      else (base + off, bs.take n) :: recordPieces base len k (if off + n = len then 0 else off + n) (bs.drop n)

/-- A plane's record goes out as open DEN writes; its room is reserved (R274). -/
def queueDensity (p i : Nat) (data : List Byte) (s : State) : State :=
  let v := sleeve s i
  let ps := recordPieces (sleeveDecl s i).base (lenBytes s i) (data.length + 2) (v.wcount - v.passStart) data
  ps.foldl (fun s x => openSpan 4 x.1 x.2.length (some x.2) (.denCopy p) s)
    (mSleeve i (fun v => { v with reserved := v.reserved + data.length }) (endDrop i s))

/-- Whether a copy pass of some plane is moving cells: one plane at a time (R264). -/
def copyRuns (s : State) : Bool :=
  (img s).planes.any (fun d => match (planeOf s d.plane).pass with
    | some c => c.started
    | none => false)

/-- COPY_PASS_START: whether the record fits is decided once; the pass runs either way (R274, R278). -/
def copyStart (p : Nat) (s : State) : State :=
  match planeDecl s p, (planeOf s p).pass with
  | some d, some c =>
    if !functionLive s || copyRuns s then s
    else
      let n := 64 + 4 * d.cells
      let ok := !(sleeve s d.dst).stopped && fits s d.dst n
      let full := ((planeOf s p).copyBuf.filter (fun e => e.2 == 0xFFFFFFFF)).length
      let c := { c with started := true, writing := ok, satCells := full }
      let s := mPlane p (fun x => { x with pass := some c }) s
      if ok then queueDensity p d.dst (densityBytes s p d (planeOf s p) c) s
      else
        let s := pulse0 12 2 (if (sleeve s d.dst).stopped then s else refuseRecord d.dst c.sums.time s)
        if (sleeveDecl s d.dst).kind == .continuous then bump 12 (0x40 * p + 0x20) s else s
  | _, _ => s

/-- One cell of the copy buffer passes: its carry into the active buffer, zero behind (R274, R276). -/
def passCell (d : PlaneDecl) (x : Plane) (cell : Nat) : Plane :=
  { x with
    active := upd 0 cell (fun n => sat32 (n + carry d (look 0 x.copyBuf cell))) x.active
    copyBuf := put 0 cell 0 x.copyBuf }

/-- Cells up to `upTo` pass (R274). -/
def passCells (d : PlaneDecl) (upTo : Nat) (x : Plane) : Plane :=
  match x.pass with
  | some c =>
    let x' := (List.range (upTo - c.cell)).foldl (fun x k => passCell d x (c.cell + k)) x
    { x' with pass := some { c with cell := max c.cell upTo } }
  | none => x

/-- A DEN write is served: bytes land in the sleeve and their cells pass (R274). -/
def densityServed (p : Nat) (data : List Byte) (s : State) : State :=
  match planeDecl s p, (planeOf s p).pass with
  | some d, some c =>
    let s := mSleeve d.dst (fun v => { v with reserved := v.reserved - data.length }) s
    let s := tidyMarkers d.dst (storeAll d.dst data (noteResult d.dst c.sums.time s))
    let was := if c.cell = 0 then 0 else 64 + 4 * c.cell
    mPlane p (passCells d ((was + data.length - 64) / 4)) s
  | _, _ => s

/-- DEN writes of a plane that have not been served. -/
def densityWaits (s : State) (p : Nat) : Bool := (waiting s 4).any (fun t => t.purpose == .denCopy p)

/-- COPY_PASS_END: every cell has passed and the record stands in its sleeve (R274, R276). -/
def copyEnd (p : Nat) (s : State) : State :=
  match planeDecl s p, (planeOf s p).pass with
  | some d, some c =>
    if !c.started || (c.writing && densityWaits s p) then s
    else
      let s := mPlane p (fun x => { (passCells d d.cells x) with
        pass := none, last := c.exposure, sat := if c.writing then c.satCells != 0 else x.sat }) s
      if c.writing && c.satCells != 0 then pulse0 12 0 (bump 12 (0x40 * p + 0x30) s) else s
  | _, _ => s

/-- TRACE_FRAME (R269). -/
def execTraceFrame (d : Nat) (s : State) : Host.Outcome State Fault Refusal := act (traceFrame d) s

/-- TRACE_INTERVAL_CLOSE (R268). -/
def execTraceIntervalClose (d : Nat) (s : State) : Host.Outcome State Fault Refusal :=
  act (fun s => afterWrite (traceClose d s)) s

/-- DENSITY_FRAME (R273). -/
def execDensityFrame (p : Nat) (s : State) : Host.Outcome State Fault Refusal := act (densityFrame p) s

/-- EXPOSURE_CLOSE (R274). -/
def execExposureClose (p : Nat) (s : State) : Host.Outcome State Fault Refusal := act (exposureClose p) s

/-- COPY_PASS_START (R274). -/
def execCopyPassStart (p : Nat) (s : State) : Host.Outcome State Fault Refusal :=
  act (fun s => afterWrite (copyStart p s)) s

/-- COPY_PASS_END (R276). -/
def execCopyPassEnd (p : Nat) (s : State) : Host.Outcome State Fault Refusal := act (copyEnd p) s

end Sys2Proof.Machine
end

