-- ==== Sys2Proof/Machine/Dma.lean ====
section
/-! DEFINITION. The DMA rings (16 R387 to R405): entries, descriptors, bursts, streams, notices, aborts. -/

namespace Sys2Proof.Machine

/-- The 32 bytes of a completion entry (R391). -/
def entryBytes (e : Entry) (phase : Bool) : List Byte :=
  leBytes 1 e.kind ++ leBytes 1 e.status ++ leBytes 2 e.tag ++
  leBytes 4 (b2n e.abortLate + 2 * b2n e.ue + 4 * b2n e.part + 8 * b2n e.irq + (e.epoch % 65536) * 256 +
    b2n phase * 2 ^ 31) ++
  leBytes 8 e.bytes ++ leBytes 8 e.residue ++ leBytes 8 e.wc

/-- A completion entry is written at CTAIL, and its message follows (R389, R391 to R393). -/
def writeEntry (q : Nat) (e : Entry) (s : State) : State :=
  let r := ring s q
  let s := emit (.hostWrite (r.cbase + 32 * r.ctail) (entryBytes e r.phase)) s
  let next := (r.ctail + 1) % r.size
  let s := mRing q (fun r => { r with ctail := next, phase := if next = 0 then !r.phase else r.phase }) s
  let s := bump 19 (0x40 * q + 0x10) s
  let s := if e.status = 1 then pulse0 19 0 (bump 19 0x80000 s) else s
  let s := if e.abortLate then pulse0 19 0 (bump 19 0x80010 s) else s
  let s := if 2 ≤ e.status then pulse0 19 1 s else s
  let s := if e.kind = 6 then pulse0 19 2 s else s
  if e.irq && r.vector != 0 then sendVector r.vector s else s

/-- A disable takes effect once the last entry has been written (R401), unless a failed fetch has halted it (R402). -/
def settleDisable (q : Nat) (s : State) : State :=
  let r := ring s q
  if r.disabling && r.halt != 1 && r.run.isNone && r.flushTo.isNone && r.waiting.isEmpty then
    mRing q (fun r => { r with running := false, disabling := false, halt := 0 }) s
  else s

/-- Waiting entries are written while the completion ring has a free place (R389). -/
def drainEntries (q : Nat) : Nat → State → State
  | 0, s => s
  | k + 1, s =>
    let r := ring s q
    match r.waiting with
    | [] => s
    | e :: w => if r.full then s else
        drainEntries q k (writeEntry q e (mRing q (fun r => { r with waiting := w }) s))

/-- A host read of `n` bytes for a ring: sent, or held back while 768 are outstanding (R380). -/
def askHost (q a n : Nat) (s : State) : State :=
  let s := mRing q (fun r => { r with asked := r.asked + 1 }) s
  if s.link.reads < 768 then emit (.hostRead a n) (mLink (fun l => { l with reads := l.reads + 1 }) s)
  else mLink (fun l => { l with asks := l.asks ++ [(q, a, n)] }) s

/-- Host reads of a ring for one purpose, each at most 4 KiB (R380). -/
def askAll (q : Nat) (w : HostAsk) (ps : List (Nat × Nat)) (s : State) : State :=
  (ps.flatMap (fun p => cutBlocks (p.2 / 4096 + 2) p.1 p.2)).foldl (fun s p => askHost q p.1 p.2 s)
    (mRing q (fun r => { r with ask := some w }) s)

/-- Held-back host reads leave as places come free (R380). -/
def sendAsks : Nat → State → State
  | 0, s => s
  | k + 1, s => match s.link.asks with
    | [] => s
    | (_, a, n) :: r =>
      if s.link.reads < 768 then
        sendAsks k (emit (.hostRead a n) (mLink (fun l => { l with asks := r, reads := l.reads + 1 }) s))
      else s

/-- Whether an answer to a ring's host reads for purpose `w` can arrive: all of them have been sent. -/
def answerable (s : State) (q : Nat) (w : HostAsk) : Bool :=
  (ring s q).ask == some w && !s.link.asks.any (fun a => a.1 == q)

/-- A ring's host reads have been answered; their places go to others (R380). -/
def answered (q : Nat) (s : State) : State :=
  let n := (ring s q).asked
  sendAsks n (mLink (fun l => { l with reads := l.reads - n }) (mRing q (fun r => { r with ask := none, asked := 0 }) s))

/-- A ring that can go on asks for its next descriptor, at DBASE + 32 × HEAD (R389). -/
def fetchNext (q : Nat) (s : State) : State :=
  let r := ring s q
  if r.running && r.halt == 0 && r.head != r.tail && r.run.isNone && r.waiting.isEmpty && r.ask.isNone then
    askAll q .desc [(r.dbase + 32 * r.head, 32)] s
  else s

/-- An entry is written, or waits its turn; then the next descriptor is asked for (R389). -/
def pushEntry (q : Nat) (e : Entry) (s : State) : State :=
  fetchNext q <| settleDisable q (drainEntries q ((ring s q).waiting.length + 1) (mRing q (fun r => { r with waiting := r.waiting ++ [e] }) s))

/-- The kind of a declared ring. -/
def ringKind (s : State) (q : Nat) : RingKind := ((ringDecl s q).getD {}).kind

/-- Bytes of a transfer in all: LENGTH, or the sum of the table (R398). -/
def Run.total (u : Run) : Nat := if u.desc.index then u.table.foldl (fun n e => n + e.2) 0 else u.desc.length

/-- Bytes written to a piece of host memory, in writes of at most 512 bytes, none across an aligned 4 KiB block (R380,
R397). -/
def hostWrites : Nat → Nat → List Byte → State → State
  | 0, _, _, s => s
  | k + 1, a, bs, s =>
    if bs.isEmpty then s
    else
      let n := min 512 (4096 - a % 4096)
      hostWrites k (a + n) (bs.drop n) (emit (.hostData a (bs.take n) (relaxedOn s.link)) s)

/-- Bytes written to pieces of host memory (R397). -/
def writePieces : List (Nat × Nat) → List Byte → State → State
  | [], _, s => s
  | p :: r, bs, s => writePieces r (bs.drop p.2) (hostWrites (p.2 / 512 + 3) p.1 (bs.take p.2) s)

/-- A STREAM buffer that ends inside a group gets the group's bytes as they are (R399; log 155). -/
def writeRest (u : Run) (s : State) : State :=
  writePieces [(u.desc.hostAddr + u.moved - u.rest.length, u.rest.length)] u.rest s

/-- The descriptor or buffer in progress ends with its entry (R391, R393, R401). -/
def finishRun (q status : Nat) (late part : Bool) (s : State) : State :=
  match (ring s q).run with
  | none => s
  | some u =>
    let k := ringKind s q
    let kind := match k with
      | .xfer => 1
      | .stream => 2
      | .notice => 3
    let el := (u.table.getD u.elem (0, 0)).2
    let kind := if u.desc.op = 0 then 1 else kind
    let e : Entry := {
      kind := kind, status := status, tag := u.desc.tag, abortLate := late, ue := u.ue, part := part
      irq := decide (kind = 3) || (kind == 2 && (ring s q).dataIrq) || (kind == 1 && u.desc.irq) || late || decide (status = 1)
      epoch := 0, bytes := u.moved
      residue := if status = 1 && u.desc.index then el - u.elemMoved else u.total - u.moved
      wc := if kind = 1 then (if u.desc.index then min u.elem (u.table.length - 1) else 0) else if kind = 2 then u.wc else 0 }
    pushEntry q e (mRing q (fun r => { r with run := none }) (writeRest u s))

/-- A descriptor of 32 bytes (R390). Second: whether its reserved fields are zero. -/
def parseDesc (bs : List Byte) : Desc × Bool :=
  let f := le bs 1 1
  ({ op := le bs 0 1, index := tbit f 0, tableSide := fld f 1 1, irq := tbit f 2, swap := fld f 3 2, tag := le bs 2 2
     length := le bs 4 4, hostAddr := le bs 8 8, storeAddr := le bs 16 8, count := le bs 24 4 },
   decide (f < 32) && zeroAt bs 28 4)

/-- Whether the ring is a DMA reader of a sleeve region below its high-water mark (R395). -/
def readOk (s : State) (q a n : Nat) : Bool := match sleeveAt s a with
  | some (i, off) => (sleeveDecl s i).readers.any (fun r => r.unit == 0x11 && r.index == q) &&
      decide (off + n ≤ lenBytes s i) && decide (off + n ≤ (sleeve s i).hwm)
  | none => false

/-- Whether LENGTH keeps R395's limits. -/
def lengthOk (n : Nat) : Bool := decide (64 ≤ n) && decide (n ≤ 2 ^ 32 - 64) && decide (n % 64 = 0)

/-- Whether a length suits a SWAP (R399). -/
def swapOk (swap n : Nat) : Bool :=
  if swap = 0 then true else if swap = 1 then decide (n % 2 = 0) else decide (n % 4 = 0)

/-- The writer sleeve of an XFER ring (R388). -/
def writerSleeve (s : State) (q : Nat) : Option Nat := match ringDecl s q with
  | some d => if d.kind == .xfer && d.sleeve != 0xFFFF then some d.sleeve else none
  | none => none

/-- Whether a descriptor suits its ring and keeps its limits (R390, R395, R398). -/
def descOk (s : State) (q : Nat) (d : Desc) : Bool :=
  let host := decide (d.hostAddr % 4 = 0)
  let counted := decide (1 ≤ d.count) && decide (d.count ≤ 65536)
  match ringKind s q, d.op with
  | _, 0 => (d.storeAddr == 0 || (d.index && d.tableSide == 0)) && (if d.index then counted else d.count == 0)
  | .stream, 1 => !d.index && host && decide (0 < d.length) && swapOk (ring s q).swap d.length && d.storeAddr == 0 && d.count == 0
  | .notice, 1 => !d.index && host && decide (0 < d.length) && d.storeAddr == 0 && d.count == 0
  | .xfer, 2 =>
    if d.index then counted && host &&
      (if d.tableSide = 0 then decide (d.storeAddr % 4 = 0) else decide (d.storeAddr % 64 = 0) && readOk s q d.storeAddr 64)
    else host && lengthOk d.length && d.count == 0 && decide (d.storeAddr % 64 = 0) && readOk s q d.storeAddr d.length
  | .xfer, 3 =>
    (writerSleeve s q).isSome && host && d.storeAddr == 0 &&
      (if d.index then counted && d.tableSide == 1 else lengthOk d.length && d.count == 0)
  | .xfer, 4 =>
    (writerSleeve s q).isSome &&
      (if d.index then counted && d.tableSide == 0 && decide (d.storeAddr % 4 = 0)
       else lengthOk d.length && d.count == 0 && decide (d.storeAddr % 64 = 0) && readOk s q d.storeAddr d.length)
  | _, _ => false

/-- Whether the table describes the store side. -/
def Run.storeTable (u : Run) : Bool := u.desc.index && u.desc.tableSide == 0

/-- Whether element `k` of the table keeps its limits (R395, R398). -/
def elemOk (s : State) (q : Nat) (u : Run) (k : Nat) : Bool :=
  let e := u.table.getD k (0, 0)
  if u.storeTable then lengthOk e.2 && decide (e.1 % 64 = 0) && readOk s q e.1 e.2
  else decide (e.1 % 4 = 0) && decide (4 ≤ e.2) && decide (e.2 ≤ 2 ^ 32 - 64) && decide (e.2 % 4 = 0) &&
    (decide (k + 1 < u.table.length) || decide (u.total % 64 = 0))

/-- Bytes from element `k` on that stand before the first element that breaks the limits. -/
def goodBytes (s : State) (q : Nat) (u : Run) : Nat → Nat → Nat
  | 0, _ => 0
  | n + 1, k => if u.table.length ≤ k then 0 else if elemOk s q u k then (u.table.getD k (0, 0)).2 + goodBytes s q u n (k + 1) else 0

/-- The element place after `n` more bytes (R398). -/
def stepElem (u : Run) : Nat → Nat → Nat → Nat → Nat × Nat
  | 0, _, k, m => (k, m)
  | f + 1, n, k, m =>
    let len := (u.table.getD k (0, 0)).2
    if u.table.length ≤ k ∨ (n = 0 ∧ m = 0) then (k, m)
    else if m + n < len then (k, m + n)
    else stepElem u f (n - (len - m)) (k + 1) 0

/-- A run with `n` bytes moved. -/
def Run.plus (u : Run) (n : Nat) : Run :=
  let p := if u.desc.index then stepElem u (u.table.length + 1) n u.elem u.elemMoved else (0, 0)
  { u with moved := u.moved + n, elem := p.1, elemMoved := p.2 }

/-- The run of a ring changed. -/
def mRun (q : Nat) (f : Run → Run) (s : State) : State := mRing q (fun r => { r with run := r.run.map f }) s

/-- Store address from which the next bytes of a transfer are read. -/
def Run.source_addr (u : Run) : Nat :=
  if u.storeTable then (u.table.getD u.elem (0, 0)).1 + u.elemMoved else u.desc.storeAddr + u.moved

/-- Store address at which the next bytes of a transfer are written (R395). -/
def destAddr (s : State) (i : Nat) : Nat := (sleeveDecl s i).base + ((sleeve s i).wcount - (sleeve s i).passStart)

/-- Host pieces, address and length, of the `n` bytes at a place of the host side (R398). -/
def hostPieces (u : Run) : Nat → Nat → Nat → Nat → List (Nat × Nat)
  | 0, _, _, _ => []
  | f + 1, n, k, m =>
    if n = 0 then []
    else if u.desc.index && u.desc.tableSide == 1 then
      let e := u.table.getD k (0, 0)
      if u.table.length ≤ k then []
      else
        let c := min n (e.2 - m)
        (e.1 + m, c) :: hostPieces u f (n - c) (k + 1) 0
    else [(u.desc.hostAddr + u.moved, n)]

/-- The host pieces of a run's burst. -/
def Run.pieces (u : Run) (n : Nat) : List (Nat × Nat) := hostPieces u (u.table.length + 1) n u.elem u.elemMoved

/-- Bytes of a transfer brought in order by SWAP (R399). -/
def swapGroups (f : List Byte → List Byte) (n : Nat) : Nat → List Byte → List Byte
  | 0, bs => bs
  | k + 1, bs => if bs.length < n then bs else f (bs.take n) ++ swapGroups f n k (bs.drop n)

/-- SWAP on data bytes (R399). -/
def swapData (swap : Nat) (bs : List Byte) : List Byte :=
  match swap with
  | 1 => swapGroups List.reverse 2 bs.length bs
  | 2 => swapGroups (fun w => w.drop 2 ++ w.take 2) 4 bs.length bs
  | 3 => swapGroups List.reverse 4 bs.length bs
  | _ => bs

/-- Bytes of a group of a SWAP (R399). -/
def swapGroup (swap : Nat) : Nat := if swap = 0 then 1 else if swap = 1 then 2 else 4

/-- A read burst of a transfer is requested (R397). -/
def requestRead (q a n : Nat) (s : State) : State :=
  openSpan 1 a n none (.dma q) (mRun q (fun u => { u with phase := .bursting, burst := n, bytes := none }) s)

/-- Bytes of a burst whose host reads, each at most 4 KiB, keep within the 768 that may be outstanding: whole 64-byte units
where the burst must be shortened (R380, R397, R398). -/
def askable (u : Run) (n : Nat) : Nat :=
  let ps := (u.pieces n).flatMap (fun p => cutBlocks (p.2 / 4096 + 2) p.1 p.2)
  if ps.length ≤ 768 then n else (ps.take 768).foldl (fun k p => k + p.2) 0 / 64 * 64

/-- The next burst of an XFER descriptor begins, or the descriptor ends (R395, R397, R401). -/
def nextBurst (q : Nat) (s : State) : State :=
  match (ring s q).run with
  | none => s
  | some u =>
    let left := u.total - u.moved
    let good := if u.desc.index then goodBytes s q u (u.table.length + 1) u.elem - u.elemMoved else left
    if u.phase ≠ .moving ∨ (ring s q).halt ≠ 0 then s
    else if (if u.desc.index then decide (u.table.length ≤ u.elem) else decide (left = 0)) then finishRun q 0 false false s
    else if good = 0 then finishRun q 2 false false s
    else if u.desc.op = 3 then match writerSleeve s q with
      | some i =>
        let n := askable u (min (min left good) (4096 - destAddr s i % 4096))
        askAll q .data (u.pieces n)
          (mRun q (fun u => { u with phase := .bursting, burst := n, bytes := none }) s)
      | none => s
    else
      let a := u.source_addr
      let el := if u.storeTable then (u.table.getD u.elem (0, 0)).2 - u.elemMoved else left
      let n := min (min left good) (min el (4096 - a % 4096))
      if u.desc.op = 4 then match writerSleeve s q with
        | some i => requestRead q a (min n (4096 - destAddr s i % 4096)) s
        | none => s
      else if u.desc.index && !u.storeTable && !readOk s q a n then finishRun q 2 false false s
      else requestRead q a n s

/-- Whether the source of a linear store-to-store transfer overlaps the bytes it will write (R400). -/
def overlaps (s : State) (q : Nat) (u : Run) : Bool := match writerSleeve s q with
  | some i =>
    let off := (sleeve s i).wcount - (sleeve s i).passStart
    let lo := u.desc.storeAddr
    let base := (sleeveDecl s i).base
    let n := u.desc.length
    let first := min n (lenBytes s i - off)
    (decide (lo < base + off + first) && decide (base + off < lo + n)) ||
      (decide (first < n) && decide (lo < base + (n - first)) && decide (base < lo + n))
  | none => false

/-- A transfer whose length is known begins, or waits until every block its bytes begin fits, so that none of them drops or
stops (R396, R400). -/
def beginMove (q : Nat) (s : State) : State :=
  match (ring s q).run with
  | none => s
  | some u =>
    if u.desc.op = 3 ∨ u.desc.op = 4 then match writerSleeve s q with
      | some i =>
        if recordFits s i u.total then
          let src := if u.desc.op = 4 && !u.desc.index && overlaps s q u then
            some (getBytes s.store.mem u.desc.storeAddr u.desc.length) else none
          nextBurst q (mRun q (fun u => { u with phase := .moving, source := src }) s)
        else mRun q (fun u => { u with phase := .destWait }) s
      | none => s
    else nextBurst q (mRun q (fun u => { u with phase := .moving }) s)

/-- The reader of a STREAM ring: sleeve and place (R387). -/
def streamReader (s : State) (q : Nat) : Option (Nat × Nat) := match ringDecl s q with
  | some d => if d.kind == .stream then (readerPlace s d.sleeve 0x11 q).map (fun j => (d.sleeve, j)) else none
  | none => none

/-- An entry of kinds 4 to 8 (R391, R393). -/
def noticeEntry (kind epoch bytes residue wc : Nat) : Entry :=
  { kind := kind, status := 0, tag := 0, abortLate := false, ue := false, part := false, irq := true
    epoch := epoch, bytes := bytes, residue := residue, wc := wc }

/-- The entry of a marker (R391, R403). -/
def markerEntry (m : Marker) : Entry :=
  noticeEntry (if m.overflow then 5 else 4) (m.time / 2 ^ 64) (if m.overflow then 0 else m.blocks) (m.time % 2 ^ 64) m.position

/-- The entry of a notice (R391, R403). -/
def readerEntry : Notice → Entry
  | .lapped n c => noticeEntry 6 0 n 0 c
  | .resizeGap n c => noticeEntry 7 0 n 0 c

/-- A partly filled buffer completes before an entry of another kind (R403). -/
def closePartial (q : Nat) (s : State) : State := match (ring s q).run with
  | some u => if 0 < u.moved then finishRun q 0 false true s else s
  | none => s

/-- Whether a ring can go on: running, not halted, no entry waiting, no burst in flight. -/
def ringFree (s : State) (q : Nat) : Bool :=
  let r := ring s q
  r.running && r.halt == 0 && r.waiting.isEmpty && !r.disabling && match r.run with
  | some u => u.phase == .moving
  | none => true

/-- A STREAM ring takes the next marker or notice as an entry, or begins a burst into its buffer (R403, R404). -/
def streamPump (q : Nat) (s : State) : State :=
  if !ringFree s q then s
  else match streamReader s q with
  | none => s
  | some (i, j) =>
    match (reader s i j).notices with
    | x :: rest =>
      if (ring s q).full then s else
      let s := closePartial q s
      pushEntry q (readerEntry x) (mSleeve i (fun v => { v with readers := upd {} j (fun r => { r with notices := rest }) v.readers }) s)
    | [] => match markerDue s i j with
      | some m => if (ring s q).full then s else pushEntry q (markerEntry m) (takeMarker i j (closePartial q s))
      | none => match (ring s q).run with
        | some u =>
          let n := min (readable s i j) (u.desc.length - u.moved)
          let a := (sleeveDecl s i).base + byteOffset s i (reader s i j).count
          let n := min n (4096 - a % 4096)
          if n = 0 || (ring s q).full then s
          else
            let c := (reader s i j).count
            requestRead q a n (mRun q (fun u => { u with wc := if u.moved = 0 then c else u.wc }) s)
        | none => s

/-- Every STREAM ring takes up what its sleeve holds, in ascending order (R394, R403). -/
def pumpStreams (s : State) : State := (img s).rings.foldl (fun s d => streamPump d.ring s) s

/-- A fresh run of a descriptor. -/
def newRun (d : Desc) : Run :=
  { desc := d, phase := .moving, table := [], elem := 0, elemMoved := 0, moved := 0, burst := 0, bytes := none, wc := 0
    ue := false, aborting := false, source := none }

/-- DESCRIPTOR_FETCH: a posted descriptor arrives (R389, R390, R402). Under a flush it ends with ABORTED (R401). A fetch
that fails halts the ring, in a flush too: the descriptors still posted stand, for another flush to end (R402;
log 155). -/
def fetchDesc (q : Nat) (data : Option (List Byte)) (s : State) : State :=
  let r := ring s q
  if !answerable s q .desc then s
  else if !r.running || r.halt != 0 || r.head == r.tail || r.run.isSome then answered q s
  else
    let s := answered q s
    match data with
    | none =>
      mRing q (fun r => { r with halt := 1, flushTo := none }) (pulse0 18 3 (bump 18 0x20 s))
    | some bs =>
      let p := parseDesc bs
      let d := p.1
      let next := (r.head + 1) % r.size
      let flush := r.flushTo.isSome
      let s := mRing q (fun r => { r with
        head := next, flushTo := if r.flushTo == some next then none else r.flushTo }) s
      let s := mRing q (fun r => { r with run := some (newRun d) }) s
      if flush then
        let e : Entry := {
          kind := (match ringKind s q with
            | .xfer => 1
            | .stream => 2
            | .notice => 3)
          status := 1, tag := d.tag, abortLate := false, ue := false, part := false, irq := d.irq, epoch := 0, bytes := 0
          residue := if d.index then 0 else d.length, wc := 0 }
        pushEntry q e (mRing q (fun r => { r with run := none }) s)
      else if !p.2 || !descOk s q d then
        finishRun q 4 false false (mRun q (fun u => { u with
          desc := { d with index := false, length := if d.index then 0 else d.length } }) s)
      else if d.op = 0 then finishRun q 0 false false (mRun q (fun u => { u with desc := { d with index := false, length := 0 } }) s)
      else if d.op = 1 then (if ringKind s q == .stream then streamPump q s else s)
      else if d.index then
        askAll q .table [(if d.tableSide = 0 then d.storeAddr else d.hostAddr, 16 * d.count)]
          (mRun q (fun u => { u with phase := .needTable }) s)
      else beginMove q s

/-- The elements of an index table (R398); one whose last four bytes are not zero gets an address that breaks its limits,
while its LENGTH still counts. -/
def parseTable : Nat → List Byte → List (Nat × Nat)
  | 0, _ => []
  | k + 1, bs => (if zeroAt bs 12 4 then le bs 0 8 else le bs 0 8 ||| 1, le bs 8 4) :: parseTable k (bs.drop 16)

/-- Whether the contiguous store source of a scatter leaves what its ring may read (R395, R398). -/
def sourceBad (s : State) (q : Nat) (u : Run) : Bool :=
  u.desc.op == 2 && u.desc.tableSide == 1 && !readOk s q u.desc.storeAddr (max 64 (goodBytes s q u (u.table.length + 1) 0))

/-- TABLE_FETCH (R398, R402): a table whose transfer has been ended meanwhile is dropped. -/
def fetchTable (q : Nat) (data : Option (List Byte)) (s : State) : State :=
  if !answerable s q .table then s
  else
    let s := answered q s
    match (ring s q).run with
    | some u =>
      if u.phase ≠ .needTable then s
      else match data with
        | none => finishRun q 3 false false (pulse0 18 3 (bump 18 0x20 s))
        | some bs =>
          let u := { u with table := parseTable u.desc.count bs }
          let s := mRun q (fun _ => u) s
          if sourceBad s q u then finishRun q 4 false false s else beginMove q s
    | none => fetchNext q s

/-- A read of a ring is served in its slot: the bytes as they stand (R164, R174). A STREAM reader that has been moved since
the read was asked for gives none, so that its entry comes first (R403). -/
def serveDmaRead (q : Nat) (s : State) : List Byte × State :=
  match (ring s q).run with
  | none => ([], s)
  | some u =>
    match streamReader s q with
    | some (i, j) =>
      let still := (reader s i j).count == u.wc + u.moved && (reader s i j).notices.isEmpty
      let n := if still then min u.burst (readable s i j) else 0
      let bs := sleeveBytes s i (reader s i j).count n
      (bs, mRun q (fun u => { u with burst := n }) (advanceReader i j n s))
    | none => match u.source with
      | some src => (slice src u.moved u.burst, s)
      | none => (getBytes s.store.mem u.source_addr u.burst, s)

/-- A ring's store write is done when its slot ends, and its burst with it: nothing of it is in flight any more (R395,
R397). -/
def serveDmaWrite (q : Nat) (data : List Byte) (s : State) : State :=
  match (ring s q).run, writerSleeve s q with
  | some u, some i => bumpBy 19 (0x40 * q) u.burst
      (mRun q (fun u => { (u.plus u.burst) with phase := .burstOver, burst := 0, bytes := none }) (appendBytes i (now s) data s))
  | _, _ => s

/-- Read data reaches a ring (R164, R402): toward the host the burst ends; toward the store the write is requested. -/
def dmaData (q : Nat) (bytes : List Byte) (ue : Bool) (s : State) : State :=
  match (ring s q).run with
  | none => s
  | some u =>
    if u.phase ≠ .bursting then s
    else
      let s := mRun q (fun u => { u with bytes := some bytes, ue := u.ue || ue }) s
      if u.desc.op = 4 then match writerSleeve s q with
        | some i => openRequest 1 (destAddr s i) u.burst (some (swapData u.desc.swap bytes)) (.dma q) s
        | none => s
      else mRun q (fun u => { u with phase := .burstOver }) s

/-- Host read data of an H2S burst arrives, or the read fails (R397, R402). -/
def hostReadData (q : Nat) (data : Option (List Byte)) (s : State) : State :=
  if !answerable s q .data then s
  else
    let s := answered q s
    match (ring s q).run with
    | none => s
    | some u => match data, writerSleeve s q with
      | none, _ => finishRun q 3 false false (pulse0 18 3 (bump 18 0x20 s))
      | some bs, some i =>
        let bs := (bs ++ List.replicate u.burst 0).take u.burst
        openRequest 1 (destAddr s i) u.burst (some (swapData u.desc.swap bs)) (.dma q) s
      | _, none => s

/-- A completion timeout: whichever read of the ring was in flight fails (R384, R402). -/
def readTimeout (q : Nat) (s : State) : State :=
  let u := uncorrectable 14
  match (ring s q).ask with
  | some .desc => fetchDesc q none (if answerable s q .desc then u s else s)
  | some .table => fetchTable q none (if answerable s q .table then u s else s)
  | some .data => hostReadData q none (if answerable s q .data then u s else s)
  | none => s

/-- The data of a STREAM burst after the bytes that wait for their group: what can be swapped and written now, and what waits
for the rest of its group; groups are aligned to the buffer's first byte (R399). -/
def swapStream (swap : Nat) (whole : Bool) (bs : List Byte) : List Byte × List Byte :=
  let n := if whole then bs.length else bs.length / swapGroup swap * swapGroup swap
  (swapData swap (bs.take n), bs.drop n)

/-- The host side of a burst read from the store: its bytes, swapped, are written to host memory (R397, R399). -/
def burstWrites (q : Nat) (u : Run) (s : State) : State :=
  let bs := u.bytes.getD []
  if u.desc.op = 1 then
    let r := swapStream (ring s q).swap (u.moved + u.burst == u.desc.length) (u.rest ++ bs)
    mRun q (fun u => { u with rest := r.2 })
      (writePieces [(u.desc.hostAddr + u.moved - u.rest.length, r.1.length)] r.1 s)
  else if u.desc.op = 2 then writePieces (u.pieces u.burst) (swapData u.desc.swap bs) s
  else s

/-- BURST_DONE (R397, R401): the descriptor or buffer moves on, and its entry follows at the end. -/
def burstDone (q : Nat) (s : State) : State :=
  match (ring s q).run with
  | none => s
  | some u =>
    if u.phase ≠ .burstOver then s
    else
      let stream := ringKind s q == .stream
      let s := burstWrites q u s
      let s := bumpBy 19 (0x40 * q) u.burst s
      let s := mRun q (fun u => { (u.plus u.burst) with phase := .moving, burst := 0, bytes := none }) s
      if u.aborting then finishRun q 1 false false s
      else if stream then
        if u.moved + u.burst = u.desc.length then finishRun q 0 false false s else streamPump q s
      else nextBurst q s

/-- The newest waiting entry, of a descriptor or buffer that completed, told that an abort came too late (R401). -/
def lateEntry : List Entry → List Entry
  | [] => []
  | [e] => if e.kind ≤ 3 ∧ e.status = 0 then [{ e with abortLate := true, irq := true }] else [e]
  | e :: r => e :: lateEntry r

/-- ABORT (R401): a burst toward the store is done when its slot has ended, and with the last one done completion wins. -/
def abortRun (q : Nat) (s : State) : State :=
  match (ring s q).run with
  | some u =>
    if u.phase = .burstOver ∧ 3 ≤ u.desc.op then
      if u.moved = u.total then finishRun q 0 true false s else finishRun q 1 false false s
    else if u.phase = .bursting ∨ u.phase = .burstOver then mRun q (fun u => { u with aborting := true }) s
    else finishRun q 1 false false s
  | none => mRing q (fun r => { r with waiting := lateEntry r.waiting }) s

/-- FLUSH (R401). -/
def flushRing (q : Nat) (s : State) : State :=
  let r := ring s q
  if r.running && r.head != r.tail then fetchNext q (mRing q (fun r => { r with flushTo := some r.tail }) s) else s

/-- A write of 0 to ENABLE (R401). -/
def disableRing (q : Nat) (s : State) : State :=
  let s := mRing q (fun r => { r with enable := false }) s
  if (ring s q).running then
    settleDisable q (flushRing q (abortRun q (mRing q (fun r => { r with disabling := true, halt := 0 }) s)))
  else s

/-- JOIN 1 at enable: the ring moves to the write count and writes a SKIPPED entry (R403). -/
def joinStream (q : Nat) (s : State) : State := match streamReader s q with
  | none => s
  | some (i, j) =>
    let v := sleeve s i
    let c := (reader s i j).count
    let s := mSleeve i (fun v => { v with readers := upd {} j (fun r => { r with
      count := v.wcount, notices := [], passed := v.markersGone + v.markers.length }) v.readers }) s
    pushEntry q (noticeEntry 8 0 (v.wcount - c) 0 v.wcount) (tidyMarkers i s)

/-- A ring enabled with its settings (R389, R403); its STREAM sleeve resumes (R175). -/
def enableRing (q : Nat) (s : State) : State :=
  let s := mRing q (fun r => { r with
    enable := true, running := true, head := 0, tail := 0, chead := 0, ctail := 0, phase := true, halt := 0, waiting := [] }) s
  match streamReader s q with
  | some (i, _) =>
    let s := if (sleeveDecl s i).kind == .stream then resumeWriter i s else s
    if (ring s q).join then joinStream q s else s
  | none => s

/-- A write of DMA_Q_CTRL (R389, R401). A disable that a failed fetch has halted goes on at the next write of 0 to ENABLE
(log 155). -/
def writeCtrl (q : Nat) (w : Word) (s : State) : State :=
  let v := w.toNat
  let r := ring s q
  let on := tbit v 0
  let s := if r.enable then mRing q (fun r => { r with dataIrq := tbit v 2, vector := fld v 10 11 }) s
    else mRing q (fun r => { r with
      join := tbit v 1, dataIrq := tbit v 2, swap := fld v 3 2, sizeLog2 := fld v 5 5, vector := fld v 10 11 }) s
  let n := (ring s q).sizeLog2
  if !on && (r.enable || (r.disabling && r.halt != 0)) then disableRing q s
  else if !r.enable && on && !r.running && (ringDecl s q).isSome && s.store.imageTable && decide (4 ≤ n) && decide (n ≤ 16) then
    enableRing q s
  else s

/-- A write of DMA_Q_TAIL (R389). -/
def writeTail (q : Nat) (w : Word) (s : State) : State :=
  let v := fld w.toNat 0 16
  let r := ring s q
  if r.running && decide (r.size ≤ v) then mRing q (fun r => { r with halt := 2 }) s
  else fetchNext q (mRing q (fun r => { r with tail := v }) s)

/-- A write of DMA_Q_CHEAD (R389). -/
def writeChead (q : Nat) (w : Word) (s : State) : State :=
  let v := fld w.toNat 0 16
  let r := ring s q
  if r.running && decide (r.size ≤ v) then mRing q (fun r => { r with halt := 2 }) s
  else fetchNext q (settleDisable q (drainEntries q r.waiting.length (mRing q (fun r => { r with chead := v }) s)))

/-- STREAM_FLUSH_TIMEOUT (R403). -/
def streamFlush (q : Nat) (s : State) : State :=
  match ringDecl s q with
  | some d => if d.flushUs ≠ 0 ∧ ringFree s q then closePartial q s else s
  | none => s

/-- The group whose waiting notice for a ring was issued first (R405). -/
def firstNotice (s : State) (q : Nat) : Option (Nat × Nat × List Byte) :=
  s.trig.groups.foldl (fun m p => match p.2.notices.find? (fun n => n.1 == q) with
    | none => m
    | some n => match m with
      | some (_, c, _) => if n.2.1 < c then some (p.1, n.2) else m
      | none => some (p.1, n.2)) none

/-- NOTICE_WRITE (R405): the oldest notice of a ring goes into its buffer; a short buffer is refused. -/
def noticeWrite (q : Nat) (s : State) : State :=
  match firstNotice s q, (ring s q).run with
  | some (g, c, bs), some u =>
    if !ringFree s q || (ring s q).full then s
    else if u.desc.length < 256 then finishRun q 4 false false s
    else
      let s := leaveHoldoff g (mGroup g (fun x => { x with notices := x.notices.erase (q, c, bs) }) s)
      let s := bumpBy 19 (0x40 * q) 256 (emit (.hostData u.desc.hostAddr bs (relaxedOn s.link)) s)
      finishRun q 0 false false (mRun q (fun u => { u with moved := 256 }) s)
  | _, _ => s

/-- Before the rings stop, waiting notices go into the buffers that are posted (R76). -/
def lastNotices (s : State) : State :=
  let waiting := s.trig.groups.foldl (fun n p => n + p.2.notices.length) 0
  (img s).rings.foldl (fun s d => (List.range waiting).foldl (fun s _ => noticeWrite d.ring s) s) s

/-- Whether a ring can still take a waiting notice: it runs, its completion ring has room, and a buffer is posted or
fetched (R76, R405). -/
def noticeDue (s : State) (q : Nat) : Bool :=
  let r := ring s q
  (firstNotice s q).isSome && r.running && r.halt == 0 && !r.full && (r.run.isSome || r.head != r.tail)

/-- Whether some ring can still take a waiting notice. -/
def noticesDue (s : State) : Bool := (img s).rings.any (fun d => noticeDue s d.ring)

/-- Whether a purpose belongs to the rings. -/
def Purpose.isDma : Purpose → Bool
  | .dma _ => true
  | _ => false

/-- Every ring becomes DISABLED at once, its registers at their reset values; reads in flight are discarded (R383). -/
def resetRings (s : State) : State :=
  { s with
    rings := [], link := { s.link with reads := 0, asks := [] }
    store := { s.store with
      queues := upd [] 1 (fun q => q.filter (fun t => !t.purpose.isDma)) s.store.queues
      flights := s.store.flights.filter (fun f => !f.txn.purpose.isDma) } }

/-- The rings at the stop of a function: transfers end, while NOTICE rings still take the notices of the captures that
the stop closes or cancels (R75, R76). -/
def stopRings (s : State) : State :=
  (img s).rings.foldl (fun s d =>
    if (ring s d.ring).running && d.kind != .notice then disableRing d.ring s else s) s

end Sys2Proof.Machine
end

