-- ==== Sys2Proof/Machine/HostLink.lean ====
section
/-! DEFINITION. The host link: readiness, configuration requests, MSI-X, and the host-link events (03 R59 to R61,
16 R380 to R385). -/

namespace Sys2Proof.Machine

/-- Whether the module's link can be up: powered, step 3 of R57 passed, no test of the board (R59, R470). -/
def linkPowered (s : State) : Bool := s.pwr.on && !s.pwr.testEn && decide (1 ≤ s.pwr.groups)

/-- The vectors whose held messages can now leave (R94, R385). -/
def releasable (l : HostLink) : List Nat :=
  if tbit (msixControl l) 15 && !tbit (msixControl l) 14 && l.up && !l.d3hot then
    (l.pending.filter (fun p => !(look {} l.msix p.1).masked)).map Prod.fst
  else []

/-- Held messages are sent on unmasking (R94). -/
def releasePending (s : State) : State :=
  (releasable s.link).foldl (fun s v =>
    sendVector v (mLink (fun l => { l with pending := put false v false l.pending }) s)) s

/-- A host-link event: every ring becomes DISABLED at once (R61, R383). -/
def linkEvent (s : State) : State := resetRings (bump 18 0 (pulse0 18 0 s))

/-- The function enters D3hot (R382, R383). -/
def enterD3 (s : State) : State :=
  if s.link.d3hot || !s.link.ready then s else linkEvent (mLink (fun l => { l with d3hot := true }) s)

/-- A configuration write: status bits of errors clear where 1 is written (R380, R384). -/
def cfgWrite (d : Nat) (w : Word) (s : State) : State :=
  match d with
  | 0x0 | 0x2 | 0x5 | 0x6 | 0x8 | 0x9 | 0xB | 0xC => s
  | 0x4 => mLink (fun l => { l with bar0 := fld w.toNat 24 8 }) s
  | 0x7 => mLink (fun l => { l with bar2 := fld w.toNat 4 28 }) s
  | d =>
    if d = 1 then
      let m := cfgWritable s d
      mLink (fun l => { l with
        cfg := put 0 d ((w ^^^ cfgDefault d) &&& m) l.cfg, status := l.status &&& fld (~~~ w).toNat 16 16 }) s
    else if d = aerCap + 1 then mLink (fun l => { l with aerUnc := l.aerUnc &&& (~~~ w).toNat }) s
    else if d = aerCap + 4 then mLink (fun l => { l with aerCor := l.aerCor &&& (~~~ w).toNat }) s
    else
      let m := cfgWritable s d
      let s := mLink (fun l => { l with cfg := put 0 d ((w ^^^ cfgDefault d) &&& m) l.cfg }) s
      if d = Config.pcieCap + 2 then mLink (fun l => { l with devStatus := l.devStatus &&& fld (~~~ w).toNat 16 4 }) s
      else if d = Config.msixCap then releasePending s
      else if d = Config.pmCap + 1 then
        if fld w.toNat 0 2 = 3 then enterD3 s
        else if fld w.toNat 0 2 = 0 then releasePending (mLink (fun l => { l with d3hot := false }) s)
        else s
      else s

/-- A configuration request: Request Retry Status before readiness (R59), else an answer (R380). -/
def configRequest (write : Option Word) (d : Nat) (s : State) : State :=
  if !linkPowered s || !s.link.perst then s
  else if !s.link.ready then emit .cfgRetry s
  else match write with
    | none => emit (.word (cfgRead s d)) s
    | some w => emit .cfgDone (cfgWrite d w s)

/-- The link comes up and is ready (R59, R381), and held messages leave (R94; log 80). -/
def linkReady (speed width : Nat) (flit : Bool) (s : State) : State :=
  if linkPowered s && s.link.perst then
    releasePending (mLink (fun l => { l with speed := speed, width := width, flit := flit, up := true, ready := true }) s)
  else s

/-- The link as training leaves it behind. -/
def HostLink.down (l : HostLink) : HostLink :=
  { l with speed := 0, width := 0, flit := false, up := false, ready := false }

/-- The configuration space and the MSI-X table at their reset values (R383); the AER status is kept until PERST_N. -/
def HostLink.cleared (l : HostLink) : HostLink :=
  { l with bar0 := 0, bar2 := 0, cfg := [], msix := [], pending := [], d3hot := false, devStatus := 0, status := 0 }

/-- PERST_N is released (R59). -/
def perstReleased (s : State) : State := mLink (fun l => { l with perst := true }) s

/-- PERST_N is asserted (R383). -/
def perstAsserted (s : State) : State :=
  if !s.link.perst then s
  else
    let s := mLink (fun l => { l.down.cleared with perst := false, aerUnc := 0, aerCor := 0, aerFirst := 0, aerHeader := [] }) s
    if linkPowered s then linkEvent s else s

/-- A hot reset (R383): the link trains again. -/
def hotReset (s : State) : State := if s.link.ready then linkEvent (mLink (fun l => l.down.cleared) s) else s

/-- A function-level reset (R383): the link stays up. -/
def functionReset (s : State) : State := if s.link.ready then linkEvent (mLink HostLink.cleared s) else s

/-- The link goes down (R383). -/
def hostLinkLost (s : State) : State := if s.link.up then linkEvent (mLink HostLink.down s) else s

/-- A memory request outside BAR0 and BAR2 (R384). -/
def unsupported (s : State) : State := if s.link.ready then reportError 20 (emit .unsupported s) else s

/-- HOST_LINK_READY (R59). -/
def execHostLinkReady (speed width : Nat) (flit : Bool) (s : State) : Host.Outcome State Fault Refusal :=
  act (linkReady speed width flit) s

/-- CONFIG_REQUEST (R380). -/
def execConfigRequest (write : Option Word) (dword : Nat) (s : State) : Host.Outcome State Fault Refusal :=
  act (configRequest write dword) s

/-- PERST_RELEASE (R59). -/
def execPerstRelease (s : State) : Host.Outcome State Fault Refusal := act perstReleased s

/-- PERST_ASSERT (R383). -/
def execPerstAssert (s : State) : Host.Outcome State Fault Refusal := act perstAsserted s

/-- HOT_RESET (R383). -/
def execHotReset (s : State) : Host.Outcome State Fault Refusal := act hotReset s

/-- FUNCTION_LEVEL_RESET (R383). -/
def execFunctionLevelReset (s : State) : Host.Outcome State Fault Refusal := act functionReset s

/-- LINK_DOWN (R383). -/
def execLinkDown (s : State) : Host.Outcome State Fault Refusal := act hostLinkLost s

/-- D3HOT_ENTRY (R383). -/
def execD3hotEntry (s : State) : Host.Outcome State Fault Refusal := act enterD3 s

/-- UNSUPPORTED_REQUEST (R384). -/
def execUnsupportedRequest (_addr : Nat) (s : State) : Host.Outcome State Fault Refusal := act unsupported s

end Sys2Proof.Machine
end

