-- ==== Sys2Proof/Machine/Calibration.lean ====
section
/-! DEFINITION. Calibration, trims, generations and their records, the copies, and the mismatch tracker (17). -/

namespace Sys2Proof.Machine

/-- Index of the trim of channel `c`, range `r` and slice `k` (R407). -/
def trimIndex (c r k : Nat) : Nat := (3 * c + r) * 16 + k

/-- A trim in force, before the first application that of the factory block (R413). -/
def trimOf (s : State) (e : Nat) : Trim := (look none s.cal.trims e).getD (factoryTrim e)

/-- A trim of the anchor (R419). -/
def anchorOf (s : State) (e : Nat) : Trim := (look none s.cal.anchor e).getD (factoryTrim e)

/-- A code brought within `span` of the factory value and into its range. Second: whether that changed it (R412). -/
def limitCode (factory span lo hi v : Int) : Int × Bool :=
  let w := clampI lo hi (clampI (factory - span) (factory + span) v)
  (w, w != v)

/-- A trim under the limits of R412. -/
def limitTrim (e : Nat) (t : Trim) : Trim × Bool :=
  let f := factoryTrim e
  let a := limitCode f.offset 1024 (-2048) 2047 t.offset
  let b := limitCode f.gain 1024 (-2048) 2047 t.gain
  let c := limitCode f.skew 256 (-512) 511 t.skew
  ({ offset := a.1, gain := b.1, skew := c.1 }, a.2 || b.2 || c.2)

/-- An integer delay under the limits of R412. -/
def limitDelay (c : Nat) (d : Int) : Nat × Bool :=
  let p := limitCode (factoryDelay c) 16 0 63 d
  (p.1.toNat, p.2)

/-- Temperatures of the converter chiplets in 0.01 degrees, from their monitor inputs (R414, R455). -/
def chipTemps (s : State) : List Int :=
  (List.range 4).map (fun c => ((look (0, 0) s.mon.resB (13 + c)).1 * 100 + 32) / 64 - 27315)

/-- The ageing model of the generation in force (R413, R420). -/
def ageInForce (s : State) : Int × Int × Nat := s.cal.heldAge.getD (s.clk.a0, s.clk.a1, s.clk.t0)

/-- A new ageing model: used at once, or held while LOCKED (R115, R420). -/
def setAge (a : Int × Int × Nat) (s : State) : State :=
  if s.clk.lock == .locked then mCal (fun k => { k with heldAge := some a }) s
  else changeModel a.1 a.2.1 a.2.2 (mCal (fun k => { k with heldAge := none }) s)

/-- Whether the bytes from `off` belong to a residual field of channel `c` (R414). -/
def residOf (c off n : Nat) : Bool :=
  (decide (0xA00 + 288 * c ≤ off) && decide (off + n ≤ 0xA00 + 288 * (c + 1))) ||
  (decide (0xE80 + 336 * c ≤ off) && decide (off + n ≤ 0xE80 + 336 * (c + 1))) ||
  (decide (0x13C0 + 48 * c ≤ off) && decide (off + n ≤ 0x13C0 + 48 * (c + 1)))

/-- The last 8 bytes of every SUMMARY entry, zero (R414), in residual bytes. -/
def zeroSummary (b : List Byte) : List Byte :=
  (List.range 12).foldl (fun b i => overlay b (2496 + 16 * i + 8) (leBytes 8 0)) b

/-- Residual bytes 0xA00 to 0x147F of a record: new ones of a channel, the others as in the record before (R414). -/
def residBytes (s : State) (kind c : Nat) (new : List (Nat × List Byte)) : List Byte :=
  let old := if s.cal.record.isEmpty then leBytes 2688 0 else slice s.cal.record 0xA00 2688
  let new := new.filter (fun p => residOf c p.1 p.2.length)
  if kind = 1 then
    let b := overlay old (288 * c) (leBytes 288 0)
    let b := overlay b (1152 + 336 * c) (leBytes 336 0)
    let b := overlay b (2496 + 48 * c) (leBytes 48 0)
    zeroSummary (new.foldl (fun b p => overlay b (p.1 - 0xA00) p.2) b)
  else if kind = 2 then
    let b := overlay (old.take 1152 ++ leBytes 1536 0) (288 * c) (leBytes 288 0)
    new.foldl (fun b p => overlay b (p.1 - 0xA00) p.2) b
  else leBytes 2688 0

/-- Bytes 0x0000 to 0x1FDF of a calibration record: the state in force under its generation (R414). -/
def recordBody (s : State) (kind channels prev : Nat) (prevDigest : Digest) (flags time : Nat) (temps : List Int)
    (resid : List Byte) : List Byte :=
  leBytes 4 0x52435A53 ++ leBytes 2 1 ++ leBytes 1 kind ++ leBytes 1 channels ++ leBytes 4 s.cal.gen ++
  leBytes 4 prev ++ leBytes 4 s.cal.anchorGen ++ leBytes 4 flags ++ leBytes 8 (time % 2 ^ 64) ++
  leBytes 2 (time / 2 ^ 64) ++ leBytes 2 0 ++ leBytes 4 s.recorder.seconds ++ leBytes 4 s.recorder.cycles ++
  (List.range 4).flatMap (fun c => leBytes 2 (enc 16 (temps.getD c 0))) ++
  (List.range 4).flatMap (fun c => leBytes 1 (look 0 s.cal.delays c)) ++
  (List.range 4).flatMap (fun c => leBytes 1 (look 0 s.cal.anchorDelays c)) ++ ageBytes (ageInForce s) ++ leBytes 24 0 ++
  leBytes 32 trimDigest.toNat ++ leBytes 32 (img s).digest.toNat ++ leBytes 32 prevDigest.toNat ++ leBytes 64 0 ++
  setBytes (trimOf s) ++ setBytes (anchorOf s) ++ resid ++ leBytes 2912 0

/-- The record of the generation in force stands in CAL_RECORD with its digest (R414). -/
def holdRecord (body : List Byte) (s : State) : State :=
  let d := sha3 body
  mCal (fun k => { k with record := body ++ leBytes 32 d.toNat, digest := d }) s

/-- The recorder entry of the generation in force: its number, KIND, CHANNELS and the first 8 bytes of its record's digest
(R415). -/
def logGeneration (kind channels : Nat) (s : State) : State :=
  logEvent 0x101A 22
    [s.cal.gen, kind + 256 * channels, s.cal.digest.toNat % 2 ^ 32, s.cal.digest.toNat / 2 ^ 32 % 2 ^ 32] s

/-- A new generation, in force from sample `n` on, with its record and its recorder entry (R413, R415). -/
def issueGen (kind channels n : Nat) (limited track : Bool) (temps : List Int) (resid : List Byte) (s : State) : State :=
  let gen := (s.recorder.highestGen + 1) % 2 ^ 32
  let prev := s.cal.gen
  let prevDigest := s.cal.digest
  let s := mRec (fun r => { r with highestGen := gen }) s
  let s := mCal (fun k => { k with
    gen := gen, history := (n, gen) :: k.history
    anchorGen := if kind = 1 then gen else k.anchorGen
    anchor := if kind = 1 then k.trims else k.anchor
    anchorDelays := if kind = 1 then k.delays else k.anchorDelays }) s
  let flags := b2n limited + 2 * b2n track + 4 * b2n (refSettling s)
  logGeneration kind channels (holdRecord (recordBody s kind channels prev prevDigest flags n temps resid) s)

/-- New trims take effect at sample `n`, the first of a seam (R143, R410, R412, R419). -/
def applyUpdate (n : Nat) (s : State) (u : TrimUpdate) : State :=
  let resid := residBytes s u.kind u.channel u.resid
  let s := mCal (fun k => { k with
    trims := u.trims.foldl (fun m p => put none p.1 (some p.2) m) k.trims
    delays := match u.delay with
      | some d => put 0 u.channel d k.delays
      | none => k.delays
    lastApplied := put 0 u.channel (n + 1) k.lastApplied }) s
  let s := issueGen u.kind (2 ^ u.channel) n u.limited u.trackLimited u.temps resid s
  let s := if u.limited then pulse0 22 2 s else s
  let s := if u.kind = 2 then pulse0 22 3 (bump 22 (0x10 + 0x40 * u.channel) s) else s
  if u.trackLimited then pulse0 22 4 s else s

/-- The updates that wait for a seam take effect (R143). -/
def applyUpdates (n : Nat) (s : State) : State :=
  s.cal.updates.foldl (applyUpdate n) (mCal (fun k => { k with updates := [] }) s)

/-- The run in progress changed. -/
def mCalRun (f : CalRun → CalRun) (s : State) : State := mCal (fun k => { k with run := k.run.map f }) s

/-- A channel's turn begins (R410): the relay waits for the next seam; a correction due on the channel is not applied (R411). -/
def beginTurn (ch waiting : Nat) (s : State) : State :=
  let t := chipTemps s
  mCal (fun k => { k with
    updates := k.updates.filter (fun x => x.kind != 2 || x.channel != ch)
    run := some { channel := ch, step := .connect, range := 0, waiting := waiting, aborting := false, awaitSeam := true
                  measured := [], delay := 0, resid := [], temps := t } }) s

/-- The lowest channel of a mask. -/
def lowest (mask : Nat) : Nat := ((List.range 4).find? (tbit mask)).getD 0

/-- A calibration run of the channels of a mask begins (R410). -/
def startCalRun (mask : Nat) (s : State) : State := beginTurn (lowest mask) (mask - 2 ^ lowest mask) s

/-- Whether the lining relay of a channel must be driven back to INn. -/
def mustReturn (s : State) (ch : Nat) : Bool := match (chan s ch).liningTransit with
  | some t => t.target != 0
  | none => (chan s ch).lining != 0

/-- What a calibration does at a seam that begins at sample `n`: updates apply, and its relay begins a transit (R410). -/
def calSeam (n : Nat) (s : State) : State :=
  let s := applyUpdates n s
  match s.cal.run with
  | some u =>
    if !u.awaitSeam then s
    else
      let s := mCalRun (fun u => { u with awaitSeam := false }) s
      if u.step == .connect && !u.aborting then
        startLining u.channel 1 (mChan u.channel (fun h => { h with turnRange := some h.range }) s)
      else if mustReturn s u.channel then startLining u.channel 0 s
      else s
  | none => s

/-- The lining is connected: the lowest range is measured first (R410). -/
def calConnected (ch : Nat) (s : State) : State := match s.cal.run with
  | some u =>
    if u.channel = ch ∧ u.step = .connect ∧ u.aborting = false ∧ (chan s ch).lining = 1 ∧ (chan s ch).liningTransit = none then
      mChan ch (fun h => { h with range := 0 }) (mCalRun (fun u => { u with step := .dc, range := 0 }) s)
    else s
  | none => s

/-- CAL_MEASUREMENT_DONE: one range has been measured (R410). -/
def calMeasured (m : Measurement) (s : State) : State := match s.cal.run with
  | some u =>
    if u.step ≠ .dc ∨ u.aborting = true then s
    else
      let got := (List.range 16).foldl (fun t k => match m.trims[k]? with
        | some v => put {} (trimIndex u.channel u.range k) { offset := v.1, gain := v.2.1, skew := v.2.2 } t
        | none => put {} (trimIndex u.channel u.range k) (trimOf s (trimIndex u.channel u.range k)) t) u.measured
      let last := decide (u.range = 2)
      let s := mCalRun (fun u => { u with
        measured := got, resid := u.resid ++ m.resid, delay := if last then m.delay else u.delay
        step := if last then .compute else .dc, range := if last then u.range else u.range + 1 }) s
      if last then s else mChan u.channel (fun h => { h with range := u.range + 1 }) s
  | none => s

/-- CAL_COMPUTE_DONE: the new trims of all three ranges, limited, wait for the next seam (R410, R412). -/
def calComputed (resid : List (Nat × List Byte)) (s : State) : State := match s.cal.run with
  | some u =>
    if u.step ≠ .compute ∨ u.aborting = true then s
    else
      let es := (List.range 48).map (fun k => 48 * u.channel + k)
      let ts := es.map (fun e => (e, limitTrim e (look {} u.measured e)))
      let d := limitDelay u.channel u.delay
      let x : TrimUpdate := {
        kind := 1, channel := u.channel, trims := ts.map (fun p => (p.1, p.2.1)), delay := some d.1
        limited := ts.any (fun p => p.2.2) || d.2, trackLimited := false, resid := u.resid ++ resid, temps := u.temps }
      mCal (fun k => { k with updates := k.updates ++ [x] }) (mCalRun (fun u => { u with step := .ret, awaitSeam := true }) s)
  | none => s

/-- A turn stops (R411): no trim changes, the relay returns at the next seam, and the abort is recorded. With `all`,
turns not begun are dropped. -/
def abortTurn (all : Bool) (s : State) : State := match s.cal.run with
  | none => s
  | some u =>
    let s := mCalRun (fun u => { u with waiting := if all then 0 else u.waiting }) s
    if u.aborting then s
    else
      let back := mustReturn s u.channel
      let s := mCalRun (fun u => { u with aborting := true, step := .ret, awaitSeam := back }) s
      let s := mCal (fun k => { k with updates := k.updates.filter (fun x => x.kind != 1) }) s
      logEvent 0x201B 22 [u.channel] (pulse0 22 1 (bump 22 0x110 s))

/-- An interval of the tracker begins on a channel: its temperatures are those of its record (R414, R417). -/
def trackFrom (ch : Nat) (s : State) : State :=
  let t := chipTemps s
  mChan ch (fun h => { h with flagged := 0 }) (mCal (fun k => { k with trackTemps := put [] ch t k.trackTemps }) s)

/-- Whether at least 90 % of the 2^35 samples of a channel's interval carry neither OVR nor ADJ (R417). -/
def usable (s : State) (ch : Nat) : Bool := decide (10 * (chan s ch).flagged ≤ 2 ^ 35)

/-- CAL_TURN_END: with the relay at rest the turn ends; the next one begins, or the run ends (R410). -/
def calTurnEnd (s : State) : State := match s.cal.run with
  | none => s
  | some u =>
    if u.step ≠ .ret ∨ u.awaitSeam = true ∨ (chan s u.channel).liningTransit.isSome then s
    else
      let s := trackFrom u.channel (if u.aborting then s else bump 22 0x100 s)
      if u.waiting ≠ 0 then startCalRun u.waiting s
      else
        let s := mCal (fun k => { k with run := none }) s
        if u.aborting then s else pulse0 22 0 s

/-- An estimate in 1/16 code rounded to a code, halves away from zero (R419). -/
def roundCode (v : Int) : Int := if 0 ≤ v then (v + 8) / 16 else -((8 - v) / 16)

/-- A number divided and rounded, halves away from zero. -/
def roundDiv (v d : Int) : Int := if 0 ≤ v then (2 * v + d) / (2 * d) else -((d - 2 * v) / (2 * d))

/-- The drifts of a slice: estimate minus the trim in force, in 1/16 code (R417). -/
def driftOf (t : Trim) (ofs : Int) (x : Estimate) (ofsValid gainValid : Bool) : Drift :=
  { ofs := (ofs - 16 * t.offset, ofsValid), gain := (x.gain - 16 * t.gain, gainValid)
    skew := (x.skew - 16 * t.skew, gainValid) }

/-- One trim value of a correction: the rounded estimate within 64 codes of the anchor (R419). Second: a clamp. -/
def trackCode (valid : Bool) (cur anchor est : Int) : Int × Bool :=
  if valid then
    let v := clampI (anchor - 64) (anchor + 64) (roundCode est)
    (v, v != roundCode est)
  else (cur, false)

/-- What a correction makes of a slice's trim. Second and third: clamped to the anchor, clamped under R412. -/
def trackTrim (s : State) (e : Nat) (ofs : Int) (x : Estimate) (ofsValid gainValid : Bool) : Trim × Bool × Bool :=
  let t := trimOf s e
  let a := anchorOf s e
  let o := trackCode ofsValid t.offset a.offset ofs
  let g := trackCode gainValid t.gain a.gain x.gain
  let k := trackCode gainValid t.skew a.skew x.skew
  let l := limitTrim e { offset := o.1, gain := g.1, skew := k.1 }
  (l.1, o.2 || g.2 || k.2, l.2)

/-- Whether a valid estimate rounds to a code other than the trim in force (R419). -/
def trackDue (t : Trim) (ofs : Int) (x : Estimate) (ofsValid gainValid : Bool) : Bool :=
  (ofsValid && roundCode ofs != t.offset) || (gainValid && (roundCode x.gain != t.gain || roundCode x.skew != t.skew))

/-- Residual of a slice in its record's units: 1/256 code, 1e-6 and fs (R141, R414). -/
def trackResid (t : Trim) (ofs : Int) (x : Estimate) (ofsValid gainValid : Bool) : List Byte :=
  let put16 := fun (ok : Bool) (v : Int) => leBytes 2 (enc 16 (if ok then clampI (-32768) 32767 v else 0))
  put16 ofsValid (roundDiv (ofs - 16 * t.offset) 2) ++
  put16 gainValid (roundDiv ((x.gain - 16 * t.gain) * 100000) 65536) ++
  put16 gainValid (roundDiv ((x.skew - 16 * t.skew) * 25) 16)

/-- TRACKER_INTERVAL_END (R417, R419): the offset estimates are valid when enough samples were usable, those of gain and
skew when the interval's mean power sufficed too. -/
def trackerEnd (ch : Nat) (power : Bool) (ofs : List Int) (est : List Estimate) (s : State) : State :=
  let ofsValid := usable s ch
  let gainValid := ofsValid && power
  let turn := match s.cal.run with
    | some u => u.channel == ch
    | none => false
  if !functionLive s || calActive s ch || turn then s
  else
    let r := (chan s ch).range
    let es := (List.range 16).map (fun k => (trimIndex ch r k, ofs.getD k 0, est.getD k {}))
    let t := look [] s.cal.trackTemps ch
    let s := trackFrom ch (bump 22 (0x40 * ch) s)
    let s := mCal (fun k => { k with
      drifts := (List.range 16).foldl (fun m j =>
        put {} (16 * ch + j) (driftOf (trimOf s (trimIndex ch r j)) (ofs.getD j 0) (est.getD j {}) ofsValid gainValid) m) k.drifts }) s
    let late := look 0 s.cal.lastApplied ch = 0 ∨ look 0 s.cal.lastApplied ch + 204800000000 ≤ now s + 1
    if s.cal.policy = 1 ∧ late ∧ es.any (fun p => trackDue (trimOf s p.1) p.2.1 p.2.2 ofsValid gainValid) ∧
        s.cal.updates.all (fun u => u.channel != ch) then
      let ts := es.map (fun p => (p.1, trackTrim s p.1 p.2.1 p.2.2 ofsValid gainValid))
      let x : TrimUpdate := {
        kind := 2, channel := ch, trims := ts.map (fun p => (p.1, p.2.1)), delay := none
        limited := ts.any (fun p => p.2.2.2), trackLimited := ts.any (fun p => p.2.2.1)
        resid := es.map (fun p => (0xA00 + 6 * p.1,
          trackResid (trackTrim s p.1 p.2.1 p.2.2 ofsValid gainValid).1 p.2.1 p.2.2 ofsValid gainValid))
        temps := t }
      mCal (fun k => { k with updates := k.updates ++ [x] }) s
    else s

/-- An AGEING command issues a generation with the new model (R420). -/
def ageingRun (a : Int × Int × Nat) (s : State) : State :=
  let s := setAge a s
  issueGen 3 0 (now s) false false (chipTemps s) (residBytes s 3 0 []) s

/-- A trim read from a set of bytes (R407). -/
def trimAt (bs : List Byte) (off e : Nat) : Trim :=
  { offset := sgn 16 (le bs (off + 6 * e) 2), gain := sgn 16 (le bs (off + 6 * e + 2) 2)
    skew := sgn 16 (le bs (off + 6 * e + 4) 2) }

/-- Whether a copy verifies (R416). -/
def copyVerifies (bs : List Byte) : Bool :=
  decide (8192 ≤ bs.length) && le bs 0 4 == 0x52435A53 && le bs 4 2 == 1 &&
  le bs 0x1FE0 32 == (sha3 (bs.take 0x1FE0)).toNat && le bs 0x60 32 == trimDigest.toNat &&
  (List.range 192).all (fun e => !(limitTrim e (trimAt bs 0x100 e)).2 && !(limitTrim e (trimAt bs 0x580 e)).2) &&
  (List.range 4).all (fun c => !(limitDelay c (le bs (0x34 + c) 1)).2)

/-- A trim set read whole. -/
def readSet (bs : List Byte) (off : Nat) : Sparse (Option Trim) :=
  (List.range 192).foldl (fun m e => put none e (some (trimAt bs off e)) m) []

/-- Four delay bytes read. -/
def readDelays (bs : List Byte) (off : Nat) : Sparse Nat :=
  (List.range 4).foldl (fun m c => put 0 c (le bs (off + c) 1) m) []

/-- The factory delays. -/
def factoryDelays : Sparse Nat := (List.range 4).foldl (fun m c => put 0 c (factoryDelay c) m) []

/-- The ageing model a copy carries. -/
def copyAge (bs : List Byte) : Int × Int × Nat := (sgn 32 (le bs 0x3C 4), sgn 32 (le bs 0x40 4), le bs 0x44 4)

/-- The copy a function start uses: 0, 1, or 2 for none; the verified one of the higher generation, and of two that
bear one generation copy 0 (R66; DESIGN CHOICE, log 137). -/
def chooseCopy (ok0 ok1 : Bool) (gen0 gen1 : Nat) : Nat :=
  if ok0 && ok1 then (if gen0 < gen1 then 1 else 0) else if ok0 then 0 else if ok1 then 1 else 2

/-- CAL_COPY_SELECT: the trims, delays, anchor and ageing model of a function start (R66, R115, R413, R419). -/
def calStart (copies : List (Option (List Byte))) (s : State) : State :=
  let c := fun k => (copies.getD k none).getD []
  let ok0 := copyVerifies (c 0)
  let ok1 := copyVerifies (c 1)
  let use := chooseCopy ok0 ok1 (le (c 0) 8 4) (le (c 1) 8 4)
  let bs := c use
  let s := mCal (fun k => { k with
    applied := true, valid0 := ok0, valid1 := ok1, inUse := use, run := none, updates := [], lastApplied := []
    drifts := [], policy := (img s).policy.trim }) s
  let s := (List.range 4).foldl (fun t ch => trackFrom ch t) s
  if use = 2 then
    let s := mCal (fun k => { k with
      trims := [], delays := factoryDelays, anchor := [], anchorDelays := factoryDelays, gen := 0, anchorGen := 0
      history := [(0, 0)] }) s
    let s := if ageInForce s = Config.factoryAge then s else setAge Config.factoryAge s
    let s := holdRecord (recordBody s 0 0 0 0 (4 * b2n (refSettling s)) (now s) (chipTemps s) (residBytes s 0 0 [])) s
    logGeneration 0 0 (logEvent 0x2010 22 [] s)
  else
    let s := mCal (fun k => { k with
      trims := readSet bs 0x100, delays := readDelays bs 0x34, anchor := readSet bs 0x580
      anchorDelays := readDelays bs 0x38, gen := le bs 8 4, anchorGen := le bs 0x10 4, history := [(0, le bs 8 4)]
      record := bs.take 8192, digest := BitVec.ofNat 256 (le bs 0x1FE0 32) }) s
    if ageInForce s = copyAge bs then s else setAge (copyAge bs) s

/-- A function's stop: the calibration that ran has been aborted, and its relay returns (R77, R137). -/
def calStop (s : State) : State :=
  let s := match s.cal.run with
    | some u => if mustReturn s u.channel then startLining u.channel 0 s else s
    | none => s
  mCal (fun k => { k with run := none, updates := [] }) s

/-- The sense of a relay shows the commanded position (R136, R137, R410). -/
def relaySensed (ch relay : Nat) (s : State) : State := calConnected ch (relayReached ch relay s)

/-- RELAY_FAULT: on the lining relay of the turn's channel the turn aborts (R138, R411). -/
def relayFaulted (ch relay sensed : Nat) (s : State) : State :=
  let turn := match s.cal.run with
    | some u => u.channel == ch
    | none => false
  let hit := decide (relay = 0) && (chan s ch).liningTransit.isSome && turn
  let s := faultRelay ch relay sensed s
  if hit then abortTurn false s else s

/-- RELAY_SENSE_REACHED (R136). -/
def execRelaySenseReached (ch relay : Nat) (s : State) : Host.Outcome State Fault Refusal := act (relaySensed ch relay) s

/-- RELAY_RETRY (R138). -/
def execRelayRetry (ch relay : Nat) (s : State) : Host.Outcome State Fault Refusal := act (retryRelay ch relay) s

/-- RELAY_FAULT (R138). -/
def execRelayFault (ch relay sensed : Nat) (s : State) : Host.Outcome State Fault Refusal :=
  act (relayFaulted ch relay sensed) s

/-- CAL_MEASUREMENT_DONE (R410). -/
def execCalMeasurementDone (m : Measurement) (s : State) : Host.Outcome State Fault Refusal := act (calMeasured m) s

/-- CAL_COMPUTE_DONE (R410). -/
def execCalComputeDone (resid : List (Nat × List Byte)) (s : State) : Host.Outcome State Fault Refusal :=
  act (calComputed resid) s

/-- CAL_TURN_END (R410). -/
def execCalTurnEnd (s : State) : Host.Outcome State Fault Refusal := act calTurnEnd s

/-- TRACKER_INTERVAL_END (R417). -/
def execTrackerIntervalEnd (ch : Nat) (power : Bool) (ofs : List Int) (est : List Estimate) (s : State) :
    Host.Outcome State Fault Refusal :=
  act (trackerEnd ch power ofs est) s

end Sys2Proof.Machine
end

