-- ==== Sys2Proof/Machine/Flags.lean ====
section
/-! DEFINITION. The flags of an engine (R223) and the arithmetic that sets them: rounding, saturation, wrapping. -/

namespace Sys2Proof.Machine

/-- EF bit 0, SAT. -/
def flagSat : Nat := 1
/-- EF bit 1, AOV. -/
def flagAov : Nat := 2
/-- EF bit 2, ILL. -/
def flagIll : Nat := 4
/-- EF bit 3, FDOM. -/
def flagFdom : Nat := 8

/-- RND(x, s): half a unit added, then an arithmetic right shift; a shift by 0 changes nothing (R233). -/
def rnd (x : Int) (s : Nat) : Int := if s = 0 then x else (x + 2 ^ (s - 1)) / 2 ^ s

/-- SATC of a component (R233). -/
def satc (x : Int) : Int := clampI (-8388608) 8388607 x

/-- Whether SATC changes a component. -/
def satChanges (x : Int) : Bool := satc x != x

/-- Component `i` of a vector value, lane i / 2, real for even i (R231). -/
def vcomp (v : BitVec 192) (i : Nat) : Int := sgn 24 (v.toNat >>> (24 * i))

/-- The vector value with the given eight components. -/
def vmake (f : Nat → Int) : BitVec 192 :=
  BitVec.ofNat 192 ((List.range 8).foldl (fun n i => n + enc 24 (f i) * 2 ^ (24 * i)) 0)

/-- The vector of saturated components and the flags (R233). -/
def vsat (f : Nat → Int) : BitVec 192 × Nat :=
  (vmake (fun i => satc (f i)), if (List.range 8).any (fun i => satChanges (f i)) then flagSat else 0)

/-- The redundant-sign count of a component, 0 to 23 (R238). -/
def signCount (x : Int) : Nat :=
  let m := if x < 0 then (-x - 1).toNat else x.toNat
  if m = 0 then 23 else 22 - m.log2

/-- The least redundant-sign count of a vector (R238). -/
def vecCount (v : BitVec 192) : Nat := (List.range 8).foldl (fun n i => min n (signCount (vcomp v i))) 23

end Sys2Proof.Machine
end

