-- ==== Sys2Proof/Machine/Contexts.lean ====
section
/-! DEFINITION. The narrowband contexts (12): input rows, the chain, resets, fades, detectors, events, output records and
fall-back. -/

namespace Sys2Proof.Machine

/-- A context's declaration. -/
def ctxDecl (s : State) (c : Nat) : Option ContextDecl := (img s).contexts.find? (fun d => d.index == c)

/-- A context at work. -/
def ctxOf (s : State) (c : Nat) : Context := look {} s.ctxs c

/-- The channeliser stream that feeds a context, none for a SLEEVE source (R282). -/
def ctxChanneliser (s : State) (d : ContextDecl) : Option Nat :=
  if d.fromSleeve then none else channeliserOf s d.src

/-- The time of input row `n` in fine ticks (R260, R285). -/
def rowFine (s : State) (d : ContextDecl) (n : Nat) : Nat :=
  match ctxChanneliser s d with
  | some k =>
    let f := frameDecl s k
    256 * timeAt s f.src (f.first + n * f.hop) + f.gdFine
  | none => (256 * ((s.eng.t0 : Int) + d.origin + n * d.inputDecim) + d.originFine).toNat

/-- π × 2^100. -/
def piFixed : Nat := 3982441812995697363688351113952

/-- Terms of a sine or cosine series at 2^100, each from the one before; `x` is the angle, `n` the next factor. -/
def series (x2 : Nat) : Nat → Nat → Nat → Int
  | 0, _, _ => 0
  | k + 1, t, n => (t : Int) - series x2 k (t * x2 / 2 ^ 100 / (n * (n + 1))) (n + 2)

/-- A value at 2^100 rounded to Q1.23, at most 2^23 − 1 (R287). -/
def q23 (v : Int) : Int := min 8388607 ((2 * v * 2 ^ 23 + 2 ^ 100) / 2 ^ 101)

/-- The rounded cosine and sine of 2π × a / 2^20 (R287). -/
def cosSin (a : Nat) : Int × Int :=
  let x := 2 * piFixed * (a % 2 ^ 18) / 2 ^ 20
  let x2 := x * x / 2 ^ 100
  let c := series x2 24 (2 ^ 100) 1
  let s := series x2 24 x 2
  match a / 2 ^ 18 % 4 with
  | 0 => (q23 c, q23 s)
  | 1 => (q23 (-s), q23 c)
  | 2 => (q23 (-c), q23 (-s))
  | _ => (q23 s, q23 (-c))

/-- The mixer (R287). -/
def mix (phase : Nat) (x : Cx) : Cx :=
  let k := cosSin (phase / 2 ^ 28 % 2 ^ 20)
  (rnd (x.1 * k.1 + x.2 * k.2) 23, rnd (x.2 * k.1 - x.1 * k.2) 23)

/-- K_i of a stage of length `l` (R288). -/
def stageGain (l : Nat) : Nat := (2 * 2 ^ (23 + l.log2) + l) / (2 * l)

/-- One input of a stage: the stage after it, and its output when one is due (R288). -/
def Stage.push (g : Stage) (x : Cx) : Stage × Option Cx :=
  let l := max 1 g.len
  let h := (x :: g.hist).take l
  let n := g.count + 1
  let e := 23 + l.log2
  let sum := h.foldl (fun a b => (a.1 + b.1, a.2 + b.2)) ((0, 0) : Cx)
  ({ g with hist := h, count := n },
   if n % max 1 g.decim = 0 then some (rnd (sum.1 * stageGain l) e, rnd (sum.2 * stageGain l) e) else none)

/-- One input of the chain of stages. -/
def pushStages : List Stage → Cx → List Stage × Option Cx
  | [], x => ([], some x)
  | g :: r, x =>
    let p := g.push x
    match p.2 with
    | none => (p.1 :: r, none)
    | some y =>
      let q := pushStages r y
      (p.1 :: q.1, q.2)

/-- The sum of the taps' products, exact (R289). -/
def firSum : List Cx → List Cx → Cx
  | h :: hs, u :: us =>
    let r := firSum hs us
    (h.1 * u.1 - h.2 * u.2 + r.1, h.1 * u.2 + h.2 * u.1 + r.2)
  | _, _ => (0, 0)

/-- One bank's output before saturation (R289). -/
def firOut (d : ContextDecl) (bank line : List Cx) (u : Cx) : Cx :=
  if d.taps = 0 then u
  else
    let s := firSum bank line
    (rnd s.1 (19 - d.gain), rnd s.2 (19 - d.gain))

/-- A value saturated in both components (R233). -/
def satCx (y : Cx) : Cx := (satc y.1, satc y.2)

/-- A bank of a context. -/
def Context.bankOf (x : Context) (b : Nat) : List Cx := if b = 0 then x.bankA else x.bankB

/-- One coefficient written: tap `t`, component `k` (R292). -/
def setCoef (t k : Nat) (v : Int) (b : List Cx) : List Cx :=
  b.modify t (fun h => if k = 0 then (v, h.2) else (h.1, v))

/-- One coefficient written into a bank. -/
def Context.setBank (x : Context) (b t k : Nat) (v : Int) : Context :=
  if b = 0 then { x with bankA := setCoef t k v x.bankA } else { x with bankB := setCoef t k v x.bankB }

/-- The output of the FIR and of a running fade, and whether a component saturated (R289, R290). -/
def fadeOut (d : ContextDecl) (x : Context) (u : Cx) : Cx × Bool :=
  match x.fade with
  | none =>
    let y := firOut d (x.bankOf x.bank) x.fir u
    (satCx y, y != satCx y)
  | some f =>
    let a := firOut d (x.bankOf f.source) x.fir u
    let b := firOut d (x.bankOf f.target) x.fir u
    let w : Int := ((f.pos + 1) * 2 ^ 23 / max 1 d.xfLen : Nat)
    let m := fun (p q : Int) => if f.pos < d.xfLen then rnd (p * (2 ^ 23 - w) + q * w) 23 else q
    ((m (satc a.1) (satc b.1), m (satc a.2) (satc b.2)), a != satCx a || b != satCx b)

/-- The product of the decimations of the stages from one on. -/
def decimProduct (gs : List Stage) : Nat := gs.foldl (fun n g => n * max 1 g.decim) 1

/-- L_s (R294). -/
def settleLen (d : ContextDecl) : List Stage → Nat
  | [] => d.taps
  | g :: r => (g.len + decimProduct (g :: r) - 1) / decimProduct (g :: r) + settleLen d r

/-- The 256 bytes of an output record (R298). Its header has no place for the DIGEST8 that R421 speaks of (DEDUCED,
log 161). -/
def ctxBytes (s : State) (c kind flags time count bank uset : Nat) (payload : List Byte) : List Byte :=
  let x := ctxOf s c
  let t := time / 256
  let bs := leBytes 4 0x58435A53 ++ leBytes 1 kind ++ leBytes 1 flags ++ leBytes 2 c ++
    leBytes 8 (t % 2 ^ 64) ++ leBytes 2 (t / 2 ^ 64) ++ leBytes 1 (time % 256) ++ leBytes 1 count ++ leBytes 4 x.seq ++
    leBytes 4 (genAt s t) ++ leBytes 1 (bank + 2 * b2n x.heldBank.isSome) ++ leBytes 1 uset ++ leBytes 2 x.resets ++ payload
  bs ++ List.replicate (256 - bs.length) 0

/-- A record takes a place in the queue; one for the reserved place waits while another record holds that (R280, R298,
R300; log 127). -/
def queueCtx (c : Nat) (bytes : List Byte) (input : Nat) (reserved : Bool) (s : State) : State :=
  mCtx c (fun x => { x with queue := x.queue ++ [{
    bytes := bytes, born := s.time.cycle, input := input, reserved := reserved
    held := reserved && x.queue.any CtxRecord.reserved, offered := false }] }) s

/-- The reserved place is free: the next record for it takes it (R301). -/
def unhold : List CtxRecord → List CtxRecord
  | [] => []
  | r :: q => if r.held then { r with held := false } :: q else r :: unhold q

/-- The next SEQ (R298). -/
def nextSeq (c : Nat) (s : State) : State := mCtx c (fun x => { x with seq := (x.seq + 1) % 2 ^ 32 }) s

/-- A record is discarded (R301, R302). -/
def discardRecord (c samples : Nat) (s : State) : State :=
  bump 13 (0x40 * c + 0x10) (mCtx c (fun x => { x with
    discarded := sat32 (x.discarded + 1), samplesLost := x.samplesLost + samples }) s)

/-- An event record is discarded (R302). -/
def loseEvent (c : Nat) (s : State) : State :=
  pulse0 13 7 (bump 13 0x10010 (mCtx c (fun x => { x with eventsLost := sat32 (x.eventsLost + 1) }) s))

/-- Bits every kind of record takes with it: INPUT_GAP, SAT (R298). -/
def carriedFlags (x : Context) : Nat := 16 * b2n x.gapFlag + 128 * b2n x.sat

/-- Bits carried have been carried; a record with SAT counts. -/
def carryOver (c : Nat) (s : State) : State :=
  let sat := (ctxOf s c).sat
  let s := mCtx c (fun x => { x with gapFlag := false, sat := false }) s
  if sat then pulse0 13 5 (bump 13 0x10030 s) else s

/-- Fall-back begins: the open IQ record is discarded, FALLBACK_ENTER takes the reserved place (R299, R301). -/
def enterFallback (c cause time : Nat) (s : State) : State :=
  let n := (ctxOf s c).iq.length
  let s := mCtx c (fun x => { x with fallback := true, iq := [], iqFlags := 0, iqUnsettled := 0 }) s
  let s := if n = 0 then s else nextSeq c (discardRecord c n s)
  let x := ctxOf s c
  let bs := ctxBytes s c 4 (4 + carriedFlags x) time 0 x.bank 0 (leBytes 1 cause)
  pulse0 13 0 (bump 13 0x10000 (carryOver c (nextSeq c (queueCtx c bs s.time.cycle true s))))

/-- Counts of a fall-back start from zero. -/
def clearFallback (c : Nat) (s : State) : State :=
  mCtx c (fun x => { x with discarded := 0, eventsLost := 0, samplesLost := 0 }) s

/-- A record generated: queued, or discarded under R301 and R302. -/
def putRecord (c kind : Nat) (bytes : List Byte) (samples time input : Nat) (s : State) : State :=
  let x := ctxOf s c
  let room := decide ((x.queue.filter (fun r => !r.reserved)).length < 4)
  let s := carryOver c (nextSeq c s)
  let drop := fun (s : State) => if kind = 3 then loseEvent c s else discardRecord c samples s
  if x.fallback && kind != 3 then drop s
  else if room then queueCtx c bytes input false s
  else if x.fallback then drop s
  else enterFallback c 0 time (drop (clearFallback c s))

/-- The IQ record in progress closes (R299). -/
def closeIq (c : Nat) (part : Bool) (s : State) : State :=
  let x := ctxOf s c
  if x.iq.isEmpty then s
  else
    let flags := x.iqFlags + 2 * b2n (decide (0 < x.iqUnsettled)) + 4 * b2n x.fallback + 32 * b2n part + carriedFlags x
    let bs := ctxBytes s c 1 flags x.iqTime x.iq.length x.iqBank x.iqUnsettled
      (x.iq.flatMap (fun y => leBytes 4 (enc 32 y.1) ++ leBytes 4 (enc 32 y.2)))
    putRecord c 1 bs x.iq.length x.iqTime x.outInput
      (mCtx c (fun x => { x with iq := [], iqFlags := 0, iqUnsettled := 0 }) s)

/-- Trigger conditions of a context that an edge meets (R307). -/
def ctxConds (s : State) (c : Nat) (rise : Bool) : List TrigCond :=
  (condsFor s .context c).filter (fun d => d.polarity == 2 || (d.polarity == 0) == rise)

/-- A RISE or FALL event: to the trigger engine, and as a record; `marks` holds UNSETTLED and XFADE of what it comes from
(R297 to R299). -/
def ctxEvent (c : Nat) (d : ContextDecl) (rise : Bool) (value thr time input marks : Nat) (s : State) : State :=
  let s := bump 13 (0x40 * c + 0x20) (mCtx c (fun x => { x with above := rise }) s)
  let s := if tbit d.outMode 3 then
      measure 3 c (s.time.cycle - input) ((ctxConds s c rise).foldl (fun s k => raiseOcc k.cond time s) s)
    else s
  if tbit d.outMode 2 then
    let x := ctxOf s c
    let flags := marks + 4 * b2n x.fallback + 64 * b2n (refSettlingAt s (time / 256)) + carriedFlags x
    let bs := ctxBytes s c 3 flags time 0 x.bank 0
      (leBytes 1 (if rise then 1 else 2) ++ leBytes 1 (b2n d.evtDetector) ++ leBytes 2 0 ++ leBytes 4 value ++ leBytes 4 thr)
    putRecord c 3 bs 0 time input s
  else s

/-- A value at the thresholds; `wide` is its binary64 pattern, `value` the binary32 one (R297). -/
def threshold (c : Nat) (d : ContextDecl) (wide value time input marks : Nat) (s : State) : State :=
  let x := ctxOf s c
  let low := min x.thrLow x.thrHigh
  if !x.above && decide (convert f32 f64 x.thrHigh ≤ wide) then ctxEvent c d true value x.thrHigh time input marks s
  else if x.above && decide (wide ≤ convert f32 f64 low) then ctxEvent c d false value low time input marks s
  else s

/-- A detector interval closes (R296). -/
def closeDet (c : Nat) (d : ContextDecl) (part : Bool) (s : State) : State :=
  let x := ctxOf s c
  if x.detCount = 0 then s
  else
    let mean := convert f64 f32 (f64.divNat x.detSum x.detCount)
    let s := mCtx c (fun x => { x with
      interval := x.interval + 1, detCount := 0, detPeak := 0, detMin := 0, detSum := 0, detFlags := 0 }) s
    let s := if tbit d.outMode 1 then
        let settled := x.settledDue && !tbit d.outMode 0
        let flags := b2n settled + x.detFlags + 4 * b2n x.fallback + 32 * b2n part +
          64 * b2n (refSettlingAt s (x.detTime / 256)) + carriedFlags x
        let bs := ctxBytes s c 2 flags x.detTime 0 x.detBank 0
          (leBytes 8 x.interval ++ leBytes 4 x.detCount ++ leBytes 4 (convert f64 f32 x.detPeak) ++
           leBytes 4 (convert f64 f32 x.detMin) ++ leBytes 4 mean)
        putRecord c 2 bs 0 x.detTime x.outInput (mCtx c (fun x => { x with settledDue := x.settledDue && !settled }) s)
      else s
    if d.evtDetector then threshold c d (convert f32 f64 mean) mean x.outTime x.outInput x.detFlags s else s

/-- A synchronising reset at an input row (R293). -/
def resetContext (c : Nat) (d : ContextDecl) (s : State) : State :=
  let s := closeDet c d true (closeIq c true s)
  let gap := (ctxOf s c).gapDue
  let s := bump 13 (0x40 * c + 0x30) (mCtx c (fun x => { x with
    stages := x.stages.map (fun g => { g with hist := [], count := 0 })
    fir := [], phase := x.phaseWord * 2 ^ 32, out := 0, above := false, settled := false, settledDue := false
    resets := x.resets + 1, resetDue := false, gapDue := false, gapFlag := x.gapFlag || gap }) s)
  if gap then pulse0 13 4 s else s

/-- One value of a context comes into force at an input row. Second: whether it resets (R293, R304, R305). -/
def Context.setRow (x : Context) (field : Nat) (v : Word) : Context × Bool :=
  let n := v.toNat
  match field with
  | 0x000 => ({ x with tw := x.tw / 2 ^ 32 * 2 ^ 32 + n }, false)
  | 0x001 => ({ x with tw := x.tw % 2 ^ 32 + n % 2 ^ 16 * 2 ^ 32 }, false)
  | 0x002 => ({ x with phaseWord := n % 2 ^ 16 }, false)
  | 0x003 => ({ x with resetValue := v.toNat }, true)
  | 0x005 => ({ x with thrHigh := n }, false)
  | 0x006 => ({ x with thrLow := n }, false)
  | 0x007 => ({ x with detInterval := n }, false)
  | f =>
    if 0x010 ≤ f ∧ f < 0x014 then
      ({ x with stages := x.stages.modify (f - 0x010) (fun g => { g with len := n }) }, true)
    else if 0x014 ≤ f ∧ f < 0x018 then
      ({ x with stages := x.stages.modify (f - 0x014) (fun g => { g with decim := n }) }, true)
    else (x, false)

/-- The values due at an input row come into force (R305). -/
def rowValues (c t : Nat) (s : State) : State :=
  let due := (ctxOf s c).rowPending.filter (fun p => decide (p.1 ≤ t))
  mCtx c (fun x =>
    let x := { x with rowPending := x.rowPending.filter (fun p => !decide (p.1 ≤ t)) }
    due.foldl (fun x p =>
      let r := x.setRow p.2.1 p.2.2
      { r.1 with resetDue := x.resetDue || r.2 }) x) s

/-- A swap request (R291). -/
def Context.swap (x : Context) (b : Nat) : Context :=
  if x.fade.isSome then { x with heldBank := some b }
  else if b = x.bank then x
  else { x with fade := some { source := x.bank, target := b, pos := 0 } }

/-- Whether a bank is active or in a running fade (R292). -/
def Context.bankBusy (x : Context) (b : Nat) : Bool :=
  x.bank == b || match x.fade with
    | some f => f.source == b || f.target == b
    | none => false

/-- A coefficient held, in place of an earlier one for its tap and component (R292). -/
def Context.holdCoef (x : Context) (b t k : Nat) (v : Int) : Context :=
  { x with heldCoefs := x.heldCoefs.filter (fun h => !(h.1 == b && h.2.1 == t && h.2.2.1 == k)) ++ [(b, t, k, v)] }

/-- A swap request or coefficient comes into force at an output (R291, R292, R305). -/
def outValue (c : Nat) (s : State) (p : Nat × Nat × Word) : State :=
  let f := p.2.1
  if f = 0x004 then mCtx c (fun x => x.swap (p.2.2.toNat % 2)) s
  else
    let b := (f - 0x200) / 0x100
    let t := (f - 0x200) % 0x100 / 2
    let k := f % 2
    let v := p.2.2.toInt
    if (ctxOf s c).bankBusy b then
      pulse0 13 6 (bump 13 0x10020 (mCtx c (fun x => x.holdCoef b t k v) s))
    else mCtx c (fun x => x.setBank b t k v) s

/-- The swap requests and coefficients due at an output come into force (R305). -/
def outValues (c t : Nat) (s : State) : State :=
  let due := (ctxOf s c).outPending.filter (fun p => decide (p.1 ≤ t))
  due.foldl (outValue c) (mCtx c (fun x => { x with outPending := x.outPending.filter (fun p => !decide (p.1 ≤ t)) }) s)

/-- A fade that has run its X outputs ends: held coefficients of the bank left, then the held request (R291, R292). -/
def endFade (c : Nat) (s : State) : State :=
  match ctxDecl s c, (ctxOf s c).fade with
  | some d, some f =>
    if f.pos < d.xfLen then s
    else mCtx c (fun x =>
      let held := x.heldCoefs.filter (fun h => h.1 == f.source)
      let x := held.foldl (fun x h => x.setBank h.1 h.2.1 h.2.2.1 h.2.2.2)
        { x with bank := f.target, fade := none, heldCoefs := x.heldCoefs.filter (fun h => h.1 != f.source) }
      match x.heldBank with
      | some b => { x with heldBank := none }.swap b
      | none => x) s
  | _, _ => s

/-- Output L_s of the present reset has been reached: its record carries SETTLED (R295). -/
def settle_ (c : Nat) (s : State) : State :=
  match ctxDecl s c with
  | some d =>
    let x := ctxOf s c
    if !x.settled && !x.resetDue && decide (settleLen d x.stages ≤ x.out) then
      mCtx c (fun x => { x with settled := true, settledDue := true }) s
    else s
  | none => s

/-- p of an output in binary64 (R296). -/
def outPower (d : ContextDecl) (y : Cx) : Nat :=
  let k := f32.unpack d.detScale
  f64.pack ((y.1.natAbs ^ 2 + y.2.natAbs ^ 2) * k.1) (k.2 - 46)

/-- An emitted output joins the IQ record in progress (R295, R298). -/
def iqSample (c : Nat) (d : ContextDecl) (y : Cx) (unsettled : Bool) (time : Nat) (s : State) : State :=
  if !tbit d.outMode 0 then s
  else
    let first := (ctxOf s c).iq.isEmpty
    let refs := refSettlingAt s (time / 256)
    mCtx c (fun x => { x with
      iq := x.iq ++ [y]
      iqTime := if first then time else x.iqTime
      iqBank := if first then x.bank else x.iqBank
      iqUnsettled := (if first then 0 else x.iqUnsettled) + b2n unsettled
      iqFlags := ((if first then 64 * b2n refs else x.iqFlags) ||| b2n x.settledDue) ||| (8 * b2n x.fade.isSome)
      settledDue := false }) s

/-- An emitted output joins the detector interval in progress (R296). -/
def detSample (c p : Nat) (unsettled : Bool) (time : Nat) (s : State) : State :=
  mCtx c (fun x => { x with
    detCount := x.detCount + 1
    detFlags := x.detFlags ||| (2 * b2n unsettled) ||| (8 * b2n x.fade.isSome)
    detBank := if x.detCount = 0 then x.bank else x.detBank
    detTime := if x.detCount = 0 then time else x.detTime
    detPeak := max x.detPeak p
    detMin := if x.detCount = 0 then p else min x.detMin p
    detSum := f64.add x.detSum p }) s

/-- A full IQ record and a full interval close, when their own commands have not closed them before. -/
def closeFull (c : Nat) (d : ContextDecl) (s : State) : State :=
  let s := if decide (d.recordFill ≤ (ctxOf s c).iq.length) then closeIq c false s else s
  if decide ((ctxOf s c).detInterval ≤ (ctxOf s c).detCount) then closeDet c d false s else s

/-- An output of the chain (R289 to R297). -/
def ctxOutput (c : Nat) (d : ContextDecl) (u : Cx) (time input : Nat) (s : State) : State :=
  let s := outValues c (time / 256) (endFade c s)
  let s := settle_ c (closeFull c d s)
  let s := mCtx c (fun x => { x with fir := (u :: x.fir).take d.taps }) s
  let x := ctxOf s c
  let y := fadeOut d x u
  let unsettled := decide (x.out < settleLen d x.stages)
  let s := mCtx c (fun x => { x with
    out := x.out + 1, sat := x.sat || y.2
    fade := x.fade.map (fun f => { f with pos := min d.xfLen (f.pos + 1) }) }) s
  if unsettled && !d.fast then s
  else
    let s := bump 13 (0x40 * c) (mCtx c (fun x => { x with outTime := time, outInput := input }) s)
    let p := outPower d y.1
    let s := detSample c p unsettled time (iqSample c d y.1 unsettled time s)
    if d.evtDetector || unsettled then s
    else threshold c d p (convert f64 f32 p) time input (8 * b2n x.fade.isSome) s

/-- A component of an input word, saturated to Q1.23. Second: whether it was (R285). -/
def inputWord (w : Nat) : Int × Bool :=
  let v := sgn 32 w
  (clampI (-8388608) 8388607 v, decide (v < -8388608) || decide (8388607 < v))

/-- The place of the CTX reader of a source sleeve. -/
def ctxReader (s : State) (i : Nat) : Option Nat :=
  (List.range (sleeveDecl s i).readers.length).find? (fun j => ((sleeveDecl s i).readers.getD j {}).unit == 0x13)

/-- Contexts that read a sleeve. -/
def ctxsOn (s : State) (i : Nat) : List ContextDecl := (img s).contexts.filter (fun d => d.src == i)

/-- The write count up to which every context of a sleeve has taken its rows. -/
def ctxsRead (s : State) (i : Nat) : Nat :=
  match (ctxsOn s i).map (fun d => (ctxOf s d.index).stored * 8 * d.stride) with
  | [] => 0
  | a :: r => r.foldl min a

/-- A change of the context reader of a sleeve. -/
def mCtxReader (i : Nat) (f : Reader → Reader) (s : State) : State :=
  match ctxReader s i with
  | none => s
  | some j => mSleeve i (fun v => { v with readers := upd {} j f v.readers }) s

/-- The context reader of a sleeve. -/
def ctxRead (s : State) (i : Nat) : Reader := match ctxReader s i with
  | some j => reader s i j
  | none => {}

/-- Bytes that every context of the sleeve has taken are let go. -/
def ctxAdvance (i : Nat) (s : State) : State :=
  let n := ctxsRead s i
  mCtxReader i (fun r => { r with landed := r.landed.filter (fun b => decide (n < b.1 + b.2.length)) }) s

/-- The input loss that a notice tells of; it has left the reader at the notice's count (R178, R180, R286). -/
def lossOf : Notice → InputLoss
  | .lapped bytes count => { start := count - bytes, stop := count, blocks := 0 }
  | .resizeGap amount count => { start := count - amount, stop := count, blocks := 0 }

/-- The context reader of a sleeve takes its notices (R286). -/
def takeNotices (i : Nat) (s : State) : State :=
  mCtxReader i (fun r => { r with losses := r.losses ++ r.notices.map lossOf, notices := [] }) s

/-- The markers that the context reader of a sleeve has reached, taken one by one (R176, R286). -/
def takeGaps (i j : Nat) : Nat → State → State
  | 0, s => s
  | k + 1, s => match markerDue s i j with
    | none => s
    | some m => takeGaps i j k (takeMarker i j (mCtxReader i (fun r => { r with
        losses := r.losses ++ [{ start := r.count, stop := r.count, blocks := m.blocks }] }) s))

/-- The context reader of a sleeve asks for its next bytes: at most an aligned block, up to the next marker and the end
of the pass (R164, R165, R174). -/
def askRows (i j : Nat) (s : State) : State :=
  let q := (reader s i j).count
  let a := (sleeveDecl s i).base + byteOffset s i q
  let n := min (readable s i j) (4096 - a % 4096) / 8 * 8
  if (reader s i j).asked || n = 0 then s
  else openSpan 3 a n none (.ctxRead i q n)
    (mCtxReader i (fun r => { r with asked := true }) s)

/-- What the context reader of one sleeve does before an open slot: notices, markers, and the next read (R165, R286). -/
def pumpRows (s : State) (i : Nat) : State :=
  match ctxReader s i with
  | none => s
  | some j => askRows i j (takeGaps i j 64 (takeNotices i s))

/-- The context readers before an open slot. -/
def pumpContexts (s : State) : State :=
  if functionLive s then (((img s).contexts.map ContextDecl.src).eraseDups).foldl pumpRows s else s

/-- A context read is served: its bytes leave the store, unless the reader has been moved on meanwhile (R174, R178).
First: the bytes that count. -/
def ctxServed (i q n : Nat) (s : State) : Nat × State :=
  match ctxReader s i with
  | none => (0, s)
  | some j => if (reader s i j).count = q then (n, advanceReader i j n s) else (0, s)

/-- The data of a context read reaches the bank (R164). -/
def ctxLand (i q n : Nat) (data : List Byte) (s : State) : State :=
  mCtxReader i (fun r => { r with
    asked := false, landed := if n = 0 then r.landed else r.landed ++ [(q, data.take n)] }) s

/-- The next input loss of the source sleeve, once the context has come to it (R286). -/
def ctxLoss (s : State) (d : ContextDecl) (x : Context) : Option InputLoss :=
  match (ctxRead s d.src).losses[x.passed]? with
  | some l => if l.start < (x.stored + 1) * 8 * d.stride then some l else none
  | none => none

/-- Eight bytes at write count `q` among those that have landed. -/
def landedAt (s : State) (i q : Nat) : Option (List Byte) :=
  ((ctxRead s i).landed.find? (fun b => decide (b.1 ≤ q) && decide (q + 8 ≤ b.1 + b.2.length))).map
    (fun b => slice b.2 (q - b.1) 8)

/-- Whether a marker of the channeliser's raw sleeve stands among the positions of a row, that of a writer still stopped
included; the row is lost then (R286; log 128). -/
def rowTorn (s : State) (d : ContextDecl) (row : Nat) : Bool :=
  match ctxChanneliser s d with
  | none => false
  | some k =>
    let f := frameDecl s k
    let p := f.first + row * f.hop
    markerWithin s f.src p f.hop

/-- Whether a whole row has landed, with no loss before it or in it (R285, R286). -/
def rowReady (s : State) (d : ContextDecl) (x : Context) : Bool :=
  let q := x.stored * 8 * d.stride
  (ctxLoss s d x).isNone && !rowTorn s d x.row && (landedAt s d.src (q + 8 * d.offset)).isSome &&
    (landedAt s d.src (q + 8 * (d.stride - 1))).isSome

/-- One row through NCO, stages and FIR (R285 to R289). -/
def takeRow (c : Nat) (d : ContextDecl) (s : State) : State :=
  let x := ctxOf s c
  let q := x.stored * 8 * d.stride
  let bs := (landedAt s d.src (q + 8 * d.offset)).getD []
  let re := inputWord (le bs 0 4)
  let im := inputWord (le bs 4 4)
  let time := rowFine s d x.row
  let input := completeAt s d.src (q + 8 * d.stride)
  let s := rowValues c (time / 256) s
  let s := if (ctxOf s c).resetDue then resetContext c d s else s
  let x := ctxOf s c
  let m := mix x.phase (re.1, im.1)
  let r := pushStages x.stages m
  let s := mCtx c (fun x => { x with
    stored := x.stored + 1, row := x.row + 1, phase := (x.phase + x.tw) % 2 ^ 48, stages := r.1
    sat := x.sat || re.2 || im.2 }) s
  let s := match r.2 with
    | some u => ctxOutput c d u time input s
    | none => s
  ctxAdvance d.src s

/-- CONTEXT_INPUT_ROW (R285). -/
def contextRow (c : Nat) (s : State) : State :=
  match ctxDecl s c with
  | some d => if functionLive s && rowReady s d (ctxOf s c) then takeRow c d s else s
  | none => s

/-- CONTEXT_INPUT_LOSS (R286): the rows that a LAPPED or RESIZE_GAP notice or a GAP marker has taken, or the landed row
whose positions a marker of the channeliser's raw sleeve tears. The rows are the state's; the operand says no more. -/
def contextLoss (c : Nat) (s : State) : State :=
  match ctxDecl s c with
  | none => s
  | some d =>
    if !functionLive s then s
    else
      let x := ctxOf s c
      let rb := 8 * d.stride
      let q := x.stored * rb
      let reset := fun (x : Context) => { x with resetDue := true, gapDue := true }
      match ctxLoss s d x with
      | some l =>
        let n := (l.stop - q + rb - 1) / rb
        ctxAdvance d.src (mCtx c (fun x => reset { x with
          passed := x.passed + 1, stored := x.stored + n, row := x.row + n + l.blocks * 4096 / rb }) s)
      | none =>
        if rowTorn s d x.row && (landedAt s d.src (q + 8 * (d.stride - 1))).isSome then
          ctxAdvance d.src (mCtx c (fun x => reset { x with stored := x.stored + 1, row := x.row + 1 }) s)
        else s

/-- CONTEXT_RECORD_WRITE: the oldest record not yet offered goes to its sleeve as an open CTX write, once it fits (R300). -/
def offerRecord (c : Nat) (s : State) : State :=
  match ctxDecl s c, (ctxOf s c).queue.find? (fun r => !r.offered) with
  | some d, some r =>
    if !functionLive s || r.held || !recordFits s d.dst 256 || !fits s d.dst 256 then s
    else
      let v := sleeve s d.dst
      let off := (v.wcount - v.passStart + v.reserved) % max 1 (lenBytes s d.dst)
      let s := mCtx c (fun x => { x with queue := x.queue.map (fun y => if y == r then { y with offered := true } else y) }) s
      openRequest 3 ((sleeveDecl s d.dst).base + off) 256 (some r.bytes) (.ctxWrite c)
        (mSleeve d.dst (fun v => { v with reserved := v.reserved + 256 }) s)
  | _, _ => s

/-- A context's write is served: its oldest record lands (R300). -/
def recordServed (c : Nat) (data : List Byte) (s : State) : State :=
  match ctxDecl s c, (ctxOf s c).queue with
  | some d, r :: q =>
    let s := mSleeve d.dst (fun v => { v with reserved := v.reserved - data.length }) s
    let s := mCtx c (fun x => { x with queue := if r.reserved then unhold q else q }) s
    let s := noteResult d.dst (le data 0x08 8 + le data 0x10 2 * 2 ^ 64) s
    measure 3 c (s.time.cycle - r.input) (tidyMarkers d.dst (storeAll d.dst data s))
  | _, _ => s

/-- Whether a context's oldest queued record has waited TOLERANCE_US, 1,280 CK_ENG cycles each, since it was generated
(R301). -/
def toleranceOver (s : State) (c : Nat) : Bool := match (ctxOf s c).queue, ctxDecl s c with
  | r :: _, some d => decide (r.born + 1280 * d.toleranceUs ≤ s.time.cycle)
  | _, _ => false

/-- FALLBACK_TOLERANCE_EXPIRY: a context whose oldest record has waited too long enters fall-back (R301). -/
def toleranceExpiry (c : Nat) (s : State) : State :=
  if functionLive s && !(ctxOf s c).fallback && toleranceOver s c then
    enterFallback c 1 (256 * now s) (clearFallback c s)
  else s

/-- FALLBACK_EXIT (R303). -/
def fallbackExit (c : Nat) (s : State) : State :=
  match ctxDecl s c with
  | none => s
  | some d =>
    let x := ctxOf s c
    if functionLive s && x.fallback && x.queue.isEmpty && recordFits s d.dst 1024 && fits s d.dst 1024 then
      let bs := ctxBytes s c 5 (carriedFlags x) (256 * now s) 0 x.bank 0
        (leBytes 4 x.discarded ++ leBytes 4 x.eventsLost ++ leBytes 8 (x.samplesLost + x.iq.length))
      let s := carryOver c (nextSeq c (queueCtx c bs s.time.cycle true s))
      pulse0 13 1 (mCtx c (fun x => { x with fallback := false, iq := [], iqFlags := 0, iqUnsettled := 0 }) s)
    else s

/-- A context at function start, with the INITIAL values of the live parameters that target it (R283, R293). -/
def contextStart (d : ContextDecl) (vals : List (Nat × Word)) : Context :=
  let x : Context := {
    tw := d.tw, phaseWord := d.phase
    stages := (List.range d.lens.length).map (fun i => { len := d.lens.getD i 1, decim := d.decims.getD i 1 })
    bankA := d.bankA, bankB := d.bankB, bank := d.bank
    detInterval := d.detInterval, thrHigh := d.thrHigh, thrLow := d.thrLow }
  vals.foldl (fun x p =>
    if p.1 = 0x004 then { x with bank := p.2.toNat % 2 }
    else if 0x200 ≤ p.1 then x.setBank ((p.1 - 0x200) / 0x100) ((p.1 - 0x200) % 0x100 / 2) (p.1 % 2) p.2.toInt
    else (x.setRow p.1 p.2).1) x

/-- A live value for a context applied at a seam whose first sample is `t` (R305). -/
def contextApply (c field t : Nat) (v : Word) (s : State) : State :=
  if field = 0x004 ∨ 0x200 ≤ field then mCtx c (fun x => { x with outPending := x.outPending ++ [(t, field, v)] }) s
  else mCtx c (fun x => { x with rowPending := x.rowPending ++ [(t, field, v)] }) s

/-- CONTEXT_INPUT_ROW (R285). -/
def execContextInputRow (c : Nat) (s : State) : Host.Outcome State Fault Refusal := act (contextRow c) s

/-- CONTEXT_INPUT_LOSS (R286). -/
def execContextInputLoss (c _rows : Nat) (s : State) : Host.Outcome State Fault Refusal := act (contextLoss c) s

/-- SETTLING_COMPLETE (R295). -/
def execSettlingComplete (c : Nat) (s : State) : Host.Outcome State Fault Refusal := act (settle_ c) s

/-- CROSSFADE_END (R291). -/
def execCrossfadeEnd (c : Nat) (s : State) : Host.Outcome State Fault Refusal := act (endFade c) s

/-- DETECTOR_INTERVAL_CLOSE (R296). -/
def execDetectorIntervalClose (c : Nat) (s : State) : Host.Outcome State Fault Refusal :=
  act (fun s => match ctxDecl s c with
    | some d =>
      let x := ctxOf s c
      if decide (x.detInterval ≤ x.detCount) then
        closeDet c d false s else s
    | none => s) s

/-- IQ_RECORD_CLOSE (R299). -/
def execIqRecordClose (c : Nat) (s : State) : Host.Outcome State Fault Refusal :=
  act (fun s => match ctxDecl s c with
    | some d =>
      let x := ctxOf s c
      if decide (d.recordFill ≤ x.iq.length) then closeIq c false s else s
    | none => s) s

/-- CONTEXT_RECORD_WRITE (R300). -/
def execContextRecordWrite (c : Nat) (s : State) : Host.Outcome State Fault Refusal := act (offerRecord c) s

/-- FALLBACK_TOLERANCE_EXPIRY (R301). -/
def execFallbackToleranceExpiry (c : Nat) (s : State) : Host.Outcome State Fault Refusal := act (toleranceExpiry c) s

/-- FALLBACK_EXIT (R303). -/
def execFallbackExit (c : Nat) (s : State) : Host.Outcome State Fault Refusal := act (fallbackExit c) s

end Sys2Proof.Machine
end

