-- ==== Sys2Proof/Machine/Operands.lean ====
section
/-! DEFINITION. The engines' registers and operands (R186, R188, R215, R230, R236): reading them at issue, results on
their way, and local memory. -/

namespace Sys2Proof.Machine

/-- An engine. -/
def engine (s : State) (e : Nat) : Engine := look {} s.eng.engines e

/-- The physical register of a logical one (R188). -/
def physV (g : Engine) (n : Nat) : Nat := if n < 32 then n else 32 + (n - 32 + g.rofs) % 32

/-- A vector register as an operation reads it at issue (R188, R218). -/
def readV (g : Engine) (n : Nat) : BitVec 192 := look 0 g.v (physV g n)

/-- A scalar register. -/
def readX (g : Engine) (n : Nat) : Word := look 0 g.x n

/-- A receive buffer. -/
def readXr (g : Engine) (n : Nat) : BitVec 192 := look 0 g.xr n

/-- The staged loop that gives the stage predicates: the most recently started one still active (R229). -/
def stagedLoop (g : Engine) : Option (Nat × Nat) :=
  (g.loops.find? (fun l => l.staged.isSome)).bind LoopRec.staged

/-- A predicate as a slot reads it at issue: P0 is 1, a stage predicate is computed while a staged loop is active (R215,
R229). -/
def readP (g : Engine) (n : Nat) : Bool :=
  if n = 0 then true
  else if 4 ≤ n then
    match stagedLoop g with
    | some (k, j) => decide (1 + (n - 4) ≤ j) && decide (j ≤ k + (n - 4))
    | none => look false g.p n
  else look false g.p n

/-- Whether a slot executes (R215). -/
def gateOpen (g : Engine) (q : Gate) : Bool :=
  if q.pred = 0 then (if q.spgEn then readP g (4 + q.spg) else true) else readP g q.pred

/-- A local address, modulo 512 KiB (R190). -/
def localAddr (a : Nat) : Nat := a % 524288

/-- An aligned local address of an LS form (R230). -/
def alignAddr (a : Int) (align : Nat) : Nat := enc 19 a / align * align

/-- Whether an access reaches into the code region (R190). -/
def inCode (g : Engine) (a n : Nat) : Bool := decide (a < g.codeBytes) || decide (524288 < a + n && 0 < g.codeBytes)

/-- Bytes written at a local address, modulo 512 KiB. -/
def putLocal (a : Nat) : List Byte → Sparse Byte → Sparse Byte
  | [], m => m
  | b :: r, m => putLocal (a + 1) r (put 0 (localAddr a) b m)

/-- Bytes read at a local address, modulo 512 KiB. -/
def getLocal (m : Sparse Byte) (a : Nat) : Nat → List Byte
  | 0 => []
  | n + 1 => look 0 m (localAddr a) :: getLocal m (a + 1) n

/-- Insertion of a store by cycle, then precedence; later ones of the same rank after (R189, R222). -/
def insertStore (x : LocalStore) : List LocalStore → List LocalStore
  | [] => [x]
  | y :: r => if x.cycle < y.cycle ∨ (x.cycle = y.cycle ∧ x.rank < y.rank) then x :: y :: r else y :: insertStore x r

/-- The engine with every store issued at or before cycle `u` written to its memory, in order (R222). -/
def flushStores (u : Nat) (g : Engine) : Engine :=
  { g with
    mem := (g.stores.filter (fun x => decide (x.cycle ≤ u))).foldl (fun m x => putLocal x.addr x.bytes m) g.mem
    stores := g.stores.filter (fun x => !decide (x.cycle ≤ u)) }

/-- Bytes a load issued at cycle `u` returns: every store issued at or before u − 2 (R222). -/
def loadLocal (g : Engine) (u a n : Nat) : List Byte :=
  if u < 2 then getLocal g.mem a n else getLocal (flushStores (u - 2) g).mem a n

/-- A store to local memory: discarded with CODE_WRITE when it reaches the code region (R189, R190). -/
def storeLocal (e rank a : Nat) (bytes : List Byte) (s : State) : State :=
  let g := engine s e
  let u := s.time.cycle
  if inCode g a bytes.length then pulse0 9 0 (bump 9 0x10 s)
  else mEngine e (fun g =>
    let g := if u < 2 then g else flushStores (u - 2) g
    { g with stores := insertStore { cycle := u, rank := rank, addr := a, bytes := bytes } g.stores }) s

/-- A result that lands `lat` cycles after issue (R218, R219). -/
def sendResult (e lat rank : Nat) (d : Dest) (v : BitVec 192) (flags : Nat) (s : State) : State :=
  mEngine e (fun g => { g with
    landings := g.landings ++ [{ due := s.time.cycle + lat, rank := rank, dest := d, value := v, flags := flags }] }) s

/-- Flags set at once, in the order in which the slots of a bundle act (R216; DESIGN CHOICE, log 150). -/
def setFlags (e f : Nat) (s : State) : State := mEngine e (fun g => { g with ef := g.ef ||| f }) s

/-- A slot whose fields break its opcode's limits: a NOP that sets ILL (R216). -/
def illegalSlot (e : Nat) (s : State) : State := setFlags e flagIll s

/-- A slot of an engine: nothing when the engine has no programme (R192) or the slot is gated off (R221). -/
def slot (e : Nat) (q : Gate) (f : Engine → State → State) (s : State) : State :=
  let g := engine s e
  if g.programmed && gateOpen g q then f g s else s

/-- Operand B of a vector operation: a register, IMM sign-extended to 192 bits (DESIGN CHOICE, log 149), or a receive
buffer (R236). -/
def vecB (g : Engine) (f : AluForm) : BitVec 192 :=
  if f.xb then readXr g (f.b % 16) else if f.i then BitVec.ofNat 192 (enc 192 (sgn 16 f.imm)) else readV g f.b

/-- Operand B of a scalar operation (R236). -/
def scalarB (g : Engine) (f : AluForm) : Word :=
  if f.xb then (readXr g (f.b % 16)).setWidth 32 else if f.i then w32 (enc 32 (sgn 16 f.imm)) else readX g (f.b % 16)

/-- Operand B of a predicate operation: bit 0 of IMM or of a receive buffer (R236; DESIGN CHOICE, log 149). -/
def predB (g : Engine) (f : AluForm) : Bool :=
  if f.xb then (readXr g (f.b % 16)).getLsbD 0 else if f.i then tbit f.imm 0 else readP g (f.b % 8)

/-- Whether I and XB are admitted: not both, and neither where the operation takes no B (R236). -/
def formB (takesB : Bool) (f : AluForm) : Bool := !(f.i && f.xb) && (takesB || (!f.i && !f.xb))

/-- Whether a scalar operand B field names an X register; above those it is illegal (R236; DEDUCED, log 148). -/
def scalarOk (f : AluForm) : Bool := f.i || f.xb || decide (f.b < 16)

end Sys2Proof.Machine
end

