-- ==== Sys2Proof/Machine/EngineOps.lean ====
section
/-! DEFINITION. What engine slots do (09): control, loads and stores, multiply-accumulate, ALU and exchange operations,
and how their results land. -/

namespace Sys2Proof.Machine

/-- A branch taken at this cycle: the target issues three cycles later. In a delay slot it is a NOP that sets ILL (R226). -/
def takeBranch (e : Nat) (target : Nat) (g : Engine) (s : State) : State :=
  if g.inDelay then illegalSlot e s
  else mEngine e (fun g => { g with branch := some (3, target % 16384) }) s

/-- The loops without the one that holds counter `n` (R227). -/
def dropLoop (n : Nat) (ls : List LoopRec) : List LoopRec := ls.filter (fun l => l.lc ≠ n)

/-- A loop started (R227, R229): count 0 goes to the bundle after its end; a staged one makes its first pass. -/
def startLoop (e : Nat) (f : LoopForm) (g : Engine) (s : State) : State :=
  if g.inDelay then illegalSlot e s
  else if f.last = 0 then illegalSlot e s
  else
    let k := if f.cs then (readX g (f.xs % 16)).toNat else f.imm
    let a := g.issued.getD g.pc
    if k = 0 then
      mEngine e (fun g => { g with lc := put 0 f.lc 0 g.lc, loops := dropLoop f.lc g.loops, branch := some (1, (a + f.last + 1) % 16384) }) s
    else
      mEngine e (fun g => { g with
        lc := put 0 f.lc (if f.rot then k + f.drain else k) g.lc
        loops := { lc := f.lc, start := a, last := (a + f.last) % 16384, staged := if f.rot then some (k, 1) else none } :: dropLoop f.lc g.loops
        p := if f.rot then g.p.filter (fun q => decide (q.1 < 4)) else g.p }) s

/-- BXCLR: tracked stores of earlier cycles no longer count (R239). -/
def clearBexp (e : Nat) (s : State) : State :=
  mEngine e (fun g => { g with bexp := 23, tracked := g.tracked.filter (fun t => decide (s.time.cycle ≤ t.1)) }) s

/-- BEXP as an operation issued at cycle `u` reads it: every tracked store issued at or before u − 2 (R239). -/
def bexpAt (g : Engine) (u : Nat) : Nat :=
  g.tracked.foldl (fun b t => if t.1 + 2 ≤ u then min b t.2 else b) g.bexp

/-- A component scaled by BSCALE as LDV does with F (R240). -/
def scaleComp (b x : Int) : Int := if 0 ≤ b then x * 2 ^ b.toNat else rnd x (-b).toNat

/-- The vector of 24 bytes at a local address (R231). -/
def bytesVec (bs : List Byte) : BitVec 192 := BitVec.ofNat 192 (leVal bs)

/-- The C40 coefficients of 20 bytes, each component in bits 23 to 4 of its lane (R231). -/
def c40Vec (bs : List Byte) : BitVec 192 :=
  let n := leVal bs
  BitVec.ofNat 192 ((List.range 8).foldl (fun v i => v + (fld n (20 * i) 20 * 16) * 2 ^ (24 * i)) 0)

/-- Four samples placed in bits 23 to 12 of the lanes' real parts (R231). -/
def sampleVec (f : Nat → Nat) : BitVec 192 :=
  BitVec.ofNat 192 ((List.range 4).foldl (fun v l => v + (f l % 4096 * 4096) * 2 ^ (48 * l)) 0)

/-- The address of an LS slot (R230). -/
def lsAddr (g : Engine) (f : LsForm) (align : Nat) : Nat :=
  let xa := ((readX g f.xa).toNat : Int)
  alignAddr (if f.post then xa else xa + f.off) align

/-- The address update of post-increment mode, an LS write of its own slot (R219, R230). -/
def lsUpdate (e : Nat) (f : LsForm) (g : Engine) (s : State) : State :=
  if f.post then sendResult e 1 f.slot (.x f.xa) (BitVec.ofNat 192 (enc 32 ((readX g f.xa).toNat + f.off))) 0 s else s

/-- A vector load (R231): its value and flags come from the bytes as they stand two cycles before. -/
def loadVector (e : Nat) (f : LsForm) (align n : Nat) (conv : List Byte → BitVec 192 × Nat) (g : Engine) (s : State) : State :=
  let r := conv (loadLocal g s.time.cycle (lsAddr g f align) n)
  lsUpdate e f g (sendResult e 4 f.slot (.v (physV g f.reg)) r.1 r.2 s)

/-- Rank of an LS slot's store (R189). -/
def lsRank (f : LsForm) : Nat := 2 + f.slot

/-- A store of `n` bytes of a value (R231). -/
def storeValue (e : Nat) (f : LsForm) (align n v : Nat) (g : Engine) (s : State) : State :=
  lsUpdate e f g (storeLocal e (lsRank f) (lsAddr g f align) (leBytes n v) s)

/-- A tracked store's count for BEXP (R239). -/
def trackStore (e n : Nat) (s : State) : State :=
  mEngine e (fun g =>
    let old := g.tracked.filter (fun t => t.1 + 2 ≤ s.time.cycle)
    { g with
      bexp := old.foldl (fun b t => min b t.2) g.bexp
      tracked := g.tracked.filter (fun t => !decide (t.1 + 2 ≤ s.time.cycle)) ++ [(s.time.cycle, n)] }) s

/-- Component `c` (0 real, 1 imaginary) of lane `l` of the signed product of A and B (R187, R232). -/
def product (f : MacForm) (a b : BitVec 192) (l c : Nat) : Int :=
  let ar := vcomp a (2 * l)
  let ai := vcomp a (2 * l + 1)
  let br := vcomp b (2 * l)
  let bi := if f.conj then -(vcomp b (2 * l + 1)) else vcomp b (2 * l + 1)
  let p := if c = 0 then ar * br - ai * bi else ar * bi + ai * br
  if f.neg then -p else p

/-- An accumulator component (R232). -/
def readAc (g : Engine) (n i : Nat) : Int := (look 0 g.ac (8 * n + i)).toInt

/-- The accumulator with its eight components set, modulo 2^56 (R233). -/
def writeAc (n : Nat) (f : Nat → Int) (ac : Sparse (BitVec 56)) : Sparse (BitVec 56) :=
  (List.range 8).foldl (fun m i => put 0 (8 * n + i) (BitVec.ofInt 56 (f i)) m) ac

/-- Whether a value lies outside 56 bits (R233). -/
def acWraps (x : Int) : Bool := decide (x < -(2 ^ 55)) || decide ((2 ^ 55 : Int) ≤ x)

/-- A MAC-slot result in VD (R233). -/
def macResult (e lat : Nat) (f : MacForm) (r : BitVec 192 × Nat) (g : Engine) (s : State) : State :=
  sendResult e lat 3 (.v (physV g f.vd)) r.1 r.2 s

/-- ACRD's value (R233). -/
def acRead (g : Engine) (f : MacForm) : BitVec 192 × Nat := vsat (fun i => rnd (readAc g f.ac i) (23 + f.sh))

/-- FCVTP's value (R233, R235). -/
def powerVec (g : Engine) (f : MacForm) : BitVec 192 × Nat :=
  let e : Int := sgn 8 (readX g (f.vb % 16)).toNat - 46
  let a := readV g f.va
  let w := fun l => f32.pack ((vcomp a (2 * l)).natAbs ^ 2 + (vcomp a (2 * l + 1)).natAbs ^ 2) e
  (BitVec.ofNat 192 ((List.range 4).foldl (fun n l => n + w l * 2 ^ (32 * l)) 0),
   if (List.range 4).any (fun l => w l == f32.inf) then flagSat else 0)

/-- FCVTL's value (R233, R235). -/
def logVec (g : Engine) (f : MacForm) : BitVec 192 × Nat :=
  let a := (readV g f.va).toNat
  let c := fun l => l16Code (fld a (32 * l) 32)
  (BitVec.ofNat 192 ((List.range 4).foldl (fun n l => n + (c l).1 * 2 ^ (16 * l)) 0),
   if (List.range 4).any (fun l => (c l).2) then flagFdom else 0)

/-- The form of an ALU result component: halved when H is set (R237). -/
def halve (f : AluForm) (x : Int) : Int := if f.h then rnd x 1 else x

/-- An ALU vector result (R237). -/
def aluVec (e lat : Nat) (f : AluForm) (d : Nat) (c : Nat → Int) (g : Engine) (s : State) : State :=
  let r := vsat (fun i => halve f (c i))
  sendResult e lat 2 (.v (physV g d)) r.1 r.2 s

/-- An ALU operation on vectors whose fields are admitted only with `ok` (R216, R236). -/
def aluVecOp (e : Nat) (q : Gate) (f : AluForm) (takesB ok : Bool) (body : Engine → State → State) (s : State) : State :=
  slot e q (fun g s => if formB takesB f && ok then body g s else illegalSlot e s) s

/-- An ALU operation with a scalar result; a D or A field above the X registers is illegal (R237; log 148). -/
def aluScalar (e : Nat) (q : Gate) (f : AluForm) (takesB usesA : Bool) (lat : Nat) (val : Engine → Word) (s : State) : State :=
  slot e q (fun g s =>
    if formB takesB f && decide (f.d < 16) && (!usesA || decide (f.a < 16)) && (!takesB || scalarOk f) then
      sendResult e lat 2 (.x f.d) ((val g).setWidth 192) 0 s
    else illegalSlot e s) s

/-- An ALU operation with a predicate result; a D field above the predicates is illegal (log 148). Inside a staged loop a
write to P4 to P7 is discarded, as is one to P0 (R215, R229, R237). -/
def aluPred (e : Nat) (q : Gate) (f : AluForm) (takesB : Bool) (ok : Bool) (val : Engine → Bool) (s : State) : State :=
  slot e q (fun g s =>
    if formB takesB f && decide (f.d < 8) && ok then
      if f.d = 0 ∨ (4 ≤ f.d ∧ (stagedLoop g).isSome) then s
      else sendResult e 2 2 (.p f.d) (BitVec.ofNat 192 (b2n (val g))) 0 s
    else illegalSlot e s) s

/-- The route with an index (R211). -/
def routeDecl (s : State) (n : Nat) : Option RouteDecl := (img s).routes[n]?

/-- The engine cycle (R193). -/
def engineCycle (s : State) : Nat := (now s - s.eng.t0) / 16

/-- A word sent on a route, or discarded (R205, R206, R241). -/
def sendWord (e route : Nat) (w : BitVec 192) (s : State) : State :=
  match routeDecl s route with
  | some r =>
    if r.src = e ∧ engineCycle s % 2 ^ r.intervalLog2 = r.phase then
      mEng (fun a => { a with words := a.words ++
        [{ due := s.time.cycle + 8 + 2 * (r.hops - 1), engine := r.dst, buffer := r.buffer, word := w }] }) s
    else pulse0 9 1 (bump 9 0x20 s)
  | none => pulse0 9 1 (bump 9 0x20 s)

/-- One result written at its destination (R218, R229). -/
def landOne (g : Engine) (l : Landing) : Engine :=
  let g := match l.dest with
    | .v n => { g with v := put 0 n l.value g.v }
    | .x n => { g with x := put 0 n (l.value.setWidth 32) g.x }
    | .p n => if 4 ≤ n ∧ (stagedLoop g).isSome then g else { g with p := put false n (l.value.getLsbD 0) g.p }
    | .bscale => { g with bscale := sgn 6 l.value.toNat }
    | .rofs => { g with rofs := l.value.toNat % 32 }
    | .clearFlags => { g with ef := 0 }
    | .flags => g
  { g with ef := g.ef ||| l.flags }

/-- Landings of one cycle in order of precedence, the prevailing one last; CLRF before or after the flags, as a free
value decides (R219, R223). -/
def landOrder (ls : List Landing) : List Landing :=
  (ls.filter (fun l => l.rank == 0)) ++ (ls.filter (fun l => l.rank == 1)) ++ (ls.filter (fun l => l.rank == 2)) ++
  (ls.filter (fun l => l.rank == 3)) ++ (ls.filter (fun l => decide (4 ≤ l.rank) && l.dest != .clearFlags))

/-- The results of an engine that are due first land (R218, R219). Second: whether CLRF met a flag set in its cycle. -/
def landDue (free : Nat) (g : Engine) : Engine × Bool :=
  match g.landings.foldl (fun m l => match m with
      | none => some l.due
      | some d => some (min d l.due)) none with
  | none => (g, false)
  | some d =>
    let due := g.landings.filter (fun l => l.due == d)
    let clears := due.any (fun l => l.dest == .clearFlags)
    let kept := { g with landings := g.landings.filter (fun l => l.due != d) }
    let flags := due.foldl (fun f l => f ||| l.flags) 0
    let g' := (landOrder due).foldl landOne kept
    if clears then ({ g' with ef := if flags ≠ 0 ∧ Config.clrfRace free then flags else 0 }, flags != 0)
    else (g', false)

/-- RESULT_LANDS of an engine. -/
def landResults (e : Nat) (s : State) : State :=
  let r := landDue s.free (engine s e)
  let s := mEngine e (fun _ => r.1) s
  if r.2 then nextFree s else s

/-- The exchange word of an engine that is due first is written into its buffer (R205). -/
def deliverWord (e : Nat) (s : State) : State :=
  let mine := s.eng.words.filter (fun w => w.engine == e)
  match mine.foldl (fun m w => match m with
      | none => some w.due
      | some d => some (min d w.due)) none with
  | none => s
  | some d =>
    let s := (mine.filter (fun w => w.due == d)).foldl
      (fun s w => mEngine e (fun g => { g with xr := put 0 w.buffer w.word g.xr }) s) s
    mEng (fun a => { a with words := a.words.filter (fun w => !(w.engine == e && w.due == d)) }) s

/-- The active loops of an engine that a bundle ends, most recently started first (R228). -/
def loopsAt (g : Engine) (b : Nat) : List LoopRec := g.loops.filter (fun l => l.last == b)

/-- The end of a loop's pass: a staged one moves ROFS and its pass index on (R229). -/
def endPass (l : LoopRec) (g : Engine) : Engine :=
  match l.staged with
  | some (k, j) => { g with
      rofs := (g.rofs + 1) % 32
      loops := g.loops.map (fun x => if x.lc = l.lc then { x with staged := some (k, j + 1) } else x) }
  | none => g

/-- The most recently started loop that the issued bundle ends: its counter reaches zero and issue goes on at E + 1
(R227 to R229). -/
def exitLoop (g : Engine) : Engine :=
  match g.issued with
  | none => g
  | some b => match loopsAt g b with
    | l :: _ =>
      if look 0 g.lc l.lc ≤ 1 then
        let g := endPass l { g with lc := put 0 l.lc 0 g.lc }
        { g with loops := dropLoop l.lc g.loops, pc := b + 1 }
      else g
    | [] => g

/-- Whether the issued bundle ends a loop whose counter reaches zero there. -/
def exitDue (g : Engine) : Bool :=
  match g.issued with
  | some b => match loopsAt g b with
    | l :: _ => decide (look 0 g.lc l.lc ≤ 1)
    | [] => false
  | none => false

/-- The bundle after the issued one settled: loop-back, the next in memory, or a due branch target (R226 to R228). -/
def settleIssue (g : Engine) : Engine :=
  match g.issued with
  | none => g
  | some b =>
    let g := match loopsAt g b with
      | l :: _ => { (endPass l { g with lc := put 0 l.lc (look 0 g.lc l.lc - 1) g.lc }) with pc := l.start + 1 }
      | [] => { g with pc := b + 1 }
    match g.branch with
    | some (n, t) =>
      if n ≤ 1 then { g with branch := none, pc := t % 16384, issued := none, inDelay := false }
      else { g with branch := some (n - 1, t), pc := (b + 1) % 16384, issued := none, inDelay := true }
    | none => { g with pc := g.pc % 16384, issued := none, inDelay := false }

/-- Entries of a stream's schedule in its engine's programme (R208). -/
def schedule (s : State) (e st : Nat) : List SchedEntry :=
  match (img s).engines.find? (fun d => d.engine == e) with
  | some d => d.schedule.filter (fun x => x.stream == st)
  | none => []

/-- A stream of the slot table. -/
def streamDecl (s : State) (st : Nat) : StreamDecl := (img s).slots.streams.getD st {}

/-- The store address of a sleeve's byte at a stream's position: behind the writer as R181 keeps it, elsewhere modulo the
length (R200). -/
def streamAddr (s : State) (i : Nat) (p : Int) : Nat :=
  let v := sleeve s i
  let len := max 1 (lenBytes s i)
  (sleeveDecl s i).base +
    (if 0 ≤ p ∧ p.toNat < v.wcount ∧ v.passStart ≤ p.toNat + v.prevLen then byteOffset s i p.toNat
     else (p % (len : Int)).toNat)

/-- The byte of a sleeve at a stream's position (R200). -/
def streamByte (s : State) (i : Nat) (p : Int) : Byte := look 0 s.store.mem (streamAddr s i p)

/-- How the check codes of the `n` bytes of a static read came out, and at which of them: a free value (R183, R184;
log 129). -/
def staticEcc (s : State) (i : Nat) (p : Int) (n : Nat) : Ecc := freeEcc s (fun k => streamAddr s i (p + (k : Int))) n

/-- The next entry of a stream's schedule (R200). -/
def nextEntry (s : State) (e st : Nat) : Option SchedEntry :=
  let l := schedule s e st
  if l.isEmpty then none else l[look 0 (engine s e).used st % l.length]?

/-- A read slot takes its block from the sleeve; it lands `wait` cycles later (R200, R201). -/
def captureRead (e st wait : Nat) (s : State) : State :=
  match nextEntry s e st with
  | none => s
  | some x =>
    let p := look 0 (engine s e).pos st
    let i := (streamDecl s st).sleeve
    let bytes := (List.range x.bytes).map (fun (k : Nat) => streamByte s i (p + (k : Int)))
    let b : StreamBlock := {
      stream := st, due := s.time.cycle + wait, addr := x.addr, bytes := bytes, ecc := staticEcc s i p x.bytes }
    nextFree (nextFree (mEngine e (fun g => { g with
      pos := put 0 st (p + x.step) g.pos, used := upd 0 st (· + 1) g.used
      incoming := g.incoming ++ [b] }) s))

/-- A captured block lands in local memory; an error found in its words is reported (R183, R184, R201). -/
def landBlock (e st : Nat) (s : State) : State :=
  match (engine s e).incoming.find? (fun b => b.stream == st) with
  | none => s
  | some b =>
    eccEvent b.ecc (storeLocal e 0 b.addr b.bytes (mEngine e (fun g => { g with incoming := g.incoming.erase b }) s))

/-- STREAM_READ_LAND: the block of a read slot lands; one that no slot took before is taken now (R201). -/
def streamReadLand (e st : Nat) (s : State) : State :=
  if (engine s e).incoming.any (fun b => b.stream == st) then landBlock e st s
  else landBlock e st (captureRead e st 0 s)

/-- The block of a write slot that begins in CK_ENG cycle `due` leaves local memory (R200, R202). -/
def takeBlock (e st due : Nat) (s : State) : State :=
  match nextEntry s e st with
  | none => s
  | some x =>
    let bytes := loadLocal (engine s e) s.time.cycle x.addr x.bytes
    mEngine e (fun g => { g with
      pos := upd 0 st (· + x.step) g.pos, used := upd 0 st (· + 1) g.used
      outgoing := g.outgoing ++ [{ stream := st, due := due, addr := x.addr, bytes := bytes }] }) s

/-- STREAM_WRITE_TAKE: a write slot's block leaves local memory, 64 cycles before the slot (R202). -/
def streamWriteTake (e st : Nat) (s : State) : State := takeBlock e st (s.time.cycle + 64) s

/-- Every loop that the issued bundle ends with its counter at its last pass, the most recently started first (R228). -/
def exitLoops : Nat → Engine → Engine
  | 0, g => g
  | n + 1, g => if exitDue g then exitLoops n (exitLoop g) else g

/-- A bundle with STOP: issue ends until the next function start, after the loops that it ends (R192, R227). -/
def stopEngine (e : Nat) (s : State) : State :=
  pulse0 9 3 (mEngine e (fun g => { (settleIssue (exitLoops g.loops.length g)) with stopped := true }) s)

/-- A bundle with the seam mark parks its engine (R196). -/
def parkEngine (e : Nat) (s : State) : State := mEngine e (fun g => { g with parked := true }) s

/-- What a programmed engine holds at function start (R209). -/
def engineStart (d : EngineDecl) (params : List (Nat × Word)) : Engine :=
  { programmed := true, codeBytes := d.code.length, paramBase := d.paramBase
    mem := params.foldl (fun m p => putLocal p.1 (leBytes 4 p.2.toNat) m)
      (putLocal d.dataAddr d.data (putLocal 0 d.code [])) }

/-- The engines a selector reaches (R199). -/
def selected (s : State) (sel : Nat) : List Nat :=
  let all := (img s).engines.map EngineDecl.engine
  if sel < 192 then all.filter (· == sel)
  else if sel < 196 then all.filter (fun e => e / 48 == sel - 192)
  else if sel = 255 then all else []

/-- One word written by the seam port, in its cycle of the seam (R197, R198). -/
def portWrite (e addr : Nat) (w : Word) (k : Nat) (s : State) : State :=
  let x : LocalStore := { cycle := s.time.cycle + 24 + k, rank := 1, addr := addr, bytes := leBytes 4 w.toNat }
  mEngine e (fun g => { g with stores := insertStore x g.stores }) s

/-- The local addresses of an engine's live-parameter words (R199). -/
def paramAddrs (s : State) (e : Nat) : List Nat :=
  (img s).live.filterMap (fun r =>
    if r.target / 2 ^ 24 = 4 ∧ e ∈ selected s (fld r.target 16 8) then some ((engine s e).paramBase + 4 * fld r.target 0 16)
    else none)

/-- The words the control core has issued for an engine since the last seam: their number, addresses and values are free,
but that none is a live-parameter word, which only a commit changes (R19, R198; log 130). -/
def coreWords (e : Nat) (s : State) : State :=
  let f := s.free
  let n := Config.freeValue f
  let ws := (List.range n).map (fun k =>
    (Config.freeValue (f + 1 + 2 * k) % 524288 / 4 * 4, BitVec.ofNat 32 (Config.freeValue (f + 2 + 2 * k))))
  let ws := ws.filter (fun w => !(paramAddrs s e).contains w.1)
  { mEngine e (fun g => { g with portQueue := g.portQueue ++ ws }) s with free := f + 1 + 2 * n }

/-- The control-core words of an engine that find a cycle in this seam, after `k` parameters (R198). -/
def portQueued (s : State) (e k : Nat) : State :=
  let q := (engine s e).portQueue
  let n := min q.length (32 - k)
  let s := (List.range n).foldl (fun s i => portWrite e (q.getD i (0, 0)).1 (q.getD i (0, 0)).2 (k + i) s) s
  let late := q.length - n
  let s := mEngine e (fun g => { g with portQueue := q.drop n }) s
  if 0 < late then pulse0 9 2 (bumpBy 9 0x30 late s) else s

end Sys2Proof.Machine
end

