-- ==== Sys2Proof/Machine/Seam.lean ====
section
/-! DEFINITION. Live parameters (04 R100 to R105) and the seams at which they apply (08 R193 to R198). -/

namespace Sys2Proof.Machine

/-- Number of live parameters of the running image. -/
def liveCount (s : State) : Nat := (img s).live.length

/-- Declaration of a live parameter. -/
def liveRec (s : State) (n : Nat) : LiveRec := (img s).live.getD n {}

/-- Seams begun since function start (ENG +0x000). -/
def seamsBegun (s : State) : Nat := counter s 9 0x000

/-- A write of LIVE_SHADOWn (R100, R103, R104). -/
def liveWrite (n : Nat) (v : Word) (s : State) : State :=
  if !running s || decide (liveCount s ≤ n) then s
  else if s.live.commit.isSome then pulse0 4 2 (bump 4 0x00 s)
  else mLive (fun l => { l with shadow := put 0 n v l.shadow }) s

/-- Whether a value lies in a declared range (R36). -/
def LiveRec.admits (r : LiveRec) (v : Word) : Bool :=
  if r.kind = 0 then decide (r.min ≤ v.toNat) && decide (v.toNat ≤ r.max)
  else if r.kind = 1 then decide (sgn 32 r.min ≤ sgn 32 v.toNat) && decide (sgn 32 v.toNat ≤ sgn 32 r.max)
  else decide (v &&& w32 r.min = 0)

/-- A commit refused (R101, R104). -/
def refuseCommit (state firstBad : Nat) (s : State) : State :=
  pulse0 4 1 (bump 4 0x20 (mLive (fun l => { l with state := state, firstBad := firstBad, commit := none }) s))

/-- The seam of a commit registered now: the next, or the one after when it begins in less than 128 CK_FAB cycles
(R102). -/
def targetSeam (s : State) : Nat :=
  if engineCycle s / 2 * 2 + 256 ≤ seamsBegun s * s.eng.period then seamsBegun s else seamsBegun s + 1

/-- LIVE_COMMIT (R101 to R104). -/
def liveCommit (v : Word) (s : State) : State :=
  if !tbit v.toNat 0 then s
  else if !running s then refuseCommit 4 0 s
  else if s.live.commit.isSome then pulse0 4 3 s
  else mLive (fun l => { l with
    state := 1, target := targetSeam s % 2 ^ 32, commit := some { target := targetSeam s, checked := false } }) s

/-- The lowest live parameter whose shadow lies outside its range. -/
def firstBad (s : State) : Option Nat :=
  (List.range (liveCount s)).find? (fun n => !(liveRec s n).admits (look 0 s.live.shadow n))

/-- The range check of a pending commit ends (R101). -/
def rangeChecked (s : State) : State :=
  match s.live.commit with
  | some c =>
    if c.checked then s
    else match firstBad s with
      | some n => refuseCommit 3 n s
      | none => mLive (fun l => { l with commit := some { c with checked := true } }) s
  | none => s

/-- A trigger value applied at a seam (R325). -/
def applyTrigger (a t : Nat) (v : Word) (s : State) : State :=
  if tbit a 11 then mGroup (fld a 12 8) (fun x => { x with queued := x.queued ++ [(t, fld a 0 8, v)] }) s
  else mCond (fld a 12 8) (fun x => { x with queued := x.queued ++ [(t, fld a 0 8, v)] }) s

/-- A time-interval value applied at a seam: one of an input or a unit governs edges from T_s on, and a comparator settles
for at most 10 µs; one of an output acts at once (R338, R340, R352). -/
def applyTiu (a t : Nat) (v : Word) (s : State) : State :=
  let n := fld a 8 3
  let f := fld a 0 8
  if f < 0x20 then mInput n (fun x =>
    let x := { x with queued := x.queued ++ [(t, f, v)] }
    if f = 0 ∨ f = 2 then { x with
      settling := true, settleFrom := if t < x.settleUntil then x.settleFrom else t, settleUntil := t + 204800 } else x) s
  else if f < 0x40 then mUnit n (fun x => { x with queued := x.queued ++ [(t, f, v)] }) s
  else drivePin n (fun p => p.set f v) s

/-- A sleeve length applied at a seam, which its companion follows (R152, R179, R180). -/
def applyLength (i : Nat) (v : Word) (s : State) : State :=
  (pair s i).foldl (fun s j => mSleeve j (fun x => { x with active := v.toNat }) s) s

/-- A value of a unit outside the engine array applied at a seam whose first sample is `t` (R134, R179, R304, R325,
R338). -/
def applyValue (t target : Nat) (v : Word) (s : State) : State :=
  let a := target % 2 ^ 24
  match target / 2 ^ 24 with
  | 1 => if fld a 0 8 = 0 then applyRange (fld a 8 2) v.toNat t s else applyCoupling (fld a 8 2) v.toNat s
  | 2 => contextApply (fld a 10 10) (fld a 0 10) t v s
  | 3 => applyLength (fld a 0 11) v s
  | 5 => applyTrigger a t v s
  | 6 => applyTiu a t v s
  | _ => s

/-- The live parameters that a commit changes, ascending. -/
def changed (s : State) : List Nat :=
  (List.range (liveCount s)).filter (fun n => look 0 s.live.shadow n != look 0 s.live.active n)

/-- The words that changed engine parameters write into one engine, address and value, ascending (R198, R199). -/
def engineWords (s : State) (ns : List Nat) (e : Nat) : List (Nat × Word) :=
  ns.filterMap (fun n =>
    let t := (liveRec s n).target
    if t / 2 ^ 24 = 4 ∧ e ∈ selected s (fld t 16 8) then
      some ((engine s e).paramBase + 4 * fld t 0 16, look 0 s.live.shadow n)
    else none)

/-- The seam port of one engine in a seam (R197, R198). -/
def seamPort (ns : List Nat) (s : State) (e : Nat) : State :=
  let ws := engineWords s ns e
  let s := (List.range ws.length).foldl (fun s k => portWrite e (ws.getD k (0, 0)).1 (ws.getD k (0, 0)).2 k s) s
  portQueued (coreWords e s) e ws.length

/-- The present commit applies at seam `k`: the changed values in ascending order (R102). -/
def applyCommit (t : Nat) (ns : List Nat) (s : State) : State :=
  let s := ns.foldl (fun s n => applyValue t (liveRec s n).target (look 0 s.live.shadow n) s) s
  mLive (fun l => { l with active := l.shadow }) s

/-- The first seam applies the INITIAL range and coupling values (R137); those of other units are in force already. -/
def applyInitial (t : Nat) (s : State) : State :=
  ((List.range (liveCount s)).filter (fun n => decide ((liveRec s n).target / 2 ^ 24 = 1))).foldl (fun s n =>
    applyValue t (liveRec s n).target (w32 (liveRec s n).initial) s) s

/-- An engine as its registers show it at cycle 0 of a seam. -/
def latchSeam (g : Engine) (cycle : Nat) : Engine :=
  { g with seamBexp := bexpAt g cycle, seamPc := 32 * (settleIssue g).pc % 524288 }

/-- Whether a commit is due at seam `k`. -/
def commitDue (s : State) (k : Nat) : Bool := match s.live.commit with
  | some c => decide (c.target ≤ k)
  | none => false

/-- SEAM_START (R102, R194, R197, R198). -/
def seamStart (s : State) : State :=
  if !s.eng.running || s.eng.inSeam then s
  else
    let k := seamsBegun s
    let t := cycleBase s
    let s := mEng (fun a => { a with
      inSeam := true, engines := a.engines.map (fun p => (p.1, latchSeam p.2 s.time.cycle)) }) s
    let s := bump 9 0x000 (if running s then mLive (fun l => { l with seam := k % 2 ^ 32 }) s else s)
    let s := if commitDue s k then rangeChecked s else s
    let ns := if commitDue s k then changed s else []
    let s := ((img s).engines.map EngineDecl.engine).foldl (seamPort ns) s
    let s := if k = 0 then applyInitial t s else s
    let s := if commitDue s k then applyCommit t ns s else s
    calSeam t ((List.range 4).foldl (seamRelays t) s)

/-- SEAM_END (R103, R195 to R197). -/
def seamEnd (s : State) : State :=
  if !s.eng.inSeam then s
  else
    let s := mEng (fun a => { a with
      inSeam := false, engines := a.engines.map (fun p => (p.1, { p.2 with parked := false })) }) s
    if commitDue s (seamsBegun s - 1) then
      pulse0 4 0 (bump 4 0x10 (mLive (fun l => { l with commit := none, state := 2, applied := l.target }) s))
    else s

/-- LIVE_SHADOW_WRITE (R100). -/
def execLiveShadowWrite (n : Nat) (v : Word) (s : State) : Host.Outcome State Fault Refusal := act (liveWrite n v) s

/-- LIVE_COMMIT (R101). -/
def execLiveCommit (v : Word) (s : State) : Host.Outcome State Fault Refusal := act (liveCommit v) s

/-- LIVE_RANGE_CHECK_DONE (R101). -/
def execLiveRangeCheckDone (s : State) : Host.Outcome State Fault Refusal := act rangeChecked s

/-- SEAM_START (R197). -/
def execSeamStart (s : State) : Host.Outcome State Fault Refusal := act seamStart s

/-- SEAM_END (R197). -/
def execSeamEnd (s : State) : Host.Outcome State Fault Refusal := act seamEnd s

end Sys2Proof.Machine
end

