-- ==== Sys2Proof/Machine/Tiu.lean ====
section
/-! DEFINITION. The time-interval unit (14): edges, timestamps, calibration, intervals, frequency gates, records. -/

namespace Sys2Proof.Machine

/-- An event input. -/
def evt (s : State) (n : Nat) : EvtInput := look {} s.tiu.inputs n

/-- An interval unit. -/
def ivl (s : State) (u : Nat) : IntervalUnit := look {} s.tiu.units u

/-- Values that waited for `t` come into force in an input (R340); a new GATE starts its gates at its T_s (R351). -/
def EvtInput.apply (x : EvtInput) (t : Nat) : EvtInput :=
  let due := x.queued.filter (fun q => decide (q.1 ≤ t))
  let x := due.foldl (fun x q => match q.2.1 with
    | 0x00 => { x with threshold := sgn 13 q.2.2.toNat }
    | 0x01 => { x with slope := q.2.2.toNat % 4 }
    | 0x02 => { x with diff := q.2.2.toNat % 2 == 1 }
    | 0x03 => { x with tsEn := q.2.2.toNat % 2 == 1 }
    | 0x04 => { x with gate := q.2.2.toNat % 2 ^ 25, gateFrom := q.1, gateIndex := 0, gateFirst := none
                       gateLast := none, gateCount := 0, gateLoss := false, gateSettling := false }
    | _ => x) x
  { x with queued := x.queued.filter (fun q => !decide (q.1 ≤ t)) }

/-- Values that waited for `t` come into force in an interval unit; a change discards its held edges (R340). -/
def IntervalUnit.apply (x : IntervalUnit) (t : Nat) : IntervalUnit :=
  let due := x.queued.filter (fun q => decide (q.1 ≤ t))
  let x := due.foldl (fun x q =>
    let x := { x with heldStart := none, heldStop := none }
    match q.2.1 with
    | 0x20 => { x with mode := q.2.2.toNat % 4 }
    | 0x21 => { x with start := q.2.2.toNat % 8 }
    | 0x22 => { x with stop := q.2.2.toNat % 8 }
    | 0x23 => { x with startEdge := q.2.2.toNat % 4 }
    | 0x24 => { x with stopEdge := q.2.2.toNat % 4 }
    | _ => x) x
  { x with queued := x.queued.filter (fun q => !decide (q.1 ≤ t)) }

/-- The nominal bin width of a code (R346). -/
def nominalWidth (c : Nat) : Nat := if c < 432 then 8595 else if c < 488 then 8594 else 0

/-- The bin width of a code in use (R341, R346). -/
def binWidth (x : EvtInput) (c : Nat) : Nat := if x.valid then look 0 x.widths c else nominalWidth c

/-- POS(c) of R341. -/
def tapPos (x : EvtInput) (c : Nat) : Nat :=
  (2 * (List.range c).foldl (fun n i => n + binWidth x i) 0 + binWidth x c + 1024) / 2048

/-- The timestamp of an edge in fine ticks (R341). -/
def edgeTime (s : State) (n code : Nat) : Nat :=
  256 * cycleBase s - tapPos (evt s n) code - Config.tiuDelay n % 65536

/-- Whether a selector of rising, falling or both passes an edge (R337, R338). -/
def passes (sel : Nat) (rising : Bool) : Bool := if sel = 0 then rising else if sel = 1 then !rising else true

/-- Fine ticks within which a following edge is not seen: those below 2.0 ns (R342). -/
def deadTicks : Nat := 10485

/-- The sleeve that a unit writes. -/
def unitSleeve (s : State) (unit index : Nat) : Option Nat :=
  (List.range (img s).sleeves.length).find? (fun i =>
    (sleeveDecl s i).writerUnit == unit && (sleeveDecl s i).writerIndex == index)

/-- The 32 bytes of a record (R347). -/
def tiuBytes (kind flags index time value count lost : Nat) : List Byte :=
  leBytes 1 kind ++ leBytes 1 flags ++ leBytes 1 index ++ leBytes 1 (time % 256) ++ leBytes 2 (time / 256 / 2 ^ 64) ++
  leBytes 2 0 ++ leBytes 8 (time / 256 % 2 ^ 64) ++ leBytes 8 value ++ leBytes 4 count ++ leBytes 4 lost

/-- FLAGS of a record (R347). -/
def tiuFlags (rising loss settling uncal refs : Bool) : Nat :=
  b2n rising + 2 * b2n loss + 4 * b2n settling + 8 * b2n uncal + 16 * b2n refs

/-- A record joins its input's queue, or is discarded (R347). -/
def queueRecord (n : Nat) (bytes : List Byte) (time : Nat) (s : State) : State :=
  if 512 ≤ (evt s n).queue.length then
    pulse0 16 2 (bump 16 (0x40 * n + 0x20) (mInput n (fun x => { x with recordLost := true }) s))
  else mInput n (fun x => { x with
    queue := x.queue ++ [{ bytes := bytes, time := time / 256 }], lost := 0, recordLost := false }) s

/-- LOSS of a record of an input: it has lost edges or a record since its previous one (R342, R347). -/
def EvtInput.hasLost (x : EvtInput) : Bool := decide (0 < x.lost) || x.recordLost

/-- A TIMESTAMP record of a seen edge (R347). -/
def stampEdge (n : Nat) (e : HeldEdge) (s : State) : State :=
  let x := evt s n
  if x.tsEn then
    queueRecord n (tiuBytes 1 (tiuFlags e.rising x.hasLost e.settling e.uncal (refSettlingAt s (e.time / 256)))
      n e.time 0 (x.seq % 2 ^ 32) x.lost) e.time s
  else s

/-- An INTERVAL record (R347, R348). -/
def writeInterval (u : Nat) (a b : HeldEdge) (s : State) : State :=
  let v := ivl s u
  let n := v.stop
  let x := evt s n
  let s := mUnit u (fun v => { v with seq := v.seq + 1, loss := false }) (bump 16 (0x200 + 0x20 * u) s)
  queueRecord n (tiuBytes 2
    (tiuFlags b.rising (v.loss || x.hasLost) b.settling b.uncal (refSettlingAt s (a.time / 256)))
    u a.time (enc 64 ((b.time : Int) - a.time)) ((v.seq + 1) % 2 ^ 32) x.lost) a.time s

/-- Whether an edge of input `n` can be the start of a unit (R348). -/
def IntervalUnit.starts (v : IntervalUnit) (n : Nat) (rising : Bool) : Bool := v.start == n && passes v.startEdge rising

/-- A seen edge at an interval unit (R348, R349). -/
def intervalEdge (n : Nat) (e : HeldEdge) (s : State) (u : Nat) : State :=
  let v := ivl s u
  let isStart := v.starts n e.rising
  let isStop := v.stop == n && passes v.stopEdge e.rising
  if v.mode = 1 then
    let s := if isStart && v.heldStart.isNone then mUnit u (fun v => { v with heldStart := some e }) s
      else if isStop && v.heldStop.isNone then mUnit u (fun v => { v with heldStop := some e }) s else s
    match (ivl s u).heldStart, (ivl s u).heldStop with
    | some a, some b => writeInterval u a b (mUnit u (fun v => { v with heldStart := none, heldStop := none }) s)
    | _, _ => s
  else if v.mode = 2 then
    let s := if isStart then mUnit u (fun v => { v with heldStart := some e }) s else s
    if isStop then match (ivl s u).heldStart with
      | some a => writeInterval u a e (mUnit u (fun v => { v with heldStart := none }) s)
      | none => pulse0 16 1 (bump 16 (0x210 + 0x20 * u) s)
    else s
  else s

/-- A seen edge counts in its gate (R351). -/
def gateEdge (n : Nat) (e : HeldEdge) (s : State) : State :=
  mInput n (fun x => if x.gate = 0 then x
    else { x with
      gateFirst := if x.gateFirst.isNone then some e.time else x.gateFirst
      gateCount := if x.gateFirst.isNone then 0 else x.gateCount + 1
      gateLast := some e.time, gateSettling := x.gateSettling || e.settling }) s

/-- The gate in progress ends with its FREQUENCY record (R351). -/
def closeGate (n : Nat) (s : State) : State :=
  let x := evt s n
  let first := x.gateFirst.getD 0
  let value := if 0 < x.gateCount then x.gateLast.getD 0 - first else 0
  let s := queueRecord n (tiuBytes 3
    (tiuFlags false (x.gateLoss || x.hasLost) x.gateSettling (!x.valid) (refSettlingAt s (first / 256)))
    n first value x.gateCount x.lost) first s
  mInput n (fun x => { x with
    gateIndex := x.gateIndex + 1, gateFirst := x.gateLast, gateCount := 0, gateLoss := false, gateSettling := false }) s

/-- Gates of an input in force that are over at sample count `t`: gate k ends at T_s + (k + 1) × 1,024 × GATE (R351). -/
def gatesOver (x : EvtInput) (t : Nat) : Nat := if x.gate = 0 then 0 else (t - x.gateFrom) / (1024 * x.gate) - x.gateIndex

/-- The gates that are over at sample count `t` end, one after another (R351). -/
def closeGates (n t : Nat) (s : State) : State :=
  (List.range (gatesOver (evt s n) t)).foldl (fun s _ => closeGate n s) s

/-- An input brought to sample count `t`: the gates over, and the values applied up to it, in order (R340, R351). -/
def inputTo (n t : Nat) : Nat → State → State
  | 0, s => closeGates n t s
  | k + 1, s => match (evt s n).queued with
    | [] => closeGates n t s
    | q :: _ => if q.1 ≤ t then inputTo n t k (mInput n (fun x => x.apply q.1) (closeGates n q.1 s)) else closeGates n t s

/-- An edge in its turn at its own input: its gate, its sequence and record, or its loss (R347, R351). -/
def inputEdge (s : State) (e : TiuEdge) : State :=
  let n := e.input
  let s := inputTo n (e.edge.time / 256) (evt s n).queued.length s
  if e.seen then stampEdge n e.edge (mInput n (fun x => { x with seq := x.seq + 1 }) (gateEdge n e.edge s))
  else mInput n (fun x => { x with lost := min (x.lost + 1) 0xFFFFFFFF, gateLoss := true }) s

/-- The edges of one timestamp at an interval unit: losses, then starts before stops, lower inputs first (R342). -/
def unitEdges (es : List TiuEdge) (t : Nat) (s : State) (u : Nat) : State :=
  let s := mUnit u (fun v => v.apply t) s
  let v := ivl s u
  let s := if es.any (fun e => !e.seen && (v.start == e.input || v.stop == e.input)) then
      mUnit u (fun v => { v with loss := true }) s else s
  let starts := fun (e : TiuEdge) => v.starts e.input e.edge.rising
  let seen := es.filter TiuEdge.seen
  (seen.filter starts ++ seen.filter (fun e => !starts e)).foldl (fun s e => intervalEdge e.input e.edge s u) s

/-- The edges of one timestamp are handled (R342). -/
def handleEdges (es : List TiuEdge) (t : Nat) (s : State) : State :=
  (List.range 4).foldl (unitEdges es t) (es.foldl inputEdge s)

/-- The waiting edges with timestamps before `h` are handled in timestamp order (R342). -/
def releaseEdges (h : Nat) : Nat → State → State
  | 0, s => s
  | k + 1, s => match s.tiu.waiting with
    | [] => s
    | e :: _ =>
      if h ≤ e.edge.time then s
      else
        let same := fun (x : TiuEdge) => x.edge.time == e.edge.time
        releaseEdges h k (handleEdges (s.tiu.waiting.takeWhile same) (e.edge.time / 256)
          (mTiu (fun t => { t with waiting := t.waiting.dropWhile same }) s))

/-- The fine tick before which no edge can still arrive: one that latches from now on lies at most POS + DELAY, 4,096 +
65,535 fine ticks, before the present cycle (R341; log 131). -/
def edgeHorizon (s : State) : Nat := 256 * cycleBase s - 69631

/-- The edges whose turn is certain are handled (R342). -/
def settleEdges (s : State) : State :=
  if functionLive s then releaseEdges (edgeHorizon s) s.tiu.waiting.length s else s

/-- An edge takes its place in timestamp order, after those of equal time on lower inputs (R342). -/
def insertEdge (e : TiuEdge) : List TiuEdge → List TiuEdge
  | [] => [e]
  | x :: r => if x.edge.time < e.edge.time ∨ x.edge.time = e.edge.time ∧ x.input ≤ e.input then x :: insertEdge e r
    else e :: x :: r

/-- An edge waits for its turn (R342). -/
def pushEdge (e : TiuEdge) (s : State) : State := mTiu (fun t => { t with waiting := insertEdge e t.waiting }) s

/-- An edge is lost on an input (R342, R345). -/
def loseEdge (n : Nat) (e : HeldEdge) (s : State) : State :=
  let s := pulse0 16 0 (bump 16 (0x40 * n + 0x10) s)
  if functionLive s then pushEdge { input := n, edge := e, seen := false } s else s

/-- The trigger conditions of an event input whose polarity admits the edge (R307, R322). -/
def eventConds (n t : Nat) (rising : Bool) (s : State) : State :=
  (condsFor s .event n).foldl (fun s d => if passes d.polarity rising then raiseOcc d.cond t s else s) s

/-- An edge that an input sees: counted, sent to the trigger engine, and put in its turn (R341 to R349). -/
def seenEdge (n : Nat) (e : HeldEdge) (s : State) : State :=
  let s := mInput n (fun x => { x with lastEdge := some e.time }) (bump 16 (0x40 * n) s)
  pushEdge { input := n, edge := e, seen := true } (eventConds n e.time e.rising s)

/-- Whether an edge at sample count `t` lies in the settling time of a new threshold, 10 µs from its T_s (R340). -/
def EvtInput.settles (x : EvtInput) (t : Nat) : Bool :=
  decide (x.settleFrom ≤ t) && decide (t < x.settleUntil)

/-- An edge with the marks its input gives it (R340, R346). -/
def markEdge (s : State) (n t : Nat) (rising : Bool) : HeldEdge :=
  let x := evt s n
  { time := t, rising := rising, settling := x.settles (t / 256), uncal := !x.valid }

/-- EVENT_EDGE (R341, R342, R345). -/
def eventEdge (n : Nat) (rising : Bool) (code : Nat) (s : State) : State :=
  let t := edgeTime s n code
  let x := (evt s n).apply (t / 256)
  if (evt s n).calibrating then loseEdge n (markEdge s n t rising) s
  else if !functionLive s || !passes x.slope rising then s
  else if (match x.lastEdge with
      | some l => decide (t ≤ l + deadTicks)
      | none => false) then loseEdge n (markEdge s n t rising) s
  else seenEdge n (markEdge s n t rising) s

/-- Inputs begin a calibration (R345); one that runs goes on. -/
def startCal (mask : Nat) (s : State) : State :=
  ((List.range 8).filter (tbit mask)).foldl (fun s n => mInput n (fun x => { x with calibrating := true }) s) s

/-- TIU_CAL_DONE (R344, R346). -/
def calDone (n : Nat) (hits : List Nat) (s : State) : State :=
  if !(evt s n).calibrating then s
  else
    let used := ((hits.take 512).filter (fun h => h != 0)).length
    let s := mInput n (fun x => { x with calibrating := false, used := used }) s
    if used < 448 ∨ used = 512 then
      logEvent 0x201C 16 [n, used] (pulse0 16 4 (mInput n (fun x => { x with failed := true }) s))
    else pulse0 16 3 (mInput n (fun x => { x with
      failed := false, valid := true
      widths := (List.range 512).foldl (fun m i => put 0 i (hits.getD i 0) m) [] }) s)

/-- FREQUENCY_GATE_END: the gates of an input whose last edges have been handled end (R351). -/
def gateEnd (n : Nat) (s : State) : State :=
  if functionLive s then inputTo n (edgeHorizon s / 256) (evt s n).queued.length s else s

/-- TIU_RECORD_WRITE (R347): the oldest record goes to its sleeve; a stopped writer keeps it queued. -/
def recordWrite (n : Nat) (s : State) : State :=
  match (evt s n).queue, unitSleeve s 0x07 n with
  | r :: q, some i =>
    let a := appendRecord i r.time r.bytes s
    if (sleeve a.1 i).stopped then a.1 else mInput n (fun x => { x with queue := q }) a.1
  | _, _ => s

/-- An input at function start: settings at their defaults, tables and calibration kept (R338, R346). -/
def inputStart (x : EvtInput) : EvtInput :=
  { widths := x.widths, valid := x.valid, failed := x.failed, used := x.used, calibrating := x.calibrating }

/-- The unit at function start (R338). -/
def tiuStart (t : Tiu) : Tiu :=
  { inputs := t.inputs.foldl (fun m p => put {} p.1 (inputStart p.2) m) [], isel := t.isel, osel := t.osel }

/-- EVENT_EDGE (R341). -/
def execEventEdge (n : Nat) (rising : Bool) (code : Nat) (s : State) : Host.Outcome State Fault Refusal :=
  act (eventEdge n rising code) s

/-- TIU_CAL (R345). -/
def execTiuCal (v : Word) (s : State) : Host.Outcome State Fault Refusal := act (startCal v.toNat) s

/-- TIU_CAL_DONE (R346). -/
def execTiuCalDone (n : Nat) (hits : List Nat) (s : State) : Host.Outcome State Fault Refusal := act (calDone n hits) s

/-- FREQUENCY_GATE_END (R351). -/
def execFrequencyGateEnd (n : Nat) (s : State) : Host.Outcome State Fault Refusal := act (gateEnd n) s

/-- THR_SETTLE_END: the level that shows the settling falls; edges are marked by their own times (R340). -/
def execThrSettleEnd (n : Nat) (s : State) : Host.Outcome State Fault Refusal :=
  act (mInput n (fun x => { x with settling := false })) s

/-- OUTPUT_PULSE_END (R352). -/
def execOutputPulseEnd (o : Nat) (s : State) : Host.Outcome State Fault Refusal := act (endPulse o) s

/-- TIU_RECORD_WRITE (R347). -/
def execTiuRecordWrite (n : Nat) (s : State) : Host.Outcome State Fault Refusal :=
  act (fun s => checkCaptures (recordWrite n s)) s

end Sys2Proof.Machine
end

