-- ==== Sys2Proof/Machine/Life.lean ====
section
/-! DEFINITION. The stop of a function step by step (03 R75 to R80, 19 R451), the loss of power, and the start of a load. -/

namespace Sys2Proof.Machine

/-- What the recorder keeps without power: the MRAM, its counts, and what the flash holds (R422, R435). -/
def Recorder.kept (r : Recorder) : Recorder :=
  { r with fbView := [], queue := [], lost := 0, lostFrozen := 0, lostAfter := 0, freeze := none, vring := [], vnext := 0, vqueue := [],
           win := 0 }

/-- What a channel keeps without power: the positions of its latching relays (R137). -/
def Chan.kept (h : Chan) : Chan := { coupling := h.coupling, lining := h.lining }

/-- A slot with a digest written and then ENABLED: its bits program once, and an enabled slot takes no more (R46, R49). -/
def KeySlot.write (x : KeySlot) (d : Digest) : KeySlot :=
  if x.enabled then x else { x with digest := x.digest ||| d, enabled := true }

/-- A slot whose digest a loss of power left programmed in part (R46). -/
def KeySlot.cut (x : KeySlot) (d : Digest) : KeySlot := if x.enabled then x else { x with digest := x.digest ||| d }

/-- Key slots after a loss of power that may have cut a slot write short: digest bits programmed in part without ENABLED,
or the whole write; a revocation done or not done (R46). -/
def cutKeys (s : State) : Sparse KeySlot :=
  let done := Config.freeBool s.free
  match s.mbox.running with
  | some (.ksWrite k d) => upd {} k (fun x =>
      if done then x.write d else x.cut (d &&& BitVec.ofNat 256 (Config.freeValue s.free))) s.img.keys
  | some (.ksRevoke k) => upd {} k (fun x => { x with revoked := x.revoked || done }) s.img.keys
  | _ => s.img.keys

/-- Every rail derived from VIN48 is off (R53, R56, R79, R81): what remains is what VAUX3V3, the latching relays,
one-time-programmable memory, the MRAM and the flash keep. -/
def powerOff (into : SysState) (s : State) : State :=
  { time := { cycle := s.time.cycle }
    img := { keys := cutKeys s }
    life := { sys := into }
    pwr := { vin48 := s.pwr.vin48, vaux := s.pwr.vaux, stby := s.pwr.stby, cls := s.pwr.cls, testEn := s.pwr.testEn
             cause := s.pwr.cause, causeGroup := s.pwr.causeGroup, causeInput := s.pwr.causeInput
             causeRecorded := s.pwr.causeRecorded }
    chans := s.chans.foldl (fun m p => put {} p.1 p.2.kept m) []
    link := { perst := s.link.perst }
    recorder := s.recorder.kept
    pkg := { smbus := s.pkg.smbus }
    free := s.free + 1, outbox := s.outbox, pending := s.pending }

/-- The state in which rails are off after a fault (R56, R477). -/
def faultState (s : State) : SysState := if s.pwr.stby then .standby else .faultOff

/-- The power-up sequence starts; PWR_CLASS and TEST_EN are sampled once until a supply becomes invalid (R53, R54). -/
def startSequence (straps : Nat) (testEn : Bool) (s : State) : State :=
  mLife (fun l => { l with sys := .powerUp }) (mPwr (fun p =>
    { p with on := true, cls := some (p.cls.getD (straps % 8)), testEn := if p.cls.isSome then p.testEn else testEn }) s)

/-- Both supplies valid. -/
def suppliesValid (s : State) : Bool := s.pwr.vin48 && s.pwr.vaux

/-- The group has no open capture; a stop then leaves it DISARMED (R75). -/
def disarmAll (s : State) : State :=
  ((img s).groups.map GroupDecl.group).foldl (fun s g =>
    if (group s g).state == .holdoff then toDisarmed g s else disarmGroup g s) s

/-- The live state at step 1 of a stop or a restart (R78, R104). -/
def resetLive (s : State) : State :=
  mLive (fun l => { l with commit := none, state := 0, firstBad := 0, target := 0, applied := 0, seam := 0 }) s

/-- Step 1 of a stop of the function (R75, R77, R104, R136, R411, R451). -/
def stopStep1 (s : State) : State :=
  let s := resetLive (abortTurn true (disarmAll s))
  (List.range 4).foldl (fun s c => mChan c (fun h => { h with heldCoupling := none }) s) s

/-- The stop sequence begins (R75, R79, R451). -/
def beginStop (kind : StopKind) (into : SysState) (s : State) : State :=
  mLife (fun l => { l with sys := into, stop := some { kind := kind, step := 1, thenStandby := false } }) (stopStep1 s)

/-- What a restart does at its step 1 beside the stop: the live state, the snapshot, the recorder's freeze and the
record (R77, R78, R99, R111). -/
def restartStep1 (why : Nat) (s : State) : State :=
  let s := resetLive s
  let s := mSnap (fun p => { p with held := [], time := 0, seq := p.seq + 1, here := false }) { s with exceeded := [] }
  logEvent 0x1002 0 [why] (endFreeze s)

/-- A mailbox command that a restart ends is answered ABORTED (R77, R108, R111). -/
def finishMailbox (resp : Nat) (res : Sparse Word) (s : State) : State :=
  pulse0 5 0 (bump 5 0x10 (mMbox (fun m => { m with running := none, resp := resp, res := res }) s))

/-- A running mailbox command answered ABORTED (R77). -/
def abortMailbox (s : State) : State := if s.mbox.running.isSome then finishMailbox 0x0B [] s else s

/-- Whether a mailbox command runs that R80 lets complete first. -/
def storesSomething (s : State) : Bool := match s.mbox.running with
  | some (.flashErase _) | some (.flashProgram _ _) | some (.calStore _ _) | some (.ksWrite _ _) | some (.ksRevoke _) => true
  | _ => false

/-- The mailbox at the end of step 2 of a restart: a command still running is answered ABORTED, but for one that STBY
lets complete first (R77, R80). -/
def settleMailbox (q : StopSeq) (s : State) : State := if q.thenStandby && storesSomething s then s else abortMailbox s

/-- Whether a stop is that of a restart. -/
def StopKind.restarts : StopKind → Bool
  | .restart | .rootUnlock => true
  | _ => false

/-- A channel once samples no longer arrive: its windows have ended (R136, R146). -/
def Chan.stopped (h : Chan) : Chan :=
  { h with heldRange := none, turnRange := none, heldCoupling := none, switching := false, clamping := 0, clampNew := 0, deepAt := none
           lastClamp := none, window := false, deep := false, hull := none, hullOvr := false, hullAdj := false }

/-- Whether a group's captures are recorded to drives. -/
def driveBacked (s : State) (g : Nat) : Bool := match groupDecl s g with
  | some d => d.dest == .drive
  | none => false

/-- A group at the stop of the function: an open store capture closes at its last stored sample with
TRUNCATED_BY_RESTART, a provisional one is cancelled (R75, R76). -/
def stopGroup (s : State) (g : Nat) : State :=
  match (group s g).state with
  | .capturing => if driveBacked s g then s else toDisarmed g (closeCapture g (cycleBase s) 32 s)
  | .provisional => toDisarmed g (cancelProvisional g 0 s)
  | _ => toDisarmed g s

/-- Requests of units that have stopped leave the open traffic (R75). -/
def Purpose.outlives : Purpose → Bool
  | .ctxRead _ _ _ | .ctxWrite _ | .denCopy _ => false
  | _ => true

/-- The engines, the fixed units and the converter stop (R75, R451, R479). -/
def stopUnits (s : State) : State :=
  { s with
    eng := { s.eng with running := false, inSeam := false, issuing := false, words := [] }
    chans := s.chans.foldl (fun m p => put {} p.1 p.2.stopped m) []
    frames := [], traces := [], planes := [], ctxs := []
    store := { s.store with
      queues := s.store.queues.foldl (fun m p => put [] p.1 (p.2.filter (fun t => t.purpose.outlives)) m) []
      flights := s.store.flights.filter (fun f => f.txn.purpose.outlives) }
    img := { s.img with running := 0, vendor := false, major := 0, minor := 0, version := 0, digest := 0, fwDigest := 0 } }

/-- The step of the stop sequence moves on. -/
def setStep (n : Nat) (s : State) : State := mLife (fun l => { l with stop := l.stop.map (fun q => { q with step := n }) }) s

/-- FUNCTION_STOP_AT_SEAM: step 2 of a stop (R75 to R77, R345). -/
def stopAtSeam (s : State) : State :=
  match s.life.stop with
  | none => s
  | some q =>
    if q.step ≠ 1 then s
    else
      let s := stopRings (calStop ((List.range 16).foldl stopGroup s))
      let s := stopUnits (stopOutputs (progress s))
      let s := if q.kind.restarts then startCal 0xFF (settleMailbox q (endFreeze s)) else s
      setStep 2 s

/-- STOP_TIME of a drive-backed capture that a stop truncates: the last sample of its last complete stripe (R76). -/
def truncatedAt (s : State) (c : Capture) : Nat := match s.disk.vol.captures.find? (fun j => j.number == c.number) with
  | some j => max c.start (firstUnrecorded s j)
  | none => c.start

/-- A drive-backed capture closes at the end of the wait for its stripes (R76). -/
def truncateGroup (s : State) (g : Nat) : State :=
  match (group s g).state, (group s g).capture with
  | .capturing, some c => toDisarmed g (closeCapture g (truncatedAt s c) 32 s)
  | _, _ => s

/-- Step 3 of a stop ends: every command submitted has completed, or those that have not are given up and their
members fail (R75). -/
def drained (timeout : Bool) (s : State) : State :=
  match s.life.stop with
  | none => s
  | some q =>
    if q.step ≠ 2 then s
    else
      let s := (List.range 16).foldl truncateGroup (if timeout then s else completeAll s)
      let late := ((liveDrives s).map Prod.fst).filter (fun d => !(drive s d).cmds.isEmpty)
      let s := if timeout then dropCommands (late.foldl (fun s d => failMember d 0x10 false s) s) else s
      setStep 3 (beginClose s)

/-- The aperture closes, the built-in table runs, rings are torn down, and drives and, in a restart, the flash are held
in reset (R75 step 5, R78, R163, R451, R471, R474). -/
def closeStore (s : State) : State :=
  let controlled := match s.life.stop with
    | some q => q.kind == .controlled
    | none => false
  let s := dropCommands s
  { s with
    rings := [], sleeves := []
    trig := { s.trig with groups := s.trig.groups.foldl (fun m p => put {} p.1 { p.2 with notices := [] } m) [] }
    store := { s.store with
      imageTable := false, queues := [], flights := [], turn := 0, turnUsed := 0, alwaysWaiting := 63
      slotSeen := false, tagOrder := [], backlog := false }
    pwr := { s.pwr with analysis := s.pwr.analysis && !controlled }
    pkg := { s.pkg with dperst := 0, dperstDue := 0, xspiReset := s.pkg.xspiReset && controlled } }

/-- Step 4 of a stop is complete once no ring has a notice to take (R76): standby entry goes no further, with the drive
ports held in reset, and any other stop goes on to step 5 (R75, R79, R80, R471). -/
def finishClose (s : State) : State :=
  match s.life.stop with
  | none => s
  | some q =>
    if q.step ≠ 4 then s
    else
      let s := lastNotices s
      if noticesDue s then s
      else if q.kind == .standby || q.thenStandby then
        mPkg (fun k => { k with dperst := 0, dperstDue := 0 }) (mLife (fun l => { l with sys := .standbyEntry }) s)
      else setStep 5 (closeStore s)

/-- The close of the volume has ended (R75). -/
def closed (s : State) : State := finishClose (setStep 4 s)

/-- VOLUME_CLOSE_DONE and VOLUME_CLOSE_TIMEOUT (R75 step 4, R76). -/
def volumeClosed (ok : Bool) (s : State) : State :=
  match s.life.stop with
  | none => s
  | some q => if q.step ≠ 3 then s else closed (if ok then dropCommands (closeVolume s) else dropCommands s)

/-- A load of slot A begins (R67). -/
def beginLoad (s : State) : State :=
  let s := mLife (fun l => { l with sys := .loading, stop := none }) s
  let s := mLoader (fun l => { l with slot := 1, copy := [], began := s.time.cycle }) { s with accepted := none }
  mImg (fun r => { r with loading := true, codeB := 0 }) s

/-- Counters and status latches as a restart leaves them (R78). -/
def resetCounters (s : State) : State :=
  { s with
    snap := { s.snap with ctrs := s.snap.ctrs.filter (fun p => continues p.1) }
    stat := { s.stat with summary := 0, summaryFresh := 0, grp := [], grpFresh := [], pulses := [] } }

/-- The store is zeroed: no sleeve exists (R57, R75, R78). -/
def zeroStore (s : State) : State :=
  { s with sleeves := [], store := { s.store with mem := [] } }

/-- A load or a start is given up at standby entry (R80). -/
def abandonLoad (s : State) : State :=
  mImg (fun r => { r with loading := false }) (mLoader (fun l => { l with slot := 0, copy := [] }) { s with accepted := none })

/-- The safe state (R70). -/
def enterSafe (s : State) : State :=
  let s := mLoader (fun l => { l with slot := 0, copy := [] }) { s with accepted := none }
  let s := mImg (fun r => { r with loading := false, safe := true, running := 0 }) s
  let s := mLife (fun l => { l with sys := .safe }) (mPwr (fun p => { p with analysis := false }) s)
  logEvent 0x400A 24 [] s

/-- A start that a controlled-stop condition forestalls ends in STOPPED (R452). -/
def endStopped (s : State) : State :=
  let s := mImg (fun r => { r with safe := false }) (abandonLoad s)
  mLife (fun l => { l with sys := .stopped, stopReason := l.stopAtStart, stopAtStart := .none })
    (mPwr (fun p => { p with analysis := false }) s)

/-- The load ends with no slot accepted (R67, R452). -/
def loadFailed (s : State) : State := if s.life.stopAtStart == .none then enterSafe s else endStopped s

/-- The load begins when step 8 of R57 is complete (R57, R470). -/
def tryLoad (s : State) : State :=
  if s.life.sys == .powerUp && s.pwr.on && s.life.zeroed && s.loader.pointerRead && s.loader.boardDone && s.pwr.root &&
    !s.pwr.testEn && !s.pwr.staged then beginLoad s
  else s

/-- Step 6 of a restart begins once the recorder's queued records are written (R77). A root that has not relocked
within 1 s leaves the safe state in its place (R126). -/
def reload (s : State) : State :=
  match s.life.stop with
  | some q =>
    if q.step ≠ 6 ∨ recordWaits s = true then s
    else if s.life.rootGone then loadFailed (mLife (fun l => { l with stop := none }) s)
    else beginLoad s
  | none => s

/-- STORE_ZEROED: step 8 of R57, which a root given up before it ends in the safe state (R126), or the end of step 5 of
R75 or R451. A mailbox command that a restart out of a state without a function found running is answered ABORTED here
at the latest (DESIGN CHOICE, log 122). -/
def storeZeroed (s : State) : State :=
  match s.life.stop with
  | some q =>
    if q.step ≠ 5 then s
    else if q.kind.restarts then
      reload (setStep 6 (mPkg (fun k => { k with xspiReset := true }) (resetCounters (zeroStore (abortMailbox s)))))
    else mLife (fun l => { l with stop := none }) (zeroStore s)
  | none =>
    if s.store.table && !s.life.zeroed && s.life.sys == .powerUp then
      let s := mLife (fun l => { l with zeroed := true }) (zeroStore s)
      if s.life.rootGone then loadFailed s else tryLoad s
    else s

/-- CK_HK cycles of a load (IMG_LOAD_CYCLES). -/
def loadCycles (s : State) : Nat := min 0xFFFFFFFF ((s.time.cycle - s.loader.began) / 8)

/-- A slot refused with a code: recorded, and the next slot or the safe state (R50, R67). -/
def refuseSlot (code : Nat) (s : State) : State :=
  let slot := s.loader.slot
  let s := mImg (fun r => { r with
    codeA := if slot = 1 then code else r.codeA, codeB := if slot = 2 then code else r.codeB
    loadCycles := loadCycles s }) s
  let s := logEvent 0x3009 24 [slot - 1, code] s
  if slot = 1 then mLoader (fun l => { l with slot := 2, copy := [], began := s.time.cycle }) s
  else loadFailed s

/-- A restart out of a state without a function goes on at step 5 (R75); a mailbox command may still complete (R77,
log 122). -/
def restartIdle (kind : StopKind) (s : State) : State :=
  let s := mLife (fun l => { l with sys := .restarting, stop := some { kind := kind, step := 5, thenStandby := false } }) s
  closeStore (startCal 0xFF s)

/-- A restart begins, for a command or for a root unlock (R75, R126). -/
def startRestart (kind : StopKind) (s : State) : State :=
  let s := restartStep1 (if kind == .rootUnlock then 1 else 0) s
  let s := mLife (fun l => { l with stopReason := .none, stopAtStart := .none }) s
  match s.life.sys, s.life.stop with
  | .running, _ => beginStop kind .restarting s
  | _, some q => mLife (fun l => { l with sys := .restarting, stop := some { q with kind := kind } })
      (if q.step = 1 then s else startCal 0xFF s)
  | _, none => restartIdle kind s

/-- FUNCTION_STOP_AT_SEAM (R75). -/
def execFunctionStopAtSeam (s : State) : Host.Outcome State Fault Refusal := act stopAtSeam s

/-- NVME_DRAIN_DONE (R75). -/
def execNvmeDrainDone (s : State) : Host.Outcome State Fault Refusal := act (drained false) s

/-- NVME_DRAIN_TIMEOUT (R75). -/
def execNvmeDrainTimeout (s : State) : Host.Outcome State Fault Refusal := act (drained true) s

/-- VOLUME_CLOSE_DONE (R76). -/
def execVolumeCloseDone (s : State) : Host.Outcome State Fault Refusal := act (volumeClosed true) s

/-- VOLUME_CLOSE_TIMEOUT (R76). -/
def execVolumeCloseTimeout (s : State) : Host.Outcome State Fault Refusal := act (volumeClosed false) s

/-- STORE_ZEROED (R57). -/
def execStoreZeroed (s : State) : Host.Outcome State Fault Refusal := act storeZeroed s

end Sys2Proof.Machine
end

