-- ==== Sys2Proof/Machine/FunctionStart.lean ====
section
/-! DEFINITION. The start of a function (03 R57 step 10, R66, R72): every unit as an accepted image configures it. -/

namespace Sys2Proof.Machine

/-- The INITIAL values of the live parameters of one target class, target and value (R36). -/
def initials (m : Image) (cls : Nat) : List (Nat × Word) :=
  (m.live.filter (fun r => r.target / 2 ^ 24 == cls)).map (fun r => (r.target % 2 ^ 24, w32 r.initial))

/-- The last value given for a target, or a default. -/
def initialOf (vals : List (Nat × Word)) (target d : Nat) : Nat :=
  match vals.find? (fun p => p.1 == target) with
  | some p => p.2.toNat
  | none => d

/-- The bytes of a mask-pool entry (R246). -/
def maskBytes (x : MaskEntry) : List Byte := leBytes 2 x.bin ++ leBytes 2 x.l16 ++ leBytes 4 x.p32

/-- The engine that writes a frame stream's records: that of the write stream to its sleeve (R171, R248). -/
def writerEngine (m : Image) (sleeve : Nat) : Option Nat :=
  (m.slots.streams.find? (fun d => d.unit == 3 && d.dir == 0 && d.sleeve == sleeve)).map StreamDecl.index

/-- The masks that the loader copies into one engine, address and bytes (R247). -/
def engineMasks (m : Image) (e : Nat) : List (Nat × List Byte) :=
  (m.frames.filter (fun f => !f.channeliser && writerEngine m f.dst == some e)).map
    (fun f => (f.maskAddr, f.mask.flatMap maskBytes))

/-- The engines a selector of the image reaches (R199). -/
def selectedIn (m : Image) (sel : Nat) : List Nat :=
  let all := m.engines.map EngineDecl.engine
  if sel < 192 then all.filter (· == sel)
  else if sel < 196 then all.filter (fun e => e / 48 == sel - 192)
  else if sel = 255 then all else []

/-- The INITIAL words of one engine's parameters (R199). -/
def engineParams (m : Image) (d : EngineDecl) : List (Nat × Word) :=
  (initials m 4).filterMap (fun p =>
    if d.engine ∈ selectedIn m (fld p.1 16 8) then some (d.paramBase + 4 * fld p.1 0 16, p.2) else none)

/-- A programmed engine with its code, data, parameters and masks (R209, R247). -/
def loadEngine (m : Image) (d : EngineDecl) : Engine :=
  let g := engineStart d (engineParams m d)
  { g with mem := (engineMasks m d.engine).foldl (fun a p => putLocal p.1 p.2 a) g.mem }

/-- The engine array as the seam sequencer starts it (R193, R209). -/
def startEngines (m : Image) (t0 esel : Nat) : EngineArray :=
  { engines := m.engines.foldl (fun a d => put {} d.engine (loadEngine m d) a) []
    running := true, started := true, t0 := t0
    period := m.decls.seamPeriod, sched := m.decls.scheduleCycles, esel := esel }

/-- Trigger conditions with INITIAL values in force (R325). -/
def startConds (m : Image) : Sparse Cond :=
  m.conds.foldl (fun a d =>
    let q := ((initials m 5).filter (fun p => !tbit p.1 11 && fld p.1 12 8 == d.cond)).map (fun p => (0, fld p.1 0 8, p.2))
    put {} d.cond (({ condStart d with queued := q } : Cond).apply 0) a) []

/-- Trigger groups with INITIAL values in force (R318, R325). -/
def startGroups (m : Image) : Sparse Group :=
  m.groups.foldl (fun a d =>
    let q := ((initials m 5).filter (fun p => tbit p.1 11 && fld p.1 12 8 == d.group)).map (fun p => (0, fld p.1 0 8, p.2))
    put {} d.group (({ groupStart d with queued := q } : Group).apply 0) a) []

/-- The INITIAL values of one input, unit or output whose fields lie from `lo` to below `hi`, to apply at `t` (R338). -/
def tiuInitials (m : Image) (n lo hi t : Nat) : List (Nat × Nat × Word) :=
  ((initials m 6).filter (fun p => fld p.1 8 3 == n && decide (lo ≤ fld p.1 0 8) && decide (fld p.1 0 8 < hi))).map
    (fun p => (t, fld p.1 0 8, p.2))

/-- The time-interval unit with INITIAL values in force (R338, R351). -/
def startTiu (m : Image) (t : Nat) (u : Tiu) : Tiu :=
  let u := tiuStart u
  { u with
    inputs := (List.range 8).foldl (fun a n =>
      upd {} n (fun x => ({ x with queued := tiuInitials m n 0 0x20 t } : EvtInput).apply t) a) u.inputs
    units := (List.range 4).foldl (fun a n =>
      upd {} n (fun x => ({ x with queued := tiuInitials m n 0x20 0x40 t } : IntervalUnit).apply t) a) u.units
    outs := (List.range 6).foldl (fun a n =>
      upd {} n (fun x => (tiuInitials m n 0x40 0x100 t).foldl (fun p q => p.set q.2.1 q.2.2) x) a) u.outs }

/-- Contexts with INITIAL values in force (R283). -/
def startContexts (m : Image) : Sparse Context :=
  m.contexts.foldl (fun a d =>
    let v := ((initials m 2).filter (fun p => fld p.1 10 10 == d.index)).map (fun p => (fld p.1 0 10, p.2))
    put {} d.index (contextStart d v) a) []

/-- Numbered units, each at its own start. -/
def numbered {α β : Type} [DecidableEq β] (d : β) (f : α → β) (l : List α) : Sparse β :=
  (List.range l.length).foldl (fun a k => match l[k]? with
    | some x => put d k (f x) a
    | none => a) []

/-- A relay at a function start: where its position differs from the one wanted it is driven, and driven once more when a
retry was needed or the sense stays wrong, which is the fault of R138 (R137). A relay in its place is not driven. Answers
the state and the position then sensed (log 152). -/
def startRelay (c relay here want sensed : Nat) (retried : Bool) (s : State) : State × Nat :=
  if here = want then (s, here)
  else
    let s := driveRelay c relay want s
    (if retried || sensed != want then driveRelay c relay want s else s, sensed)

/-- The transits a relay needs at least at a function start (R137, R138). -/
def relayTransits (here want sensed : Nat) : Nat :=
  if here = want then 0 else if sensed = want then 1 else 2

/-- One channel at a function start: range and coupling at their INITIAL values, and what its relays sense after they
were driven, with a fault and its record where they sense anything else (R137, R138). A transit above those needed is
the retry of a relay that then came to its place, the lining relay's first (log 152). -/
def startChannel (m : Image) (info : StartInfo) (s : State) (c : Nat) : State :=
  let h := chan s c
  let range := initialOf (initials m 1) (256 * c) 2
  let want := initialOf (initials m 1) (256 * c + 1) 0
  let seenL := info.lining.getD c 0
  let seenC := info.coupling.getD c want
  let needL := relayTransits h.lining 0 seenL
  let extra := info.transits.getD c 0 - (needL + relayTransits h.coupling want seenC)
  let retryL := decide (0 < extra) && needL == 1
  let (s, gotL) := startRelay c 0 h.lining 0 seenL retryL s
  let (s, gotC) := startRelay c 1 h.coupling want seenC (decide (b2n retryL < extra)) s
  let s := mChan c (fun _ => {
    range := range, coupling := gotC, lining := gotL, fault := gotL != 0 || gotC != want }) s
  let s := if gotL = 0 then s else logEvent 0x3015 7 [c, 0, gotL] s
  if gotC = want then s else logEvent 0x3015 7 [c, 1, gotC] s

/-- Positions whose DREFCLK PORT_MODE uses (R471). -/
def usedPositions (m : Image) : Nat :=
  ((List.range 16).filter (positionUsed m.drives.modes)).foldl (fun n d => n + 2 ^ d) 0

/-- Ports that PORT_MODE uses. -/
def usedPorts (m : Image) : List Nat := (List.range 8).filter (fun p => positionUsed m.drives.modes (2 * p))

/-- Whether DREFCLK of every used position already runs. -/
def portsClocked (m : Image) (clocks : Nat) : Bool :=
  (List.range 16).all (fun d => !positionUsed m.drives.modes d || tbit clocks d)

/-- DREFCLK and the drive resets at a function start (R471): the resets of the used ports are released together, at once
where their clocks run on, and otherwise when the clocks have run long enough. -/
def startPorts (m : Image) (p : Package) : Package :=
  let used := (usedPorts m).foldl (fun n q => n + 2 ^ q) 0
  let ready := portsClocked m p.drefclk
  { p with drefclk := usedPositions m, dperst := if ready then used else 0, dperstDue := if ready then 0 else used }

/-- The engine rail at a function start (R446, R447). -/
def startRail (hold : Bool) (p : Power) : Power :=
  { p with
    avsHold := hold, analysis := true, tjPeak := p.tj, marginLow := p.marginLow && p.analysis
    setpoint := if hold then Config.avsHold else 850, floor := if hold then Config.avsHold else 0 }

/-- Block IMG for the image that starts from the slot being loaded (R43, IMG block). -/
def startedRegs (m : Image) (slot cycles : Nat) (r : ImgRegs) : ImgRegs :=
  { r with
    running := slot, safe := false, loading := false, loadCycles := cycles
    vendor := m.vendor, major := m.major, minor := m.minor, version := m.version, digest := m.digest, fwDigest := m.fwDigest }

/-- The units configured for the image. -/
def configure (m : Image) (t0 : Nat) (s : State) : State :=
  let init := numbered 0 (fun (r : LiveRec) => w32 r.initial) m.live
  { s with
    image := some m, accepted := none, exceeded := []
    img := startedRegs m s.loader.slot (loadCycles s) s.img
    loader := { s.loader with slot := 0, copy := [] }
    live := { shadow := init, active := init }
    eng := startEngines m t0 s.eng.esel
    sleeves := numbered {} sleeveStart m.sleeves
    frames := numbered {} frameStart m.frames
    traces := [], planes := [], ctxs := startContexts m
    trig := { conds := startConds m, groups := startGroups m, next := 1, gsel := s.trig.gsel, csel := s.trig.csel }
    tiu := startTiu m t0 s.tiu
    disk := diskStart m.drives s.disk
    rings := []
    store := { s.store with
      imageTable := true, queues := [], flights := [], turn := 0, turnUsed := 0, alwaysWaiting := 63, slotSeen := false, tagOrder := []
      backlog := false }
    pwr := startRail (m.policy.avs == 1) s.pwr
    pkg := startPorts m s.pkg
    life := { s.life with sys := .running, stop := none, stopReason := .none, stopAtStart := .none, awaitRoot := false } }

/-- Outputs whose level the function's polarities change (R352); `old` holds them as they stood before. -/
def startPins (old : Sparse OutPin) (s : State) : State :=
  (List.range 6).foldl (fun s o =>
    let b := (look {} s.tiu.outs o).level
    if (look {} old o).level = b then s else emit (.pin o b) s) s

/-- The groups that a function start arms (R72, R321). -/
def armedGroups (m : Image) : List Nat :=
  if m.policy.armAtStart = 1 then (m.groups.filter GroupDecl.armedAtStart).map GroupDecl.group else []

/-- The seam sequencer waits for a sample count that is a multiple of 1,024 (R193). -/
def waitStart (s : State) : State :=
  (List.range ((1024 - cycleBase s % 1024) % 1024 / 16)).foldl (fun s _ => passCycle s) s

/-- The start of an accepted image. -/
def startImage (m : Image) (info : StartInfo) (s : State) : State :=
  let s := waitStart s
  let slot := s.loader.slot
  let t0 := cycleBase s
  let s := startPins s.tiu.outs (configure m t0 s)
  let s := applyRefPolicy m.policy.refLock m.policy.refOut s
  let s := calStart info.copies s
  let s := (List.range 4).foldl (startChannel m info) s
  let s := (armedGroups m).foldl (fun s g => toArmed g t0 s) s
  logEvent 0x1003 24 [slot - 1, m.digest.toNat % 2 ^ 32] s

/-- FUNCTION_START: the accepted image starts, unless a controlled-stop condition arose during the load (R57, R452). -/
def functionStart (info : StartInfo) (s : State) : State :=
  match s.accepted with
  | none => s
  | some m =>
    if s.life.sys ≠ .loading ∨ !s.pwr.root then s
    else if s.life.stopAtStart ≠ .none then endStopped s
    else startImage m info s

/-- FUNCTION_START (R57). -/
def execFunctionStart (info : StartInfo) (s : State) : Host.Outcome State Fault Refusal := act (functionStart info) s

end Sys2Proof.Machine
end

