-- ==== Sys2Proof/Machine/Rails.lean ====
section
/-! DEFINITION. The rails that the module derives from VIN48, by their monitor inputs (19 R437). -/

namespace Sys2Proof.Machine

/-- The group of the rail that a monitor input watches, 4 for the intermediate bus; none where no rail is watched
(R437, R439). -/
def railGroup (input : Nat) : Option Nat :=
  if input = 2 then some 4
  else if 3 ≤ input ∧ input ≤ 5 then some 1
  else if input = 6 then some 2
  else if 7 ≤ input ∧ input ≤ 12 then some 3
  else none

end Sys2Proof.Machine
end

