-- ==== Sys2Proof/Machine/Power.lean ====
section
/-! DEFINITION. Supplies, rails, standby, the root synthesiser and restart requests (03 R51 to R81, 05 R126, 18, 19
R439 to R453). -/

namespace Sys2Proof.Machine

/-- A supply becomes valid (R51 to R53). -/
def supplyValid (vaux : Bool) (straps : Nat) (testEn : Bool) (s : State) : State :=
  if (if vaux then s.pwr.vaux else s.pwr.vin48) then s
  else
    let s := mPwr (fun p => if vaux then { p with vaux := true } else { p with vin48 := true }) s
    if !suppliesValid s then mLife (fun l => { l with sys := .off }) s
    else if s.pwr.stby then mLife (fun l => { l with sys := .standby }) s
    else startSequence straps testEn s

/-- Every queued record written as the rails fall (R81). -/
def drainRecords (s : State) : State :=
  (List.range (s.recorder.queue.length + 2)).foldl (fun s _ => writeRecord true true true s) s

/-- The power-loss record, which comes about only if its write completes before group 2 falls: a free choice (R81). -/
def powerLoss (s : State) : State :=
  if s.pwr.osc && decide (2 ≤ s.pwr.groups) && s.life.sys != .standbyEntry && !frozen s then
    let free := Config.freeBool s.free
    let s := nextFree s
    if free then drainRecords (logEvent 0x3005 20 [] s) else s
  else s

/-- A supply becomes invalid (R51, R54, R81, R477). -/
def supplyInvalid (vaux : Bool) (s : State) : State :=
  if !(if vaux then s.pwr.vaux else s.pwr.vin48) then s
  else
    let s := if vaux then s else powerLoss s
    let s := powerOff .off s
    let s := mPwr (fun p => { p with cls := none, testEn := false }) s
    if vaux then
      mPkg (fun k => { k with smbus := 0 }) (mPwr (fun p => { p with
        vaux := false, cause := .none, causeGroup := 0, causeInput := 0, causeRecorded := false }) s)
    else mPwr (fun p => { p with vin48 := false }) s

/-- Standby is entered with nothing of a function left to close (R80). -/
def standbyNow (s : State) : State :=
  endFreeze (abandonLoad (mLife (fun l => { l with sys := .standbyEntry, stop := none, awaitRoot := false }) s))

/-- STBY goes high (R79, R80). -/
def stbyHigh (s : State) : State :=
  if s.pwr.stby then s
  else
    let s := mPwr (fun p => { p with stby := true }) s
    if !s.pwr.on then (if suppliesValid s then mLife (fun l => { l with sys := .standby }) s else s)
    else if s.pwr.staged then s
    else match s.life.sys, s.life.stop with
      | .running, _ => beginStop .standby .standbyEntry (endFreeze (logEvent 0x1004 0 [] s))
      | .restarting, some q =>
        if q.step ≤ 4 then mLife (fun l => { l with stop := some { q with thenStandby := true } }) s else standbyNow s
      | .standbyEntry, _ => s
      | _, _ => standbyNow s

/-- STBY goes low (R53). -/
def stbyLow (straps : Nat) (testEn : Bool) (s : State) : State :=
  if !s.pwr.stby then s
  else
    let s := mPwr (fun p => { p with stby := false }) s
    if suppliesValid s && !s.pwr.on then startSequence straps testEn s else s

/-- Whether the work that precedes the turn-off of a standby entry is done (R79, R80). -/
def standbyReady (s : State) : Bool :=
  s.life.sys == .standbyEntry && !storesSomething s && !noticesDue s && !recordWaits s && s.recorder.vqueue.isEmpty &&
    (match s.life.stop with
     | some q => decide (4 ≤ q.step)
     | none => true)

/-- The rails derived from VIN48 are off after a standby entry; with STBY low again sequencing begins (R79, R53). -/
def standbyOff (s : State) : State :=
  if !standbyReady s then s
  else
    let s := powerOff .standby s
    if s.pwr.stby then s else startSequence 0 false s

/-- A rail group has come into regulation (R55, R345). -/
def groupUp (g : Nat) (s : State) : State :=
  if !s.pwr.on || s.pwr.staged || s.pwr.groups + 1 != g || decide (3 < g) then s
  else
    let s := mPwr (fun p => { p with groups := g }) s
    if g = 3 then
      let s := mPwr (fun p => { p with analysis := true }) s
      if s.pwr.testEn then s else startCal 0xFF s
    else s

/-- The cause latch set (R477). -/
def latchCause (c : PowerCause) (group input : Nat) (recorded : Bool) (s : State) : State :=
  mPwr (fun p => { p with cause := c, causeGroup := group, causeInput := input, causeRecorded := recorded }) s

/-- What goes with the power of group 3: the store, the rings, the drives and the image taken in (R439). -/
def unpowered (s : State) : State := { s with store := {}, sleeves := [], rings := [], disk := {}, accepted := none }

/-- The staged turn-off begins: group 3 goes off, and the RAIL_FAULT record is to become durable (R439). -/
def stageOff (s : State) : State :=
  let s := logEvent 0x4006 20 [s.pwr.causeGroup, s.pwr.causeInput] s
  let s := mPwr (fun p => { p with staged := true, groups := 2, analysis := false }) (stopUnits (stopOutputs s))
  unpowered (mLife (fun l => { l with sys := faultState s, stop := none, awaitRoot := false }) s)

/-- A rail of a group fails, named by its monitor input (R56, R437, R439). -/
def railFault (group input : Nat) (s : State) : State :=
  if !s.pwr.on || (s.pwr.staged && group == 3) then s
  else if railGroup input ≠ some group then s
  else if 2 ≤ s.pwr.groups ∧ group ≠ 2 ∧ group ≠ 4 then stageOff (latchCause .railFault group input true s)
  else powerOff (faultState s) (latchCause .railFault group input false s)

/-- The input trip and the hardware thermal shutdown (R442, R453). -/
def hardOff (c : PowerCause) (s : State) : State :=
  if !s.pwr.on then s else powerOff (faultState s) (latchCause c 0 0 false s)

/-- The staged turn-off ends (R439) in FAULT_OFF, and a cycle of STBY that fell within it does not start sequencing
(R56; DESIGN CHOICE, log 136). -/
def endStaged (s : State) : State := if s.pwr.staged then powerOff (faultState s) s else s

/-- The record that the cause latch leaves for this power-up (R439, R442, R453, R477). -/
def deferredRecord (s : State) : State :=
  let s' := mPwr (fun p => { p with causeRecorded := true }) s
  if s.pwr.causeRecorded then s
  else match s.pwr.cause with
    | .none => s
    | .railFault | .storeTrain => logEvent 0x4006 20 [s.pwr.causeGroup, s.pwr.causeInput] s'
    | .inputTrip => logEvent 0x4006 20 [0, 0] s'
    | .thermalShutdown => nextFree (logEvent 0x401F 20 [Config.freeValue s.free % 2 ^ 32] s')

/-- Step 4 of R57: the oven oscillator runs and the control core leaves reset (R57, R114, R115, R425, R471, R474). -/
def ovenRuns (mramOk : Bool) (found : MramFound) (s : State) : State :=
  if !s.pwr.on || s.pwr.osc || decide (s.pwr.groups < 2) then s
  else
    let s := mPwr (fun p => { p with osc := true }) s
    let s := mPkg (fun k => { k with drefclk := 0xFFFF, xspiReset := true }) s
    let s := deferredRecord (recorderPowerUp mramOk found s)
    firstModel Config.factoryAge.1 Config.factoryAge.2.1 Config.factoryAge.2.2 s

/-- Step 5 of R57: the root is locked, and the sample-time counter starts (R57, R130). -/
def rootLocks (s : State) : State :=
  if !s.pwr.osc || s.time.counting then s
  else
    let s := mPwr (fun p => { p with root := true, hkFromRoot := true }) s
    tryLoad (mTime (fun t => { t with count := 0, counting := true }) s)

/-- Step 7 of R57: training of the store ends (R185, R477). -/
def trainingDone (ok0 ok1 : Bool) (s : State) : State :=
  if !s.pwr.on || s.pwr.staged || s.pwr.testEn || s.store.table || s.pwr.groups != 3 then s
  else
    let s := mStore (fun a => { a with trained0 := ok0, trained1 := ok1 }) s
    if ok0 && ok1 then latchCause .none 0 0 false (mStore (fun a => { a with table := true }) s)
    else stageOff (latchCause .storeTrain 3 7 true s)

/-- The root loses lock (R126). A restart out of RUNNING or LOADING follows; in POWER_UP and in a restart the steps go
on, and the start waits for the root. SAFE and STOPPED are left by a restart command alone (R71, R452; DEDUCED, log 62);
a start that such a command brings waits for the root in the same way. -/
def rootLost (s : State) : State :=
  if !s.pwr.root then s
  else
    let s := logEvent 0x3014 6 [] (bump 6 0x10 (pulse0 6 6 s))
    let s := mPwr (fun p => { p with root := false, hkFromRoot := false }) s
    let s := mLife (fun l => { l with awaitRoot := true }) s
    match s.life.sys with
    | .running => startRestart .rootUnlock s
    | .loading => startRestart .rootUnlock (abandonLoad s)
    | _ => s

/-- The root has relocked (R126). -/
def rootBack (s : State) : State :=
  if s.pwr.root || !s.time.counting then s
  else
    let s := mPwr (fun p => { p with root := true, hkFromRoot := true }) s
    tryLoad (mLife (fun l => { l with awaitRoot := false, rootGone := false }) s)

/-- The root has not relocked 1 s after the unlock (R126): the safe state, in a restart once its step 5 is complete and
at power-up once the store is zeroed. In SAFE and STOPPED the state stays, and a later restart ends in the safe state
unless the root relocks before its step 6 (log 62). -/
def rootGivenUp (s : State) : State :=
  if !s.life.awaitRoot then s
  else
    let s := mLife (fun l => { l with rootGone := true }) s
    if s.life.sys == .loading || s.life.sys == .powerUp && s.life.zeroed then loadFailed s else s

/-- One record write ends. It releases a staged turn-off, or lets a waiting freeze begin (R426, R430, R439). -/
def recordWritten (verify copyVerify stateVerify : Bool) (s : State) : State :=
  if !s.pwr.osc || frozen s then s
  else
    let s := writeRecord verify copyVerify stateVerify s
    let s := if s.mbox.running == some .logFreeze then beginFreeze s else s
    if s.pwr.staged && !s.recorder.queue.any (fun r => r.code == 0x4006) then endStaged s else reload s

/-- A write-protected attempt at a key-guarded register (R88); the record's SOURCE is the register's block (log 20), and
its offset that from the start of BAR0 (DESIGN CHOICE, log 144). -/
def keyFail (off : Nat) (v : Word) (s : State) : State :=
  logEvent 0x200E (((blockAt off).map Prod.fst).getD 0xFF) [off, v.toNat] (bump 2 0 (pulse0 2 0 s))

/-- A write of a KG register: within a placket it is accepted and closes it (R88, R89). -/
def guarded (off : Nat) (v : Word) (f : State → State) (s : State) : State :=
  if placketOpen s then f { s with key := none } else keyFail off v { s with key := none }

/-- Whether a flash write of the mailbox runs (R74). -/
def flashWriting (s : State) : Bool := match s.mbox.running with
  | some (.flashErase _) | some (.flashProgram _ _) | some (.calStore _ _) => true
  | _ => false

/-- Whether a restart command is accepted (R74, R452). -/
def restartAllowed (s : State) : Bool :=
  (s.life.sys == .running || s.life.sys == .safe || s.life.sys == .stopped) && !flashWriting s &&
    !(s.life.sys == .stopped && s.life.stopReason == .thermal && decide (23882 ≤ s.pwr.tj))

/-- A restart requested within a placket (R74, R111). -/
def restartAsked (v : Word) (s : State) : State :=
  if !tbit v.toNat 0 then s
  else
    let ok := restartAllowed s
    let s := mMbox (fun m => { m with restartSeq := (m.restartSeq + 1) % 65536, restartResp := b2n (!ok) }) s
    let s := pulse0 5 3 s
    if ok then startRestart .restart s else s

/-- SUPPLY_VALID (R51). -/
def execSupplyValid (vaux : Bool) (straps : Nat) (testEn : Bool) (s : State) : Host.Outcome State Fault Refusal :=
  act (supplyValid vaux straps testEn) s

/-- SUPPLY_INVALID (R81). -/
def execSupplyInvalid (vaux : Bool) (s : State) : Host.Outcome State Fault Refusal := act (supplyInvalid vaux) s

/-- STBY_HIGH (R79). -/
def execStbyHigh (s : State) : Host.Outcome State Fault Refusal := act stbyHigh s

/-- STBY_LOW (R53). -/
def execStbyLow (straps : Nat) (testEn : Bool) (s : State) : Host.Outcome State Fault Refusal :=
  act (stbyLow straps testEn) s

/-- STANDBY_RAILS_OFF (R79). -/
def execStandbyRailsOff (s : State) : Host.Outcome State Fault Refusal := act standbyOff s

/-- RAIL_GROUP_IN_REGULATION (R55). -/
def execRailGroupInRegulation (group : Nat) (s : State) : Host.Outcome State Fault Refusal := act (groupUp group) s

/-- RAIL_FAULT (R56). -/
def execRailFault (group input : Nat) (s : State) : Host.Outcome State Fault Refusal := act (railFault group input) s

/-- OVEN_OSCILLATOR_RUNS (R57). -/
def execOvenOscillatorRuns (mramOk : Bool) (found : MramFound) (s : State) : Host.Outcome State Fault Refusal :=
  act (ovenRuns mramOk found) s

/-- ROOT_SYNTH_LOCK (R130). -/
def execRootSynthLock (s : State) : Host.Outcome State Fault Refusal := act rootLocks s

/-- STORE_TRAINING_DONE (R185). -/
def execStoreTrainingDone (ok0 ok1 : Bool) (s : State) : Host.Outcome State Fault Refusal := act (trainingDone ok0 ok1) s

/-- RESTART_REQUEST (R111). -/
def execRestartRequest (v : Word) (s : State) : Host.Outcome State Fault Refusal :=
  act (guarded (blockBase 5 + 0x010) v (restartAsked v)) s

/-- ROOT_UNLOCK (R126). -/
def execRootUnlock (s : State) : Host.Outcome State Fault Refusal := act rootLost s

/-- ROOT_RELOCK (R126). -/
def execRootRelock (s : State) : Host.Outcome State Fault Refusal := act rootBack s

/-- ROOT_RELOCK_TIMEOUT (R126). -/
def execRootRelockTimeout (s : State) : Host.Outcome State Fault Refusal := act rootGivenUp s

/-- LOG_RECORD_WRITTEN (R426). -/
def execLogRecordWritten (verify copyVerify stateVerify : Bool) (s : State) : Host.Outcome State Fault Refusal :=
  act (recordWritten verify copyVerify stateVerify) s

/-- The MRAM has not answered within 1 ms: the recorder is DEGRADED, and the MRAM's pages read as zero (R431, R434). While
frozen no write of MRAM is under way. -/
def mramSilent (s : State) : State :=
  if s.pwr.osc && !frozen s then degrade 3 { s with recorder := { s.recorder with unread := true } } else s

/-- MRAM_TIMEOUT (R434). -/
def execMramTimeout (s : State) : Host.Outcome State Fault Refusal := act mramSilent s

/-- FREEZE_TIMEOUT (R430). -/
def execFreezeTimeout (s : State) : Host.Outcome State Fault Refusal := act endFreeze s

/-- FALLBACK_PROGRAM (R435). -/
def execFallbackProgram (s : State) : Host.Outcome State Fault Refusal := act programFallback s

/-- INPUT_TRIP (R442). -/
def execInputTrip (s : State) : Host.Outcome State Fault Refusal := act (hardOff .inputTrip) s

/-- THERMAL_SHUTDOWN (R453). -/
def execThermalShutdown (s : State) : Host.Outcome State Fault Refusal := act (hardOff .thermalShutdown) s

/-- RAIL_FAULT_RECORD_WAIT_EXPIRY (R439). -/
def execRailFaultRecordWaitExpiry (s : State) : Host.Outcome State Fault Refusal := act endStaged s

end Sys2Proof.Machine
end

