-- ==== Sys2Proof/Machine/LoadBase.lean ====
section
/-! DEFINITION. Sections of an image as the loader reads them (02 R25 to R33): preambles, records, declarations, policy,
live parameters and bounds, each parsed and checked. -/

namespace Sys2Proof.Machine

/-- A section: its preamble's sizes, its fixed part and its records (R29). -/
structure Sect where
  kind : Nat := 0
  layout : Nat := 0
  recSize : Nat := 0
  count : Nat := 0
  fixedSize : Nat := 0
  spare : List Byte := []
  bytes : Nat := 0
  fixed : List Byte := []
  recs : List (List Byte) := []
  deriving DecidableEq, Repr, Inhabited

/-- `n` pieces of `size` bytes. -/
def pieces {α : Type} (size : Nat) : Nat → List α → List (List α)
  | 0, _ => []
  | n + 1, bs => bs.take size :: pieces size n (bs.drop size)

/-- Place and length of section `n` of an image, n from 0 (R27). -/
def sectAt (whole : List Byte) (n : Nat) : Nat × Nat := (le whole (0x104 + 64 * n) 4, le whole (0x108 + 64 * n) 4)

/-- A section read from its bytes. Records are cut only where the sizes fit the bytes (R29). -/
def readSect (bs : List Byte) : Sect :=
  let size := le bs 4 4
  let count := le bs 8 4
  let fixed := le bs 12 4
  let fits := decide (bs.length = 32 + fixed + size * count)
  { kind := le bs 0 2, layout := le bs 2 2, recSize := size, count := count, fixedSize := fixed
    spare := slice bs 16 16, bytes := bs.length
    fixed := slice bs 32 fixed
    recs := if fits && size != 0 then pieces size count (bs.drop (32 + fixed)) else [] }

/-- Section with code `n` of an image. -/
def sect (whole : List Byte) (n : Nat) : Sect :=
  let p := sectAt whole (n - 1)
  readSect (slice whole p.1 p.2)

/-- Sizes that each section's layout gives as numbers, RECORD_SIZE and FIXED_SIZE (R28). -/
def layoutSizes : Nat → Nat × Option Nat
  | 2 => (64, none) | 3 => (16, some 0) | 4 => (16, none) | 5 => (64, some 0) | 6 => (128, none)
  | 7 => (128, some 0) | 8 => (131136, some 0) | 9 => (64, none) | 10 => (64, some 0) | 11 => (16, some 0)
  | 12 => (64, some 64) | 13 => (24, some 0) | 14 => (0, some 32) | _ => (8, some 64)

/-- Whether a preamble meets R28 and R29. -/
def Sect.preambleOk (x : Sect) (n : Nat) : Bool :=
  decide (32 ≤ x.bytes) && x.kind == n && allZero x.spare && x.bytes == 32 + x.fixedSize + x.recSize * x.count &&
    (n == 1 || (x.layout == 1 && x.recSize == (layoutSizes n).1 && (x.recSize != 0 || x.count == 0) &&
      (match (layoutSizes n).2 with
       | some f => x.fixedSize == f
       | none => true)))

/-- The next 4 KiB boundary at or after an offset. -/
def pageUp (n : Nat) : Nat := (n + 4095) / 4096 * 4096

/-- Whether the padding after section `n`, n from 0, is zero (R25). -/
def paddingOk (whole : List Byte) (n : Nat) : Bool :=
  let p := sectAt whole n
  zeroAt whole (p.1 + p.2) (pageUp (p.1 + p.2) - (p.1 + p.2))

/-- A value that must lie in a range. -/
def within (lo hi v : Nat) : Bool := decide (lo ≤ v) && decide (v ≤ hi)

/-- Whether numbers repeat. -/
def distinct : List Nat → Bool
  | [] => true
  | a :: r => !r.contains a && distinct r

/-- A sum of fractions, numerator and denominator. -/
def fracSum (l : List (Nat × Nat)) : Nat × Nat := l.foldl (fun a b => (a.1 * b.2 + b.1 * a.2, a.2 * b.2)) (0, 1)

/-- Whether a sum of fractions is at most `k`. -/
def fracAtMost (k : Nat) (l : List (Nat × Nat)) : Bool := decide ((fracSum l).1 ≤ k * (fracSum l).2)

/-- The items of a list with their positions. -/
def indexed {α : Type} (l : List α) : List (Nat × α) := (List.range l.length).zip l

/-- DECLARATIONS parsed (R31, R33). -/
def parseDecls (x : Sect) : Decls :=
  let f := x.fixed
  { seamPeriod := le f 0 4, scheduleCycles := le f 4 4, powerMw := le f 8 4, slotTableLen := le f 12 4
    staticSlots := le f 16 4, refreshSlots := le f 20 4, openSlots := le f 24 4
    sleevesUsed := le f 0x1C 2, groupsUsed := le f 0x1E 2, contextsUsed := le f 0x20 2, liveCount := le f 0x22 2
    ringsUsed := le f 0x24 4, contextRate := le f 0x28 4, boundCount := le f 0x2C 4
    bounds := x.recs.map (fun r => { cls := le r 0 1, index := le r 2 2, bound := le r 4 4 }) }

/-- Whether the reserved bytes of DECLARATIONS are zero (R30). -/
def declsReserved (x : Sect) : Bool := zeroAt x.fixed 0x30 16 && x.recs.all (fun r => zeroAt r 1 1)

/-- POLICY parsed (R35). -/
def parsePolicy (x : Sect) : Policy :=
  let f := x.fixed
  { refLock := le f 0 1, refOut := le f 1 1, trim := le f 2 1, avs := le f 3 1, faultOnLog := le f 4 1
    faultOnWarn := le f 5 1, armAtStart := le f 6 1 }

/-- Whether POLICY meets R35 and R30. -/
def policyOk (x : Sect) : Bool :=
  let p := parsePolicy x
  within 0 2 p.refLock && within 0 2 p.refOut && within 0 1 p.trim && within 0 1 p.avs && within 0 1 p.faultOnLog &&
    within 0 1 p.faultOnWarn && within 0 1 p.armAtStart && zeroAt x.fixed 7 25

/-- A LIVE_PARAMS record parsed (R36). -/
def parseLive (r : List Byte) : LiveRec :=
  { kind := le r 2 1, target := le r 4 4, min := le r 8 4, max := le r 12 4, initial := le r 16 4 }

/-- Whether a record of LIVE_PARAMS is well formed with its INITIAL value in range (R36). -/
def liveRecOk (p : Nat × List Byte) : Bool :=
  let r := parseLive p.2
  le p.2 0 2 == p.1 && within 0 2 r.kind && zeroAt p.2 3 1 && zeroAt p.2 20 4 &&
    (if r.kind = 0 then decide (r.min ≤ r.max) else if r.kind = 1 then decide (sgn 32 r.min ≤ sgn 32 r.max) else true) &&
    r.admits (w32 r.initial)

/-- Whether the values a record admits lie within limits; unsigned for KIND 0, signed for KIND 1. -/
def LiveRec.limited (r : LiveRec) (kind : Nat) (lo hi : Int) : Bool :=
  let v := fun (n : Nat) => if kind = 1 then sgn 32 n else (n : Int)
  r.kind == kind && decide (lo ≤ v r.min) && decide (v r.max ≤ hi)

/-- A sleeve of an image, as declared. -/
def Image.sleeve (m : Image) (i : Nat) : SleeveDecl := m.sleeves.getD i {}

/-- A frame or channeliser stream of an image. -/
def Image.frame (m : Image) (k : Nat) : FrameDecl := m.frames.getD k {}

/-- Whether a number names a FRAME stream. -/
def Image.isFrame (m : Image) (k : Nat) : Bool := decide (k < m.frames.length) && !(m.frame k).channeliser

/-- Whether a sleeve is the spectra sleeve of a FRAME stream. -/
def Image.spectra (m : Image) (i : Nat) : Option FrameDecl := m.frames.find? (fun f => !f.channeliser && f.dst == i)

/-- Whether a sleeve has a given reader. -/
def SleeveDecl.hasReader (d : SleeveDecl) (unit index : Nat) : Bool :=
  d.readers.any (fun r => r.unit == unit && r.index == index)

/-- Whether a sleeve has a given guarded reader. -/
def SleeveDecl.hasGuard (d : SleeveDecl) (unit index : Nat) : Bool :=
  d.readers.any (fun r => r.unit == unit && r.index == index && r.guarded)

/-- The live-parameter records of one target class (R36). -/
def Image.liveOf (m : Image) (cls : Nat) : List LiveRec := m.live.filter (fun r => r.target / 2 ^ 24 == cls)

/-- The live-parameter record of a sleeve's length (R179). -/
def Image.lengthLive (m : Image) (i : Nat) : Option LiveRec := (m.liveOf 3).find? (fun r => r.target % 2 ^ 24 == i)

/-- Whether a bound record names a known path at or above its floor (R33). -/
def boundOk (m : Image) (b : Bound) : Bool :=
  match b.cls with
  | 1 => decide (128 ≤ b.bound) && m.groups.any (fun g => g.group == b.index)
  | 2 => decide (96 ≤ b.bound) && (m.spectra b.index).isSome
  | 3 => decide (64 ≤ b.bound) && m.contexts.any (fun c => c.index == b.index)
  | 4 => decide (64 ≤ b.bound) && m.planes.any (fun p => p.plane == b.index)
  | 5 => decide (64 ≤ b.bound) && m.traces.any (fun t => t.dst == b.index)
  | _ => false

/-- Whether the bounds pass (R31, R33). -/
def boundsOk (m : Image) (count : Nat) : Bool := m.decls.boundCount == count && m.decls.bounds.all (boundOk m)

end Sys2Proof.Machine
end

