-- ==== Sys2Proof/Machine/LoadStore.lean ====
section
/-! DEFINITION. The loader's checks of the slot table, the sleeves, the DMA layout and the drive policy (07 R158 to R179,
08 R203, 15 R378, 16 R388). -/

namespace Sys2Proof.Machine

/-- The raw slot entries of SLOT_TABLE (R158). -/
def slotEntries (x : Sect) : List Nat := (pieces 4 ((x.fixed.length - 64) / 4) (x.fixed.drop 64)).map leVal

/-- A slot entry parsed; a refused kind reads as open and is refused before use (R158, R162). -/
def parseSlot (w : Nat) : SlotKind :=
  if fld w 30 2 = 1 then .static (fld w 0 10) else if fld w 30 2 = 2 then .refresh else .openSlot

/-- A stream record parsed (R160). -/
def parseStream (r : List Byte) : StreamDecl :=
  { unit := le r 2 1, dir := le r 3 1, sleeve := le r 4 2, index := le r 6 2, bytesPerPass := le r 8 4, lag := le r 12 4 }

/-- SLOT_TABLE parsed (R158). -/
def parseSlots (x : Sect) : SlotTable :=
  { weights := (slice x.fixed 4 6).map BitVec.toNat, slots := (slotEntries x).map parseSlot
    streams := x.recs.map parseStream }

/-- A reader entry parsed (R170). -/
def parseReader (r : List Byte) : ReaderDecl :=
  { unit := le r 0 1, guarded := tbit (le r 1 1) 0, index := le r 2 2 }

/-- The format of a code (R170). -/
def formatOf (c : Nat) : SleeveFormat := if c = 1 then .p12 else if c = 2 then .u16 else if c = 3 then .flag else .result

/-- A sleeve record parsed (R170). -/
def parseSleeve (r : List Byte) : SleeveDecl :=
  let kind := le r 2 1
  { kind := if kind = 1 then .capture else if kind = 2 then .stream else .continuous
    format := formatOf (le r 3 1)
    base := le r 4 8, maxGranules := le r 0xC 4, granules := le r 0x10 4, companion := le r 0x14 2
    writerUnit := le r 0x16 1, hostRead := le r 0x17 1 == 1, writerIndex := le r 0x18 2
    readers := (pieces 4 (min 8 (le r 0x1A 1)) (r.drop 0x20)).map parseReader }

/-- Whether the slot counts meet R32. -/
def slotSumOk (d : Decls) (x : Sect) : Bool :=
  let kinds := (slotEntries x).map (fun w => fld w 30 2)
  d.staticSlots + d.refreshSlots + d.openSlots == d.slotTableLen && kinds.count 1 == d.staticSlots &&
    kinds.count 2 == d.refreshSlots && kinds.count 0 == d.openSlots

/-- Whether a unit may write a sleeve through static slots (R171). -/
def staticWriter (u : Nat) : Bool := [1, 2, 3, 5, 6, 7].contains u

/-- Whether a unit may read a sleeve through static slots (R171). -/
def staticReader (u : Nat) : Bool := u == 3 || u == 4

/-- Whether a unit may write a sleeve as open traffic (R171). -/
def openWriter (u : Nat) : Bool := [0x11, 0x13, 0x14, 0x15].contains u

/-- Whether a unit may read a sleeve as open traffic (R171). -/
def openReader (u : Nat) : Bool := [0x10, 0x11, 0x13, 0x15].contains u

/-- How many indices a unit has (R171). -/
def unitIndices (u : Nat) : Nat :=
  match u with
  | 1 | 2 => 4 | 3 => 192 | 4 => 1 | 5 => 32 | 6 => 16 | 7 => 8 | 0x10 => 32 | 0x11 => 8192 | 0x13 => 1024 | 0x14 => 8
  | 0x15 => 1 | _ => 0

/-- Places of the slots that carry a stream a test admits. -/
def slotsWhere (t : SlotTable) (ok : Nat → Bool) : List Nat :=
  (indexed t.slots).filterMap (fun p => match p.2 with
    | .static k => if ok k then some p.1 else none
    | _ => none)

/-- Whether places of a pass of `len` slots lie at least 8 apart, counted cyclically (R203). -/
def spaced (len : Nat) (l : List Nat) : Bool :=
  (List.zip l (l.drop 1 ++ [l.headD 0 + len])).all (fun p => decide (p.1 + 8 ≤ p.2) || l.length ≤ 1)

/-- Bytes a converter stream must move in a pass of `len` slots: 30.72, 40.96 or 0.64 GB/s over len / 640 MHz (R162). -/
def converterBytes (m : Image) (d : StreamDecl) (len : Nat) : Nat :=
  if d.unit = 1 then (if (m.sleeve d.sleeve).format == .u16 then 64 * len else 48 * len)
  else if d.unit = 2 then len
  else 0

/-- Whether a stream record meets R160 and R162. -/
def streamOk (m : Image) (len : Nat) (p : Nat × List Byte) : Bool :=
  let d := parseStream p.2
  let v := m.sleeve d.sleeve
  let n := (slotsWhere m.slots (· == p.1)).length
  le p.2 0 2 == p.1 && decide (d.sleeve < m.sleeves.length) && decide (d.index < unitIndices d.unit) &&
    (if d.dir = 0 then staticWriter d.unit && d.lag == 0 && v.writerUnit == d.unit && v.writerIndex == d.index
     else d.dir == 1 && staticReader d.unit && v.hasReader d.unit d.index) &&
    decide (1 ≤ n) && decide (d.bytesPerPass ≤ n * 4096) && decide (converterBytes m d len ≤ d.bytesPerPass)

/-- Whether every static writer and reader that SLEEVES names has its stream (R162). -/
def sleeveStreams (m : Image) (p : Nat × SleeveDecl) : Bool :=
  let has := fun (dir u i : Nat) =>
    m.slots.streams.any (fun d => d.sleeve == p.1 && d.dir == dir && d.unit == u && d.index == i)
  (!staticWriter p.2.writerUnit || has 0 p.2.writerUnit p.2.writerIndex) &&
    p.2.readers.all (fun r => !staticReader r.unit || has 1 r.unit r.index)

/-- Code 0x16: whether the slot table passes R162 and R203. -/
def slotTableOk (m : Image) (x : Sect) : Bool :=
  let len := m.decls.slotTableLen
  let es := slotEntries x
  x.fixedSize == 64 + 4 * len && within 1 1024 x.count && le x.fixed 0 4 == len && m.slots.weights.all (fun b => within 1 15 b) &&
    zeroAt x.fixed 10 54 && len % 1024 == 0 && within 1 65536 len && m.decls.seamPeriod / 2 % len == 0 &&
    es.all (fun w => fld w 30 2 != 3 && fld w 10 20 == 0 &&
      (if fld w 30 2 = 1 then decide (fld w 0 10 < x.count) else fld w 0 10 == 0)) &&
    (pieces 64 (len / 64) m.slots.slots).all (fun g => decide (5 ≤ g.count .refresh)) &&
    (indexed x.recs).all (streamOk m len) && (indexed m.sleeves).all (sleeveStreams m) &&
    (List.range 192).all (fun e => spaced len (slotsWhere m.slots (fun k =>
      (m.slots.streams.getD k {}).unit == 3 && (m.slots.streams.getD k {}).index == e)))

/-- Whether a P12 or FLAG sleeve and its companion name each other and agree (R151, R172, R173). -/
def companionOk (m : Image) (i : Nat) (d : SleeveDecl) : Bool :=
  let o := m.sleeve d.companion
  let other : SleeveFormat := if d.format == .p12 then .flag else .p12
  let pair := decide (d.companion < m.sleeves.length) && o.format == other && o.companion == i &&
    o.maxGranules == d.maxGranules && o.granules == d.granules && o.writerIndex == d.writerIndex
  match d.format with
  | .p12 => pair && d.writerUnit == 1
  | .flag => pair && d.writerUnit == 2
  | _ => d.companion == 0xFFFF

/-- Whether a sleeve record meets R170 to R173. -/
def sleeveOk (m : Image) (p : Nat × List Byte) : Bool :=
  let d := parseSleeve p.2
  let n := le p.2 0x1A 1
  le p.2 0 2 == p.1 && within 0 2 (le p.2 2 1) && within 0 3 (le p.2 3 1) && d.base % 4096 == 0 &&
    within 1 d.maxGranules d.granules && within 0 1 (le p.2 0x17 1) && within 0 8 n && zeroAt p.2 0x1B 5 &&
    zeroAt p.2 (0x20 + 4 * n) (32 - 4 * n) &&
    (staticWriter d.writerUnit || openWriter d.writerUnit) && decide (d.writerIndex < unitIndices d.writerUnit) &&
    (d.writerUnit != 1 || d.format == .p12 || d.format == .u16) && (d.writerUnit != 2 || d.format == .flag) &&
    (d.format != .u16 || d.writerUnit == 1) &&
    d.readers.all (fun r => (staticReader r.unit || openReader r.unit) && decide (r.index < unitIndices r.unit) &&
      !(r.guarded && staticReader r.unit)) &&
    (pieces 4 n (p.2.drop 0x20)).all (fun b => within 0 1 (le b 1 1)) && companionOk m p.1 d

/-- First and past-the-end address of a sleeve's reserved range. -/
def SleeveDecl.range (d : SleeveDecl) : Nat × Nat := (d.base, d.base + d.maxGranules * d.format.granule)

/-- Whether reserved ranges stay clear of each other (R173). -/
def apart : List (Nat × Nat) → Bool
  | [] => true
  | a :: r => r.all (fun b => decide (a.2 ≤ b.1) || decide (b.2 ≤ a.1)) && apart r

/-- The largest LAG of a sleeve's static readers. -/
def largestLag (m : Image) (i : Nat) : Nat :=
  (m.slots.streams.filter (fun d => d.sleeve == i && d.dir == 1)).foldl (fun n d => max n d.lag) 0

/-- Whether a length live parameter meets R179. -/
def lengthLiveOk (m : Image) (r : LiveRec) : Bool :=
  let i := r.target % 2 ^ 24
  let d := m.sleeve i
  decide (i < m.sleeves.length) && decide (i < 2048) && d.format != .flag && r.kind == 0 && decide (1 ≤ r.min) &&
    decide (largestLag m i + d.format.granule ≤ r.min * d.format.granule) && decide (r.max ≤ d.maxGranules) &&
    r.initial == d.granules

/-- Code 0x17: whether the sleeves pass R173 and R179. -/
def sleevesOk (m : Image) (x : Sect) : Bool :=
  x.count == m.decls.sleevesUsed && within 0 2048 m.decls.sleevesUsed && (indexed x.recs).all (sleeveOk m) &&
    (m.sleeves.map SleeveDecl.range).all (fun r => decide (r.2 ≤ 48 * 2 ^ 30)) && apart (m.sleeves.map SleeveDecl.range) &&
    (m.liveOf 3).all (lengthLiveOk m) && distinct ((m.liveOf 3).map LiveRec.target)

/-- A ring record parsed (R388). -/
def parseRing (r : List Byte) : RingDecl :=
  let k := le r 2 1
  { ring := le r 0 2, kind := if k = 1 then .notice else if k = 2 then .xfer else .stream
    sleeve := le r 4 2, flushUs := le r 6 2 }

/-- A declared ring of an image. -/
def Image.ring (m : Image) (q : Nat) : Option RingDecl := m.rings.find? (fun d => d.ring == q)

/-- Whether a ring record meets R388. -/
def ringOk (m : Image) (r : List Byte) : Bool :=
  let d := parseRing r
  let v := m.sleeve d.sleeve
  decide (d.ring < 8192) && within 0 2 (le r 2 1) && zeroAt r 3 1 && zeroAt r 8 8 &&
    (match d.kind with
     | .stream => decide (d.sleeve < m.sleeves.length) && v.hasReader 0x11 d.ring
     | .notice => d.sleeve == 0xFFFF && d.flushUs == 0
     | .xfer => d.flushUs == 0 && (d.sleeve == 0xFFFF || (decide (d.sleeve < m.sleeves.length) && v.kind == .stream &&
         v.format == .result && v.writerUnit == 0x11 && v.writerIndex == d.ring)))

/-- Whether a sleeve's DMA entries name rings of the kinds they need (R388). -/
def sleeveRings (m : Image) (d : SleeveDecl) : Bool :=
  d.readers.all (fun r => r.unit != 0x11 || (match m.ring r.index with
    | some q => q.kind == .stream || (q.kind == .xfer && !r.guarded)
    | none => false)) &&
  (d.writerUnit != 0x11 || (match m.ring d.writerIndex with
    | some q => q.kind == .xfer
    | none => false))

/-- Whether numbers strictly rise. -/
def rising : List Nat → Bool
  | a :: b :: r => decide (a < b) && rising (b :: r)
  | _ => true

/-- Code 0x20: whether the DMA layout passes R388. -/
def dmaLayoutOk (m : Image) (x : Sect) : Bool :=
  within 0 8192 m.decls.ringsUsed && within 0 m.decls.ringsUsed x.count && x.recs.all (ringOk m) &&
    rising (m.rings.map RingDecl.ring) && m.sleeves.all (sleeveRings m) &&
    m.groups.all (fun g => g.rings.all (fun q => match m.ring q with
      | some d => d.kind == .notice
      | none => false))

/-- A recording stream parsed (R378). -/
def parseRecStream (r : List Byte) : RecStreamDecl :=
  { capture := le r 1 1 == 1, sleeves := (pieces 2 (min 8 (le r 2 1)) (r.drop 8)).map leVal }

/-- DRIVE_POLICY parsed (R378). -/
def parseDrives (x : Sect) : DrivePolicy :=
  { modes := (slice x.fixed 0 8).map (fun b => fld b.toNat 0 4)
    members := le x.fixed 8 1, parity := le x.fixed 9 1, volumeMode := le x.fixed 10 1
    memberMap := (slice x.fixed 0x10 16).map BitVec.toNat
    streams := x.recs.map parseRecStream }

/-- Whether a listed sleeve of a recording stream meets R378. -/
def recSleeveOk (m : Image) (k : Nat) (d : RecStreamDecl) (i : Nat) : Bool :=
  let v := m.sleeve i
  decide (i < m.sleeves.length) && v.hasGuard 0x10 k && (v.format != .p12 || (m.sleeve v.companion).hasGuard 0x10 k) &&
    (d.capture == (v.kind == .capture))

/-- Whether a recording stream's record meets R378. -/
def recStreamOk (m : Image) (p : Nat × List Byte) : Bool :=
  let d := parseRecStream p.2
  let n := le p.2 2 1
  le p.2 0 1 == p.1 && within 0 1 (le p.2 1 1) && within 1 8 n && zeroAt p.2 3 5 && zeroAt p.2 0x18 40 &&
    (slice p.2 (8 + 2 * n) (16 - 2 * n)).all (· == 0xFF) && d.sleeves.all (recSleeveOk m p.1 d)

/-- Code 0x21: whether the drive policy passes R378. -/
def drivePolicyOk (m : Image) (x : Sect) : Bool :=
  let d := m.drives
  let map := d.memberMap.take d.members
  (slice x.fixed 0 8).all (fun b => within 0 2 (fld b.toNat 0 2) && within 0 2 (fld b.toNat 2 2) && decide (b.toNat < 16)) &&
    within 0 16 d.members && within 0 2 d.parity && (decide (d.parity < d.members) || (d.members == 0 && d.parity == 0)) &&
    within 0 2 d.volumeMode && zeroAt x.fixed 11 5 && zeroAt x.fixed 32 32 &&
    (d.memberMap.drop d.members).all (· == 0xFF) && distinct map &&
    map.all (fun n => decide (n < 16) && positionUsed d.modes n) &&
    within 0 32 x.count && (d.members != 0 || x.count == 0) && (indexed x.recs).all (recStreamOk m) &&
    distinct (d.streams.flatMap (fun r => r.sleeves.eraseDups))

end Sys2Proof.Machine
end

