-- ==== Sys2Proof/Machine/LoadEngine.lean ====
section
/-! DEFINITION. The loader's checks of the engine code, the exchange routes and the spur masks (08 R199, R208 to R212,
10 R246 to R248). -/

namespace Sys2Proof.Machine

/-- A stream-schedule entry parsed (R208). -/
def parseEntry (r : List Byte) : SchedEntry :=
  { stream := le r 0 2, addr := le r 4 4, bytes := le r 8 4, step := sgn 32 (le r 12 4) }

/-- An ENGINE_CODE record parsed with what it names in the blob area (R208). -/
def parseEngine (blob r : List Byte) : EngineDecl :=
  { engine := le r 0 2, code := slice blob (le r 4 4) (le r 8 4), data := slice blob (le r 0xC 4) (le r 0x10 4)
    dataAddr := le r 0x14 4, paramBase := le r 0x18 4
    schedule := (pieces 16 (min (le r 0x20 4) (blob.length / 16)) (blob.drop (le r 0x1C 4))).map parseEntry }

/-- Whether an ENGINE_CODE record meets R208 and its ranges stay inside the blob area and local memory (R210). -/
def engineRecOk (blob r : List Byte) : Bool :=
  let code := le r 8 4
  let data := le r 0x10 4
  let addr := le r 0x14 4
  let param := le r 0x18 4
  decide (le r 0 2 < 192) && zeroAt r 2 2 && zeroAt r 0x24 28 &&
    le r 4 4 % 32 == 0 && code % 32 == 0 && decide (32 ≤ code) && le r 0xC 4 % 32 == 0 && data % 32 == 0 &&
    addr % 32 == 0 && decide (code ≤ addr) && param % 4 == 0 && decide (code ≤ param) && le r 0x1C 4 % 16 == 0 &&
    decide (le r 4 4 + code ≤ blob.length) && decide (le r 0xC 4 + data ≤ blob.length) &&
    decide (le r 0x1C 4 + 16 * le r 0x20 4 ≤ blob.length) &&
    decide (code ≤ 524288) && decide (addr + data ≤ 524288) && decide (param + 4 ≤ 524288) &&
    (pieces 16 (min (le r 0x20 4) (blob.length / 16)) (blob.drop (le r 0x1C 4))).all (fun e =>
      zeroAt e 2 2 && le e 4 4 % 32 == 0 && decide (code ≤ le e 4 4) && le e 8 4 % 32 == 0 && within 32 4096 (le e 8 4) &&
        decide (le e 4 4 + le e 8 4 ≤ 524288))

/-- The local addresses of the live-parameter words of one engine (R199). -/
def paramWords (m : Image) (d : EngineDecl) : List Nat :=
  (m.liveOf 4).filterMap (fun r =>
    if d.engine ∈ selectedIn m (fld r.target 16 8) then some (d.paramBase + 4 * fld r.target 0 16) else none)

/-- Whether an engine's parameter words lie in its local memory and its schedule agrees with the slot table (R210). -/
def scheduleOk (m : Image) (d : EngineDecl) : Bool :=
  (paramWords m d).all (fun a => decide (a + 4 ≤ 524288)) && d.schedule.all (fun x =>
    let v := m.slots.streams.getD x.stream {}
    decide (x.stream < m.slots.streams.length) && v.unit == 3 && v.index == d.engine &&
      (v.dir != 0 || x.step == (x.bytes : Int)))

/-- Whether an ENG stream of the slot table has the entries it needs (R210). -/
def streamEntriesOk (m : Image) (p : Nat × StreamDecl) : Bool :=
  if p.2.unit = 3 then
    let es := (m.engines.filter (fun d => d.engine == p.2.index)).flatMap (fun d => d.schedule.filter (fun x => x.stream == p.1))
    es.length != 0 && es.length == (slotsWhere m.slots (· == p.1)).length &&
      es.foldl (fun n x => n + x.bytes) 0 == p.2.bytesPerPass
  else true

/-- Code 0x18: whether the engine code passes R210. -/
def engineCodeOk (m : Image) (x : Sect) : Bool :=
  x.fixedSize % 32 == 0 && within 1 192 x.count && x.recs.all (engineRecOk x.fixed) &&
    distinct (m.engines.map EngineDecl.engine) && m.engines.all (scheduleOk m) &&
    (indexed m.slots.streams).all (streamEntriesOk m)

/-- A route record parsed (R211). -/
def parseRoute (r : List Byte) : RouteDecl :=
  { src := le r 2 1, dst := le r 3 1, buffer := le r 4 1, hops := le r 5 1, intervalLog2 := le r 6 1
    phase := le r 8 2, path := le r 12 4 }

/-- The engine that a link leads to (R204). -/
def linkTo (e dir : Nat) : Nat :=
  let k := e / 48
  let row := e % 48 / 8
  let col := e % 8
  let place := fun (k row col : Nat) => 48 * k + 8 * row + col
  match dir with
  | 0 => place k ((row + 5) % 6) col
  | 1 => place k ((row + 1) % 6) col
  | 2 => place k row ((col + 7) % 8)
  | 3 => place k row ((col + 1) % 8)
  | 4 => place ((k + 1) % 4) row col
  | _ => place ((k + 3) % 4) row col

/-- The engines a path passes, the source first (R211). -/
def pathEngines (path : Nat) : Nat → Nat → List Nat
  | e, 0 => [e]
  | e, n + 1 => match pathEngines path e n with
    | [] => []
    | l => l ++ [linkTo (l.getLastD e) (fld path (3 * n) 3)]

/-- Whether a route record meets R211 and its path leads from source to destination (R212). -/
def routeOk (m : Image) (p : Nat × List Byte) : Bool :=
  let d := parseRoute p.2
  le p.2 0 2 == p.1 && d.src != d.dst && decide (d.buffer < 16) && within 1 7 d.hops && within 0 10 d.intervalLog2 &&
    zeroAt p.2 7 1 && decide (d.phase < 2 ^ d.intervalLog2) && zeroAt p.2 10 2 && d.path >>> (3 * d.hops) == 0 &&
    (List.range d.hops).all (fun k => decide (fld d.path (3 * k) 3 < 6)) &&
    m.engines.any (fun e => e.engine == d.src) && m.engines.any (fun e => e.engine == d.dst) &&
    (pathEngines d.path d.src d.hops).getLastD d.src == d.dst

/-- The residues modulo 1,024 at which a route's sends may issue (R206, R212). -/
def residues (d : RouteDecl) (off : Nat) : List Nat :=
  (List.range (1024 / 2 ^ d.intervalLog2)).map (fun j => (d.phase + j * 2 ^ d.intervalLog2 + off) % 1024)

/-- The link cycles a route claims, each as a number: engine, link and residue (R205, R212). -/
def linkClaims (d : RouteDecl) : List Nat :=
  (List.range d.hops).flatMap (fun k =>
    let e := (pathEngines d.path d.src d.hops).getD k d.src
    (residues d (4 + 2 * (k + 1))).map (fun r => (8 * e + fld d.path (3 * k) 3) * 1024 + r))

/-- The delivery cycles a route claims: engine, buffer and residue (R205, R212). -/
def deliveryClaims (d : RouteDecl) : List Nat :=
  (residues d (8 + 2 * (d.hops - 1))).map (fun r => (16 * d.dst + d.buffer) * 1024 + r)

/-- Code 0x19: whether the routes pass R212. -/
def routesOk (m : Image) (x : Sect) : Bool :=
  within 0 4096 x.count && (indexed x.recs).all (routeOk m) && distinct (m.routes.flatMap (fun d => (linkClaims d).eraseDups)) &&
    distinct (m.routes.flatMap deliveryClaims)

/-- A mask-pool entry parsed (R246). -/
def parseMask (r : List Byte) : MaskEntry := { bin := le r 0 2, l16 := le r 2 2, p32 := le r 4 4 }

/-- A stream record of SPUR_MASK parsed with its mask (R246). -/
def parseFrame (pool r : List Byte) : FrameDecl :=
  { channeliser := le r 2 1 == 1, channel := le r 3 1, src := le r 4 2, dst := le r 6 2, sizeLog2 := le r 8 1
    format := le r 9 1, settle := le r 10 2, hop := le r 12 4, first := le r 16 4, binFirst := le r 0x14 2
    binCount := le r 0x16 2
    mask := (pieces 8 (min 512 (le r 0x1C 2)) (pool.drop (8 * le r 0x18 4))).map parseMask
    gdFine := le r 0x1E 1, maskAddr := le r 0x20 4, recordBytes := le r 0x24 4 }

/-- The exact L16 code of a binary32 level (R10). -/
def levelCode (w : Nat) : Nat := if fld w 23 8 = 0 then 0 else l16Exact (f32.unpack w).1 (f32.unpack w).2

/-- Whether a mask entry passes (R246, R248). -/
def maskOk (d : FrameDecl) (x : MaskEntry) : Bool :=
  within d.binFirst (d.binFirst + d.binCount - 1) x.bin && decide (x.p32 < 0x7F800000) &&
    within (levelCode x.p32 - 1) (levelCode x.p32 + 1) x.l16

/-- Whether a stream's mask area in its writer engine keeps clear of code and parameter words (R248). -/
def maskAreaOk (m : Image) (d : FrameDecl) : Bool :=
  let len := 8 * d.mask.length
  match (writerEngine m d.dst).bind (fun e => m.engines.find? (fun g => g.engine == e)) with
  | some g => d.maskAddr % 8 == 0 && decide (d.maskAddr + len ≤ 524288) &&
      (len == 0 || (decide (g.code.length ≤ d.maskAddr) &&
        (paramWords m g).all (fun a => decide (a + 4 ≤ d.maskAddr) || decide (d.maskAddr + len ≤ a))))
  | none => false

/-- Whether DST_SLEEVE is a RESULT sleeve written by one ENG write stream (R245, R248). -/
def frameDstOk (m : Image) (d : FrameDecl) : Bool :=
  let v := m.sleeve d.dst
  decide (d.dst < m.sleeves.length) && v.format == .result && v.writerUnit == 3 &&
    (m.slots.streams.filter (fun t => t.unit == 3 && t.dir == 0 && t.sleeve == d.dst)).length == 1

/-- Whether SRC_SLEEVE is the raw sleeve of the channel (R246). -/
def frameSrcOk (m : Image) (d : FrameDecl) : Bool :=
  let v := m.sleeve d.src
  decide (d.src < m.sleeves.length) && v.writerUnit == 1 && v.writerIndex == d.channel && (v.format == .p12 || v.format == .u16)

/-- Whether a FRAME stream's own fields meet R246. -/
def frameFieldsOk (d : FrameDecl) : Bool :=
  let n := 2 ^ d.sizeLog2
  within 8 16 d.sizeLog2 && within 0 1 d.format && within 0 255 d.settle && d.hop % 16 == 0 && within (n / 16) n d.hop &&
    within 1 (n / 2) d.binCount && within 0 (n / 2) (d.binFirst + d.binCount) && d.gdFine == 0 &&
    d.recordBytes == 128 + d.binCount * (if d.format = 0 then 4 else 2)

/-- Whether a CHANNELISER stream's own fields meet R246. -/
def channeliserFieldsOk (d : FrameDecl) : Bool :=
  d.sizeLog2 == 0 && d.format == 2 && d.settle == 0 && d.hop % 16 == 0 && decide (256 ≤ d.hop) && d.binFirst == 0 &&
    [1, 2, 4, 8, 16, 32, 64, 128, 256, 512].contains d.binCount && d.mask.isEmpty && d.recordBytes == 0

/-- Whether a stream record of SPUR_MASK passes R246 and R248. -/
def frameOk (m : Image) (pool : Nat) (p : Nat × List Byte) : Bool :=
  let d := m.frame p.1
  le p.2 0 2 == p.1 && within 0 1 (le p.2 2 1) && decide (d.channel < 4) && zeroAt p.2 0x1F 1 && zeroAt p.2 0x28 24 &&
    within 0 (2 ^ 24 - 1) d.first && within 0 512 (le p.2 0x1C 2) && decide (le p.2 0x18 4 + le p.2 0x1C 2 ≤ pool) &&
    (if d.channeliser then channeliserFieldsOk d else frameFieldsOk d) &&
    frameSrcOk m d && frameDstOk m d && maskAreaOk m d && d.mask.all (maskOk d) && rising (d.mask.map MaskEntry.bin)

/-- Code 0x1E: whether the spur masks pass R248. -/
def spurMaskOk (m : Image) (x : Sect) : Bool :=
  x.fixedSize % 8 == 0 && within 0 (8 * 16384) x.fixedSize && within 0 64 x.count &&
    (indexed x.recs).all (frameOk m (x.fixedSize / 8)) && distinct (m.frames.map FrameDecl.dst)

end Sys2Proof.Machine
end

