-- ==== Sys2Proof/Machine/LoadUnits.lean ====
section
/-! DEFINITION. The loader's checks of contexts, triggers, masks, the DENSITY section and live parameters (11 R266, R267,
12 R282 to R304, 13 R314 to R325, 14 R338, R339, 06 R134). -/

namespace Sys2Proof.Machine

/-- Entries of the coefficient pool of FIXED_SIZE bytes (R282). -/
def poolEntries (x : Sect) : Nat := x.fixedSize / 5

/-- A bank of coefficients from the pool (R282). -/
def parseBank (pool : List Byte) (at_ taps : Nat) : List (Int × Int) :=
  (pieces 5 taps (pool.drop (5 * at_))).map (fun b => (sgn 20 (leVal b), sgn 20 (leVal b >>> 20)))

/-- A context record parsed (R282). -/
def parseContext (pool r : List Byte) : ContextDecl :=
  let stages := min 4 (le r 0x19 1)
  let taps := min 128 (le r 0x1A 2)
  { index := le r 0 2, fromSleeve := le r 2 1 == 1, fast := le r 3 1 == 1, src := le r 4 2, dst := le r 6 2
    stride := le r 8 2, offset := le r 10 2, inputDecim := le r 12 4, origin := sgn 64 (le r 16 8), originFine := le r 0x18 1
    taps := taps, xfLen := le r 0x1C 4
    lens := (List.range stages).map (fun i => le r (0x20 + 2 * i) 2)
    decims := (List.range stages).map (fun i => le r (0x28 + 2 * i) 2)
    bankA := parseBank pool (le r 0x30 4) taps, bankB := parseBank pool (le r 0x34 4) taps
    outMode := le r 0x38 1, recordFill := le r 0x39 1, toleranceUs := le r 0x3A 2, detInterval := le r 0x3C 4
    detScale := le r 0x40 4, evtDetector := le r 0x44 1 == 1, gain := le r 0x45 1, phase := le r 0x46 2
    tw := le r 0x48 8 % 2 ^ 48, thrHigh := le r 0x50 4, thrLow := le r 0x54 4, bank := le r 0x58 1 }

/-- The live parameter of a context's field (R304). -/
def Image.ctxLive (m : Image) (c field : Nat) : Option LiveRec :=
  (m.liveOf 2).find? (fun r => r.target % 2 ^ 24 == 1024 * c + field)

/-- The largest length and the smallest decimation that each stage's live ranges allow (R288). -/
def stageRanges (m : Image) (d : ContextDecl) : List (Nat × Nat) :=
  (List.range d.lens.length).map (fun i =>
    ((match m.ctxLive d.index (0x010 + i) with
      | some r => r.max
      | none => d.lens.getD i 1),
     (match m.ctxLive d.index (0x014 + i) with
      | some r => r.min
      | none => d.decims.getD i 1)))

/-- Bytes of delay line that a context needs (R280, R288). -/
def delayBytes (m : Image) (d : ContextDecl) : Nat :=
  (stageRanges m d).foldl (fun n p => if p.2 < p.1 then n + 6 * p.1 else n) 0

/-- A context's tap load, 2T over its spacing and decimations, in units of 20.48e9 taps/s (R289). -/
def tapLoad (m : Image) (d : ContextDecl) : Nat × Nat :=
  (2 * d.taps, (stageRanges m d).foldl (fun n p => n * max 1 p.2) (max 1 d.inputDecim))

/-- The lowest context that a test admits. -/
def lowestCtx (m : Image) (ok : ContextDecl → Bool) : Nat := ((m.contexts.find? ok).map ContextDecl.index).getD 0

/-- Whether a CONTINUOUS RESULT sleeve is declared at a number. -/
def plainSleeve (m : Image) (i : Nat) : Bool :=
  decide (i < m.sleeves.length) && (m.sleeve i).kind == .continuous && (m.sleeve i).format == .result

/-- Whether a context record's own fields meet R282. -/
def contextFieldsOk (x : Sect) (r : List Byte) : Bool :=
  let d := parseContext x.fixed r
  let stages := le r 0x19 1
  let taps := le r 0x1A 2
  let finite := fun (w : Nat) => decide (w < 0x7F800000)
  decide (d.index < 1024) && within 0 1 (le r 2 1) && within 0 1 (le r 3 1) &&
    [1, 2, 4, 8, 16, 32, 64, 128, 256, 512].contains d.stride && decide (d.offset < d.stride) &&
    within 16 (2 ^ 24) d.inputDecim && (d.fromSleeve || (d.origin == 0 && d.originFine == 0)) && within 0 4 stages &&
    within 0 128 taps && within 16 65536 d.xfLen && d.lens.all (within 1 4096) && d.decims.all (within 1 4096) &&
    zeroAt r (0x20 + 2 * stages) (8 - 2 * stages) && zeroAt r (0x28 + 2 * stages) (8 - 2 * stages) &&
    decide (le r 0x30 4 + taps ≤ poolEntries x) && decide (le r 0x34 4 + taps ≤ poolEntries x) &&
    (taps != 0 || (le r 0x30 4 == 0 && le r 0x34 4 == 0)) &&
    decide (d.outMode < 16) && within 1 28 d.recordFill && within 1 (2 ^ 24) d.detInterval &&
    within 1 0x7F7FFFFF d.detScale && within 0 1 (le r 0x44 1) && within 0 4 d.gain &&
    sgn 64 (le r 0x48 8) == sgn 48 (le r 0x48 8) && finite d.thrHigh && finite d.thrLow && decide (d.thrLow ≤ d.thrHigh) &&
    within 0 1 d.bank && zeroAt r 0x59 39 && (!d.fast || (List.zip d.lens d.decims).all (fun p => decide (p.1 ≤ p.2)))

/-- Whether a context's sleeves meet R284. -/
def contextSleevesOk (m : Image) (d : ContextDecl) : Bool :=
  plainSleeve m d.src && plainSleeve m d.dst &&
    (d.fromSleeve || m.frames.any (fun f => f.channeliser && f.dst == d.src && f.hop == d.inputDecim && f.binCount == d.stride)) &&
    (m.sleeve d.src).hasReader 0x13 (lowestCtx m (fun c => c.src == d.src)) &&
    (m.sleeve d.dst).writerUnit == 0x13 && (m.sleeve d.dst).writerIndex == lowestCtx m (fun c => c.dst == d.dst) &&
    decide ((m.contexts.filter (fun c => c.dst == d.dst)).length ≤ 64)

/-- Code 0x1A: whether the contexts pass R284. -/
def contextsOk (m : Image) (x : Sect) : Bool :=
  within 0 1024 m.decls.contextsUsed && within 0 m.decls.contextsUsed x.count && x.fixedSize % 8 == 0 &&
    within 0 327680 x.fixedSize && zeroAt x.fixed (5 * poolEntries x) (x.fixedSize - 5 * poolEntries x) &&
    x.recs.all (contextFieldsOk x) && rising (m.contexts.map ContextDecl.index) && m.contexts.all (contextSleevesOk m) &&
    decide ((m.contexts.map (delayBytes m)).foldl (· + ·) 0 ≤ 25165824) &&
    m.contexts.all (fun d => decide (4 * (tapLoad m d).1 ≤ (tapLoad m d).2)) && fracAtMost 8 (m.contexts.map (tapLoad m))

/-- Code 0x1B: whether the summed context rate passes (R31, R284). -/
def contextRateOk (m : Image) : Bool :=
  within 0 40960000 m.decls.contextRate &&
    fracAtMost m.decls.contextRate (m.contexts.map (fun d => (20480000, max 1 d.inputDecim)))

/-- The classes of conditions by code (R307). -/
def classOf (c : Nat) : CondClass :=
  match c with
  | 2 => .tdEdge | 3 => .tdWidth | 4 => .mask | 5 => .density | 6 => .context | 7 => .event | 8 => .overrange
  | _ => .tdLevel

/-- A condition record parsed (R322). -/
def parseCond (r : List Byte) : TrigCond :=
  { cond := le r 2 2, cls := classOf (le r 1 1), source := le r 4 2, polarity := le r 6 1, outside := le r 7 1 == 1
    level := sgn 16 (le r 8 2), hyst := le r 10 2, wmin := le r 12 4, wmax := le r 16 4, stream := le r 0x14 2
    spurExclude := le r 0x16 1 == 1, minBins := le r 0x18 2, qual := le r 0x1A 1 }

/-- The listed numbers of a field of `n` two-byte entries, 0xFFFF standing for none. -/
def listed (r : List Byte) (off n : Nat) : List Nat :=
  ((List.range n).map (fun j => le r (off + 2 * j) 2)).filter (· != 0xFFFF)

/-- The places of a list of `n` two-byte entries that name something. -/
def listedAt (r : List Byte) (off n : Nat) : List Nat := (List.range n).filter (fun j => le r (off + 2 * j) 2 != 0xFFFF)

/-- The conditions of a 128-bit set. -/
def condSet (w : Nat) : List Nat := (List.range 128).filter (tbit w)

/-- A group record parsed (R322). -/
def parseGroup (r : List Byte) : GroupDecl :=
  let dest := le r 7 1
  let hem := le r 0x20 8
  let rs := le r 8 2
  let ds := le r 0x28 2
  { group := le r 1 1, mode := le r 2 1, auto := le r 3 1 == 1, provisional := le r 4 1 == 1, armedAtStart := le r 5 1 == 1
    outMask := le r 6 1, dest := if dest = 1 then .store else if dest = 2 then .drive else .none
    recordSleeve := if rs = 0xFFFF then none else some rs, holdoffEvents := le r 10 2, window := le r 12 4
    holdoffSamples := le r 16 8, cuff := le r 0x18 8, hem := if hem = 2 ^ 64 - 1 then none else some hem
    driveStream := if ds = 0xFFFF then none else some ds
    condsA := condSet (le r 0x30 16), condsB := condSet (le r 0x40 16)
    sleeves := listed r 0x50 8, places := listedAt r 0x50 8, rings := listed r 0x60 4 }

/-- Whether a condition record's fields meet R322's tables. -/
def condFieldsOk (r : List Byte) : Bool :=
  let d := parseCond r
  let c := le r 1 1
  let td := c == 1 || c == 2 || c == 3
  let sources := match c with
    | 4 => 16 | 5 => 32 | 6 => 1024 | 7 => 8 | _ => 4
  let polarities := match c with
    | 1 | 3 => 1 | 2 | 6 | 7 => 2 | _ => 0
  within 1 8 c && decide (d.cond < 128) && decide (d.source < sources) && within 0 polarities d.polarity &&
    (if c = 3 then within 0 1 (le r 7 1) && within 1 (2 ^ 24) d.wmin && within d.wmin (2 ^ 24) d.wmax
     else le r 7 1 == 0 && d.wmin == 0 && d.wmax == 0) &&
    (if td then decide (-2048 ≤ d.level) && decide (d.level ≤ 2047) && decide (d.hyst ≤ 1023)
     else d.level == 0 && d.hyst == 0) &&
    (if c = 4 then within 0 1 (le r 0x16 1) && within 1 32768 d.minBins && decide (1 ≤ d.qual)
     else zeroAt r 0x14 3 && zeroAt r 0x18 3) &&
    zeroAt r 0x17 1 && zeroAt r 0x1B 101

/-- Whether a condition's source is declared as R324 asks. -/
def condSourceOk (m : Image) (maskGroups : List Nat) (d : TrigCond) : Bool :=
  match d.cls with
  | .mask => m.isFrame d.stream && maskGroups.contains d.source &&
      decide ((m.conds.filter (fun k => k.cls == .mask && k.source == d.source)).length ≤ 1)
  | .density => m.denConds.any (fun k => k.condition == d.source)
  | .context => m.contexts.any (fun c => c.index == d.source && tbit c.outMode 3)
  | _ => true

/-- The samples that so many granules of a captured sleeve hold (R323). -/
def imageSpan (m : Image) (i granules : Nat) : Nat :=
  match (m.sleeve i).format with
  | .p12 => granules * 131072
  | .u16 => granules * 2048
  | _ => match m.spectra i with
    | some f => granules * 4096 / max 1 f.recordBytes * f.hop
    | none => 0

/-- The smallest number of granules a sleeve can have (R323). -/
def leastGranules (m : Image) (i : Nat) : Nat := match m.lengthLive i with
  | some r => r.min
  | none => (m.sleeve i).granules

/-- L_min of a group, none when it captures nothing (R323). -/
def leastSpan (m : Image) (d : GroupDecl) : Option Nat :=
  match d.sleeves.map (fun i => imageSpan m i (leastGranules m i)) with
  | [] => none
  | a :: r => some (r.foldl min a)

/-- Whether a cuff stays below L_min (R324). -/
def cuffOk (m : Image) (d : GroupDecl) (cuff : Nat) : Bool := match leastSpan m d with
  | some l => decide (cuff < l)
  | none => true

/-- Whether a captured sleeve is of a kind R324 admits. -/
def capturedOk (m : Image) (i : Nat) : Bool :=
  decide (i < m.sleeves.length) && (m.sleeve i).kind == .capture &&
    ((m.sleeve i).format == .p12 || (m.sleeve i).format == .u16 || (m.spectra i).isSome)

/-- Whether a group record's own fields meet R322. -/
def groupFieldsOk (r : List Byte) : Bool :=
  let dest := le r 7 1
  decide (le r 1 1 < 16) && within 0 2 (le r 2 1) && within 0 1 (le r 3 1) && within 0 1 (le r 4 1) && within 0 1 (le r 5 1) &&
    decide (le r 6 1 < 64) && within 0 2 dest && within 0 (2 ^ 31) (le r 12 4) && decide (1 ≤ le r 0x20 8) &&
    (dest == 2 || le r 0x28 2 == 0xFFFF) && zeroAt r 0x2A 6 && zeroAt r 0x68 24

/-- Whether a group passes R324. -/
def groupOk (m : Image) (d : GroupDecl) : Bool :=
  let declared := fun (c : Nat) => m.conds.any (fun k => k.cond == c)
  !d.condsA.isEmpty && (d.condsB.isEmpty == (d.mode == 0)) && d.condsA.all declared && d.condsB.all declared &&
    (!d.provisional || d.mode == 2 ||
      m.conds.any (fun k => d.condsA.contains k.cond && k.cls == .mask && decide (1 < k.qual))) &&
    (d.dest == .none || !d.sleeves.isEmpty) && d.sleeves.all (capturedOk m) && cuffOk m d d.cuff &&
    (d.hem.isSome || d.dest == .drive) &&
    (d.dest != .drive || (match d.driveStream with
      | some k => decide (k < m.drives.streams.length) && d.sleeves.all (fun i => (m.sleeve i).hasGuard 0x10 k)
      | none => false)) &&
    (match d.recordSleeve with
     | some i => decide (i < m.sleeves.length) && (m.sleeve i).format == .result && (m.sleeve i).writerUnit == 6 &&
         (m.sleeve i).writerIndex == d.group
     | none => true) &&
    d.rings.all (fun q => (m.ring q).isSome)

/-- Code 0x1C: whether the triggers pass R324. -/
def triggersOk (m : Image) (maskGroups : List Nat) (x : Sect) : Bool :=
  let conds := x.recs.filter (fun r => le r 0 1 == 0)
  let groups := x.recs.filter (fun r => le r 0 1 == 1)
  within 0 144 x.count && conds.length + groups.length == x.recs.length && conds.all condFieldsOk && groups.all groupFieldsOk &&
    within 0 16 m.decls.groupsUsed && within 0 m.decls.groupsUsed m.groups.length &&
    distinct (m.conds.map TrigCond.cond) && distinct (m.groups.map GroupDecl.group) &&
    (List.range 4).all (fun ch => decide ((m.conds.filter (fun d =>
      (d.cls == .tdLevel || d.cls == .tdEdge || d.cls == .tdWidth) && d.source == ch)).length ≤ 4)) &&
    m.conds.all (condSourceOk m maskGroups) &&
    fracAtMost 8 ((m.conds.filter (fun d => d.cls == .mask)).map (fun d =>
      ((m.frame d.stream).binCount, max 1 (m.frame d.stream).hop))) &&
    m.groups.all (groupOk m)

/-- A mask record parsed for `n` bins (R314). -/
def parseMaskRec (n : Nat) (r : List Byte) : MaskDecl :=
  let up := (pieces 2 n (r.drop 0x40)).map leVal
  let low := (pieces 2 n (r.drop 0x10040)).map leVal
  { group := le r 0 1, limits := List.zip up low }

/-- The mask condition of a group. -/
def maskCond (m : Image) (g : Nat) : Option TrigCond := m.conds.find? (fun k => k.cls == .mask && k.source == g)

/-- The bins that a group's mask covers. -/
def maskBins (m : Image) (g : Nat) : Nat := match maskCond m g with
  | some k => (m.frame k.stream).binCount
  | none => 0

/-- Whether a mask record passes R314 and R315. -/
def maskRecOk (m : Image) (r : List Byte) : Bool :=
  let g := le r 0 1
  let n := maskBins m g
  decide (g < 16) && zeroAt r 1 63 && (maskCond m g).isSome &&
    (parseMaskRec 32768 r).limits.all (fun p => decide (p.2 ≤ p.1)) &&
    ((parseMaskRec 32768 r).limits.drop n).all (fun p => p.1 == 0xFFFF && p.2 == 0)

/-- Code 0x1D: whether the masks pass R315. -/
def masksOk (m : Image) (x : Sect) : Bool :=
  within 0 16 x.count && x.recs.all (maskRecOk m) && distinct (m.masks.map MaskDecl.group)

/-- A trace detector's record parsed (R266). -/
def parseTrace (r : List Byte) : TraceDecl :=
  { detector := le r 1 1, stream := le r 2 2, dst := le r 4 2, mode := le r 6 1, decim := le r 7 1, pointFirst := le r 8 2
    pointCount := le r 10 2, interval := le r 12 4, firstFrame := le r 16 4, recordBytes := le r 20 4 }

/-- A plane's record parsed (R266). -/
def parsePlane (r : List Byte) : PlaneDecl :=
  { plane := le r 1 1, stream := le r 2 2, dst := le r 4 2, peak := le r 6 1 == 1, decim := le r 7 1, colFirst := le r 8 2
    columns := le r 10 2, rows := le r 12 2, decay := le r 14 1, rowBottom := le r 16 2, rowStep := le r 18 2
    exposure := le r 20 4, firstFrame := le r 24 4, recordBytes := le r 28 4 }

/-- A density condition's record parsed (R266). -/
def parseDenCond (r : List Byte) : CondDecl :=
  { condition := le r 1 1, plane := le r 2 1, atMost := le r 3 1 == 1, colLo := le r 4 2, colHi := le r 6 2, rowLo := le r 8 2
    rowHi := le r 10 2, threshold := le r 12 4, minHits := le r 16 2 }

/-- Whether bins stay inside a stream's stored range (R267). -/
def binsInside (f : FrameDecl) (first n : Nat) : Bool :=
  decide (f.binFirst ≤ first) && decide (first + n ≤ f.binFirst + f.binCount)

/-- Whether a sleeve is a RESULT sleeve of a given writer. -/
def resultOf (m : Image) (i unit index : Nat) : Bool :=
  decide (i < m.sleeves.length) && (m.sleeve i).format == .result && (m.sleeve i).writerUnit == unit &&
    (m.sleeve i).writerIndex == index

/-- Whether a trace detector passes R266 and R267. -/
def traceOk (m : Image) (r : List Byte) : Bool :=
  let d := parseTrace r
  let f := m.frame d.stream
  decide (d.detector < 32) && m.isFrame d.stream && within 0 3 d.mode && within 1 64 d.decim && within 1 32768 d.pointCount &&
    within 1 (2 ^ 24) d.interval && within 0 (2 ^ 24 - 1) d.firstFrame &&
    d.recordBytes == 64 + d.pointCount * (if f.format = 0 then 4 else 2) * (if d.mode = 3 then 2 else 1) &&
    zeroAt r 0x18 40 && binsInside f d.pointFirst (d.pointCount * d.decim) && !(d.mode == 1 && f.format == 1) &&
    resultOf m d.dst 5 d.detector

/-- Whether a plane passes R266 and R267. -/
def planeOk (m : Image) (r : List Byte) : Bool :=
  let d := parsePlane r
  let f := m.frame d.stream
  decide (d.plane < 8) && m.isFrame d.stream && within 0 1 (le r 6 1) && within 1 64 d.decim && within 1 2048 d.columns &&
    within 2 512 d.rows && within 0 16 d.decay && zeroAt r 15 1 && within 1 2048 d.rowStep && within 1 (2 ^ 24) d.exposure &&
    within 0 (2 ^ 24 - 1) d.firstFrame && d.recordBytes == 64 + 4 * d.columns * d.rows && zeroAt r 0x20 32 &&
    binsInside f d.colFirst (d.columns * d.decim) && resultOf m d.dst 0x14 d.plane

/-- Whether a density condition passes R266 and R267. -/
def denCondOk (m : Image) (r : List Byte) : Bool :=
  let d := parseDenCond r
  decide (d.condition < 32) && within 0 1 (le r 3 1) && decide (1 ≤ d.minHits) && zeroAt r 0x12 46 &&
    decide (d.colLo ≤ d.colHi) && decide (d.rowLo ≤ d.rowHi) &&
    (match m.planes.find? (fun p => p.plane == d.plane) with
     | some p => decide (d.colHi < p.columns) && decide (d.rowHi < p.rows)
     | none => false)

/-- Code 0x1F: whether the DENSITY section passes R267. -/
def densityOk (m : Image) (x : Sect) : Bool :=
  within 0 72 x.count &&
    x.recs.all (fun r => match le r 0 1 with
      | 0 => traceOk m r
      | 1 => planeOk m r
      | 2 => denCondOk m r
      | _ => false) &&
    distinct (m.traces.map TraceDecl.detector) && distinct (m.planes.map PlaneDecl.plane) &&
    distinct (m.denConds.map CondDecl.condition) &&
    decide ((m.planes.map (fun p => 8 * p.columns * p.rows)).foldl (· + ·) 0 ≤ 33554432) &&
    fracAtMost 8 (m.traces.map (fun d => (d.pointCount * d.decim, max 1 (m.frame d.stream).hop))) &&
    fracAtMost 4 (m.planes.map (fun d => (d.columns * d.decim, max 1 (m.frame d.stream).hop)))

/-- Whether a converter live parameter meets R134. -/
def converterLiveOk (r : LiveRec) : Bool :=
  let a := r.target % 2 ^ 24
  decide (a < 1024) && within 0 1 (fld a 0 8) && r.limited 0 0 (if fld a 0 8 = 0 then 2 else 1)

/-- Whether a context live parameter meets R304. -/
def contextLiveOk (m : Image) (r : LiveRec) : Bool :=
  let a := r.target % 2 ^ 24
  let f := fld a 0 10
  match m.contexts.find? (fun c => c.index == fld a 10 10) with
  | none => false
  | some d =>
    decide (a < 2 ^ 20) &&
      (if f = 0 ∨ f = 3 then r.kind == 0
       else if f = 1 then r.limited 1 (-32768) 32767
       else if f = 2 then r.limited 0 0 65535
       else if f = 4 then r.limited 0 0 1 && d.taps != 0
       else if f = 5 ∨ f = 6 then r.limited 0 0 0x7F7FFFFF
       else if f = 7 then r.limited 0 1 (2 ^ 24)
       else if 0x10 ≤ f ∧ f < 0x18 then r.limited 0 1 4096 && decide (f % 4 < d.lens.length)
       else if 0x200 ≤ f then r.limited 1 (-524288) 524287 && decide (f % 0x100 / 2 < d.taps)
       else false)

/-- Whether FAST contexts keep every decimation at or above its length over the live ranges (R304). -/
def fastOk (m : Image) : Bool :=
  m.contexts.all (fun d => !d.fast || (stageRanges m d).all (fun p => decide (p.1 ≤ p.2)))

/-- Whether an engine live parameter meets R199. -/
def engineLiveOk (m : Image) (r : LiveRec) : Bool :=
  let sel := fld r.target 16 8
  (decide (sel < 196) || sel == 255) && r.target / 2 ^ 24 == 4 &&
    (m.engines.filter (fun d => d.engine ∈ selectedIn m sel)).all (fun d =>
      decide (d.paramBase + 4 * fld r.target 0 16 + 4 ≤ 524288) &&
        decide (d.code.length ≤ d.paramBase + 4 * fld r.target 0 16))

/-- Whether no engine is reached by more than 32 parameters, nor any of its words by two (R199). -/
def engineLoadOk (m : Image) : Bool :=
  m.engines.all (fun d => decide ((paramWords m d).length ≤ 32) && distinct (paramWords m d))

/-- Whether a trigger live parameter meets R325's form. -/
def triggerLiveOk (m : Image) (r : LiveRec) : Bool :=
  let a := r.target % 2 ^ 24
  let f := fld a 0 8
  let n := fld a 12 8
  decide (a < 2 ^ 20) && fld a 8 3 == 0 &&
    (if tbit a 11 then r.kind == 0 && within 0x10 0x17 f && m.groups.any (fun g => g.group == n)
     else m.conds.any (fun k => k.cond == n &&
       (match k.cls with
        | .tdLevel | .tdEdge => (f == 0 && r.kind == 1) || (f == 1 && r.kind == 0)
        | .tdWidth => (f == 0 && r.kind == 1) || (within 1 3 f && r.kind == 0)
        | .mask => (f == 4 || f == 5) && r.kind == 0
        | _ => false)))

/-- The largest value a half of a group's CUFF can have (R325). -/
def cuffHalf (m : Image) (g field whole : Nat) : Nat :=
  match (m.liveOf 5).find? (fun r => r.target % 2 ^ 24 == 4096 * g + 2048 + field) with
  | some r => r.max
  | none => whole

/-- Whether no CUFF range of a group reaches L_min (R325). -/
def cuffRangeOk (m : Image) (d : GroupDecl) : Bool :=
  cuffOk m d (cuffHalf m d.group 0x15 (d.cuff / 2 ^ 32) * 2 ^ 32 + cuffHalf m d.group 0x14 (d.cuff % 2 ^ 32))

/-- Whether an input has a RESULT sleeve of its own (R339). -/
def inputSleeve (m : Image) (n : Nat) : Bool :=
  m.sleeves.any (fun v => v.format == .result && v.writerUnit == 7 && v.writerIndex == n)

/-- The inputs that an interval unit's STOP can name (R338, R339). -/
def stopRange (m : Image) (u : Nat) : List Nat :=
  match (m.liveOf 6).find? (fun r => r.target % 2 ^ 24 == 256 * u + 0x22) with
  | some r => (List.range 8).filter (fun n => within r.min r.max n)
  | none => [0]

/-- Whether a time-interval live parameter meets R338 and R339. -/
def tiuLiveOk (m : Image) (r : LiveRec) : Bool :=
  let a := r.target % 2 ^ 24
  let n := fld a 8 3
  decide (a < 2048) &&
    (match fld a 0 8 with
     | 0x00 => r.limited 1 (-2500) 2500
     | 0x01 => r.limited 0 0 2
     | 0x02 => r.limited 0 0 1
     | 0x03 => r.limited 0 0 1 && (r.max == 0 || inputSleeve m n)
     | 0x04 => r.limited 0 0 (2 ^ 24) && (r.max == 0 || inputSleeve m n)
     | 0x20 => decide (n < 4) && r.limited 0 0 2 && (r.max == 0 || (stopRange m n).all (inputSleeve m))
     | 0x21 | 0x22 => decide (n < 4) && r.limited 0 0 7
     | 0x23 | 0x24 => decide (n < 4) && r.limited 0 0 2
     | 0x40 => decide (n < 6) && r.limited 0 1 65535
     | 0x41 => decide (n < 6) && r.limited 0 0 1
     | _ => false)

/-- Whether a live parameter's TARGET meets the chapter that owns it. Lengths are judged with the sleeves (R179). -/
def targetOk (m : Image) (r : LiveRec) : Bool :=
  match r.target / 2 ^ 24 with
  | 1 => converterLiveOk r
  | 2 => contextLiveOk m r
  | 3 => true
  | 4 => engineLiveOk m r
  | 5 => triggerLiveOk m r
  | 6 => tiuLiveOk m r
  | _ => false

/-- Code 0x22: whether the live parameters pass (R31, R36 and the chapters of their targets). -/
def liveParamsOk (m : Image) (x : Sect) : Bool :=
  x.count == m.decls.liveCount && within 0 4096 m.decls.liveCount && (indexed x.recs).all liveRecOk &&
    m.live.all (targetOk m) && distinct ((m.live.filter (fun r => r.target / 2 ^ 24 != 4)).map LiveRec.target) &&
    engineLoadOk m && fastOk m && m.groups.all (cuffRangeOk m)

end Sys2Proof.Machine
end

