-- ==== Sys2Proof/Machine/MlDsa.lean ====
section
/-! DEFINITION. Verification of ML-DSA-44 signatures (R41), as FIPS 204 defines it (PRESUMED, log 10). Polynomials are
lists of 256 residues modulo q. -/

namespace Sys2Proof.Machine

/-- The modulus q, and the parameters gamma1, gamma2 and beta of ML-DSA-44. -/
def dsaQ : Nat := 8380417
def dsaGamma1 : Nat := 131072
def dsaGamma2 : Nat := 95232
def dsaBeta : Nat := 78

/-- `b` raised to `e` modulo q, for an exponent of at most `n` bits. -/
def powQ : Nat → Nat → Nat → Nat
  | 0, _, _ => 1
  | n + 1, b, e => (if e % 2 = 1 then b else 1) * powQ n (b * b % dsaQ) (e / 2) % dsaQ

/-- A power of zeta, a 512th root of unity modulo q. -/
def zetaPow (e : Nat) : Nat := powQ 10 1753 (e % 512)

/-- An index of 8 bits reversed. -/
def brv8 (i : Nat) : Nat := (List.range 8).foldl (fun n b => 2 * n + b2n (tbit i b)) 0

/-- A polynomial's value at a point. -/
def polyAt (w : List Nat) (x : Nat) : Nat := w.foldr (fun a r => (a + x * r) % dsaQ) 0

/-- NTT: the values at the odd powers of zeta, in bit-reversed order. -/
def ntt (w : List Nat) : List Nat := (List.range 256).map (fun i => polyAt w (zetaPow (2 * brv8 i + 1)))

/-- The inverse of NTT; 8347681 is the inverse of 256 modulo q. -/
def nttInv (v : List Nat) : List Nat :=
  let r := (List.range 256).map (fun k => v.getD (brv8 k) 0)
  (List.range 256).map (fun j => 8347681 * (zetaPow (512 - j) * polyAt r (zetaPow (1024 - 2 * j)) % dsaQ) % dsaQ)

/-- Sums, differences and products of residues, place by place. -/
def addPoly (a b : List Nat) : List Nat := List.zipWith (fun x y => (x + y) % dsaQ) a b
def subPoly (a b : List Nat) : List Nat := List.zipWith (fun x y => (x + dsaQ - y % dsaQ) % dsaQ) a b
def mulPoly (a b : List Nat) : List Nat := List.zipWith (fun x y => x * y % dsaQ) a b

/-- Values of `w` bits packed in bytes from the low bit on. -/
def unpackBits (w n : Nat) (bs : List Byte) : List Nat :=
  let v := leVal bs
  (List.range n).map (fun k => fld v (w * k) w)

/-- RejNTTPoly: a polynomial of matrix A, sampled in the NTT domain. -/
def sampleNtt (seed : List Byte) : List Nat :=
  let bs := shake128 894 seed
  let c := ((List.range 298).map (fun k => le bs (3 * k) 3 % 2 ^ 23)).filter (fun x => decide (x < dsaQ))
  (c ++ List.replicate 256 0).take 256

/-- The bytes of SampleInBall's stream that choose a place at or below `i`: the first one, and those after it. -/
def ballPlace (i : Nat) : List Byte → Nat × List Byte
  | [] => (0, [])
  | b :: r => if b.toNat ≤ i then (b.toNat, r) else ballPlace i r

/-- SampleInBall from place `256 - n` on: 39 coefficients are 1 or -1 by the bits of `h`. -/
def ballFrom (h : Nat) : Nat → List Byte → List Nat → List Nat
  | 0, _, c => c
  | n + 1, bs, c =>
    let i := 255 - n
    let p := ballPlace i bs
    ballFrom h n p.2 ((c.set i (c.getD p.1 0)).set p.1 (if tbit h (i + 39 - 256) then dsaQ - 1 else 1))

/-- SampleInBall: the challenge polynomial. -/
def challenge (seed : List Byte) : List Nat :=
  let bs := shake256 221 seed
  ballFrom (le bs 0 8) 39 (bs.drop 8) (List.replicate 256 0)

/-- The hint of one polynomial: its places between `lo` and `hi` of the list, strictly rising; none when they are not. -/
def hintPlaces (y : List Byte) (lo hi : Nat) : Option (List Nat) :=
  let p := (slice y lo (hi - lo)).map (fun b => b.toNat)
  if (List.range (p.length - 1)).all (fun k => decide (p.getD k 0 < p.getD (k + 1) 0)) then some p else none

/-- HintBitUnpack: the hint places of the four polynomials; none when the encoding is not the proper one. -/
def hints (y : List Byte) : Option (List (List Nat)) :=
  let ends := (slice y 80 4).map (fun b => b.toNat)
  let at_ := fun (i : Nat) => ends.getD i 0
  if at_ 0 ≤ at_ 1 ∧ at_ 1 ≤ at_ 2 ∧ at_ 2 ≤ at_ 3 ∧ at_ 3 ≤ 80 ∧ allZero (slice y (at_ 3) (80 - at_ 3)) = true then
    match hintPlaces y 0 (at_ 0), hintPlaces y (at_ 0) (at_ 1), hintPlaces y (at_ 1) (at_ 2), hintPlaces y (at_ 2) (at_ 3) with
    | some a, some b, some c, some d => some [a, b, c, d]
    | _, _, _, _ => none
  else none

/-- UseHint: the high part of a residue, moved by one where a hint stands. -/
def useHint (hint : Bool) (r : Nat) : Nat :=
  let m := r % (2 * dsaGamma2)
  let low : Int := if dsaGamma2 < m then (m : Int) - 2 * dsaGamma2 else m
  let wraps := (r : Int) - low == dsaQ - 1
  let r1 := if wraps then 0 else (((r : Int) - low) / (2 * dsaGamma2)).toNat
  let r0 := if wraps then low - 1 else low
  if !hint then r1 else if 0 < r0 then (r1 + 1) % 44 else (r1 + 43) % 44

/-- Six-bit values packed in bytes from the low bit on, four to three bytes. -/
def packSix : List Nat → List Byte
  | a :: b :: c :: d :: r => leBytes 3 (a + 64 * b + 4096 * c + 262144 * d) ++ packSix r
  | _ => []

/-- ML-DSA.Verify in its pure form with an empty context (R41): a 1,312-byte key, a message, a 2,420-byte signature. -/
def dsaVerify (key msg sig : List Byte) : Bool :=
  let rho := key.take 32
  let c := slice sig 0 32
  let z := (List.range 4).map (fun i => (unpackBits 18 256 (slice sig (32 + 576 * i) 576)).map (fun v => (dsaQ + dsaGamma1 - v) % dsaQ))
  match hints (slice sig 2336 84) with
  | none => false
  | some h =>
    let mu := shake256 64 (shake256 64 key ++ (0#8 :: 0#8 :: msg))
    let cHat := ntt (challenge c)
    let zHat := z.map ntt
    let w1 := (List.range 4).map (fun r =>
      let az := (List.range 4).foldl (fun a s =>
        addPoly a (mulPoly (sampleNtt (rho ++ [BitVec.ofNat 8 s, BitVec.ofNat 8 r])) (zHat.getD s []))) (List.replicate 256 0)
      let t := ntt ((unpackBits 10 256 (slice key (32 + 320 * r) 320)).map (fun v => v * 8192))
      let w := nttInv (subPoly az (mulPoly cHat t))
      (List.range 256).map (fun k => useHint ((h.getD r []).contains k) (w.getD k 0)))
    z.all (fun p => p.all (fun v => decide (v < dsaGamma1 - dsaBeta) || decide (dsaQ - (dsaGamma1 - dsaBeta) < v))) &&
      shake256 32 (mu ++ w1.flatMap packSix) == c

/-- Whether a signature verifies over a digest as its message (R41). -/
@[irreducible] def verifies (key : List Byte) (d : Digest) (sig : List Byte) : Bool := dsaVerify key (leBytes 32 d.toNat) sig

end Sys2Proof.Machine
end

