-- ==== Sys2Proof/Machine/Loader.lean ====
section
/-! DEFINITION. The loader (02 R25 to R50, 03 R62 to R67): the boot pointer, the board record, and an image read, verified
and checked in the order of the refusal codes. -/

namespace Sys2Proof.Machine

/-- The areas of a boot-pointer copy (R63). -/
def parseAreas (bs : List Byte) : Areas :=
  { slotA := le bs 8 4, slotB := le bs 12 4, cal0 := le bs 16 4, cal1 := le bs 20 4, logFallback := le bs 24 4
    board := le bs 28 4, boardLen := le bs 32 4 }

/-- The default layout (R64, R65). -/
def defaultAreas : Areas :=
  { slotA := 0x00100000, slotB := 0x06100000, cal0 := 0x0C100000, cal1 := 0x0C900000, logFallback := 0x0D100000
    board := 0x0D110000, boardLen := 65536 }

/-- First and past-the-end offset of each area, the boot pointer's own range first (R64). -/
def areaRanges (a : Areas) : List (Nat × Nat) :=
  [(0, 0x20000), (a.slotA, a.slotA + 0x6000000), (a.slotB, a.slotB + 0x6000000), (a.cal0, a.cal0 + 0x800000),
   (a.cal1, a.cal1 + 0x800000), (a.logFallback, a.logFallback + 0x10000), (a.board, a.board + a.boardLen)]

/-- Whether a boot-pointer copy is valid for a flash of a given density (R64). -/
def pointerValid (density : Nat) (bs : List Byte) : Bool :=
  let a := parseAreas bs
  bs.length == 4096 && le bs 0 4 == 0x54505A53 && le bs 4 2 == 1 && zeroAt bs 6 2 && zeroAt bs 0x24 4056 &&
    le bs 0xFFC 4 == crc32 (bs.take 0xFFC) && within 1 65536 a.boardLen &&
    (areaRanges a).all (fun r => r.1 % 65536 == 0) && apart (areaRanges a) && (areaRanges a).all (fun r => decide (r.2 ≤ density))

/-- Whether the boot pointer can be read now: once, by step 8 of a power-up (R57, R64). -/
def pointerDue (s : State) : Bool :=
  s.life.sys == .powerUp && s.pwr.osc && !s.pwr.testEn && !s.pwr.staged && !s.loader.pointerRead

/-- BOOT_POINTER_READ: the copy in use, FLASH_SLOW and BOOT_POINTER_DEFAULT (R58, R64). -/
def readPointer (flash : FlashInfo) (copy0 copy1 : Option (List Byte)) (s : State) : State :=
  if !pointerDue s then s
  else
    let ok := fun (c : Option (List Byte)) => match c with
      | some bs => pointerValid flash.density bs
      | none => false
    let use := if ok copy0 then 0 else if ok copy1 then 1 else 2
    let areas := if use = 0 then parseAreas (copy0.getD []) else if use = 1 then parseAreas (copy1.getD []) else defaultAreas
    let s := mLoader (fun l => { l with flash := flash, pointerRead := true, pointer := use, areas := areas }) s
    let s := if flash.octal then s else logEvent 0x2007 24 [] s
    let s := if use = 2 then logEvent 0x2008 24 [] s else s
    tryLoad s

/-- BOARD_RECORD_READ: the first 4 KiB held, once in a power-up (R65). -/
def readBoard (data : Option (List Byte)) (s : State) : State :=
  if s.life.sys != .powerUp || !s.loader.pointerRead || s.loader.boardDone then s
  else
    let n := min s.loader.areas.boardLen 4096
    tryLoad (mLoader (fun l => { l with boardDone := true, board := data.map (fun bs => bs.take n) }) s)

/-- The first failing check of a list in code order, 0 when every one passes (R50). -/
def firstFailure (l : List (Nat × Bool)) : Nat := match l.find? (fun p => !p.2) with
  | some p => p.1
  | none => 0

/-- Whether directory entry `n` meets R27 and R28. -/
def entryOk (h : List Byte) (n : Nat) : Bool :=
  let p := sectAt h n
  let after := if n = 0 then 4096 else pageUp ((sectAt h (n - 1)).1 + (sectAt h (n - 1)).2)
  le h (0x100 + 64 * n) 2 == n + 1 && p.1 % 4096 == 0 && p.1 == after

/-- The checks that need the header alone (R50). -/
def headerCode (h : List Byte) : Nat :=
  let sig := le h 0x14 4
  let size := le h 0xC 4
  firstFailure [
    (0x01, le h 0 4 != 0xFFFFFFFF),
    (0x03, le h 0 4 == 0x4D495A53),
    (0x04, le h 4 2 == 1 && le h 6 2 == 0),
    (0x05, le h 8 4 == 4096 && decide (size ≤ 100663296) && size == sig + 8192),
    (0x06, zeroAt h 0x40 192 && zeroAt h 0x4C0 2880 &&
      (List.range 15).all (fun n => zeroAt h (0x102 + 64 * n) 2 && zeroAt h (0x10C + 64 * n) 20)),
    (0x07, le h 0x10 4 == 15 && (List.range 15).all (entryOk h) &&
      sig == pageUp ((sectAt h 14).1 + (sectAt h 14).2)),
    (0x08, tbit (le h 0x1C 4) Config.stepping)]

/-- A digest held as 32 bytes. -/
def digestAt (bs : List Byte) (off : Nat) : Digest := BitVec.ofNat 256 (le bs off 32)

/-- Whether a module is commissioned (R46). -/
def commissioned (s : State) : Bool := s.img.keys.any (fun p => p.2.enabled)

/-- Whether some enabled key slot holds a digest, revoked or not as asked (R42). -/
def slotHolds (s : State) (d : Digest) (revoked : Bool) : Bool :=
  s.img.keys.any (fun p => p.2.enabled && p.2.digest == d && p.2.revoked == revoked)

/-- Whether the key of block 1 is accepted (R42). On a commissioned module the slots alone decide, so that a slot which
holds the vendor key's digest admits it (DESIGN CHOICE, log 134). -/
def programmeKeyOk (s : State) (d : Digest) : Bool :=
  if commissioned s then slotHolds s d false else d == Config.vendorKey

/-- Whether a signature block's fixed bytes are right (R39). -/
def blockOk (b : List Byte) (region : Nat) : Bool :=
  le b 0 4 == 0x47535A53 && le b 4 1 == region && zeroAt b 5 11 && zeroAt b 0xEC4 316

/-- Whether a signature block's digest is that of its region and its signature verifies (R40, R41). -/
def signedOk (b : List Byte) (region : Digest) : Bool :=
  digestAt b 0x10 == region && verifies (slice b 0x30 1312) (digestAt b 0x10) (slice b 0x550 2420)

/-- The key digest of a signature block (R41). -/
def keyDigest (b : List Byte) : Digest := sha3 (slice b 0x30 1312)

/-- The image parsed from its bytes (R25 to R36). TOOL_ID is read and shown nowhere, since no register or record is named
for it (DESIGN CHOICE, log 135). -/
def parseImage (whole : List Byte) : Image :=
  let x := sect whole
  let block1 := slice whole (le whole 0x14 4 + 4096) 4096
  let engine := x 2
  let contexts := x 6
  let triggers := (x 7).recs
  let spur := x 9
  let density := (x 10).recs
  let m : Image := {
    version := le whole 0x18 4, major := le whole 4 2, minor := le whole 6 2
    digest := sha3 (slice whole 0 4096)
    fwDigest := sha3 (slice whole (sectAt whole 0).1 (sectAt whole 0).2)
    vendor := keyDigest block1 == Config.vendorKey
    decls := parseDecls (x 15), policy := parsePolicy (x 14), live := (x 13).recs.map parseLive
    slots := parseSlots (x 4), sleeves := (x 5).recs.map parseSleeve, rings := (x 11).recs.map parseRing
    engines := engine.recs.map (parseEngine engine.fixed), routes := (x 3).recs.map parseRoute
    frames := spur.recs.map (parseFrame spur.fixed)
    traces := (density.filter (fun r => le r 0 1 == 0)).map parseTrace
    planes := (density.filter (fun r => le r 0 1 == 1)).map parsePlane
    denConds := (density.filter (fun r => le r 0 1 == 2)).map parseDenCond
    contexts := contexts.recs.map (parseContext contexts.fixed)
    conds := (triggers.filter (fun r => le r 0 1 == 0)).map parseCond
    groups := (triggers.filter (fun r => le r 0 1 == 1)).map parseGroup
    drives := parseDrives (x 12) }
  { m with masks := (x 8).recs.map (fun r => parseMaskRec (maskBins m (le r 0 1)) r) }

/-- The power class in mW by code (R440). -/
def classMw (code : Nat) : Nat := (200 + 40 * code) * 1000

/-- Checks 0x09 to 0x0F: signature blocks, keys, signatures and digests (R50). -/
def signatureCode (s : State) (whole : List Byte) : Nat :=
  let sig := le whole 0x14 4
  let b0 := slice whole sig 4096
  let b1 := slice whole (sig + 4096) 4096
  let firmware := sha3 (slice whole (sectAt whole 0).1 (sectAt whole 0).2)
  firstFailure [
    (0x09, blockOk b0 0 && blockOk b1 1),
    (0x0A, keyDigest b0 == Config.vendorKey),
    (0x0B, signedOk b0 firmware),
    (if slotHolds s (keyDigest b1) true then 0x0D else 0x0C, programmeKeyOk s (keyDigest b1)),
    (0x0E, signedOk b1 (sha3 (slice whole 0 4096))),
    (0x0F, (List.range 15).all (fun n =>
      sha3 (slice whole (sectAt whole n).1 (sectAt whole n).2) == digestAt whole (0x120 + 64 * n)))]

/-- Checks 0x10 to 0x25: the sections of a verified image (R50). -/
def sectionCode (s : State) (whole : List Byte) (m : Image) (firmwareOk : Bool) : Nat :=
  let x := sect whole
  let cls := s.pwr.cls.getD 7
  let d := m.decls
  firstFailure [
    (0x10, (List.range 15).all (fun n => (x (n + 1)).preambleOk (n + 1)) && (List.range 15).all (paddingOk whole) &&
      declsReserved (x 15)),
    (0x11, d.seamPeriod % 1024 == 0 && within 8192 1048576 d.seamPeriod),
    (0x12, within 64 d.seamPeriod d.scheduleCycles),
    (0x13, decide (cls < 5)),
    (0x14, decide (d.powerMw ≤ classMw cls)),
    (0x15, slotSumOk d (x 4)),
    (0x16, slotTableOk m (x 4)),
    (0x17, sleevesOk m (x 5)),
    (0x18, engineCodeOk m (x 2)),
    (0x19, routesOk m (x 3)),
    (0x1A, contextsOk m (x 6)),
    (0x1B, contextRateOk m),
    (0x1C, triggersOk m ((x 8).recs.map (fun r => le r 0 1)) (x 7)),
    (0x1D, masksOk m (x 8)),
    (0x1E, spurMaskOk m (x 9)),
    (0x1F, densityOk m (x 10)),
    (0x20, dmaLayoutOk m (x 11)),
    (0x21, drivePolicyOk m (x 12)),
    (0x22, liveParamsOk m (x 13)),
    (0x23, policyOk (x 14)),
    (0x24, boundsOk m (x 15).count),
    (0x25, firmwareOk)]

/-- The slot being loaded is accepted: code 0x00 (R50, R67, R71). -/
def acceptSlot (m : Image) (s : State) : State :=
  let slot := s.loader.slot
  mImg (fun r => { r with
    codeA := if slot = 1 then 0 else r.codeA, codeB := if slot = 2 then 0 else r.codeB, safe := false })
    { s with accepted := some m }

/-- Whether a slot is being loaded, with the flash out of reset, and none is accepted yet (R474). -/
def slotLoading (s : State) : Bool :=
  s.life.sys == .loading && s.loader.slot != 0 && s.accepted.isNone && s.pkg.xspiReset

/-- IMAGE_HEADER_READ (R50). -/
def headerRead (data : Option (List Byte)) (s : State) : State :=
  if !slotLoading s || !s.loader.copy.isEmpty then s
  else match data with
    | none => refuseSlot 0x02 s
    | some h =>
      let code := headerCode h
      if code = 0 then mLoader (fun l => { l with copy := h.take 4096 }) s else refuseSlot code s

/-- IMAGE_BODY_READ (R44, R50). -/
def bodyRead (data : Option (List Byte)) (firmwareOk : Bool) (s : State) : State :=
  if !slotLoading s || s.loader.copy.isEmpty then s
  else match data with
    | none => refuseSlot 0x02 s
    | some body =>
      let whole := (s.loader.copy ++ body).take (le s.loader.copy 0xC 4)
      let code := signatureCode s whole
      if code ≠ 0 then refuseSlot code s
      else
        let m := parseImage whole
        let code := sectionCode s whole m firmwareOk
        if code = 0 then acceptSlot m s else refuseSlot code s

/-- FLASH_NO_ANSWER: the read that waits ends as one with an error (R50, R64, R65). -/
def flashSilent (s : State) : State :=
  if s.life.sys == .powerUp && !s.loader.pointerRead then readPointer s.loader.flash none none s
  else if s.life.sys == .powerUp && !s.loader.boardDone then readBoard none s
  else if s.loader.copy.isEmpty then headerRead none s
  else bodyRead none false s

/-- BOOT_POINTER_READ (R64). -/
def execBootPointerRead (flash : FlashInfo) (copy0 copy1 : Option (List Byte)) (s : State) :
    Host.Outcome State Fault Refusal :=
  act (readPointer flash copy0 copy1) s

/-- BOARD_RECORD_READ (R65). -/
def execBoardRecordRead (data : Option (List Byte)) (s : State) : Host.Outcome State Fault Refusal := act (readBoard data) s

/-- IMAGE_HEADER_READ (R50). -/
def execImageHeaderRead (data : Option (List Byte)) (s : State) : Host.Outcome State Fault Refusal := act (headerRead data) s

/-- IMAGE_BODY_READ (R50). -/
def execImageBodyRead (data : Option (List Byte)) (firmwareOk : Bool) (s : State) : Host.Outcome State Fault Refusal :=
  act (bodyRead data firmwareOk) s

/-- FLASH_NO_ANSWER (R50). -/
def execFlashNoAnswer (s : State) : Host.Outcome State Fault Refusal := act flashSilent s

end Sys2Proof.Machine
end

