-- ==== Sys2Proof/Machine/Monitor.lean ====
section
/-! DEFINITION. Input power, the engine rail, the controlled stop, and the monitor converters (19 R443 to R459). -/

namespace Sys2Proof.Machine

/-- The raw codes of 100, 97 and 110 degrees (R450, R451, R455). -/
def codeWarn : Nat := 23882
def codeCool : Nat := 23690
def codeStop : Nat := 24522

/-- A temperature code in 0.01 degrees (R455); 0 while there is no reading. -/
def centi (code : Nat) : Int := if code = 0 then 0 else ((200 * code + 64) / 128 : Nat) - 27315

/-- The input power's average (R443). -/
def pwrInUpdate (power : Nat) (s : State) : State :=
  if !s.pwr.osc then s
  else
    let limit := match s.pwr.cls with
      | some c => if c < 5 then classMw c else 200000
      | none => 200000
    let excess := decide (limit < power * 100)
    let rise := excess && !s.pwr.overClass
    let s := mPwr (fun p => { p with pwrIn := power % 65536, overClass := excess }) s
    if rise then bump 20 0x20 s else s

/-- P1 of THERMAL_STOP and the code of STOP_REASON (R451). -/
def StopReason.code : StopReason → Nat
  | .none => 0 | .thermal => 1 | .margin => 2

/-- The record of a controlled stop (R451). -/
def stopRecord (r : StopReason) (s : State) : State :=
  logEvent 0x301E 20 [enc 32 (centi s.pwr.tj), r.code - 1] s

/-- Whether the earlier condition was detected in this CK_HK cycle and gives way to THERMAL (R452). -/
def overrides (r old : StopReason) (s : State) : Bool :=
  r == .thermal && old == .margin && s.life.stopCycle / 8 == s.time.cycle / 8

/-- A condition of a controlled stop (R448, R451, R452). -/
def controlledStop (r : StopReason) (s : State) : State :=
  match s.life.sys with
  | .running =>
    mLife (fun l => { l with stopReason := r, stopCycle := s.time.cycle })
      (beginStop .controlled .stopped (stopRecord r s))
  | .stopped =>
    if overrides r s.life.stopReason s then mLife (fun l => { l with stopReason := r }) s else s
  | .restarting | .loading =>
    if s.life.stopAtStart = .none then
      mLife (fun l => { l with stopAtStart := r, stopCycle := s.time.cycle }) (stopRecord r s)
    else if overrides r s.life.stopAtStart s then mLife (fun l => { l with stopAtStart := r }) s
    else s
  | _ => s

/-- The smallest slack of the last 1 ms, and MARGIN_LOW with it (R445). -/
def Power.slackIs (p : Power) (slack : Nat) : Power :=
  { p with slack := slack % 256, marginLow := decide (slack < 26) }

/-- The engine rail rises one step (R445 to R447). -/
def raiseRail (s : State) : State :=
  let s := bump 20 0 (pulse0 20 5 (mPwr (fun p => { p with setpoint := min 850 (p.setpoint + 5) }) s))
  if s.pwr.avsHold then logEvent 0x1020 20 [s.pwr.setpoint] s else s

/-- A timing monitor's report of slack (R445, R448). -/
def slackLow (slack : Nat) (s : State) : State :=
  if !s.pwr.analysis then s
  else
    let s := mPwr (fun p => p.slackIs slack) s
    if 26 ≤ slack then s
    else if s.pwr.setpoint < 850 then raiseRail s
    else if slack < 13 then controlledStop .margin s
    else s

/-- The engine rail falls one step under ADAPTIVE (R445). -/
def avsLower (slack : Nat) (s : State) : State :=
  if !s.pwr.analysis then s
  else
    let s := mPwr (fun p => p.slackIs slack) s
    if s.pwr.avsHold || decide (slack < 51) || decide (s.pwr.setpoint ≤ 650) then s
    else bump 20 0x10 (mPwr (fun p => { p with setpoint := p.setpoint - 5 }) s)

/-- An entry of the vendor sequence as mask ROM holds it (R456, R457). -/
def romEntry (e : Nat) : MonEntry :=
  let x := Config.monRom e
  { inputA := x.1 % 32, inputB := x.2.1 % 32, reps := x.2.2.1 % 256, wait := x.2.2.2.1, delay := x.2.2.2.2 % 65536 }

/-- Whether the 96 vendor entries convert every die sensor (R449, R456). -/
def romCovers : Bool :=
  (List.range 6).all (fun i => (List.range 96).any (fun e => (romEntry e).inputA == 13 + i) &&
    (List.range 96).any (fun e => (romEntry e).inputB == 13 + i))

/-- A vendor entry. The vendor sequence includes every die sensor (R449, R456): contents of mask ROM that did not are
ruled out by six entries that do (log 15). -/
def vendorEntry (e : Nat) : MonEntry :=
  if romCovers = false ∧ e < 6 then { romEntry e with inputA := 13 + e, inputB := 13 + e } else romEntry e

/-- An entry as latched for the pass. -/
def passEntry (m : Monitor) (e : Nat) : MonEntry := if e < 96 then vendorEntry e else look {} m.passHost e

/-- Entries of a pass (R456). -/
def passEntries (m : Monitor) : Nat := 96 + min 32 (fld m.passCfg.toNat 0 6)

/-- A pass begins (R456): every entry of the pass before has ended. -/
def monPassStart (s : State) : State :=
  let m := s.mon
  if !s.pwr.osc || (m.inPass && decide (m.entry < passEntries m)) then s
  else
    let s := if m.inPass then bump 21 0 s else s
    let s := mPwr (fun p => { p with passCool := true }) s
    mMon (fun m => { m with
      passCfg := m.cfg, passTimer := m.timer, passHost := m.host, inPass := true, entry := 0, started := false
      passLen := if m.inPass then (s.time.cycle - m.passStart) / 8 % 2 ^ 24 else m.passLen
      pass := if m.inPass then m.pass + 1 else m.pass
      passStart := s.time.cycle }) s

/-- START_LOST (R457). -/
def startLost (s : State) : State := bump 21 0x30 (pulse0 21 2 s)

/-- Whether a switching stage switches (R438). -/
def stageSwitches (s : State) (stage : Nat) : Bool :=
  if stage = 0 then s.pwr.on else if stage = 2 then decide (s.pwr.groups = 3) else s.pwr.analysis

/-- Whether the entry at its turn has not begun. -/
def entryDue (s : State) : Bool :=
  s.pwr.osc && s.mon.inPass && !s.mon.started && decide (s.mon.entry < passEntries s.mon)

/-- An entry begins its acquisition (R457). -/
def monEntryStart (s : State) : State :=
  if !entryDue s then s
  else
    let cfg := s.mon.passCfg.toNat
    let lost := (passEntry s.mon s.mon.entry).wait && tbit cfg 6 && !stageSwitches s (fld cfg 8 2)
    mMon (fun m => { m with started := true }) (if lost then startLost s else s)

/-- No start event came: the entry starts, and START_LOST pulses (R457). -/
def monStartTimeout (s : State) : State :=
  if !entryDue s || !(passEntry s.mon s.mon.entry).wait then s
  else mMon (fun m => { m with started := true }) (startLost s)

/-- The mean of an entry's conversions (R458). -/
def meanOf (codes : List Nat) (n : Nat) : Nat := ((codes.take n).foldl (· + ·) 0 + n / 2) / n

/-- Whether an input is a die sensor (R449). -/
def dieInput (i : Nat) : Bool := decide (13 ≤ i) && decide (i ≤ 18)

/-- The readings of the twelve die sensors, MA13 to MA18 and then MB13 to MB18 (R449). -/
def dieReadings (m : Monitor) : List Nat :=
  ((List.range 6).map (fun i => (look (0, 0) m.resA (13 + i)).1)) ++
    ((List.range 6).map (fun i => (look (0, 0) m.resB (13 + i)).1))

/-- The junction: the highest reading and its sensor (R449). -/
def junctionOf (m : Monitor) : Nat × Nat :=
  (dieReadings m).zipIdx.foldl (fun b x => if b.1 < x.1 then x else b) (0, 0)

/-- A new junction temperature (R449 to R451). -/
def newJunction (s : State) : State :=
  let j := junctionOf s.mon
  let s := mPwr (fun p => { p with tj := j.1, tjSensor := j.2, tjPeak := max p.tjPeak j.1 }) s
  let s := if decide (codeWarn ≤ j.1) && !s.pwr.warn then
      bump 20 0x30 (logEvent 0x201D 20 [enc 32 (centi j.1)] (mPwr (fun p => { p with warn := true }) s))
    else s
  if codeStop ≤ j.1 then controlledStop .thermal s else s

/-- An entry's conversions end (R449, R450, R458). -/
def monEntryEnd (a b : List Nat) (s : State) : State :=
  if !s.pwr.osc || !s.mon.inPass || !s.mon.started then s
  else
    let e := passEntry s.mon s.mon.entry
    let n := e.reps + 1
    let va := meanOf a n % 65536
    let vb := meanOf b n % 65536
    let dieA := dieInput e.inputA
    let dieB := dieInput e.inputB
    let hot := (dieA && decide (codeCool ≤ va)) || (dieB && decide (codeCool ≤ vb))
    let s := mMon (fun m => { m with
      resA := put (0, 0) e.inputA (va, m.pass % 256) m.resA
      resB := put (0, 0) e.inputB (vb, m.pass % 256) m.resB
      entry := m.entry + 1, started := false }) s
    let s := if hot then mPwr (fun p => { p with passCool := false }) s else s
    let s := if dieA || dieB then newJunction s else s
    if s.mon.entry = passEntries s.mon ∧ s.pwr.passCool then mPwr (fun p => { p with warn := false }) s else s

/-- A write of MON_URGENT: the inputs, and with GO a request (R459). -/
def monUrgent (v : Word) (s : State) : State :=
  if !s.pwr.osc then s
  else
    let w := (fld v.toNat 0 5, fld v.toNat 8 5)
    let s := mMon (fun m => { m with urgentIn := w }) s
    if !tbit v.toNat 31 then s
    else if s.mon.urgent.isSome then bump 21 0x20 (pulse0 21 1 s)
    else bump 21 0x10 (mMon (fun m => { m with urgent := some w }) s)

/-- The urgent conversion ends (R459). -/
def urgentDone (a b : Nat) (s : State) : State :=
  if s.mon.urgent.isSome then
    pulse0 21 0 (mMon (fun m => { m with urgent := none, urgentRes := w32 (a % 65536 + b % 65536 * 65536) }) s)
  else s

/-- PWR_IN_UPDATE (R443). -/
def execPwrInUpdate (power : Nat) (s : State) : Host.Outcome State Fault Refusal := act (pwrInUpdate power) s

/-- SLACK_LOW (R445). -/
def execSlackLow (slack : Nat) (s : State) : Host.Outcome State Fault Refusal := act (slackLow slack) s

/-- AVS_LOWER (R445). -/
def execAvsLower (slack : Nat) (s : State) : Host.Outcome State Fault Refusal := act (avsLower slack) s

/-- MON_PASS_START (R456). -/
def execMonPassStart (s : State) : Host.Outcome State Fault Refusal := act monPassStart s

/-- MON_ENTRY_START (R457). -/
def execMonEntryStart (s : State) : Host.Outcome State Fault Refusal := act monEntryStart s

/-- MON_START_TIMEOUT (R457). -/
def execMonStartTimeout (s : State) : Host.Outcome State Fault Refusal := act monStartTimeout s

/-- MON_ENTRY_END (R458). -/
def execMonEntryEnd (a b : List Nat) (s : State) : Host.Outcome State Fault Refusal := act (monEntryEnd a b) s

/-- MON_URGENT_GO (R459). -/
def execMonUrgentGo (v : Word) (s : State) : Host.Outcome State Fault Refusal := act (monUrgent v) s

/-- URGENT_CONVERSION_DONE (R459). -/
def execUrgentConversionDone (a b : Nat) (s : State) : Host.Outcome State Fault Refusal := act (urgentDone a b) s

end Sys2Proof.Machine
end

