-- ==== Sys2Proof/Machine/Registers.lean ====
section
/-! DEFINITION. What each BAR0 register shows, by its offset (04 R82, R83 and the register blocks of the chapters). -/

namespace Sys2Proof.Machine

/-- A register made of fields: the lowest bit and the value of each. -/
def regOf (fs : List (Nat × Nat)) : Word := w32 (fs.foldl (fun n f => n + f.2 * 2 ^ f.1) 0)

/-- Low, middle and high words of a wide value. -/
def lo32 (n : Nat) : Word := w32 n
def hi32 (n : Nat) : Word := w32 (n / 2 ^ 32)
def ep16 (n : Nat) : Word := w32 (n / 2 ^ 64 % 65536)

/-- A word of a byte string. -/
def wordOf (bs : List Byte) (off : Nat) : Word := w32 (le bs off 4)

/-- Word n of a digest (R41, R43). -/
def digestWord (d : Digest) (n : Nat) : Word := w32 (d.toNat / 2 ^ (32 * n))

/-- The image whose function runs, as the configuration views show it. -/
def runImg (s : State) : Image := if functionLive s then img s else {}

/-- A holding slot (R97, R98). -/
def readHeld (s : State) (off : Nat) : Word :=
  let h := look {} s.snap.held (off / 16 * 16)
  match off % 16 / 4 with
  | 0 => lo32 h.value
  | 1 => hi32 h.value
  | 2 => bitsW [h.wrap, h.sat]
  | _ => 0

/-- Whole microseconds left in the open placket (R89). -/
def placketLeft (s : State) : Nat := match s.key with
  | some c => (1280000 - (s.time.cycle - c)) / 1280
  | none => 0

/-- Block SYS. -/
def readSys (s : State) (o : Nat) : Word :=
  match o with
  | 0 => 0x00014920
  | 4 => w32 s.life.sys.code
  | 8 => leaf s 0 0
  | _ => 0

/-- Block STAT. -/
def readStat (s : State) (o : Nat) : Word :=
  match o with
  | 0 => s.stat.summary
  | 4 => s.stat.vec0En
  | 8 => statFault s
  | o => if 0x100 ≤ o ∧ o < 0x164 then look 0 s.stat.grp ((o - 0x100) / 4) else 0

/-- Block KEY. -/
def readKey (s : State) (o : Nat) : Word :=
  match o with
  | 4 => regOf [(0, b2n (placketOpen s)), (8, placketLeft s)]
  | 8 => leaf s 2 0
  | 0xC => leaf s 2 1
  | _ => 0

/-- Block SNAP. -/
def readSnap (s : State) (o : Nat) : Word :=
  match o with
  | 4 => s.snap.seq
  | 8 => lo32 s.snap.time.toNat
  | 0xC => hi32 s.snap.time.toNat
  | 0x10 => ep16 s.snap.time.toNat
  | _ => 0

/-- Block LIVE. -/
def readLive (s : State) (o : Nat) : Word :=
  match o with
  | 4 => regOf [(0, s.live.state), (16, s.live.firstBad)]
  | 8 => w32 (if s.live.commit.isSome then s.live.target else s.live.applied)
  | 0xC => w32 s.live.seam
  | 0x10 => leaf s 4 0
  | o => if 0x4000 ≤ o ∧ o < 0x8000 ∧ (o - 0x4000) / 4 < liveCount s then look 0 s.live.shadow ((o - 0x4000) / 4) else 0

/-- Block CMD. -/
def readCmd (s : State) (o : Nat) : Word :=
  let m := s.mbox
  match o with
  | 0 => m.opcode
  | 0xC => regOf [(0, b2n m.running.isSome), (8, m.resp), (16, m.seq)]
  | 0x14 => regOf [(0, m.restartResp), (16, m.restartSeq)]
  | 0x18 => leaf s 5 0
  | o =>
    if 0x20 ≤ o ∧ o < 0x40 then look 0 m.arg ((o - 0x20) / 4)
    else if 0x40 ≤ o ∧ o < 0x60 then look 0 m.res ((o - 0x40) / 4)
    else if 0x4000 ≤ o ∧ o < 0x8000 then w32 (leVal (getBytes m.data (o - 0x4000) 4))
    else 0

/-- CLK_STATE[LOCK] (R120). -/
def LockState.code : LockState → Nat
  | .internal => 0 | .acquiring => 1 | .locked => 2 | .holdover => 3 | .refFar => 4

/-- Block CLK. -/
def readClk (s : State) (o : Nat) : Word :=
  let c := s.clk
  match o with
  | 0 => regOf [(0, c.refDetect), (2, c.lock.code), (5, b2n c.settled), (6, b2n (decide (c.eps ≠ 0))), (7, c.refOut),
      (9, c.refLock)]
  | 4 => leaf s 6 0
  | 8 => w32 (enc 32 c.code)
  | 0xC => w32 (enc 32 c.eps)
  | 0x10 => w32 (enc 32 c.refErr)
  | 0x14 => w32 (enc 32 c.a0)
  | 0x18 => w32 (enc 32 c.a1)
  | 0x1C => w32 c.t0
  | 0x20 => regOf [(0, enc 16 c.ovenErr), (16, c.heater % 65536)]
  | 0x24 => w32 refoutDelay
  | _ => 0

/-- CONV_CHCFGc: the sensed positions show from step 6 of R57. -/
def chCfg (s : State) (c : Nat) : Word :=
  let h := chan s c
  let on := decide (s.pwr.groups = 3)
  regOf [(0, h.range), (2, b2n (on && h.coupling == 1)), (3, b2n (on && h.lining == 1)),
    (4, b2n (h.heldRange.isSome || h.heldCoupling.isSome))]

/-- Block CONV. -/
def readConv (s : State) (o : Nat) : Word :=
  if o < 0x10 then chCfg s (o / 4)
  else if o = 0x10 then leaf s 7 0
  else if o < 0x24 then leaf s 7 (1 + (o - 0x14) / 4)
  else if 0x30 ≤ o ∧ o < 0x40 then w32 (look 0 s.cal.delays ((o - 0x30) / 4))
  else if 0x100 ≤ o ∧ o < 0x300 then
    let c := (o - 0x100) / 0x80
    let t := trimOf s (trimIndex c (chan s c).range ((o - 0x100) % 0x80 / 8))
    if o % 8 = 0 then regOf [(0, enc 12 t.offset), (16, enc 12 t.gain)] else w32 (enc 10 t.skew)
  else 0

/-- The longest run of slots that are not open, cyclically (R168). -/
def gapOf (slots : List SlotKind) : Nat :=
  ((slots ++ slots).foldl (fun (p : Nat × Nat) k =>
    let r := if k = .openSlot then 0 else p.1 + 1
    (r, max p.2 r)) (0, 0)).2

/-- STORE_TABLE, STORE_GAP and STORE_WEIGHTS of the table that runs (R163). -/
def tableRegs (s : State) : Word × Word × Word :=
  if !s.store.table then (0, 0, 0)
  else if s.store.imageTable then
    let t := (img s).slots
    (w32 t.slots.length, regOf [(0, (t.slots.filter (· == .openSlot)).length), (17, min (gapOf t.slots) t.slots.length)],
      regOf ((List.range 6).map (fun r => (4 * r, weight s r))))
  else (64, regOf [(0, 59), (17, 1)], w32 (15 * 2 ^ 20))

/-- Codes of KIND (R170). -/
def SleeveKind.code : SleeveKind → Nat
  | .continuous => 0 | .capture => 1 | .stream => 2

/-- STORE_SL_CFG to STORE_SL_HWM of the selected sleeve. -/
def readSleeveRegs (s : State) (o : Nat) : Word :=
  let i := s.store.slsel
  let d := sleeveDecl s i
  let v := sleeve s i
  if !s.store.imageTable || decide ((img s).sleeves.length ≤ i) then 0
  else match o with
    | 0x104 => regOf [(0, d.kind.code), (2, d.format.code), (4, b2n d.hostRead), (5, d.readers.length), (9, 1)]
    | 0x108 => w32 v.inForce
    | 0x10C => regOf [(0, b2n v.stopped), (1, b2n v.dropping), (2, b2n v.ueSeen), (3, v.markers.length)]
    | 0x110 => w32 ((v.wcount - v.passStart) / 64)
    | 0x114 => w32 (v.hwm / 64)
    | _ => 0

/-- Block STORE. -/
def readStore (s : State) (o : Nat) : Word :=
  let t := s.store
  match o with
  | 0 => bitsW [t.trained0, t.trained1, t.imageTable]
  | 4 => leaf s 8 0
  | 8 => leaf s 8 1
  | 0x10 => (tableRegs s).1
  | 0x14 => (tableRegs s).2.1
  | 0x18 => (tableRegs s).2.2
  | 0x1C => w32 (tagsInUse s)
  | 0x20 => lo32 t.ceAddr
  | 0x24 => hi32 t.ceAddr
  | 0x28 => lo32 t.ueAddr
  | 0x2C => hi32 t.ueAddr
  | 0x100 => w32 t.slsel
  | o => readSleeveRegs s o

/-- The word of 32 engines that starts at engine 32n. -/
def engineBits (s : State) (f : Engine → Bool) (n : Nat) : Word :=
  bitsW ((List.range 32).map (fun b => f (look {} s.eng.engines (32 * n + b))))

/-- Block ENG: its configuration views stay those of the image that last ran (R479). -/
def readEng (s : State) (o : Nat) : Word :=
  let a := s.eng
  let g := look {} a.engines a.esel
  match o with
  | 0 => bitsW [a.running, a.inSeam]
  | 4 => leaf s 9 0
  | 8 => w32 a.period
  | 0xC => w32 a.sched
  | 0x10 => lo32 a.t0
  | 0x14 => hi32 a.t0
  | 0x18 => ep16 a.t0
  | 0x100 => w32 a.esel
  | 0x104 => if 191 < a.esel then 0 else
      regOf [(0, if g.stopped then 3 else if g.parked then 2 else if g.programmed then 1 else 0), (8, g.seamBexp)]
  | 0x108 => if 191 < a.esel then 0 else w32 g.seamPc
  | 0x10C => if 191 < a.esel then 0 else w32 g.paramBase
  | o =>
    if 0x20 ≤ o ∧ o < 0x38 then engineBits s Engine.programmed ((o - 0x20) / 4)
    else if 0x40 ≤ o ∧ o < 0x58 then engineBits s Engine.stopped ((o - 0x40) / 4)
    else 0

/-- Block SPEC. -/
def readSpec (s : State) (o : Nat) : Word :=
  let fs := (runImg s).frames
  let d := fs[s.ssel]?
  let x := look {} s.frames s.ssel
  let of := fun (f : FrameDecl → Word) => (d.map f).getD 0
  match o with
  | 0 => leaf s 10 0
  | 4 => w32 fs.length
  | 0x100 => w32 s.ssel
  | 0x104 => of (fun d => regOf [(0, b2n d.channeliser), (1, d.channel), (3, d.sizeLog2), (8, d.format), (10, d.dst),
      (21, d.mask.length), (31, 1)])
  | 0x108 => of (fun d => w32 d.hop)
  | 0x10C => of (fun d => regOf [(0, d.binFirst), (16, d.binCount)])
  | 0x110 => of (fun _ => w32 x.flags)
  | 0x114 => of (fun _ => lo32 x.frame)
  | 0x118 => of (fun _ => hi32 x.frame)
  | _ => 0

/-- Block TRC. -/
def readTrc (s : State) (o : Nat) : Word :=
  let m := runImg s
  let d := m.traces.find? (fun t => t.detector == s.dselTrace)
  let of := fun (f : TraceDecl → Word) => (d.map f).getD 0
  match o with
  | 0 => leaf s 11 0
  | 4 => w32 m.traces.length
  | 0x100 => w32 s.dselTrace
  | 0x104 => of (fun d => regOf [(0, d.mode), (2, (m.frame d.stream).format), (3, d.decim), (10, d.stream), (16, d.dst), (31, 1)])
  | 0x108 => of (fun d => regOf [(0, d.pointFirst), (16, d.pointCount)])
  | 0x10C => of (fun d => w32 d.interval)
  | 0x110 => of (fun _ => lo32 (look {} s.traces s.dselTrace).last)
  | 0x114 => of (fun _ => hi32 (look {} s.traces s.dselTrace).last)
  | _ => 0

/-- Block DEN. -/
def readDen (s : State) (o : Nat) : Word :=
  let m := runImg s
  let d := m.planes.find? (fun p => p.plane == s.psel)
  let x := look {} s.planes s.psel
  let of := fun (f : PlaneDecl → Word) => (d.map f).getD 0
  match o with
  | 0 => leaf s 12 0
  | 4 => regOf [(0, m.planes.length), (4, m.denConds.length)]
  | 8 => w32 (((m.planes.map (fun p => 8 * p.columns * p.rows)).foldl (· + ·) 0 + 1023) / 1024)
  | 0x100 => w32 s.psel
  | 0x104 => of (fun d => regOf [(0, b2n d.peak), (1, d.decim), (8, d.decay), (13, d.stream), (19, d.dst), (31, 1)])
  | 0x108 => of (fun d => regOf [(0, d.columns), (16, d.rows)])
  | 0x10C => of (fun d => regOf [(0, d.rowBottom), (16, d.rowStep)])
  | 0x110 => of (fun _ => bitsW [match x.pass with
      | some c => c.started
      | none => false, x.sat])
  | 0x114 => of (fun _ => lo32 x.last)
  | 0x118 => of (fun _ => hi32 x.last)
  | _ => 0

/-- The summed input rate in kS/s, rounded up (R31). -/
def ctxRate (m : Image) : Nat :=
  let f := fracSum (m.contexts.map (fun d => (20480000, d.inputDecim)))
  (f.1 + f.2 - 1) / f.2

/-- The summed worst-case tap load, 1e6 taps/s, rounded up (R289). -/
def ctxTaps (m : Image) : Nat :=
  let f := fracSum (m.contexts.map (fun d => let l := tapLoad m d; (l.1 * 20480, l.2)))
  (f.1 + f.2 - 1) / f.2

/-- CTX_C_STATE of a context. -/
def ctxState (d : ContextDecl) (x : Context) : Word :=
  let early := decide (x.out < settleLen d x.stages) && !x.settled
  regOf [(0, b2n x.fallback), (1, b2n x.fade.isSome), (2, b2n x.heldBank.isSome), (3, x.bank), (4, x.heldBank.getD 0),
    (5, b2n (!d.fast && early)), (6, b2n (d.fast && early)), (7, b2n (!x.queue.isEmpty)), (8, (x.queue.filter (fun r => !r.held)).length)]

/-- Block CTX. -/
def readCtx (s : State) (o : Nat) : Word :=
  let m := runImg s
  let d := m.contexts.find? (fun d => d.index == s.ctxSel)
  let x := look {} s.ctxs s.ctxSel
  let of := fun (f : ContextDecl → Word) => (d.map f).getD 0
  let bits := fun (f : Context → Bool) (n : Nat) =>
    bitsW ((List.range 32).map (fun b => f (look {} s.ctxs (32 * n + b))))
  match o with
  | 0 => leaf s 13 0
  | 4 => w32 m.contexts.length
  | 8 => w32 (ctxRate m)
  | 0xC => w32 (ctxTaps m)
  | 0x10 => w32 ((m.contexts.foldl (fun n d => n + delayBytes m d) 0 + 1023) / 1024)
  | 0x100 => w32 s.ctxSel
  | 0x104 => of (fun d => regOf [(0, b2n d.fast), (1, b2n d.fromSleeve), (2, d.lens.length), (5, d.taps), (13, d.outMode), (31, 1)])
  | 0x108 => of (fun d => regOf [(0, d.src), (16, d.dst)])
  | 0x10C => of (fun d => ctxState d x)
  | 0x110 => of (fun _ => lo32 x.tw)
  | 0x114 => of (fun _ => hi32 x.tw)
  | 0x118 => of (fun _ => match x.fade with
    | some f => w32 f.pos
    | none => 0)
  | 0x11C => of (fun _ => w32 (x.seq - 1))
  | o =>
    if 0x120 ≤ o ∧ o < 0x130 then
      of (fun _ => let g := x.stages.getD ((o - 0x120) / 4) {}; regOf [(0, g.len), (16, g.decim)])
    else if 0x200 ≤ o ∧ o < 0x280 then bits Context.fallback ((o - 0x200) / 4)
    else if 0x280 ≤ o ∧ o < 0x300 then bits (fun x => x.heldBank.isSome) ((o - 0x280) / 4)
    else 0

/-- The state code of a group (R318). -/
def GroupState.code : GroupState → Nat
  | .disarmed => 0 | .armed => 1 | .provisional => 2 | .capturing => 3 | .holdoff => 4

/-- The states of eight groups. -/
def groupStates (s : State) (first : Nat) : Word :=
  regOf ((List.range 8).map (fun g => (4 * g, (group s (first + g)).state.code)))

/-- Codes of DEST (R322). -/
def CapDest.code : CapDest → Nat
  | .none => 0 | .store => 1 | .drive => 2

/-- Block TRG. -/
def readTrg (s : State) (o : Nat) : Word :=
  let g := s.trig.gsel
  let x := group s g
  let d := (runImg s).groups.find? (fun d => d.group == g)
  match o with
  | 0xC => leaf s 14 0
  | 0x10 => groupStates s 0
  | 0x14 => groupStates s 8
  | 0x100 => w32 g
  | 0x104 => (d.map (fun d => regOf [(0, d.mode), (2, b2n d.auto), (3, b2n d.provisional), (4, d.dest.code),
      (6, b2n x.pendingArm), (31, 1)])).getD 0
  | 0x108 => lo32 (x.firstMiss.getD 0)
  | 0x10C => hi32 (x.firstMiss.getD 0)
  | 0x110 => ep16 (x.firstMiss.getD 0) ||| (if x.firstMiss.isSome then 0x10000 else 0)
  | 0x114 => ((x.last.map (fun o => lo32 (o.time / 256))).getD 0)
  | 0x118 => ((x.last.map (fun o => hi32 (o.time / 256))).getD 0)
  | 0x11C => ((x.last.map (fun o => regOf [(0, o.time % 256), (8, o.cond), (16, o.time / 256 / 2 ^ 64 % 65536)])).getD 0)
  | _ => 0

/-- Block CAP. -/
def readCap (s : State) (o : Nat) : Word :=
  let g := s.trig.csel
  let x := group s g
  let drive := match (runImg s).groups.find? (fun d => d.group == g) with
    | some d => d.dest == .drive
    | none => false
  match o with
  | 4 => leaf s 15 0
  | 8 => lo32 s.trig.next
  | 0xC => hi32 s.trig.next
  | 0x100 => w32 g
  | 0x104 => regOf [(0, b2n (x.state == .capturing)), (1, b2n (x.state == .provisional)), (2, b2n drive), (3, x.notices.length)]
  | 0x108 => lo32 x.capNo
  | 0x10C => hi32 x.capNo
  | 0x110 => w32 x.capFlags
  | _ => 0

/-- Block TIU. -/
def readTiu (s : State) (o : Nat) : Word :=
  let t := s.tiu
  let n := t.isel
  let x := (evt s n).apply (now s)
  let y := look {} t.outs t.osel
  let all := fun (f : EvtInput → Bool) => (List.range 8).map (fun n => f (evt s n))
  match o with
  | 0 => leaf s 16 0
  | 8 => bitsW (all EvtInput.calibrating ++ all EvtInput.valid ++ all EvtInput.failed)
  | 0x100 => w32 n
  | 0x104 => regOf [(0, enc 13 x.threshold), (13, x.slope), (15, b2n x.diff), (16, b2n x.tsEn)]
  | 0x108 => w32 x.gate
  | 0x10C => w32 x.used
  | 0x110 => w32 (Config.tiuDelay n % 65536)
  | 0x300 => w32 t.osel
  | 0x304 => if 5 < t.osel then 0 else regOf [(0, y.width), (16, y.polarity), (17, b2n y.active)]
  | 0x308 => if 5 < t.osel then 0 else lo32 y.last
  | 0x30C => if 5 < t.osel then 0 else hi32 y.last
  | 0x310 => if 5 < t.osel then 0 else w32 (Config.outDelay t.osel % 65536)
  | o =>
    if 0x200 ≤ o ∧ o < 0x210 then
      let u := (ivl s ((o - 0x200) / 4)).apply (now s)
      regOf [(0, u.mode), (2, u.start), (5, u.stop), (8, u.startEdge), (10, u.stopEdge), (12, b2n u.heldStart.isSome),
        (13, b2n u.heldStop.isSome)]
    else if 0x1000 ≤ o ∧ o < 0x3000 then
      let z := evt s ((o - 0x1000) / 0x400)
      let k := (o - 0x1000) % 0x400 / 4
      regOf [(0, look 0 z.widths (2 * k)), (16, look 0 z.widths (2 * k + 1))]
    else 0

/-- Codes of DSK_D_STATE[STATE] and of DSK_STATE[VOLUME] (15). -/
def DriveState.code : DriveState → Nat
  | .absent => 0 | .checking => 1 | .accepted => 2 | .member => 3 | .failed => 4 | .quarantined => 5 | .rejected => 6
def VolumeState.code : VolumeState → Nat
  | .none => 0 | .bringup => 1 | .opened => 2 | .degraded => 3 | .stopped => 4 | .closed => 5

/-- Block DSK. -/
def readDsk (s : State) (o : Nat) : Word :=
  let v := s.disk.vol
  let d := drive s s.disk.dsel
  match o with
  | 0 => regOf [(0, v.state.code), (3, v.parity), (5, v.members)]
  | 4 => leaf s 17 0
  | 8 => bitsW ((List.range 16).map (fun d => (drive s d).state == .accepted || (drive s d).state == .member) ++
      (List.range 16).map (fun d => (drive s d).state == .failed || (drive s d).state == .quarantined))
  | 0xC => w32 ((liveDrives s).foldl (fun m p => max m (lagOf s p.1)) 0)
  | 0x10 => lo32 v.head
  | 0x14 => hi32 v.head
  | 0x18 => lo32 v.lastSeq
  | 0x1C => hi32 v.lastSeq
  | 0x100 => w32 s.disk.dsel
  | 0x104 => regOf [(0, d.state.code), (3, d.member.getD 31), (8, d.reason), (16, d.cmds.length)]
  | 0x108 => regOf [(0, d.speed), (2, d.width)]
  | 0x10C => lo32 d.badAddr
  | 0x110 => hi32 d.badAddr
  | o => if 0x20 ≤ o ∧ o < 0x30 then w32 (v.volumeId / 2 ^ (32 * ((o - 0x20) / 4))) else 0

/-- Block HOST: the link, its leaves, the MSI-X pending bits and table (R385). -/
def readHost (s : State) (o : Nat) : Word :=
  let l := s.link
  match o with
  | 0 => regOf [(0, l.speed), (3, l.width), (8, b2n l.flit), (9, b2n l.up), (10, b2n l.d3hot)]
  | 4 => leaf s 18 0
  | o =>
    if 0x7F00 ≤ o ∧ o < 0x8000 then
      bitsW ((List.range 32).map (fun b => look false l.pending (8 * (o - 0x7F00) + b)))
    else if 0x8000 ≤ o ∧ o < 0x10000 then
      let e := look {} l.msix ((o - 0x8000) / 16)
      match o % 16 / 4 with
      | 0 => lo32 e.addr
      | 1 => hi32 e.addr
      | 2 => e.data
      | _ => bitsW [e.masked]
    else 0

/-- Codes of a ring's KIND (R387). -/
def RingKind.code : RingKind → Nat
  | .stream => 0 | .notice => 1 | .xfer => 2

/-- DMA_Q_STATE of a ring. -/
def ringState (s : State) (q : Nat) : Word :=
  let r := ring s q
  match (if s.store.imageTable then ringDecl s q else none) with
  | none => 0
  | some d => regOf [(0, if r.halt ≠ 0 then 3 else if r.running then 2 else 1), (2, d.kind.code), (4, r.halt),
      (6, b2n r.run.isSome), (7, b2n r.destWaiting), (8, b2n (stalled s q r))]

/-- Block DMA. -/
def readDma (s : State) (o : Nat) : Word :=
  if o = 0x80000 then leaf s 19 0
  else if o = 0x80004 then w32 (if s.store.imageTable then (img s).rings.length else 0)
  else if 0x80000 ≤ o then 0
  else
    let q := o / 0x40
    let r := ring s q
    match o % 0x40 with
    | 0x00 => lo32 r.dbase
    | 0x04 => hi32 r.dbase
    | 0x08 => lo32 r.cbase
    | 0x0C => hi32 r.cbase
    | 0x10 => regOf [(0, b2n r.enable), (1, b2n r.join), (2, b2n r.dataIrq), (3, r.swap), (5, r.sizeLog2), (10, r.vector)]
    | 0x14 => w32 r.tail
    | 0x18 => w32 r.head
    | 0x1C => w32 r.chead
    | 0x20 => w32 r.ctail
    | 0x24 => ringState s q
    | _ => 0

/-- Block PWR. -/
def readPwr (s : State) (o : Nat) : Word :=
  let p := s.pwr
  match o with
  | 0 => regOf [(0, p.cls.getD 0), (3, b2n p.avsHold), (4, s.life.stopReason.code)]
  | 4 => leaf s 20 0
  | 8 => regOf [(0, p.setpoint), (16, p.floor)]
  | 0xC => w32 (Config.avsHold % 1024)
  | 0x10 => regOf [(0, enc 16 (centi p.tj)), (16, p.tjSensor)]
  | 0x14 => w32 (enc 16 (centi p.tjPeak))
  | 0x18 => w32 p.pwrIn
  | 0x1C => w32 p.slack
  | _ => 0

/-- An entry of the sequence table as software reads it. -/
def shownEntry (m : Monitor) (e : Nat) : MonEntry := if e < 96 then vendorEntry e else look {} m.host e

/-- Block MON. -/
def readMon (s : State) (o : Nat) : Word :=
  let m := s.mon
  match o with
  | 0 => leaf s 21 0
  | 4 => m.cfg
  | 8 => m.timer
  | 0xC => w32 m.passLen
  | 0x10 => regOf [(0, m.urgentIn.1), (8, m.urgentIn.2)]
  | 0x14 => m.urgentRes
  | o =>
    if 0x100 ≤ o ∧ o < 0x180 then let r := look (0, 0) m.resA ((o - 0x100) / 4); regOf [(0, r.1), (16, r.2)]
    else if 0x180 ≤ o ∧ o < 0x200 then let r := look (0, 0) m.resB ((o - 0x180) / 4); regOf [(0, r.1), (16, r.2)]
    else if 0x400 ≤ o ∧ o < 0x800 then
      let e := shownEntry m ((o - 0x400) / 8)
      if o % 8 = 0 then regOf [(0, e.inputA), (8, e.inputB), (16, e.reps), (24, b2n e.wait)] else w32 e.delay
    else 0

/-- The STEP code of a calibration turn; while one range is measured the step within it is the firmware's (log 18). -/
def stepCode (s : State) : CalStep → Nat
  | .none => 0 | .connect => 1 | .dc => 2 + Config.calPhase s.time.cycle % 3 | .comb => 3 | .skew => 4 | .compute => 5
  | .ret => 6

/-- CAL_STATE (17). -/
def calState (s : State) : Word :=
  let policy := if functionLive s then s.cal.policy else 0
  match s.cal.run with
  | none => regOf [(13, policy)]
  | some u => regOf [(0, if u.aborting then 2 else 1), (2, u.channel), (4, stepCode s u.step), (7, u.range),
      (9, u.waiting), (13, policy)]

/-- A drift register. -/
def driftReg (d : Int × Bool) : Word := regOf [(0, enc 16 d.1), (16, b2n d.2)]

/-- Block CAL. -/
def readCal (s : State) (o : Nat) : Word :=
  let k := s.cal
  let d := look {} k.drifts (16 * (k.tsel % 4) + k.tsel / 4 % 16)
  match o with
  | 0 => calState s
  | 4 => leaf s 22 0
  | 8 => w32 k.gen
  | 0xC => w32 k.anchorGen
  | 0x10 => if s.pwr.osc then w32 s.recorder.highestGen else 0
  | 0x14 => regOf [(0, k.inUse), (2, b2n k.valid0), (3, b2n k.valid1)]
  | 0x100 => w32 k.tsel
  | 0x104 => driftReg d.ofs
  | 0x108 => driftReg d.gain
  | 0x10C => driftReg d.skew
  | o =>
    if 0x20 ≤ o ∧ o < 0x40 then digestWord trimDigest ((o - 0x20) / 4)
    else if 0x40 ≤ o ∧ o < 0x60 then digestWord k.digest ((o - 0x40) / 4)
    else if 0x1000 ≤ o ∧ o < 0x2000 then wordOf factoryBlock (o - 0x1000)
    else if 0x2000 ≤ o ∧ o < 0x4000 then wordOf k.record (o - 0x2000)
    else 0

/-- Milliseconds of the freeze left (R430). -/
def freezeLeft (s : State) : Nat := match s.recorder.freeze with
  | some c => (12800000000 - (s.time.cycle - c)) / 1280000
  | none => 0

/-- Block LOG. The recorder starts at step 4 of R57; before, its registers read their reset values (R60). -/
def readLog (s : State) (o : Nat) : Word :=
  let r := s.recorder
  if !s.pwr.osc then 0
  else match o with
  | 0 => regOf [(0, b2n r.freeze.isSome), (1, b2n r.degraded), (2, b2n r.reservedFull), (8, r.queue.length)]
  | 4 => leaf s 23 0
  | 8 => lo32 r.seq
  | 0xC => hi32 r.seq
  | 0x10 => lo32 r.clearSeq
  | 0x14 => hi32 r.clearSeq
  | 0x18 => w32 r.cycles
  | 0x1C => w32 r.seconds
  | 0x20 => regOf [(0, r.bad.length), (16, r.ringSize)]
  | 0x24 => w32 (freezeLeft s)
  | 0x28 => w32 r.win
  | 0x2C => regOf [(0, r.newest.1), (12, r.newest.2)]
  | o => if 0x1000 ≤ o ∧ o < 0x2000 then wordOf (logPage r r.win) (o - 0x1000) else 0

/-- A key slot (R46). -/
def keySlot (s : State) (k : Nat) : KeySlot := look {} s.img.keys k

/-- IMG_STATUS. -/
def imgStatus (s : State) : Word :=
  let r := s.img
  regOf [(0, r.codeA), (8, r.codeB), (16, r.running), (18, b2n r.safe), (19, b2n (commissioned s)), (20, b2n r.vendor),
    (21, b2n r.loading)]

/-- Block IMG. -/
def readImg (s : State) (o : Nat) : Word :=
  let r := s.img
  match o with
  | 0 => imgStatus s
  | 4 => regOf [(0, r.major), (8, r.minor), (24, Config.stepping % 256)]
  | 8 => w32 r.version
  | 0x50 => bitsW ((List.range 4).flatMap (fun k => [(keySlot s k).enabled, (keySlot s k).revoked]))
  | 0x54 => w32 r.ksSel
  | 0x80 => w32 r.loadCycles
  | o =>
    if 0x10 ≤ o ∧ o < 0x30 then digestWord r.digest ((o - 0x10) / 4)
    else if 0x30 ≤ o ∧ o < 0x50 then digestWord r.fwDigest ((o - 0x30) / 4)
    else if 0x60 ≤ o ∧ o < 0x80 then
      if (keySlot s r.ksSel).enabled then digestWord (keySlot s r.ksSel).digest ((o - 0x60) / 4) else 0
    else 0

/-- A register of a block, by its offset within it. -/
def readBlock (s : State) (n o : Nat) : Word :=
  match n with
  | 0 => readSys s o | 1 => readStat s o | 2 => readKey s o | 3 => readSnap s o | 4 => readLive s o
  | 5 => readCmd s o | 6 => readClk s o | 7 => readConv s o | 8 => readStore s o | 9 => readEng s o
  | 10 => readSpec s o | 11 => readTrc s o | 12 => readDen s o | 13 => readCtx s o | 14 => readTrg s o
  | 15 => readCap s o | 16 => readTiu s o | 17 => readDsk s o | 18 => readHost s o | 19 => readDma s o
  | 20 => readPwr s o | 21 => readMon s o | 22 => readCal s o | 23 => readLog s o | 24 => readImg s o
  | _ => 0

/-- What a BAR0 register shows; an unassigned offset or a reserved register shows 0 (R83). -/
def readReg (s : State) (off : Nat) : Word :=
  if off % 4 ≠ 0 ∨ 0x1000000 ≤ off then 0
  else if 0x800000 ≤ off then readHeld s off
  else match blockAt off with
    | some (n, o) => readBlock s n o
    | none => 0

end Sys2Proof.Machine
end

