-- ==== Sys2Proof/Machine/Interface.lean ====
section
/-! DEFINITION. Unlock, the reads of the status tree, and the snapshot (04 R86 to R99). -/

namespace Sys2Proof.Machine

/-- A write of KEY_UNLOCK (R89, R90). -/
def keyUnlock (v : Word) (s : State) : State :=
  if v = 0x6B3D then { s with key := some s.time.cycle } else keyFail (blockBase 2) v { s with key := none }

/-- The placket closes once its time is over (R89). -/
def placketOver (s : State) : State := if placketOpen s then s else { s with key := none }

/-- A read of STAT_SUMMARY: what this CK_FAB cycle has latched stays for the next read (R86, R93). -/
def summaryRead (s : State) : State := mStat (fun t => { t with summary := 0 }) (emit (.word s.stat.summary) s)

/-- A read of STAT_GRPn (R86, R93). -/
def groupRead (n : Nat) (s : State) : State :=
  mStat (fun t => { t with grp := put 0 n 0 t.grp }) (emit (.word (look 0 s.stat.grp n)) s)

/-- A snapshot of every counter (R96, R98). -/
def Snapshot.take (p : Snapshot) (count : BitVec 80) : Snapshot :=
  { ctrs := p.ctrs.foldl (fun m c => put {} c.1 { c.2 with wrap := false } m) []
    held := p.ctrs.foldl (fun m c => put {} c.1 (c.2.hold (saturates c.1)) m) []
    seq := p.seq + 1, time := count, here := true }

/-- A write of SNAP_TAKE (R96). -/
def snapTake (v : Word) (s : State) : State :=
  if tbit v.toNat 0 then mSnap (fun p => p.take s.time.count) s else s

/-- STAT_SUMMARY_READ (R93). -/
def execStatSummaryRead (s : State) : Host.Outcome State Fault Refusal := act summaryRead s

/-- STAT_GRP_READ (R92). -/
def execStatGrpRead (n : Nat) (s : State) : Host.Outcome State Fault Refusal := act (groupRead n) s

/-- KEY_UNLOCK_WRITE (R89). -/
def execKeyUnlockWrite (v : Word) (s : State) : Host.Outcome State Fault Refusal := act (keyUnlock v) s

/-- PLACKET_TIMEOUT (R89). -/
def execPlacketTimeout (s : State) : Host.Outcome State Fault Refusal := act placketOver s

/-- SNAP_TAKE (R96). -/
def execSnapTake (v : Word) (s : State) : Host.Outcome State Fault Refusal := act (snapTake v) s

end Sys2Proof.Machine
end

