-- ==== Sys2Proof/Machine/Mailbox.lean ====
section
/-! DEFINITION. The command mailbox (04 R106 to R110, 02 R46 to R49 and R478, 17 R409 to R420, 18 R430 to R433). -/

namespace Sys2Proof.Machine

/-- Offset of CMD_DOORBELL_KG. -/
def doorbellKg : Nat := blockBase 5 + 0x008

/-- Result registers with the first few set; the others read zero (R108). -/
def results (l : List Word) : Sparse Word := l.zipIdx.foldl (fun m p => put 0 p.2 p.1 m) []

/-- An argument register. -/
def argOf (s : State) (n : Nat) : Nat := (look 0 s.mbox.arg n).toNat

/-- The bytes of CMD_DATA from offset 0. -/
def cmdData (s : State) (n : Nat) : List Byte := getBytes s.mbox.data 0 n

/-- The opcodes of the command table (R110). -/
def knownOps : List Nat :=
  [0x0001, 0x0002, 0x0010, 0x0011, 0x0012, 0x0013, 0x0014, 0x0020, 0x0021, 0x0030, 0x0031, 0x0032, 0x0040, 0x0041, 0x0042]

/-- The guarded commands, marked G. -/
def guardedOps : List Nat := [0x0012, 0x0013, 0x0020, 0x0021, 0x0031, 0x0042]

/-- The commands served in the safe state, marked S. -/
def safeOps : List Nat :=
  [0x0001, 0x0002, 0x0010, 0x0011, 0x0012, 0x0013, 0x0014, 0x0020, 0x0021, 0x0040, 0x0041]

/-- The answer that the present state gives to a command it does not serve, 0 when it serves it (R109). -/
def stateAnswer (sys : SysState) (op : Nat) : Nat :=
  match sys with
  | .running => 0
  | .safe => if safeOps.contains op then 0 else 5
  | .stopped => if safeOps.contains op || op == 0x0031 then 0 else 5
  | _ => if op = 0x0001 ∨ op = 0x0002 then 0 else 1

/-- The command goes on outside the control core, BUSY meanwhile (R106). -/
def goOn (op : MboxOp) (s : State) : State := mMbox (fun m => { m with running := some op }) s

/-- Data that a command returns, from offset 0 of CMD_DATA (R108). -/
def returnData (bs : List Byte) (s : State) : State := mMbox (fun m => { m with data := putBytes 0 bs m.data }) s

/-- Whether the 64 KiB unit that holds a flash byte belongs to the areas of R110. -/
def flashUnitOk (a : Areas) (x : Nat) : Bool :=
  let u := x / 65536 * 65536
  decide (u < 0x20000) || (decide (a.slotA ≤ u) && decide (u < a.slotA + 100663296)) ||
    (decide (a.slotB ≤ u) && decide (u < a.slotB + 100663296)) || u == a.board

/-- Whether a flash range lies within the areas of R110 and the density. -/
def flashRangeOk (s : State) (off len : Nat) : Bool :=
  flashUnitOk s.loader.areas off && flashUnitOk s.loader.areas (off + len - 1) && decide (off + len ≤ s.loader.flash.density)

/-- FLASH_READ (R110). -/
def flashReadCmd (s : State) : State :=
  let off := argOf s 0
  let len := argOf s 1
  if len = 0 ∨ 16384 < len then finishMailbox 3 [] s
  else if s.loader.flash.density < off + len then finishMailbox 4 [] s
  else emit (.flashRead off len) (goOn (.flashRead off len) s)

/-- FLASH_ERASE (R110). -/
def flashEraseCmd (s : State) : State :=
  let off := argOf s 0
  let n := eraseSize s.loader.flash
  if off % 65536 ≠ 0 then finishMailbox 3 [] s
  else if !flashRangeOk s off 65536 then finishMailbox 4 [] s
  else emit (.flashErase off n (65536 / n)) (goOn (.flashErase off) s)

/-- FLASH_PROGRAM (R110): BAD_ARGUMENT comes before RANGE (DESIGN CHOICE, log 138). -/
def flashProgramCmd (s : State) : State :=
  let off := argOf s 0
  let len := argOf s 1
  let page := s.loader.flash.page
  if len = 0 ∨ 16384 < len ∨ page = 0 ∨ off % page ≠ 0 ∨ len % page ≠ 0 then finishMailbox 3 [] s
  else if !flashRangeOk s off len then finishMailbox 4 [] s
  else emit (.flashProgram off (cmdData s len)) (goOn (.flashProgram off len) s)

/-- FLASH_INFO (R110). -/
def flashInfoCmd (s : State) : State :=
  let f := s.loader.flash
  finishMailbox 0 (results [w32 f.density, w32 (b2n (!f.octal)), w32 s.loader.pointer, w32 f.page]) s

/-- BOARD_READ (R65, R110). -/
def boardReadCmd (s : State) : State :=
  let off := argOf s 0
  let len := argOf s 1
  if 4096 < off + len then finishMailbox 3 [] s
  else match s.loader.board with
    | none => finishMailbox 0xA [] s
    | some bs => finishMailbox 0 (results [w32 s.loader.areas.boardLen])
        (returnData (slice (bs.take s.loader.areas.boardLen ++ List.replicate 4096 0) off len) s)

/-- Whether a key slot is enabled and not revoked, and holds a digest (R48). -/
def signerOk (s : State) (k : Nat) (d : Digest) : Bool :=
  let x := keySlot s k
  x.enabled && !x.revoked && x.digest == d

/-- Steps 4 and 5 of R478: the signer and the signature of a token; 0 when they pass. -/
def tokenSigned (s : State) (t : List Byte) (signer : Nat) : Nat :=
  if !signerOk s signer (keyDigest t) then 8
  else if !verifies (slice t 0x30 1312) (sha3 (t.take 0x30)) (slice t 0x550 2420) then 7
  else 0

/-- Steps 2 to 5 of R478 for a key-slot token; 0 when they pass. -/
def ksTokenCode (s : State) (t : List Byte) (action : Nat) : Nat :=
  if le t 0 4 ≠ 0x544B5A53 ∨ !zeroAt t 6 2 ∨ !zeroAt t 0x29 7 then 7
  else if le t 4 1 ≠ action ∨ 3 < le t 5 1 ∨ 3 < le t 0x28 1 ∨ (action = 1 ∧ digestAt t 8 = 0) ∨
      (action = 2 ∧ digestAt t 8 ≠ 0) then 3
  else tokenSigned s t (le t 0x28 1)

/-- Whether R49 refuses a write of a slot. -/
def writeRefused (x : KeySlot) (d : Digest) : Bool := x.enabled || (x.digest != 0 && x.digest != d)

/-- Whether R49 refuses a revocation of a slot. -/
def revokeRefused (s : State) (k : Nat) : Bool :=
  let x := keySlot s k
  !x.enabled || x.revoked ||
    !((List.range 4).any (fun j => j != k && (keySlot s j).enabled && !(keySlot s j).revoked))

/-- The write of a slot once its checks have passed (R46, R49). -/
def writeSlot (k : Nat) (d : Digest) (s : State) : State :=
  if writeRefused (keySlot s k) d then finishMailbox 9 [] s else goOn (.ksWrite k d) s

/-- KS_WRITE (R47, R49, R478). -/
def ksWriteCmd (s : State) : State :=
  let t := cmdData s 3780
  if argOf s 0 = 1 then
    let code := ksTokenCode s t 1
    if code ≠ 0 then finishMailbox code [] s else writeSlot (le t 5 1) (digestAt t 8) s
  else if argOf s 0 ≠ 0 ∨ 3 < argOf s 1 then finishMailbox 3 [] s
  else if commissioned s then finishMailbox 7 [] s
  else writeSlot (argOf s 1) (digestAt t 0) s

/-- KS_REVOKE (R49, R478). -/
def ksRevokeCmd (s : State) : State :=
  let t := cmdData s 3780
  let code := ksTokenCode s t 2
  if code ≠ 0 then finishMailbox code [] s
  else if revokeRefused s (le t 5 1) then finishMailbox 9 [] s
  else goOn (.ksRevoke (le t 5 1)) s

/-- The AGEING command: a new generation with the new model (R409, R413, R420). -/
def ageCmd (s : State) : State :=
  let s := setAge (sgn 32 (argOf s 2), sgn 32 (argOf s 3), argOf s 4) s
  finishMailbox 0 [] (issueGen 3 0 (now s) false false (chipTemps s) (residBytes s 3 0 []) s)

/-- Whether CAL_RUN's arguments are well formed (R409). -/
def calArgsOk (s : State) : Bool :=
  let a0 := argOf s 0
  if argOf s 1 = 0 then decide (0 < a0) && decide (a0 < 16)
  else argOf s 1 == 1 && a0 == 0 && decide (-8388608 ≤ sgn 32 (argOf s 2)) && decide (sgn 32 (argOf s 2) ≤ 8388607)

/-- CAL_RUN (R409). -/
def calRunCmd (s : State) : State :=
  if !calArgsOk s then finishMailbox 3 [] s
  else if s.cal.run.isSome then finishMailbox 1 [] s
  else if argOf s 1 = 0 then finishMailbox 0 [] (startCalRun (argOf s 0) s)
  else ageCmd s

/-- CAL_STORE: the copy not in use takes the record of the generation in force (R66, R416). -/
def calStoreCmd (s : State) : State :=
  if s.cal.run.isSome then finishMailbox 1 [] s
  else
    let k := if s.cal.inUse = 0 then 1 else 0
    let off := if k = 0 then s.loader.areas.cal0 else s.loader.areas.cal1
    let n := eraseSize s.loader.flash
    emit (.flashProgram off s.cal.record) (emit (.flashErase off n (8388608 / n)) (goOn (.calStore k s.cal.gen) s))

/-- CAL_ABORT (R411). -/
def calAbortCmd (s : State) : State :=
  let did := match s.cal.run with
    | some u => !u.aborting || u.waiting != 0
    | none => false
  finishMailbox 0 (results [w32 (b2n did)]) (abortTurn true s)

/-- LOG_FREEZE: a record write to MRAM under way completes first (R430). -/
def logFreezeCmd (s : State) : State :=
  if recordWaits s && !frozen s && !s.recorder.degraded then goOn .logFreeze s else finishMailbox 0 [] (beginFreeze s)

/-- LOG_CLEAR (R432, R478). -/
def logClearCmd (s : State) : State :=
  let t := cmdData s 3780
  let signer := le t 0x10 1
  if argOf s 0 ≠ 3780 then finishMailbox 3 [] s
  else if le t 0 4 ≠ 0x434C5A53 ∨ !zeroAt t 4 4 ∨ !zeroAt t 0x11 31 then finishMailbox 7 [] s
  else if 3 < signer then finishMailbox 3 [] s
  else
    let code := tokenSigned s t signer
    if code ≠ 0 then finishMailbox code [] s
    else if le t 8 8 ≠ s.recorder.seq then finishMailbox 0xC [] s
    else goOn (.logClear signer (le t 8 8) (sha3 (t.take 0x30))) s

/-- A command that has passed the answers of R107 runs. R106 bounds its time from above only: NOP, GET_STATE, FLASH_INFO,
BOARD_READ, CAL_RUN, CAL_ABORT, LOG_THAW and a LOG_FREEZE with no record under way complete in the doorbell's own step, so
BUSY is never seen 1 for them (DESIGN CHOICE, log 153). -/
def runCommand (op : Nat) (s : State) : State :=
  match op with
  | 0x0001 => finishMailbox 0 (results [look 0 s.mbox.arg 0]) s
  | 0x0002 => finishMailbox 0 (results [w32 s.life.sys.code, imgStatus s, statFault s]) s
  | 0x0010 => flashInfoCmd s
  | 0x0011 => flashReadCmd s
  | 0x0012 => flashEraseCmd s
  | 0x0013 => flashProgramCmd s
  | 0x0014 => boardReadCmd s
  | 0x0020 => ksWriteCmd s
  | 0x0021 => ksRevokeCmd s
  | 0x0030 => calRunCmd s
  | 0x0031 => calStoreCmd s
  | 0x0032 => calAbortCmd s
  | 0x0040 => logFreezeCmd s
  | 0x0041 => finishMailbox 0 [] (endFreeze s)
  | 0x0042 => logClearCmd s
  | _ => s

/-- The answer that R107 gives at once to an accepted doorbell, 0 when the command runs. -/
def firstAnswer (s : State) (op : Nat) (kg : Bool) : Nat :=
  if !knownOps.contains op then 2
  else if stateAnswer s.life.sys op ≠ 0 then stateAnswer s.life.sys op
  else if guardedOps.contains op && !kg then 6
  else 0

/-- A doorbell with an opcode in CMD_OPCODE (R106 to R108). -/
def ring_ (kg : Bool) (op : Nat) (s : State) : State :=
  if s.mbox.running.isSome then pulse0 5 1 s
  else
    let s := mMbox (fun m => { m with opcode := w32 op, seq := (m.seq + 1) % 65536 }) s
    let code := firstAnswer s op kg
    if code ≠ 0 then finishMailbox code [] s else runCommand op s

/-- A doorbell on CMD_DOORBELL, or on CMD_DOORBELL_KG, which is KG (R107). -/
def doorbell (kg : Bool) (op : Nat) (s : State) : State :=
  if kg then guarded doorbellKg 1 (ring_ true op) s else ring_ false op s

/-- The end of FLASH_PROGRAM (R110). -/
def programEnd (ok : Bool) (mismatch : Option Nat) (s : State) : State :=
  match mismatch with
  | some x => finishMailbox 0xA (results [w32 x]) s
  | none => finishMailbox (if ok then 0 else 0xA) [] s

/-- A slot written (R46). -/
def slotWritten (k : Nat) (d : Digest) (s : State) : State :=
  let s := mImg (fun r => { r with keys := upd {} k (fun x => x.write d) r.keys }) s
  finishMailbox 0 (results [w32 k]) (logEvent 0x100B 24 [k] s)

/-- A slot revoked (R46, R49). -/
def slotRevoked (k : Nat) (s : State) : State :=
  let s := mImg (fun r => { r with keys := upd {} k (fun x => { x with revoked := true }) r.keys }) s
  finishMailbox 0 (results [w32 k]) (logEvent 0x100C 24 [k] s)

/-- CAL_STORE ends (R416). -/
def calStored (k gen : Nat) (ok : Bool) (s : State) : State :=
  if ok then
    let s := mCal (fun c => { c with inUse := k, valid0 := c.valid0 || k == 0, valid1 := c.valid1 || k == 1 }) s
    finishMailbox 0 (results [w32 gen]) (pulse0 22 7 s)
  else finishMailbox 0xA [] s

/-- LOG_CLEAR is carried out, unless a record has been written since the token was made (R432, R433). -/
def logCleared (signer seq : Nat) (d : Digest) (s : State) : State :=
  if s.recorder.seq ≠ seq then finishMailbox 0xC [] s
  else
    let s := clearLog signer d s
    finishMailbox 0 (results [w32 s.recorder.seq]) s

/-- The running command ends (R108). -/
def mailboxEnds (ok : Bool) (data : List Byte) (mismatch : Option Nat) (s : State) : State :=
  match s.mbox.running with
  | none => s
  | some (.flashRead _ n) =>
    if ok then finishMailbox 0 (results [w32 n]) (returnData (data.take n) s) else finishMailbox 0xA [] s
  | some (.flashErase _) => finishMailbox (if ok then 0 else 0xA) [] s
  | some (.flashProgram _ _) => programEnd ok mismatch s
  | some (.ksWrite k d) => slotWritten k d s
  | some (.ksRevoke k) => slotRevoked k s
  | some (.calStore k gen) => calStored k gen ok s
  | some .logFreeze => if frozen s then finishMailbox 0 [] s else s
  | some (.logClear signer seq d) => logCleared signer seq d s

/-- NOP (R110). -/
def execNop (kg : Bool) (s : State) : Host.Outcome State Fault Refusal := act (doorbell kg 0x0001) s

/-- GET_STATE (R110). -/
def execGetState (kg : Bool) (s : State) : Host.Outcome State Fault Refusal := act (doorbell kg 0x0002) s

/-- FLASH_INFO (R110). -/
def execFlashInfo (kg : Bool) (s : State) : Host.Outcome State Fault Refusal := act (doorbell kg 0x0010) s

/-- FLASH_READ (R110). -/
def execFlashRead (kg : Bool) (s : State) : Host.Outcome State Fault Refusal := act (doorbell kg 0x0011) s

/-- FLASH_ERASE (R110). -/
def execFlashErase (kg : Bool) (s : State) : Host.Outcome State Fault Refusal := act (doorbell kg 0x0012) s

/-- FLASH_PROGRAM (R110). -/
def execFlashProgram (kg : Bool) (s : State) : Host.Outcome State Fault Refusal := act (doorbell kg 0x0013) s

/-- BOARD_READ (R65). -/
def execBoardRead (kg : Bool) (s : State) : Host.Outcome State Fault Refusal := act (doorbell kg 0x0014) s

/-- KS_WRITE (R478). -/
def execKsWrite (kg : Bool) (s : State) : Host.Outcome State Fault Refusal := act (doorbell kg 0x0020) s

/-- KS_REVOKE (R478). -/
def execKsRevoke (kg : Bool) (s : State) : Host.Outcome State Fault Refusal := act (doorbell kg 0x0021) s

/-- CAL_RUN with ARG1 0, CALIBRATE (R409). -/
def execCalRunCalibrate (kg : Bool) (s : State) : Host.Outcome State Fault Refusal := act (doorbell kg 0x0030) s

/-- CAL_RUN with ARG1 1, AGEING (R409, R420). -/
def execCalRunAgeing (kg : Bool) (s : State) : Host.Outcome State Fault Refusal := act (doorbell kg 0x0030) s

/-- CAL_STORE (R416). -/
def execCalStore (kg : Bool) (s : State) : Host.Outcome State Fault Refusal := act (doorbell kg 0x0031) s

/-- CAL_ABORT (R411). -/
def execCalAbort (kg : Bool) (s : State) : Host.Outcome State Fault Refusal := act (doorbell kg 0x0032) s

/-- LOG_FREEZE (R430). -/
def execLogFreeze (kg : Bool) (s : State) : Host.Outcome State Fault Refusal := act (doorbell kg 0x0040) s

/-- LOG_THAW (R430). -/
def execLogThaw (kg : Bool) (s : State) : Host.Outcome State Fault Refusal := act (doorbell kg 0x0041) s

/-- LOG_CLEAR (R432). -/
def execLogClear (kg : Bool) (s : State) : Host.Outcome State Fault Refusal := act (doorbell kg 0x0042) s

/-- UNKNOWN_OPCODE (R107). -/
def execUnknownOpcode (kg : Bool) (opcode : Word) (s : State) : Host.Outcome State Fault Refusal :=
  act (doorbell kg (opcode.toNat % 65536)) s

/-- MAILBOX_COMPLETE (R108). -/
def execMailboxComplete (ok : Bool) (data : List Byte) (mismatch : Option Nat) (s : State) : Host.Outcome State Fault Refusal :=
  act (mailboxEnds ok data mismatch) s

end Sys2Proof.Machine
end

