-- ==== Sys2Proof/Machine/Bar0.lean ====
section
/-! DEFINITION. Writes of BAR0 registers (04 R83, R84) and of the ring registers (16 R389, R401). -/

namespace Sys2Proof.Machine

/-- A write of the inputs of the mailbox: discarded while a command runs (R106). -/
def mailboxInput (f : Mailbox → Mailbox) (s : State) : State :=
  if s.mbox.running.isSome then bump 5 0x000 (pulse0 5 2 s) else mMbox f s

/-- A write in block CMD (R106, R111). -/
def writeCmd (o : Nat) (w : Word) (s : State) : State :=
  if o = 0x000 then mailboxInput (fun m => { m with opcode := w &&& 0xFFFF }) s
  else if o = 0x004 then (if tbit w.toNat 0 then doorbell false s.mbox.opcode.toNat s else s)
  else if o = 0x008 then
    guarded doorbellKg w (fun s => if tbit w.toNat 0 then ring_ true s.mbox.opcode.toNat s else s) s
  else if o = 0x010 then guarded (blockBase 5 + 0x010) w (restartAsked w) s
  else if 0x020 ≤ o ∧ o < 0x040 then mailboxInput (fun m => { m with arg := put 0 ((o - 0x020) / 4) w m.arg }) s
  else if 0x4000 ≤ o ∧ o < 0x8000 then
    mailboxInput (fun m => { m with data := putBytes (o - 0x4000) (leBytes 4 w.toNat) m.data }) s
  else s

/-- A write in block TRG (R321). -/
def writeTrg (o : Nat) (w : Word) (s : State) : State :=
  match o with
  | 0x000 => afterWrite (eachGroup armGroup w s)
  | 0x004 => eachGroup disarmGroup w s
  | 0x008 => afterWrite (eachGroup forceGroup w s)
  | 0x100 => mTrig (fun t => { t with gsel := fld w.toNat 0 4 }) s
  | _ => s

/-- A write in block CAP (R334). -/
def writeCap (o : Nat) (w : Word) (s : State) : State :=
  match o with
  | 0x000 => afterWrite (abortCaptures w s)
  | 0x100 => mTrig (fun t => { t with csel := fld w.toNat 0 4 }) s
  | _ => s

/-- A write in block TIU (R345). -/
def writeTiu (o : Nat) (w : Word) (s : State) : State :=
  match o with
  | 0x004 => startCal w.toNat s
  | 0x100 => mTiu (fun t => { t with isel := fld w.toNat 0 3 }) s
  | 0x300 => mTiu (fun t => { t with osel := fld w.toNat 0 3 }) s
  | _ => s

/-- An MSI-X table entry after a write of one of its words (R385). -/
def MsixEntry.write (e : MsixEntry) (k : Nat) (w : Word) : MsixEntry :=
  match k with
  | 0 => { e with addr := e.addr / 2 ^ 32 * 2 ^ 32 + w.toNat }
  | 1 => { e with addr := e.addr % 2 ^ 32 + w.toNat * 2 ^ 32 }
  | 2 => { e with data := w }
  | _ => { e with masked := tbit w.toNat 0 }

/-- A write in block HOST: the MSI-X table (R385); unmasking sends a held message (R94). -/
def writeHost (o : Nat) (w : Word) (s : State) : State :=
  if 0x8000 ≤ o ∧ o < 0x10000 then
    releasePending (mLink (fun l => { l with
      msix := upd {} ((o - 0x8000) / 16) (fun e => e.write (o % 16 / 4) w) l.msix }) s)
  else s

/-- An address register after a write of its low word, bits [11:0] zero, or of its high word (R389). -/
def ringBase (a : Nat) (high : Bool) (w : Word) : Nat :=
  if high then a % 2 ^ 32 + w.toNat * 2 ^ 32 else a / 2 ^ 32 * 2 ^ 32 + w.toNat / 4096 * 4096

/-- A write of a ring address, ignored while ENABLE is 1 (R389). -/
def writeBase (q : Nat) (f : Ring → Ring) (s : State) : State := if (ring s q).enable then s else mRing q f s

/-- Whether a ring is declared by the image of the function (R386). -/
def declared (s : State) (q : Nat) : Bool := s.store.imageTable && (ringDecl s q).isSome

/-- A write of DMA_Q_ABORT: bit 0 ABORT, bit 1 FLUSH (R401). -/
def writeAbort (q : Nat) (w : Word) (s : State) : State :=
  if !declared s q then s
  else
    let s := if tbit w.toNat 0 then abortRun q s else s
    if tbit w.toNat 1 then flushRing q s else s

/-- A write of a ring's registers (R389, R401). -/
def writeRing (q o : Nat) (w : Word) (s : State) : State :=
  match o with
  | 0x00 => writeBase q (fun r => { r with dbase := ringBase r.dbase false w }) s
  | 0x04 => writeBase q (fun r => { r with dbase := ringBase r.dbase true w }) s
  | 0x08 => writeBase q (fun r => { r with cbase := ringBase r.cbase false w }) s
  | 0x0C => writeBase q (fun r => { r with cbase := ringBase r.cbase true w }) s
  | 0x10 => afterWrite (writeCtrl q w s)
  | 0x14 => writeTail q w s
  | 0x1C => writeChead q w s
  | 0x28 => writeAbort q w s
  | _ => s

/-- A write of a host entry of the monitor sequence (R456, R457). -/
def MonEntry.write (e : MonEntry) (high : Bool) (w : Word) : MonEntry :=
  let v := w.toNat
  if high then { e with delay := fld v 0 16 }
  else { e with inputA := fld v 0 5, inputB := fld v 8 5, reps := fld v 16 8, wait := tbit v 24 }

/-- A write in block MON (R456 to R459). -/
def writeMon (o : Nat) (w : Word) (s : State) : State :=
  if o = 0x004 then mMon (fun m => { m with cfg := w &&& 0x3FFF7F }) s
  else if o = 0x008 then mMon (fun m => { m with timer := w &&& 0xFFFFFF }) s
  else if o = 0x010 then monUrgent w s
  else if 0x700 ≤ o ∧ o < 0x800 then
    mMon (fun m => { m with host := upd {} ((o - 0x400) / 8) (fun e => e.write (o % 8 == 4) w) m.host }) s
  else s

/-- A write of a BAR0 register; an unassigned offset, a reserved or a read-only register discards it (R83). -/
def writeBlock (n o : Nat) (w : Word) (s : State) : State :=
  match n, o with
  | 1, 0x004 => mStat (fun t => { t with vec0En := w &&& 0x1FFFFFF }) s
  | 2, 0x000 => keyUnlock w s
  | 3, 0x000 => snapTake w s
  | 4, 0x000 => liveCommit w s
  | 4, o => if 0x4000 ≤ o ∧ o < 0x8000 then liveWrite ((o - 0x4000) / 4) w s else s
  | 5, o => writeCmd o w s
  | 8, 0x100 => mStore (fun t => { t with slsel := fld w.toNat 0 11 }) s
  | 9, 0x100 => mEng (fun a => { a with esel := fld w.toNat 0 8 }) s
  | 10, 0x100 => { s with ssel := fld w.toNat 0 6 }
  | 11, 0x100 => { s with dselTrace := fld w.toNat 0 5 }
  | 12, 0x100 => { s with psel := fld w.toNat 0 3 }
  | 13, 0x100 => { s with ctxSel := fld w.toNat 0 10 }
  | 14, o => writeTrg o w s
  | 15, o => writeCap o w s
  | 16, o => writeTiu o w s
  | 17, 0x100 => mDisk (fun d => { d with dsel := fld w.toNat 0 4 }) s
  | 18, o => writeHost o w s
  | 19, o => if o < 0x80000 then writeRing (o / 0x40) (o % 0x40) w s else s
  | 21, o => writeMon o w s
  | 22, 0x100 => mCal (fun k => { k with tsel := fld w.toNat 0 6 }) s
  | 23, 0x028 => mRec (fun r => { r with win := fld w.toNat 0 12 }) s
  | 24, 0x054 => mImg (fun r => { r with ksSel := fld w.toNat 0 2 }) s
  | _, _ => s

/-- A write of a whole register (R83). -/
def writeReg (off : Nat) (w : Word) (s : State) : State :=
  match blockAt off with
  | some (n, o) => writeBlock n o w s
  | none => s

/-- One DWORD of a write request with its byte enables (R83). Partial byte enables pulse BAR0_PARTIAL at an offset with no
register too (DESIGN CHOICE, log 139). -/
def writeDword (off : Nat) (d : Word × Nat) (s : State) : State :=
  if d.2 % 16 = 15 then writeReg off d.1 s else bump 0 0x010 (pulse0 0 1 s)

/-- The DWORDs of a request in ascending address order (R83). -/
def writeDwords : Nat → List (Word × Nat) → State → State
  | _, [], s => s
  | off, d :: ds, s => writeDwords (off + 4) ds (writeDword off d s)

/-- A BAR0 write request; a poisoned one is discarded (R384). -/
def bar0Write (off : Nat) (dws : List (Word × Nat)) (poisoned : Bool) (s : State) : State :=
  if poisoned then reportError 12 (bump 18 0x010 (pulse0 18 2 s)) else writeDwords off dws s

/-- BAR0_WRITE (R83, R84, R384). -/
def execBar0Write (off : Nat) (dws : List (Word × Nat)) (poisoned : Bool) (s : State) : Host.Outcome State Fault Refusal :=
  act (bar0Write off dws poisoned) s

/-- DMA_Q_TAIL_WRITE (R389). -/
def execDmaQTailWrite (q : Nat) (v : Word) (s : State) : Host.Outcome State Fault Refusal := act (writeTail q v) s

/-- DMA_Q_CHEAD_WRITE (R389). -/
def execDmaQCheadWrite (q : Nat) (v : Word) (s : State) : Host.Outcome State Fault Refusal := act (writeChead q v) s

/-- DMA_Q_CTRL_WRITE (R389, R401, R403). -/
def execDmaQCtrlWrite (q : Nat) (v : Word) (s : State) : Host.Outcome State Fault Refusal :=
  act (fun s => afterWrite (writeCtrl q v s)) s

/-- DMA_Q_ABORT (R401). -/
def execDmaQAbort (q : Nat) (s : State) : Host.Outcome State Fault Refusal := act (writeAbort q 1) s

/-- DMA_Q_FLUSH (R401). -/
def execDmaQFlush (q : Nat) (s : State) : Host.Outcome State Fault Refusal := act (writeAbort q 2) s

end Sys2Proof.Machine
end

