-- ==== Sys2Proof/Machine/TriggerSteps.lean ====
section
/-! DEFINITION. The commands of the trigger engine (13): mask frames, arrivals, expiries, hems, hold-offs and arming. -/

namespace Sys2Proof.Machine

/-- The mask of a group, upper and lower code of each stored bin (R314). -/
def maskOf (s : State) (g : Nat) : List (Nat × Nat) :=
  (((img s).masks.find? (fun m => m.group == g)).map MaskDecl.limits).getD []

/-- Bins of a record outside a condition's mask (R312). -/
def binsOutside (s : State) (k : TrigCond) (bs : List Byte) : Nat :=
  let d := frameDecl s k.stream
  let m := maskOf s k.source
  ((List.range d.binCount).filter (fun i =>
    let c := binCode d (recBin d bs (d.binFirst + i))
    let l := m.getD i (65535, 0)
    (decide (l.1 < c) || decide (c < l.2)) &&
      !(k.spurExclude && d.mask.any (fun e => e.bin == d.binFirst + i)))).length

/-- The occurrence of a condition's present run (R307, R313). -/
def runOcc (s : State) (c : Nat) : Occ := { cond := c, time := 256 * (cond s c).runTime }

/-- Groups whose provisional trigger follows a mask condition's run (R313). -/
def maskGroups (s : State) (c : Nat) : List Nat :=
  (groupsOf s c).filter (fun g => match groupDecl s g with
    | some d => d.provisional && d.condsA.contains c
    | none => false)

/-- A run ends: provisional triggers that follow it are disqualified (R313, R332). -/
def endRun (c : Nat) (s : State) : State :=
  let o := runOcc s c
  let s := (maskGroups s c).foldl (fun s g =>
    if completesRun s g o then cancelProvisional g 0 s else s) s
  mCond c (fun k => { k with run := 0, runDone := false }) s

/-- A violating frame extends a run or begins one; the first raises provisional triggers (R313). -/
def extendRun (c time : Nat) (s : State) : State :=
  if (cond s c).run = 0 then
    let s := mCond c (fun k => { k with run := 1, runTime := time, runDone := false }) s
    if 1 < (cond s c).qual then (maskGroups s c).foldl (fun s g =>
      mGroup g (fun x => if x.provisional == some (runOcc s c) then { x with awaitsRun := true } else x)
        (raiseProvisional g (runOcc s c) s)) s else s
  else mCond c (fun k => { k with run := min 511 (k.run + 1) }) s

/-- A run long enough qualifies, once: its occurrence reaches the condition's groups (R307, R313). -/
def qualifyRun (c : Nat) (s : State) : State :=
  let k := cond s c
  if 0 < k.run && k.qual ≤ k.run && !k.runDone then
    let s := bump 14 (0x1000 + 0x10 * c) (mCond c (fun k => { k with runDone := true }) s)
    (groupsOf s c).foldl (fun s g => arrive g (runOcc s c) s) s
  else s

/-- MASK_FRAME: a mask condition takes the next record of its stream (R311 to R313); from step 1 of a stop on it starts
nothing, counts nothing and qualifies nothing (R75). -/
def maskFrame (c : Nat) (s : State) : State :=
  match condDecl s c with
  | none => s
  | some k =>
    let j := (cond s c).readRecords
    if k.cls != .mask || !functionLive s || !running s || !recordReady s k.stream j then s
    else
      let bs := frameRecord s k.stream j
      let born := recordAt s k.stream j
      let n := recNumber bs
      let follows := (cond s c).lastFrame == some (n - 1) && n != 0
      let s := mCond c (fun x => { (x.apply (recTime bs)) with readRecords := j + 1, lastFrame := some n })
        (sharedRead k.stream j s)
      let violates := !recSkipped bs && decide ((cond s c).minBins ≤ binsOutside s k bs)
      let s := if 0 < (cond s c).run && !(follows && violates) then endRun c s else s
      let s := if violates then qualifyRun c (extendRun c (recTime bs) s) else s
      measure 1 k.source (s.time.cycle - born) s

/-- MASK_FRAME (R313). -/
def execMaskFrame (cond : Nat) (s : State) : Host.Outcome State Fault Refusal :=
  act (fun s => afterWrite (maskFrame cond s)) s

/-- OCCURRENCE_ARRIVAL (R316). -/
def execOccurrenceArrival (g k : Nat) (s : State) : Host.Outcome State Fault Refusal :=
  act (fun s => afterWrite (arrivalOf g k s)) s

/-- OCCURRENCE_EXPIRY (R316). -/
def execOccurrenceExpiry (g : Nat) (s : State) : Host.Outcome State Fault Refusal :=
  act (fun s => afterWrite (if functionLive s then expire g s else s)) s

/-- HEM_END (R326). -/
def execHemEnd (g : Nat) (s : State) : Host.Outcome State Fault Refusal := act (fun s => afterWrite (hemEnd g s)) s

/-- HOLDOFF_END (R320). -/
def execHoldoffEnd (g : Nat) (s : State) : Host.Outcome State Fault Refusal :=
  act (fun s => if functionLive s then leaveHoldoff g s else s) s

/-- TRG_ARM (R321). -/
def execTrgArm (v : Word) (s : State) : Host.Outcome State Fault Refusal :=
  act (fun s => afterWrite (eachGroup armGroup v s)) s

/-- TRG_DISARM (R321). -/
def execTrgDisarm (v : Word) (s : State) : Host.Outcome State Fault Refusal := act (eachGroup disarmGroup v) s

/-- TRG_FORCE (R321). -/
def execTrgForce (v : Word) (s : State) : Host.Outcome State Fault Refusal :=
  act (fun s => afterWrite (eachGroup forceGroup v s)) s

/-- CAP_ABORT (R334). -/
def execCapAbort (v : Word) (s : State) : Host.Outcome State Fault Refusal :=
  act (fun s => afterWrite (abortCaptures v s)) s

end Sys2Proof.Machine
end

