-- ==== Sys2Proof/Machine/Deliver.lean ====
section
/-! DEFINITION. The commands of open traffic, of BAR2 and of the DMA rings (07 R164 to R169, R182; 16 R387 to R405). -/

namespace Sys2Proof.Machine

/-- A served read whose data is on its way (R164). -/
def addFlight (r : Nat) (t : Txn) (bytes : List Byte) (s : State) : State :=
  mStore (fun v => { v with flights := v.flights ++ [{ req := r, txn := t, bytes := bytes }] }) s

/-- One transaction in its slot: a write is complete, a read takes its bytes as they stand (R164). -/
def serveTxn (r : Nat) (s : State) (t : Txn) : State :=
  match t.purpose, t.data with
  | .dma q, some data => serveDmaWrite q data s
  | .dma q, none =>
    let p := serveDmaRead q s
    addFlight r t p.1 p.2
  | .ctxRead i q n, none =>
    let p := ctxServed i q n s
    addFlight r { t with purpose := .ctxRead i q p.1 } (sleeveBytes s i q p.1) p.2
  | .denCopy p, some data => densityServed p data s
  | .ctxWrite c, some data => recordServed c data s
  | .dskDrive _ _ i wc n _ _, none => addFlight r t (driveBytes s i wc n) s
  | .dskParity i wc n _ _, none => addFlight r t (driveBytes s i wc n) s
  | .bar2 x n, none => addFlight r t (getBytes s.store.mem x n) s
  | _, none => addFlight r t (getBytes s.store.mem t.addr t.len) s
  | _, some _ => s

/-- OPEN_TRANSACTION: one open slot (R164, R166); STREAM rings and context readers first take up what their sleeves hold
(R403, R165). -/
def openTransaction (borrowed : Bool) (s : State) : State :=
  if !s.store.table then s
  else
    let p := takeSlot borrowed (pumpContexts (pumpStreams s))
    match p.1 with
    | none => p.2
    | some (r, ts) => afterWrite (ts.foldl (serveTxn r) p.2)

/-- Read data given to the unit that asked for it. -/
def deliver (t : Txn) (bytes : List Byte) (ue : Bool) (s : State) : State :=
  match t.purpose with
  | .bar2 _ _ => emit (.bar2 bytes) (bumpBy 18 0x30 bytes.length s)
  | .dma q => dmaData q bytes ue s
  | .ctxRead i q n => ctxLand i q n bytes s
  | .dskDrive d a _ _ _ e st => driveData d a e st bytes ue s
  | .dskParity _ _ _ e st => parityData e st ue s
  | _ => s

/-- OPEN_READ_DATA: the oldest read's data arrives, corrected or marked (R164, R183, R184). -/
def openReadData (x : Ecc) (s : State) : State :=
  match s.store.flights with
  | [] => s
  | f :: rest => deliver f.txn f.bytes x.ue (eccEvent x (mStore (fun v => { v with flights := rest }) s))

/-- DEST_WAIT_END: the waiting descriptor begins when its bytes fit (R396). -/
def destWaitOver (q : Nat) (s : State) : State := if (ring s q).destWaiting then beginMove q s else s

/-- OPEN_TRANSACTION (R164). -/
def execOpenTransaction (borrowed : Bool) (s : State) : Host.Outcome State Fault Refusal :=
  act (openTransaction borrowed) s

/-- OPEN_READ_DATA (R164). -/
def execOpenReadData (ecc : Ecc) (s : State) : Host.Outcome State Fault Refusal := act (openReadData ecc) s

/-- TAG_GRANT (R167). -/
def execTagGrant (requester : Nat) (s : State) : Host.Outcome State Fault Refusal := act (grantTag requester) s

/-- BAR2_READ (R182). -/
def execBar2Read (x len : Nat) (s : State) : Host.Outcome State Fault Refusal := act (bar2Read x len) s

/-- BAR2_WRITE (R182). -/
def execBar2Write (_x : Nat) (poisoned : Bool) (s : State) : Host.Outcome State Fault Refusal := act (bar2Write poisoned) s

/-- A completion that fails for a ring's host read is logged at the link (R384). -/
def unanswered (q : Nat) (w : HostAsk) (data : Option (List Byte)) (s : State) : State :=
  if data.isNone && answerable s q w then failedCompletion s else s

/-- DESCRIPTOR_FETCH (R390). -/
def execDescriptorFetch (q : Nat) (data : Option (List Byte)) (s : State) : Host.Outcome State Fault Refusal :=
  act (fun s => fetchDesc q data (unanswered q .desc data s)) s

/-- TABLE_FETCH (R398). -/
def execTableFetch (q : Nat) (data : Option (List Byte)) (s : State) : Host.Outcome State Fault Refusal :=
  act (fun s => fetchTable q data (unanswered q .table data s)) s

/-- BURST_DONE (R397). -/
def execBurstDone (q : Nat) (s : State) : Host.Outcome State Fault Refusal := act (burstDone q) s

/-- HOST_READ_COMPLETION (R402). -/
def execHostReadCompletion (q : Nat) (data : Option (List Byte)) (s : State) : Host.Outcome State Fault Refusal :=
  act (fun s => hostReadData q data (unanswered q .data data s)) s

/-- DEST_WAIT_END (R396). -/
def execDestWaitEnd (q : Nat) (s : State) : Host.Outcome State Fault Refusal := act (destWaitOver q) s

/-- STREAM_FLUSH_TIMEOUT (R403). -/
def execStreamFlushTimeout (q : Nat) (s : State) : Host.Outcome State Fault Refusal := act (streamFlush q) s

/-- NOTICE_WRITE (R405). -/
def execNoticeWrite (q : Nat) (s : State) : Host.Outcome State Fault Refusal := act (noticeWrite q) s

/-- COMPLETION_TIMEOUT (R384). -/
def execCompletionTimeout (q : Nat) (s : State) : Host.Outcome State Fault Refusal := act (readTimeout q) s

end Sys2Proof.Machine
end

