-- ==== Sys2Proof/Machine/Engines.lean ====
section
/-! DEFINITION. The meanings of the engine commands (08, 09): what the array brings about, and one per slot operation. -/

namespace Sys2Proof.Machine

/-- STREAM_READ_LAND (R201). -/
def execStreamReadLand (e st : Nat) (s : State) : Host.Outcome State Fault Refusal := act (streamReadLand e st) s

/-- STREAM_WRITE_TAKE (R202). -/
def execStreamWriteTake (e st : Nat) (s : State) : Host.Outcome State Fault Refusal := act (streamWriteTake e st) s

/-- RESULT_LANDS (R218). -/
def execResultLands (e : Nat) (s : State) : Host.Outcome State Fault Refusal := act (landResults e) s

/-- XCH_DELIVERY (R205). -/
def execXchDelivery (e : Nat) (s : State) : Host.Outcome State Fault Refusal := act (deliverWord e) s

/-- LOOP_EXIT (R227, R229). -/
def execLoopExit (e : Nat) (s : State) : Host.Outcome State Fault Refusal := act (mEngine e exitLoop) s

/-- STOP_BUNDLE (R192). -/
def execStopBundle (e : Nat) (s : State) : Host.Outcome State Fault Refusal := act (stopEngine e) s

/-- SEAM_MARK (R196). -/
def execSeamMark (e : Nat) (s : State) : Host.Outcome State Fault Refusal := act (parkEngine e) s

/-- ILLEGAL_ENCODING (R216). -/
def execIllegalEncoding (e : Nat) (s : State) : Host.Outcome State Fault Refusal := act (illegalSlot e) s

/-- BR (R226). -/
def execBr (e : Nat) (g : Gate) (target : Nat) (s : State) : Host.Outcome State Fault Refusal :=
  act (slot e g (takeBranch e target)) s

/-- BRX (R226). -/
def execBrx (e : Nat) (g : Gate) (xs : Nat) (s : State) : Host.Outcome State Fault Refusal :=
  act (slot e g (fun g => takeBranch e ((readX g (xs % 16)).toNat % 16384) g)) s

/-- LOOP (R227, R229). -/
def execLoop (e : Nat) (g : Gate) (f : LoopForm) (s : State) : Host.Outcome State Fault Refusal :=
  act (slot e g (startLoop e f)) s

/-- BXCLR (R239). -/
def execBxclr (e : Nat) (g : Gate) (s : State) : Host.Outcome State Fault Refusal :=
  act (slot e g (fun _ => clearBexp e)) s

/-- BSC (R225, R240). -/
def execBsc (e : Nat) (g : Gate) (src : Bool) (xs imm : Nat) (s : State) : Host.Outcome State Fault Refusal :=
  act (slot e g (fun g =>
    let v := clampI (-23) 23 (sgn 6 (if src then (readX g (xs % 16)).toNat else imm))
    sendResult e 1 4 .bscale (BitVec.ofNat 192 (enc 6 v)) 0)) s

/-- CLRF (R223). -/
def execClrf (e : Nat) (g : Gate) (s : State) : Host.Outcome State Fault Refusal :=
  act (slot e g (fun _ => sendResult e 1 4 .clearFlags 0 0)) s

/-- ROFSET (R225). -/
def execRofset (e : Nat) (g : Gate) (imm : Nat) (s : State) : Host.Outcome State Fault Refusal :=
  act (slot e g (fun _ => sendResult e 1 4 .rofs (BitVec.ofNat 192 (imm % 32)) 0)) s

/-- The value and flags of LDV: with F each component is shifted by BSCALE (R231, R240). -/
def ldvValue (g : Engine) (f : LsForm) (bs : List Byte) : BitVec 192 × Nat :=
  if f.f then vsat (fun i => scaleComp g.bscale (vcomp (bytesVec bs) i)) else (bytesVec bs, 0)

/-- LDV (R231). -/
def execLdv (e : Nat) (g : Gate) (f : LsForm) (s : State) : Host.Outcome State Fault Refusal :=
  act (slot e g (fun g => loadVector e f 8 24 (ldvValue g f) g)) s

/-- A form whose F field must be zero (R230). -/
def plainLs (e : Nat) (f : LsForm) (body : Engine → State → State) (g : Engine) (s : State) : State :=
  if f.f then illegalSlot e s else body g s

/-- LDC (R231). -/
def execLdc (e : Nat) (g : Gate) (f : LsForm) (s : State) : Host.Outcome State Fault Refusal :=
  act (slot e g (plainLs e f (loadVector e f 4 20 (fun bs => (c40Vec bs, 0))))) s

/-- LDP12 (R231, R10). -/
def execLdp12 (e : Nat) (g : Gate) (f : LsForm) (s : State) : Host.Outcome State Fault Refusal :=
  act (slot e g (plainLs e f (loadVector e f 1 6 (fun bs => (sampleVec (fun l => leVal bs >>> (12 * l)), 0))))) s

/-- LDU16 (R231). -/
def execLdu16 (e : Nat) (g : Gate) (f : LsForm) (s : State) : Host.Outcome State Fault Refusal :=
  act (slot e g (plainLs e f (loadVector e f 2 8 (fun bs => (sampleVec (fun l => leVal bs >>> (16 * l + 4)), 0))))) s

/-- LDX (R231). -/
def execLdx (e : Nat) (g : Gate) (f : LsForm) (s : State) : Host.Outcome State Fault Refusal :=
  act (slot e g (plainLs e f (fun g s =>
    if f.reg < 16 then
      let w := leVal (loadLocal g s.time.cycle (lsAddr g f 4) 4)
      lsUpdate e f g (sendResult e 4 f.slot (.x f.reg) (BitVec.ofNat 192 w) 0 s)
    else illegalSlot e s))) s

/-- STV (R231, R239). -/
def execStv (e : Nat) (g : Gate) (f : LsForm) (s : State) : Host.Outcome State Fault Refusal :=
  act (slot e g (fun g s =>
    let v := readV g f.reg
    storeValue e f 8 24 v.toNat g (if f.f then trackStore e (vecCount v) s else s))) s

/-- STH (R231). -/
def execSth (e : Nat) (g : Gate) (f : LsForm) (s : State) : Host.Outcome State Fault Refusal :=
  act (slot e g (plainLs e f (fun g => storeValue e f 4 16 (readV g f.reg).toNat g))) s

/-- STQ (R231). -/
def execStq (e : Nat) (g : Gate) (f : LsForm) (s : State) : Host.Outcome State Fault Refusal :=
  act (slot e g (plainLs e f (fun g => storeValue e f 2 8 (readV g f.reg).toNat g))) s

/-- STX (R231). -/
def execStx (e : Nat) (g : Gate) (f : LsForm) (s : State) : Host.Outcome State Fault Refusal :=
  act (slot e g (plainLs e f (fun g s =>
    if f.reg < 16 then storeValue e f 4 4 (readX g f.reg).toNat g s else illegalSlot e s))) s

/-- CMUL (R233). -/
def execCmul (e : Nat) (g : Gate) (f : MacForm) (s : State) : Host.Outcome State Fault Refusal :=
  act (slot e g (fun g =>
    macResult e 5 f (vsat (fun i => rnd (product f (readV g f.va) (readV g f.vb) (i / 2) (i % 2)) (23 + f.sh))) g)) s

/-- CMLA and CMAC: the accumulator from a base and the product; AOV stands with the new value (R233, R234). -/
def accumulate (e : Nat) (f : MacForm) (base : Nat → Int) (g : Engine) (s : State) : State :=
  let sum := fun i => base i + product f (readV g f.va) (readV g f.vb) (i / 2) (i % 2)
  let s := mEngine e (fun g => { g with ac := writeAc f.ac sum g.ac }) s
  if (List.range 8).any (fun i => acWraps (sum i)) then sendResult e 5 3 .flags 0 flagAov s else s

/-- CMLA (R233). -/
def execCmla (e : Nat) (g : Gate) (f : MacForm) (s : State) : Host.Outcome State Fault Refusal :=
  act (slot e g (accumulate e f (fun _ => 0))) s

/-- CMAC (R233). -/
def execCmac (e : Nat) (g : Gate) (f : MacForm) (s : State) : Host.Outcome State Fault Refusal :=
  act (slot e g (fun g => accumulate e f (readAc g f.ac) g)) s

/-- ACRD (R233). -/
def execAcrd (e : Nat) (g : Gate) (f : MacForm) (s : State) : Host.Outcome State Fault Refusal :=
  act (slot e g (fun g => macResult e 5 f (acRead g f) g)) s

/-- ACRC (R233). -/
def execAcrc (e : Nat) (g : Gate) (f : MacForm) (s : State) : Host.Outcome State Fault Refusal :=
  act (slot e g (fun g s =>
    mEngine e (fun g => { g with ac := writeAc f.ac (fun _ => 0) g.ac }) (macResult e 5 f (acRead g f) g s))) s

/-- FCVTP (R233, R235). VB above the X registers is illegal (DEDUCED, log 148). -/
def execFcvtp (e : Nat) (g : Gate) (f : MacForm) (s : State) : Host.Outcome State Fault Refusal :=
  act (slot e g (fun g s => if f.vb < 16 then macResult e 6 f (powerVec g f) g s else illegalSlot e s)) s

/-- FCVTL (R233, R235). -/
def execFcvtl (e : Nat) (g : Gate) (f : MacForm) (s : State) : Host.Outcome State Fault Refusal :=
  act (slot e g (fun g => macResult e 6 f (logVec g f) g)) s

/-- CADD (R237). -/
def execCadd (e : Nat) (g : Gate) (f : AluForm) (s : State) : Host.Outcome State Fault Refusal :=
  act (aluVecOp e g f true true (fun g =>
    aluVec e 2 f f.d (fun i => vcomp (readV g f.a) i + vcomp (vecB g f) i) g)) s

/-- CSUB (R237). -/
def execCsub (e : Nat) (g : Gate) (f : AluForm) (s : State) : Host.Outcome State Fault Refusal :=
  act (aluVecOp e g f true true (fun g =>
    aluVec e 2 f f.d (fun i => vcomp (readV g f.a) i - vcomp (vecB g f) i) g)) s

/-- BFY (R237). -/
def execBfy (e : Nat) (g : Gate) (f : AluForm) (s : State) : Host.Outcome State Fault Refusal :=
  act (aluVecOp e g f true (f.d % 2 == 0) (fun g s =>
    aluVec e 2 f (f.d + 1) (fun i => vcomp (readV g f.a) i - vcomp (vecB g f) i) g
      (aluVec e 2 f f.d (fun i => vcomp (readV g f.a) i + vcomp (vecB g f) i) g s))) s

/-- Component `i` of j times a vector (R237). -/
def timesJ (v : BitVec 192) (i : Nat) : Int := if i % 2 = 0 then -(vcomp v (i + 1)) else vcomp v (i - 1)

/-- BFYJ (R237). -/
def execBfyj (e : Nat) (g : Gate) (f : AluForm) (s : State) : Host.Outcome State Fault Refusal :=
  act (aluVecOp e g f true (f.d % 2 == 0) (fun g s =>
    aluVec e 2 f (f.d + 1) (fun i => vcomp (readV g f.a) i + timesJ (vecB g f) i) g
      (aluVec e 2 f f.d (fun i => vcomp (readV g f.a) i - timesJ (vecB g f) i) g s))) s

/-- VMOV (R237). -/
def execVmov (e : Nat) (g : Gate) (f : AluForm) (s : State) : Host.Outcome State Fault Refusal :=
  act (aluVecOp e g f true true (fun g => aluVec e 2 f f.d (fun i => vcomp (vecB g f) i) g)) s

/-- CONJ (R237). -/
def execConj (e : Nat) (g : Gate) (f : AluForm) (s : State) : Host.Outcome State Fault Refusal :=
  act (aluVecOp e g f false true (fun g =>
    aluVec e 2 f f.d (fun i => if i % 2 = 0 then vcomp (readV g f.a) i else -(vcomp (readV g f.a) i)) g)) s

/-- VSHR (R237). -/
def execVshr (e : Nat) (g : Gate) (f : AluForm) (s : State) : Host.Outcome State Fault Refusal :=
  act (aluVecOp e g f true (scalarOk f) (fun g =>
    aluVec e 2 f f.d (fun i => rnd (vcomp (readV g f.a) i) (fld (scalarB g f).toNat 0 5)) g)) s

/-- NORM's value and flags: each component is shifted exactly, halved with H, and saturated last; without H that is
where its redundant-sign count is below the shift (R237, R238; DEDUCED, log 147). -/
def normVec (g : Engine) (f : AluForm) : BitVec 192 × Nat :=
  vsat (fun i => halve f (vcomp (readV g f.a) i * 2 ^ min 23 (fld (scalarB g f).toNat 0 5)))

/-- NORM (R238). -/
def execNorm (e : Nat) (g : Gate) (f : AluForm) (s : State) : Host.Outcome State Fault Refusal :=
  act (aluVecOp e g f true (scalarOk f) (fun g =>
    sendResult e 3 2 (.v (physV g f.d)) (normVec g f).1 (normVec g f).2)) s

/-- EXP (R238). -/
def execExp (e : Nat) (g : Gate) (f : AluForm) (s : State) : Host.Outcome State Fault Refusal :=
  act (aluScalar e g f false false 3 (fun g => w32 (vecCount (readV g f.a)))) s

/-- ADD (R237). -/
def execAdd (e : Nat) (g : Gate) (f : AluForm) (s : State) : Host.Outcome State Fault Refusal :=
  act (aluScalar e g f true true 2 (fun g => readX g f.a + scalarB g f)) s

/-- SUB (R237). -/
def execSub (e : Nat) (g : Gate) (f : AluForm) (s : State) : Host.Outcome State Fault Refusal :=
  act (aluScalar e g f true true 2 (fun g => readX g f.a - scalarB g f)) s

/-- AND (R237). -/
def execAnd (e : Nat) (g : Gate) (f : AluForm) (s : State) : Host.Outcome State Fault Refusal :=
  act (aluScalar e g f true true 2 (fun g => readX g f.a &&& scalarB g f)) s

/-- OR (R237). -/
def execOr (e : Nat) (g : Gate) (f : AluForm) (s : State) : Host.Outcome State Fault Refusal :=
  act (aluScalar e g f true true 2 (fun g => readX g f.a ||| scalarB g f)) s

/-- XOR (R237). -/
def execXor (e : Nat) (g : Gate) (f : AluForm) (s : State) : Host.Outcome State Fault Refusal :=
  act (aluScalar e g f true true 2 (fun g => readX g f.a ^^^ scalarB g f)) s

/-- The shift count of a scalar operation, B[4:0] (R237). -/
def shiftCount (g : Engine) (f : AluForm) : Nat := fld (scalarB g f).toNat 0 5

/-- SHL (R237). -/
def execShl (e : Nat) (g : Gate) (f : AluForm) (s : State) : Host.Outcome State Fault Refusal :=
  act (aluScalar e g f true true 2 (fun g => readX g f.a <<< shiftCount g f)) s

/-- SHRA (R237). -/
def execShra (e : Nat) (g : Gate) (f : AluForm) (s : State) : Host.Outcome State Fault Refusal :=
  act (aluScalar e g f true true 2 (fun g => (readX g f.a).sshiftRight (shiftCount g f))) s

/-- SHRL (R237). -/
def execShrl (e : Nat) (g : Gate) (f : AluForm) (s : State) : Host.Outcome State Fault Refusal :=
  act (aluScalar e g f true true 2 (fun g => readX g f.a >>> shiftCount g f)) s

/-- MIN (R237). -/
def execMin (e : Nat) (g : Gate) (f : AluForm) (s : State) : Host.Outcome State Fault Refusal :=
  act (aluScalar e g f true true 2 (fun g =>
    if (readX g f.a).toInt ≤ (scalarB g f).toInt then readX g f.a else scalarB g f)) s

/-- MAX (R237). -/
def execMax (e : Nat) (g : Gate) (f : AluForm) (s : State) : Host.Outcome State Fault Refusal :=
  act (aluScalar e g f true true 2 (fun g =>
    if (readX g f.a).toInt ≤ (scalarB g f).toInt then scalarB g f else readX g f.a)) s

/-- MOVI (R237). -/
def execMovi (e : Nat) (g : Gate) (f : AluForm) (s : State) : Host.Outcome State Fault Refusal :=
  act (aluScalar e g f true false 2 (fun g => scalarB g f)) s

/-- MOVHI (R237). -/
def execMovhi (e : Nat) (g : Gate) (f : AluForm) (s : State) : Host.Outcome State Fault Refusal :=
  act (aluScalar e g f false true 2 (fun g =>
    w32 (fld (readX g f.a).toNat 0 16 ||| (f.imm % 65536) <<< 16))) s

/-- BXGET (R239). -/
def execBxget (e : Nat) (g : Gate) (f : AluForm) (s : State) : Host.Outcome State Fault Refusal :=
  act (fun s => aluScalar e g f false false 2 (fun g => w32 (bexpAt g s.time.cycle)) s) s

/-- MOVF (R237, R223). -/
def execMovf (e : Nat) (g : Gate) (f : AluForm) (s : State) : Host.Outcome State Fault Refusal :=
  act (aluScalar e g f false false 2 (fun g => w32 g.ef)) s

/-- MOVXV (R237). -/
def execMovxv (e : Nat) (g : Gate) (f : AluForm) (s : State) : Host.Outcome State Fault Refusal :=
  act (aluScalar e g f false false 2 (fun g => w32 (enc 32 (vcomp (readV g f.a) 0)))) s

/-- MOVVX (R237). -/
def execMovvx (e : Nat) (g : Gate) (f : AluForm) (s : State) : Host.Outcome State Fault Refusal :=
  act (aluVecOp e g f false (decide (f.a < 16)) (fun g =>
    aluVec e 2 f f.d (fun i => if i = 0 then sgn 24 (readX g f.a).toNat else 0) g)) s

/-- CMPEQ (R237). -/
def execCmpeq (e : Nat) (g : Gate) (f : AluForm) (s : State) : Host.Outcome State Fault Refusal :=
  act (aluPred e g f true (decide (f.a < 16) && scalarOk f) (fun g => readX g f.a == scalarB g f)) s

/-- CMPLT (R237). -/
def execCmplt (e : Nat) (g : Gate) (f : AluForm) (s : State) : Host.Outcome State Fault Refusal :=
  act (aluPred e g f true (decide (f.a < 16) && scalarOk f) (fun g => (readX g f.a).slt (scalarB g f))) s

/-- CMPLTU (R237). -/
def execCmpltu (e : Nat) (g : Gate) (f : AluForm) (s : State) : Host.Outcome State Fault Refusal :=
  act (aluPred e g f true (decide (f.a < 16) && scalarOk f) (fun g => (readX g f.a).ult (scalarB g f))) s

/-- Whether the B field of a predicate operation names a predicate (R236; DEDUCED, log 148). -/
def predOk (f : AluForm) : Bool := f.i || f.xb || decide (f.b < 8)

/-- PAND (R237). -/
def execPand (e : Nat) (g : Gate) (f : AluForm) (s : State) : Host.Outcome State Fault Refusal :=
  act (aluPred e g f true (decide (f.a < 8) && predOk f) (fun g => readP g f.a && predB g f)) s

/-- POR (R237). -/
def execPor (e : Nat) (g : Gate) (f : AluForm) (s : State) : Host.Outcome State Fault Refusal :=
  act (aluPred e g f true (decide (f.a < 8) && predOk f) (fun g => readP g f.a || predB g f)) s

/-- PNOT (R237). -/
def execPnot (e : Nat) (g : Gate) (f : AluForm) (s : State) : Host.Outcome State Fault Refusal :=
  act (aluPred e g f false (decide (f.a < 8)) (fun g => !readP g f.a)) s

/-- SEND (R241). -/
def execSend (e : Nat) (g : Gate) (f : XchForm) (s : State) : Host.Outcome State Fault Refusal :=
  act (slot e g (fun g => sendWord e f.route (readV g f.reg))) s

/-- SENDX (R241). -/
def execSendx (e : Nat) (g : Gate) (f : XchForm) (s : State) : Host.Outcome State Fault Refusal :=
  act (slot e g (fun g s =>
    if f.reg < 16 then sendWord e f.route ((readX g f.reg).setWidth 192) s else illegalSlot e s)) s

end Sys2Proof.Machine
end

