-- ==== Sys2Proof/Machine/Package.lean ====
section
/-! DEFINITION. The SMBus port, the resets of the drive ports, and the test access port (20 R470, R471, R473). -/

namespace Sys2Proof.Machine

/-- SET_OFFSET (R473). -/
def smbusOffset (off : Nat) (s : State) : State :=
  if s.pwr.vaux then mPkg (fun k => { k with smbus := off % 2 ^ 32 }) s else s

/-- The blocks that READ shows (R473). -/
def smbusBlocks : List Nat := [0, 1, 6, 20, 21, 24]

/-- Whether READ answers with content at all (R473). -/
def smbusReads (s : State) : Bool :=
  !(s.life.sys == .standby || s.life.sys == .faultOff || s.life.sys == .off)

/-- What READ returns (R85, R473): no RC register is cleared. -/
def smbusWord (s : State) : Word :=
  match blockAt s.pkg.smbus with
  | some (n, _) => if smbusReads s && smbusBlocks.contains n then readReg s s.pkg.smbus else 0
  | none => 0

/-- READ (R473). -/
def smbusRead (s : State) : State :=
  if s.pwr.vaux then
    mPkg (fun k => { k with smbus := (k.smbus + 4) % 2 ^ 32 }) (emit (.smbus (leBytes 4 (smbusWord s).toNat)) s)
  else s

/-- The reason codes of STATE (R473). -/
def PowerCause.code : PowerCause → Nat
  | .none => 0 | .railFault => 1 | .storeTrain => 2 | .inputTrip => 3 | .thermalShutdown => 4

/-- STATE (R473): the state code and the reason of the power-down cause latch. -/
def smbusState (s : State) : State :=
  if s.pwr.vaux then emit (.smbus (leBytes 2 (s.life.sys.code + 16 * s.pwr.cause.code))) s else s

/-- The resets of the used ports are released together, 100 ms after DREFCLK of port `p` last started (R471). -/
def dperstReleased (p : Nat) (s : State) : State :=
  if tbit s.pkg.dperstDue p then
    mPkg (fun k => { k with dperst := k.dperst ||| k.dperstDue, dperstDue := 0 }) s
  else s

/-- IDCODE: bit 0 is 1, the part number in bits [27:12], the rest the module's (R470, log 3). -/
def idcode : Word := (Config.idcodeRest &&& 0xF0000FFE) ||| 0x04920001

/-- The instruction codes of the TAP that R470 names: IDCODE and BYPASS (log 3). -/
def tapAlways (code : Nat) : Bool := code == 1 || code == 0xFF

/-- Boundary scan under TEST_EN: the boundary register captures the levels of its contacts, which are the board's, so a
free value, and an instruction that drives the contacts does; no command shifts the register (R470; log 3). -/
def tapScan (code : Nat) (s : State) : State :=
  if s.pwr.testEn then
    nextFree (mPkg (fun k => { k with boundary := Config.freeValue s.free, driven := Config.tapDrives code && !tapAlways code }) s)
  else mPkg (fun k => { k with driven := false }) s

/-- An instruction shifted into the TAP (R470). -/
def tapInstruction (code : Nat) (s : State) : State :=
  let code := code % 256
  if s.pwr.vaux && (s.pwr.testEn || tapAlways code) then
    let s := tapScan code (mPkg (fun k => { k with tap := code }) s)
    if code = 1 then emit (.word idcode) s else s
  else s

/-- SMBUS_SET_OFFSET (R473). -/
def execSmbusSetOffset (off : Nat) (s : State) : Host.Outcome State Fault Refusal := act (smbusOffset off) s

/-- SMBUS_READ (R473). -/
def execSmbusRead (s : State) : Host.Outcome State Fault Refusal := act smbusRead s

/-- SMBUS_STATE (R473). -/
def execSmbusState (s : State) : Host.Outcome State Fault Refusal := act smbusState s

/-- DPERST_RELEASE (R471). -/
def execDperstRelease (p : Nat) (s : State) : Host.Outcome State Fault Refusal := act (dperstReleased p) s

/-- TAP_INSTRUCTION (R470). -/
def execTapInstruction (code : Nat) (s : State) : Host.Outcome State Fault Refusal := act (tapInstruction code) s

end Sys2Proof.Machine
end

