-- ==== Sys2Proof/Machine/Dispatch.lean ====
section
/-! DEFINITION. One arm for each command: a direct call of its meaning. -/

namespace Sys2Proof.Machine

/-- The effect of a command. -/
def exec (i : Instr) (s : State) : Host.Outcome State Fault Refusal :=
  match i with
  | .supplyValid vaux straps testEn => Sys2Proof.Machine.execSupplyValid vaux straps testEn s
  | .supplyInvalid vaux => Sys2Proof.Machine.execSupplyInvalid vaux s
  | .stbyHigh => Sys2Proof.Machine.execStbyHigh s
  | .stbyLow straps testEn => Sys2Proof.Machine.execStbyLow straps testEn s
  | .standbyRailsOff => Sys2Proof.Machine.execStandbyRailsOff s
  | .railGroupInRegulation group => Sys2Proof.Machine.execRailGroupInRegulation group s
  | .railFault group input => Sys2Proof.Machine.execRailFault group input s
  | .ovenOscillatorRuns mramOk found => Sys2Proof.Machine.execOvenOscillatorRuns mramOk found s
  | .rootSynthLock => Sys2Proof.Machine.execRootSynthLock s
  | .storeTrainingDone ok0 ok1 => Sys2Proof.Machine.execStoreTrainingDone ok0 ok1 s
  | .storeZeroed => Sys2Proof.Machine.execStoreZeroed s
  | .bootPointerRead flash copy0 copy1 => Sys2Proof.Machine.execBootPointerRead flash copy0 copy1 s
  | .boardRecordRead data => Sys2Proof.Machine.execBoardRecordRead data s
  | .imageHeaderRead data => Sys2Proof.Machine.execImageHeaderRead data s
  | .imageBodyRead data firmwareOk => Sys2Proof.Machine.execImageBodyRead data firmwareOk s
  | .functionStart info => Sys2Proof.Machine.execFunctionStart info s
  | .hostLinkReady speed width flit => Sys2Proof.Machine.execHostLinkReady speed width flit s
  | .configRequest write dword => Sys2Proof.Machine.execConfigRequest write dword s
  | .perstRelease => Sys2Proof.Machine.execPerstRelease s
  | .perstAssert => Sys2Proof.Machine.execPerstAssert s
  | .hotReset => Sys2Proof.Machine.execHotReset s
  | .functionLevelReset => Sys2Proof.Machine.execFunctionLevelReset s
  | .linkDown => Sys2Proof.Machine.execLinkDown s
  | .d3hotEntry => Sys2Proof.Machine.execD3hotEntry s
  | .unsupportedRequest addr => Sys2Proof.Machine.execUnsupportedRequest addr s
  | .restartRequest v => Sys2Proof.Machine.execRestartRequest v s
  | .functionStopAtSeam => Sys2Proof.Machine.execFunctionStopAtSeam s
  | .nvmeDrainDone => Sys2Proof.Machine.execNvmeDrainDone s
  | .nvmeDrainTimeout => Sys2Proof.Machine.execNvmeDrainTimeout s
  | .volumeCloseDone => Sys2Proof.Machine.execVolumeCloseDone s
  | .rootUnlock => Sys2Proof.Machine.execRootUnlock s
  | .rootRelock => Sys2Proof.Machine.execRootRelock s
  | .rootRelockTimeout => Sys2Proof.Machine.execRootRelockTimeout s
  | .bar0Write off dws poisoned => Sys2Proof.Machine.execBar0Write off dws poisoned s
  | .statSummaryRead => Sys2Proof.Machine.execStatSummaryRead s
  | .statGrpRead n => Sys2Proof.Machine.execStatGrpRead n s
  | .keyUnlockWrite v => Sys2Proof.Machine.execKeyUnlockWrite v s
  | .placketTimeout => Sys2Proof.Machine.execPlacketTimeout s
  | .snapTake v => Sys2Proof.Machine.execSnapTake v s
  | .liveShadowWrite n v => Sys2Proof.Machine.execLiveShadowWrite n v s
  | .liveCommit v => Sys2Proof.Machine.execLiveCommit v s
  | .liveRangeCheckDone => Sys2Proof.Machine.execLiveRangeCheckDone s
  | .seamStart => Sys2Proof.Machine.execSeamStart s
  | .seamEnd => Sys2Proof.Machine.execSeamEnd s
  | .nop kg => Sys2Proof.Machine.execNop kg s
  | .getState kg => Sys2Proof.Machine.execGetState kg s
  | .flashInfo kg => Sys2Proof.Machine.execFlashInfo kg s
  | .flashRead kg => Sys2Proof.Machine.execFlashRead kg s
  | .flashErase kg => Sys2Proof.Machine.execFlashErase kg s
  | .flashProgram kg => Sys2Proof.Machine.execFlashProgram kg s
  | .boardRead kg => Sys2Proof.Machine.execBoardRead kg s
  | .ksWrite kg => Sys2Proof.Machine.execKsWrite kg s
  | .ksRevoke kg => Sys2Proof.Machine.execKsRevoke kg s
  | .calRunCalibrate kg => Sys2Proof.Machine.execCalRunCalibrate kg s
  | .calRunAgeing kg => Sys2Proof.Machine.execCalRunAgeing kg s
  | .calStore kg => Sys2Proof.Machine.execCalStore kg s
  | .calAbort kg => Sys2Proof.Machine.execCalAbort kg s
  | .logFreeze kg => Sys2Proof.Machine.execLogFreeze kg s
  | .logThaw kg => Sys2Proof.Machine.execLogThaw kg s
  | .logClear kg => Sys2Proof.Machine.execLogClear kg s
  | .unknownOpcode kg opcode => Sys2Proof.Machine.execUnknownOpcode kg opcode s
  | .mailboxComplete ok data mismatch => Sys2Proof.Machine.execMailboxComplete ok data mismatch s
  | .ovenSample err heater => Sys2Proof.Machine.execOvenSample err heater s
  | .ageingEvaluation => Sys2Proof.Machine.execAgeingEvaluation s
  | .tuneSlewStep => Sys2Proof.Machine.execTuneSlewStep s
  | .synthOffsetStep => Sys2Proof.Machine.execSynthOffsetStep s
  | .refGateComplete nominal err => Sys2Proof.Machine.execRefGateComplete nominal err s
  | .refEdgeTimeout => Sys2Proof.Machine.execRefEdgeTimeout s
  | .lockAchieved => Sys2Proof.Machine.execLockAchieved s
  | .operatingSecond => Sys2Proof.Machine.execOperatingSecond s
  | .converterSample ch codes => Sys2Proof.Machine.execConverterSample ch codes s
  | .sliceClamp ch slice => Sys2Proof.Machine.execSliceClamp ch slice s
  | .deepTrip ch => Sys2Proof.Machine.execDeepTrip ch s
  | .overloadWindowEnd ch => Sys2Proof.Machine.execOverloadWindowEnd ch s
  | .neighbourAdjEnd ch => Sys2Proof.Machine.execNeighbourAdjEnd ch s
  | .adjWindowEnd ch => Sys2Proof.Machine.execAdjWindowEnd ch s
  | .relaySenseReached ch relay => Sys2Proof.Machine.execRelaySenseReached ch relay s
  | .relayRetry ch relay => Sys2Proof.Machine.execRelayRetry ch relay s
  | .relayFault ch relay sensed => Sys2Proof.Machine.execRelayFault ch relay sensed s
  | .sleeveBlockWrite sleeve time data => Sys2Proof.Machine.execSleeveBlockWrite sleeve time data s
  | .writerResume sleeve => Sys2Proof.Machine.execWriterResume sleeve s
  | .openTransaction borrowed => Sys2Proof.Machine.execOpenTransaction borrowed s
  | .openReadData ecc => Sys2Proof.Machine.execOpenReadData ecc s
  | .tagGrant requester => Sys2Proof.Machine.execTagGrant requester s
  | .bar2Read x len => Sys2Proof.Machine.execBar2Read x len s
  | .bar2Write x poisoned => Sys2Proof.Machine.execBar2Write x poisoned s
  | .streamReadLand e stream => Sys2Proof.Machine.execStreamReadLand e stream s
  | .streamWriteTake e stream => Sys2Proof.Machine.execStreamWriteTake e stream s
  | .resultLands e => Sys2Proof.Machine.execResultLands e s
  | .xchDelivery e => Sys2Proof.Machine.execXchDelivery e s
  | .loopExit e => Sys2Proof.Machine.execLoopExit e s
  | .stopBundle e => Sys2Proof.Machine.execStopBundle e s
  | .seamMark e => Sys2Proof.Machine.execSeamMark e s
  | .illegalEncoding e => Sys2Proof.Machine.execIllegalEncoding e s
  | .br e g target => Sys2Proof.Machine.execBr e g target s
  | .brx e g xs => Sys2Proof.Machine.execBrx e g xs s
  | .loop e g f => Sys2Proof.Machine.execLoop e g f s
  | .bxclr e g => Sys2Proof.Machine.execBxclr e g s
  | .bsc e g src xs imm => Sys2Proof.Machine.execBsc e g src xs imm s
  | .clrf e g => Sys2Proof.Machine.execClrf e g s
  | .rofset e g imm => Sys2Proof.Machine.execRofset e g imm s
  | .ldv e g f => Sys2Proof.Machine.execLdv e g f s
  | .ldc e g f => Sys2Proof.Machine.execLdc e g f s
  | .ldp12 e g f => Sys2Proof.Machine.execLdp12 e g f s
  | .ldu16 e g f => Sys2Proof.Machine.execLdu16 e g f s
  | .ldx e g f => Sys2Proof.Machine.execLdx e g f s
  | .stv e g f => Sys2Proof.Machine.execStv e g f s
  | .sth e g f => Sys2Proof.Machine.execSth e g f s
  | .stq e g f => Sys2Proof.Machine.execStq e g f s
  | .stx e g f => Sys2Proof.Machine.execStx e g f s
  | .cmul e g f => Sys2Proof.Machine.execCmul e g f s
  | .cmla e g f => Sys2Proof.Machine.execCmla e g f s
  | .cmac e g f => Sys2Proof.Machine.execCmac e g f s
  | .acrd e g f => Sys2Proof.Machine.execAcrd e g f s
  | .acrc e g f => Sys2Proof.Machine.execAcrc e g f s
  | .fcvtp e g f => Sys2Proof.Machine.execFcvtp e g f s
  | .fcvtl e g f => Sys2Proof.Machine.execFcvtl e g f s
  | .cadd e g f => Sys2Proof.Machine.execCadd e g f s
  | .csub e g f => Sys2Proof.Machine.execCsub e g f s
  | .bfy e g f => Sys2Proof.Machine.execBfy e g f s
  | .bfyj e g f => Sys2Proof.Machine.execBfyj e g f s
  | .vmov e g f => Sys2Proof.Machine.execVmov e g f s
  | .conj e g f => Sys2Proof.Machine.execConj e g f s
  | .vshr e g f => Sys2Proof.Machine.execVshr e g f s
  | .norm e g f => Sys2Proof.Machine.execNorm e g f s
  | .exp e g f => Sys2Proof.Machine.execExp e g f s
  | .add e g f => Sys2Proof.Machine.execAdd e g f s
  | .sub e g f => Sys2Proof.Machine.execSub e g f s
  | .and e g f => Sys2Proof.Machine.execAnd e g f s
  | .or e g f => Sys2Proof.Machine.execOr e g f s
  | .xor e g f => Sys2Proof.Machine.execXor e g f s
  | .shl e g f => Sys2Proof.Machine.execShl e g f s
  | .shra e g f => Sys2Proof.Machine.execShra e g f s
  | .shrl e g f => Sys2Proof.Machine.execShrl e g f s
  | .min e g f => Sys2Proof.Machine.execMin e g f s
  | .max e g f => Sys2Proof.Machine.execMax e g f s
  | .movi e g f => Sys2Proof.Machine.execMovi e g f s
  | .movhi e g f => Sys2Proof.Machine.execMovhi e g f s
  | .bxget e g f => Sys2Proof.Machine.execBxget e g f s
  | .movf e g f => Sys2Proof.Machine.execMovf e g f s
  | .movxv e g f => Sys2Proof.Machine.execMovxv e g f s
  | .movvx e g f => Sys2Proof.Machine.execMovvx e g f s
  | .cmpeq e g f => Sys2Proof.Machine.execCmpeq e g f s
  | .cmplt e g f => Sys2Proof.Machine.execCmplt e g f s
  | .cmpltu e g f => Sys2Proof.Machine.execCmpltu e g f s
  | .pand e g f => Sys2Proof.Machine.execPand e g f s
  | .por e g f => Sys2Proof.Machine.execPor e g f s
  | .pnot e g f => Sys2Proof.Machine.execPnot e g f s
  | .send e g f => Sys2Proof.Machine.execSend e g f s
  | .sendx e g f => Sys2Proof.Machine.execSendx e g f s
  | .frameStamp stream => Sys2Proof.Machine.execFrameStamp stream s
  | .traceFrame d => Sys2Proof.Machine.execTraceFrame d s
  | .traceIntervalClose d => Sys2Proof.Machine.execTraceIntervalClose d s
  | .densityFrame p => Sys2Proof.Machine.execDensityFrame p s
  | .exposureClose p => Sys2Proof.Machine.execExposureClose p s
  | .copyPassStart p => Sys2Proof.Machine.execCopyPassStart p s
  | .copyPassEnd p => Sys2Proof.Machine.execCopyPassEnd p s
  | .contextInputRow c => Sys2Proof.Machine.execContextInputRow c s
  | .contextInputLoss c rows => Sys2Proof.Machine.execContextInputLoss c rows s
  | .settlingComplete c => Sys2Proof.Machine.execSettlingComplete c s
  | .crossfadeEnd c => Sys2Proof.Machine.execCrossfadeEnd c s
  | .detectorIntervalClose c => Sys2Proof.Machine.execDetectorIntervalClose c s
  | .iqRecordClose c => Sys2Proof.Machine.execIqRecordClose c s
  | .contextRecordWrite c => Sys2Proof.Machine.execContextRecordWrite c s
  | .fallbackToleranceExpiry c => Sys2Proof.Machine.execFallbackToleranceExpiry c s
  | .fallbackExit c => Sys2Proof.Machine.execFallbackExit c s
  | .maskFrame cond => Sys2Proof.Machine.execMaskFrame cond s
  | .occurrenceArrival g k => Sys2Proof.Machine.execOccurrenceArrival g k s
  | .occurrenceExpiry g => Sys2Proof.Machine.execOccurrenceExpiry g s
  | .hemEnd g => Sys2Proof.Machine.execHemEnd g s
  | .holdoffEnd g => Sys2Proof.Machine.execHoldoffEnd g s
  | .trgArm v => Sys2Proof.Machine.execTrgArm v s
  | .trgDisarm v => Sys2Proof.Machine.execTrgDisarm v s
  | .trgForce v => Sys2Proof.Machine.execTrgForce v s
  | .capAbort v => Sys2Proof.Machine.execCapAbort v s
  | .eventEdge n rising code => Sys2Proof.Machine.execEventEdge n rising code s
  | .tiuCal v => Sys2Proof.Machine.execTiuCal v s
  | .tiuCalDone n hits => Sys2Proof.Machine.execTiuCalDone n hits s
  | .frequencyGateEnd n => Sys2Proof.Machine.execFrequencyGateEnd n s
  | .thrSettleEnd n => Sys2Proof.Machine.execThrSettleEnd n s
  | .outputPulseEnd o => Sys2Proof.Machine.execOutputPulseEnd o s
  | .tiuRecordWrite n => Sys2Proof.Machine.execTiuRecordWrite n s
  | .driveLinkUp d speed width nvme => Sys2Proof.Machine.execDriveLinkUp d speed width nvme s
  | .driveLinkTimeout d => Sys2Proof.Machine.execDriveLinkTimeout d s
  | .driveReady d => Sys2Proof.Machine.execDriveReady d s
  | .driveReadyTimeout d => Sys2Proof.Machine.execDriveReadyTimeout d s
  | .identifyDone d info => Sys2Proof.Machine.execIdentifyDone d info s
  | .labelRead labels entropy => Sys2Proof.Machine.execLabelRead labels entropy s
  | .driveDmaAccess d access => Sys2Proof.Machine.execDriveDmaAccess d access s
  | .stripeWrite sleeve => Sys2Proof.Machine.execStripeWrite sleeve s
  | .nvmeCompletion d id status => Sys2Proof.Machine.execNvmeCompletion d id status s
  | .nvmeCommandTimeout d id => Sys2Proof.Machine.execNvmeCommandTimeout d id s
  | .driveLinkLost d => Sys2Proof.Machine.execDriveLinkLost d s
  | .dmaQTailWrite q v => Sys2Proof.Machine.execDmaQTailWrite q v s
  | .dmaQCheadWrite q v => Sys2Proof.Machine.execDmaQCheadWrite q v s
  | .dmaQCtrlWrite q v => Sys2Proof.Machine.execDmaQCtrlWrite q v s
  | .dmaQAbort q => Sys2Proof.Machine.execDmaQAbort q s
  | .dmaQFlush q => Sys2Proof.Machine.execDmaQFlush q s
  | .descriptorFetch q data => Sys2Proof.Machine.execDescriptorFetch q data s
  | .tableFetch q data => Sys2Proof.Machine.execTableFetch q data s
  | .burstDone q => Sys2Proof.Machine.execBurstDone q s
  | .hostReadCompletion q data => Sys2Proof.Machine.execHostReadCompletion q data s
  | .destWaitEnd q => Sys2Proof.Machine.execDestWaitEnd q s
  | .streamFlushTimeout q => Sys2Proof.Machine.execStreamFlushTimeout q s
  | .noticeWrite q => Sys2Proof.Machine.execNoticeWrite q s
  | .calMeasurementDone m => Sys2Proof.Machine.execCalMeasurementDone m s
  | .calComputeDone resid => Sys2Proof.Machine.execCalComputeDone resid s
  | .calTurnEnd => Sys2Proof.Machine.execCalTurnEnd s
  | .trackerIntervalEnd ch power ofs est => Sys2Proof.Machine.execTrackerIntervalEnd ch power ofs est s
  | .logRecordWritten verify copyVerify stateVerify => Sys2Proof.Machine.execLogRecordWritten verify copyVerify stateVerify s
  | .mramTimeout => Sys2Proof.Machine.execMramTimeout s
  | .freezeTimeout => Sys2Proof.Machine.execFreezeTimeout s
  | .fallbackProgram => Sys2Proof.Machine.execFallbackProgram s
  | .inputTrip => Sys2Proof.Machine.execInputTrip s
  | .pwrInUpdate power => Sys2Proof.Machine.execPwrInUpdate power s
  | .slackLow slack => Sys2Proof.Machine.execSlackLow slack s
  | .avsLower slack => Sys2Proof.Machine.execAvsLower slack s
  | .thermalShutdown => Sys2Proof.Machine.execThermalShutdown s
  | .monPassStart => Sys2Proof.Machine.execMonPassStart s
  | .monEntryStart => Sys2Proof.Machine.execMonEntryStart s
  | .monStartTimeout => Sys2Proof.Machine.execMonStartTimeout s
  | .monEntryEnd a b => Sys2Proof.Machine.execMonEntryEnd a b s
  | .monUrgentGo v => Sys2Proof.Machine.execMonUrgentGo v s
  | .urgentConversionDone a b => Sys2Proof.Machine.execUrgentConversionDone a b s
  | .smbusSetOffset off => Sys2Proof.Machine.execSmbusSetOffset off s
  | .smbusRead => Sys2Proof.Machine.execSmbusRead s
  | .smbusState => Sys2Proof.Machine.execSmbusState s
  | .completionTimeout q => Sys2Proof.Machine.execCompletionTimeout q s
  | .flashNoAnswer => Sys2Proof.Machine.execFlashNoAnswer s
  | .volumeCloseTimeout => Sys2Proof.Machine.execVolumeCloseTimeout s
  | .railFaultRecordWaitExpiry => Sys2Proof.Machine.execRailFaultRecordWaitExpiry s
  | .dperstRelease p => Sys2Proof.Machine.execDperstRelease p s
  | .tapInstruction code => Sys2Proof.Machine.execTapInstruction code s

end Sys2Proof.Machine
end

