-- ==== Sys2Proof/Machine/Tick.lean ====
section
/-! DEFINITION. What the block does of its own accord in one CK_ENG cycle, on an empty queue (DESIGN CHOICE, log 1): the
engine array's sequencers bring about their commands (R193 to R202), and time passes. -/

namespace Sys2Proof.Machine

/-- One CK_ENG cycle passes; the event edges whose turn has come are handled, and the recording engine goes on (R342,
R371). -/
def endCycle (s : State) : State := driveWork (settleEdges (mEng (fun a => { a with issuing := false }) (nextCycle s)))

/-- An illegal slot of engine `e` that its gate admits (R216, R221). -/
def illegalIf (e : Nat) (g : Engine) (q : Gate) : List Instr := if gateOpen g q then [.illegalEncoding e] else []

/-- The CTL slot of 32 bits as a command, with the bundle's immediate (R225). -/
def decodeCtl (e : Nat) (g : Engine) (q : Gate) (w imm : Nat) : List Instr :=
  let ok := fun (used : Nat) (c : Instr) => if w / 2 ^ used = 0 then [c] else illegalIf e g q
  match fld w 3 5 with
  | 0x00 => if w / 2 ^ 8 = 0 then [] else illegalIf e g q
  | 0x01 => ok 22 (.br e q (fld w 8 14))
  | 0x02 => ok 12 (.brx e q (fld w 8 4))
  | 0x03 => [.loop e q {
      lc := fld w 8 2, rot := tbit w 10, drain := fld w 11 2, cs := tbit w 13, xs := fld w 14 4, last := fld w 18 14,
      imm := imm }]
  | 0x04 => ok 8 (.bxclr e q)
  | 0x05 => ok 13 (.bsc e q (tbit w 8) (fld w 9 4) imm)
  | 0x06 => ok 8 (.clrf e q)
  | 0x07 => ok 8 (.rofset e q imm)
  | _ => illegalIf e g q

/-- An LS slot of 40 bits as a command (R230, R231). -/
def decodeLs (e : Nat) (g : Engine) (q : Gate) (slot w : Nat) : List Instr :=
  let f : LsForm := {
    slot := slot, reg := fld w 8 6, xa := fld w 14 4, post := tbit w 18, f := tbit w 19,
    off := sgn 16 (fld w 20 16) }
  if fld w 36 4 ≠ 0 then illegalIf e g q
  else match fld w 3 5 with
  | 0x00 => if f.f then illegalIf e g q else []
  | 0x01 => [.ldv e q f]
  | 0x02 => [.ldc e q f]
  | 0x03 => [.ldp12 e q f]
  | 0x04 => [.ldu16 e q f]
  | 0x05 => [.ldx e q f]
  | 0x08 => [.stv e q f]
  | 0x09 => [.sth e q f]
  | 0x0A => [.stq e q f]
  | 0x0B => [.stx e q f]
  | _ => illegalIf e g q

/-- The MAC slot of 48 bits as a command (R232, R233). -/
def decodeMac (e : Nat) (g : Engine) (q : Gate) (w : Nat) : List Instr :=
  let f : MacForm := {
    vd := fld w 8 6, va := fld w 14 6, vb := fld w 20 6, ac := fld w 26 2, sh := fld w 28 4,
    conj := tbit w 32, neg := tbit w 33 }
  if fld w 34 14 ≠ 0 then illegalIf e g q
  else match fld w 3 5 with
  | 0x00 => []
  | 0x01 => [.cmul e q f]
  | 0x02 => [.cmla e q f]
  | 0x03 => [.cmac e q f]
  | 0x04 => [.acrd e q f]
  | 0x05 => [.acrc e q f]
  | 0x08 => [.fcvtp e q f]
  | 0x09 => [.fcvtl e q f]
  | _ => illegalIf e g q

/-- The vector operations of the ALU slot (R237, R238). -/
def decodeAluVector (e : Nat) (g : Engine) (q : Gate) (f : AluForm) (op : Nat) : List Instr :=
  match op with
  | 0x01 => [.cadd e q f]
  | 0x02 => [.csub e q f]
  | 0x03 => [.bfy e q f]
  | 0x04 => [.bfyj e q f]
  | 0x05 => [.vmov e q f]
  | 0x06 => [.conj e q f]
  | 0x07 => [.vshr e q f]
  | 0x08 => [.norm e q f]
  | 0x09 => [.exp e q f]
  | _ => illegalIf e g q

/-- The scalar and predicate operations of the ALU slot (R237). -/
def decodeAluScalar (e : Nat) (g : Engine) (q : Gate) (f : AluForm) (op : Nat) : List Instr :=
  match op with
  | 0x20 => [.add e q f]
  | 0x21 => [.sub e q f]
  | 0x22 => [.and e q f]
  | 0x23 => [.or e q f]
  | 0x24 => [.xor e q f]
  | 0x25 => [.shl e q f]
  | 0x26 => [.shra e q f]
  | 0x27 => [.shrl e q f]
  | 0x28 => [.min e q f]
  | 0x29 => [.max e q f]
  | 0x2A => [.movi e q f]
  | 0x2B => [.movhi e q f]
  | 0x2C => [.bxget e q f]
  | 0x2D => [.movf e q f]
  | 0x2E => [.movxv e q f]
  | 0x2F => [.movvx e q f]
  | 0x30 => [.cmpeq e q f]
  | 0x31 => [.cmplt e q f]
  | 0x32 => [.cmpltu e q f]
  | 0x33 => [.pand e q f]
  | 0x34 => [.por e q f]
  | 0x35 => [.pnot e q f]
  | _ => illegalIf e g q

/-- The ALU slot of 40 bits as a command, with the bundle's immediate (R236, R237). -/
def decodeAlu (e : Nat) (g : Engine) (q : Gate) (w imm : Nat) : List Instr :=
  let f : AluForm := {
    d := fld w 9 6, a := fld w 15 6, b := fld w 21 6, h := tbit w 27, i := tbit w 28,
    xb := tbit w 29, imm := imm }
  let op := fld w 3 6
  if fld w 30 10 ≠ 0 then illegalIf e g q
  else if op = 0 then (if f.i || f.xb then illegalIf e g q else [])
  else if op < 0x20 then decodeAluVector e g q f op else decodeAluScalar e g q f op

/-- The XCH slot of 32 bits as a command (R241). -/
def decodeXch (e : Nat) (g : Engine) (q : Gate) (w : Nat) : List Instr :=
  let f : XchForm := { reg := fld w 6 6, route := fld w 12 12 }
  if fld w 24 8 ≠ 0 then illegalIf e g q
  else match fld w 3 3 with
  | 0 => []
  | 1 => [.send e q f]
  | 2 => [.sendx e q f]
  | _ => illegalIf e g q

/-- Whether a command of the CTL slot acts before the other slots of its bundle: a tracked store counts after BXCLR
(R239). -/
def leads : Instr → Bool
  | .bxclr _ _ => true
  | _ => false

/-- The commands of one bundle of engine `e`, its header's effects on issue after its slots (R213, R214). -/
def decodeBundle (e : Nat) (g : Engine) (n : Nat) : List Instr :=
  let gate := fun (w : Nat) => ({
    pred := fld w 0 3, spgEn := tbit n 2, spg := fld n 3 2 } : Gate)
  let imm := fld n 240 16
  let ctl := decodeCtl e g (gate (fld n 8 32)) (fld n 8 32) imm
  let slots := decodeLs e g (gate (fld n 40 40)) 0 (fld n 40 40) ++ decodeLs e g (gate (fld n 80 40)) 1 (fld n 80 40) ++
    decodeMac e g (gate (fld n 120 48)) (fld n 120 48) ++ decodeAlu e g (gate (fld n 168 40)) (fld n 168 40) imm ++
    decodeXch e g (gate (fld n 208 32)) (fld n 208 32)
  ctl.filter leads ++ slots ++ ctl.filter (fun c => !leads c) ++
    (if fld n 5 3 = 0 then [] else [.illegalEncoding e]) ++
    (if tbit n 1 then [.seamMark e] else []) ++ (if tbit n 0 then [.stopBundle e] else [])

/-- The bundle an engine issues next (R190), fetched like a load of the same cycle: with every store issued at least two
cycles before (DESIGN CHOICE, log 151). -/
def nextBundle (s : State) (g : Engine) : Nat := leVal (loadLocal g s.time.cycle (32 * g.pc) 32)

/-- Whether an engine issues a bundle in this cycle (R192, R195, R196). -/
def issues (s : State) (g : Engine) : Bool := g.programmed && !g.stopped && !g.parked && !s.eng.inSeam

/-- The bundles of this cycle issue. -/
def issueAll (s : State) : State :=
  let es := s.eng.engines.filter (fun p => issues s p.2)
  es.foldl (fun s p => mEngine p.1 (fun g => { g with issued := some g.pc }) s)
    { s with pending := es.flatMap (fun p => decodeBundle p.1 p.2 (nextBundle s p.2)) }

/-- What follows the bundles issued in a cycle: loops that end, then the next bundle of each engine, then time. -/
def settleAll (s : State) : State :=
  let ends := s.eng.engines.filter (fun p => exitDue p.2)
  if ends.isEmpty then
    endCycle (mEng (fun a => { a with engines := a.engines.map (fun p => (p.1, settleIssue p.2)) }) s)
  else { s with pending := ends.map (fun p => .loopExit p.1) }

/-- The second half of a cycle: issue, and what follows it. -/
def issuePhase (s : State) : State :=
  if s.eng.engines.any (fun p => p.2.issued.isSome) then settleAll s
  else if s.eng.engines.any (fun p => issues s p.2) then issueAll s
  else endCycle s

/-- How many different cycles up to now something was due in. -/
def dueGroups (u : Nat) (ds : List Nat) : Nat := (ds.filter (fun d => decide (d ≤ u))).eraseDups.length

/-- The seam that begins or ends (R194). -/
def seamEvents (s : State) : List Instr :=
  let k := seamsBegun s
  let c := engineCycle s
  if !s.eng.inSeam && decide (k * s.eng.period ≤ c) then [.seamStart]
  else if s.eng.inSeam && decide ((k - 1) * s.eng.period + 64 ≤ c) then [.seamEnd]
  else []

/-- Results, exchange words and stream blocks of one engine that land (R201, R205, R218). -/
def landingEvents (s : State) (e : Nat) (g : Engine) : List Instr :=
  let u := s.time.cycle
  List.replicate (dueGroups u (g.landings.map Landing.due)) (.resultLands e) ++
  List.replicate (dueGroups u ((s.eng.words.filter (fun w => w.engine == e)).map XchWord.due)) (.xchDelivery e) ++
  (g.incoming.filter (fun b => decide (b.due ≤ u))).map (fun b => .streamReadLand e b.stream)

/-- The static stream of the slot that begins in engine cycle `c` (R194). -/
def slotStream (s : State) (c : Nat) : Option Nat :=
  let slots := (img s).slots.slots
  if c % 2 = 1 ∨ slots.length = 0 then none
  else match slots.getD (c / 2 % slots.length) .openSlot with
    | .static st => some st
    | _ => none

/-- The engine and the stream of an ENG stream of direction `dir` whose slot begins in engine cycle `c`. -/
def engStream (s : State) (dir c : Nat) : Option (Nat × Nat) :=
  (slotStream s c).bind (fun st =>
    let d := streamDecl s st
    if d.unit = 3 ∧ d.dir = dir then some (d.index, st) else none)

/-- The write slots of the first 64 cycles take their blocks as the engines start (R202). -/
def firstTakes (s : State) : State :=
  if engineCycle s = 0 then
    (List.range 64).foldl (fun s c => match engStream s 0 c with
      | some (e, st) => takeBlock e st (s.time.cycle + c) s
      | none => s) s
  else s

/-- The write slot that begins 64 cycles from now takes its block (R202). -/
def takeEvents (s : State) : List Instr := match engStream s 0 (engineCycle s + 64) with
  | some (e, st) => [.streamWriteTake e st]
  | none => []

/-- The read slot that begins now takes its block from the sleeve (R200, R201). -/
def readSlot (s : State) : State := match engStream s 1 (engineCycle s) with
  | some (e, st) => captureRead e st 94 s
  | none => s

/-- Records of `r` bytes whose header is whole among `b` bytes. -/
def headersIn (r b : Nat) : Nat := if b < 128 then 0 else (b - 128) / max 1 r + 1

/-- The records whose header a block written to a frame stream's sleeve completes (R250, R251). -/
def stampEvents (s : State) (i n : Nat) : List Instr := match frameStreamOf s i with
  | some k =>
    let f := frameStream s k
    let r := (frameDecl s k).recordBytes
    List.replicate (headersIn r (f.buf.length + (n - f.left)) - headersIn r f.buf.length) (.frameStamp k)
  | none => []

/-- The blocks whose write slots begin (R202). The results of a RESULT sleeve that is neither a frame stream's nor a
channeliser's carry no time of their own; a mark of theirs takes the sample count of the slot (DESIGN CHOICE, log 123). -/
def writeEvents (s : State) (g : Engine) : List Instr :=
  (g.outgoing.filter (fun b => decide (b.due ≤ s.time.cycle))).flatMap (fun b =>
    let i := (streamDecl s b.stream).sleeve
    .sleeveBlockWrite i (cycleBase s) b.bytes :: stampEvents s i b.bytes.length)

/-- The blocks of the slots that have begun are gone from their engines. -/
def dropWritten (s : State) : State :=
  mEng (fun a => { a with engines := a.engines.map (fun p => (p.1,
    { p.2 with outgoing := p.2.outgoing.filter (fun b => !decide (b.due ≤ s.time.cycle)) })) }) s

/-- The boundary of a pass of the image's slot table, which runs on until step 5 of a stop (R163, R169). -/
def passBoundary (s : State) : State :=
  let n := 2 * (img s).slots.slots.length
  if s.store.imageTable = true ∧ n ≠ 0 ∧ engineCycle s ≠ 0 ∧ engineCycle s % n = 0 then endTablePass s else s

/-- Output pulses that have lasted their width, and frequency gates that are over (R351, R352). -/
def unitEvents (s : State) : List Instr :=
  (s.tiu.outs.filter (fun p => p.2.active && decide (p.2.ends ≤ s.time.cycle))).map (fun p => .outputPulseEnd p.1) ++
  (s.tiu.inputs.filter (fun p => decide (0 < gatesOver p.2 (edgeHorizon s / 256)))).map (fun p => .frequencyGateEnd p.1)

/-- The first half of a cycle: what lands, arrives or begins in it. -/
def eventPhase (s : State) : State :=
  let s := passBoundary (readSlot (firstTakes s))
  let lands := s.eng.engines.flatMap (fun p => landingEvents s p.1 p.2)
  let writes := s.eng.engines.flatMap (fun p => writeEvents s p.2)
  let s := { s with pending := lands ++ seamEvents s ++ takeEvents s ++ writes ++ unitEvents s }
  mEng (fun a => { a with issuing := true }) (dropWritten s)

/-- What the block does in its own time. A stop whose last notices have found their buffers goes on (R76). -/
def ownTime (s : State) : State :=
  if !s.eng.running then endCycle (passBoundary (finishClose s)) else if s.eng.issuing then issuePhase s else eventPhase s

/-- One step of the block's own time (DESIGN CHOICE, log 1). -/
def tick (s : State) : Host.Outcome State Fault Refusal := act ownTime s

end Sys2Proof.Machine
end

