-- ==== Sys2Proof/WellFormed.lean ====
section
/-! DEFINITION. The operand values that the spec admits for each command. -/

namespace Sys2Proof

open Sys2Proof.Machine

/-- A gate: predicate 0 to 7, stage group 0 to 3 (R214, R215). -/
def Gate.ok (g : Gate) : Bool := decide (g.pred < 8) && decide (g.spg < 4)

/-- Engine number (R11). -/
def engineOk (e : Nat) : Bool := decide (e < 192)

/-- An engine number and a gate. -/
def slotOk (e : Nat) (g : Gate) : Bool := engineOk e && Gate.ok g

/-- LS slot fields (R230). -/
def LsForm.ok (f : LsForm) : Bool :=
  decide (f.slot < 2) && decide (f.reg < 64) && decide (f.xa < 16) && decide (-32768 ≤ f.off) && decide (f.off < 32768)

/-- MAC slot fields (R232). -/
def MacForm.ok (f : MacForm) : Bool :=
  decide (f.vd < 64) && decide (f.va < 64) && decide (f.vb < 64) && decide (f.ac < 4) && decide (f.sh < 16)

/-- ALU slot fields (R236). -/
def AluForm.ok (f : AluForm) : Bool :=
  decide (f.d < 64) && decide (f.a < 64) && decide (f.b < 64) && decide (f.imm < 65536)

/-- XCH slot fields (R241). -/
def XchForm.ok (f : XchForm) : Bool := decide (f.reg < 64) && decide (f.route < 4096)

/-- LOOP fields (R227). -/
def LoopForm.ok (f : LoopForm) : Bool :=
  decide (f.lc < 4) && decide (f.drain < 4) && decide (f.xs < 16) && decide (f.last < 16384) && decide (f.imm < 65536)

/-- Whether the operands of a command are values that the spec admits. -/
def wellFormed : Instr → Bool
  | .supplyValid _ straps _ => decide (straps < 8)
  | .supplyInvalid _ => true
  | .stbyHigh => true
  | .stbyLow straps _ => decide (straps < 8)
  | .standbyRailsOff => true
  | .railGroupInRegulation group => decide (1 ≤ group) && decide (group ≤ 3)
  | .railFault group input => railGroup input == some group
  | .ovenOscillatorRuns _ f => decide (f.gen < 2 ^ 32) && decide (f.seconds < 2 ^ 32) && decide (f.cycles < 2 ^ 32)
  | .rootSynthLock => true
  | .storeTrainingDone _ _ => true
  | .storeZeroed => true
  | .bootPointerRead _ _ _ => true
  | .boardRecordRead _ => true
  | .imageHeaderRead _ => true
  | .imageBodyRead _ _ => true
  | .functionStart _ => true
  | .hostLinkReady speed width flit =>
    decide (1 ≤ speed) && decide (speed ≤ 6) && [1, 2, 4, 8, 16].contains width && (flit || decide (speed < 6))
  | .configRequest _ dword => decide (dword < 1024)
  | .perstRelease => true
  | .perstAssert => true
  | .hotReset => true
  | .functionLevelReset => true
  | .linkDown => true
  | .d3hotEntry => true
  | .unsupportedRequest addr => decide (addr < 2 ^ 64)
  | .restartRequest _ => true
  | .functionStopAtSeam => true
  | .nvmeDrainDone => true
  | .nvmeDrainTimeout => true
  | .volumeCloseDone => true
  | .rootUnlock => true
  | .rootRelock => true
  | .rootRelockTimeout => true
  | .bar0Write off dws _ => decide (off < 0x1000000) && decide (off % 4 = 0) && !dws.isEmpty && dws.all (fun d => decide (d.2 < 16))
  | .statSummaryRead => true
  | .statGrpRead n => decide (n < 25)
  | .keyUnlockWrite _ => true
  | .placketTimeout => true
  | .snapTake _ => true
  | .liveShadowWrite n _ => decide (n < 4096)
  | .liveCommit _ => true
  | .liveRangeCheckDone => true
  | .seamStart => true
  | .seamEnd => true
  | .nop _ => true
  | .getState _ => true
  | .flashInfo _ => true
  | .flashRead _ => true
  | .flashErase _ => true
  | .flashProgram _ => true
  | .boardRead _ => true
  | .ksWrite _ => true
  | .ksRevoke _ => true
  | .calRunCalibrate _ => true
  | .calRunAgeing _ => true
  | .calStore _ => true
  | .calAbort _ => true
  | .logFreeze _ => true
  | .logThaw _ => true
  | .logClear _ => true
  | .unknownOpcode _ opcode => decide (opcode.toNat < 65536)
  | .mailboxComplete _ _ _ => true
  | .ovenSample err heater => decide (-32768 ≤ err) && decide (err ≤ 32767) && decide (heater < 65536)
  | .ageingEvaluation => true
  | .tuneSlewStep => true
  | .synthOffsetStep => true
  | .refGateComplete _ err => decide (-(2 ^ 31) ≤ err) && decide (err < 2 ^ 31)
  | .refEdgeTimeout => true
  | .lockAchieved => true
  | .operatingSecond => true
  | .converterSample ch codes => decide (ch < 4) && decide (codes.length = 16) && codes.all (fun c => decide (-2048 ≤ c) && decide (c ≤ 2047))
  | .sliceClamp ch slice => decide (ch < 4) && decide (slice < 16)
  | .deepTrip ch => decide (ch < 4)
  | .overloadWindowEnd ch => decide (ch < 4)
  | .neighbourAdjEnd ch => decide (ch < 4)
  | .adjWindowEnd ch => decide (ch < 4)
  | .relaySenseReached ch relay => decide (ch < 4) && decide (relay < 2)
  | .relayRetry ch relay => decide (ch < 4) && decide (relay < 2)
  | .relayFault ch relay sensed => decide (ch < 4) && decide (relay < 2) && decide (sensed < 4)
  | .sleeveBlockWrite sleeve _ _ => decide (sleeve < 2048)
  | .writerResume sleeve => decide (sleeve < 2048)
  | .openTransaction _ => true
  | .openReadData _ => true
  | .tagGrant requester => decide (requester < 6)
  | .bar2Read x len => decide (x < 2 ^ 36) && decide (1 ≤ len) && decide (len ≤ 4096)
  | .bar2Write x _ => decide (x < 2 ^ 36)
  | .streamReadLand e stream => engineOk e && decide (stream < 1024)
  | .streamWriteTake e stream => engineOk e && decide (stream < 1024)
  | .resultLands e => engineOk e
  | .xchDelivery e => engineOk e
  | .loopExit e => engineOk e
  | .stopBundle e => engineOk e
  | .seamMark e => engineOk e
  | .illegalEncoding e => engineOk e
  | .br e g target => slotOk e g && decide (target < 16384)
  | .brx e g xs => slotOk e g && decide (xs < 16)
  | .loop e g f => slotOk e g && LoopForm.ok f
  | .bxclr e g => slotOk e g
  | .bsc e g _ xs imm => slotOk e g && decide (xs < 16) && decide (imm < 65536)
  | .clrf e g => slotOk e g
  | .rofset e g imm => slotOk e g && decide (imm < 65536)
  | .ldv e g f => slotOk e g && LsForm.ok f
  | .ldc e g f => slotOk e g && LsForm.ok f
  | .ldp12 e g f => slotOk e g && LsForm.ok f
  | .ldu16 e g f => slotOk e g && LsForm.ok f
  | .ldx e g f => slotOk e g && LsForm.ok f
  | .stv e g f => slotOk e g && LsForm.ok f
  | .sth e g f => slotOk e g && LsForm.ok f
  | .stq e g f => slotOk e g && LsForm.ok f
  | .stx e g f => slotOk e g && LsForm.ok f
  | .cmul e g f => slotOk e g && MacForm.ok f
  | .cmla e g f => slotOk e g && MacForm.ok f
  | .cmac e g f => slotOk e g && MacForm.ok f
  | .acrd e g f => slotOk e g && MacForm.ok f
  | .acrc e g f => slotOk e g && MacForm.ok f
  | .fcvtp e g f => slotOk e g && MacForm.ok f
  | .fcvtl e g f => slotOk e g && MacForm.ok f
  | .cadd e g f => slotOk e g && AluForm.ok f
  | .csub e g f => slotOk e g && AluForm.ok f
  | .bfy e g f => slotOk e g && AluForm.ok f
  | .bfyj e g f => slotOk e g && AluForm.ok f
  | .vmov e g f => slotOk e g && AluForm.ok f
  | .conj e g f => slotOk e g && AluForm.ok f
  | .vshr e g f => slotOk e g && AluForm.ok f
  | .norm e g f => slotOk e g && AluForm.ok f
  | .exp e g f => slotOk e g && AluForm.ok f
  | .add e g f => slotOk e g && AluForm.ok f
  | .sub e g f => slotOk e g && AluForm.ok f
  | .and e g f => slotOk e g && AluForm.ok f
  | .or e g f => slotOk e g && AluForm.ok f
  | .xor e g f => slotOk e g && AluForm.ok f
  | .shl e g f => slotOk e g && AluForm.ok f
  | .shra e g f => slotOk e g && AluForm.ok f
  | .shrl e g f => slotOk e g && AluForm.ok f
  | .min e g f => slotOk e g && AluForm.ok f
  | .max e g f => slotOk e g && AluForm.ok f
  | .movi e g f => slotOk e g && AluForm.ok f
  | .movhi e g f => slotOk e g && AluForm.ok f
  | .bxget e g f => slotOk e g && AluForm.ok f
  | .movf e g f => slotOk e g && AluForm.ok f
  | .movxv e g f => slotOk e g && AluForm.ok f
  | .movvx e g f => slotOk e g && AluForm.ok f
  | .cmpeq e g f => slotOk e g && AluForm.ok f
  | .cmplt e g f => slotOk e g && AluForm.ok f
  | .cmpltu e g f => slotOk e g && AluForm.ok f
  | .pand e g f => slotOk e g && AluForm.ok f
  | .por e g f => slotOk e g && AluForm.ok f
  | .pnot e g f => slotOk e g && AluForm.ok f
  | .send e g f => slotOk e g && XchForm.ok f
  | .sendx e g f => slotOk e g && XchForm.ok f
  | .frameStamp stream => decide (stream < 64)
  | .traceFrame d => decide (d < 32)
  | .traceIntervalClose d => decide (d < 32)
  | .densityFrame p => decide (p < 8)
  | .exposureClose p => decide (p < 8)
  | .copyPassStart p => decide (p < 8)
  | .copyPassEnd p => decide (p < 8)
  | .contextInputRow c => decide (c < 1024)
  | .contextInputLoss c _ => decide (c < 1024)
  | .settlingComplete c => decide (c < 1024)
  | .crossfadeEnd c => decide (c < 1024)
  | .detectorIntervalClose c => decide (c < 1024)
  | .iqRecordClose c => decide (c < 1024)
  | .contextRecordWrite c => decide (c < 1024)
  | .fallbackToleranceExpiry c => decide (c < 1024)
  | .fallbackExit c => decide (c < 1024)
  | .maskFrame c => decide (c < 256)
  | .occurrenceArrival g _ => decide (g < 16)
  | .occurrenceExpiry g => decide (g < 16)
  | .hemEnd g => decide (g < 16)
  | .holdoffEnd g => decide (g < 16)
  | .trgArm _ => true
  | .trgDisarm _ => true
  | .trgForce _ => true
  | .capAbort _ => true
  | .eventEdge n _ code => decide (n < 8) && decide (code < 512)
  | .tiuCal _ => true
  | .tiuCalDone n hits => decide (n < 8) && decide (hits.length = 512) && decide (hits.foldl (· + ·) 0 = 4194304)
  | .frequencyGateEnd n => decide (n < 8)
  | .thrSettleEnd n => decide (n < 8)
  | .outputPulseEnd o => decide (o < 6)
  | .tiuRecordWrite n => decide (n < 8)
  | .driveLinkUp d speed width _ => decide (d < 16) && decide (speed < 4) && decide (width ≤ 4)
  | .driveLinkTimeout d => decide (d < 16)
  | .driveReady d => decide (d < 16)
  | .driveReadyTimeout d => decide (d < 16)
  | .identifyDone d _ => decide (d < 16)
  | .labelRead labels entropy => labels.all (fun l => decide (l.1 < 16)) && decide (entropy < 2 ^ 128)
  | .driveDmaAccess d _ => decide (d < 16)
  | .stripeWrite sleeve => decide (sleeve < 2048)
  | .nvmeCompletion d _ _ => decide (d < 16)
  | .nvmeCommandTimeout d _ => decide (d < 16)
  | .driveLinkLost d => decide (d < 16)
  | .dmaQTailWrite q _ => decide (q < 8192)
  | .dmaQCheadWrite q _ => decide (q < 8192)
  | .dmaQCtrlWrite q _ => decide (q < 8192)
  | .dmaQAbort q => decide (q < 8192)
  | .dmaQFlush q => decide (q < 8192)
  | .descriptorFetch q _ => decide (q < 8192)
  | .tableFetch q _ => decide (q < 8192)
  | .burstDone q => decide (q < 8192)
  | .hostReadCompletion q _ => decide (q < 8192)
  | .destWaitEnd q => decide (q < 8192)
  | .streamFlushTimeout q => decide (q < 8192)
  | .noticeWrite q => decide (q < 8192)
  | .calMeasurementDone _ => true
  | .calComputeDone _ => true
  | .calTurnEnd => true
  | .trackerIntervalEnd ch _ _ _ => decide (ch < 4)
  | .logRecordWritten _ _ _ => true
  | .mramTimeout => true
  | .freezeTimeout => true
  | .fallbackProgram => true
  | .inputTrip => true
  | .pwrInUpdate power => decide (power < 65536)
  | .slackLow _ => true
  | .avsLower _ => true
  | .thermalShutdown => true
  | .monPassStart => true
  | .monEntryStart => true
  | .monStartTimeout => true
  | .monEntryEnd a b => decide (a.length ≤ 256) && decide (b.length ≤ 256) && a.all (fun v => decide (v < 65536)) && b.all (fun v => decide (v < 65536))
  | .monUrgentGo _ => true
  | .urgentConversionDone a b => decide (a < 65536) && decide (b < 65536)
  | .smbusSetOffset off => decide (off < 2 ^ 32) && decide (off % 4 = 0)
  | .smbusRead => true
  | .smbusState => true
  | .completionTimeout q => decide (q < 8192)
  | .flashNoAnswer => true
  | .volumeCloseTimeout => true
  | .railFaultRecordWaitExpiry => true
  | .dperstRelease p => decide (p < 8)
  | .tapInstruction code => decide (code < 256)

end Sys2Proof
end

