-- ==== Sys2Proof/Safety.lean ====
section
/-! DEFINITION. What a safe step is, and the facts that every step keeps. -/

namespace Sys2Proof

/-- A step answers a next state: it neither faults nor is refused. -/
def SafeStep (s : Machine.State) : Prop := ∃ t, Machine.step s = .next t

/-- Every command of the queue is well formed. -/
def SafeQueue (s : Machine.State) : Prop := ∀ c, c ∈ s.pending → wellFormed c = true

open Machine

/-- The state as a command finds it: what the command before it sent has left the module (log 9). -/
def fresh (s : State) : State := { s with outbox := [] }

/-- Programmed bits stay programmed: an enabled slot keeps its digest and stays enabled, a revoked one stays revoked
(R46, R49). -/
def Grown (o m : Sparse KeySlot) : Prop :=
  ∀ k, ((look {} o k).enabled = true →
      (look {} m k).enabled = true ∧ (look {} m k).digest = (look {} o k).digest) ∧
    ((look {} o k).revoked = true → (look {} m k).revoked = true)

/-- Every counter lies in its range: 32 bits for a saturating one, else 64 (R97). -/
def CountersOk (m : Sparse Counter) : Prop :=
  ∀ p ∈ m, p.2.value < if saturates p.1 then 2 ^ 32 else 2 ^ 64

/-- What every step keeps: the memory of the store and the key slots in canonical form, every counter in its range. -/
structure Sound (s : State) : Prop where
  mem : wf 0 s.store.mem = true
  slots : wf {} s.img.keys = true
  ctrs : CountersOk s.snap.ctrs

end Sys2Proof
end

