-- ==== Sys2Proof/Certificates/Slice0/Obligations.lean ====
section
/-! DEFINITION. The statements about the model, for the provers. `fresh s` is the state as a command finds it, `settle s u`
the state `u` with the status tree brought up to date after a command begun in `s`. -/

section

open Sys2Proof Sys2Proof.Machine

/-- A step with a command at the front of the queue is that command's effect on the state with the rest of the queue.
Rests on R84, 04 "Register interface and commands". Model's choices or readings in it: log 1. -/
def Obligations.StepRunsTheFrontCommand : Prop :=
  ∀ (c : Instr) (rest : List Instr) (s : State),
    step { s with pending := c :: rest } = exec c { s with pending := rest }

/-- On an empty queue one CK_ENG cycle passes: while no engine runs and no stop waits for notices, that is all (log
1). Rests on R13, R130, R86, R76, R169. Model's choices or readings in it: log 1. -/
def Obligations.IdleStepPassesOneCycle : Prop :=
  ∀ s : State, s.pending = [] → s.eng.running = false → (∀ q, s.life.stop = some q → q.step ≠ 4) →
    ∃ t, step s = .next t ∧ t.time.cycle = s.time.cycle + 1 ∧ t.time.counting = s.time.counting ∧
      t.time.count = (if s.time.counting then s.time.count + 16 else s.time.count) ∧
      t.pending = [] ∧ t.life = s.life ∧ t.pwr = s.pwr ∧ t.mbox = s.mbox ∧ t.live = s.live ∧ t.img = s.img ∧
      ((s.disk.vol.state = .none ∨ s.disk.vol.state = .bringup) → t.snap.ctrs = s.snap.ctrs ∧
        t.recorder = s.recorder ∧ t.disk = s.disk ∧ (s.store.imageTable = false → t.store = s.store))

/-- The state right after reset holds the values the spec gives for reset, and the recorder's first blocks as log 2
chooses. Rests on 04 SYS block, 02 IMG block, 04 STAT block, R445, 19 MON block, 06 CONV block, 17 CAL block,
R427, 13 CAP block, R338. Model's choices or readings in it: log 2. -/
def Obligations.ResetValues : Prop :=
  State.reset.life.sys = .powerUp ∧ State.reset.img.loading = true ∧ State.reset.img.running = 0 ∧
  State.reset.stat.vec0En = 0x1FFFFFF ∧ State.reset.stat.top = 0 ∧ (∀ n, State.reset.stat.group n = 0) ∧
  State.reset.key = none ∧ (∀ n off, counter State.reset n off = 0) ∧ State.reset.pwr.setpoint = 850 ∧
  State.reset.mon.timer = 160000 ∧ (∀ c, (chan State.reset c).range = 2) ∧ State.reset.cal.inUse = 2 ∧
  State.reset.cal.gen = 0 ∧ State.reset.recorder.ringOpen = (64, 0) ∧ State.reset.recorder.resOpen = some (0, 0) ∧
  State.reset.trig.next = 1 ∧ (∀ n, (look {} State.reset.tiu.inputs n).threshold = 500) ∧
  (∀ n, (look {} State.reset.tiu.inputs n).gate = 0) ∧ State.reset.link.up = false ∧ State.reset.link.speed = 0 ∧
  State.reset.pending = []

/-- The state right after reset meets the invariant that every step keeps. Rests on R156, R46, R97. -/
def Obligations.SoundAtReset : Prop :=
  Sound State.reset

/-- Every step keeps the store and key slots canonical, every counter in its range, programmed key bits programmed,
and never turns time back. Rests on R46, R49, R97, R98, R156, R130. -/
def Obligations.EveryStepKeepsSound : Prop :=
  ∀ s t : State, Sound s → step s = .next t →
    Sound t ∧ Grown s.img.keys t.img.keys ∧ s.time.cycle ≤ t.time.cycle

/-- No command faults or is refused, and none touches the queue of waiting commands. Rests on R84, R92, R130. -/
def Obligations.EveryCommandAnswersAndLeavesTheQueue : Prop :=
  ∀ (c : Instr) (s : State), ∃ t, exec c s = .next t ∧
    (Sound s → t.pending = s.pending ∧ s.time.cycle ≤ t.time.cycle)

/-- A command latches exactly the leaf registers that rose, and a summary bit where a group bit was clear (registers:
log 140). Rests on R92, R93. Model's choices or readings in it: log 140. -/
def Obligations.RisesLatch : Prop :=
  ∀ s u : State,
    (∀ n k, k < 32 → (tbit ((settle s u).stat.group n).toNat k = true ↔
      tbit (u.stat.group n).toNat k = true ∨ ((n, k) ∈ leafRegs ∧ leaf u n k &&& ~~~ leaf s n k ≠ 0))) ∧
    (∀ n, n < 25 → (tbit (settle s u).stat.top.toNat n = true ↔ tbit u.stat.top.toNat n = true ∨
      ∃ k, (n, k) ∈ leafRegs ∧ leaf u n k &&& ~~~ leaf s n k ≠ 0 ∧ tbit (u.stat.group n).toNat k = false)) ∧
    (settle s u).stat.vec0En = u.stat.vec0En ∧ (settle s u).stat.pulses = u.stat.pulses

/-- Bringing the status tree up to date changes nothing but the tree, vector 0's pending bit and what leaves the
module. Rests on R92, R94. -/
def Obligations.SettleTouchesOnlyTheTree : Prop :=
  ∀ s u : State, ∃ tree link out, settle s u = { u with stat := tree, link := link, outbox := out } ∧
    (link = u.link ∨ link = { u.link with pending := put false 0 true u.link.pending }) ∧
    (out = u.outbox ∨ ∃ a d, out = u.outbox ++ [.msi 0 a d])

/-- Vector 0's message is due when STAT_SUMMARY AND STAT_VEC0_EN leaves zero: sent, or held, and sent later, while
masked. Rests on R94, R385. Model's choices or readings in it: log 5, log 80. -/
def Obligations.VectorZeroOnRise : Prop :=
  ∀ s u : State,
    ((s.stat.top &&& s.stat.vec0En) = 0 → ((settle s u).stat.top &&& (settle s u).stat.vec0En) ≠ 0 →
      (((look {} u.link.msix 0).masked = true ∨ tbit (msixControl u.link) 14 = true ∨ tbit (msixControl u.link) 15 = false ∨
          u.link.up = false ∨ u.link.d3hot = true) →
        (settle s u).outbox = u.outbox ∧ (settle s u).link = { u.link with pending := put false 0 true u.link.pending }) ∧
      ((look {} u.link.msix 0).masked = false → tbit (msixControl u.link) 14 = false → tbit (msixControl u.link) 15 = true →
        u.link.up = true → u.link.d3hot = false →
        (settle s u).outbox = u.outbox ++ [.msi 0 (look {} u.link.msix 0).addr (look {} u.link.msix 0).data] ∧
        (settle s u).link = u.link)) ∧
    (((s.stat.top &&& s.stat.vec0En) ≠ 0 ∨ ((settle s u).stat.top &&& (settle s u).stat.vec0En) = 0) →
      (settle s u).outbox = u.outbox ∧ (settle s u).link = u.link) ∧
    (∀ (w : Word) (speed width : Nat) (flit : Bool), wf false s.link.pending = true → wf {} s.link.msix = true →
      look false s.link.pending 0 = true → tbit (msixControl s.link) 15 = true → tbit (msixControl s.link) 14 = false →
      s.link.d3hot = false →
      let leaves := fun t : State => look false t.link.pending 0 = false ∧
        .msi 0 (look {} s.link.msix 0).addr (look {} s.link.msix 0).data ∈ t.outbox
      (s.link.up = true → tbit w.toNat 0 = false →
        ∃ t, exec (.bar0Write 0x0E800C [(w, 15)] false) s = .next t ∧ leaves t) ∧
      ((look {} s.link.msix 0).masked = false → linkPowered s = true → s.link.perst = true →
        ∃ t, exec (.hostLinkReady speed width flit) s = .next t ∧ leaves t))

/-- A supply that becomes valid starts sequencing once both are valid and STBY is low. Rests on R51, R53, R54, R470. -/
def Obligations.SupplyBecomesValid : Prop :=
  ∀ (s : State) (vaux testEn : Bool) (straps : Nat),
    let before := if vaux then s.pwr.vaux else s.pwr.vin48
    let other := if vaux then s.pwr.vin48 else s.pwr.vaux
    let p := if vaux then { s.pwr with vaux := true } else { s.pwr with vin48 := true }
    (before = true → exec (.supplyValid vaux straps testEn) s = .next (settle s (fresh s))) ∧
    (before = false → other = false →
      exec (.supplyValid vaux straps testEn) s =
        .next (settle s { fresh s with pwr := p, life := { s.life with sys := .off } })) ∧
    (before = false → other = true → s.pwr.stby = true →
      exec (.supplyValid vaux straps testEn) s =
        .next (settle s { fresh s with pwr := p, life := { s.life with sys := .standby } })) ∧
    (before = false → other = true → s.pwr.stby = false →
      exec (.supplyValid vaux straps testEn) s =
        .next (settle s { fresh s with
          pwr := { p with on := true, cls := some (s.pwr.cls.getD (straps % 8))
                          testEn := if s.pwr.cls.isSome then s.pwr.testEn else testEn }
          life := { s.life with sys := .powerUp } }))

/-- A supply that becomes invalid turns every rail off; class and TEST_EN are sampled anew, and VAUX3V3 alone keeps
the cause latch. Rests on R51, R54, R56, R81, R470, R477. -/
def Obligations.SupplyBecomesInvalid : Prop :=
  ∀ (s : State) (vaux : Bool),
    let before := if vaux then s.pwr.vaux else s.pwr.vin48
    (before = false → exec (.supplyInvalid vaux) s = .next (settle s (fresh s))) ∧
    (before = true → ∃ t, exec (.supplyInvalid vaux) s = .next t ∧
      t.life = { sys := .off } ∧ t.pwr.on = false ∧ t.pwr.groups = 0 ∧ t.pwr.osc = false ∧ t.pwr.cls = none ∧
      t.pwr.testEn = false ∧ t.pwr.stby = s.pwr.stby ∧
      t.pwr.vaux = (s.pwr.vaux && !vaux) ∧ t.pwr.vin48 = (s.pwr.vin48 && vaux) ∧
      t.pwr.cause = (if vaux then .none else s.pwr.cause) ∧
      t.store = {} ∧ t.eng = {} ∧ t.sleeves = [] ∧ t.rings = [] ∧ t.mbox = {} ∧ t.live = {} ∧ t.snap = {} ∧
      t.image = none ∧ t.accepted = none ∧ t.time.counting = false ∧ t.link.up = false)

/-- STBY high keeps the rails off, STBY low starts sequencing, and a standby entry's rails go off once its work is
done (log 136). Rests on R53, R54, R79, R80. Model's choices or readings in it: log 136. -/
def Obligations.StandbyPin : Prop :=
  ∀ (s : State) (straps : Nat) (testEn : Bool),
    (s.pwr.stby = true → exec .stbyHigh s = .next (settle s (fresh s))) ∧
    (s.pwr.stby = false → s.pwr.on = false →
      exec .stbyHigh s = .next (settle s { fresh s with
        pwr := { s.pwr with stby := true }
        life := if s.pwr.vin48 && s.pwr.vaux then { s.life with sys := .standby } else s.life })) ∧
    (s.pwr.stby = false → exec (.stbyLow straps testEn) s = .next (settle s (fresh s))) ∧
    (s.pwr.stby = true → (s.pwr.on = true ∨ s.pwr.vin48 = false ∨ s.pwr.vaux = false) →
      exec (.stbyLow straps testEn) s = .next (settle s { fresh s with pwr := { s.pwr with stby := false } })) ∧
    (s.pwr.stby = true → s.pwr.on = false → s.pwr.vin48 = true → s.pwr.vaux = true →
      exec (.stbyLow straps testEn) s = .next (settle s { fresh s with
        pwr := { s.pwr with stby := false, on := true, cls := some (s.pwr.cls.getD (straps % 8))
                            testEn := if s.pwr.cls.isSome then s.pwr.testEn else testEn }
        life := { s.life with sys := .powerUp } })) ∧
    (standbyReady s = true → s.pwr.stby = true → ∃ t, exec .standbyRailsOff s = .next t ∧
      t.life = { sys := .standby } ∧ t.pwr.on = false ∧ t.pwr.groups = 0 ∧ t.pwr.stby = true ∧ t.store = {} ∧
      t.pwr.cls = s.pwr.cls ∧ t.pwr.cause = s.pwr.cause) ∧
    (standbyReady s = true → s.pwr.stby = false → ∃ t, exec .standbyRailsOff s = .next t ∧
      t.life = { sys := .powerUp } ∧ t.pwr.on = true ∧ t.pwr.groups = 0 ∧ t.pwr.osc = false ∧ t.pwr.stby = false ∧
      t.store = {} ∧ t.eng = {} ∧ t.pwr.cls = some (s.pwr.cls.getD 0) ∧ t.pwr.cause = s.pwr.cause) ∧
    (standbyReady s = false → exec .standbyRailsOff s = .next (settle s (fresh s)))

/-- STBY high with the rails on begins standby entry: after steps 1 to 4 of a stop where a function runs or restarts,
else at once. Rests on R79, R80, R75, R104. -/
def Obligations.StandbyStopsTheFunction : Prop :=
  ∀ s : State, s.pwr.stby = false → s.pwr.on = true →
    let stby := fun u : State => { u with pwr := { s.pwr with stby := true } }
    (s.pwr.staged = false → s.life.sys = .running →
      ∃ t, exec .stbyHigh s = .next t ∧ t.life.sys = .standbyEntry ∧
        t.life.stop = some { kind := .standby, step := 1, thenStandby := false } ∧ t.pwr = { s.pwr with stby := true } ∧
        t.live.commit = none ∧ t.live.state = 0 ∧ t.live.firstBad = 0 ∧ t.live.target = 0 ∧ t.live.seam = 0) ∧
    (∀ q, s.pwr.staged = false → s.life.sys = .restarting → s.life.stop = some q → q.step ≤ 4 →
      exec .stbyHigh s = .next (settle s (stby { fresh s with
        life := { s.life with stop := some { q with thenStandby := true } } }))) ∧
    (s.pwr.staged = false → (s.life.sys = .powerUp ∨ s.life.sys = .loading ∨ s.life.sys = .safe ∨ s.life.sys = .stopped ∨
        (s.life.sys = .restarting ∧ ∀ q, s.life.stop = some q → 4 < q.step)) →
      ∃ t, exec .stbyHigh s = .next t ∧ t.pwr = { s.pwr with stby := true } ∧
        t.life = { s.life with sys := .standbyEntry, stop := none, awaitRoot := false } ∧ t.img.loading = false ∧
        t.loader.slot = 0 ∧ t.loader.copy = [] ∧ t.accepted = none ∧ t.image = s.image ∧ t.store = s.store ∧
        t.mbox = s.mbox ∧ t.recorder.freeze = none ∧ t.recorder.queue = s.recorder.queue) ∧
    ((s.pwr.staged = true ∨ s.life.sys = .standbyEntry) → exec .stbyHigh s = .next (settle s (stby (fresh s))))

/-- A rail group counts as up only after the one before it; group 3 turns the analysis rails on and starts the TIU
calibration. Rests on R55, R345, R470. -/
def Obligations.RailGroupsRiseInOrder : Prop :=
  ∀ (s : State) (g : Nat),
    (s.pwr.on = true → s.pwr.staged = false → g = s.pwr.groups + 1 → g < 3 →
      exec (.railGroupInRegulation g) s = .next (settle s { fresh s with pwr := { s.pwr with groups := g } })) ∧
    (s.pwr.on = true → s.pwr.staged = false → s.pwr.groups = 2 → s.pwr.testEn = true →
      exec (.railGroupInRegulation 3) s =
        .next (settle s { fresh s with pwr := { s.pwr with groups := 3, analysis := true } })) ∧
    (s.pwr.on = true → s.pwr.staged = false → s.pwr.groups = 2 → s.pwr.testEn = false →
      exec (.railGroupInRegulation 3) s =
        .next (settle s (startCal 0xFF { fresh s with pwr := { s.pwr with groups := 3, analysis := true } }))) ∧
    ((s.pwr.on = false ∨ s.pwr.staged = true ∨ g ≠ s.pwr.groups + 1 ∨ 3 < g) →
      exec (.railGroupInRegulation g) s = .next (settle s (fresh s)))

/-- The oven oscillator starts the control core, the reference clocks and the flash; the root's lock starts the sample
count at zero. Rests on R57, R130, R471, R474, R425. -/
def Obligations.OscillatorAndRootStart : Prop :=
  ∀ (s : State) (mramOk : Bool) (found : MramFound),
    (s.pwr.on = true → s.pwr.osc = false → 2 ≤ s.pwr.groups →
      ∃ t, exec (.ovenOscillatorRuns mramOk found) s = .next t ∧ t.pwr.osc = true ∧ t.pkg.drefclk = 0xFFFF ∧
        t.pkg.xspiReset = true ∧ t.time = s.time ∧ t.life = s.life ∧ t.store = s.store) ∧
    (s.pwr.osc = true → s.time.counting = false →
      ∃ t, exec .rootSynthLock s = .next t ∧ t.time = { s.time with count := 0, counting := true } ∧
        t.pwr = { s.pwr with root := true, hkFromRoot := true } ∧
        t.life.sys = (if s.life.sys = .powerUp ∧ s.pwr.on = true ∧ s.life.zeroed = true ∧ s.loader.pointerRead = true ∧
          s.loader.boardDone = true ∧ s.pwr.testEn = false ∧ s.pwr.staged = false then .loading else s.life.sys))

/-- Trained stacks start the built-in table; a failed training turns the rails off in stages; zeroing clears the
store. Rests on R57, R163, R185, R477, R75, R78, R474. Model's choices or readings in it: log 56, log 71. -/
def Obligations.StoreTrainsAndIsZeroed : Prop :=
  ∀ (s : State) (ok0 ok1 : Bool),
    (s.pwr.on = true → s.pwr.staged = false → s.pwr.testEn = false → s.store.table = false → s.pwr.groups = 3 →
      (ok0 = true → ok1 = true → exec (.storeTrainingDone ok0 ok1) s = .next (settle s { fresh s with
        store := { s.store with trained0 := true, trained1 := true, table := true }
        pwr := { s.pwr with cause := .none, causeGroup := 0, causeInput := 0, causeRecorded := false } })) ∧
      ((ok0 && ok1) = false → ∃ t, exec (.storeTrainingDone ok0 ok1) s = .next t ∧ t.pwr.staged = true ∧
        t.pwr.cause = .storeTrain ∧ t.pwr.causeGroup = 3 ∧ t.pwr.causeInput = 7 ∧ t.pwr.groups = 2 ∧ t.store = {})) ∧
    (s.life.stop = none → s.store.table = true → s.life.zeroed = false → s.life.sys = .powerUp →
      ∃ t, exec .storeZeroed s = .next t ∧ t.life.zeroed = true ∧ t.store = { s.store with mem := [] } ∧ t.sleeves = []) ∧
    (∀ q, s.life.stop = some q → q.step = 5 → q.kind = .controlled →
      exec .storeZeroed s = .next (settle s { fresh s with
        store := { s.store with mem := [] }, sleeves := [], life := { s.life with stop := none } })) ∧
    (∀ q, s.life.stop = some q → q.step = 5 → (q.kind = .restart ∨ q.kind = .rootUnlock) → s.mbox.running = none →
      ∃ t, exec .storeZeroed s = .next t ∧ t.store = { s.store with mem := [] } ∧ t.sleeves = [] ∧
        t.snap.ctrs = s.snap.ctrs.filter (fun p => continues p.1) ∧ t.pkg.xspiReset = true ∧
        (∃ u, t = settle s u ∧ u.stat =
          { s.stat with summary := 0, summaryFresh := 0, grp := [], grpFresh := [], pulses := [] }) ∧
        (recordWaits s = true → t.life = { s.life with stop := some { q with step := 6 } } ∧ t.loader = s.loader) ∧
        (recordWaits s = false → s.life.rootGone = false →
          t.life = { s.life with sys := .loading, stop := none } ∧ t.loader.slot = 1 ∧ t.loader.copy = [] ∧
          t.img.loading = true))

/-- A rail fault, an input trip and a thermal shutdown latch their cause and turn the rails off, at once or staged
(log 53, 63). Rests on R56, R82, R437, R439, R442, R453, R477. Model's choices or readings in it: log 53, log 63. -/
def Obligations.PowerFaults : Prop :=
  ∀ (s : State) (g inp : Nat),
    let off := fun t : State => t.life = { sys := if s.pwr.stby then .standby else .faultOff } ∧ t.pwr.on = false ∧
      t.pwr.groups = 0 ∧ t.pwr.analysis = false ∧ t.pwr.osc = false ∧ t.pwr.staged = false ∧ t.store = {} ∧ t.eng = {}
    (s.pwr.on = true →
      (∃ t, exec .inputTrip s = .next t ∧ off t ∧ t.pwr.cause = .inputTrip ∧ t.pwr.causeGroup = 0 ∧
        t.pwr.causeInput = 0) ∧
      (∃ t, exec .thermalShutdown s = .next t ∧ off t ∧ t.pwr.cause = .thermalShutdown) ∧
      (railGroup inp = some g → (s.pwr.groups < 2 ∨ g = 2 ∨ g = 4) → ¬ (s.pwr.staged = true ∧ g = 3) →
        ∃ t, exec (.railFault g inp) s = .next t ∧ off t ∧ t.pwr.cause = .railFault ∧ t.pwr.causeGroup = g ∧
          t.pwr.causeInput = inp) ∧
      (railGroup inp ≠ some g → exec (.railFault g inp) s = .next (settle s (fresh s))) ∧
      (railGroup inp = some g → 2 ≤ s.pwr.groups → g ≠ 2 → g ≠ 4 → ¬ (s.pwr.staged = true ∧ g = 3) →
        ∃ t, exec (.railFault g inp) s = .next t ∧
          t.life = { s.life with sys := if s.pwr.stby then .standby else .faultOff, stop := none, awaitRoot := false } ∧
          t.pwr = { s.pwr with
            staged := true, groups := 2, analysis := false, cause := .railFault, causeGroup := g, causeInput := inp
            causeRecorded := true } ∧
          t.store = {} ∧ t.eng.running = false ∧
          (s.recorder.queue.length < 256 → s.recorder.freeze = none →
            ∃ r : Rec, t.recorder.queue = s.recorder.queue ++ [r] ∧ r.code = 0x4006 ∧ r.params = [g, inp, 0, 0])) ∧
      (s.pwr.staged = true → exec (.railFault 3 inp) s = .next (settle s (fresh s)))) ∧
    (s.pwr.on = false → exec .inputTrip s = .next (settle s (fresh s)) ∧
      exec .thermalShutdown s = .next (settle s (fresh s)) ∧
      exec (.railFault g inp) s = .next (settle s (fresh s))) ∧
    (s.pwr.staged = true → ∃ t, exec .railFaultRecordWaitExpiry s = .next t ∧ off t ∧ t.pwr.cause = s.pwr.cause ∧
      t.pwr.causeGroup = s.pwr.causeGroup ∧ t.pwr.causeInput = s.pwr.causeInput) ∧
    (s.pwr.staged = false → exec .railFaultRecordWaitExpiry s = .next (settle s (fresh s)))

/-- The first valid copy of the boot pointer gives the areas, else the default does; the board record is held once, at
most 4 KiB (log 54). Rests on R58, R63, R64, R65. Model's choices or readings in it: log 54. -/
def Obligations.BootPointerAndBoardRecordRead : Prop :=
  ∀ (s : State) (flash : FlashInfo) (c0 c1 data : Option (List Byte)),
    let valid := fun c : Option (List Byte) => match c with
      | some bs => pointerValid flash.density bs
      | none => false
    (pointerDue s = true → ∃ t, exec (.bootPointerRead flash c0 c1) s = .next t ∧
      t.loader.pointerRead = true ∧ t.loader.flash = flash ∧
      t.loader.pointer = (if valid c0 then 0 else if valid c1 then 1 else 2) ∧
      t.loader.areas = (if valid c0 then parseAreas (c0.getD []) else if valid c1 then parseAreas (c1.getD [])
        else defaultAreas) ∧
      t.img.codeA = s.img.codeA ∧ t.img.codeB = (if t.life.sys = .powerUp then s.img.codeB else 0) ∧
      t.loader.board = s.loader.board ∧ t.store = s.store ∧ t.pwr = s.pwr ∧ t.mbox = s.mbox) ∧
    (pointerDue s = false → exec (.bootPointerRead flash c0 c1) s = .next (settle s (fresh s))) ∧
    (s.life.sys = .powerUp → s.loader.pointerRead = true → s.loader.boardDone = false →
      ∃ t, exec (.boardRecordRead data) s = .next t ∧ t.loader.boardDone = true ∧
        t.loader.board = data.map (fun bs => bs.take (min s.loader.areas.boardLen 4096)) ∧
        t.img.codeA = s.img.codeA ∧ t.img.codeB = (if t.life.sys = .powerUp then s.img.codeB else 0) ∧
        t.loader.areas = s.loader.areas ∧ t.store = s.store ∧ t.pwr = s.pwr ∧ t.mbox = s.mbox) ∧
    ((s.life.sys ≠ .powerUp ∨ s.loader.pointerRead = false ∨ s.loader.boardDone = true) →
      exec (.boardRecordRead data) s = .next (settle s (fresh s)))

/-- A header or body that passes every check moves the load on; a failure shows its code and tries slot B, then the
safe state. Rests on R44, R50, R67, R70, R452. -/
def Obligations.ImageSlotsAreChecked : Prop :=
  ∀ (s : State) (h body : List Byte) (fw : Bool), slotLoading s = true →
    let slotCode := fun (t : State) => if s.loader.slot = 1 then t.img.codeA else t.img.codeB
    let failed := fun (t : State) (code : Nat) => slotCode t = code ∧ t.accepted = none ∧
      (s.loader.slot = 1 → t.life = s.life ∧ t.loader.slot = 2 ∧ t.loader.copy = []) ∧
      (s.loader.slot ≠ 1 → s.life.stopAtStart = .none →
        t.life.sys = .safe ∧ t.img.safe = true ∧ t.img.loading = false ∧ t.pwr.analysis = false ∧ t.loader.slot = 0)
    (s.loader.slot = 1 ∨ s.loader.slot = 2) →
    (s.loader.copy = [] → ∃ t, exec (.imageHeaderRead (some h)) s = .next t ∧
      (headerCode h = 0 → t = settle s { fresh s with loader := { s.loader with copy := h.take 4096 } }) ∧
      (headerCode h ≠ 0 → failed t (headerCode h))) ∧
    (s.loader.copy = [] → ∃ t, exec (.imageHeaderRead none) s = .next t ∧ failed t 2) ∧
    (s.life.sys = .loading → ∃ t, exec .flashNoAnswer s = .next t ∧ failed t 2) ∧
    (s.loader.copy ≠ [] →
      let whole := (s.loader.copy ++ body).take (le s.loader.copy 0xC 4)
      ∃ t, exec (.imageBodyRead (some body) fw) s = .next t ∧
        (signatureCode s whole = 0 → sectionCode s whole (parseImage whole) fw = 0 →
          t.accepted = some (parseImage whole) ∧
          slotCode t = 0 ∧ t.img.safe = false ∧ t.life = s.life ∧ t.loader = s.loader ∧ t.store = s.store) ∧
        (signatureCode s whole = 0 → sectionCode s whole (parseImage whole) fw ≠ 0 →
          failed t (sectionCode s whole (parseImage whole) fw)) ∧
        (signatureCode s whole ≠ 0 → failed t (signatureCode s whole)))

/-- An accepted image starts on a multiple of 1,024 samples with every live value at its INITIAL; the drive resets
that are due are released together. Rests on R36, R43, R57, R100, R193, R318, R387, R452, R471. -/
def Obligations.FunctionStarts : Prop :=
  ∀ (s : State) (info : StartInfo) (p : Nat),
    (∀ m, s.accepted = some m → s.life.sys = .loading → s.pwr.root = true → s.life.stopAtStart = .none →
      ∃ t, exec (.functionStart info) s = .next t ∧
        t.life = { s.life with sys := .running, stop := none, stopReason := .none, stopAtStart := .none, awaitRoot := false } ∧
        t.image = some m ∧ t.accepted = none ∧ t.img.running = s.loader.slot ∧ t.img.loading = false ∧
        t.img.safe = false ∧ t.img.digest = m.digest ∧ t.img.fwDigest = m.fwDigest ∧ t.img.version = m.version ∧
        (∀ n r, m.live[n]? = some r →
          look 0 t.live.shadow n = w32 r.initial ∧ look 0 t.live.active n = w32 r.initial) ∧ t.live.commit = none ∧
        t.eng = startEngines m t.eng.t0 s.eng.esel ∧ (s.time.counting = true → t.eng.t0 % 1024 = 0) ∧
        t.rings = [] ∧ t.store.imageTable = true ∧ t.store.queues = [] ∧ t.store.flights = [] ∧
        t.store.mem = s.store.mem ∧ t.trig.next = 1 ∧ t.loader.slot = 0 ∧ t.pkg.drefclk = usedPositions m) ∧
    (∀ m, s.accepted = some m → s.life.sys = .loading → s.pwr.root = true → s.life.stopAtStart ≠ .none →
      ∃ t, exec (.functionStart info) s = .next t ∧ t.life.sys = .stopped ∧ t.life.stopReason = s.life.stopAtStart ∧
        t.accepted = none ∧ t.image = s.image ∧ t.eng = s.eng ∧ t.store = s.store) ∧
    ((s.accepted = none ∨ s.life.sys ≠ .loading ∨ s.pwr.root = false) →
      exec (.functionStart info) s = .next (settle s (fresh s))) ∧
    (tbit s.pkg.dperstDue p = true → exec (.dperstRelease p) s = .next (settle s { fresh s with
      pkg := { s.pkg with dperst := s.pkg.dperst ||| s.pkg.dperstDue, dperstDue := 0 } })) ∧
    (tbit s.pkg.dperstDue p = false → exec (.dperstRelease p) s = .next (settle s (fresh s)))

/-- The link trains only with PERST_N released and the module powered, and answers a request outside its BARs with
Unsupported Request (log 5, 80). Rests on R59, R381, R384, R469. Model's choices or readings in it: log 5, log 80. -/
def Obligations.HostLinkComesUp : Prop :=
  ∀ (s : State) (speed width addr : Nat) (flit : Bool),
    exec .perstRelease s = .next (settle s { fresh s with link := { s.link with perst := true } }) ∧
    (s.pwr.on = true → s.pwr.testEn = false → 1 ≤ s.pwr.groups → s.link.perst = true →
      exec (.hostLinkReady speed width flit) s = .next (settle s (releasePending { fresh s with
        link := { s.link with speed := speed, width := width, flit := flit, up := true, ready := true } }))) ∧
    ((s.pwr.on = false ∨ s.pwr.testEn = true ∨ s.pwr.groups = 0 ∨ s.link.perst = false) →
      exec (.hostLinkReady speed width flit) s = .next (settle s (fresh s))) ∧
    (s.link.ready = true → exec (.unsupportedRequest addr) s =
      .next (settle s (reportError 20 { s with outbox := [.unsupported] }))) ∧
    (s.link.ready = false → exec (.unsupportedRequest addr) s = .next (settle s (fresh s)))

/-- Every host-link event disables the rings at once and leaves the function, the store's bytes and the engines as
they were (log 81). Rests on R61, R383, R385, R382. Model's choices or readings in it: log 81. -/
def Obligations.HostLinkEventsSpareTheFunction : Prop :=
  ∀ s : State,
    let spared := fun t : State => t.rings = [] ∧ t.life = s.life ∧ t.image = s.image ∧ t.eng = s.eng ∧
      t.sleeves = s.sleeves ∧ t.store.mem = s.store.mem ∧ t.pwr = s.pwr ∧ t.live = s.live ∧ t.mbox = s.mbox
    (s.link.ready = true →
      (∃ t, exec .hotReset s = .next t ∧ spared t ∧ t.link.up = false ∧ t.link.bar0 = 0 ∧ t.link.bar2 = 0 ∧
        t.link.msix = []) ∧
      (∃ t, exec .functionLevelReset s = .next t ∧ spared t ∧ t.link.up = s.link.up ∧ t.link.speed = s.link.speed ∧
        t.link.bar0 = 0 ∧ t.link.bar2 = 0 ∧ t.link.msix = [] ∧ t.link.d3hot = false) ∧
      (s.link.d3hot = false → ∃ t, exec .d3hotEntry s = .next t ∧ spared t ∧ t.link.d3hot = true ∧
        t.link.up = s.link.up ∧ t.link.msix = s.link.msix)) ∧
    (s.link.up = true → ∃ t, exec .linkDown s = .next t ∧ spared t ∧ t.link.up = false ∧ t.link.ready = false ∧
      t.link.msix = s.link.msix) ∧
    (s.link.perst = true → linkPowered s = true → ∃ t, exec .perstAssert s = .next t ∧ spared t ∧
      t.link.perst = false ∧ t.link.up = false ∧ t.link.ready = false ∧ t.link.bar0 = 0 ∧ t.link.bar2 = 0 ∧
      t.link.msix = [])

/-- A configuration request is retried before readiness; the identity reads as the table gives it and BAR writes keep
their writable bits. Rests on R59, R380. -/
def Obligations.ConfigurationSpace : Prop :=
  ∀ (s : State) (d : Nat) (v : Word) (write : Option Word),
    (linkPowered s = true → s.link.perst = true → s.link.ready = false →
      exec (.configRequest write d) s = .next (settle s { s with outbox := [.cfgRetry] })) ∧
    ((linkPowered s = false ∨ s.link.perst = false) →
      exec (.configRequest write d) s = .next (settle s (fresh s))) ∧
    (linkPowered s = true → s.link.perst = true → s.link.ready = true →
      exec (.configRequest none 0) s = .next (settle s { s with outbox := [.word 0x49201FA4] }) ∧
      exec (.configRequest none 0xB) s = .next (settle s { s with outbox := [.word 0x49201FA4] }) ∧
      exec (.configRequest (some v) 0) s = .next (settle s { s with outbox := [.cfgDone] }) ∧
      exec (.configRequest (some v) 4) s = .next (settle s { s with
        link := { s.link with bar0 := v.toNat / 2 ^ 24 % 2 ^ 8 }, outbox := [.cfgDone] }) ∧
      exec (.configRequest none 4) s = .next (settle s { s with outbox := [.word (w32 (s.link.bar0 * 2 ^ 24))] }))

/-- A restart request acts only within a placket: allowed it begins the restart with OK, else DEVICE_BUSY (log 20, 60,
144). Rests on R74, R75, R88, R89, R99, R111, R452. Model's choices or readings in it: log 20, log 60, log 144. -/
def Obligations.RestartIsGuarded : Prop :=
  ∀ (s : State) (v : Word),
    let asked : State := pulse0 5 3 { fresh s with
      key := none, mbox := { s.mbox with restartSeq := (s.mbox.restartSeq + 1) % 65536, restartResp := b2n (!restartAllowed s) } }
    (placketOpen s = false → exec (.restartRequest v) s =
      .next (settle s (keyFail (blockBase 5 + 0x010) v { fresh s with key := none }))) ∧
    (placketOpen s = true → tbit v.toNat 0 = false →
      exec (.restartRequest v) s = .next (settle s { fresh s with key := none })) ∧
    (placketOpen s = true → tbit v.toNat 0 = true → restartAllowed s = false →
      exec (.restartRequest v) s = .next (settle s asked)) ∧
    (placketOpen s = true → tbit v.toNat 0 = true → restartAllowed s = true →
      ∃ t, exec (.restartRequest v) s = .next t ∧ t = settle s (startRestart .restart asked) ∧
        t.key = none ∧ t.mbox.restartSeq = (s.mbox.restartSeq + 1) % 65536 ∧ t.mbox.restartResp = 0 ∧
        t.life.sys = .restarting ∧ t.life.stopReason = .none ∧ t.life.stopAtStart = .none ∧
        t.snap.held = [] ∧ t.snap.time = 0 ∧ t.snap.seq = s.snap.seq + 1 ∧ t.live.commit = none ∧
        t.time = s.time ∧ t.store.mem = s.store.mem ∧
        (s.life.sys = .running → t.life.stop = some { kind := .restart, step := 1, thenStandby := false }) ∧
        (s.life.sys ≠ .running → s.life.stop = none →
          t.life.stop = some { kind := .restart, step := 5, thenStandby := false }) ∧
        (∀ q, s.life.sys ≠ .running → s.life.stop = some q → t.life.stop = some { q with kind := .restart }))

/-- A stop takes its steps in order: the units stop at a seam, drives drain, the volume and then the aperture close
(log 58, 67). Rests on R75, R76, R77, R80, R163, R451, R471, R474, R479. Model's choices or readings in it: log
58, log 67. -/
def Obligations.StopSequenceOfTheFunction : Prop :=
  ∀ s : State,
    (s.life.stop = none →
      exec .functionStopAtSeam s = .next (settle s (fresh s)) ∧ exec .nvmeDrainDone s = .next (settle s (fresh s)) ∧
      exec .nvmeDrainTimeout s = .next (settle s (fresh s)) ∧ exec .volumeCloseDone s = .next (settle s (fresh s)) ∧
      exec .volumeCloseTimeout s = .next (settle s (fresh s))) ∧
    (∀ q, s.life.stop = some q →
      (q.step = 1 → ∃ t, exec .functionStopAtSeam s = .next t ∧ t.life.stop = some { q with step := 2 } ∧
        t.life.sys = s.life.sys ∧ t.eng.running = false ∧ t.frames = [] ∧ t.ctxs = [] ∧ t.img.running = 0 ∧
        t.cal.run = none ∧ ((q.kind = .restart ∨ q.kind = .rootUnlock) → ¬ (q.thenStandby = true ∧ storesSomething s = true) →
          t.mbox.running = none) ∧
        t.store.mem = s.store.mem) ∧
      (q.step = 2 →
        (∃ t, exec .nvmeDrainDone s = .next t ∧ t.life.stop = some { q with step := 3 } ∧ t.life.sys = s.life.sys) ∧
        (∃ t, exec .nvmeDrainTimeout s = .next t ∧ t.life.stop = some { q with step := 3 } ∧
          t.life.sys = s.life.sys)) ∧
      (q.step = 3 → ∀ c, c = Instr.volumeCloseDone ∨ c = Instr.volumeCloseTimeout → ∃ u,
        exec c s = .next (settle s (finishClose u)) ∧ u.life = { s.life with stop := some { q with step := 4 } } ∧
        u.store.mem = s.store.mem) ∧
      (q.step = 4 → s.pending = [] → s.eng.running = false → ∃ t, step s = .next t ∧ t.life = (finishClose s).life ∧
        t.rings = (finishClose s).rings ∧ t.pkg = (finishClose s).pkg) ∧
      (q.step = 4 →
        (noticesDue (lastNotices s) = true → finishClose s = lastNotices s ∧ (lastNotices s).life = s.life) ∧
        (noticesDue (lastNotices s) = false → (q.kind = .standby ∨ q.thenStandby = true) →
          (finishClose s).life = { s.life with sys := .standbyEntry } ∧ (finishClose s).pkg.dperst = 0) ∧
        (noticesDue (lastNotices s) = false → q.kind ≠ .standby → q.thenStandby = false →
          let t := finishClose s
          t.life = { s.life with stop := some { q with step := 5 } } ∧ t.rings = [] ∧
          t.store.imageTable = false ∧ t.store.queues = [] ∧ t.store.flights = [] ∧ t.pkg.dperst = 0 ∧
          t.pkg.xspiReset = (s.pkg.xspiReset && q.kind == .controlled) ∧ (q.kind = .controlled → t.pwr.analysis = false))))

/-- A root unlock is counted and recorded and restarts a function or a load; the relock ends the wait, and its lack
leaves the safe state. Rests on R71, R75, R126, R452. Model's choices or readings in it: log 62. -/
def Obligations.RootLossAndRelock : Prop :=
  ∀ s : State,
    (s.pwr.root = false → exec .rootUnlock s = .next (settle s (fresh s))) ∧
    (s.pwr.root = true → ∃ t, exec .rootUnlock s = .next t ∧
      t.pwr = { s.pwr with root := false, hkFromRoot := false } ∧ t.time = s.time ∧
      t.snap.ctrs = (s.snap.bump (holdKey 6 0x10) 1).ctrs ∧
      (s.recorder.queue.length < 255 → s.recorder.freeze = none → ∃ r ∈ t.recorder.queue, r.code = 0x3014) ∧
      (s.life.sys = .running → t.life = { s.life with
        sys := .restarting, awaitRoot := true, stopReason := .none, stopAtStart := .none
        stop := some { kind := .rootUnlock, step := 1, thenStandby := false } }) ∧
      (s.life.sys = .loading → s.life.stop = none → t.accepted = none ∧ t.life = { s.life with
        sys := .restarting, awaitRoot := true, stopReason := .none, stopAtStart := .none
        stop := some { kind := .rootUnlock, step := 5, thenStandby := false } }) ∧
      ((s.life.sys = .restarting ∨ s.life.sys = .powerUp ∨ s.life.sys = .safe ∨ s.life.sys = .stopped) →
        t.life = { s.life with awaitRoot := true })) ∧
    ((s.pwr.root = true ∨ s.time.counting = false) → exec .rootRelock s = .next (settle s (fresh s))) ∧
    (s.pwr.root = false → s.time.counting = true → ∃ t, exec .rootRelock s = .next t ∧
      t.pwr = { s.pwr with root := true, hkFromRoot := true } ∧ t.time = s.time ∧ t.life.awaitRoot = false ∧
      t.life.rootGone = false ∧
      (s.life.sys ≠ .powerUp → t.life = { s.life with awaitRoot := false, rootGone := false })) ∧
    (s.life.awaitRoot = true → (s.life.sys = .loading ∨ (s.life.sys = .powerUp ∧ s.life.zeroed = true)) →
      s.life.stopAtStart = .none →
      ∃ t, exec .rootRelockTimeout s = .next t ∧
        t.life = { s.life with sys := .safe, rootGone := true } ∧ t.img.safe = true ∧
        t.img.loading = false ∧ t.accepted = none) ∧
    (s.life.awaitRoot = true → (s.life.sys = .restarting ∨ s.life.sys = .safe ∨ s.life.sys = .stopped ∨
        (s.life.sys = .powerUp ∧ s.life.zeroed = false)) →
      exec .rootRelockTimeout s = .next (settle s { fresh s with life := { s.life with rootGone := true } })) ∧
    (s.life.awaitRoot = false → exec .rootRelockTimeout s = .next (settle s (fresh s)))

/-- A read of STAT_SUMMARY or STAT_GRPn returns the value latched before this CK_FAB cycle, clears it, and keeps what
this cycle latched. Formalises R86. -/
def Obligations.ReadClearsAndKeepsNewAssertions : Prop :=
  ∀ (s : State) (n : Nat),
    exec .statSummaryRead s = .next { s with stat := { s.stat with summary := 0 }, outbox := [.word s.stat.summary] } ∧
    exec (.statGrpRead n) s =
      .next { s with stat := { s.stat with grp := put 0 n 0 s.stat.grp }, outbox := [.word (look 0 s.stat.grp n)] } ∧
    (fabBoundary s).stat.summary = s.stat.summary ||| s.stat.summaryFresh ∧ (fabBoundary s).stat.summaryFresh = 0 ∧
    (wf 0 s.stat.grp = true → wf 0 s.stat.grpFresh = true →
      look 0 (fabBoundary s).stat.grp n = look 0 s.stat.grp n ||| look 0 s.stat.grpFresh n) ∧
    (fabBoundary s).stat.grpFresh = []

/-- The key opens a placket or restarts its window; any other value closes it, pulses KEY_FAIL and is recorded (log
20, 144). Rests on R88, R89, R90. Model's choices or readings in it: log 20, log 144. -/
def Obligations.KeyUnlockAndPlacket : Prop :=
  ∀ (s : State) (v : Word),
    exec (.keyUnlockWrite 0x6B3D) s = .next (settle s { fresh s with key := some s.time.cycle }) ∧
    (v ≠ 0x6B3D → exec (.keyUnlockWrite v) s =
      .next (settle s (logEvent 0x200E 2 [0x20000, v.toNat] (bump 2 0 (pulse0 2 0 { fresh s with key := none }))))) ∧
    (∀ c, s.key = some c → (placketOpen s = true ↔ s.time.cycle - c < 8 * 160000)) ∧
    (s.key = none → placketOpen s = false) ∧
    (placketOpen s = false → exec .placketTimeout s = .next (settle s { fresh s with key := none })) ∧
    (placketOpen s = true → exec .placketTimeout s = .next (settle s (fresh s))) ∧
    (∀ (off : Nat) (f : State → State), placketOpen s = true → guarded off v f s = f { s with key := none }) ∧
    (∀ (off : Nat) (f : State → State), placketOpen s = false →
      guarded off v f s = keyFail off v { s with key := none })

/-- A BAR0 write acts DWORD by DWORD in ascending order, on the registers that can be written alone; others are
discarded by their rules (log 5, 139). Rests on R83, R84, R384, R92, R106, R158, R199, R321, R389, R456. Model's
choices or readings in it: log 5, log 139. -/
def Obligations.Bar0WriteRules : Prop :=
  ∀ (s : State) (off n o q k : Nat) (d : Word × Nat) (ds : List (Word × Nat)) (w : Word),
    let one := fun a : Nat => exec (.bar0Write a [(w, 15)] false) s
    let input := fun m : Mailbox => if s.mbox.running.isSome then bump 5 0x000 (pulse0 5 2 (fresh s)) else
      { fresh s with mbox := m }
    let based := fun r : Ring => if (ring s q).enable then fresh s else mRing q (fun _ => r) (fresh s)
    let writable : Bool := match n with
      | 1 => o == 4
      | 2 | 3 => o == 0
      | 4 => o == 0 || (decide (0x4000 ≤ o) && decide (o < 0x8000))
      | 5 => [0, 4, 8, 0x10].contains o || (decide (0x20 ≤ o) && decide (o < 0x40)) ||
          (decide (0x4000 ≤ o) && decide (o < 0x8000))
      | 8 | 9 | 10 | 11 | 12 | 13 | 17 | 22 => o == 0x100
      | 14 => [0, 4, 8, 0x100].contains o
      | 15 => [0, 0x100].contains o
      | 16 => [4, 0x100, 0x300].contains o
      | 18 => decide (0x8000 ≤ o) && decide (o < 0x10000)
      | 19 => decide (o < 0x80000) && [0, 4, 8, 0xC, 0x10, 0x14, 0x1C, 0x28].contains (o % 0x40)
      | 21 => [4, 8, 0x10].contains o || (decide (0x700 ≤ o) && decide (o < 0x800))
      | 23 => o == 0x28
      | 24 => o == 0x54
      | _ => false
    exec (.bar0Write off ds true) s = .next (settle s (reportError 12 (bump 18 0x010 (pulse0 18 2 (fresh s))))) ∧
    exec (.bar0Write off [] false) s = .next (settle s (fresh s)) ∧
    (∃ u, exec (.bar0Write off [d] false) s = .next (settle s u) ∧
      exec (.bar0Write off (d :: ds) false) s = .next (settle s (writeDwords (off + 4) ds u)) ∧
      (d.2 % 16 ≠ 15 → u = bump 0 0x010 (pulse0 0 1 (fresh s))) ∧
      (d.2 % 16 = 15 → blockAt off = none → u = fresh s)) ∧
    (n < 25 → o < blockSize n → writable = false → one (blockBase n + o) = .next (settle s (fresh s))) ∧
    one 0x010004 = .next (settle s { fresh s with stat := { s.stat with vec0En := w &&& 0x1FFFFFF } }) ∧
    one 0x080100 = .next (settle s { fresh s with store := { s.store with slsel := w.toNat % 2 ^ 11 } }) ∧
    one 0x090100 = .next (settle s { fresh s with eng := { s.eng with esel := w.toNat % 2 ^ 8 } }) ∧
    one 0x0A0100 = .next (settle s { fresh s with ssel := w.toNat % 2 ^ 6 }) ∧
    one 0x0B0100 = .next (settle s { fresh s with dselTrace := w.toNat % 2 ^ 5 }) ∧
    one 0x0C0100 = .next (settle s { fresh s with psel := w.toNat % 2 ^ 3 }) ∧
    one 0x300100 = .next (settle s { fresh s with ctxSel := w.toNat % 2 ^ 10 }) ∧
    one 0x200100 = .next (settle s { fresh s with trig := { s.trig with gsel := w.toNat % 2 ^ 4 } }) ∧
    one 0x240100 = .next (settle s { fresh s with trig := { s.trig with csel := w.toNat % 2 ^ 4 } }) ∧
    one 0x0D0100 = .next (settle s { fresh s with tiu := { s.tiu with isel := w.toNat % 2 ^ 3 } }) ∧
    one 0x0D0300 = .next (settle s { fresh s with tiu := { s.tiu with osel := w.toNat % 2 ^ 3 } }) ∧
    one 0x280100 = .next (settle s { fresh s with disk := { s.disk with dsel := w.toNat % 2 ^ 4 } }) ∧
    one 0x110100 = .next (settle s { fresh s with cal := { s.cal with tsel := w.toNat % 2 ^ 6 } }) ∧
    one 0x120028 = .next (settle s { fresh s with recorder := { s.recorder with win := w.toNat % 2 ^ 12 } }) ∧
    one 0x130054 = .next (settle s { fresh s with img := { s.img with ksSel := w.toNat % 2 ^ 2 } }) ∧
    one 0x100004 = .next (settle s { fresh s with mon := { s.mon with cfg := w &&& 0x3FFF7F } }) ∧
    one 0x100008 = .next (settle s { fresh s with mon := { s.mon with timer := w &&& 0xFFFFFF } }) ∧
    one 0x050000 = .next (settle s (input { s.mbox with opcode := w &&& 0xFFFF })) ∧
    (k < 8 → one (0x050020 + 4 * k) = .next (settle s (input { s.mbox with arg := put 0 k w s.mbox.arg }))) ∧
    (k < 0x1000 → one (0x054000 + 4 * k) =
      .next (settle s (input { s.mbox with data := putBytes (4 * k) (leBytes 4 w.toNat) s.mbox.data }))) ∧
    one 0x020000 = exec (.keyUnlockWrite w) s ∧ one 0x030000 = exec (.snapTake w) s ∧
    one 0x040000 = exec (.liveCommit w) s ∧ (k < 0x1000 → one (0x044000 + 4 * k) = exec (.liveShadowWrite k w) s) ∧
    one 0x050010 = exec (.restartRequest w) s ∧ one 0x200000 = exec (.trgArm w) s ∧
    one 0x200004 = exec (.trgDisarm w) s ∧ one 0x200008 = exec (.trgForce w) s ∧
    one 0x240000 = exec (.capAbort w) s ∧ one 0x0D0004 = exec (.tiuCal w) s ∧
    one 0x100010 = exec (.monUrgentGo w) s ∧
    (q < 0x2000 →
      one (0x400000 + 0x40 * q) = .next (settle s (based
        { ring s q with dbase := (ring s q).dbase / 2 ^ 32 * 2 ^ 32 + w.toNat / 4096 * 4096 })) ∧
      one (0x400004 + 0x40 * q) = .next (settle s (based
        { ring s q with dbase := (ring s q).dbase % 2 ^ 32 + w.toNat * 2 ^ 32 })) ∧
      one (0x400008 + 0x40 * q) = .next (settle s (based
        { ring s q with cbase := (ring s q).cbase / 2 ^ 32 * 2 ^ 32 + w.toNat / 4096 * 4096 })) ∧
      one (0x40000C + 0x40 * q) = .next (settle s (based
        { ring s q with cbase := (ring s q).cbase % 2 ^ 32 + w.toNat * 2 ^ 32 })) ∧
      one (0x400010 + 0x40 * q) = exec (.dmaQCtrlWrite q w) s ∧ one (0x400014 + 0x40 * q) = exec (.dmaQTailWrite q w) s ∧
      one (0x40001C + 0x40 * q) = exec (.dmaQCheadWrite q w) s ∧
      exec (.bar0Write (0x400028 + 0x40 * q) [(1, 15)] false) s = exec (.dmaQAbort q) s ∧
      exec (.bar0Write (0x400028 + 0x40 * q) [(2, 15)] false) s = exec (.dmaQFlush q) s)

/-- A snapshot copies every counter with its flags into its holding slot, clears the WRAP flags, counts itself and
keeps the sample time. Rests on R96, R97, R98. -/
def Obligations.SnapshotCopiesEveryCounter : Prop :=
  ∀ (s : State) (v : Word),
    (tbit v.toNat 0 = true → exec (.snapTake v) s = .next (settle s { fresh s with snap := {
        ctrs := s.snap.ctrs.foldl (fun m c => put {} c.1 { c.2 with wrap := false } m) []
        held := s.snap.ctrs.foldl (fun m c => put {} c.1 { value := c.2.value, wrap := c.2.wrap
                                                           sat := saturates c.1 && decide (c.2.value = 0xFFFFFFFF) } m) []
        seq := s.snap.seq + 1, time := s.time.count, here := true } })) ∧
    (tbit v.toNat 0 = false → exec (.snapTake v) s = .next (settle s (fresh s))) ∧
    (∀ key n, s.snap.here = true → (s.snap.bump key n).held =
      put {} key { ((look {} s.snap.ctrs key).plus (saturates key) n).hold (saturates key) with
        wrap := ((look {} s.snap.ctrs key).plus (saturates key) n).wrap || (look {} s.snap.held key).wrap } s.snap.held) ∧
    (∀ key n, s.snap.here = false → (s.snap.bump key n).held = s.snap.held)

/-- Shadow writes and commits act, are dropped or are refused as R100 to R104 say. Rests on R36, R100, R101, R102,
R103, R104. -/
def Obligations.LiveShadowsAndCommit : Prop :=
  ∀ (s : State) (n : Nat) (v : Word),
    let next := seamsBegun s
    let target := if engineCycle s / 2 * 2 + 2 * 128 ≤ next * s.eng.period then next else next + 1
    (running s = false →
      exec (.liveShadowWrite n v) s = .next (settle s (fresh s)) ∧
      (tbit v.toNat 0 = true → exec (.liveCommit v) s = .next (settle s (pulse0 4 1 (bump 4 0x20 { fresh s with
        live := { s.live with state := 4, firstBad := 0, commit := none } }))))) ∧
    (tbit v.toNat 0 = false → exec (.liveCommit v) s = .next (settle s (fresh s))) ∧
    (running s = true →
      (liveCount s ≤ n → exec (.liveShadowWrite n v) s = .next (settle s (fresh s))) ∧
      (n < liveCount s → s.live.commit = none → exec (.liveShadowWrite n v) s = .next (settle s { fresh s with
        live := { s.live with shadow := put 0 n v s.live.shadow } })) ∧
      (n < liveCount s → s.live.commit.isSome = true →
        exec (.liveShadowWrite n v) s = .next (settle s (pulse0 4 2 (bump 4 0x00 (fresh s))))) ∧
      (tbit v.toNat 0 = true → s.live.commit = none → exec (.liveCommit v) s = .next (settle s { fresh s with
        live := { s.live with state := 1, target := target % 2 ^ 32
                              commit := some { target := target, checked := false } } })) ∧
      (tbit v.toNat 0 = true → s.live.commit.isSome = true →
        exec (.liveCommit v) s = .next (settle s (pulse0 4 3 (fresh s))))) ∧
    (∀ c, s.live.commit = some c → c.checked = false →
      ((∀ k, k < liveCount s → (liveRec s k).admits (look 0 s.live.shadow k) = true) →
        exec .liveRangeCheckDone s = .next (settle s { fresh s with
          live := { s.live with commit := some { c with checked := true } } })) ∧
      (∀ k, k < liveCount s → (liveRec s k).admits (look 0 s.live.shadow k) = false →
        (∀ j, j < k → (liveRec s j).admits (look 0 s.live.shadow j) = true) →
        exec .liveRangeCheckDone s = .next (settle s (pulse0 4 1 (bump 4 0x20 { fresh s with
          live := { s.live with state := 3, firstBad := k, commit := none } })))))

/-- A seam begins with the engines' registers latched and a due commit applied, and ends by releasing the parked
engines and the commit (log 64). Rests on R102, R103, R194, R195, R196, R197, R193. Model's choices or readings in
it: log 64. -/
def Obligations.SeamsBeginAndEnd : Prop :=
  ∀ s : State,
    ((s.eng.running = false ∨ s.eng.inSeam = true) → exec .seamStart s = .next (settle s (fresh s))) ∧
    (s.eng.running = true → s.eng.inSeam = false → ∃ t, exec .seamStart s = .next t ∧
      t.eng.inSeam = true ∧ t.eng.running = true ∧ (running s = true → t.live.seam = seamsBegun s % 2 ^ 32) ∧ t.life = s.life ∧
      t.image = s.image ∧ t.live.shadow = s.live.shadow ∧
      (wf {} s.eng.engines = true → ∀ e, e ∈ s.eng.engines.map Prod.fst →
        (engine t e).seamPc = 32 * (settleIssue (engine s e)).pc % 524288 ∧
        (engine t e).seamBexp = bexpAt (engine s e) s.time.cycle) ∧
      (∀ c k, s.live.commit = some c → c.target ≤ seamsBegun s → c.checked = false → k < liveCount s →
        (liveRec s k).admits (look 0 s.live.shadow k) = false →
        (∀ j, j < k → (liveRec s j).admits (look 0 s.live.shadow j) = true) →
        t.live.active = s.live.active ∧ t.live.commit = none ∧ t.live.state = 3 ∧ t.live.firstBad = k) ∧
      (commitDue s (seamsBegun s) = true →
        (∀ k, k < liveCount s → (liveRec s k).admits (look 0 s.live.shadow k) = true) →
        t.live.active = s.live.shadow) ∧
      (commitDue s (seamsBegun s) = false → t.live.active = s.live.active ∧ t.live.commit = s.live.commit)) ∧
    (s.eng.inSeam = false → exec .seamEnd s = .next (settle s (fresh s))) ∧
    (s.eng.inSeam = true →
      let a := { s.eng with inSeam := false, engines := s.eng.engines.map (fun p => (p.1, { p.2 with parked := false })) }
      exec .seamEnd s = .next (settle s (if commitDue s (seamsBegun s - 1) then
        pulse0 4 0 (bump 4 0x10 { fresh s with eng := a, live := { s.live with commit := none, state := 2, applied := s.live.target } })
        else { fresh s with eng := a })))

/-- A doorbell is ignored while a command runs, else accepted: unknown, unserved and unkeyed commands are answered at
once (log 20, 84, 144). Rests on R106, R107, R108, R109, R88. Model's choices or readings in it: log 20, log 84,
log 144. -/
def Obligations.MailboxDoorbellAnswers : Prop :=
  ∀ s : State,
    let u := fun op : Nat => mMbox (fun m => { m with opcode := w32 op, seq := (m.seq + 1) % 65536 }) (fresh s)
    let table : List ((Bool → Instr) × Nat) := [(.nop, 0x01), (.getState, 0x02), (.flashInfo, 0x10), (.flashRead, 0x11),
      (.flashErase, 0x12), (.flashProgram, 0x13), (.boardRead, 0x14), (.ksWrite, 0x20), (.ksRevoke, 0x21),
      (.calRunCalibrate, 0x30), (.calRunAgeing, 0x30), (.calStore, 0x31), (.calAbort, 0x32), (.logFreeze, 0x40),
      (.logThaw, 0x41), (.logClear, 0x42)]
    let rung := fun (c : Bool → Instr) (op : Nat) =>
      (s.mbox.running.isSome = true → exec (c false) s = .next (settle s (pulse0 5 1 (fresh s)))) ∧
      (s.mbox.running = none → firstAnswer s op false ≠ 0 →
        exec (c false) s = .next (settle s (finishMailbox (firstAnswer s op false) [] (u op)))) ∧
      (placketOpen s = false → exec (c true) s = .next (settle s (keyFail 0x050008 1 { fresh s with key := none }))) ∧
      (placketOpen s = true →
        (s.mbox.running.isSome = true → exec (c true) s = .next (settle s (pulse0 5 1 { fresh s with key := none }))) ∧
        (s.mbox.running = none → firstAnswer s op true ≠ 0 →
          exec (c true) s = .next (settle s (finishMailbox (firstAnswer s op true) [] { u op with key := none }))))
    (∀ p, p ∈ table → rung p.1 p.2) ∧
    (∀ (w : Word) (kg : Bool), knownOps.contains (w.toNat % 65536) = false →
      rung (fun g => .unknownOpcode g w) (w.toNat % 65536) ∧ firstAnswer s (w.toNat % 65536) kg = 2) ∧
    (s.life.sys = .safe → ∀ kg, firstAnswer s 0x31 kg = 5) ∧
    (s.life.sys = .stopped → firstAnswer s 0x31 true = 0 ∧ firstAnswer s 0x31 false = 6) ∧
    (∀ op kg, knownOps.contains op = true →
      (s.life.sys = .running → firstAnswer s op kg = if guardedOps.contains op = true ∧ kg = false then 6 else 0) ∧
      ((s.life.sys = .safe ∨ s.life.sys = .stopped) → safeOps.contains op = false → op ≠ 0x31 → firstAnswer s op kg = 5) ∧
      ((s.life.sys = .powerUp ∨ s.life.sys = .loading ∨ s.life.sys = .restarting ∨ s.life.sys = .standbyEntry) →
        op ≠ 1 → op ≠ 2 → firstAnswer s op kg = 1))

/-- NOP, GET_STATE, FLASH_INFO, BOARD_READ and LOG_THAW complete at once with the results of their rows (log 153).
Rests on R65, R106, R108, R110. Model's choices or readings in it: log 153. -/
def Obligations.MailboxReads : Prop :=
  ∀ (s : State) (kg : Bool), s.mbox.running = none → (kg = true → placketOpen s = true) →
    let u := fun op : Nat => mMbox (fun m => { m with opcode := w32 op, seq := (m.seq + 1) % 65536 })
      (if kg then { fresh s with key := none } else fresh s)
    exec (.nop kg) s = .next (settle s (finishMailbox 0 (results [look 0 s.mbox.arg 0]) (u 1))) ∧
    exec (.getState kg) s =
      .next (settle s (finishMailbox 0 (results [w32 s.life.sys.code, imgStatus s, statFault s]) (u 2))) ∧
    (firstAnswer s 0x10 kg = 0 → exec (.flashInfo kg) s = .next (settle s (finishMailbox 0
      (results [w32 s.loader.flash.density, if s.loader.flash.octal then 0 else 1, w32 s.loader.pointer,
        w32 s.loader.flash.page]) (u 0x10)))) ∧
    (firstAnswer s 0x14 kg = 0 →
      (4096 < argOf s 0 + argOf s 1 → exec (.boardRead kg) s = .next (settle s (finishMailbox 3 [] (u 0x14)))) ∧
      (argOf s 0 + argOf s 1 ≤ 4096 → s.loader.board = none →
        exec (.boardRead kg) s = .next (settle s (finishMailbox 0xA [] (u 0x14)))) ∧
      (∀ bs, argOf s 0 + argOf s 1 ≤ 4096 → s.loader.board = some bs →
        ∃ t, exec (.boardRead kg) s = .next t ∧ t.mbox.running = none ∧ t.mbox.resp = 0 ∧
          t.mbox.res = results [w32 s.loader.areas.boardLen] ∧
          t.mbox.data = putBytes 0 (slice (bs.take s.loader.areas.boardLen ++ List.replicate 4096 0)
            (argOf s 0) (argOf s 1)) s.mbox.data ∧ t.loader = s.loader ∧ t.life = s.life)) ∧
    (firstAnswer s 0x41 kg = 0 → exec (.logThaw kg) s = .next (settle s (finishMailbox 0 []
      { u 0x41 with recorder := { s.recorder with freeze := none, lostAfter :=
          if s.recorder.freeze.isSome then s.recorder.queue.length else s.recorder.lostAfter } })))

/-- The flash commands check their arguments, go to the flash with BUSY standing, and end with the results of their
rows (log 99, 138). Rests on R62, R106, R108, R110. Model's choices or readings in it: log 99, log 138. -/
def Obligations.MailboxFlash : Prop :=
  ∀ (s : State) (kg ok : Bool) (data : List Byte) (mis : Option Nat),
    let u := fun op : Nat => mMbox (fun m => { m with opcode := w32 op, seq := (m.seq + 1) % 65536 })
      (if kg then { fresh s with key := none } else fresh s)
    let out := fun (l : List Output) (op : MboxOp) (v : State) =>
      { v with outbox := l, mbox := { v.mbox with running := some op } }
    let off := argOf s 0
    let len := argOf s 1
    let f := s.loader.flash
    (s.mbox.running = none → (kg = true → placketOpen s = true) →
      (firstAnswer s 0x11 kg = 0 →
        ((len = 0 ∨ 16384 < len) → exec (.flashRead kg) s = .next (settle s (finishMailbox 3 [] (u 0x11)))) ∧
        (0 < len → len ≤ 16384 → f.density < off + len →
          exec (.flashRead kg) s = .next (settle s (finishMailbox 4 [] (u 0x11)))) ∧
        (0 < len → len ≤ 16384 → off + len ≤ f.density →
          exec (.flashRead kg) s = .next (settle s (out [.flashRead off len] (.flashRead off len) (u 0x11))))) ∧
      (firstAnswer s 0x12 kg = 0 →
        (off % 65536 ≠ 0 → exec (.flashErase kg) s = .next (settle s (finishMailbox 3 [] (u 0x12)))) ∧
        (off % 65536 = 0 → flashRangeOk s off 65536 = false →
          exec (.flashErase kg) s = .next (settle s (finishMailbox 4 [] (u 0x12)))) ∧
        (off % 65536 = 0 → flashRangeOk s off 65536 = true →
          exec (.flashErase kg) s = .next (settle s
            (out [.flashErase off (eraseSize f) (65536 / eraseSize f)] (.flashErase off) (u 0x12))))) ∧
      (firstAnswer s 0x13 kg = 0 →
        ((len = 0 ∨ 16384 < len ∨ off % f.page ≠ 0 ∨ len % f.page ≠ 0) →
          exec (.flashProgram kg) s = .next (settle s (finishMailbox 3 [] (u 0x13)))) ∧
        (0 < len → len ≤ 16384 → f.page ≠ 0 → off % f.page = 0 → len % f.page = 0 → flashRangeOk s off len = false →
          exec (.flashProgram kg) s = .next (settle s (finishMailbox 4 [] (u 0x13)))) ∧
        (0 < len → len ≤ 16384 → f.page ≠ 0 → off % f.page = 0 → len % f.page = 0 → flashRangeOk s off len = true →
          exec (.flashProgram kg) s = .next (settle s
            (out [.flashProgram off (cmdData s len)] (.flashProgram off len) (u 0x13)))))) ∧
    (s.mbox.running = some (.flashRead off len) → ok = true → exec (.mailboxComplete ok data mis) s =
      .next (settle s (finishMailbox 0 (results [w32 len])
        { fresh s with mbox := { s.mbox with data := putBytes 0 (data.take len) s.mbox.data } }))) ∧
    (s.mbox.running = some (.flashRead off len) → ok = false → exec (.mailboxComplete ok data mis) s =
      .next (settle s (finishMailbox 0xA [] (fresh s)))) ∧
    (s.mbox.running = some (.flashErase off) → exec (.mailboxComplete ok data mis) s =
      .next (settle s (finishMailbox (if ok then 0 else 0xA) [] (fresh s)))) ∧
    (s.mbox.running = some (.flashProgram off len) → exec (.mailboxComplete ok data mis) s =
      .next (settle s (match mis with
        | some x => finishMailbox 0xA (results [w32 x]) (fresh s)
        | none => finishMailbox (if ok then 0 else 0xA) [] (fresh s)))) ∧
    (s.mbox.running = none → exec (.mailboxComplete ok data mis) s = .next (settle s (fresh s)))

/-- KS_WRITE and KS_REVOKE act on a slot only when every check passes, and their end programmes it once and records it
(log 96). Rests on R46, R47, R48, R49, R108, R478. Model's choices or readings in it: log 96. -/
def Obligations.MailboxKeySlots : Prop :=
  ∀ (s : State) (ok : Bool) (data : List Byte) (mis : Option Nat),
    let u := fun op : Nat => mMbox (fun m => { m with opcode := w32 op, seq := (m.seq + 1) % 65536 }) { fresh s with key := none }
    let token := cmdData s 3780
    let goes := fun (op : MboxOp) (v : State) => { v with mbox := { v.mbox with running := some op } }
    let recorded := fun (t : State) (code k : Nat) => s.recorder.queue.length < 256 → s.recorder.freeze = none →
      ∃ r : Rec, t.recorder.queue = s.recorder.queue ++ [r] ∧ r.code = code ∧ r.params = [k, 0, 0, 0]
    (s.mbox.running = none → placketOpen s = true → firstAnswer s 0x20 true = 0 →
      (argOf s 0 = 0 → argOf s 1 ≤ 3 → commissioned s = true →
        exec (.ksWrite true) s = .next (settle s (finishMailbox 7 [] (u 0x20)))) ∧
      (argOf s 0 = 0 → argOf s 1 ≤ 3 → commissioned s = false → writeRefused (keySlot s (argOf s 1)) (digestAt token 0) = true →
        exec (.ksWrite true) s = .next (settle s (finishMailbox 9 [] (u 0x20)))) ∧
      (argOf s 0 = 0 → argOf s 1 ≤ 3 → commissioned s = false → writeRefused (keySlot s (argOf s 1)) (digestAt token 0) = false →
        exec (.ksWrite true) s = .next (settle s (goes (.ksWrite (argOf s 1) (digestAt token 0)) (u 0x20)))) ∧
      (argOf s 0 = 1 → exec (.ksWrite true) s = .next (settle s
        (if ksTokenCode s token 1 ≠ 0 then finishMailbox (ksTokenCode s token 1) [] (u 0x20)
         else if writeRefused (keySlot s (le token 5 1)) (digestAt token 8) then finishMailbox 9 [] (u 0x20)
         else goes (.ksWrite (le token 5 1) (digestAt token 8)) (u 0x20)))) ∧
      ((1 < argOf s 0 ∨ (argOf s 0 = 0 ∧ 3 < argOf s 1)) →
        exec (.ksWrite true) s = .next (settle s (finishMailbox 3 [] (u 0x20))))) ∧
    (s.mbox.running = none → placketOpen s = true → firstAnswer s 0x21 true = 0 →
      exec (.ksRevoke true) s = .next (settle s
        (if ksTokenCode s token 2 ≠ 0 then finishMailbox (ksTokenCode s token 2) [] (u 0x21)
         else if revokeRefused s (le token 5 1) then finishMailbox 9 [] (u 0x21)
         else goes (.ksRevoke (le token 5 1)) (u 0x21)))) ∧
    (∀ k d, s.mbox.running = some (.ksWrite k d) → ∃ t, exec (.mailboxComplete ok data mis) s = .next t ∧
      t.img.keys = upd {} k (fun x => if x.enabled then x else { x with digest := x.digest ||| d, enabled := true }) s.img.keys ∧
      recorded t 0x100B k ∧ t.mbox.running = none ∧ t.mbox.resp = 0 ∧ t.mbox.res = results [w32 k]) ∧
    (∀ k, s.mbox.running = some (.ksRevoke k) → ∃ t, exec (.mailboxComplete ok data mis) s = .next t ∧
      t.img.keys = upd {} k (fun x => { x with revoked := true }) s.img.keys ∧
      recorded t 0x100C k ∧ t.mbox.running = none ∧ t.mbox.resp = 0 ∧ t.mbox.res = results [w32 k])

/-- CAL_RUN, CAL_STORE, CAL_ABORT, LOG_FREEZE and LOG_CLEAR run or are answered as their rules say, and end with their
results (log 52, 97, 98). Rests on R66, R108, R409, R411, R413, R416, R420, R430, R432, R433, R478. Model's
choices or readings in it: log 52, log 97, log 98. -/
def Obligations.MailboxCalibrationAndRecorder : Prop :=
  ∀ (s : State) (kg ok : Bool) (data : List Byte) (mis : Option Nat),
    let u := fun op : Nat => mMbox (fun m => { m with opcode := w32 op, seq := (m.seq + 1) % 65536 })
      (if kg then { fresh s with key := none } else fresh s)
    (s.mbox.running = none → (kg = true → placketOpen s = true) →
      (firstAnswer s 0x30 kg = 0 → ∀ c, c = Instr.calRunCalibrate kg ∨ c = Instr.calRunAgeing kg →
        (calArgsOk s = false → exec c s = .next (settle s (finishMailbox 3 [] (u 0x30)))) ∧
        (calArgsOk s = true → s.cal.run.isSome = true → exec c s = .next (settle s (finishMailbox 1 [] (u 0x30)))) ∧
        (calArgsOk s = true → s.cal.run = none → argOf s 1 = 0 →
          exec c s = .next (settle s (finishMailbox 0 [] (startCalRun (argOf s 0) (u 0x30))))) ∧
        (calArgsOk s = true → s.cal.run = none → argOf s 1 = 1 → ∃ t, exec c s = .next t ∧
          t.mbox.running = none ∧ t.mbox.resp = 0 ∧ t.cal.gen = (s.recorder.highestGen + 1) % 2 ^ 32 ∧
          (s.clk.lock = .locked →
            t.cal.heldAge = some (sgn 32 (argOf s 2), sgn 32 (argOf s 3), argOf s 4) ∧ t.clk = s.clk) ∧
          (s.clk.lock ≠ .locked → t.clk.a0 = sgn 32 (argOf s 2) ∧ t.clk.a1 = sgn 32 (argOf s 3) ∧
            t.clk.t0 = argOf s 4 ∧ t.cal.heldAge = none))) ∧
      (firstAnswer s 0x31 kg = 0 → s.cal.run = none → ∃ t, exec (.calStore kg) s = .next t ∧
        t.mbox.running = some (.calStore (if s.cal.inUse = 0 then 1 else 0) s.cal.gen) ∧ t.cal = s.cal) ∧
      (firstAnswer s 0x32 kg = 0 → ∀ r, s.cal.run = some r → r.aborting = false → ∃ t, exec (.calAbort kg) s = .next t ∧
        t.mbox.running = none ∧ t.mbox.resp = 0 ∧ t.mbox.res = results [1] ∧
        (∃ r', t.cal.run = some r' ∧ r'.aborting = true ∧ r'.waiting = 0 ∧ r'.channel = r.channel) ∧
        t.cal.trims = s.cal.trims ∧ t.cal.gen = s.cal.gen) ∧
      (firstAnswer s 0x32 kg = 0 → s.cal.run = none → ∃ t, exec (.calAbort kg) s = .next t ∧
        t.mbox.running = none ∧ t.mbox.resp = 0 ∧ t.mbox.res = results [0] ∧ t.cal = s.cal) ∧
      (firstAnswer s 0x40 kg = 0 → recordWaits s = false → exec (.logFreeze kg) s = .next (settle s (finishMailbox 0 []
        { u 0x40 with recorder := { s.recorder with freeze := some s.time.cycle } }))) ∧
      (firstAnswer s 0x40 kg = 0 → recordWaits s = true → s.recorder.freeze = none → s.recorder.degraded = false →
        exec (.logFreeze kg) s = .next (settle s
          { u 0x40 with mbox := { (u 0x40).mbox with running := some .logFreeze } })) ∧
      (firstAnswer s 0x42 kg = 0 → argOf s 0 ≠ 3780 →
        exec (.logClear kg) s = .next (settle s (finishMailbox 3 [] (u 0x42)))) ∧
      (firstAnswer s 0x42 kg = 0 → argOf s 0 = 3780 →
        let token := cmdData s 3780
        let code := tokenSigned s token (le token 0x10 1)
        le token 0 4 = 0x434C5A53 → zeroAt token 4 4 = true → zeroAt token 0x11 31 = true → le token 0x10 1 ≤ 3 →
        le token 8 8 = s.recorder.seq → exec (.logClear kg) s = .next (settle s
          (if code ≠ 0 then finishMailbox code [] (u 0x42) else { u 0x42 with mbox := { (u 0x42).mbox with
            running := some (.logClear (le token 0x10 1) s.recorder.seq (sha3 (token.take 0x30))) } })))) ∧
    (∀ k gen, s.mbox.running = some (.calStore k gen) →
      (ok = true → ∃ t, exec (.mailboxComplete ok data mis) s = .next t ∧
        t.cal = { s.cal with inUse := k, valid0 := s.cal.valid0 || k == 0, valid1 := s.cal.valid1 || k == 1 } ∧
        t.mbox.resp = 0 ∧ t.mbox.res = results [w32 gen] ∧ t.mbox.running = none) ∧
      (ok = false → exec (.mailboxComplete ok data mis) s = .next (settle s (finishMailbox 0xA [] (fresh s))))) ∧
    (∀ k seq d, s.mbox.running = some (.logClear k seq d) →
      (s.recorder.seq ≠ seq → exec (.mailboxComplete ok data mis) s = .next (settle s (finishMailbox 0xC [] (fresh s)))) ∧
      (s.recorder.seq = seq → ∃ t, exec (.mailboxComplete ok data mis) s = .next t ∧ t.mbox.resp = 0 ∧
        t.recorder.seq = seq + 1 ∧ t.recorder.clearSeq = seq + 1 ∧ t.recorder.prevSeal = d ∧
        t.mbox.res = results [w32 (seq + 1)] ∧ t.recorder.ringUsed = [] ∧ t.recorder.fbView = [] ∧
        (s.recorder.degraded = false → s.recorder.bad.contains 0 = false → ∃ e : Rec, t.recorder.mram = [(0, some e)] ∧
          e.code = 0x1024 ∧ e.seq = seq + 1 ∧ e.params = [k, seq % 2 ^ 32, seq / 2 ^ 32, 0] ∧
          t.recorder.resOpen = some (0, 1) ∧ t.recorder.newest = (0, 0)) ∧
        (s.recorder.degraded = true → t.recorder.mram = [] ∧ ∃ e : Rec,
          t.recorder.vring = put none s.recorder.vnext (some e) s.recorder.vring ∧ e.code = 0x1024 ∧ e.seq = seq + 1 ∧
          e.fallback = true)))

/-- 1,001 oven samples within ±10 mK settle the oven, 102 outside unsettle it with an event record. Rests on R117,
R424. Model's choices or readings in it: log 20. -/
def Obligations.OvenSettlesAndUnsettles : Prop :=
  ∀ (s : State) (err : Int) (heater : Nat),
    let c := s.clk
    (-10 ≤ err → err ≤ 10 → exec (.ovenSample err heater) s = .next (settle s { fresh s with clk := { c with
      ovenErr := err, heater := heater, runIn := min (c.runIn + 1) 1001, runOut := 0
      settled := c.settled || decide (1000 ≤ c.runIn) } })) ∧
    ((err < -10 ∨ 10 < err) → (c.settled = false ∨ c.runOut < 101) →
      exec (.ovenSample err heater) s = .next (settle s { fresh s with clk := { c with
        ovenErr := err, heater := heater, runIn := 0, runOut := min (c.runOut + 1) 102 } })) ∧
    ((err < -10 ∨ 10 < err) → c.settled = true → 101 ≤ c.runOut →
      exec (.ovenSample err heater) s = .next (settle s (logEvent 0x2013 6 [] { fresh s with clk := { c with
        ovenErr := err, heater := heater, runIn := 0, runOut := min (c.runOut + 1) 102, settled := false } })))

/-- A gate detects the reference, begins acquisition or REF_FAR or tunes; its loss goes to HOLDOVER; the loop's 10 s
end in LOCKED (log 20, 44, 118, 142, 143). Rests on R118, R119, R120, R121, R122. Model's choices or readings in
it: log 20, log 44, log 118, log 142, log 143. -/
def Obligations.ReferenceDetectedAndLost : Prop :=
  ∀ (s : State) (nominal : Nat) (err : Int),
    let c := s.clk
    let seen := { c with refDetect := nominal, refErr := err }
    let code := match c.stepped with
      | some (k, b) => if k = hkCycle s then clampCode (c.code + (b - c.base)) else c.code
      | none => c.code
    let lost := logEvent 0x2012 6 [] (bump 6 0 (pulse0 6 2 { fresh s with clk := { c with refDetect := 0, refErr := 0 } }))
    let inside := 1 ≤ nominal ∧ nominal ≤ 3 ∧ -5000000 ≤ err ∧ err ≤ 5000000
    (inside → c.refLock = 0 →
      exec (.refGateComplete nominal err) s = .next (settle s { fresh s with clk := seen })) ∧
    (inside → c.refLock ≠ 0 → c.lock ≠ .acquiring → c.lock ≠ .locked →
      (clampCode (code + stepsOf err) ≠ code + stepsOf err →
        exec (.refGateComplete nominal err) s =
          .next (settle s { fresh s with clk := { seen with lock := .refFar } })) ∧
      (clampCode (code + stepsOf err) = code + stepsOf err →
        ∃ t, exec (.refGateComplete nominal err) s = .next t ∧ t.clk.lock = .acquiring ∧
          (-2000000 ≤ err → err ≤ 2000000 → t.clk.epsTarget = err) ∧
          t.clk.code = code ∧ t.clk.target = code + stepsOf err ∧ t.clk.unwinding = false ∧ t.clk.eps = c.eps ∧ t.clk.engaged = true ∧ t.clk.refDetect = nominal ∧ t.clk.refErr = err)) ∧
    (inside → c.refLock ≠ 0 → c.lock = .acquiring →
      exec (.refGateComplete nominal err) s = .next (settle s { fresh s with clk := seen })) ∧
    (inside → c.refLock ≠ 0 → c.lock = .locked →
      let new := sgn 24 (Config.freeValue s.free)
      exec (.refGateComplete nominal err) s = .next (settle s { fresh s with free := s.free + 1, clk := { seen with
        code := new, target := new, base := new, history := (new :: c.history).take 1000 } })) ∧
    (¬ inside → exec (.refGateComplete nominal err) s = exec .refEdgeTimeout s) ∧
    (c.refDetect = 0 → exec .refEdgeTimeout s = .next (settle s (fresh s))) ∧
    (c.refDetect ≠ 0 → (c.lock = .internal ∨ c.lock = .holdover) →
      exec .refEdgeTimeout s = .next (settle s lost)) ∧
    (c.refDetect ≠ 0 → c.lock = .refFar → exec .refEdgeTimeout s = .next (settle s { lost with
      clk := { lost.clk with lock := if c.engaged then .holdover else .internal } })) ∧
    (c.refDetect ≠ 0 → (c.lock = .acquiring ∨ c.lock = .locked) →
      ∃ t, exec .refEdgeTimeout s = .next t ∧ t.clk.lock = .holdover ∧ t.clk.refDetect = 0 ∧
        t.clk.code = clampCode (meanCode c) ∧ t.clk.eps = c.eps ∧ t.clk.unwinding = (c.eps != 0) ∧
        t.clk.target = clampCode (meanCode c) + stepsOf c.eps ∧
        t.clk.held = some (clampCode (meanCode c) + stepsOf c.eps, s.recorder.seconds) ∧
        t.snap = lost.snap ∧ t.recorder = lost.recorder) ∧
    (c.lock = .acquiring → c.eps = 0 → exec .lockAchieved s = .next (settle s (bump 6 0x20
      { fresh s with clk := { c with lock := .locked, unwinding := false, history := [] } }))) ∧
    ((c.lock ≠ .acquiring ∨ c.eps ≠ 0) → exec .lockAchieved s = .next (settle s (fresh s)))

/-- The ageing model asks for its code every 60 s, the converter slews at its rates, the synthesiser offset steps by
2e-8. Rests on R113, R114, R115, R116, R121, R124, R425. Model's choices or readings in it: log 93, log 118, log
119, log 120, log 143. -/
def Obligations.TuningConverterSlews : Prop :=
  ∀ s : State,
    let c := s.clk
    let asked := modelCode c s.recorder.seconds
    let goal := clampCode c.target
    let due := modelOwns c = true ∧ s.recorder.seconds < 0xFFFFFFFF ∧ c.handed ≠ some (hkCycle s)
    (¬ due → exec .ageingEvaluation s = .next (settle s (fresh s))) ∧
    (due → c.base = goal → ∃ t, exec .ageingEvaluation s = .next t ∧ t.clk = { c with
      target := asked, base := clampCode asked, code := clampCode (c.code + (clampCode asked - c.base))
      stepped := some (hkCycle s, c.base) }) ∧
    (due → c.base ≠ goal → ∃ t, exec .ageingEvaluation s = .next t ∧ t.clk = { c with target := asked }) ∧
    (∃ t, exec .tuneSlewStep s = .next t ∧ t.clk.target = c.target ∧ t.clk.lock = c.lock ∧ t.snap = s.snap ∧
      ((tuneLimit t.clk = false ∨ tuneLimit c = true) → t.recorder = s.recorder) ∧
      (modelOwns c = false → t.clk.base = c.base) ∧
      (modelOwns c = true → c.unwinding = false → t.clk.base = c.base + clampI (-4194) 4194 (goal - c.base)) ∧
      (modelOwns c = true → c.unwinding = true → t.clk.base = c.base + clampI (-838) 838 (goal - c.base)) ∧
      (modelOwns c = false → c.unwinding = false → t.clk = c) ∧
      (modelOwns c = true → c.unwinding = false →
        t.clk.code = clampCode (c.code + (t.clk.base - c.base)) ∧ t.clk.eps = c.eps) ∧
      (c.unwinding = true →
        let moved := if modelOwns c then clampCode (c.code + (t.clk.base - c.base)) else c.code
        t.clk.code = moved + clampI (-83886) 83886 (t.clk.base - moved) ∧
        t.clk.eps = c.eps + clampI (-20000) 20000 (clampEps (offsetOf (t.clk.base - t.clk.code)) - c.eps) ∧
        t.clk.unwinding = (t.clk.code != t.clk.base || t.clk.eps != 0))) ∧
    (c.lock = .acquiring → c.unwinding = false → ∃ t, exec .synthOffsetStep s = .next t ∧
      t.clk.eps = c.eps + clampI (-20000) 20000 (c.epsTarget - c.eps) ∧
      t.clk.unwinding = (t.clk.eps == c.epsTarget && c.target != c.code) ∧
      t.clk.base = (if t.clk.eps = c.epsTarget then c.target else c.base) ∧
      t.clk.code = c.code ∧ t.clk.lock = c.lock ∧ t.recorder = s.recorder ∧ t.snap = s.snap) ∧
    ((c.lock ≠ .acquiring ∨ c.unwinding = true) → exec .synthOffsetStep s = .next (settle s (fresh s))) ∧
    (s.pwr.groups < 2 → exec .operatingSecond s = .next (settle s (fresh s))) ∧
    (2 ≤ s.pwr.groups → ∃ t, exec .operatingSecond s = .next t ∧
      t.recorder.seconds = min (s.recorder.seconds + 1) 0xFFFFFFFF ∧ t.clk = c)

/-- Samples advance a channel and its time-domain conditions; a clamp opens or joins an overload window with OVR and
ADJ marks; deep trips count. Rests on R139, R145, R146, R147, R12, R307, R308, R309, R310, R311. Model's choices
or readings in it: log 157. -/
def Obligations.SamplesMarksAndOverload : Prop :=
  ∀ (s : State) (ch slice : Nat) (codes : List Int), ch < 4 → slice < 16 →
    let h := chan s ch
    let n := cycleBase s + slice
    let top := if joinsWindow h n then max n (h.lastClamp.getD 0) else n
    let deep := if joinsWindow h n then h.deep else h.deepAt == some (cycleBase s)
    (h.arrived = false → ∃ t, exec (.converterSample ch codes) s = .next t ∧ (chan t ch).arrived = true ∧
      (chan t ch).clamping = h.clampNew ∧ (chan t ch).clampNew = 0 ∧ (chan t ch).range = h.range ∧
      (chan t ch).ovrRuns = h.ovrRuns ∧ t.time = s.time ∧ t.clk = s.clk ∧ t.link.cfg = s.link.cfg) ∧
    (h.arrived = true → ∃ t, exec (.converterSample ch codes) s = .next t ∧ (chan t ch).arrived = true ∧
      t.time = s.time.plus 1) ∧
    (∃ t, exec (.sliceClamp ch slice) s = .next t ∧ (chan t ch).lastClamp = some top ∧ (chan t ch).window = true ∧
      (chan t ch).deep = deep ∧ (chan t ch).ovrRuns = joinRun n (top + (if deep then 512 else 33)) h.ovrRuns ∧
      (∀ d, d ∈ neighbours ch →
        (chan t d).adjRuns = joinRun n (top + (if deep then 512 else 33) + 512) (chan s d).adjRuns) ∧
      (functionLive s = false → t.snap = (if joinsWindow h n then s.snap else (bump 7 (0x20 + 0x40 * ch) s).snap)) ∧
      (wf {} s.snap.ctrs = true → counter t 7 (0x20 + 0x40 * ch) =
        counter (if joinsWindow h n then s else bump 7 (0x20 + 0x40 * ch) s) 7 (0x20 + 0x40 * ch)) ∧
      (functionLive s = true → calActive s ch = false → joinsWindow h n = false → wf {} s.trig.groups = true →
        ∀ d ∈ (img s).conds, d.cls = .overrange → d.source = ch → ∀ g ∈ groupsOf s d.cond,
          (⟨d.cond, 256 * n⟩ : Occ) ∈ (group t g).inbox) ∧
      t.time = s.time) ∧
    (∃ t, exec (.deepTrip ch) s = .next t ∧ (chan t ch).deepAt = some (cycleBase s) ∧
      (chan t ch).lastClamp = h.lastClamp ∧ t.snap = (bump 7 (0x30 + 0x40 * ch) s).snap ∧
      t.stat.pulses = (pulse0 7 (16 + ch) s).stat.pulses ∧
      (∀ l, h.lastClamp = some l → cycleBase s ≤ l + extension h.deep →
        (chan t ch).deep = true ∧ (chan t ch).ovrRuns = joinRun l (l + 512) h.ovrRuns) ∧
      (h.lastClamp = none → (chan t ch).deep = h.deep ∧ (chan t ch).ovrRuns = h.ovrRuns)) ∧
    (∀ d : TrigCond, h.arrived = false → functionLive s = true → s.eng.t0 ≤ cycleBase s → tdConds s ch = [d] →
      wf {} s.trig.conds = true → wf {} s.trig.groups = true → (∀ g, (group s g).capture = none) →
      let r := codes.foldl (fun (p : Cond × Nat × List Nat) b =>
        let q := tdSample d p.2.1 b (calActive s ch) p.1
        (q.1, p.2.1 + 1, p.2.2 ++ q.2.toList)) (cond s d.cond, cycleBase s, [])
      ∃ t, exec (.converterSample ch codes) s = .next t ∧ cond t d.cond = r.1 ∧
        ∀ τ ∈ r.2.2, ∀ g ∈ groupsOf s d.cond, (⟨d.cond, τ⟩ : Occ) ∈ (group t g).inbox) ∧
    (∀ (d : TrigCond) (k : Cond) (a b : Int) (n : Nat), k.queued = [] → k.prev = some a →
      let r := tdSample d n b false k
      let was := decide (k.level ≤ a)
      let high := decide (k.level ≤ b)
      let place := 256 * (n - 1) + (512 * (k.level - a).natAbs + (b - a).natAbs) / (2 * (b - a).natAbs)
      let both := d.cls == .tdEdge && d.polarity == 2
      (d.cls = .tdLevel → d.polarity < 2 → r.2 =
        if (if d.polarity = 0 then !was && high && k.readyUp else was && !high && k.readyDown) then some (256 * n) else none) ∧
      (d.cls = .tdEdge → r.2 = if (!was && high && d.polarity != 1 && k.readyUp) ||
        (was && !high && d.polarity != 0 && k.readyDown) then some place else none) ∧
      ((d.cls = .tdLevel ∨ d.cls = .tdEdge) → d.polarity < 3 → (d.cls = .tdLevel → d.polarity < 2) → r.1.prev = some b ∧
        r.1.readyUp = (k.readyUp && !(r.2.isSome && (high || both)) || decide (b < k.level - k.hyst)) ∧
        r.1.readyDown = (k.readyDown && !(r.2.isSome && (!high || both)) || decide (k.level + k.hyst ≤ b))) ∧
      (d.cls = .tdWidth →
        let begins := if d.polarity = 0 then !was && high else was && !high
        let ends := if d.polarity = 0 then was && !high else !was && high
        (begins = true → r = ({ r.1 with pulse := some ⟨place, 1, k.wmin, k.wmax, false⟩ }, none)) ∧
        (begins = false → k.pulse = none → r = ({ r.1 with pulse := none }, none)) ∧
        (∀ p, k.pulse = some p → begins = false →
          let w := p.width + 1
          let long := d.outside && w == p.wmax + 1 && !p.fired
          (ends = true → r = ({ r.1 with pulse := none },
            if (if d.outside then decide (p.width < p.wmin) else decide (p.wmin ≤ p.width ∧ p.width ≤ p.wmax)) then some p.start
            else none)) ∧
          (ends = false → r = ({ r.1 with pulse := some ⟨p.start, w, p.wmin, p.wmax, p.fired || long⟩ },
            if long then some p.start else none)))))

/-- Windows end on their channel; a relay in transit reaches its position, is commanded once more after 3 ms, and
faults after 6 ms. Rests on R135, R136, R137, R138, R146, R147. -/
def Obligations.WindowsAndRelaysEnd : Prop :=
  ∀ (s : State) (ch relay sensed : Nat),
    let h := chan s ch
    let tr := if relay = 0 then h.liningTransit else h.couplingTransit
    let r := if relay = 0 then 0 else 1
    let stand := fun (pos : Nat) (x : Chan) => if relay = 0 then { x with lining := pos, liningTransit := none }
      else { x with coupling := pos, couplingTransit := none, heldCoupling :=
        if x.heldCoupling == some pos && x.liningTransit.isNone && x.lining == 0 then none else x.heldCoupling }
    exec (.overloadWindowEnd ch) s = .next (settle s { fresh s with
      chans := upd {} ch (fun x => { x with window := false, deep := false }) s.chans }) ∧
    (h.window = false → ∃ t, exec (.neighbourAdjEnd ch) s = .next t ∧
      t.chans = upd {} ch (fun x => { x with lastClamp := none }) s.chans) ∧
    (h.window = true → ∃ t, exec (.neighbourAdjEnd ch) s = .next t ∧ chan t ch = h) ∧
    exec (.adjWindowEnd ch) s = .next (settle s { fresh s with
      chans := upd {} ch (fun x => { x with switching := false }) s.chans }) ∧
    (∀ t, tr = some t →
      (s.cal.run = none → exec (.relaySenseReached ch relay) s =
        .next (settle s { fresh s with chans := upd {} ch (stand t.target) s.chans })) ∧
      (t.retried = false → ∃ v, exec (.relayRetry ch relay) s = .next v ∧
        v.chans = upd {} ch (fun x => if relay = 0 then { x with liningTransit := some { t with retried := true } }
          else { x with couplingTransit := some { t with retried := true } }) s.chans ∧
        v.snap = (bump 7 (0x100 + 0x10 * ch) s).snap ∧ Output.relay ch r t.target ∈ v.outbox) ∧
      (t.retried = true → exec (.relayRetry ch relay) s = .next (settle s (fresh s))) ∧
      (t.retried = false → s.cal.run = none → exec (.relayFault ch relay sensed) s = .next (settle s (fresh s))) ∧
      (t.retried = true → s.cal.run = none → exec (.relayFault ch relay sensed) s = .next (settle s (logEvent 0x3015 7 [ch, relay, sensed]
        { fresh s with chans := upd {} ch (fun x => { x with fault := true })
                         (upd {} ch (stand sensed) s.chans) })))) ∧
    (tr = none → s.cal.run = none → exec (.relaySenseReached ch relay) s = .next (settle s (fresh s)) ∧
      exec (.relayRetry ch relay) s = .next (settle s (fresh s)) ∧
      exec (.relayFault ch relay sensed) s = .next (settle s (fresh s)))

/-- A sleeve's writer stores a block that fits, drops it from a CONTINUOUS sleeve and stops a CAPTURE or STREAM sleeve
otherwise. Rests on R172, R174, R175, R176, R250, R261. -/
def Obligations.SleeveWriterStoresDropsOrStops : Prop :=
  ∀ (s : State) (i time : Nat) (data : List Byte),
    let v := sleeve s i
    let b := (sleeveDecl s i).format.block
    let u := appendBytes i time data s
    ((functionLive s = false ∨ (img s).sleeves.length ≤ i) →
      exec (.sleeveBlockWrite i time data) s = .next (settle s (fresh s))) ∧
    (functionLive s = true → i < (img s).sleeves.length →
      (∀ k, frameStreamOf s i = some k → exec (.sleeveBlockWrite i time data) s =
        .next (settle s (afterWrite (passFrame k data (fresh s))))) ∧
      (∀ k, frameStreamOf s i = some k → (frameStream s k).left = 0 → ((frameStream s k).buf ≠ [] ∨ data = []) → exec (.sleeveBlockWrite i time data) s =
        .next (settle s (afterWrite { fresh s with frames := upd {} k (fun f => { f with buf := f.buf ++ data }) s.frames }))) ∧
      (∀ k, frameStreamOf s i = some k → (frameStream s k).left = 0 → (frameStream s k).buf = [] → data ≠ [] →
        exec (.sleeveBlockWrite i time data) s = .next (settle s (afterWrite (decideFrame k { fresh s with
          frames := upd {} k (fun f => { f with buf := f.buf ++ data }) s.frames })))) ∧
      (∀ k, frameStreamOf s i = some k → wf {} s.frames = true → wf {} s.sleeves = true →
        let d := frameDecl s k
        let t := decideFrame k s
        t.store = s.store ∧ (frameStream t k).fate = some (!v.stopped && fits s i d.recordBytes) ∧
        (v.stopped = false → fits s i d.recordBytes = true → t.sleeves = s.sleeves ∧ t.snap = s.snap) ∧
        (v.stopped = true → t.sleeves = s.sleeves ∧ (frameStream t k).before = true) ∧
        (v.stopped = false → fits s i d.recordBytes = false → (frameStream t k).before = true ∧
          ((sleeveDecl s i).kind = .continuous → (sleeve t i).dropBlocks = v.dropBlocks + 1 ∧ (sleeve t i).stopped = false ∧
            t.snap = (bump 10 (0x40 * k + 0x10) (bump 8 (0x10 * i) s)).snap) ∧
          ((sleeveDecl s i).kind ≠ .continuous → (sleeve t i).stopped = true ∧ t.snap = s.snap))) ∧
      (∀ k, frameStreamOf s i = none → channeliserOf s i = some k → exec (.sleeveBlockWrite i time data) s =
        .next (settle s (afterWrite (channeliserWrite k i data (fresh s))))) ∧
      (frameStreamOf s i = none → channeliserOf s i = none → exec (.sleeveBlockWrite i time data) s =
        .next (settle s (afterWrite (appendBytes i time data (fresh s)))))) ∧
    (v.stopped = true → u.store.mem = s.store.mem ∧ (sleeve u i).wcount = v.wcount) ∧
    (v.stopped = false → v.skip = 0 → 0 < data.length → data.length ≤ b - v.wcount % b →
      ((v.wcount % b ≠ 0 ∨ (fits s i b = true ∧ v.dropping = false)) →
        v.wcount - v.passStart + data.length < lenBytes s i →
        u.store.mem = putBytes ((sleeveDecl s i).base + (v.wcount - v.passStart)) data s.store.mem ∧
          (sleeve u i).wcount = v.wcount + data.length ∧ (sleeve u i).stopped = false) ∧
      (v.wcount % b = 0 → fits s i b = false → (sleeveDecl s i).kind = .continuous →
        u.store.mem = s.store.mem ∧ (sleeve u i).wcount = v.wcount ∧ (sleeve u i).dropping = true ∧
          (sleeve u i).dropBlocks = v.dropBlocks + 1 ∧ u.snap = (bump 8 (0x10 * i) s).snap) ∧
      (v.wcount % b = 0 → fits s i b = false → (sleeveDecl s i).kind ≠ .continuous → v.resumeHeld = false →
        u.store.mem = s.store.mem ∧ (sleeve u i).wcount = v.wcount ∧ (sleeve u i).stopped = true)) ∧
    (v.resumeHeld = false → exec (.writerResume i) s = .next (settle s (fresh s))) ∧
    (v.resumeHeld = true → v.stopped = true →
      (v.markers.length ≤ 63 → companion s i = [] → exec (.writerResume i) s = .next (settle s { fresh s with
        sleeves := upd {} i (fun x => { x with stopped := false, resumeHeld := false, awaitBlock := true }) s.sleeves })) ∧
      ((∀ j ∈ pair s i, (sleeve s j).markers.length ≤ 63) → ∃ t, exec (.writerResume i) s = .next t ∧
        ∀ j ∈ pair s i, (sleeve s j).stopped = true →
          (sleeve t j).stopped = false ∧ (sleeve t j).resumeHeld = false ∧ (sleeve t j).awaitBlock = true) ∧
      (63 < v.markers.length → ∃ t, exec (.writerResume i) s = .next t ∧ sleeve t i = v ∧ t.store = s.store))

/-- BAR2 reads go through the HOST requester's queue, an open slot and the data's arrival; BAR2 writes are discarded.
Rests on R60, R164, R166, R167, R182, R183, R184, R384, R386. Model's choices or readings in it: log 5, log 20,
log 108, log 110, log 145. -/
def Obligations.OpenTrafficServesReads : Prop :=
  ∀ (s : State) (x n r : Nat) (poisoned borrowed : Bool) (e : Ecc),
    let ones := Output.bar2 (List.replicate n 0xFF)
    let p := if poisoned then reportError 12 (pulse0 18 2 (bump 18 0x10 (fresh s))) else fresh s
    (bar2Open s = false → exec (.bar2Read x n) s = .next (settle s { fresh s with outbox := [ones] }) ∧
      exec (.bar2Write x poisoned) s = .next (settle s p)) ∧
    (bar2Open s = true → exec (.bar2Write x poisoned) s = .next (settle s (pulse0 8 4 (bump 8 0x8030 p)))) ∧
    (bar2Open s = true → bar2Shows s x n = false → ∃ t, exec (.bar2Read x n) s = .next t ∧ ones ∈ t.outbox ∧
      t.snap = (bump 8 0x8030 s).snap ∧ t.store = s.store) ∧
    (bar2Open s = true → bar2Shows s x n = true → 0 < n → x % 4096 + n ≤ 4096 →
      ∃ t tag, exec (.bar2Read x n) s = .next t ∧ waiting t 2 = waiting s 2 ++ [{
        addr := x / 64 * 64, len := (x + n + 63) / 64 * 64 - x / 64 * 64, data := none, purpose := .bar2 x n, tag := tag }] ∧
        t.store.mem = s.store.mem ∧ t.store.flights = s.store.flights) ∧
    (s.store.table = false → exec (.openTransaction borrowed) s = .next (settle s (fresh s))) ∧
    (s.store.table = true →
      let u := pumpContexts (pumpStreams (fresh s))
      wf [] u.store.queues = true → u.store.turn = 2 → u.store.turnUsed < weight u 2 →
      ∀ (q : Txn) (rest : List Txn), waiting u 2 = q :: rest → q.tag = true → q.len ≤ 4096 → q.purpose = .bar2 x n → q.data = none →
      (∀ p ∈ rest, p.tag = false ∨ 4096 - q.len < p.len) →
      ∃ t, exec (.openTransaction borrowed) s = .next t ∧ waiting t 2 = rest ∧
        t.store.flights = u.store.flights ++ [{ req := 2, txn := q, bytes := getBytes u.store.mem x n }] ∧
        t.store.turnUsed = u.store.turnUsed + 1 ∧
        (wf {} u.snap.ctrs = true → counter t 8 0x80A0 = counter (bump 8 0x80A0 u) 8 0x80A0 ∧
          counter t 8 0x8050 = counter (if borrowed then bump 8 0x8050 u else u) 8 0x8050)) ∧
    (s.store.flights = [] → exec (.openReadData e) s = .next (settle s (fresh s))) ∧
    (∀ f rest, s.store.flights = f :: rest → f.txn.purpose = .bar2 x n →
      ∃ t, exec (.openReadData e) s = .next t ∧ t.store.flights = rest ∧ Output.bar2 f.bytes ∈ t.outbox ∧
        (e = .clean → t.snap = (bumpBy 18 0x30 f.bytes.length s).snap ∧ t.recorder = s.recorder) ∧
        (∀ a, e = .corrected a → t.store.ceAddr = a ∧ t.recorder = s.recorder ∧ t.stat.pulses = (pulse0 8 0 s).stat.pulses ∧
          t.snap = (bumpBy 18 0x30 f.bytes.length (bump 8 0x8000 s)).snap) ∧
        (∀ a, e = .bad a → t.store.ueAddr = a ∧ 
          let logged := logEvent 0x3016 8 [a % 2 ^ 32, a / 2 ^ 32, sleeveOf s a] (pulse0 8 1 (bump 8 0x8010 s))
          t.recorder = logged.recorder ∧ t.stat.pulses = logged.stat.pulses ∧
          t.snap = (bumpBy 18 0x30 f.bytes.length logged).snap ∧
          (wf {} s.sleeves = true → sleeveOf s a ≠ 0xFFFF → (sleeve t (sleeveOf s a)).ueSeen = true))) ∧
    ((tagFree s r = false ∨ tagWaits s r = false) → exec (.tagGrant r) s = .next (settle s (fresh s))) ∧
    (tagFree s r = true → tagWaits s r = true → exec (.tagGrant r) s = .next (settle s { fresh s with
      store := { s.store with
        queues := upd [] r tagFirst s.store.queues, tagOrder := s.store.tagOrder.filter (· != r) ++ [r] } }))

/-- A slot that is gated off, or of an engine without a programme, has no effect. Formalises R221. -/
def Obligations.GatedSlotsHaveNoEffect : Prop :=
  ∀ (s : State) (e n m : Nat) (q : Gate) (b : Bool) (lp : LoopForm) (l : LsForm) (k : MacForm) (f : AluForm) (x : XchForm),
    ((engine s e).programmed = false ∨ gateOpen (engine s e) q = false) →
    ∀ c : Instr, c ∈ ([.br e q n, .brx e q n, .loop e q lp, .bxclr e q, .bsc e q b n m, .clrf e q, .rofset e q n,
      .ldv e q l, .ldc e q l, .ldp12 e q l, .ldu16 e q l, .ldx e q l, .stv e q l, .sth e q l, .stq e q l, .stx e q l,
      .cmul e q k, .cmla e q k, .cmac e q k, .acrd e q k, .acrc e q k, .fcvtp e q k, .fcvtl e q k,
      .cadd e q f, .csub e q f, .bfy e q f, .bfyj e q f, .vmov e q f, .conj e q f, .vshr e q f, .norm e q f, .exp e q f,
      .add e q f, .sub e q f, .and e q f, .or e q f, .xor e q f, .shl e q f, .shra e q f, .shrl e q f, .min e q f,
      .max e q f, .movi e q f, .movhi e q f, .bxget e q f, .movf e q f, .movxv e q f, .movvx e q f, .cmpeq e q f,
      .cmplt e q f, .cmpltu e q f, .pand e q f, .por e q f, .pnot e q f, .send e q x, .sendx e q x] : List Instr) →
      exec c s = .next (settle s (fresh s))

/-- The vector operations of the ALU slot send their saturated components, halved with H, to land at their latency.
Rests on R188, R216, R218, R236, R237, R238. Model's choices or readings in it: log 147, log 148, log 149, log
150. -/
def Obligations.VectorAluResults : Prop :=
  ∀ (s : State) (e : Nat) (q : Gate) (f : AluForm), (engine s e).programmed = true → gateOpen (engine s e) q = true →
    let g := engine s e
    let a := vcomp (readV g f.a)
    let b := vcomp (vecB g f)
    let out := fun (d : Nat) (c : Nat → Int) => sendResult e 2 2 (.v (physV g d)) (vmake (fun i => satc (halve f (c i))))
      (if (List.range 8).any (fun i => satChanges (halve f (c i))) then 1 else 0)
    let does := fun (c : Instr) (ok : Bool) (u : State) =>
      exec c s = .next (settle s (if ok then u else setFlags e 4 (fresh s)))
    let b2 := !(f.i && f.xb)
    let b0 := !f.i && !f.xb
    let n := (scalarB g f).toNat % 32
    does (.cadd e q f) b2 (out f.d (fun i => a i + b i) (fresh s)) ∧
    does (.csub e q f) b2 (out f.d (fun i => a i - b i) (fresh s)) ∧
    does (.vmov e q f) b2 (out f.d b (fresh s)) ∧
    does (.conj e q f) b0 (out f.d (fun i => if i % 2 = 0 then a i else -(a i)) (fresh s)) ∧
    does (.vshr e q f) (b2 && scalarOk f) (out f.d (fun i => rnd (a i) n) (fresh s)) ∧
    does (.bfy e q f) (b2 && f.d % 2 == 0)
      (out (f.d + 1) (fun i => a i - b i) (out f.d (fun i => a i + b i) (fresh s))) ∧
    does (.bfyj e q f) (b2 && f.d % 2 == 0)
      (out (f.d + 1) (fun i => if i % 2 = 0 then a i - b (i + 1) else a i + b (i - 1))
        (out f.d (fun i => if i % 2 = 0 then a i + b (i + 1) else a i - b (i - 1)) (fresh s))) ∧
    does (.movvx e q f) (b0 && decide (f.a < 16))
      (out f.d (fun i => if i = 0 then sgn 24 (readX g f.a).toNat else 0) (fresh s)) ∧
    does (.norm e q f) (b2 && scalarOk f) (sendResult e 3 2 (.v (physV g f.d))
      (vmake (fun i => satc (halve f (a i * 2 ^ min 23 n))))
      (if (List.range 8).any (fun i => satChanges (halve f (a i * 2 ^ min 23 n))) then 1 else 0) (fresh s)) ∧
    (∀ i, f.h = false →
      (satChanges (halve f (a i * 2 ^ min 23 n)) = true ↔ signCount (a i) < min 23 n))

/-- Scalar ALU operations send 32-bit results to Xd, compares and predicate operations a bit to Pd. Rests on R215,
R216, R223, R229, R236, R237, R238, R239. Model's choices or readings in it: log 148, log 149, log 150. -/
def Obligations.ScalarAndPredicateAluResults : Prop :=
  ∀ (s : State) (e : Nat) (q : Gate) (f : AluForm), (engine s e).programmed = true → gateOpen (engine s e) q = true →
    let g := engine s e
    let a := readX g f.a
    let b := scalarB g f
    let n := b.toNat % 32
    let does := fun (c : Instr) (ok : Bool) (u : State) =>
      exec c s = .next (settle s (if ok then u else setFlags e 4 (fresh s)))
    let x := fun (c : Instr) (ok : Bool) (lat : Nat) (w : Word) =>
      does c (ok && decide (f.d < 16)) (sendResult e lat 2 (.x f.d) (w.setWidth 192) 0 (fresh s))
    let p := fun (c : Instr) (ok w : Bool) => does c (ok && decide (f.d < 8))
      (if f.d = 0 ∨ (4 ≤ f.d ∧ (stagedLoop g).isSome) then fresh s
       else sendResult e 2 2 (.p f.d) (if w then 1 else 0) 0 (fresh s))
    let b0 := !f.i && !f.xb
    let ab := !(f.i && f.xb) && decide (f.a < 16) && scalarOk f
    let pb := !(f.i && f.xb) && decide (f.a < 8) && predOk f
    x (.add e q f) ab 2 (a + b) ∧ x (.sub e q f) ab 2 (a - b) ∧ x (.and e q f) ab 2 (a &&& b) ∧
    x (.or e q f) ab 2 (a ||| b) ∧ x (.xor e q f) ab 2 (a ^^^ b) ∧ x (.shl e q f) ab 2 (a <<< n) ∧
    x (.shra e q f) ab 2 (a.sshiftRight n) ∧ x (.shrl e q f) ab 2 (a >>> n) ∧
    x (.min e q f) ab 2 (if a.toInt ≤ b.toInt then a else b) ∧ x (.max e q f) ab 2 (if a.toInt ≤ b.toInt then b else a) ∧
    x (.movi e q f) (!(f.i && f.xb) && scalarOk f) 2 b ∧
    x (.movhi e q f) (b0 && decide (f.a < 16)) 2 (w32 (a.toNat % 65536 ||| (f.imm % 65536) <<< 16)) ∧
    x (.exp e q f) b0 3 (w32 (vecCount (readV g f.a))) ∧ x (.bxget e q f) b0 2 (w32 (bexpAt g s.time.cycle)) ∧
    x (.movf e q f) b0 2 (w32 g.ef) ∧ x (.movxv e q f) b0 2 (w32 (enc 32 (vcomp (readV g f.a) 0))) ∧
    p (.cmpeq e q f) ab (a == b) ∧ p (.cmplt e q f) ab (decide (a.toInt < b.toInt)) ∧
    p (.cmpltu e q f) ab (decide (a.toNat < b.toNat)) ∧
    p (.pand e q f) pb (readP g f.a && predB g f) ∧ p (.por e q f) pb (readP g f.a || predB g f) ∧
    p (.pnot e q f) (b0 && decide (f.a < 8)) (!readP g f.a)

/-- The MAC slot multiplies four complex lanes, accumulates modulo 2^56, rounds, saturates and converts. Rests on
R187, R232, R233, R234, R235. Model's choices or readings in it: log 12, log 148, log 150. -/
def Obligations.MultiplyAccumulate : Prop :=
  ∀ (s : State) (e : Nat) (q : Gate) (f : MacForm), (engine s e).programmed = true → gateOpen (engine s e) q = true →
    let g := engine s e
    let a := vcomp (readV g f.va)
    let b := fun i => if f.conj ∧ i % 2 = 1 then -(vcomp (readV g f.vb) i) else vcomp (readV g f.vb) i
    let prod := fun i => (if f.neg then -1 else 1) *
      (if i % 2 = 0 then a i * b i - a (i + 1) * b (i + 1) else a (i - 1) * b i + a i * b (i - 1))
    let acc := fun i => (look 0 g.ac (8 * f.ac + i)).toInt
    let out := fun (c : Nat → Int) => sendResult e 5 3 (.v (physV g f.vd)) (vmake (fun i => satc (rnd (c i) (23 + f.sh))))
      (if (List.range 8).any (fun i => satChanges (rnd (c i) (23 + f.sh))) then 1 else 0)
    let setAc := fun (c : Nat → Int) (u : State) => { u with
      eng := { u.eng with engines := upd {} e (fun x => { x with
        ac := (List.range 8).foldl (fun m i => put 0 (8 * f.ac + i) (BitVec.ofInt 56 (c i)) m) x.ac }) u.eng.engines } }
    let wraps := fun (c : Nat → Int) => (List.range 8).any (fun i => decide (c i < -(2 ^ 55)) || decide (2 ^ 55 ≤ c i))
    let total := fun (base : Nat → Int) (i : Nat) => base i + prod i
    let accumulates := fun (c : Instr) (base : Nat → Int) => exec c s = .next (settle s
      (if wraps (total base) then sendResult e 5 3 .flags 0 2 (setAc (total base) (fresh s)) else setAc (total base) (fresh s)))
    exec (.cmul e q f) s = .next (settle s (out prod (fresh s))) ∧
    accumulates (.cmla e q f) (fun _ => 0) ∧
    accumulates (.cmac e q f) acc ∧
    exec (.acrd e q f) s = .next (settle s (out acc (fresh s))) ∧
    exec (.acrc e q f) s = .next (settle s (setAc (fun _ => 0) (out acc (fresh s)))) ∧
    (f.vb < 16 → exec (.fcvtp e q f) s = .next (settle s (sendResult e 6 3 (.v (physV g f.vd))
      (powerVec g f).1 (powerVec g f).2 (fresh s)))) ∧
    (16 ≤ f.vb → exec (.fcvtp e q f) s = .next (settle s (setFlags e 4 (fresh s)))) ∧
    exec (.fcvtl e q f) s = .next (settle s (sendResult e 6 3 (.v (physV g f.vd)) (logVec g f).1 (logVec g f).2 (fresh s))) ∧
    (∀ w, f32.negative w = false → f32.special w = false → fld w 23 8 ≠ 0 →
      (l16Code w).1 ≤ 65535 ∧ (l16Code w).1 ≤ l16Exact (f32.unpack w).1 (f32.unpack w).2 + 1 ∧
      l16Exact (f32.unpack w).1 (f32.unpack w).2 ≤ (l16Code w).1 + 1 ∧ (l16Code w).2 = false) ∧
    (∀ w, (f32.negative w = true ∧ w ≠ 2 ^ 31 ∨ f32.special w = true) → l16Code w = (0, true)) ∧
    (∀ w, f32.negative w = false → fld w 23 8 = 0 → l16Code w = (0, false))

/-- Loads bring local bytes to a register in 4 cycles, stores queue their bytes, streams land and take their blocks.
Rests on R188, R190, R200, R201, R202, R222, R230, R231, R239, R240. Model's choices or readings in it: log 129,
log 150. -/
def Obligations.LoadsStoresAndStreams : Prop :=
  ∀ (s : State) (e st : Nat) (q : Gate) (f : LsForm), (engine s e).programmed = true → gateOpen (engine s e) q = true →
    let g := engine s e
    let u := fresh s
    let xa : Int := (readX g f.xa).toNat
    let addr := fun align => enc 19 (if f.post then xa else xa + f.off) / align * align
    let step := fun v => if f.post then sendResult e 1 f.slot (.x f.xa) (BitVec.ofNat 192 (enc 32 (xa + f.off))) 0 v else v
    let bytes := fun align n => loadLocal g s.time.cycle (addr align) n
    let store := fun align n (w : Nat) (v : State) =>
      step (if inCode g (addr align) n then pulse0 9 0 (bump 9 0x10 v)
        else mEngine e (fun x =>
          let x := if s.time.cycle < 2 then x else flushStores (s.time.cycle - 2) x
          { x with stores := insertStore { cycle := s.time.cycle, rank := 2 + f.slot, addr := addr align, bytes := leBytes n w } x.stores }) v)
    let vd := fun (v : BitVec 192) (fl : Nat) => step (sendResult e 4 f.slot (.v (physV g f.reg)) v fl u)
    let does := fun (c : Instr) (ok : Bool) (v : State) => exec c s = .next (settle s (if ok then v else setFlags e 4 u))
    let v := readV g f.reg
    exec (.ldv e q f) s = .next (settle s (vd (ldvValue g f (bytes 8 24)).1 (ldvValue g f (bytes 8 24)).2)) ∧
    (f.f = false → ∀ b, (ldvValue g f b) = (BitVec.ofNat 192 (leVal b), 0)) ∧
    does (.ldc e q f) (!f.f) (vd (c40Vec (bytes 4 20)) 0) ∧
    does (.ldp12 e q f) (!f.f) (vd (sampleVec (fun l => leVal (bytes 1 6) >>> (12 * l))) 0) ∧
    does (.ldu16 e q f) (!f.f) (vd (sampleVec (fun l => leVal (bytes 2 8) >>> (16 * l + 4))) 0) ∧
    does (.ldx e q f) (!f.f && decide (f.reg < 16))
      (step (sendResult e 4 f.slot (.x f.reg) (BitVec.ofNat 192 (leVal (bytes 4 4))) 0 u)) ∧
    exec (.stv e q f) s = .next (settle s (store 8 24 v.toNat (if f.f then trackStore e (vecCount v) u else u))) ∧
    does (.sth e q f) (!f.f) (store 4 16 v.toNat u) ∧
    does (.stq e q f) (!f.f) (store 2 8 v.toNat u) ∧
    does (.stx e q f) (!f.f && decide (f.reg < 16)) (store 4 4 (readX g f.reg).toNat u) ∧
    (∀ a n, (∀ x, x ∈ g.stores → s.time.cycle < x.cycle + 2) → loadLocal g s.time.cycle a n = getLocal g.mem a n) ∧
    (∀ b, g.incoming.find? (fun b => b.stream == st) = some b → exec (.streamReadLand e st) s = .next (settle s
      (eccEvent b.ecc (storeLocal e 0 b.addr b.bytes { u with
        eng := { s.eng with engines := upd {} e (fun x => { x with incoming := x.incoming.erase b }) s.eng.engines } })))) ∧
    (nextEntry s e st = none → exec (.streamWriteTake e st) s = .next (settle s u)) ∧
    (∀ x, nextEntry s e st = some x → exec (.streamWriteTake e st) s = .next (settle s { u with
      eng := { s.eng with engines := upd {} e (fun y => { y with
        pos := upd 0 st (· + x.step) y.pos, used := upd 0 st (· + 1) y.used
        outgoing := y.outgoing ++ [{ stream := st, due := s.time.cycle + 64, addr := x.addr
                                     bytes := loadLocal g s.time.cycle x.addr x.bytes }] }) s.eng.engines } }))

/-- BR, BRX and LOOP set the next issue, BXCLR, BSC, CLRF and ROFSET their registers; in a delay slot BR, BRX and LOOP
set ILL. Rests on R216, R223, R225, R226, R227, R229, R239, R240. Model's choices or readings in it: log 150. -/
def Obligations.ControlSlots : Prop :=
  ∀ (s : State) (e n m : Nat) (q : Gate) (b : Bool) (f : LoopForm),
    (engine s e).programmed = true → gateOpen (engine s e) q = true →
    let g := engine s e
    let u := fresh s
    let does := fun (h : Engine → Engine) => (Host.Outcome.next (settle s { u with
      eng := { s.eng with engines := upd {} e h s.eng.engines } }) : Host.Outcome State Fault Refusal)
    let ill := does (fun x => { x with ef := x.ef ||| 4 })
    let k := if f.cs then (readX g (f.xs % 16)).toNat else f.imm
    let a := g.issued.getD g.pc
    let others := fun (x : Engine) => x.loops.filter (fun l => l.lc ≠ f.lc)
    (g.inDelay = true → exec (.br e q n) s = ill ∧ exec (.brx e q m) s = ill ∧ exec (.loop e q f) s = ill) ∧
    (g.inDelay = false →
      exec (.br e q n) s = does (fun x => { x with branch := some (3, n % 16384) }) ∧
      exec (.brx e q m) s = does (fun x => { x with branch := some (3, (readX g (m % 16)).toNat % 16384) }) ∧
      (f.last = 0 → exec (.loop e q f) s = ill) ∧
      (f.last ≠ 0 → k = 0 → exec (.loop e q f) s = does (fun x => { x with
        lc := put 0 f.lc 0 x.lc, loops := others x, branch := some (1, (a + f.last + 1) % 16384) })) ∧
      (f.last ≠ 0 → k ≠ 0 → f.rot = false → exec (.loop e q f) s = does (fun x => { x with
        lc := put 0 f.lc k x.lc
        loops := { lc := f.lc, start := a, last := (a + f.last) % 16384, staged := none } :: others x })) ∧
      (f.last ≠ 0 → k ≠ 0 → f.rot = true → exec (.loop e q f) s = does (fun x => { x with
        lc := put 0 f.lc (k + f.drain) x.lc
        loops := { lc := f.lc, start := a, last := (a + f.last) % 16384, staged := some (k, 1) } :: others x
        p := x.p.filter (fun p => decide (p.1 < 4)) }))) ∧
    exec (.bxclr e q) s = does (fun x => { x with
      bexp := 23, tracked := x.tracked.filter (fun t => decide (s.time.cycle ≤ t.1)) }) ∧
    exec (.bsc e q b n m) s = .next (settle s (sendResult e 1 4 .bscale (BitVec.ofNat 192
      (enc 6 (clampI (-23) 23 (sgn 6 (if b then (readX g (n % 16)).toNat else m))))) 0 u)) ∧
    exec (.clrf e q) s = .next (settle s (sendResult e 1 4 .clearFlags 0 0 u)) ∧
    exec (.rofset e q n) s = .next (settle s (sendResult e 1 4 .rofs (BitVec.ofNat 192 (n % 32)) 0 u)) ∧
    exec (.illegalEncoding e) s = ill

/-- Results and exchange words land where they were sent; a send leaves only in its route's cycle; loops end, engines
stop and park. Rests on R192, R196, R205, R206, R218, R219, R223, R227, R228, R229, R241. -/
def Obligations.ResultsWordsAndIssue : Prop :=
  ∀ (s : State) (e : Nat) (q : Gate) (x : XchForm) (l : Landing) (w : XchWord),
    let g := engine s e
    let u := fresh s
    let upE := fun (h : Engine → Engine) => { u with eng := { s.eng with engines := upd {} e h s.eng.engines } }
    let discard := pulse0 9 1 (bump 9 0x20 u)
    let opened := g.programmed = true ∧ gateOpen g q = true
    let mine := fun r : RouteDecl => r.src = e ∧ engineCycle s % 2 ^ r.intervalLog2 = r.phase
    let sent := fun (r : RouteDecl) (v : BitVec 192) => { u with eng := { s.eng with
      words := s.eng.words ++ [{ due := s.time.cycle + 8 + 2 * (r.hops - 1), engine := r.dst, buffer := r.buffer, word := v }] } }
    (g.landings = [] → exec (.resultLands e) s = .next (settle s (upE (fun _ => g)))) ∧
    (g.landings = [l] → l.dest ≠ .clearFlags →
      exec (.resultLands e) s = .next (settle s (upE (fun _ => landOne { g with landings := [] } l)))) ∧
    (∀ v d f, (l = { l with dest := .v d, value := v, flags := f } →
        landOne g l = { g with v := put 0 d v g.v, ef := g.ef ||| f }) ∧
      (l = { l with dest := .x d, value := v, flags := f } →
        landOne g l = { g with x := put 0 d (v.setWidth 32) g.x, ef := g.ef ||| f })) ∧
    (s.eng.words = [] → exec (.xchDelivery e) s = .next (settle s u)) ∧
    (s.eng.words = [w] → w.engine = e → exec (.xchDelivery e) s = .next (settle s { u with eng := { s.eng with
      words := [], engines := upd {} e (fun y => { y with xr := put 0 w.buffer w.word y.xr }) s.eng.engines } })) ∧
    (opened →
      (routeDecl s x.route = none → exec (.send e q x) s = .next (settle s discard)) ∧
      (∀ r, routeDecl s x.route = some r →
        (mine r → exec (.send e q x) s = .next (settle s (sent r (readV g x.reg))) ∧
          (x.reg < 16 → exec (.sendx e q x) s = .next (settle s (sent r ((readX g x.reg).setWidth 192))))) ∧
        (¬ mine r → exec (.send e q x) s = .next (settle s discard))) ∧
      (16 ≤ x.reg → exec (.sendx e q x) s = .next (settle s (setFlags e 4 u)))) ∧
    (exitDue g = false → ∃ t, exec (.loopExit e) s = .next t ∧ (wf {} s.eng.engines = true → engine t e = g)) ∧
    (∀ b r rest, g.issued = some b → loopsAt g b = r :: rest → look 0 g.lc r.lc ≤ 1 →
      let exited := { g with
        lc := put 0 r.lc 0 g.lc, loops := dropLoop r.lc g.loops, pc := b + 1
        rofs := if r.staged.isSome then (g.rofs + 1) % 32 else g.rofs }
      (∃ t, exec (.loopExit e) s = .next t ∧ (wf {} s.eng.engines = true → engine t e = exited)) ∧
      (exitDue exited = false → ∃ t, exec (.stopBundle e) s = .next t ∧ (wf {} s.eng.engines = true →
        engine t e = { (settleIssue exited) with stopped := true }))) ∧
    (exitDue g = false → exec (.stopBundle e) s = .next (settle s (pulse0 9 3
      (upE (fun y => { (settleIssue y) with stopped := true }))))) ∧
    (∀ d, (∃ v ∈ s.eng.words, v.engine = e ∧ v.due = d) → (∀ v ∈ s.eng.words, v.engine = e → d ≤ v.due) →
      ∃ t, exec (.xchDelivery e) s = .next t ∧
        t.eng.words = s.eng.words.filter (fun v => !(v.engine == e && v.due == d)) ∧
        (wf {} s.eng.engines = true → engine t e = { g with xr :=
          (s.eng.words.filter (fun v => v.engine == e && v.due == d)).foldl (fun m v => put 0 v.buffer v.word m) g.xr })) ∧
    exec (.seamMark e) s = .next (settle s (upE (fun y => { y with parked := true })))

/-- The stamper numbers records; detectors and planes take, pass by, skip or close records; copy passes swap the
buffers (log 24, 25, 27, 129). Rests on R249, R250, R251, R252, R253, R265, R268, R270, R273, R274, R275, R276.
Model's choices or readings in it: log 24, log 25, log 27, log 129. -/
def Obligations.FramesTracesAndPlanes : Prop :=
  ∀ (s : State) (k p j : Nat), wf {} s.planes = true → wf {} s.traces = true → wf {} s.frames = true → functionLive s = true →
    let f := frameStream s k
    let d := frameDecl s k
    let x := traceOf s k
    let y := planeOf s p
    let bsT := fun t : TraceDecl => frameRecord s t.stream x.readRecords
    let bsP := fun t : PlaneDecl => frameRecord s t.stream y.readRecords
    let readT := fun (t : TraceDecl) => sharedRead t.stream x.readRecords (fresh s)
    let readP := fun (t : PlaneDecl) => sharedRead t.stream y.readRecords (fresh s)
    let go := f.fate.getD (!(sleeve s d.dst).stopped && fits s d.dst d.recordBytes)
    let ecc := freeEcc s (fun n => (sleeveDecl s d.dst).base + byteOffset s d.dst (j * d.recordBytes + n)) d.recordBytes
    let endT := fun t : TraceDecl => t.firstFrame + x.interval * t.interval + t.interval - 1
    let endP := fun t : PlaneDecl => t.firstFrame + y.exposure * t.exposure + t.exposure - 1
    ((d.channeliser = true ∨ d.recordBytes < 128 ∨ f.left ≠ 0 ∨ f.buf.length < 128) →
      exec (.frameStamp k) s = .next (settle s (afterWrite (fresh s)))) ∧
    (d.channeliser = false → 128 < d.recordBytes → f.left = 0 → 128 ≤ f.buf.length →
      ∃ t, exec (.frameStamp k) s = .next t ∧ (frameStream t k).next = f.next + 1 ∧
        (frameStream t k).buf = f.buf.drop d.recordBytes ∧ (frameStream t k).left = d.recordBytes - f.buf.length ∧
        (go = true → (f.buf.length ≤ d.recordBytes → (frameStream t k).before = false) ∧
          (d.recordBytes ≤ f.buf.length →
            (frameStream t k).frame = f.next ∧ (frameStream t k).flags = frameFlags s f d f.next) ∧
          (f.buf.length < d.recordBytes →
            (frameStream t k).cur = some (f.next, frameFlags s f d f.next, le f.buf 0x3C 2))) ∧
        (go = false → (frameStream t k).cur = none ∧ (frameStream t k).frame = f.frame ∧
          (f.fate = none → (frameStream t k).before = true))) ∧
    (j < f.readTo → sharedRead k j s = s) ∧
    (f.readTo ≤ j → sharedRead k j s = eccEvent ecc { s with
      free := s.free + 2, frames := upd {} k (fun f => { f with readTo := j + 1 }) s.frames }) ∧
    (∀ t, traceDecl s k = some t → x.ready = false → recordReady s t.stream x.readRecords = true →
      (recNumber (bsT t) < t.firstFrame → exec (.traceFrame k) s = .next (settle s { readT t with
        traces := upd {} k (fun x => { x with readRecords := x.readRecords + 1 }) s.traces })) ∧
      (t.firstFrame ≤ recNumber (bsT t) → endT t < recNumber (bsT t) → ∃ u, exec (.traceFrame k) s = .next u ∧
        (traceOf u k).ready = true ∧ (traceOf u k).readRecords = x.readRecords ∧ (traceOf u k).sums = x.sums) ∧
      (t.firstFrame ≤ recNumber (bsT t) → recNumber (bsT t) ≤ endT t → ∃ u, exec (.traceFrame k) s = .next u ∧
        (traceOf u k).readRecords = x.readRecords + 1 ∧ (traceOf u k).ready = (recNumber (bsT t) == endT t) ∧
        (traceOf u k).sums = (if recSkipped (bsT t) then x.sums.skip else x.sums.take (bsT t)) ∧
        u.snap = (if recSkipped (bsT t) then bump 11 (0x40 * k + 0x20) (readT t) else readT t).snap)) ∧
    ((traceDecl s k = none ∨ x.ready = true ∨ (∀ t, traceDecl s k = some t → recordReady s t.stream x.readRecords = false)) → exec (.traceFrame k) s = .next (settle s (fresh s))) ∧
    ((traceDecl s k = none ∨ x.ready = false) → exec (.traceIntervalClose k) s = .next (settle s (afterWrite (fresh s)))) ∧
    (∀ t, traceDecl s k = some t → x.ready = true → ∃ u, exec (.traceIntervalClose k) s = .next u ∧
      (traceOf u k).interval = x.interval + 1 ∧ (traceOf u k).ready = false ∧ (traceOf u k).sums = {} ∧
      (traceOf u k).last = x.interval ∧ (traceOf u k).peak = [] ∧ (traceOf u k).low = [] ∧ (traceOf u k).acc = []) ∧
    ((planeDecl s p = none ∨ y.ready = true ∨ (∀ t, planeDecl s p = some t → recordReady s t.stream y.readRecords = false)) →
      exec (.densityFrame p) s = .next (settle s (fresh s))) ∧
    (∀ t, planeDecl s p = some t → y.ready = false → recordReady s t.stream y.readRecords = true →
      (recNumber (bsP t) < t.firstFrame → exec (.densityFrame p) s = .next (settle s { readP t with
        planes := upd {} p (fun y => { y with readRecords := y.readRecords + 1 }) s.planes })) ∧
      (t.firstFrame ≤ recNumber (bsP t) → endP t < recNumber (bsP t) → exec (.densityFrame p) s = .next (settle s { fresh s with
        planes := upd {} p (fun y => { y with ready := true }) s.planes })) ∧
      (t.firstFrame ≤ recNumber (bsP t) → recNumber (bsP t) ≤ endP t → ∃ u, exec (.densityFrame p) s = .next u ∧
        (planeOf u p).readRecords = y.readRecords + 1 ∧ (planeOf u p).ready = (recNumber (bsP t) == endP t) ∧
        (planeOf u p).sums = (if recSkipped (bsP t) then y.sums.skip else y.sums.take (bsP t)) ∧
        (recSkipped (bsP t) = true → (planeOf u p).active = y.active))) ∧
    (y.ready = false → exec (.exposureClose p) s = .next (settle s (fresh s))) ∧
    (y.ready = true → y.pass = none → exec (.exposureClose p) s = .next (settle s { bump 12 (0x40 * p) (fresh s) with
      planes := upd {} p (fun y => { y with
        exposure := y.exposure + 1, merged := 0, ready := false, sums := {}, active := [], copyBuf := y.active
        pass := some { exposure := y.exposure, merged := y.merged + 1, sums := y.sums, started := false
                       writing := false, cell := 0, satCells := 0 } }) s.planes })) ∧
    (y.ready = true → y.pass.isSome = true → ∃ u, exec (.exposureClose p) s = .next u ∧
      (planeOf u p) = { y with exposure := y.exposure + 1, merged := y.merged + 1, ready := false } ∧
      u.snap = (bump 12 (0x40 * p + 0x10) (bump 12 (0x40 * p) s)).snap) ∧
    (∀ t c, planeDecl s p = some t → y.pass = some c →
      (c.started = false → copyRuns s = false → ∃ u c', exec (.copyPassStart p) s = .next u ∧ (planeOf u p).pass = some c' ∧ c'.started = true ∧
        c'.exposure = c.exposure ∧ c'.writing = (!(sleeve s t.dst).stopped && fits s t.dst (64 + 4 * t.cells)) ∧
        c'.satCells = (y.copyBuf.filter (fun e => e.2 == 0xFFFFFFFF)).length) ∧
      (c.started = true → (c.writing = false ∨ densityWaits s p = false) → ∃ u, exec (.copyPassEnd p) s = .next u ∧
        (planeOf u p).pass = none ∧ (planeOf u p).last = c.exposure) ∧
      (c.started = true → c.writing = true → densityWaits s p = true →
        exec (.copyPassEnd p) s = .next (settle s (fresh s))))

/-- A context takes rows, loses rows with a reset due, ends fades and intervals, offers its records, and falls back
and returns. Rests on R285, R286, R287, R291, R292, R295, R296, R299, R300, R301, R303. Model's choices or
readings in it: log 109, log 127, log 128. -/
def Obligations.ContextRowsRecordsAndFallback : Prop :=
  ∀ (s : State) (c rows : Nat) (d : ContextDecl), ctxDecl s c = some d → functionLive s = true → wf {} s.ctxs = true →
    let x := ctxOf s c
    let rb := 8 * d.stride
    let q := x.stored * rb
    let idle := (.next (settle s (fresh s)) : Host.Outcome State Fault Refusal)
    let ctx := fun f : Context → Context => (.next (settle s { fresh s with ctxs := upd {} c f s.ctxs }) : Host.Outcome State Fault Refusal)
    (rowReady s d x = false → exec (.contextInputRow c) s = idle) ∧
    (rowReady s d x = true → ∃ t, exec (.contextInputRow c) s = .next t ∧ (ctxOf t c).stored = x.stored + 1 ∧
      (ctxOf t c).row = x.row + 1 ∧ (x.resetDue = false → x.rowPending = [] → (ctxOf t c).phase = (x.phase + x.tw) % 2 ^ 48)) ∧
    (∀ l, ctxLoss s d x = some l → ∃ t, exec (.contextInputLoss c rows) s = .next t ∧
      (ctxOf t c).resetDue = true ∧ (ctxOf t c).gapDue = true ∧ (ctxOf t c).passed = x.passed + 1 ∧
      (ctxOf t c).stored = x.stored + (l.stop - q + rb - 1) / rb ∧
      (ctxOf t c).row = x.row + (l.stop - q + rb - 1) / rb + l.blocks * 4096 / rb) ∧
    (ctxLoss s d x = none → rowTorn s d x.row = true → (landedAt s d.src (q + 8 * (d.stride - 1))).isSome = true →
      ∃ t, exec (.contextInputLoss c rows) s = .next t ∧ (ctxOf t c).resetDue = true ∧ (ctxOf t c).gapDue = true ∧
      (ctxOf t c).stored = x.stored + 1 ∧ (ctxOf t c).row = x.row + 1) ∧
    (ctxLoss s d x = none → (rowTorn s d x.row = false ∨ landedAt s d.src (q + 8 * (d.stride - 1)) = none) →
      exec (.contextInputLoss c rows) s = idle) ∧
    ((x.settled = true ∨ x.resetDue = true ∨ x.out < settleLen d x.stages) → exec (.settlingComplete c) s = idle) ∧
    (x.settled = false → x.resetDue = false → settleLen d x.stages ≤ x.out →
      exec (.settlingComplete c) s = ctx (fun y => { y with settled := true, settledDue := true })) ∧
    ((x.fade = none ∨ ∃ f, x.fade = some f ∧ f.pos < d.xfLen) → exec (.crossfadeEnd c) s = idle) ∧
    (∀ f, x.fade = some f → d.xfLen ≤ f.pos → ∃ t, exec (.crossfadeEnd c) s = .next t ∧ (ctxOf t c).bank = f.target ∧
      (ctxOf t c).heldBank = none ∧ (x.heldBank = none → (ctxOf t c).fade = none) ∧
      (∀ b, x.heldBank = some b → b ≠ f.target →
        (ctxOf t c).fade = some { source := f.target, target := b, pos := 0 }) ∧
      (ctxOf t c).heldCoefs = x.heldCoefs.filter (fun h => h.1 != f.source)) ∧
    ((x.detCount < x.detInterval ∨ x.detCount = 0) → exec (.detectorIntervalClose c) s = idle) ∧
    (x.detInterval ≤ x.detCount → x.detCount ≠ 0 → ∃ t, exec (.detectorIntervalClose c) s = .next t ∧
      (ctxOf t c).interval = x.interval + 1 ∧ (ctxOf t c).detCount = 0) ∧
    (x.iq.length < d.recordFill → exec (.iqRecordClose c) s = idle) ∧
    (d.recordFill ≤ x.iq.length → ∃ t, exec (.iqRecordClose c) s = .next t ∧ (ctxOf t c).iq = []) ∧
    (x.queue.find? (fun r => !r.offered) = none → exec (.contextRecordWrite c) s = idle) ∧
    (∀ r, x.queue.find? (fun r => !r.offered) = some r →
      ((r.held = true ∨ recordFits s d.dst 256 = false ∨ fits s d.dst 256 = false) → exec (.contextRecordWrite c) s = idle) ∧
      (r.held = false → recordFits s d.dst 256 = true → fits s d.dst 256 = true → ∃ t w, exec (.contextRecordWrite c) s = .next t ∧
        waiting t 3 = waiting s 3 ++ [w] ∧ w.data = some r.bytes ∧ w.purpose = .ctxWrite c ∧ w.len = 256 ∧
        (ctxOf t c).queue = x.queue.map (fun y => if y == r then { y with offered := true } else y))) ∧
    ((x.fallback = true ∨ x.queue = [] ∨ ∃ r, x.queue.head? = some r ∧ s.time.cycle < r.born + 1280 * d.toleranceUs) →
      exec (.fallbackToleranceExpiry c) s = idle) ∧
    (∀ r, x.queue.head? = some r → x.fallback = false → r.born + 1280 * d.toleranceUs ≤ s.time.cycle → ∃ t w, exec (.fallbackToleranceExpiry c) s = .next t ∧
      (ctxOf t c).fallback = true ∧ (ctxOf t c).iq = [] ∧ (ctxOf t c).queue = x.queue ++ [w] ∧ w.reserved = true) ∧
    ((x.fallback = false ∨ x.queue ≠ [] ∨ recordFits s d.dst 1024 = false ∨ fits s d.dst 1024 = false) → exec (.fallbackExit c) s = idle) ∧
    (x.fallback = true → x.queue = [] → recordFits s d.dst 1024 = true → fits s d.dst 1024 = true → ∃ t w, exec (.fallbackExit c) s = .next t ∧
      (ctxOf t c).fallback = false ∧ (ctxOf t c).iq = [] ∧ (ctxOf t c).queue = [w] ∧ w.reserved = true)

/-- Groups arm, disarm, judge occurrences, capture, abort, hold off and arm again; mask conditions take their stream's
records. Rests on R307, R313, R316, R317, R318, R319, R320, R321, R326, R333, R334. Model's choices or readings in
it: log 27, log 38, log 109. -/
def Obligations.TriggerGroupsAndCaptures : Prop :=
  ∀ (s : State) (g k : Nat) (d : GroupDecl), g < 16 → groupDecl s g = some d → running s = true → functionLive s = true →
    wf {} s.trig.groups = true →
    let x := group s g
    let v := w32 (2 ^ g)
    let after := fun (c : Instr) (P : Group → Prop) => ∃ t, exec c s = .next t ∧ P (group t g)
    let idle := (.next (settle s (afterWrite (fresh s))) : Host.Outcome State Fault Refusal)
    let taken := fun (o : Occ) (y : Group) => y.last = some o ∧ y.capNo = s.trig.next ∧ (y.state = .capturing ∨ y.state = .holdoff)
    let force : Occ := { cond := 0xFF, time := 256 * now s }
    (x.state = .disarmed → after (.trgArm v) (fun y => y.state = .armed ∧ y.tArm = now s ∧ y.pendingArm = false)) ∧
    (x.state = .armed → exec (.trgArm v) s = idle) ∧
    (x.state ≠ .disarmed → x.state ≠ .armed → after (.trgArm v) (fun y => y.pendingArm = true)) ∧
    (x.state = .armed → after (.trgDisarm v) (fun y => y.state = .disarmed ∧ y.disarmedFrom = now s)) ∧
    (x.state = .disarmed → exec (.trgDisarm v) s = .next (settle s (fresh s))) ∧
    (x.state ≠ .disarmed → x.state ≠ .armed →
      after (.trgDisarm v) (fun y => y = { x with pendingArm := false, disarmCycle := true })) ∧
    (x.state = .disarmed → exec (.trgForce v) s = idle) ∧
    (x.state = .armed → x.tArm ≤ now s → d.dest ≠ .none → after (.trgForce v) (taken force)) ∧
    (x.state = .armed → x.tArm ≤ now s → d.dest = .none →
      after (.trgForce v) (fun y => y.state = .holdoff ∧ y.last = some force ∧ y.stopTime = now s ∧
        y.capNo = x.capNo ∧ y.capFlags = x.capFlags)) ∧
    (x.state ≠ .disarmed → x.state ≠ .armed → after (.trgForce v) (fun y => y.misses = x.misses + 1)) ∧
    (∀ c, x.state = .capturing → x.capture = some c →
      (∀ h, c.hem = some h → samplesPast s (c.trig.time / 256 + h) = true →
        after (.hemEnd g) (fun y => y.state = .holdoff ∧ y.stopTime = c.trig.time / 256 + h ∧ y.capFlags = c.flags)) ∧
      (∀ h, c.hem = some h → cycleBase s + 16 < c.trig.time / 256 + h → exec (.hemEnd g) s = idle) ∧
      (c.hem = none → exec (.hemEnd g) s = idle ∧ after (.capAbort v) (fun y => y.state = .holdoff ∧
        y.stopTime = max c.start (cycleBase s) ∧ y.capFlags = c.flags ||| 8)) ∧
      (∀ h, c.hem = some h → c.trig.time / 256 + h ≤ cycleBase s → after (.capAbort v) (fun y => y.state = .holdoff ∧
        y.stopTime = c.trig.time / 256 + h ∧ y.capFlags = c.flags ||| 16)) ∧
      (∀ h, c.hem = some h → cycleBase s < c.trig.time / 256 + h → after (.capAbort v) (fun y => y.state = .holdoff ∧
        y.stopTime = max c.start (cycleBase s) ∧ y.capFlags = c.flags ||| 8))) ∧
    (∀ c, x.state = .provisional → x.capture = some c → after (.capAbort v) (fun y => y.capture = none ∧
      y.state = (if x.disarmCycle && !x.pendingArm then .disarmed else .armed) ∧ y.capFlags = x.capFlags)) ∧
    (∀ h, h ≤ cycleBase s → samplesPast s h = true) ∧
    (x.state ≠ .capturing → exec (.hemEnd g) s = idle ∧ (x.state ≠ .provisional → exec (.capAbort v) s = idle)) ∧
    (∀ c, x.state = .holdoff → x.capture = some c → x.stopTime ≤ now s → c.trig.time / 256 + c.holdoff ≤ now s →
      c.holdoffEvents ≤ x.misses → x.notices.length < 64 →
      ((d.auto = true ∧ x.disarmCycle = false ∨ x.pendingArm = true) →
        after (.holdoffEnd g) (fun y => y.state = .armed ∧ y.tArm = now s ∧ y.capture = none)) ∧
      ((d.auto = false ∨ x.disarmCycle = true) → x.pendingArm = false →
        after (.holdoffEnd g) (fun y => y.state = .disarmed ∧ y.capture = none))) ∧
    ((x.state ≠ .holdoff ∨ now s < x.stopTime ∨ 64 ≤ x.notices.length ∨ ∃ c, x.capture = some c ∧
      (now s < c.trig.time / 256 + c.holdoff ∨ x.misses < c.holdoffEvents)) → exec (.holdoffEnd g) s = .next (settle s (fresh s))) ∧
    (x.inbox[k]? = none → exec (.occurrenceArrival g k) s = idle) ∧
    (∀ o, x.inbox[k]? = some o → after (.occurrenceArrival g k) (fun y => y.inbox = x.inbox.eraseIdx k ∧
      (d.mode = 0 → d.condsA.contains o.cond = true → x.state = .armed → x.tArm ≤ o.time / 256 → d.dest ≠ .none → taken o y))) ∧
    (∀ o, x.state ≠ .provisional → earliest (fun _ => true) (x.heldA ++ x.heldB) = some o →
      (expired s g d o = false → exec (.occurrenceExpiry g) s = idle) ∧ (expired s g d o = true → after (.occurrenceExpiry g) (fun y => y.heldA = x.heldA.erase o ∧
        y.heldB = (if x.heldA.contains o then x.heldB else x.heldB.erase o)))) ∧
    (∀ m, condDecl s k = some m → m.cls = .mask →
      (recordReady s m.stream (cond s k).readRecords = false → exec (.maskFrame k) s = idle) ∧
      (recordReady s m.stream (cond s k).readRecords = true → ∃ t, exec (.maskFrame k) s = .next t ∧
        (cond t k).readRecords = (cond s k).readRecords + 1 ∧
        (cond t k).lastFrame = some (recNumber (frameRecord s m.stream (cond s k).readRecords))))

/-- Event edges are seen, passed over or lost; calibrations end valid or failed; gates, settling, pulses and records
end. Rests on R338, R341, R342, R345, R346, R347, R340, R351, R352. Model's choices or readings in it: log 109,
log 131. -/
def Obligations.EdgesCalibrationGatesAndPulses : Prop :=
  ∀ (s : State) (n o code : Nat) (rising : Bool) (w : Word) (hits : List Nat), wf {} s.tiu.inputs = true → wf {} s.tiu.outs = true →
    let x := evt s n
    let T := edgeTime s n code
    let used := ((hits.take 512).filter (fun h => h != 0)).length
    let idle := (.next (settle s (fresh s)) : Host.Outcome State Fault Refusal)
    let input := fun f : EvtInput → EvtInput => { fresh s with tiu := { s.tiu with inputs := upd {} n f s.tiu.inputs } }
    let y := x.apply (T / 256)
    let turn := fun seen : Bool => ({ input := n, edge := markEdge s n T rising, seen := seen } : TiuEdge)
    let lostEdge := ∃ t, exec (.eventEdge n rising code) s = .next t ∧ evt t n = x ∧
      t.tiu.waiting = (if functionLive s then insertEdge (turn false) s.tiu.waiting else s.tiu.waiting) ∧
      t.snap = (bump 16 (0x40 * n + 0x10) s).snap
    (markEdge s n T rising = ⟨T, rising, decide (x.settleFrom ≤ T / 256) && decide (T / 256 < x.settleUntil), !x.valid⟩) ∧
    (x.calibrating = true → lostEdge) ∧
    (x.calibrating = false → functionLive s = false → exec (.eventEdge n rising code) s = idle) ∧
    (x.calibrating = false → functionLive s = true →
      (passes y.slope rising = false → exec (.eventEdge n rising code) s = idle) ∧
      (∀ l, passes y.slope rising = true → y.lastEdge = some l → T ≤ l + 10485 → lostEdge) ∧
      (passes y.slope rising = true → (y.lastEdge = none ∨ ∃ l, y.lastEdge = some l ∧ l + 10485 < T) →
        ∃ t, exec (.eventEdge n rising code) s = .next t ∧ (evt t n).lastEdge = some T ∧
          t.tiu.waiting = insertEdge (turn true) s.tiu.waiting)) ∧
    (x.queued = [] → x.gate = 0 → (evt (inputEdge s (turn true)) n).seq = x.seq + 1 ∧
      (evt (inputEdge s (turn false)) n).seq = x.seq ∧ (evt (inputEdge s (turn false)) n).gateLoss = true ∧
      (evt (inputEdge s (turn false)) n).lost = min (x.lost + 1) 0xFFFFFFFF) ∧
    (∃ t, exec (.tiuCal w) s = .next t ∧
      (∀ k, k < 8 → (evt t k).calibrating = ((evt s k).calibrating || tbit w.toNat k))) ∧
    (x.calibrating = false → exec (.tiuCalDone n hits) s = idle) ∧
    (x.calibrating = true → (used < 448 ∨ used = 512) → ∃ t, exec (.tiuCalDone n hits) s = .next t ∧
      evt t n = { x with calibrating := false, used := used, failed := true } ∧
      t.recorder = (logEvent 0x201C 16 [n, used] s).recorder) ∧
    (x.calibrating = true → 448 ≤ used → used ≠ 512 → ∃ t, exec (.tiuCalDone n hits) s = .next t ∧
      (evt t n).calibrating = false ∧ (evt t n).valid = true ∧ (evt t n).failed = false ∧ (evt t n).used = used ∧
      t.recorder = s.recorder) ∧
    ((functionLive s = false ∨ x.queued = [] ∧ gatesOver x (edgeHorizon s / 256) = 0) → exec (.frequencyGateEnd n) s = idle) ∧
    (∀ m, functionLive s = true → x.queued = [] → gatesOver x (edgeHorizon s / 256) = m + 1 →
      ∃ t, exec (.frequencyGateEnd n) s = .next t ∧ (evt t n).gateIndex = x.gateIndex + m + 1 ∧
      (evt t n).gateCount = 0 ∧ (evt t n).gateLoss = false ∧ (evt t n).gateFirst = x.gateLast ∧
      (m = 0 → x.queue.length < 512 → (evt t n).queue.length = x.queue.length + 1) ∧
      (512 ≤ x.queue.length → (evt t n).recordLost = true)) ∧
    exec (.thrSettleEnd n) s = .next (settle s (input (fun x => { x with settling := false }))) ∧
    (((look {} s.tiu.outs o).active = false ∨ s.time.cycle < (look {} s.tiu.outs o).ends) → exec (.outputPulseEnd o) s = idle) ∧
    ((look {} s.tiu.outs o).active = true → (look {} s.tiu.outs o).ends ≤ s.time.cycle → ∃ t, exec (.outputPulseEnd o) s = .next t ∧
      look {} t.tiu.outs o = { (look {} s.tiu.outs o) with active := false } ∧
      Output.pin o ((look {} s.tiu.outs o).polarity != 0) ∈ t.outbox) ∧
    (x.queue = [] → exec (.tiuRecordWrite n) s = .next (settle s (checkCaptures (fresh s)))) ∧
    (∀ r q i, x.queue = r :: q → unitSleeve s 0x07 n = some i → (sleeve s i).stopped = false →
      recordFits s i r.bytes.length = true → ∃ t, exec (.tiuRecordWrite n) s = .next t ∧ (evt t n).queue = q)

/-- Drives are checked in order, cut off for a forbidden act, each command tried twice; a volume opens or is
formatted; a stripe is issued. Rests on R353, R357, R359, R360, R362, R368, 15 "Drive recording DARKU". Model's
choices or readings in it: log 17, log 113, log 132. -/
def Obligations.DrivesChecksAccessesAndCommands : Prop :=
  ∀ (s : State) (d id i a n speed width entropy : Nat) (nvme : Bool) (info : IdentifyInfo) (w : Word) (bs : List Byte)
    (x : CompletionEntry) (labels : List (Nat × List (List Byte))), wf {} s.disk.drives = true →
    let v := drive s d
    let p := (img s).drives
    let used := positionUsed p.modes d
    let after := fun (c : Instr) (P : Drive → Prop) => ∃ t, exec c s = .next t ∧ P (drive t d)
    let idle := fun c : Instr => exec c s = .next (settle s (fresh s))
    let fits := ¬ (info.mdts ≠ 0 ∧ info.mdts < 5) ∧ 1 ≤ info.queues ∧ info.nn ≠ 0 ∧ info.nn ≤ 1024 ∧ info.blocks ≤ 2 ^ 48
    let quarantined := fun (c : Instr) (reason addr : Nat) =>
      after c (fun y => y.state = .quarantined ∧ y.reason = reason ∧ y.badAddr = addr)
    let failed := fun (c : Instr) (reason : Nat) =>
      after c (fun y => y.reason = reason ∧ y.state = (if v.member.isSome then .failed else .rejected))
    let refused := fun c : Instr => ∃ t, exec c s = .next t ∧
      t.snap = (bump 17 (0x40 * d + 0x30) s).snap ∧ Output.driveRefused d ∈ t.outbox
    let sent := fun (op : NvmeOp) (again : Bool) (y : Drive) =>
      (y.cmds.any (fun c => c.op == op && c.retried == again) || y.waiting.contains (op, again)) = true
    let good := (acceptedDrives s).filterMap (fun k =>
      ((labels.find? (fun l => l.1 == k)).bind (fun l => bestLabel l.2)).map (fun b => (k, b)))
    (used = true → functionLive s = true → tbit s.pkg.dperst (d / 2) = true → v.state = .absent →
      (speed = 0 → after (.driveLinkUp d speed width nvme) (fun y => y = { v.idle with state := .rejected, reason := 1 })) ∧
      (speed ≠ 0 → after (.driveLinkUp d speed width nvme) (fun y => y = { v with
        state := if nvme then .checking else .rejected, reason := if nvme then 0 else 2, queues := if nvme then 1 else v.queues
        speed := min speed (positionSpeed p.modes d), width := min width (positionLanes p.modes d) })) ∧
      (speed ≠ 0 → nvme = true → ∃ t, exec (.driveLinkUp d speed width nvme) s = .next t ∧
        Output.driveReg d .cc 0x00460001 ∈ t.outbox)) ∧
    ((used = false ∨ functionLive s = false ∨ tbit s.pkg.dperst (d / 2) = false ∨ v.state ≠ .absent) →
      idle (.driveLinkUp d speed width nvme)) ∧
    (used = true → v.state = .absent →
      after (.driveLinkTimeout d) (fun y => y = { v.idle with state := .rejected, reason := 1 })) ∧
    ((used = false ∨ v.state ≠ .absent) → idle (.driveLinkTimeout d)) ∧
    (v.state = .checking → v.cmds = [] → v.waiting = [] → v.qs = [] → outstanding s + 3 ≤ 8192 →
      after (.driveReady d) (fun y => y.state = .checking ∧
        y.cmds.map NvmeCmd.op = [.identify 1, .identify 0, .setFeature 0x07])) ∧
    ((v.state ≠ .checking ∨ v.cmds ≠ []) → idle (.driveReady d)) ∧
    (v.state = .checking →
      after (.driveReadyTimeout d) (fun y => y = { v.idle with state := .rejected, reason := 3 }) ∧
      (¬ fits → after (.identifyDone d info) (fun y => y.state = .rejected ∧ y.reason = 4)) ∧
      (fits → (info.lbaBytes ≠ 4096 ∨ info.metadata ≠ 0) →
        after (.identifyDone d info) (fun y => y.state = .rejected ∧ y.reason = 5)) ∧
      (fits → info.lbaBytes = 4096 → info.metadata = 0 → info.blocks * 4096 < 270532608 →
        after (.identifyDone d info) (fun y => y.state = .rejected ∧ y.reason = 6)) ∧
      (fits → info.lbaBytes = 4096 → info.metadata = 0 → 270532608 ≤ info.blocks * 4096 →
        after (.identifyDone d info) (fun y => y.state = .accepted ∧ y.blocks = info.blocks ∧ y.mdts = info.mdts ∧
          y.queues = 1 + min 16 info.queues ∧
          y.setup = (setupOps (min 16 info.queues) (s.disk.vol.state == .bringup)).drop 1))) ∧
    (v.state ≠ .checking → idle (.driveReadyTimeout d) ∧ idle (.identifyDone d info)) ∧
    (s.disk.vol.state ≠ .bringup → idle (.labelRead labels entropy)) ∧
    (s.disk.vol.state = .bringup → p.volumeMode = 0 → good = [] → ∃ t, exec (.labelRead labels entropy) s = .next t ∧
      t.disk.vol.state = .none ∧ t.disk.vol.mismatch = true ∧
      (v.state = .accepted → d < 16 → (drive t d).state = .rejected ∧ (drive t d).reason = 7)) ∧
    (s.disk.vol.state = .bringup → (p.volumeMode = 2 ∨ p.volumeMode = 1 ∧ good = []) →
      ∃ t, exec (.labelRead labels entropy) s = .next t ∧ t.disk.vol.volumeId = entropy % 2 ^ 128 ∧
        t.disk.vol.members = p.members ∧ t.disk.vol.parity = p.parity ∧
        ((∀ m, m < p.members → p.memberMap.getD m 0xFF ∈ acceptedDrives s) →
          t.disk.vol.state = .opened ∧ t.disk.vol.failed = 0)) ∧
    (∀ first rest, good = first :: rest → s.disk.vol.state = .bringup → p.volumeMode < 2 →
      let mine := good.filter (fun l => le l.2 0x10 16 == le first.2 0x10 16)
      let top := mine.foldl (fun b l => if le b 0x0C 4 < le l.2 0x0C 4 then l.2 else b) first.2
      let lost := (List.range (le top 7 1)).filter (fun m => !(mine.any (fun l => le l.2 6 1 == m)) || tbit (le top 0x0A 2) m)
      (le top 8 1 < lost.length → ∃ t, exec (.labelRead labels entropy) s = .next t ∧ t.disk.vol.state = .none ∧
        t.disk.vol.mismatch = true) ∧
      (lost.length ≤ le top 8 1 → ∃ t, exec (.labelRead labels entropy) s = .next t ∧
        t.disk.vol.state = (if lost = [] then .opened else .degraded) ∧ t.disk.vol.volumeId = le first.2 0x10 16 ∧
        t.disk.vol.members = le top 7 1 ∧ t.disk.vol.parity = le top 8 1 ∧ t.disk.vol.alloc = le top 0x28 8 ∧
        t.disk.vol.nextSeq = le top 0x30 8 + 1)) ∧
    (v.state = .absent → idle (.driveDmaAccess d (.peer a)) ∧ idle (.driveDmaAccess d (.read a n)) ∧
      idle (.driveDmaAccess d (.write a bs)) ∧ idle (.driveDmaAccess d (.irq a w)) ∧ idle (.nvmeCompletion d id x)) ∧
    (v.state = .quarantined → refused (.driveDmaAccess d (.peer a)) ∧ refused (.driveDmaAccess d (.read a n)) ∧
      refused (.driveDmaAccess d (.write a bs)) ∧ refused (.driveDmaAccess d (.irq a w)) ∧ refused (.nvmeCompletion d id x)) ∧
    (v.state ≠ .absent → v.state ≠ .quarantined →
      quarantined (.driveDmaAccess d (.peer a)) 0x24 a ∧
      (a % 4096 + n ≤ 4096 → ∀ r, readDenied (pageUse s d a) = some r → quarantined (.driveDmaAccess d (.read a n)) r a) ∧
      (∀ q off, 0 < n → a % 4096 + n ≤ 4096 → pageUse s d a = some (.submission q off) →
        ∃ t, exec (.driveDmaAccess d (.read a n)) s = .next t ∧ drive t d = v ∧
          Output.driveData d a (slice (submissionPage v q) off n) ∈ t.outbox) ∧
      (a % 4096 + bs.length ≤ 4096 →
        (∀ r, writeDenied (pageUse s d a) = some r → quarantined (.driveDmaAccess d (.write a bs)) r a) ∧
        (writeDenied (pageUse s d a) = none → idle (.driveDmaAccess d (.write a bs)))) ∧
      (pageUse s d a = some (.doorbell w.toNat) → a % 4 = 0 → idle (.driveDmaAccess d (.irq a w))) ∧
      ((a % 4 ≠ 0 ∨ pageUse s d a ≠ some (.doorbell w.toNat)) → quarantined (.driveDmaAccess d (.irq a w)) 0x23 a) ∧
      (completes v id x = none → quarantined (.nvmeCompletion d id x) 0x22 0) ∧
      (∀ c, completes v id x = some c → c.aborted = false → (∀ q k, c.op ≠ .abort q k) →
        (x.error = false → s.disk.vol = {} → v.waiting = [] → v.setup = [] →
          after (.nvmeCompletion d id x) (fun y => y.state = v.state ∧ y.cmds = v.cmds.filter (fun k => k.id ≠ c.id))) ∧
        (x.error = true → c.retried = false → stopPast s = false →
          after (.nvmeCompletion d id x) (fun y => y.state = v.state ∧ sent c.op true y)) ∧
        (x.error = true → (c.retried = true ∨ stopPast s = true) → failed (.nvmeCompletion d id x) 0x11))) ∧
    (v.cmds.find? (fun c => c.id == id && !c.aborted) = none → idle (.nvmeCommandTimeout d id)) ∧
    (∀ c, v.cmds.find? (fun c => c.id == id && !c.aborted) = some c →
      ((∃ q k, c.op = .abort q k) → idle (.nvmeCommandTimeout d id)) ∧
      ((∀ q k, c.op ≠ .abort q k) →
        (c.retried = false → stopPast s = false → after (.nvmeCommandTimeout d id) (fun y =>
          y.state = v.state ∧ sent (.abort c.queue c.id) false y ∧ sent c.op true y)) ∧
        ((c.retried = true ∨ stopPast s = true) → failed (.nvmeCommandTimeout d id) 0x10))) ∧
    (heeded v = true → failed (.driveLinkLost d) 0x13) ∧
    (heeded v = false → after (.driveLinkLost d) (fun y => y = { v with speed := 0, width := 0 })) ∧
    ((volumeRuns s = false ∨ stopPast s = true ∨ nextData s i = none) → idle (.stripeWrite i)) ∧
    (∀ stream k, volumeRuns s = true → stopPast s = false → nextData s i = some (stream, none, k, none) →
      passCut s i k = false →
      ((sleeve s i).wcount - k < s.disk.vol.dataUnits * unitSize → idle (.stripeWrite i)) ∧
      (∀ e, 0 < s.disk.vol.dataUnits → s.disk.vol.dataUnits * unitSize ≤ (sleeve s i).wcount - k →
        openFor s stream i = some e → continues_ e k 0 = true → ∃ t, exec (.stripeWrite i) s = .next t ∧
        look 0 t.disk.vol.nextWc i = k + s.disk.vol.dataUnits * unitSize) ∧
      (0 < s.disk.vol.dataUnits → s.disk.vol.dataUnits * unitSize ≤ (sleeve s i).wcount - k → openFor s stream i = none →
        takeRun s.disk.vol = none → ∃ t, exec (.stripeWrite i) s = .next t ∧ t.disk.vol.full = true ∧
        t.disk.vol.state = .stopped))

/-- Rings take their registers, fetch descriptors and tables, move bursts, complete with an entry, flush, abort and
write notices. Rests on R389, R390, R391, R395, R396, R397, R398, R401, R402, R403, R405. Model's choices or
readings in it: log 5, log 155. -/
def Obligations.RingsRunTheirDescriptors : Prop :=
  ∀ (s : State) (q g c i : Nat) (w : Word) (bs : List Byte) (data : Option (List Byte)) (u : Run), wf {} s.rings = true →
    let r := ring s q
    let v := fld w.toNat 0 16
    let n := fld w.toNat 5 5
    let idle := fun c : Instr => exec c s = .next (settle s (fresh s))
    let after := fun (c : Instr) (P : State → Ring → Prop) => ∃ t, exec c s = .next t ∧ P t (ring t q)
    let goes := fun (k : Nat) => r.running = true ∧ r.halt = 0 ∧ r.head ≠ k ∧ r.run = none ∧ r.waiting = [] ∧ r.ask = none
    let stays := fun (k : Nat) => r.running = false ∨ r.halt ≠ 0 ∨ r.head = k ∨ r.run ≠ none ∨ r.waiting ≠ [] ∨ r.ask ≠ none
    let canWrite := r.waiting = [] ∧ r.full = false ∧ r.disabling = false
    let ends := fun (c : Instr) (status : Nat) => after c (fun t x => x.run = none ∧ x.ctail = (r.ctail + 1) % r.size ∧
      ∃ e : Entry, e.status = status ∧ Output.hostWrite (r.cbase + 32 * r.ctail) (entryBytes e r.phase) ∈ t.outbox)
    let writes := fun (a : Nat) (data : List Byte) => (hostWrites (data.length / 512 + 3) a data { s with outbox := [] }).outbox
    let failure := withBit s.link.status ([15, 13, 12].getD (Config.freeValue s.free % 3) 0)
    let freed : Ring := { r with ask := none, asked := 0 }
    let set := fun x : Ring => { x with
      join := tbit w.toNat 1, dataIrq := tbit w.toNat 2, swap := fld w.toNat 3 2, sizeLog2 := n, vector := fld w.toNat 10 11 }
    let d := (parseDesc bs).1
    let u' : Run := { u with table := parseTable u.desc.count bs }
    (r.running = true → r.size ≤ v → after (.dmaQTailWrite q w) (fun _ x => x = { r with halt := 2 }) ∧
      after (.dmaQCheadWrite q w) (fun _ x => x = { r with halt := 2 })) ∧
    ((r.running = false ∨ v < r.size) →
      (stays v → after (.dmaQTailWrite q w) (fun _ x => x = { r with tail := v })) ∧
      (goes v → r.dbase % 32 = 0 → s.link.reads < 768 → after (.dmaQTailWrite q w) (fun t x =>
        x = { r with tail := v, ask := some .desc, asked := r.asked + 1 } ∧
        Output.hostRead (r.dbase + 32 * r.head) 32 ∈ t.outbox)) ∧
      (stays r.tail → r.waiting = [] → r.disabling = false → after (.dmaQCheadWrite q w) (fun _ x => x = { r with chead := v })) ∧
      (∀ e, r.waiting = [e] → (r.ctail + 1) % r.size ≠ v → after (.dmaQCheadWrite q w) (fun t x => x.waiting = [] ∧
        x.ctail = (r.ctail + 1) % r.size ∧ Output.hostWrite (r.cbase + 32 * r.ctail) (entryBytes e r.phase) ∈ t.outbox))) ∧
    (r.enable = false →
      (r.running = false → r.disabling = false → tbit w.toNat 0 = true → (ringDecl s q).isSome = true →
        s.store.imageTable = true → 4 ≤ n → n ≤ 16 → after (.dmaQCtrlWrite q w) (fun _ x => x.enable = true ∧
          x.running = true ∧ x.head = 0 ∧ x.tail = 0 ∧ x.chead = 0 ∧ x.halt = 0 ∧ x.sizeLog2 = n ∧ x.swap = fld w.toNat 3 2 ∧
          x.vector = fld w.toNat 10 11 ∧ x.join = tbit w.toNat 1 ∧ x.dataIrq = tbit w.toNat 2)) ∧
      ((r.running = true ∨ tbit w.toNat 0 = false ∨ ringDecl s q = none ∨ s.store.imageTable = false ∨ n < 4 ∨ 16 < n) →
        after (.dmaQCtrlWrite q w) (fun _ x => x = set r))) ∧
    (r.enable = true →
      (tbit w.toNat 0 = true →
        after (.dmaQCtrlWrite q w) (fun _ x => x = { r with dataIrq := tbit w.toNat 2, vector := fld w.toNat 10 11 })) ∧
      (tbit w.toNat 0 = false → r.running = true → r.run = none → r.head = r.tail → r.waiting = [] → r.flushTo = none →
        after (.dmaQCtrlWrite q w) (fun _ x => x.enable = false ∧ x.running = false ∧ x.halt = 0))) ∧
    (declared s q = false → idle (.dmaQAbort q) ∧ idle (.dmaQFlush q)) ∧
    (declared s q = true →
      (r.run = some u → (u.phase = .bursting ∨ u.phase = .burstOver ∧ u.desc.op < 3) →
        after (.dmaQAbort q) (fun _ x => x = { r with run := some { u with aborting := true } })) ∧
      (r.run = some u → u.phase ≠ .bursting → u.phase ≠ .burstOver → canWrite → ends (.dmaQAbort q) 1) ∧
      (r.run = some u → u.phase = .burstOver → 3 ≤ u.desc.op → canWrite →
        (u.moved ≠ u.total → ends (.dmaQAbort q) 1) ∧
        (u.moved = u.total → after (.dmaQAbort q) (fun t x => x.run = none ∧ ∃ e : Entry, e.status = 0 ∧ e.abortLate = true ∧
          e.irq = true ∧ Output.hostWrite (r.cbase + 32 * r.ctail) (entryBytes e r.phase) ∈ t.outbox))) ∧
      (r.run = none → r.waiting = [] → after (.dmaQAbort q) (fun _ x => x = r)) ∧
      (r.run = none → ∀ ws e, r.waiting = ws ++ [e] → after (.dmaQAbort q) (fun _ x => x = { r with
        waiting := ws ++ [if e.kind ≤ 3 ∧ e.status = 0 then { e with abortLate := true, irq := true } else e] })) ∧
      (r.running = true → r.head ≠ r.tail → after (.dmaQFlush q) (fun _ x => x.flushTo = some r.tail ∧ x.head = r.head)) ∧
      ((r.running = false ∨ r.head = r.tail) → idle (.dmaQFlush q))) ∧
    (answerable s q .desc = false → idle (.descriptorFetch q data)) ∧
    (answerable s q .desc = true →
      ((r.running = false ∨ r.halt ≠ 0 ∨ r.head = r.tail ∨ r.run.isSome = true) →
        after (.descriptorFetch q data) (fun _ x => x = freed)) ∧
      (r.running = true → r.halt = 0 → r.head ≠ r.tail → r.run = none →
        (after (.descriptorFetch q none) (fun t x => x = { freed with halt := 1, flushTo := none } ∧
            t.snap = (bump 18 0x20 s).snap) ∧
          after (.completionTimeout q) (fun _ x => x = { freed with halt := 1, flushTo := none })) ∧
        after (.descriptorFetch q (some bs)) (fun _ x => x.head = (r.head + 1) % r.size) ∧
        (∀ k, r.flushTo = some k → canWrite → ends (.descriptorFetch q (some bs)) 1) ∧
        (r.flushTo = none → canWrite → ((parseDesc bs).2 = false ∨ descOk s q d = false) →
          ends (.descriptorFetch q (some bs)) 4) ∧
        (r.flushTo = none → (parseDesc bs).2 = true → descOk s q d = true →
          (d.op = 0 → canWrite → ends (.descriptorFetch q (some bs)) 0) ∧
          (d.op = 1 → ringKind s q = .notice →
            after (.descriptorFetch q (some bs)) (fun _ x => x.run = some (newRun d))) ∧
          (2 ≤ d.op → d.index = true → after (.descriptorFetch q (some bs)) (fun _ x =>
            x.run = some { newRun d with phase := .needTable } ∧ x.ask = some .table)) ∧
          (d.op = 2 → d.index = false → after (.descriptorFetch q (some bs)) (fun t x =>
            (∃ y, x.run = some y ∧ y.phase = .bursting ∧ y.burst = min d.length (4096 - d.storeAddr % 4096)) ∧
            ∃ z, waiting t 1 = waiting s 1 ++ [z] ∧ z.addr = d.storeAddr ∧ z.data = none ∧ z.purpose = .dma q))))) ∧
    (answerable s q .table = false → idle (.tableFetch q data)) ∧
    (answerable s q .table = true → r.run = some u →
      (u.phase ≠ .needTable → after (.tableFetch q data) (fun _ x => x = freed)) ∧
      (u.phase = .needTable →
        (canWrite → ends (.tableFetch q none) 3 ∧ ends (.completionTimeout q) 3) ∧
        (canWrite → sourceBad s q u' = true → ends (.tableFetch q (some bs)) 4) ∧
        (sourceBad s q u' = false → u.desc.op = 2 → r.halt ≠ 0 → after (.tableFetch q (some bs)) (fun _ x =>
          x = { freed with run := some { u' with phase := .moving } })) ∧
        (u.desc.op = 2 → u.desc.index = true → u.desc.tableSide = 0 → r.halt = 0 → 0 < u.desc.count → u.moved = 0 →
          u.elem = 0 → u.elemMoved = 0 →
          (elemOk s q u' 0 = false → canWrite → ends (.tableFetch q (some bs)) 2) ∧
          (elemOk s q u' 0 = true → after (.tableFetch q (some bs)) (fun t x =>
            (∃ y, x.run = some y ∧ y.phase = .bursting) ∧
            ∃ z, waiting t 1 = waiting s 1 ++ [z] ∧ z.addr = (u'.table.getD 0 (0, 0)).1 ∧ z.data = none))))) ∧
    ((r.run = none ∨ r.run = some u ∧ u.phase ≠ .burstOver) → idle (.burstDone q)) ∧
    (r.run = some u → u.phase = .burstOver →
      (u.aborting = true → canWrite → ends (.burstDone q) 1) ∧
      (u.aborting = false → u.desc.op = 2 → u.desc.index = false → ringKind s q = .xfer → r.halt = 0 → 0 < u.burst →
        (u.moved + u.burst = u.desc.length → canWrite → ends (.burstDone q) 0 ∧ after (.burstDone q) (fun t _ =>
          ∀ o ∈ writes (u.desc.hostAddr + u.moved) ((swapData u.desc.swap (u.bytes.getD [])).take u.burst), o ∈ t.outbox)) ∧
        (u.moved + u.burst < u.desc.length → after (.burstDone q) (fun _ x => ∃ y, x.run = some y ∧
          y.moved = u.moved + u.burst ∧ y.phase = .bursting))) ∧
      (u.aborting = false → u.desc.op = 1 → u.desc.index = false → ringKind s q = .stream → 0 < u.burst →
        u.moved + u.burst = u.desc.length → canWrite → ends (.burstDone q) 0 ∧ after (.burstDone q) (fun t _ =>
          ∀ o ∈ writes (u.desc.hostAddr + u.moved - u.rest.length) (swapData r.swap (u.rest ++ u.bytes.getD [])), o ∈ t.outbox))) ∧
    (∀ a, (writes a bs).flatMap (fun o => match o with | .hostData _ x _ => x | _ => []) = bs ∧
      (writes a bs).all (fun o => match o with
        | .hostData b x ro => decide (x.length ≤ 512) && decide (b % 4096 + x.length ≤ 4096) && ro == relaxedOn s.link
        | _ => false) = true) ∧
    (r.run = some u → writerSleeve s q = some i → (ring (serveDmaWrite q bs s) q).run =
      some { (u.plus u.burst) with phase := .burstOver, burst := 0, bytes := none }) ∧
    ((answerable s q .desc = true → ∃ t, exec (.descriptorFetch q none) s = .next t ∧ t.link.status = failure) ∧
      (answerable s q .table = true → ∃ t, exec (.tableFetch q none) s = .next t ∧ t.link.status = failure) ∧
      (answerable s q .data = true → ∃ t, exec (.hostReadCompletion q none) s = .next t ∧ t.link.status = failure)) ∧
    (answerable s q .data = false → idle (.hostReadCompletion q data)) ∧
    (answerable s q .data = true → r.run = some u →
      (canWrite → ends (.hostReadCompletion q none) 3 ∧ ends (.completionTimeout q) 3) ∧
      (writerSleeve s q = some i → after (.hostReadCompletion q (some bs)) (fun t _ => ∃ z,
        waiting t 1 = waiting s 1 ++ [z] ∧ z.purpose = .dma q ∧ z.addr = destAddr s i ∧ z.len = u.burst ∧
        z.data = some (swapData u.desc.swap ((bs ++ List.replicate u.burst 0).take u.burst))))) ∧
    (r.ask = none → idle (.completionTimeout q)) ∧
    (r.destWaiting = false → idle (.destWaitEnd q)) ∧
    (r.run = some u → u.phase = .destWait → (u.desc.op = 3 ∨ u.desc.op = 4) → writerSleeve s q = some i →
      (recordFits s i u.total = true → after (.destWaitEnd q) (fun _ x => x.destWaiting = false)) ∧
      (recordFits s i u.total = false → after (.destWaitEnd q) (fun _ x => x = r))) ∧
    (∀ k, ringDecl s q = some k → r.run = some u →
      (k.flushUs ≠ 0 → 0 < u.moved → ringFree s q = true → canWrite → ends (.streamFlushTimeout q) 0) ∧
      ((k.flushUs = 0 ∨ u.moved = 0 ∨ ringFree s q = false) → idle (.streamFlushTimeout q))) ∧
    ((ringDecl s q = none ∨ r.run = none) → idle (.streamFlushTimeout q)) ∧
    ((firstNotice s q = none ∨ r.run = none ∨ ringFree s q = false ∨ r.full = true) → idle (.noticeWrite q)) ∧
    (firstNotice s q = some (g, c, bs) → r.run = some u → ringFree s q = true → canWrite →
      (u.desc.length < 256 → ends (.noticeWrite q) 4) ∧
      (256 ≤ u.desc.length → ends (.noticeWrite q) 0 ∧ after (.noticeWrite q) (fun t _ =>
        Output.hostData u.desc.hostAddr bs (relaxedOn s.link) ∈ t.outbox)))

/-- A turn measures its three ranges, computes 48 limited trims that wait for the next seam, and ends with its relay
at rest. Rests on R407, R410, R412, R415. Model's choices or readings in it: log 48, log 49. -/
def Obligations.CalibrationTurnSteps : Prop :=
  ∀ (s : State) (u : CalRun) (m : Measurement) (resid : List (Nat × List Byte)),
    let got := (List.range 16).foldl (fun t k => match m.trims[k]? with
      | some v => put {} (trimIndex u.channel u.range k) { offset := v.1, gain := v.2.1, skew := v.2.2 } t
      | none => put {} (trimIndex u.channel u.range k) (trimOf s (trimIndex u.channel u.range k)) t) u.measured
    let temps := put [] u.channel (chipTemps s) s.cal.trackTemps
    let anew := upd {} u.channel (fun h => { h with flagged := 0 }) s.chans
    let rest := u.waiting - 2 ^ lowest u.waiting
    (s.cal.run = none → exec (.calMeasurementDone m) s = .next (settle s (fresh s)) ∧
      exec (.calComputeDone resid) s = .next (settle s (fresh s)) ∧ exec .calTurnEnd s = .next (settle s (fresh s))) ∧
    (s.cal.run = some u →
      (u.step = .dc → u.aborting = false → u.range ≠ 2 →
        exec (.calMeasurementDone m) s = .next (settle s { fresh s with
          cal := { s.cal with run := some { u with measured := got, resid := u.resid ++ m.resid, range := u.range + 1 } }
          chans := upd {} u.channel (fun h => { h with range := u.range + 1 }) s.chans })) ∧
      (u.step = .dc → u.aborting = false → u.range = 2 →
        exec (.calMeasurementDone m) s = .next (settle s { fresh s with
          cal := { s.cal with
            run := some { u with measured := got, resid := u.resid ++ m.resid, delay := m.delay, step := .compute } } })) ∧
      (u.step = .compute → u.aborting = false → ∃ t x, exec (.calComputeDone resid) s = .next t ∧
        t.cal.updates = s.cal.updates ++ [x] ∧ t.cal.run = some { u with step := .ret, awaitSeam := true } ∧
        x.kind = 1 ∧ x.channel = u.channel ∧ x.resid = u.resid ++ resid ∧
        x.trims = (List.range 48).map (fun k => (48 * u.channel + k,
          (limitTrim (48 * u.channel + k) (look {} u.measured (48 * u.channel + k))).1)) ∧
        x.delay = some (limitDelay u.channel u.delay).1 ∧ t.cal.trims = s.cal.trims ∧ t.chans = s.chans) ∧
      (u.step = .ret → u.awaitSeam = false → (chan s u.channel).liningTransit = none →
        (u.waiting = 0 → u.aborting = false → exec .calTurnEnd s = .next (settle s (pulse0 22 0 (bump 22 0x100
          { fresh s with cal := { s.cal with run := none, trackTemps := temps }, chans := anew })))) ∧
        (u.waiting = 0 → u.aborting = true →
          exec .calTurnEnd s = .next (settle s { fresh s with
            cal := { s.cal with run := none, trackTemps := temps }, chans := anew })) ∧
        (u.waiting ≠ 0 → ∃ t, exec .calTurnEnd s = .next t ∧ t.cal.run = some {
            channel := lowest u.waiting, step := .connect, range := 0, waiting := rest, aborting := false
            awaitSeam := true, measured := [], delay := 0, resid := [], temps := chipTemps s } ∧
          t.snap = (if u.aborting then s else bump 22 0x100 s).snap)))

/-- A tracker interval counts and keeps the drifts; when a correction is due, its limited trims wait for the next
seam. Rests on R417, R419. Model's choices or readings in it: log 50. -/
def Obligations.TrackerCorrects : Prop :=
  ∀ (s : State) (ch : Nat) (power : Bool) (ofs : List Int) (est : List Estimate),
    let turn : Bool := match s.cal.run with
      | some u => u.channel == ch
      | none => false
    let o : Bool := decide (10 * (chan s ch).flagged ≤ 2 ^ 35)
    let g : Bool := o && power
    let e := fun k => trimIndex ch (chan s ch).range k
    let due : Bool := (List.range 16).any (fun k => trackDue (trimOf s (e k)) (ofs.getD k 0) (est.getD k {}) o g)
    let late := look 0 s.cal.lastApplied ch = 0 ∨ look 0 s.cal.lastApplied ch + 204800000000 ≤ now s + 1
    let idle := s.cal.updates.all (fun u => u.channel != ch)
    (functionLive s = false ∨ calActive s ch = true ∨ turn = true →
      exec (.trackerIntervalEnd ch power ofs est) s = .next (settle s (fresh s))) ∧
    (functionLive s = true → calActive s ch = false → turn = false → ∃ t,
      exec (.trackerIntervalEnd ch power ofs est) s = .next t ∧ t.snap = (bump 22 (0x40 * ch) s).snap ∧
      t.cal.drifts = (List.range 16).foldl
        (fun m j => put {} (16 * ch + j) (driftOf (trimOf s (e j)) (ofs.getD j 0) (est.getD j {}) o g) m) s.cal.drifts ∧
      t.cal.trims = s.cal.trims ∧
      t.chans = upd {} ch (fun h => { h with flagged := 0 }) s.chans ∧
      (s.cal.policy = 1 → late → due = true → idle = true → ∃ x, t.cal.updates = s.cal.updates ++ [x] ∧ x.kind = 2 ∧ x.channel = ch ∧ x.delay = none ∧
        x.trims = (List.range 16).map (fun k => (e k, (trackTrim s (e k) (ofs.getD k 0) (est.getD k {}) o g).1))) ∧
      ((s.cal.policy ≠ 1 ∨ ¬ late ∨ due = false ∨ idle = false) → t.cal.updates = s.cal.updates))

/-- Records are written, failures degrade the recorder, power and slack act on the rail, monitors convert, and the
management ports answer. Rests on R426, R428, R430, R434, R435, R445, R456, R457, R458, R459, R470, R473. Model's
choices or readings in it: log 3, log 87, log 89, log 92, log 93, log 95, log 103, log 158. -/
def Obligations.RecorderMonitorsRailAndManagement : Prop :=
  ∀ (s : State) (n p slack : Nat) (w : Word) (a b : List Nat) (vf cv sv : Bool), wf none s.recorder.mram = true →
    wf none s.recorder.vring = true →
    let r := s.recorder
    let m := s.mon
    let idle := fun c : Instr => exec c s = .next (settle s (fresh s))
    let pwr_ := fun x : Power => { fresh s with pwr := x }
    let mon_ := fun x : Monitor => { fresh s with mon := x }
    let pkg_ := fun x : Package => { fresh s with pkg := x }
    let wrote := fun (vf cv sv : Bool) (P : Recorder → Prop) => ∃ t, exec (.logRecordWritten vf cv sv) s = .next t ∧ P t.recorder
    let on := s.pwr.osc = true
    let e := passEntry m m.entry
    let limit := match s.pwr.cls with
      | some c => if c < 5 then classMw c else 200000
      | none => 200000
    let low := { s.pwr with slack := slack % 256, marginLow := decide (slack < 26) }
    let asked := (fld w.toNat 0 5, fld w.toNat 8 5)
    ((s.pwr.osc = false ∨ r.freeze.isSome = true) → idle (.logRecordWritten vf cv sv) ∧ idle .mramTimeout) ∧
    (on → r.freeze = none → s.life.stop = none → s.pwr.staged = false →
      (r.lost = 0 → r.queue = [] → r.lostFrozen = 0 → s.mbox.running ≠ some .logFreeze → idle (.logRecordWritten vf cv sv)) ∧
      (∀ k, (r.lost = k ∧ k ≠ 0 ∨ r.lost = 0 ∧ r.lostFrozen = k ∧ k ≠ 0 ∧ r.lostAfter = 0) →
        let gone := recordOf s 0x2025 0xFF [k]
        let left := fun y : Recorder => y.queue = r.queue ∧ y.lost = 0 ∧ y.seq = r.seq + 1 ∧
          y.lostFrozen = (if r.lost = 0 then 0 else r.lostFrozen)
        (r.degraded = true → wrote vf cv sv (fun y => left y ∧
          look none y.vring r.vnext = some { gone with seq := r.seq + 1, fallback := true })) ∧
        (r.degraded = false → r.mergeable gone = none → (r.placeFor gone).2 < 63 → wrote true cv true (fun y => left y ∧
          look none y.mram (64 * (r.placeFor gone).1 + (r.placeFor gone).2) = some (numberRec r gone)))) ∧
      (∀ x q, r.queue = x :: q → r.lost = 0 → (r.lostFrozen = 0 ∨ r.lostAfter ≠ 0) →
        let u := (replaceBlock x { r with queue := q, lostAfter := r.lostAfter - 1 }).1
        let after := fun y : Recorder => y.degraded = true ∧ y.queue = q ∧ y.vqueue.take r.vqueue.length = r.vqueue ∧
          (y.vqueue.drop r.vqueue.length).map Rec.code = [0x4023, x.code] ∧
          y.vqueue.getLast? = some { x with seq := r.seq + 2, fallback := true }
        (r.degraded = true → wrote vf cv sv (fun y => y.queue = q ∧ y.seq = r.seq + 1 ∧
          y.vqueue = r.vqueue ++ [{ x with seq := r.seq + 1, fallback := true }] ∧
          look none y.vring r.vnext = some { x with seq := r.seq + 1, fallback := true })) ∧
        (r.degraded = false →
          (∀ k, r.mergeable x = some k → wrote true cv true (fun y => y.queue = q ∧ y.seq = r.seq ∧
            look none y.mram (64 * k.1 + k.2) = (let a := (look none r.mram (64 * k.1 + k.2)).getD {}
              some { a with
                again := min 65535 (a.again + x.again + 1), lastSeconds := x.lastSeconds
                repeatSat := a.repeatSat || decide (65535 ≤ a.again + x.again + 1) }))) ∧
          (r.mergeable x = none → (r.placeFor x).2 < 63 → wrote true cv true (fun y => y.queue = q ∧ y.seq = r.seq + 1 ∧
            look none y.mram (64 * (r.placeFor x).1 + (r.placeFor x).2) = some (numberRec r x))) ∧
          wrote true cv false (fun y => y.degraded = true) ∧
          (r.bad.length < 64 → wrote false true sv (fun y => y.queue = q ∧ y.bad = (r.placeFor x).1 :: r.bad)) ∧
          (r.bad.length < 64 → x.code ≠ 0x2022 → r.goesReserved x = false → r.mergeable x = none → u.mergeable x = none →
            r.ringOpen.2 < 62 → wrote false true true (fun y => y.seq = r.seq + 2 ∧
              look none y.mram (64 * u.ringOpen.1 + r.ringOpen.2) = some (numberRec u x) ∧
              ((look none y.mram (64 * u.ringOpen.1 + r.ringOpen.2 + 1)).map (fun z => (z.code, z.params.take 2))) =
                some (0x2022, [r.ringOpen.1, r.bad.length + 1]) ∧
              (∀ k, k < r.ringOpen.2 → look none y.mram (64 * u.ringOpen.1 + k) = look none r.mram (64 * r.ringOpen.1 + k)))) ∧
          (64 ≤ r.bad.length → wrote false cv sv after) ∧
          (r.bad.length < 64 → wrote false false sv after)))) ∧
    (on → r.freeze = none → r.degraded = false → ∃ t, exec .mramTimeout s = .next t ∧ t.recorder.degraded = true ∧
      t.recorder.unread = true ∧ t.recorder.mram = r.mram ∧ t.recorder.queue = r.queue ∧ ∃ x, t.recorder.vqueue = r.vqueue ++ [x] ∧ x.code = 0x4023) ∧
    (on → r.freeze = none → r.degraded = true → exec .mramTimeout s = .next (settle s { fresh s with
      recorder := { r with unread := true } })) ∧
    exec .freezeTimeout s = .next (settle s { fresh s with recorder := { r with
      freeze := none, lostAfter := if r.freeze.isSome then r.queue.length else r.lostAfter } }) ∧
    ((r.vqueue = [] ∨ flashHeld s = true) → idle .fallbackProgram) ∧
    (∀ x q, r.vqueue = x :: q → flashHeld s = false →
      (r.fbNext < 1024 → ∃ t, exec .fallbackProgram s = .next t ∧
        t.recorder = { r with vqueue := q, fbArea := put none r.fbNext (some x) r.fbArea, fbNext := r.fbNext + 1 } ∧
        Output.flashProgram (s.loader.areas.logFallback + 64 * r.fbNext) x.bytes ∈ t.outbox) ∧
      (1024 ≤ r.fbNext → ∃ t k, exec .fallbackProgram s = .next t ∧
        t.recorder = { r with vqueue := q, fbArea := put none 0 (some x) [], fbNext := 1 } ∧
        Output.flashErase s.loader.areas.logFallback k (65536 / k) ∈ t.outbox ∧
        Output.flashProgram s.loader.areas.logFallback x.bytes ∈ t.outbox ∧
        t.snap = (bumpBy 23 0x20 r.fbArea.length s).snap)) ∧
    (s.pwr.osc = false → idle (.pwrInUpdate p)) ∧
    (on → ∃ t, exec (.pwrInUpdate p) s = .next t ∧ t.pwr = { s.pwr with pwrIn := p % 65536, overClass := decide (limit < p * 100) } ∧
      t.snap = (if decide (limit < p * 100) && !s.pwr.overClass then bump 20 0x20 s else s).snap) ∧
    (s.pwr.analysis = false → idle (.slackLow slack) ∧ idle (.avsLower slack)) ∧
    (s.pwr.analysis = true →
      ((26 ≤ slack ∨ 850 ≤ s.pwr.setpoint ∧ 13 ≤ slack) → exec (.slackLow slack) s = .next (settle s (pwr_ low))) ∧
      (slack < 26 → s.pwr.setpoint < 850 → ∃ t, exec (.slackLow slack) s = .next t ∧
        t.pwr = { low with setpoint := min 850 (s.pwr.setpoint + 5) } ∧
        (s.pwr.avsHold = false → t.recorder = r ∧ t.snap = (bump 20 0 s).snap) ∧
        (s.pwr.avsHold = true → r.freeze = none → r.queue.length < 256 → t.snap = (bump 20 0 s).snap ∧
          ∃ z, t.recorder.queue = r.queue ++ [z] ∧ z.code = 0x1020)) ∧
      (slack < 13 → 850 ≤ s.pwr.setpoint →
        (s.life.sys = .running → ∃ t, exec (.slackLow slack) s = .next t ∧ t.life.sys = .stopped ∧
          t.life.stopReason = .margin ∧ t.life.stop.isSome = true ∧ t.pwr.setpoint = s.pwr.setpoint) ∧
        ((s.life.sys = .restarting ∨ s.life.sys = .loading) → s.life.stopAtStart = .none →
          ∃ t, exec (.slackLow slack) s = .next t ∧ t.life.stopAtStart = .margin ∧ t.pwr = low) ∧
        ((s.life.sys = .restarting ∨ s.life.sys = .loading) → s.life.stopAtStart ≠ .none →
          exec (.slackLow slack) s = .next (settle s (pwr_ low))) ∧
        (s.life.sys ≠ .running → s.life.sys ≠ .restarting → s.life.sys ≠ .loading →
          exec (.slackLow slack) s = .next (settle s (pwr_ low)))) ∧
      ((s.pwr.avsHold = true ∨ slack < 51 ∨ s.pwr.setpoint ≤ 650) → exec (.avsLower slack) s = .next (settle s (pwr_ low))) ∧
      (s.pwr.avsHold = false → 51 ≤ slack → 650 < s.pwr.setpoint → exec (.avsLower slack) s = .next (settle s
        (bump 20 0x10 (pwr_ { low with setpoint := s.pwr.setpoint - 5 }))))) ∧
    ((s.pwr.osc = false ∨ m.inPass = true ∧ m.entry < passEntries m) → idle .monPassStart) ∧
    (on → (m.inPass = false ∨ passEntries m ≤ m.entry) → ∃ t, exec .monPassStart s = .next t ∧ t.mon.inPass = true ∧
      t.mon.entry = 0 ∧ t.mon.started = false ∧ t.mon.passCfg = m.cfg ∧ t.mon.passTimer = m.timer ∧ t.mon.passHost = m.host ∧
      t.mon.pass = (if m.inPass then m.pass + 1 else m.pass) ∧
      t.pwr = { s.pwr with passCool := true } ∧ t.snap = (if m.inPass then bump 21 0 s else s).snap) ∧
    (entryDue s = false → idle .monEntryStart ∧ idle .monStartTimeout) ∧
    (entryDue s = true →
      (∃ t, exec .monEntryStart s = .next t ∧ t.mon = { m with started := true } ∧
        t.snap = (if e.wait && tbit m.passCfg.toNat 6 && !stageSwitches s (fld m.passCfg.toNat 8 2) then bump 21 0x30 s else s).snap) ∧
      (e.wait = true → exec .monStartTimeout s = .next (settle s (bump 21 0x30 (pulse0 21 2 (mon_ { m with started := true }))))) ∧
      (e.wait = false → idle .monStartTimeout)) ∧
    (on → m.inPass = true → m.started = true → ∃ t, exec (.monEntryEnd a b) s = .next t ∧ t.mon = { m with
      entry := m.entry + 1, started := false
      resA := put (0, 0) e.inputA (meanOf a (e.reps + 1) % 65536, m.pass % 256) m.resA
      resB := put (0, 0) e.inputB (meanOf b (e.reps + 1) % 65536, m.pass % 256) m.resB }) ∧
    ((s.pwr.osc = false ∨ m.inPass = false ∨ m.started = false) → idle (.monEntryEnd a b)) ∧
    (s.pwr.osc = false → idle (.monUrgentGo w)) ∧
    (on →
      (tbit w.toNat 31 = false → exec (.monUrgentGo w) s = .next (settle s (mon_ { m with urgentIn := asked }))) ∧
      (tbit w.toNat 31 = true → m.urgent = none → exec (.monUrgentGo w) s = .next (settle s (bump 21 0x10
        (mon_ { m with urgentIn := asked, urgent := some asked })))) ∧
      (tbit w.toNat 31 = true → m.urgent.isSome = true → exec (.monUrgentGo w) s = .next (settle s (bump 21 0x20
        (pulse0 21 1 (mon_ { m with urgentIn := asked })))))) ∧
    (m.urgent = none → idle (.urgentConversionDone n p)) ∧
    (m.urgent.isSome = true → exec (.urgentConversionDone n p) s = .next (settle s (pulse0 21 0
      (mon_ { m with urgent := none, urgentRes := w32 (n % 65536 + p % 65536 * 65536) })))) ∧
    (s.pwr.vaux = false → idle (.smbusSetOffset n) ∧ idle .smbusRead ∧ idle .smbusState ∧ idle (.tapInstruction n)) ∧
    (s.pwr.vaux = true → exec (.smbusSetOffset n) s = .next (settle s (pkg_ { s.pkg with smbus := n % 2 ^ 32 })) ∧
      exec .smbusRead s = .next (settle s { fresh s with
        pkg := { s.pkg with smbus := (s.pkg.smbus + 4) % 2 ^ 32 }, outbox := [.smbus (leBytes 4 (smbusWord s).toNat)] }) ∧
      exec .smbusState s = .next (settle s { fresh s with outbox := [.smbus (leBytes 2 (s.life.sys.code + 16 * s.pwr.cause.code))] }) ∧
      ((s.pwr.testEn = true ∨ n % 256 = 0xFF ∨ n % 256 = 1) → exec (.tapInstruction n) s = .next (settle s { fresh s with
        free := if s.pwr.testEn then s.free + 1 else s.free, outbox := if n % 256 = 1 then [.word idcode] else []
        pkg := if s.pwr.testEn then { s.pkg with
            tap := n % 256, boundary := Config.freeValue s.free
            driven := Config.tapDrives (n % 256) && n % 256 != 1 && n % 256 != 0xFF }
          else { s.pkg with tap := n % 256, driven := false } })) ∧
      (s.pwr.testEn = false → n % 256 ≠ 1 → n % 256 ≠ 0xFF → idle (.tapInstruction n))) ∧
    (tbit s.pkg.dperstDue p = false → idle (.dperstRelease p)) ∧
    (tbit s.pkg.dperstDue p = true → exec (.dperstRelease p) s = .next (settle s (pkg_ { s.pkg with
      dperst := s.pkg.dperst ||| s.pkg.dperstDue, dperstDue := 0 })))

end
end

