-- ==== Sys2Proof/Laws/Sparse.lean ====
section
/-! SUPPORT. Sparse storage: the canonical form is kept, a read gives what was written last. -/

namespace Sys2Proof.Laws
open Sys2Proof.Machine

/-- A canonical form from a bound is one from a lower bound. -/
theorem wfFrom_mono {α : Type} [DecidableEq α] {d : α} {a b : Nat} {m : Sparse α} (hab : a ≤ b)
    (h : wfFrom d b m = true) : wfFrom d a m = true := by
  cases m with
  | nil => rfl
  | cons p r =>
    simp only [wfFrom, Bool.and_eq_true, decide_eq_true_eq] at h ⊢
    exact ⟨⟨by omega, h.1.2⟩, h.2⟩

/-- A write keeps the canonical form from any bound its key meets. -/
theorem wfFrom_put {α : Type} [DecidableEq α] {d : α} {k : Nat} {v : α} {m : Sparse α} {lo : Nat}
    (h : wfFrom d lo m = true) (hk : lo ≤ k) : wfFrom d lo (put d k v m) = true := by
  induction m generalizing lo with
  | nil => unfold put; split <;> simp_all [wfFrom]
  | cons p r ih =>
    have hp : lo ≤ p.1 ∧ p.2 ≠ d ∧ wfFrom d (p.1 + 1) r = true := by simpa [wfFrom, and_assoc] using h
    unfold put
    split
    · split
      · exact h
      · rename_i h1 h2
        simp only [wfFrom, Bool.and_eq_true, decide_eq_true_eq]
        exact ⟨⟨hk, h2⟩, ⟨by omega, hp.2.1⟩, hp.2.2⟩
    · split
      · rename_i h1 h2; subst h2
        split
        · exact wfFrom_mono (by omega) hp.2.2
        · rename_i h3
          simp only [wfFrom, Bool.and_eq_true, decide_eq_true_eq]
          exact ⟨⟨hk, h3⟩, hp.2.2⟩
      · simp only [wfFrom, Bool.and_eq_true, decide_eq_true_eq]
        exact ⟨⟨hp.1, hp.2.1⟩, ih hp.2.2 (by omega)⟩

/-- A write keeps the canonical form. -/
theorem wf_put {α : Type} [DecidableEq α] {d : α} {k : Nat} {v : α} {m : Sparse α} (h : wf d m = true) :
    wf d (put d k v m) = true := wfFrom_put h (Nat.zero_le k)

/-- A change of one entry keeps the canonical form. -/
theorem wf_upd {α : Type} [DecidableEq α] {d : α} {k : Nat} {f : α → α} {m : Sparse α} (h : wf d m = true) :
    wf d (upd d k f m) = true := wf_put h

/-- A write of consecutive bytes keeps the canonical form. -/
theorem wf_putBytes {a : Nat} {bs : List Byte} {m : Sparse Byte} (h : wf 0 m = true) : wf 0 (putBytes a bs m) = true := by
  induction bs generalizing a m with
  | nil => exact h
  | cons b r ih => exact ih (wf_put h)

/-- Below its first key storage reads as the default. -/
theorem look_below {α : Type} [DecidableEq α] {d : α} {k lo : Nat} {m : Sparse α} (h : wfFrom d lo m = true) (hk : k < lo) :
    look d m k = d := by
  induction m generalizing lo with
  | nil => rfl
  | cons p r ih =>
    have hp : lo ≤ p.1 ∧ p.2 ≠ d ∧ wfFrom d (p.1 + 1) r = true := by simpa [wfFrom, and_assoc] using h
    unfold look
    rw [if_neg (by omega)]
    exact ih hp.2.2 (by omega)

/-- Reading after a write: the key written holds the value. -/
theorem look_put_same {α : Type} [DecidableEq α] {d : α} {k lo : Nat} {v : α} {m : Sparse α} (h : wfFrom d lo m = true) :
    look d (put d k v m) k = v := by
  induction m generalizing lo with
  | nil => unfold put; split <;> simp_all [look]
  | cons p r ih =>
    have hp : lo ≤ p.1 ∧ p.2 ≠ d ∧ wfFrom d (p.1 + 1) r = true := by simpa [wfFrom, and_assoc] using h
    unfold put
    split
    · rename_i h1
      split
      · rename_i h2; subst h2
        show look v (p :: r) k = v
        unfold look; rw [if_neg (by omega)]; exact look_below hp.2.2 (by omega)
      · simp [look]
    · split
      · rename_i h1 h2; subst h2
        split
        · rename_i h3; subst h3; exact look_below hp.2.2 (by omega)
        · simp [look]
      · rename_i h1 h2
        unfold look; rw [if_neg (fun e => h2 e.symm)]; exact ih hp.2.2

/-- Reading after a write: every other key reads as before. -/
theorem look_put_other {α : Type} [DecidableEq α] {d : α} {j k : Nat} {v : α} {m : Sparse α} (hj : j ≠ k) :
    look d (put d k v m) j = look d m j := by
  induction m with
  | nil => unfold put; split <;> simp [look, Ne.symm hj]
  | cons p r ih =>
    unfold put
    split
    · split
      · rfl
      · simp [look, Ne.symm hj]
    · split
      · rename_i h1 h2
        subst h2
        split <;> simp [look, Ne.symm hj]
      · simp only [look]; split
        · rfl
        · exact ih

/-- What a key reads as after a write. -/
theorem look_put {α : Type} [DecidableEq α] {d : α} {j k : Nat} {v : α} {m : Sparse α} (h : wf d m = true) :
    look d (put d k v m) j = if j = k then v else look d m j := by
  split
  · rename_i h1; subst h1; exact look_put_same h
  · exact look_put_other ‹_›

/-- What a key reads as after one entry is changed. -/
theorem look_upd {α : Type} [DecidableEq α] {d : α} {j k : Nat} {f : α → α} {m : Sparse α} (h : wf d m = true) :
    look d (upd d k f m) j = if j = k then f (look d m j) else look d m j := by
  rw [upd, look_put h]; split
  · rename_i h1; subst h1; rfl
  · rfl

/-- The entries of storage after a write. -/
theorem mem_put {α : Type} [DecidableEq α] {d : α} {k : Nat} {v : α} {m : Sparse α} {p : Nat × α}
    (h : p ∈ put d k v m) : p = (k, v) ∨ p ∈ m := by
  induction m with
  | nil => unfold put at h; split at h <;> simp_all
  | cons x r ih =>
    unfold put at h
    split at h
    · split at h
      · exact .inr h
      · simpa using h
    · split at h
      · split at h
        · exact .inr (List.mem_cons_of_mem _ h)
        · rcases List.mem_cons.mp h with h | h
          · exact .inl h
          · exact .inr (List.mem_cons_of_mem _ h)
      · rcases List.mem_cons.mp h with h | h
        · exact .inr (by simp [h])
        · rcases ih h with h | h
          · exact .inl h
          · exact .inr (List.mem_cons_of_mem _ h)

end Sys2Proof.Laws
end

