-- ==== Sys2Proof/Laws/KeepsCore.lean ====
section
/-! SUPPORT. What every command keeps: the canonical form of the store's memory, the range of every counter, the
one-time-programmable bits of the key slots, the queue of commands, and the order of time. -/

namespace Sys2Proof.Laws
open Sys2Proof.Machine

/-- The facts kept, over the parts of the state that they concern. -/
structure K (o : Sparse KeySlot) (q : List Instr) (c : Nat) (mem : Sparse Byte) (ctrs : Sparse Counter)
    (keys : Sparse KeySlot) (pend : List Instr) (cyc : Nat) : Prop where
  mem : wf 0 mem = true
  ctrs : CountersOk ctrs
  slots : wf {} keys = true
  once : Grown o keys
  queue : pend = q
  time : c ≤ cyc

/-- The facts kept, of a state. -/
def Keeps (o : Sparse KeySlot) (q : List Instr) (c : Nat) (s : State) : Prop :=
  K o q c s.store.mem s.snap.ctrs s.img.keys s.pending s.time.cycle

variable {ko : Sparse KeySlot} {kq : List Instr} {kc : Nat}

/-- The facts kept, taken apart by parts of the state. -/
theorem Keeps.k {s : State}
    (h : Keeps ko kq kc s) : K ko kq kc s.store.mem s.snap.ctrs s.img.keys s.pending s.time.cycle := h

/-- A record whose five parts keep the facts keeps them. -/
theorem keeps_mk {time : TimeBase} {stat : StatusTree} {snap : Snapshot} {key : Option Nat} {live : LiveBank} {mbox
    : Mailbox} {loader : Loader} {img : ImgRegs} {life : Life} {pwr : Power} {clk : Clk} {chans : Sparse Chan} {store : Store} {sleeves : Sparse Sleeve} {link : HostLink} {rings : Sparse Ring} {eng : EngineArray} {frames : Sparse FrameStream} {ssel : Nat} {traces : Sparse Trace} {dselTrace : Nat} {planes : Sparse Plane} {psel : Nat} {ctxs : Sparse Context} {ctxSel : Nat} {trig : Trigger} {tiu : Tiu} {disk : Disk} {cal : Cal} {recorder : Recorder} {mon : Monitor} {pkg : Package} {image : Option Image} {accepted : Option Image} {exceeded : List (Nat × Nat)} {free : Nat} {outbox : List Output} {pending : List Instr}
    (h : K ko kq kc store.mem snap.ctrs img.keys pending time.cycle) :
    Keeps ko kq kc
    (State.mk time stat snap key live mbox loader img life pwr clk chans store sleeves link rings eng frames ssel traces dselTrace planes psel ctxs ctxSel trig tiu disk cal recorder mon pkg image accepted exceeded free outbox pending) := h

/-- Both ways of a choice keep the facts. -/
theorem keeps_ite {p : Prop} [Decidable p] {a b : State} (ha : Keeps ko kq kc a) (hb : Keeps ko kq kc b) :
    Keeps ko kq kc (if p then a else b) := by split <;> assumption

/-- A repeated change keeps the facts if one does. -/
theorem keeps_foldl {α : Type} {f : State → α → State} {l : List α} {s : State}
    (hf : ∀ s a, Keeps ko kq kc s → Keeps ko kq kc (f s a)) (h : Keeps ko kq kc s) : Keeps ko kq kc (l.foldl f s) := by
  induction l generalizing s with
  | nil => exact h
  | cons a r ih => exact ih (hf s a h)

/-- A repeated change of a pair keeps the facts of its state if one does. -/
theorem keeps_foldl_fst {α β : Type} {f : State × β → α → State × β} {l : List α} {s : State × β}
    (hf : ∀ s a, Keeps ko kq kc s.1 → Keeps ko kq kc (f s a).1) (h : Keeps ko kq kc s.1) : Keeps ko kq kc
    (l.foldl f s).1 := by
  induction l generalizing s with
  | nil => exact h
  | cons a r ih => exact ih (hf s a h)

/-- A counter's new value lies in its range. -/
theorem plus_lt (x : Counter) (k n : Nat) :
    (x.plus (saturates k) n).value < if saturates k then 2 ^ 32 else 2 ^ 64 := by
  unfold Counter.plus
  split
  · simp only [*]; omega
  · simp only [*]; exact Nat.mod_lt _ (by decide)

/-- A counter written within its range. -/
theorem countersOk_put {m : Sparse Counter} {k : Nat} {x : Counter} (h : CountersOk m)
    (hx : x.value < if saturates k then 2 ^ 32 else 2 ^ 64) : CountersOk (put {} k x m) := by
  intro p hp
  rcases mem_put hp with rfl | hp
  · exact hx
  · exact h p hp

/-- A counter moves on within its range (R97). -/
theorem keeps_bumpBy (n off k : Nat) {s : State} (h : Keeps ko kq kc s) : Keeps ko kq kc (bumpBy n off k s) := by
  unfold bumpBy
  split
  · exact h
  · unfold Snapshot.bump
    dsimp only
    split <;> exact { h.k with ctrs := countersOk_put h.ctrs (plus_lt _ _ _) }

theorem keeps_mStore {f : Store → Store} (hf : ∀ t, (f t).mem = t.mem) {s : State} (h : Keeps ko kq kc s) :
    Keeps ko kq kc (mStore f s) := by
  refine { h.k with mem := ?_ }
  simpa [mStore, hf] using h.mem

theorem keeps_mImg {f : ImgRegs → ImgRegs} (hf : ∀ t, (f t).keys = t.keys) {s : State} (h : Keeps ko kq kc s) :
    Keeps ko kq kc (mImg f s) := by
  refine { h.k with slots := ?_, once := ?_ }
  · simpa [mImg, hf] using h.slots
  · simpa [mImg, hf] using h.once

theorem keeps_mTime {f : TimeBase → TimeBase} (hf : ∀ t, (f t).cycle = t.cycle) {s : State} (h : Keeps ko kq kc s) :
    Keeps ko kq kc (mTime f s) := by
  refine { h.k with time := ?_ }
  simpa [mTime, hf] using h.time

theorem keeps_mSnap {f : Snapshot → Snapshot} (hf : ∀ t, CountersOk t.ctrs → CountersOk (f t).ctrs) {s : State}
    (h : Keeps ko kq kc s) : Keeps ko kq kc (mSnap f s) := { h.k with ctrs := hf _ h.ctrs }

theorem keeps_bump (n off : Nat) (s : State) (h : Keeps ko kq kc s) :
    Keeps ko kq kc (bump n off s) := by
  unfold bump
  try dsimp only
  repeat' first
    | with_reducible first | assumption | apply keeps_bumpBy
    | exact fun _ => rfl | intro _ | with_reducible (first | apply keeps_foldl | apply keeps_ite) | split
    | (show K _ _ _ _ _ _ _ _; dsimp only; with_reducible apply Keeps.k)

theorem keeps_pulse (n k : Nat) (bits : Word) (s : State) (h : Keeps ko kq kc s) :
    Keeps ko kq kc (pulse n k bits s) := by
  unfold pulse
  try dsimp only
  repeat' first
    | with_reducible first | assumption
    | exact fun _ => rfl | intro _ | with_reducible (first | apply keeps_foldl | apply keeps_ite) | split
    | (show K _ _ _ _ _ _ _ _; dsimp only; with_reducible apply Keeps.k)

theorem keeps_pulse0 (n bit : Nat) (s : State) (h : Keeps ko kq kc s) :
    Keeps ko kq kc (pulse0 n bit s) := by
  unfold pulse0
  try dsimp only
  repeat' first
    | with_reducible first | assumption | apply keeps_pulse
    | exact fun _ => rfl | intro _ | with_reducible (first | apply keeps_foldl | apply keeps_ite) | split
    | (show K _ _ _ _ _ _ _ _; dsimp only; with_reducible apply Keeps.k)

theorem keeps_emit (o : Output) (s : State) (h : Keeps ko kq kc s) :
    Keeps ko kq kc (emit o s) := by
  unfold emit
  try dsimp only
  repeat' first
    | with_reducible first | assumption
    | exact fun _ => rfl | intro _ | with_reducible (first | apply keeps_foldl | apply keeps_ite) | split
    | (show K _ _ _ _ _ _ _ _; dsimp only; with_reducible apply Keeps.k)

theorem keeps_logEvent (code source : Nat) (params : List Nat) (s : State) (h : Keeps ko kq kc s) :
    Keeps ko kq kc (logEvent code source params s) := by
  unfold logEvent
  try dsimp only
  repeat' first
    | with_reducible first | assumption | apply keeps_pulse0 | apply keeps_bump
    | exact fun _ => rfl | intro _ | with_reducible (first | apply keeps_foldl | apply keeps_ite) | split
    | (show K _ _ _ _ _ _ _ _; dsimp only; with_reducible apply Keeps.k)

theorem keeps_sendVector (v : Nat) (s : State) (h : Keeps ko kq kc s) :
    Keeps ko kq kc (sendVector v s) := by
  unfold sendVector
  try dsimp only
  repeat' first
    | with_reducible first | assumption
    | exact fun _ => rfl | intro _ | with_reducible (first | apply keeps_foldl | apply keeps_ite) | split
    | (show K _ _ _ _ _ _ _ _; dsimp only; with_reducible apply Keeps.k)

theorem keeps_mStat (f : StatusTree → StatusTree) (s : State) (h : Keeps ko kq kc s) : Keeps ko kq kc (mStat f s) := h

theorem keeps_mLive (f : LiveBank → LiveBank) (s : State) (h : Keeps ko kq kc s) : Keeps ko kq kc (mLive f s) := h

theorem keeps_mMbox (f : Mailbox → Mailbox) (s : State) (h : Keeps ko kq kc s) : Keeps ko kq kc (mMbox f s) := h

theorem keeps_mLoader (f : Loader → Loader) (s : State) (h : Keeps ko kq kc s) : Keeps ko kq kc (mLoader f s) := h

theorem keeps_mLife (f : Life → Life) (s : State) (h : Keeps ko kq kc s) : Keeps ko kq kc (mLife f s) := h

theorem keeps_mPwr (f : Power → Power) (s : State) (h : Keeps ko kq kc s) : Keeps ko kq kc (mPwr f s) := h

theorem keeps_mClk (f : Clk → Clk) (s : State) (h : Keeps ko kq kc s) : Keeps ko kq kc (mClk f s) := h

theorem keeps_mLink (f : HostLink → HostLink) (s : State) (h : Keeps ko kq kc s) : Keeps ko kq kc (mLink f s) := h

theorem keeps_mEng (f : EngineArray → EngineArray) (s : State) (h : Keeps ko kq kc s) : Keeps ko kq kc (mEng f s) := h

theorem keeps_mTrig (f : Trigger → Trigger) (s : State) (h : Keeps ko kq kc s) : Keeps ko kq kc (mTrig f s) := h

theorem keeps_mTiu (f : Tiu → Tiu) (s : State) (h : Keeps ko kq kc s) : Keeps ko kq kc (mTiu f s) := h

theorem keeps_mDisk (f : Disk → Disk) (s : State) (h : Keeps ko kq kc s) : Keeps ko kq kc (mDisk f s) := h

theorem keeps_mCal (f : Cal → Cal) (s : State) (h : Keeps ko kq kc s) : Keeps ko kq kc (mCal f s) := h

theorem keeps_mRec (f : Recorder → Recorder) (s : State) (h : Keeps ko kq kc s) : Keeps ko kq kc (mRec f s) := h

theorem keeps_mMon (f : Monitor → Monitor) (s : State) (h : Keeps ko kq kc s) : Keeps ko kq kc (mMon f s) := h

theorem keeps_mPkg (f : Package → Package) (s : State) (h : Keeps ko kq kc s) : Keeps ko kq kc (mPkg f s) := h

theorem keeps_mChan (k : Nat) (f : Chan → Chan) (s : State) (h : Keeps ko kq kc s) : Keeps ko kq kc (mChan k f s) := h

theorem keeps_mSleeve (k : Nat) (f : Sleeve → Sleeve) (s : State) (h : Keeps ko kq kc s) : Keeps ko kq kc
    (mSleeve k f s) := h

theorem keeps_mRing (k : Nat) (f : Ring → Ring) (s : State) (h : Keeps ko kq kc s) : Keeps ko kq kc (mRing k f s) := h

theorem keeps_mFrame (k : Nat) (f : FrameStream → FrameStream) (s : State) (h : Keeps ko kq kc s) : Keeps ko kq kc
    (mFrame k f s) := h

theorem keeps_mTrace (k : Nat) (f : Trace → Trace) (s : State) (h : Keeps ko kq kc s) : Keeps ko kq kc
    (mTrace k f s) := h

theorem keeps_mPlane (k : Nat) (f : Plane → Plane) (s : State) (h : Keeps ko kq kc s) : Keeps ko kq kc
    (mPlane k f s) := h

theorem keeps_mCtx (k : Nat) (f : Context → Context) (s : State) (h : Keeps ko kq kc s) : Keeps ko kq kc
    (mCtx k f s) := h

theorem keeps_mEngine (k : Nat) (f : Engine → Engine) (s : State) (h : Keeps ko kq kc s) : Keeps ko kq kc
    (mEngine k f s) := h

theorem keeps_mCond (k : Nat) (f : Cond → Cond) (s : State) (h : Keeps ko kq kc s) : Keeps ko kq kc (mCond k f s) := h

theorem keeps_mGroup (k : Nat) (f : Group → Group) (s : State) (h : Keeps ko kq kc s) : Keeps ko kq kc
    (mGroup k f s) := h

theorem keeps_mInput (k : Nat) (f : EvtInput → EvtInput) (s : State) (h : Keeps ko kq kc s) : Keeps ko kq kc
    (mInput k f s) := h

theorem keeps_mUnit (k : Nat) (f : IntervalUnit → IntervalUnit) (s : State)
    (h : Keeps ko kq kc s) : Keeps ko kq kc (mUnit k f s) := h

theorem keeps_mOut (k : Nat) (f : OutPin → OutPin) (s : State) (h : Keeps ko kq kc s) : Keeps ko kq kc (mOut k f s) := h

theorem keeps_mDrive (k : Nat) (f : Drive → Drive) (s : State) (h : Keeps ko kq kc s) : Keeps ko kq kc
    (mDrive k f s) := h

theorem keeps_nextFree (s : State) (h : Keeps ko kq kc s) :
    Keeps ko kq kc (nextFree s) := by
  unfold nextFree
  try dsimp only
  repeat' first
    | with_reducible first | assumption
    | exact fun _ => rfl | intro _ | with_reducible (first | apply keeps_foldl | apply keeps_ite) | split
    | (show K _ _ _ _ _ _ _ _; dsimp only; with_reducible apply Keeps.k)

theorem keeps_fabBoundary (s : State) (h : Keeps ko kq kc s) :
    Keeps ko kq kc (fabBoundary s) := by
  unfold fabBoundary
  try dsimp only
  repeat' first
    | with_reducible first | assumption
    | exact fun _ => rfl | intro _ | with_reducible (first | apply keeps_foldl | apply keeps_ite) | split
    | (show K _ _ _ _ _ _ _ _; dsimp only; with_reducible apply Keeps.k)

theorem keeps_passCycle (s : State) (h : Keeps ko kq kc s) : Keeps ko kq kc (passCycle s) := by
  have h1 : Keeps ko kq kc { s with time := s.time.plus 1 } :=
    { h.k with time := Nat.le_trans h.time (Nat.le_add_right _ _) }
  unfold passCycle
  dsimp only
  split
  · exact keeps_fabBoundary _ h1
  · exact h1

theorem keeps_tidyLoop (i : Nat) (k : Nat) (s : State) (h : Keeps ko kq kc s) : Keeps ko kq kc (tidyLoop i k s) := by
  induction k generalizing s with
  | zero => exact h
  | succ k ih =>
    unfold tidyLoop
    try dsimp only
    repeat' first
      | with_reducible first | assumption | apply ih | apply keeps_mSleeve
      | exact fun _ => rfl | intro _ | with_reducible (first | apply keeps_foldl | apply keeps_ite) | split

theorem keeps_resumeWriter (i : Nat) (s : State) (h : Keeps ko kq kc s) :
    Keeps ko kq kc (resumeWriter i s) := by
  unfold resumeWriter
  try dsimp only
  repeat' first
    | with_reducible first | assumption | apply keeps_mSleeve
    | exact fun _ => rfl | intro _ | with_reducible (first | apply keeps_foldl | apply keeps_ite) | split
    | (show K _ _ _ _ _ _ _ _; dsimp only; with_reducible apply Keeps.k)

theorem keeps_tidyMarkers (i : Nat) (s : State) (h : Keeps ko kq kc s) :
    Keeps ko kq kc (tidyMarkers i s) := by
  unfold tidyMarkers
  try dsimp only
  repeat' first
    | with_reducible first | assumption | apply keeps_resumeWriter | apply keeps_tidyLoop
    | exact fun _ => rfl | intro _ | with_reducible (first | apply keeps_foldl | apply keeps_ite) | split
    | (show K _ _ _ _ _ _ _ _; dsimp only; with_reducible apply Keeps.k)

theorem keeps_placeMarker (i : Nat) (overflow : Bool) (blocks time : Nat) (s : State) (h : Keeps ko kq kc s) :
    Keeps ko kq kc (placeMarker i overflow blocks time s) := by
  unfold placeMarker
  try dsimp only
  repeat' first
    | with_reducible first | assumption | apply keeps_mSleeve | apply keeps_pulse0 | apply keeps_bump
    | exact fun _ => rfl | intro _ | with_reducible (first | apply keeps_foldl | apply keeps_ite) | split
    | (show K _ _ _ _ _ _ _ _; dsimp only; with_reducible apply Keeps.k)

theorem keeps_resizeReader (i j amount newCount : Nat) (s : State) (h : Keeps ko kq kc s) :
    Keeps ko kq kc (resizeReader i j amount newCount s) := by
  unfold resizeReader
  try dsimp only
  repeat' first
    | with_reducible first | assumption | apply keeps_mSleeve | apply keeps_pulse
    | exact fun _ => rfl | intro _ | with_reducible (first | apply keeps_foldl | apply keeps_ite) | split
    | (show K _ _ _ _ _ _ _ _; dsimp only; with_reducible apply Keeps.k)

theorem keeps_settleReader (i : Nat) (s : State) (j : Nat) (h : Keeps ko kq kc s) :
    Keeps ko kq kc (settleReader i s j) := by
  unfold settleReader
  try dsimp only
  repeat' first
    | with_reducible first | assumption | apply keeps_resizeReader
    | exact fun _ => rfl | intro _ | with_reducible (first | apply keeps_foldl | apply keeps_ite) | split
    | (show K _ _ _ _ _ _ _ _; dsimp only; with_reducible apply Keeps.k)

theorem keeps_wrapSleeve (i : Nat) (s : State) (h : Keeps ko kq kc s) :
    Keeps ko kq kc (wrapSleeve i s) := by
  unfold wrapSleeve
  try dsimp only
  repeat' first
    | with_reducible first | assumption | apply keeps_settleReader | apply keeps_mSleeve
    | exact fun _ => rfl | intro _ | with_reducible (first | apply keeps_foldl | apply keeps_ite) | split
    | (show K _ _ _ _ _ _ _ _; dsimp only; with_reducible apply Keeps.k)

theorem keeps_lapReader (i : Nat) (s : State) (j : Nat) (h : Keeps ko kq kc s) :
    Keeps ko kq kc (lapReader i s j) := by
  unfold lapReader
  try dsimp only
  repeat' first
    | with_reducible first | assumption | apply keeps_mSleeve | apply keeps_bumpBy | apply keeps_pulse
    | exact fun _ => rfl | intro _ | with_reducible (first | apply keeps_foldl | apply keeps_ite) | split
    | (show K _ _ _ _ _ _ _ _; dsimp only; with_reducible apply Keeps.k)

theorem keeps_storeChunk (i : Nat) (data : List Byte) (s : State) (h : Keeps ko kq kc s) :
    Keeps ko kq kc (storeChunk i data s) := by
  have h1 : Keeps ko kq kc { s with store := { s.store with
      mem := putBytes ((sleeveDecl s i).base + ((sleeve s i).wcount - (sleeve s i).passStart)) data s.store.mem } } :=
    { h.k with mem := wf_putBytes h.mem }
  unfold storeChunk
  dsimp only
  repeat' first
    | with_reducible first | assumption | apply keeps_mSleeve | apply keeps_wrapSleeve | apply keeps_lapReader
    | exact h1 | intro _ | with_reducible (first | apply keeps_foldl) | split

theorem keeps_storeBytes (i : Nat) (k : Nat) (data : List Byte) (s : State)
    (h : Keeps ko kq kc s) : Keeps ko kq kc (storeBytes i k data s) := by
  induction k generalizing data s with
  | zero => exact h
  | succ k ih =>
    unfold storeBytes
    try dsimp only
    repeat' first
      | with_reducible first | assumption | apply ih | apply keeps_storeChunk
      | exact fun _ => rfl | intro _ | with_reducible (first | apply keeps_foldl | apply keeps_ite) | split

theorem keeps_storeAll (i : Nat) (data : List Byte) (s : State) (h : Keeps ko kq kc s) :
    Keeps ko kq kc (storeAll i data s) := by
  unfold storeAll
  try dsimp only
  repeat' first
    | with_reducible first | assumption | apply keeps_storeBytes | apply keeps_mSleeve
    | exact fun _ => rfl | intro _ | with_reducible (first | apply keeps_foldl | apply keeps_ite) | split
    | (show K _ _ _ _ _ _ _ _; dsimp only; with_reducible apply Keeps.k)

theorem keeps_stopWriter (i time : Nat) (s : State) (h : Keeps ko kq kc s) :
    Keeps ko kq kc (stopWriter i time s) := by
  unfold stopWriter
  try dsimp only
  repeat' first
    | with_reducible first | assumption | apply keeps_placeMarker | apply keeps_mSleeve
    | exact fun _ => rfl | intro _ | with_reducible (first | apply keeps_foldl | apply keeps_ite) | split
    | (show K _ _ _ _ _ _ _ _; dsimp only; with_reducible apply Keeps.k)

theorem keeps_dropBlock (i time : Nat) (s : State) (h : Keeps ko kq kc s) :
    Keeps ko kq kc (dropBlock i time s) := by
  unfold dropBlock
  try dsimp only
  repeat' first
    | with_reducible first | assumption | apply keeps_mSleeve | apply keeps_bump
    | exact fun _ => rfl | intro _ | with_reducible (first | apply keeps_foldl | apply keeps_ite) | split
    | (show K _ _ _ _ _ _ _ _; dsimp only; with_reducible apply Keeps.k)

theorem keeps_endDrop (i : Nat) (s : State) (h : Keeps ko kq kc s) :
    Keeps ko kq kc (endDrop i s) := by
  unfold endDrop
  try dsimp only
  repeat' first
    | with_reducible first | assumption | apply keeps_placeMarker | apply keeps_mSleeve
    | exact fun _ => rfl | intro _ | with_reducible (first | apply keeps_foldl | apply keeps_ite) | split
    | (show K _ _ _ _ _ _ _ _; dsimp only; with_reducible apply Keeps.k)

theorem keeps_noteResult (i t : Nat) (s : State) (h : Keeps ko kq kc s) :
    Keeps ko kq kc (noteResult i t s) := by
  unfold noteResult
  try dsimp only
  repeat' first
    | with_reducible first | assumption | apply keeps_mSleeve
    | exact fun _ => rfl | intro _ | with_reducible (first | apply keeps_foldl | apply keeps_ite) | split
    | (show K _ _ _ _ _ _ _ _; dsimp only; with_reducible apply Keeps.k)

theorem keeps_appendLoop (i : Nat) (tm : Nat → Nat) (k : Nat) (o : Nat) (data : List Byte) (s : State)
    (h : Keeps ko kq kc s) : Keeps ko kq kc (appendLoop i tm k o data s) := by
  induction k generalizing o data s with
  | zero => exact h
  | succ k ih =>
    unfold appendLoop
    try dsimp only
    repeat' first
      | with_reducible first | assumption | apply ih | apply keeps_stopWriter | apply keeps_noteResult
                             | apply keeps_dropBlock | apply keeps_storeAll | apply keeps_mSleeve
                             | apply keeps_endDrop
      | exact fun _ => rfl | intro _ | with_reducible (first | apply keeps_foldl | apply keeps_ite) | split

theorem keeps_appendTimed (i : Nat) (tm : Nat → Nat) (data : List Byte) (s : State) (h : Keeps ko kq kc s) :
    Keeps ko kq kc (appendTimed i tm data s) := by
  unfold appendTimed
  try dsimp only
  repeat' first
    | with_reducible first | assumption | apply keeps_tidyMarkers | apply keeps_appendLoop
    | exact fun _ => rfl | intro _ | with_reducible (first | apply keeps_foldl | apply keeps_ite) | split
    | (show K _ _ _ _ _ _ _ _; dsimp only; with_reducible apply Keeps.k)

theorem keeps_appendBytes (i time : Nat) (data : List Byte) (s : State) (h : Keeps ko kq kc s) :
    Keeps ko kq kc (appendBytes i time data s) := by
  unfold appendBytes
  try dsimp only
  repeat' first
    | with_reducible first | assumption | apply keeps_appendTimed
    | exact fun _ => rfl | intro _ | with_reducible (first | apply keeps_foldl | apply keeps_ite) | split
    | (show K _ _ _ _ _ _ _ _; dsimp only; with_reducible apply Keeps.k)

theorem keeps_refuseRecord (i time : Nat) (s : State) (h : Keeps ko kq kc s) :
    Keeps ko kq kc (refuseRecord i time s) := by
  unfold refuseRecord
  try dsimp only
  repeat' first
    | with_reducible first | assumption | apply keeps_stopWriter | apply keeps_dropBlock
    | exact fun _ => rfl | intro _ | with_reducible (first | apply keeps_foldl | apply keeps_ite) | split
    | (show K _ _ _ _ _ _ _ _; dsimp only; with_reducible apply Keeps.k)

theorem keeps_appendRecord (i time : Nat) (data : List Byte) (s : State) (h : Keeps ko kq kc s) :
    Keeps ko kq kc (appendRecord i time data s).1 := by
  unfold appendRecord
  try dsimp only
  repeat' first
    | with_reducible first | assumption | apply keeps_refuseRecord | apply keeps_tidyMarkers | apply keeps_noteResult
                           | apply keeps_storeAll | apply keeps_endDrop
    | exact fun _ => rfl | intro _ | with_reducible (first | apply keeps_foldl | apply keeps_ite) | split
    | (show K _ _ _ _ _ _ _ _; dsimp only; with_reducible apply Keeps.k)

theorem keeps_beginRawBlock (i n : Nat) (s : State) (h : Keeps ko kq kc s) :
    Keeps ko kq kc (beginRawBlock i n s) := by
  unfold beginRawBlock
  try dsimp only
  repeat' first
    | with_reducible first | assumption | apply keeps_stopWriter | apply keeps_dropBlock | apply keeps_mSleeve
                           | apply keeps_endDrop
    | exact fun _ => rfl | intro _ | with_reducible (first | apply keeps_foldl | apply keeps_ite) | split
    | (show K _ _ _ _ _ _ _ _; dsimp only; with_reducible apply Keeps.k)

theorem keeps_takeMarker (i j : Nat) (s : State) (h : Keeps ko kq kc s) :
    Keeps ko kq kc (takeMarker i j s) := by
  unfold takeMarker
  try dsimp only
  repeat' first
    | with_reducible first | assumption | apply keeps_tidyMarkers | apply keeps_mSleeve
    | exact fun _ => rfl | intro _ | with_reducible (first | apply keeps_foldl | apply keeps_ite) | split
    | (show K _ _ _ _ _ _ _ _; dsimp only; with_reducible apply Keeps.k)

theorem keeps_advanceReader (i j n : Nat) (s : State) (h : Keeps ko kq kc s) :
    Keeps ko kq kc (advanceReader i j n s) := by
  unfold advanceReader
  try dsimp only
  repeat' first
    | with_reducible first | assumption | apply keeps_settleReader | apply keeps_tidyMarkers | apply keeps_mSleeve
    | exact fun _ => rfl | intro _ | with_reducible (first | apply keeps_foldl | apply keeps_ite) | split
    | (show K _ _ _ _ _ _ _ _; dsimp only; with_reducible apply Keeps.k)

theorem keeps_markAdj (c a b : Nat) (s : State) (h : Keeps ko kq kc s) :
    Keeps ko kq kc (markAdj c a b s) := by
  unfold markAdj
  try dsimp only
  repeat' first
    | with_reducible first | assumption | apply keeps_mChan
    | exact fun _ => rfl | intro _ | with_reducible (first | apply keeps_foldl | apply keeps_ite) | split
    | (show K _ _ _ _ _ _ _ _; dsimp only; with_reducible apply Keeps.k)

theorem keeps_markWindow (c a b : Nat) (s : State) (h : Keeps ko kq kc s) :
    Keeps ko kq kc (markWindow c a b s) := by
  unfold markWindow
  try dsimp only
  repeat' first
    | with_reducible first | assumption | apply keeps_markAdj | apply keeps_mChan
    | exact fun _ => rfl | intro _ | with_reducible (first | apply keeps_foldl | apply keeps_ite) | split
    | (show K _ _ _ _ _ _ _ _; dsimp only; with_reducible apply Keeps.k)

theorem keeps_clampSlice (c slice : Nat) (s : State) (h : Keeps ko kq kc s) :
    Keeps ko kq kc (clampSlice c slice s) := by
  unfold clampSlice
  try dsimp only
  repeat' first
    | with_reducible first | assumption | apply keeps_markWindow | apply keeps_mChan | apply keeps_bump
    | exact fun _ => rfl | intro _ | with_reducible (first | apply keeps_foldl | apply keeps_ite) | split
    | (show K _ _ _ _ _ _ _ _; dsimp only; with_reducible apply Keeps.k)

theorem keeps_tripDeep (c : Nat) (s : State) (h : Keeps ko kq kc s) :
    Keeps ko kq kc (tripDeep c s) := by
  unfold tripDeep
  try dsimp only
  repeat' first
    | with_reducible first | assumption | apply keeps_markWindow | apply keeps_pulse | apply keeps_mChan
                           | apply keeps_bump
    | exact fun _ => rfl | intro _ | with_reducible (first | apply keeps_foldl | apply keeps_ite) | split
    | (show K _ _ _ _ _ _ _ _; dsimp only; with_reducible apply Keeps.k)

theorem keeps_driveRelay (c relay pos : Nat) (s : State) (h : Keeps ko kq kc s) :
    Keeps ko kq kc (driveRelay c relay pos s) := by
  unfold driveRelay
  try dsimp only
  repeat' first
    | with_reducible first | assumption | apply keeps_bump | apply keeps_emit
    | exact fun _ => rfl | intro _ | with_reducible (first | apply keeps_foldl | apply keeps_ite) | split
    | (show K _ _ _ _ _ _ _ _; dsimp only; with_reducible apply Keeps.k)

theorem keeps_startCoupling (c pos : Nat) (s : State) (h : Keeps ko kq kc s) :
    Keeps ko kq kc (startCoupling c pos s) := by
  unfold startCoupling
  try dsimp only
  repeat' first
    | with_reducible first | assumption | apply keeps_driveRelay | apply keeps_mChan
    | exact fun _ => rfl | intro _ | with_reducible (first | apply keeps_foldl | apply keeps_ite) | split
    | (show K _ _ _ _ _ _ _ _; dsimp only; with_reducible apply Keeps.k)

theorem keeps_startLining (c pos : Nat) (s : State) (h : Keeps ko kq kc s) :
    Keeps ko kq kc (startLining c pos s) := by
  unfold startLining
  try dsimp only
  repeat' first
    | with_reducible first | assumption | apply keeps_driveRelay | apply keeps_mChan
    | exact fun _ => rfl | intro _ | with_reducible (first | apply keeps_foldl | apply keeps_ite) | split
    | (show K _ _ _ _ _ _ _ _; dsimp only; with_reducible apply Keeps.k)

theorem keeps_switchRange (c r n : Nat) (s : State) (h : Keeps ko kq kc s) :
    Keeps ko kq kc (switchRange c r n s) := by
  unfold switchRange
  try dsimp only
  repeat' first
    | with_reducible first | assumption | apply keeps_markAdj | apply keeps_mChan
    | exact fun _ => rfl | intro _ | with_reducible (first | apply keeps_foldl | apply keeps_ite) | split
    | (show K _ _ _ _ _ _ _ _; dsimp only; with_reducible apply Keeps.k)

theorem keeps_applyRange (c r n : Nat) (s : State) (h : Keeps ko kq kc s) :
    Keeps ko kq kc (applyRange c r n s) := by
  unfold applyRange
  try dsimp only
  repeat' first
    | with_reducible first | assumption | apply keeps_switchRange | apply keeps_mChan
    | exact fun _ => rfl | intro _ | with_reducible (first | apply keeps_foldl | apply keeps_ite) | split
    | (show K _ _ _ _ _ _ _ _; dsimp only; with_reducible apply Keeps.k)

theorem keeps_setCoupling (c v : Nat) (s : State) (h : Keeps ko kq kc s) :
    Keeps ko kq kc (setCoupling c v s) := by
  unfold setCoupling
  try dsimp only
  repeat' first
    | with_reducible first | assumption | apply keeps_startCoupling
    | exact fun _ => rfl | intro _ | with_reducible (first | apply keeps_foldl | apply keeps_ite) | split
    | (show K _ _ _ _ _ _ _ _; dsimp only; with_reducible apply Keeps.k)

theorem keeps_applyCoupling (c v : Nat) (s : State) (h : Keeps ko kq kc s) :
    Keeps ko kq kc (applyCoupling c v s) := by
  unfold applyCoupling
  try dsimp only
  repeat' first
    | with_reducible first | assumption | apply keeps_setCoupling | apply keeps_mChan
    | exact fun _ => rfl | intro _ | with_reducible (first | apply keeps_foldl | apply keeps_ite) | split
    | (show K _ _ _ _ _ _ _ _; dsimp only; with_reducible apply Keeps.k)

theorem keeps_seamRelays (n : Nat) (s : State) (c : Nat) (h : Keeps ko kq kc s) :
    Keeps ko kq kc (seamRelays n s c) := by
  unfold seamRelays
  try dsimp only
  repeat' first
    | with_reducible first | assumption | apply keeps_applyCoupling | apply keeps_applyRange
    | exact fun _ => rfl | intro _ | with_reducible (first | apply keeps_foldl | apply keeps_ite) | split
    | (show K _ _ _ _ _ _ _ _; dsimp only; with_reducible apply Keeps.k)

theorem keeps_endCoupling (c pos : Nat) (s : State) (h : Keeps ko kq kc s) :
    Keeps ko kq kc (endCoupling c pos s) := by
  unfold endCoupling
  try dsimp only
  repeat' first
    | with_reducible first | assumption | apply keeps_mChan
    | exact fun _ => rfl | intro _ | with_reducible (first | apply keeps_foldl | apply keeps_ite) | split
    | (show K _ _ _ _ _ _ _ _; dsimp only; with_reducible apply Keeps.k)

theorem keeps_endLining (c pos : Nat) (s : State) (h : Keeps ko kq kc s) :
    Keeps ko kq kc (endLining c pos s) := by
  unfold endLining
  try dsimp only
  repeat' first
    | with_reducible first | assumption | apply keeps_mChan
    | exact fun _ => rfl | intro _ | with_reducible (first | apply keeps_foldl | apply keeps_ite) | split
    | (show K _ _ _ _ _ _ _ _; dsimp only; with_reducible apply Keeps.k)

theorem keeps_relayReached (c relay : Nat) (s : State) (h : Keeps ko kq kc s) :
    Keeps ko kq kc (relayReached c relay s) := by
  unfold relayReached
  try dsimp only
  repeat' first
    | with_reducible first | assumption | apply keeps_endCoupling | apply keeps_endLining
    | exact fun _ => rfl | intro _ | with_reducible (first | apply keeps_foldl | apply keeps_ite) | split
    | (show K _ _ _ _ _ _ _ _; dsimp only; with_reducible apply Keeps.k)

theorem keeps_retryRelay (c relay : Nat) (s : State) (h : Keeps ko kq kc s) :
    Keeps ko kq kc (retryRelay c relay s) := by
  unfold retryRelay
  try dsimp only
  repeat' first
    | with_reducible first | assumption | apply keeps_driveRelay | apply keeps_mChan
    | exact fun _ => rfl | intro _ | with_reducible (first | apply keeps_foldl | apply keeps_ite) | split
    | (show K _ _ _ _ _ _ _ _; dsimp only; with_reducible apply Keeps.k)

theorem keeps_faultRelay (c relay sensed : Nat) (s : State) (h : Keeps ko kq kc s) :
    Keeps ko kq kc (faultRelay c relay sensed s) := by
  unfold faultRelay
  try dsimp only
  repeat' first
    | with_reducible first | assumption | apply keeps_endCoupling | apply keeps_endLining | apply keeps_logEvent
                           | apply keeps_mChan
    | exact fun _ => rfl | intro _ | with_reducible (first | apply keeps_foldl | apply keeps_ite) | split
    | (show K _ _ _ _ _ _ _ _; dsimp only; with_reducible apply Keeps.k)

theorem keeps_storeRaw (c n : Nat) (codes : List Int) (s : State) (i : Nat) (h : Keeps ko kq kc s) :
    Keeps ko kq kc (storeRaw c n codes s i) := by
  unfold storeRaw
  try dsimp only
  repeat' first
    | with_reducible first | assumption | apply keeps_beginRawBlock | apply keeps_tidyMarkers | apply keeps_storeAll
    | exact fun _ => rfl | intro _ | with_reducible (first | apply keeps_foldl | apply keeps_ite) | split
    | (show K _ _ _ _ _ _ _ _; dsimp only; with_reducible apply Keeps.k)

theorem keeps_channelSamples (c : Nat) (codes : List Int) (s : State) (h : Keeps ko kq kc s) :
    Keeps ko kq kc (channelSamples c codes s) := by
  unfold channelSamples
  try dsimp only
  repeat' first
    | with_reducible first | assumption | apply keeps_storeRaw | apply keeps_markAdj | apply keeps_bumpBy
                           | apply keeps_mChan
    | exact fun _ => rfl | intro _ | with_reducible (first | apply keeps_foldl | apply keeps_ite) | split
    | (show K _ _ _ _ _ _ _ _; dsimp only; with_reducible apply Keeps.k)

theorem keeps_writeVolatile (e : Rec) (s : State) (h : Keeps ko kq kc s) :
    Keeps ko kq kc (writeVolatile e s) := by
  unfold writeVolatile
  try dsimp only
  repeat' first
    | with_reducible first | assumption | apply keeps_bumpBy | apply keeps_pulse0 | apply keeps_bump
    | exact fun _ => rfl | intro _ | with_reducible (first | apply keeps_foldl | apply keeps_ite) | split
    | (show K _ _ _ _ _ _ _ _; dsimp only; with_reducible apply Keeps.k)

theorem keeps_degrade (reason : Nat) (s : State) (h : Keeps ko kq kc s) :
    Keeps ko kq kc (degrade reason s) := by
  unfold degrade
  try dsimp only
  repeat' first
    | with_reducible first | assumption | apply keeps_writeVolatile
    | exact fun _ => rfl | intro _ | with_reducible (first | apply keeps_foldl | apply keeps_ite) | split
    | (show K _ _ _ _ _ _ _ _; dsimp only; with_reducible apply Keeps.k)

theorem keeps_placeRec (e : Rec) (s : State) (h : Keeps ko kq kc s) :
    Keeps ko kq kc (placeRec e s) := by
  unfold placeRec
  try dsimp only
  repeat' first
    | with_reducible first | assumption | apply keeps_bumpBy | apply keeps_pulse0 | apply keeps_bump
    | exact fun _ => rfl | intro _ | with_reducible (first | apply keeps_foldl | apply keeps_ite) | split
    | (show K _ _ _ _ _ _ _ _; dsimp only; with_reducible apply Keeps.k)

theorem keeps_mergeRec (e : Rec) (bp : Nat × Nat) (s : State) (h : Keeps ko kq kc s) :
    Keeps ko kq kc (mergeRec e bp s) := by
  unfold mergeRec
  try dsimp only
  repeat' first
    | with_reducible first | assumption | apply keeps_pulse0 | apply keeps_bump
    | exact fun _ => rfl | intro _ | with_reducible (first | apply keeps_foldl | apply keeps_ite) | split
    | (show K _ _ _ _ _ _ _ _; dsimp only; with_reducible apply Keeps.k)

theorem keeps_putRec (e : Rec) (s : State) (h : Keeps ko kq kc s) :
    Keeps ko kq kc (putRec e s) := by
  unfold putRec
  try dsimp only
  repeat' first
    | with_reducible first | assumption | apply keeps_placeRec | apply keeps_mergeRec
    | exact fun _ => rfl | intro _ | with_reducible (first | apply keeps_foldl | apply keeps_ite) | split
    | (show K _ _ _ _ _ _ _ _; dsimp only; with_reducible apply Keeps.k)

theorem keeps_remapBlock (e : Rec) (s : State) (h : Keeps ko kq kc s) :
    Keeps ko kq kc (remapBlock e s) := by
  unfold remapBlock
  try dsimp only
  repeat' first
    | with_reducible first | assumption | apply keeps_bumpBy
    | exact fun _ => rfl | intro _ | with_reducible (first | apply keeps_foldl | apply keeps_ite) | split
    | (show K _ _ _ _ _ _ _ _; dsimp only; with_reducible apply Keeps.k)

theorem keeps_failRec (e : Rec) (copyVerify : Bool) (s : State) (h : Keeps ko kq kc s) :
    Keeps ko kq kc (failRec e copyVerify s) := by
  unfold failRec
  try dsimp only
  repeat' first
    | with_reducible first | assumption | apply keeps_writeVolatile | apply keeps_remapBlock | apply keeps_degrade
                           | apply keeps_pulse0 | apply keeps_putRec
    | exact fun _ => rfl | intro _ | with_reducible (first | apply keeps_foldl | apply keeps_ite) | split
    | (show K _ _ _ _ _ _ _ _; dsimp only; with_reducible apply Keeps.k)

theorem keeps_takeRec (s : State) (h : Keeps ko kq kc s) (p : Rec × State)
    (hp : takeRec s = some p) : Keeps ko kq kc p.2 := by
  unfold takeRec at hp
  split at hp
  · cases hp; exact h
  · split at hp
    · cases hp; exact h
    · split at hp
      · cases hp; exact h
      · cases hp

theorem keeps_writeRecord (verify copyVerify stateVerify : Bool) (s : State) (h : Keeps ko kq kc s) :
    Keeps ko kq kc (writeRecord verify copyVerify stateVerify s) := by
  unfold writeRecord
  split
  · exact h
  · rename_i e t ht
    have h' : Keeps ko kq kc t := keeps_takeRec s h (e, t) ht
    dsimp only
    repeat' first
      | with_reducible first | assumption | apply keeps_writeVolatile | apply keeps_failRec | apply keeps_putRec
                             | apply keeps_degrade
      | split

theorem keeps_beginFreeze (s : State) (h : Keeps ko kq kc s) :
    Keeps ko kq kc (beginFreeze s) := by
  unfold beginFreeze
  try dsimp only
  repeat' first
    | with_reducible first | assumption
    | exact fun _ => rfl | intro _ | with_reducible (first | apply keeps_foldl | apply keeps_ite) | split
    | (show K _ _ _ _ _ _ _ _; dsimp only; with_reducible apply Keeps.k)

theorem keeps_endFreeze (s : State) (h : Keeps ko kq kc s) :
    Keeps ko kq kc (endFreeze s) := by
  unfold endFreeze
  try dsimp only
  repeat' first
    | with_reducible first | assumption
    | exact fun _ => rfl | intro _ | with_reducible (first | apply keeps_foldl | apply keeps_ite) | split
    | (show K _ _ _ _ _ _ _ _; dsimp only; with_reducible apply Keeps.k)

theorem keeps_clearLog (signer : Nat) (token : Digest) (s : State) (h : Keeps ko kq kc s) :
    Keeps ko kq kc (clearLog signer token s) := by
  unfold clearLog
  try dsimp only
  repeat' first
    | with_reducible first | assumption | apply keeps_writeVolatile | apply keeps_placeRec | apply keeps_pulse0
    | exact fun _ => rfl | intro _ | with_reducible (first | apply keeps_foldl | apply keeps_ite) | split
    | (show K _ _ _ _ _ _ _ _; dsimp only; with_reducible apply Keeps.k)

theorem keeps_programFallback (s : State) (h : Keeps ko kq kc s) :
    Keeps ko kq kc (programFallback s) := by
  unfold programFallback
  try dsimp only
  repeat' first
    | with_reducible first | assumption | apply keeps_bumpBy | apply keeps_emit
    | exact fun _ => rfl | intro _ | with_reducible (first | apply keeps_foldl | apply keeps_ite) | split
    | (show K _ _ _ _ _ _ _ _; dsimp only; with_reducible apply Keeps.k)

theorem keeps_countUp (kind v : Nat) (set : Nat → Recorder → Recorder) (s : State) (h : Keeps ko kq kc s) :
    Keeps ko kq kc (countUp kind v set s) := by
  unfold countUp
  try dsimp only
  repeat' first
    | with_reducible first | assumption | apply keeps_logEvent
    | exact fun _ => rfl | intro _ | with_reducible (first | apply keeps_foldl | apply keeps_ite) | split
    | (show K _ _ _ _ _ _ _ _; dsimp only; with_reducible apply Keeps.k)

theorem keeps_recorderPowerUp (mramOk : Bool) (f : MramFound) (s : State) (h : Keeps ko kq kc s) :
    Keeps ko kq kc (recorderPowerUp mramOk f s) := by
  unfold recorderPowerUp
  try dsimp only
  repeat' first
    | with_reducible first | assumption | apply keeps_logEvent | apply keeps_degrade | apply keeps_countUp
    | exact fun _ => rfl | intro _ | with_reducible (first | apply keeps_foldl | apply keeps_ite) | split
    | (show K _ _ _ _ _ _ _ _; dsimp only; with_reducible apply Keeps.k)

theorem keeps_underLimit (f : Clk → Clk) (s : State) (h : Keeps ko kq kc s) :
    Keeps ko kq kc (underLimit f s) := by
  unfold underLimit
  try dsimp only
  repeat' first
    | with_reducible first | assumption | apply keeps_logEvent | apply keeps_mClk
    | exact fun _ => rfl | intro _ | with_reducible (first | apply keeps_foldl | apply keeps_ite) | split
    | (show K _ _ _ _ _ _ _ _; dsimp only; with_reducible apply Keeps.k)

theorem keeps_changeModel (a0 a1 : Int) (t0 : Nat) (s : State) (h : Keeps ko kq kc s) :
    Keeps ko kq kc (changeModel a0 a1 t0 s) := by
  unfold changeModel
  try dsimp only
  repeat' first
    | with_reducible first | assumption | apply keeps_underLimit
    | exact fun _ => rfl | intro _ | with_reducible (first | apply keeps_foldl | apply keeps_ite) | split
    | (show K _ _ _ _ _ _ _ _; dsimp only; with_reducible apply Keeps.k)

theorem keeps_firstModel (a0 a1 : Int) (t0 : Nat) (s : State) (h : Keeps ko kq kc s) :
    Keeps ko kq kc (firstModel a0 a1 t0 s) := by
  unfold firstModel
  try dsimp only
  repeat' first
    | with_reducible first | assumption | apply keeps_underLimit
    | exact fun _ => rfl | intro _ | with_reducible (first | apply keeps_foldl | apply keeps_ite) | split
    | (show K _ _ _ _ _ _ _ _; dsimp only; with_reducible apply Keeps.k)

theorem keeps_evaluateModel (s : State) (h : Keeps ko kq kc s) :
    Keeps ko kq kc (evaluateModel s) := by
  unfold evaluateModel
  try dsimp only
  repeat' first
    | with_reducible first | assumption | apply keeps_underLimit
    | exact fun _ => rfl | intro _ | with_reducible (first | apply keeps_foldl | apply keeps_ite) | split
    | (show K _ _ _ _ _ _ _ _; dsimp only; with_reducible apply Keeps.k)

theorem keeps_passOwner (s : State) (h : Keeps ko kq kc s) :
    Keeps ko kq kc (passOwner s) := by
  unfold passOwner
  try dsimp only
  repeat' first
    | with_reducible first | assumption | apply keeps_mClk
    | exact fun _ => rfl | intro _ | with_reducible (first | apply keeps_foldl | apply keeps_ite) | split
    | (show K _ _ _ _ _ _ _ _; dsimp only; with_reducible apply Keeps.k)

theorem keeps_slewStep (s : State) (h : Keeps ko kq kc s) :
    Keeps ko kq kc (slewStep s) := by
  unfold slewStep
  try dsimp only
  repeat' first
    | with_reducible first | assumption | apply keeps_underLimit
    | exact fun _ => rfl | intro _ | with_reducible (first | apply keeps_foldl | apply keeps_ite) | split
    | (show K _ _ _ _ _ _ _ _; dsimp only; with_reducible apply Keeps.k)

theorem keeps_offsetStep (s : State) (h : Keeps ko kq kc s) :
    Keeps ko kq kc (offsetStep s) := by
  unfold offsetStep
  try dsimp only
  repeat' first
    | with_reducible first | assumption | apply keeps_mClk
    | exact fun _ => rfl | intro _ | with_reducible (first | apply keeps_foldl | apply keeps_ite) | split
    | (show K _ _ _ _ _ _ _ _; dsimp only; with_reducible apply Keeps.k)

theorem keeps_takeHeldAge (s : State) (h : Keeps ko kq kc s) :
    Keeps ko kq kc (takeHeldAge s) := by
  unfold takeHeldAge
  try dsimp only
  repeat' first
    | with_reducible first | assumption | apply keeps_mClk | apply keeps_mCal
    | exact fun _ => rfl | intro _ | with_reducible (first | apply keeps_foldl | apply keeps_ite) | split
    | (show K _ _ _ _ _ _ _ _; dsimp only; with_reducible apply Keeps.k)

theorem keeps_releaseReference (s : State) (h : Keeps ko kq kc s) :
    Keeps ko kq kc (releaseReference s) := by
  unfold releaseReference
  try dsimp only
  repeat' first
    | with_reducible first | assumption | apply keeps_takeHeldAge | apply keeps_passOwner | apply keeps_logEvent
                           | apply keeps_pulse0 | apply keeps_bump | apply keeps_mClk
    | exact fun _ => rfl | intro _ | with_reducible (first | apply keeps_foldl | apply keeps_ite) | split
    | (show K _ _ _ _ _ _ _ _; dsimp only; with_reducible apply Keeps.k)

theorem keeps_loseReference (s : State) (h : Keeps ko kq kc s) :
    Keeps ko kq kc (loseReference s) := by
  unfold loseReference
  try dsimp only
  repeat' first
    | with_reducible first | assumption | apply keeps_releaseReference | apply keeps_mClk
    | exact fun _ => rfl | intro _ | with_reducible (first | apply keeps_foldl | apply keeps_ite) | split
    | (show K _ _ _ _ _ _ _ _; dsimp only; with_reducible apply Keeps.k)

theorem keeps_gateDetected (nominal : Nat) (err : Int) (s : State) (h : Keeps ko kq kc s) :
    Keeps ko kq kc (gateDetected nominal err s) := by
  unfold gateDetected
  try dsimp only
  repeat' first
    | with_reducible first | assumption | apply keeps_passOwner | apply keeps_nextFree | apply keeps_mClk
    | exact fun _ => rfl | intro _ | with_reducible (first | apply keeps_foldl | apply keeps_ite) | split
    | (show K _ _ _ _ _ _ _ _; dsimp only; with_reducible apply Keeps.k)

theorem keeps_gateComplete (nominal : Nat) (err : Int) (s : State) (h : Keeps ko kq kc s) :
    Keeps ko kq kc (gateComplete nominal err s) := by
  unfold gateComplete
  try dsimp only
  repeat' first
    | with_reducible first | assumption | apply keeps_loseReference | apply keeps_gateDetected
    | exact fun _ => rfl | intro _ | with_reducible (first | apply keeps_foldl | apply keeps_ite) | split
    | (show K _ _ _ _ _ _ _ _; dsimp only; with_reducible apply Keeps.k)

theorem keeps_ovenSample (err : Int) (heater : Nat) (s : State) (h : Keeps ko kq kc s) :
    Keeps ko kq kc (ovenSample err heater s) := by
  unfold ovenSample
  try dsimp only
  repeat' first
    | with_reducible first | assumption | apply keeps_logEvent | apply keeps_mClk
    | exact fun _ => rfl | intro _ | with_reducible (first | apply keeps_foldl | apply keeps_ite) | split
    | (show K _ _ _ _ _ _ _ _; dsimp only; with_reducible apply Keeps.k)

theorem keeps_achieveLock (s : State) (h : Keeps ko kq kc s) :
    Keeps ko kq kc (achieveLock s) := by
  unfold achieveLock
  try dsimp only
  repeat' first
    | with_reducible first | assumption | apply keeps_bump | apply keeps_mClk
    | exact fun _ => rfl | intro _ | with_reducible (first | apply keeps_foldl | apply keeps_ite) | split
    | (show K _ _ _ _ _ _ _ _; dsimp only; with_reducible apply Keeps.k)

theorem keeps_applyRefPolicy (lock out : Nat) (s : State) (h : Keeps ko kq kc s) :
    Keeps ko kq kc (applyRefPolicy lock out s) := by
  unfold applyRefPolicy
  try dsimp only
  repeat' first
    | with_reducible first | assumption | apply keeps_releaseReference | apply keeps_mClk
    | exact fun _ => rfl | intro _ | with_reducible (first | apply keeps_foldl | apply keeps_ite) | split
    | (show K _ _ _ _ _ _ _ _; dsimp only; with_reducible apply Keeps.k)

theorem keeps_setAge (a : Int × Int × Nat) (s : State) (h : Keeps ko kq kc s) :
    Keeps ko kq kc (setAge a s) := by
  unfold setAge
  try dsimp only
  repeat' first
    | with_reducible first | assumption | apply keeps_changeModel | apply keeps_mCal
    | exact fun _ => rfl | intro _ | with_reducible (first | apply keeps_foldl | apply keeps_ite) | split
    | (show K _ _ _ _ _ _ _ _; dsimp only; with_reducible apply Keeps.k)

theorem keeps_holdRecord (body : List Byte) (s : State) (h : Keeps ko kq kc s) :
    Keeps ko kq kc (holdRecord body s) := by
  unfold holdRecord
  try dsimp only
  repeat' first
    | with_reducible first | assumption | apply keeps_mCal
    | exact fun _ => rfl | intro _ | with_reducible (first | apply keeps_foldl | apply keeps_ite) | split
    | (show K _ _ _ _ _ _ _ _; dsimp only; with_reducible apply Keeps.k)

theorem keeps_logGeneration (kind channels : Nat) (s : State) (h : Keeps ko kq kc s) :
    Keeps ko kq kc (logGeneration kind channels s) := by
  unfold logGeneration
  try dsimp only
  repeat' first
    | with_reducible first | assumption | apply keeps_logEvent
    | exact fun _ => rfl | intro _ | with_reducible (first | apply keeps_foldl | apply keeps_ite) | split
    | (show K _ _ _ _ _ _ _ _; dsimp only; with_reducible apply Keeps.k)

theorem keeps_issueGen (kind channels n : Nat) (limited track : Bool) (temps : List Int) (resid : List Byte)
    (s : State) (h : Keeps ko kq kc s) :
    Keeps ko kq kc (issueGen kind channels n limited track temps resid s) := by
  unfold issueGen
  try dsimp only
  repeat' first
    | with_reducible first | assumption | apply keeps_logGeneration | apply keeps_holdRecord | apply keeps_mCal
                           | apply keeps_mRec
    | exact fun _ => rfl | intro _ | with_reducible (first | apply keeps_foldl | apply keeps_ite) | split
    | (show K _ _ _ _ _ _ _ _; dsimp only; with_reducible apply Keeps.k)

theorem keeps_applyUpdate (n : Nat) (s : State) (u : TrimUpdate) (h : Keeps ko kq kc s) :
    Keeps ko kq kc (applyUpdate n s u) := by
  unfold applyUpdate
  try dsimp only
  repeat' first
    | with_reducible first | assumption | apply keeps_issueGen | apply keeps_pulse0 | apply keeps_bump
                           | apply keeps_mCal
    | exact fun _ => rfl | intro _ | with_reducible (first | apply keeps_foldl | apply keeps_ite) | split
    | (show K _ _ _ _ _ _ _ _; dsimp only; with_reducible apply Keeps.k)

theorem keeps_applyUpdates (n : Nat) (s : State) (h : Keeps ko kq kc s) :
    Keeps ko kq kc (applyUpdates n s) := by
  unfold applyUpdates
  try dsimp only
  repeat' first
    | with_reducible first | assumption | apply keeps_applyUpdate | apply keeps_mCal
    | exact fun _ => rfl | intro _ | with_reducible (first | apply keeps_foldl | apply keeps_ite) | split
    | (show K _ _ _ _ _ _ _ _; dsimp only; with_reducible apply Keeps.k)

theorem keeps_mCalRun (f : CalRun → CalRun) (s : State) (h : Keeps ko kq kc s) :
    Keeps ko kq kc (mCalRun f s) := by
  unfold mCalRun
  try dsimp only
  repeat' first
    | with_reducible first | assumption | apply keeps_mCal
    | exact fun _ => rfl | intro _ | with_reducible (first | apply keeps_foldl | apply keeps_ite) | split
    | (show K _ _ _ _ _ _ _ _; dsimp only; with_reducible apply Keeps.k)

theorem keeps_beginTurn (ch waiting : Nat) (s : State) (h : Keeps ko kq kc s) :
    Keeps ko kq kc (beginTurn ch waiting s) := by
  unfold beginTurn
  try dsimp only
  repeat' first
    | with_reducible first | assumption | apply keeps_mCal
    | exact fun _ => rfl | intro _ | with_reducible (first | apply keeps_foldl | apply keeps_ite) | split
    | (show K _ _ _ _ _ _ _ _; dsimp only; with_reducible apply Keeps.k)

theorem keeps_startCalRun (mask : Nat) (s : State) (h : Keeps ko kq kc s) :
    Keeps ko kq kc (startCalRun mask s) := by
  unfold startCalRun
  try dsimp only
  repeat' first
    | with_reducible first | assumption | apply keeps_beginTurn
    | exact fun _ => rfl | intro _ | with_reducible (first | apply keeps_foldl | apply keeps_ite) | split
    | (show K _ _ _ _ _ _ _ _; dsimp only; with_reducible apply Keeps.k)

theorem keeps_calSeam (n : Nat) (s : State) (h : Keeps ko kq kc s) :
    Keeps ko kq kc (calSeam n s) := by
  unfold calSeam
  try dsimp only
  repeat' first
    | with_reducible first | assumption | apply keeps_applyUpdates | apply keeps_startLining | apply keeps_mCalRun
                           | apply keeps_mChan
    | exact fun _ => rfl | intro _ | with_reducible (first | apply keeps_foldl | apply keeps_ite) | split
    | (show K _ _ _ _ _ _ _ _; dsimp only; with_reducible apply Keeps.k)

theorem keeps_calConnected (ch : Nat) (s : State) (h : Keeps ko kq kc s) :
    Keeps ko kq kc (calConnected ch s) := by
  unfold calConnected
  try dsimp only
  repeat' first
    | with_reducible first | assumption | apply keeps_mCalRun | apply keeps_mChan
    | exact fun _ => rfl | intro _ | with_reducible (first | apply keeps_foldl | apply keeps_ite) | split
    | (show K _ _ _ _ _ _ _ _; dsimp only; with_reducible apply Keeps.k)

theorem keeps_calMeasured (m : Measurement) (s : State) (h : Keeps ko kq kc s) :
    Keeps ko kq kc (calMeasured m s) := by
  unfold calMeasured
  try dsimp only
  repeat' first
    | with_reducible first | assumption | apply keeps_mCalRun | apply keeps_mChan
    | exact fun _ => rfl | intro _ | with_reducible (first | apply keeps_foldl | apply keeps_ite) | split
    | (show K _ _ _ _ _ _ _ _; dsimp only; with_reducible apply Keeps.k)

theorem keeps_calComputed (resid : List (Nat × List Byte)) (s : State) (h : Keeps ko kq kc s) :
    Keeps ko kq kc (calComputed resid s) := by
  unfold calComputed
  try dsimp only
  repeat' first
    | with_reducible first | assumption | apply keeps_mCalRun | apply keeps_mCal
    | exact fun _ => rfl | intro _ | with_reducible (first | apply keeps_foldl | apply keeps_ite) | split
    | (show K _ _ _ _ _ _ _ _; dsimp only; with_reducible apply Keeps.k)

theorem keeps_abortTurn (all : Bool) (s : State) (h : Keeps ko kq kc s) :
    Keeps ko kq kc (abortTurn all s) := by
  unfold abortTurn
  try dsimp only
  repeat' first
    | with_reducible first | assumption | apply keeps_logEvent | apply keeps_mCalRun | apply keeps_pulse0
                           | apply keeps_bump | apply keeps_mCal
    | exact fun _ => rfl | intro _ | with_reducible (first | apply keeps_foldl | apply keeps_ite) | split
    | (show K _ _ _ _ _ _ _ _; dsimp only; with_reducible apply Keeps.k)

theorem keeps_trackFrom (ch : Nat) (s : State) (h : Keeps ko kq kc s) :
    Keeps ko kq kc (trackFrom ch s) := by
  unfold trackFrom
  try dsimp only
  repeat' first
    | with_reducible first | assumption | apply keeps_mChan | apply keeps_mCal
    | exact fun _ => rfl | intro _ | with_reducible (first | apply keeps_foldl | apply keeps_ite) | split
    | (show K _ _ _ _ _ _ _ _; dsimp only; with_reducible apply Keeps.k)

theorem keeps_calTurnEnd (s : State) (h : Keeps ko kq kc s) :
    Keeps ko kq kc (calTurnEnd s) := by
  unfold calTurnEnd
  try dsimp only
  repeat' first
    | with_reducible first | assumption | apply keeps_startCalRun | apply keeps_trackFrom | apply keeps_pulse0
                           | apply keeps_bump | apply keeps_mCal
    | exact fun _ => rfl | intro _ | with_reducible (first | apply keeps_foldl | apply keeps_ite) | split
    | (show K _ _ _ _ _ _ _ _; dsimp only; with_reducible apply Keeps.k)

theorem keeps_trackerEnd (ch : Nat) (power : Bool) (ofs : List Int) (est : List Estimate) (s : State) (h : Keeps ko kq kc s) :
    Keeps ko kq kc (trackerEnd ch power ofs est s) := by
  unfold trackerEnd
  try dsimp only
  repeat' first
    | with_reducible first | assumption | apply keeps_trackFrom | apply keeps_bump | apply keeps_mCal
    | exact fun _ => rfl | intro _ | with_reducible (first | apply keeps_foldl | apply keeps_ite) | split
    | (show K _ _ _ _ _ _ _ _; dsimp only; with_reducible apply Keeps.k)

theorem keeps_ageingRun (a : Int × Int × Nat) (s : State) (h : Keeps ko kq kc s) :
    Keeps ko kq kc (ageingRun a s) := by
  unfold ageingRun
  try dsimp only
  repeat' first
    | with_reducible first | assumption | apply keeps_issueGen | apply keeps_setAge
    | exact fun _ => rfl | intro _ | with_reducible (first | apply keeps_foldl | apply keeps_ite) | split
    | (show K _ _ _ _ _ _ _ _; dsimp only; with_reducible apply Keeps.k)

theorem keeps_calStart (copies : List (Option (List Byte))) (s : State) (h : Keeps ko kq kc s) :
    Keeps ko kq kc (calStart copies s) := by
  unfold calStart
  try dsimp only
  repeat' first
    | with_reducible first | assumption | apply keeps_logGeneration | apply keeps_holdRecord | apply keeps_trackFrom
                           | apply keeps_logEvent | apply keeps_setAge | apply keeps_mCal
    | exact fun _ => rfl | intro _ | with_reducible (first | apply keeps_foldl | apply keeps_ite) | split
    | (show K _ _ _ _ _ _ _ _; dsimp only; with_reducible apply Keeps.k)

theorem keeps_calStop (s : State) (h : Keeps ko kq kc s) :
    Keeps ko kq kc (calStop s) := by
  unfold calStop
  try dsimp only
  repeat' first
    | with_reducible first | assumption | apply keeps_startLining | apply keeps_mCal
    | exact fun _ => rfl | intro _ | with_reducible (first | apply keeps_foldl | apply keeps_ite) | split
    | (show K _ _ _ _ _ _ _ _; dsimp only; with_reducible apply Keeps.k)

theorem keeps_relaySensed (ch relay : Nat) (s : State) (h : Keeps ko kq kc s) :
    Keeps ko kq kc (relaySensed ch relay s) := by
  unfold relaySensed
  try dsimp only
  repeat' first
    | with_reducible first | assumption | apply keeps_relayReached | apply keeps_calConnected
    | exact fun _ => rfl | intro _ | with_reducible (first | apply keeps_foldl | apply keeps_ite) | split
    | (show K _ _ _ _ _ _ _ _; dsimp only; with_reducible apply Keeps.k)

theorem keeps_relayFaulted (ch relay sensed : Nat) (s : State) (h : Keeps ko kq kc s) :
    Keeps ko kq kc (relayFaulted ch relay sensed s) := by
  unfold relayFaulted
  try dsimp only
  repeat' first
    | with_reducible first | assumption | apply keeps_faultRelay | apply keeps_abortTurn
    | exact fun _ => rfl | intro _ | with_reducible (first | apply keeps_foldl | apply keeps_ite) | split
    | (show K _ _ _ _ _ _ _ _; dsimp only; with_reducible apply Keeps.k)

theorem keeps_storeLocal (e rank a : Nat) (bytes : List Byte) (s : State) (h : Keeps ko kq kc s) :
    Keeps ko kq kc (storeLocal e rank a bytes s) := by
  unfold storeLocal
  try dsimp only
  repeat' first
    | with_reducible first | assumption | apply keeps_mEngine | apply keeps_pulse0 | apply keeps_bump
    | exact fun _ => rfl | intro _ | with_reducible (first | apply keeps_foldl | apply keeps_ite) | split
    | (show K _ _ _ _ _ _ _ _; dsimp only; with_reducible apply Keeps.k)

theorem keeps_sendResult (e lat rank : Nat) (d : Dest) (v : BitVec 192) (flags : Nat) (s : State)
    (h : Keeps ko kq kc s) :
    Keeps ko kq kc (sendResult e lat rank d v flags s) := by
  unfold sendResult
  try dsimp only
  repeat' first
    | with_reducible first | assumption | apply keeps_mEngine
    | exact fun _ => rfl | intro _ | with_reducible (first | apply keeps_foldl | apply keeps_ite) | split
    | (show K _ _ _ _ _ _ _ _; dsimp only; with_reducible apply Keeps.k)

theorem keeps_setFlags (e f : Nat) (s : State) (h : Keeps ko kq kc s) :
    Keeps ko kq kc (setFlags e f s) := by
  unfold setFlags
  try dsimp only
  repeat' first
    | with_reducible first | assumption | apply keeps_mEngine
    | exact fun _ => rfl | intro _ | with_reducible (first | apply keeps_foldl | apply keeps_ite) | split
    | (show K _ _ _ _ _ _ _ _; dsimp only; with_reducible apply Keeps.k)

theorem keeps_illegalSlot (e : Nat) (s : State) (h : Keeps ko kq kc s) :
    Keeps ko kq kc (illegalSlot e s) := by
  unfold illegalSlot
  try dsimp only
  repeat' first
    | with_reducible first | assumption | apply keeps_setFlags
    | exact fun _ => rfl | intro _ | with_reducible (first | apply keeps_foldl | apply keeps_ite) | split
    | (show K _ _ _ _ _ _ _ _; dsimp only; with_reducible apply Keeps.k)

theorem keeps_slot (e : Nat) (q : Gate) {f : Engine → State → State}
    (hf : ∀ g s, Keeps ko kq kc s → Keeps ko kq kc (f g s))
    (s : State) (h : Keeps ko kq kc s) : Keeps ko kq kc (slot e q f s) := by
  unfold slot
  dsimp only
  repeat' first
    | with_reducible first | assumption | apply hf
    | split

theorem keeps_logUncorrectable (k : Nat) (s : State) (h : Keeps ko kq kc s) :
    Keeps ko kq kc (logUncorrectable k s) := by
  unfold logUncorrectable
  try dsimp only
  repeat' first
    | with_reducible first | assumption | apply keeps_nextFree | apply keeps_mLink
    | exact fun _ => rfl | intro _ | with_reducible (first | apply keeps_foldl | apply keeps_ite) | split
    | (show K _ _ _ _ _ _ _ _; dsimp only; with_reducible apply Keeps.k)

theorem keeps_advisoryError (k : Nat) (s : State) (h : Keeps ko kq kc s) :
    Keeps ko kq kc (advisoryError k s) := by
  unfold advisoryError
  try dsimp only
  repeat' first
    | with_reducible first | assumption | apply keeps_logUncorrectable | apply keeps_mLink | apply keeps_emit
    | exact fun _ => rfl | intro _ | with_reducible (first | apply keeps_foldl | apply keeps_ite) | split
    | (show K _ _ _ _ _ _ _ _; dsimp only; with_reducible apply Keeps.k)

theorem keeps_uncorrectable (k : Nat) (s : State) (h : Keeps ko kq kc s) :
    Keeps ko kq kc (uncorrectable k s) := by
  unfold uncorrectable
  try dsimp only
  repeat' first
    | with_reducible first | assumption | apply keeps_logUncorrectable | apply keeps_mLink | apply keeps_emit
    | exact fun _ => rfl | intro _ | with_reducible (first | apply keeps_foldl | apply keeps_ite) | split
    | (show K _ _ _ _ _ _ _ _; dsimp only; with_reducible apply Keeps.k)

theorem keeps_reportError (k : Nat) (s : State) (h : Keeps ko kq kc s) :
    Keeps ko kq kc (reportError k s) := by
  unfold reportError
  try dsimp only
  repeat' first
    | with_reducible first | assumption | apply keeps_advisoryError | apply keeps_uncorrectable
    | exact fun _ => rfl | intro _ | with_reducible (first | apply keeps_foldl | apply keeps_ite) | split
    | (show K _ _ _ _ _ _ _ _; dsimp only; with_reducible apply Keeps.k)

theorem keeps_failedCompletion (s : State) (h : Keeps ko kq kc s) :
    Keeps ko kq kc (failedCompletion s) := by
  unfold failedCompletion
  try dsimp only
  repeat' first
    | with_reducible first | assumption | apply keeps_reportError | apply keeps_nextFree | apply keeps_mLink
    | exact fun _ => rfl | intro _ | with_reducible (first | apply keeps_foldl | apply keeps_ite) | split
    | (show K _ _ _ _ _ _ _ _; dsimp only; with_reducible apply Keeps.k)

theorem keeps_openRequest (r addr len : Nat) (data : Option (List Byte)) (p : Purpose) (s : State)
    (h : Keeps ko kq kc s) :
    Keeps ko kq kc (openRequest r addr len data p s) := by
  unfold openRequest
  try dsimp only
  repeat' first
    | with_reducible first | assumption | apply keeps_mStore | apply keeps_bump
    | exact fun _ => rfl | intro _ | with_reducible (first | apply keeps_foldl | apply keeps_ite) | split
    | (show K _ _ _ _ _ _ _ _; dsimp only; with_reducible apply Keeps.k)

theorem keeps_openSpan (r a n : Nat) (data : Option (List Byte)) (p : Purpose) (s : State) (h : Keeps ko kq kc s) :
    Keeps ko kq kc (openSpan r a n data p s) := by
  unfold openSpan
  try dsimp only
  repeat' first
    | with_reducible first | assumption | apply keeps_openRequest
    | exact fun _ => rfl | intro _ | with_reducible (first | apply keeps_foldl | apply keeps_ite) | split
    | (show K _ _ _ _ _ _ _ _; dsimp only; with_reducible apply Keeps.k)

theorem keeps_grantTag (r : Nat) (s : State) (h : Keeps ko kq kc s) :
    Keeps ko kq kc (grantTag r s) := by
  unfold grantTag
  try dsimp only
  repeat' first
    | with_reducible first | assumption | apply keeps_mStore
    | exact fun _ => rfl | intro _ | with_reducible (first | apply keeps_foldl | apply keeps_ite) | split
    | (show K _ _ _ _ _ _ _ _; dsimp only; with_reducible apply Keeps.k)

theorem keeps_endTablePass (s : State) (h : Keeps ko kq kc s) :
    Keeps ko kq kc (endTablePass s) := by
  unfold endTablePass
  try dsimp only
  repeat' first
    | with_reducible first | assumption | apply keeps_mStore
    | exact fun _ => rfl | intro _ | with_reducible (first | apply keeps_foldl | apply keeps_ite) | split
    | (show K _ _ _ _ _ _ _ _; dsimp only; with_reducible apply Keeps.k)

theorem keeps_eccEvent (x : Ecc) (s : State) (h : Keeps ko kq kc s) :
    Keeps ko kq kc (eccEvent x s) := by
  unfold eccEvent
  try dsimp only
  repeat' first
    | with_reducible first | assumption | apply keeps_logEvent | apply keeps_mSleeve | apply keeps_pulse0
                           | apply keeps_mStore | apply keeps_bump
    | exact fun _ => rfl | intro _ | with_reducible (first | apply keeps_foldl | apply keeps_ite) | split
    | (show K _ _ _ _ _ _ _ _; dsimp only; with_reducible apply Keeps.k)

theorem keeps_bar2Read (x n : Nat) (s : State) (h : Keeps ko kq kc s) :
    Keeps ko kq kc (bar2Read x n s) := by
  unfold bar2Read
  try dsimp only
  repeat' first
    | with_reducible first | assumption | apply keeps_openSpan | apply keeps_pulse0 | apply keeps_bump
                           | apply keeps_emit
    | exact fun _ => rfl | intro _ | with_reducible (first | apply keeps_foldl | apply keeps_ite) | split
    | (show K _ _ _ _ _ _ _ _; dsimp only; with_reducible apply Keeps.k)

theorem keeps_bar2Write (poisoned : Bool) (s : State) (h : Keeps ko kq kc s) :
    Keeps ko kq kc (bar2Write poisoned s) := by
  unfold bar2Write
  try dsimp only
  repeat' first
    | with_reducible first | assumption | apply keeps_reportError | apply keeps_pulse0 | apply keeps_bump
    | exact fun _ => rfl | intro _ | with_reducible (first | apply keeps_foldl | apply keeps_ite) | split
    | (show K _ _ _ _ _ _ _ _; dsimp only; with_reducible apply Keeps.k)

theorem keeps_ringOrder (s : State) (h : Keeps ko kq kc s) :
    Keeps ko kq kc (ringOrder s) := by
  unfold ringOrder
  try dsimp only
  repeat' first
    | with_reducible first | assumption | apply keeps_mStore
    | exact fun _ => rfl | intro _ | with_reducible (first | apply keeps_foldl | apply keeps_ite) | split
    | (show K _ _ _ _ _ _ _ _; dsimp only; with_reducible apply Keeps.k)

theorem keeps_takeSlot (borrowed : Bool) (s : State) (h : Keeps ko kq kc s) :
    Keeps ko kq kc (takeSlot borrowed s).2 := by
  unfold takeSlot
  try dsimp only
  repeat' first
    | with_reducible first | assumption | apply keeps_ringOrder | apply keeps_mStore | apply keeps_bump
    | exact fun _ => rfl | intro _ | with_reducible (first | apply keeps_foldl | apply keeps_ite) | split
    | (show K _ _ _ _ _ _ _ _; dsimp only; with_reducible apply Keeps.k)

theorem keeps_takeBranch (e : Nat) (target : Nat) (g : Engine) (s : State) (h : Keeps ko kq kc s) :
    Keeps ko kq kc (takeBranch e target g s) := by
  unfold takeBranch
  try dsimp only
  repeat' first
    | with_reducible first | assumption | apply keeps_illegalSlot | apply keeps_mEngine
    | exact fun _ => rfl | intro _ | with_reducible (first | apply keeps_foldl | apply keeps_ite) | split
    | (show K _ _ _ _ _ _ _ _; dsimp only; with_reducible apply Keeps.k)

theorem keeps_startLoop (e : Nat) (f : LoopForm) (g : Engine) (s : State) (h : Keeps ko kq kc s) :
    Keeps ko kq kc (startLoop e f g s) := by
  unfold startLoop
  try dsimp only
  repeat' first
    | with_reducible first | assumption | apply keeps_illegalSlot | apply keeps_mEngine
    | exact fun _ => rfl | intro _ | with_reducible (first | apply keeps_foldl | apply keeps_ite) | split
    | (show K _ _ _ _ _ _ _ _; dsimp only; with_reducible apply Keeps.k)

theorem keeps_clearBexp (e : Nat) (s : State) (h : Keeps ko kq kc s) :
    Keeps ko kq kc (clearBexp e s) := by
  unfold clearBexp
  try dsimp only
  repeat' first
    | with_reducible first | assumption | apply keeps_mEngine
    | exact fun _ => rfl | intro _ | with_reducible (first | apply keeps_foldl | apply keeps_ite) | split
    | (show K _ _ _ _ _ _ _ _; dsimp only; with_reducible apply Keeps.k)

theorem keeps_lsUpdate (e : Nat) (f : LsForm) (g : Engine) (s : State) (h : Keeps ko kq kc s) :
    Keeps ko kq kc (lsUpdate e f g s) := by
  unfold lsUpdate
  try dsimp only
  repeat' first
    | with_reducible first | assumption | apply keeps_sendResult
    | exact fun _ => rfl | intro _ | with_reducible (first | apply keeps_foldl | apply keeps_ite) | split
    | (show K _ _ _ _ _ _ _ _; dsimp only; with_reducible apply Keeps.k)

theorem keeps_loadVector (e : Nat) (f : LsForm) (align n : Nat) (conv : List Byte → BitVec 192 × Nat) (g : Engine)
    (s : State) (h : Keeps ko kq kc s) :
    Keeps ko kq kc (loadVector e f align n conv g s) := by
  unfold loadVector
  try dsimp only
  repeat' first
    | with_reducible first | assumption | apply keeps_sendResult | apply keeps_lsUpdate
    | exact fun _ => rfl | intro _ | with_reducible (first | apply keeps_foldl | apply keeps_ite) | split
    | (show K _ _ _ _ _ _ _ _; dsimp only; with_reducible apply Keeps.k)

theorem keeps_storeValue (e : Nat) (f : LsForm) (align n v : Nat) (g : Engine) (s : State) (h : Keeps ko kq kc s) :
    Keeps ko kq kc (storeValue e f align n v g s) := by
  unfold storeValue
  try dsimp only
  repeat' first
    | with_reducible first | assumption | apply keeps_storeLocal | apply keeps_lsUpdate
    | exact fun _ => rfl | intro _ | with_reducible (first | apply keeps_foldl | apply keeps_ite) | split
    | (show K _ _ _ _ _ _ _ _; dsimp only; with_reducible apply Keeps.k)

theorem keeps_trackStore (e n : Nat) (s : State) (h : Keeps ko kq kc s) :
    Keeps ko kq kc (trackStore e n s) := by
  unfold trackStore
  try dsimp only
  repeat' first
    | with_reducible first | assumption | apply keeps_mEngine
    | exact fun _ => rfl | intro _ | with_reducible (first | apply keeps_foldl | apply keeps_ite) | split
    | (show K _ _ _ _ _ _ _ _; dsimp only; with_reducible apply Keeps.k)

theorem keeps_macResult (e lat : Nat) (f : MacForm) (r : BitVec 192 × Nat) (g : Engine) (s : State)
    (h : Keeps ko kq kc s) :
    Keeps ko kq kc (macResult e lat f r g s) := by
  unfold macResult
  try dsimp only
  repeat' first
    | with_reducible first | assumption | apply keeps_sendResult
    | exact fun _ => rfl | intro _ | with_reducible (first | apply keeps_foldl | apply keeps_ite) | split
    | (show K _ _ _ _ _ _ _ _; dsimp only; with_reducible apply Keeps.k)

theorem keeps_aluVec (e lat : Nat) (f : AluForm) (d : Nat) (c : Nat → Int) (g : Engine) (s : State)
    (h : Keeps ko kq kc s) :
    Keeps ko kq kc (aluVec e lat f d c g s) := by
  unfold aluVec
  try dsimp only
  repeat' first
    | with_reducible first | assumption | apply keeps_sendResult
    | exact fun _ => rfl | intro _ | with_reducible (first | apply keeps_foldl | apply keeps_ite) | split
    | (show K _ _ _ _ _ _ _ _; dsimp only; with_reducible apply Keeps.k)

theorem keeps_aluVecOp (e : Nat) (q : Gate) (f : AluForm) (takesB ok : Bool) {body : Engine → State → State}
    (hf : ∀ g s, Keeps ko kq kc s → Keeps ko kq kc (body g s)) (s : State) (h : Keeps ko kq kc s) :
    Keeps ko kq kc (aluVecOp e q f takesB ok body s) := by
  unfold aluVecOp
  repeat' first
    | with_reducible first | assumption | apply hf | apply keeps_slot | apply keeps_illegalSlot
    | intro _ | split

theorem keeps_aluScalar (e : Nat) (q : Gate) (f : AluForm) (takesB usesA : Bool) (lat : Nat) (val : Engine → Word)
    (s : State) (h : Keeps ko kq kc s) :
    Keeps ko kq kc (aluScalar e q f takesB usesA lat val s) := by
  unfold aluScalar
  try dsimp only
  repeat' first
    | with_reducible first | assumption | apply keeps_illegalSlot | apply keeps_sendResult | apply keeps_slot
    | exact fun _ => rfl | intro _ | with_reducible (first | apply keeps_foldl | apply keeps_ite) | split
    | (show K _ _ _ _ _ _ _ _; dsimp only; with_reducible apply Keeps.k)

theorem keeps_aluPred (e : Nat) (q : Gate) (f : AluForm) (takesB : Bool) (ok : Bool) (val : Engine → Bool)
    (s : State) (h : Keeps ko kq kc s) :
    Keeps ko kq kc (aluPred e q f takesB ok val s) := by
  unfold aluPred
  try dsimp only
  repeat' first
    | with_reducible first | assumption | apply keeps_illegalSlot | apply keeps_sendResult | apply keeps_slot
    | exact fun _ => rfl | intro _ | with_reducible (first | apply keeps_foldl | apply keeps_ite) | split
    | (show K _ _ _ _ _ _ _ _; dsimp only; with_reducible apply Keeps.k)

theorem keeps_sendWord (e route : Nat) (w : BitVec 192) (s : State) (h : Keeps ko kq kc s) :
    Keeps ko kq kc (sendWord e route w s) := by
  unfold sendWord
  try dsimp only
  repeat' first
    | with_reducible first | assumption | apply keeps_pulse0 | apply keeps_bump | apply keeps_mEng
    | exact fun _ => rfl | intro _ | with_reducible (first | apply keeps_foldl | apply keeps_ite) | split
    | (show K _ _ _ _ _ _ _ _; dsimp only; with_reducible apply Keeps.k)

theorem keeps_landResults (e : Nat) (s : State) (h : Keeps ko kq kc s) :
    Keeps ko kq kc (landResults e s) := by
  unfold landResults
  try dsimp only
  repeat' first
    | with_reducible first | assumption | apply keeps_nextFree | apply keeps_mEngine
    | exact fun _ => rfl | intro _ | with_reducible (first | apply keeps_foldl | apply keeps_ite) | split
    | (show K _ _ _ _ _ _ _ _; dsimp only; with_reducible apply Keeps.k)

theorem keeps_deliverWord (e : Nat) (s : State) (h : Keeps ko kq kc s) :
    Keeps ko kq kc (deliverWord e s) := by
  unfold deliverWord
  try dsimp only
  repeat' first
    | with_reducible first | assumption | apply keeps_mEngine | apply keeps_mEng
    | exact fun _ => rfl | intro _ | with_reducible (first | apply keeps_foldl | apply keeps_ite) | split
    | (show K _ _ _ _ _ _ _ _; dsimp only; with_reducible apply Keeps.k)

theorem keeps_captureRead (e st wait : Nat) (s : State) (h : Keeps ko kq kc s) :
    Keeps ko kq kc (captureRead e st wait s) := by
  unfold captureRead
  try dsimp only
  repeat' first
    | with_reducible first | assumption | apply keeps_nextFree | apply keeps_mEngine
    | exact fun _ => rfl | intro _ | with_reducible (first | apply keeps_foldl | apply keeps_ite) | split
    | (show K _ _ _ _ _ _ _ _; dsimp only; with_reducible apply Keeps.k)

theorem keeps_landBlock (e st : Nat) (s : State) (h : Keeps ko kq kc s) :
    Keeps ko kq kc (landBlock e st s) := by
  unfold landBlock
  try dsimp only
  repeat' first
    | with_reducible first | assumption | apply keeps_storeLocal | apply keeps_eccEvent | apply keeps_mEngine
    | exact fun _ => rfl | intro _ | with_reducible (first | apply keeps_foldl | apply keeps_ite) | split
    | (show K _ _ _ _ _ _ _ _; dsimp only; with_reducible apply Keeps.k)

theorem keeps_streamReadLand (e st : Nat) (s : State) (h : Keeps ko kq kc s) :
    Keeps ko kq kc (streamReadLand e st s) := by
  unfold streamReadLand
  try dsimp only
  repeat' first
    | with_reducible first | assumption | apply keeps_captureRead | apply keeps_landBlock
    | exact fun _ => rfl | intro _ | with_reducible (first | apply keeps_foldl | apply keeps_ite) | split
    | (show K _ _ _ _ _ _ _ _; dsimp only; with_reducible apply Keeps.k)

theorem keeps_takeBlock (e st due : Nat) (s : State) (h : Keeps ko kq kc s) :
    Keeps ko kq kc (takeBlock e st due s) := by
  unfold takeBlock
  try dsimp only
  repeat' first
    | with_reducible first | assumption | apply keeps_mEngine
    | exact fun _ => rfl | intro _ | with_reducible (first | apply keeps_foldl | apply keeps_ite) | split
    | (show K _ _ _ _ _ _ _ _; dsimp only; with_reducible apply Keeps.k)

theorem keeps_streamWriteTake (e st : Nat) (s : State) (h : Keeps ko kq kc s) :
    Keeps ko kq kc (streamWriteTake e st s) := by
  unfold streamWriteTake
  try dsimp only
  repeat' first
    | with_reducible first | assumption | apply keeps_takeBlock
    | exact fun _ => rfl | intro _ | with_reducible (first | apply keeps_foldl | apply keeps_ite) | split
    | (show K _ _ _ _ _ _ _ _; dsimp only; with_reducible apply Keeps.k)

theorem keeps_stopEngine (e : Nat) (s : State) (h : Keeps ko kq kc s) :
    Keeps ko kq kc (stopEngine e s) := by
  unfold stopEngine
  try dsimp only
  repeat' first
    | with_reducible first | assumption | apply keeps_mEngine | apply keeps_pulse0
    | exact fun _ => rfl | intro _ | with_reducible (first | apply keeps_foldl | apply keeps_ite) | split
    | (show K _ _ _ _ _ _ _ _; dsimp only; with_reducible apply Keeps.k)

theorem keeps_parkEngine (e : Nat) (s : State) (h : Keeps ko kq kc s) :
    Keeps ko kq kc (parkEngine e s) := by
  unfold parkEngine
  try dsimp only
  repeat' first
    | with_reducible first | assumption | apply keeps_mEngine
    | exact fun _ => rfl | intro _ | with_reducible (first | apply keeps_foldl | apply keeps_ite) | split
    | (show K _ _ _ _ _ _ _ _; dsimp only; with_reducible apply Keeps.k)

theorem keeps_portWrite (e addr : Nat) (w : Word) (k : Nat) (s : State) (h : Keeps ko kq kc s) :
    Keeps ko kq kc (portWrite e addr w k s) := by
  unfold portWrite
  try dsimp only
  repeat' first
    | with_reducible first | assumption | apply keeps_mEngine
    | exact fun _ => rfl | intro _ | with_reducible (first | apply keeps_foldl | apply keeps_ite) | split
    | (show K _ _ _ _ _ _ _ _; dsimp only; with_reducible apply Keeps.k)

theorem keeps_coreWords (e : Nat) (s : State) (h : Keeps ko kq kc s) :
    Keeps ko kq kc (coreWords e s) := by
  unfold coreWords
  try dsimp only
  repeat' first
    | with_reducible first | assumption | apply keeps_mEngine
    | exact fun _ => rfl | intro _ | with_reducible (first | apply keeps_foldl | apply keeps_ite) | split
    | (show K _ _ _ _ _ _ _ _; dsimp only; with_reducible apply Keeps.k)

theorem keeps_portQueued (s : State) (e k : Nat) (h : Keeps ko kq kc s) :
    Keeps ko kq kc (portQueued s e k) := by
  unfold portQueued
  try dsimp only
  repeat' first
    | with_reducible first | assumption | apply keeps_portWrite | apply keeps_mEngine | apply keeps_bumpBy
                           | apply keeps_pulse0
    | exact fun _ => rfl | intro _ | with_reducible (first | apply keeps_foldl | apply keeps_ite) | split
    | (show K _ _ _ _ _ _ _ _; dsimp only; with_reducible apply Keeps.k)

end Sys2Proof.Laws
end

