-- ==== Sys2Proof/Laws/KeepsUnits.lean ====
section
/-! SUPPORT. Every operation of the fixed units keeps the facts of KeepsCore. -/

namespace Sys2Proof.Laws
open Sys2Proof.Machine

variable {ko : Sparse KeySlot} {kq : List Instr} {kc : Nat}

theorem keeps_drivePin (o : Nat) (f : OutPin → OutPin) (s : State) (h : Keeps ko kq kc s) :
    Keeps ko kq kc (drivePin o f s) := by
  unfold drivePin
  try dsimp only
  repeat' first
    | with_reducible first | assumption | apply keeps_emit | apply keeps_mOut
    | exact fun _ => rfl | intro _ | with_reducible (first | apply keeps_foldl | apply keeps_ite) | split
    | (show K _ _ _ _ _ _ _ _; dsimp only; with_reducible apply Keeps.k)

theorem keeps_requestPulse (o : Nat) (s : State) (h : Keeps ko kq kc s) :
    Keeps ko kq kc (requestPulse o s) := by
  unfold requestPulse
  try dsimp only
  repeat' first
    | with_reducible first | assumption | apply keeps_drivePin | apply keeps_pulse0 | apply keeps_bump
    | exact fun _ => rfl | intro _ | with_reducible (first | apply keeps_foldl | apply keeps_ite) | split
    | (show K _ _ _ _ _ _ _ _; dsimp only; with_reducible apply Keeps.k)

theorem keeps_endPulse (o : Nat) (s : State) (h : Keeps ko kq kc s) :
    Keeps ko kq kc (endPulse o s) := by
  unfold endPulse
  try dsimp only
  repeat' first
    | with_reducible first | assumption | apply keeps_drivePin
    | exact fun _ => rfl | intro _ | with_reducible (first | apply keeps_foldl | apply keeps_ite) | split
    | (show K _ _ _ _ _ _ _ _; dsimp only; with_reducible apply Keeps.k)

theorem keeps_stopOutputs (s : State) (h : Keeps ko kq kc s) :
    Keeps ko kq kc (stopOutputs s) := by
  unfold stopOutputs
  try dsimp only
  repeat' first
    | with_reducible first | assumption | apply keeps_drivePin
    | exact fun _ => rfl | intro _ | with_reducible (first | apply keeps_foldl | apply keeps_ite) | split
    | (show K _ _ _ _ _ _ _ _; dsimp only; with_reducible apply Keeps.k)

theorem keeps_sendNotice (g notice : Nat) (c : Capture) (stop : Option Nat) (s : State) (h : Keeps ko kq kc s) :
    Keeps ko kq kc (sendNotice g notice c stop s) := by
  unfold sendNotice
  try dsimp only
  repeat' first
    | with_reducible first | assumption | apply keeps_mGroup | apply keeps_bump
    | exact fun _ => rfl | intro _ | with_reducible (first | apply keeps_foldl | apply keeps_ite) | split
    | (show K _ _ _ _ _ _ _ _; dsimp only; with_reducible apply Keeps.k)

theorem keeps_sleeveRecord (g notice : Nat) (c : Capture) (stop : Option Nat) (s : State) (h : Keeps ko kq kc s) :
    Keeps ko kq kc (sleeveRecord g notice c stop s) := by
  unfold sleeveRecord
  try dsimp only
  repeat' first
    | with_reducible first | assumption | apply keeps_appendBytes
    | exact fun _ => rfl | intro _ | with_reducible (first | apply keeps_foldl | apply keeps_ite) | split
    | (show K _ _ _ _ _ _ _ _; dsimp only; with_reducible apply Keeps.k)

theorem keeps_settleDsk (i : Nat) (s : State) (h : Keeps ko kq kc s) :
    Keeps ko kq kc (settleDsk i s) := by
  unfold settleDsk
  try dsimp only
  repeat' first
    | with_reducible first | assumption | apply keeps_tidyMarkers | apply keeps_mSleeve
    | exact fun _ => rfl | intro _ | with_reducible (first | apply keeps_foldl | apply keeps_ite) | split
    | (show K _ _ _ _ _ _ _ _; dsimp only; with_reducible apply Keeps.k)

theorem keeps_handOver (g : Nat) (provisional : Bool) (c : Capture) (s : State) (h : Keeps ko kq kc s) :
    Keeps ko kq kc (handOver g provisional c s) := by
  unfold handOver
  try dsimp only
  repeat' first
    | with_reducible first | assumption | apply keeps_settleDsk | apply keeps_closed | apply keeps_mDisk
    | exact fun _ => rfl | intro _ | with_reducible (first | apply keeps_foldl | apply keeps_ite) | split
    | (show K _ _ _ _ _ _ _ _; dsimp only; with_reducible apply Keeps.k)

theorem keeps_mJob (number : Nat) (f : CapJob → CapJob) (s : State) (h : Keeps ko kq kc s) :
    Keeps ko kq kc (mJob number f s) := by
  unfold mJob
  try dsimp only
  repeat' first
    | with_reducible first | assumption | apply keeps_mDisk
    | exact fun _ => rfl | intro _ | with_reducible (first | apply keeps_foldl | apply keeps_ite) | split
    | (show K _ _ _ _ _ _ _ _; dsimp only; with_reducible apply Keeps.k)

theorem keeps_closeCapture (g stop flags : Nat) (s : State) (h : Keeps ko kq kc s) :
    Keeps ko kq kc (closeCapture g stop flags s) := by
  unfold closeCapture
  try dsimp only
  repeat' first
    | with_reducible first | assumption | apply keeps_requestPulse | apply keeps_sleeveRecord
                           | apply keeps_sendNotice | apply keeps_pulse0 | apply keeps_mGroup | apply keeps_bump
                           | apply keeps_mJob
    | exact fun _ => rfl | intro _ | with_reducible (first | apply keeps_foldl | apply keeps_ite) | split
    | (show K _ _ _ _ _ _ _ _; dsimp only; with_reducible apply Keeps.k)

theorem keeps_pulseOnly (g : Nat) (c : Capture) (s : State) (h : Keeps ko kq kc s) :
    Keeps ko kq kc (pulseOnly g c s) := by
  unfold pulseOnly
  try dsimp only
  repeat' first
    | with_reducible first | assumption | apply keeps_mGroup
    | exact fun _ => rfl | intro _ | with_reducible (first | apply keeps_foldl | apply keeps_ite) | split
    | (show K _ _ _ _ _ _ _ _; dsimp only; with_reducible apply Keeps.k)

theorem keeps_qualify (g : Nat) (c : Capture) (d : GroupDecl) (s : State) (h : Keeps ko kq kc s) :
    Keeps ko kq kc (qualify g c d s) := by
  unfold qualify
  try dsimp only
  repeat' first
    | with_reducible first | assumption | apply keeps_requestPulse | apply keeps_closeCapture
                           | apply keeps_sendNotice | apply keeps_pulseOnly | apply keeps_pulse0 | apply keeps_mGroup
                           | apply keeps_bump | apply keeps_mJob
    | exact fun _ => rfl | intro _ | with_reducible (first | apply keeps_foldl | apply keeps_ite) | split
    | (show K _ _ _ _ _ _ _ _; dsimp only; with_reducible apply Keeps.k)

theorem keeps_takeNumber (s : State) (h : Keeps ko kq kc s) :
    Keeps ko kq kc (takeNumber s) := by
  unfold takeNumber
  try dsimp only
  repeat' first
    | with_reducible first | assumption | apply keeps_mTrig
    | exact fun _ => rfl | intro _ | with_reducible (first | apply keeps_foldl | apply keeps_ite) | split
    | (show K _ _ _ _ _ _ _ _; dsimp only; with_reducible apply Keeps.k)

theorem keeps_clearMisses (g : Nat) (s : State) (h : Keeps ko kq kc s) :
    Keeps ko kq kc (clearMisses g s) := by
  unfold clearMisses
  try dsimp only
  repeat' first
    | with_reducible first | assumption | apply keeps_mGroup
    | exact fun _ => rfl | intro _ | with_reducible (first | apply keeps_foldl | apply keeps_ite) | split
    | (show K _ _ _ _ _ _ _ _; dsimp only; with_reducible apply Keeps.k)

theorem keeps_beginCapture (g : Nat) (o : Occ) (d : GroupDecl) (s : State) (h : Keeps ko kq kc s) :
    Keeps ko kq kc (beginCapture g o d s) := by
  unfold beginCapture
  try dsimp only
  repeat' first
    | with_reducible first | assumption | apply keeps_clearMisses | apply keeps_takeNumber | apply keeps_handOver
                           | apply keeps_qualify
    | exact fun _ => rfl | intro _ | with_reducible (first | apply keeps_foldl | apply keeps_ite) | split
    | (show K _ _ _ _ _ _ _ _; dsimp only; with_reducible apply Keeps.k)

theorem keeps_beginProvisional (g : Nat) (o : Occ) (d : GroupDecl) (s : State) (h : Keeps ko kq kc s) :
    Keeps ko kq kc (beginProvisional g o d s) := by
  unfold beginProvisional
  try dsimp only
  repeat' first
    | with_reducible first | assumption | apply keeps_clearMisses | apply keeps_sendNotice | apply keeps_takeNumber
                           | apply keeps_handOver | apply keeps_pulse0 | apply keeps_mGroup | apply keeps_bump
    | exact fun _ => rfl | intro _ | with_reducible (first | apply keeps_foldl | apply keeps_ite) | split
    | (show K _ _ _ _ _ _ _ _; dsimp only; with_reducible apply Keeps.k)

theorem keeps_toArmed (g tArm : Nat) (s : State) (h : Keeps ko kq kc s) :
    Keeps ko kq kc (toArmed g tArm s) := by
  unfold toArmed
  try dsimp only
  repeat' first
    | with_reducible first | assumption | apply keeps_resumeWriter | apply keeps_mGroup
    | exact fun _ => rfl | intro _ | with_reducible (first | apply keeps_foldl | apply keeps_ite) | split
    | (show K _ _ _ _ _ _ _ _; dsimp only; with_reducible apply Keeps.k)

theorem keeps_toDisarmed (g : Nat) (s : State) (h : Keeps ko kq kc s) :
    Keeps ko kq kc (toDisarmed g s) := by
  unfold toDisarmed
  try dsimp only
  repeat' first
    | with_reducible first | assumption | apply keeps_mGroup
    | exact fun _ => rfl | intro _ | with_reducible (first | apply keeps_foldl | apply keeps_ite) | split
    | (show K _ _ _ _ _ _ _ _; dsimp only; with_reducible apply Keeps.k)

theorem keeps_cancelProvisional (g flags : Nat) (s : State) (h : Keeps ko kq kc s) :
    Keeps ko kq kc (cancelProvisional g flags s) := by
  unfold cancelProvisional
  try dsimp only
  repeat' first
    | with_reducible first | assumption | apply keeps_sleeveRecord | apply keeps_sendNotice | apply keeps_toDisarmed
                           | apply keeps_toArmed | apply keeps_pulse0 | apply keeps_mGroup | apply keeps_bump
                           | apply keeps_mJob
    | exact fun _ => rfl | intro _ | with_reducible (first | apply keeps_foldl | apply keeps_ite) | split
    | (show K _ _ _ _ _ _ _ _; dsimp only; with_reducible apply Keeps.k)

theorem keeps_leaveHoldoff (g : Nat) (s : State) (h : Keeps ko kq kc s) :
    Keeps ko kq kc (leaveHoldoff g s) := by
  unfold leaveHoldoff
  try dsimp only
  repeat' first
    | with_reducible first | assumption | apply keeps_toDisarmed | apply keeps_toArmed
    | exact fun _ => rfl | intro _ | with_reducible (first | apply keeps_foldl | apply keeps_ite) | split
    | (show K _ _ _ _ _ _ _ _; dsimp only; with_reducible apply Keeps.k)

theorem keeps_closeAt (g t flags : Nat) (c : Capture) (s : State) (h : Keeps ko kq kc s) :
    Keeps ko kq kc (closeAt g t flags c s) := by
  unfold closeAt
  try dsimp only
  repeat' first
    | with_reducible first | assumption | apply keeps_closeCapture
    | exact fun _ => rfl | intro _ | with_reducible (first | apply keeps_foldl | apply keeps_ite) | split
    | (show K _ _ _ _ _ _ _ _; dsimp only; with_reducible apply Keeps.k)

theorem keeps_captureCheck (s : State) (g : Nat) (h : Keeps ko kq kc s) :
    Keeps ko kq kc (captureCheck s g) := by
  unfold captureCheck
  try dsimp only
  repeat' first
    | with_reducible first | assumption | apply keeps_closeAt
    | exact fun _ => rfl | intro _ | with_reducible (first | apply keeps_foldl | apply keeps_ite) | split
    | (show K _ _ _ _ _ _ _ _; dsimp only; with_reducible apply Keeps.k)

theorem keeps_checkCaptures (s : State) (h : Keeps ko kq kc s) :
    Keeps ko kq kc (checkCaptures s) := by
  unfold checkCaptures
  try dsimp only
  repeat' first
    | with_reducible first | assumption | apply keeps_captureCheck
    | exact fun _ => rfl | intro _ | with_reducible (first | apply keeps_foldl | apply keeps_ite) | split
    | (show K _ _ _ _ _ _ _ _; dsimp only; with_reducible apply Keeps.k)

theorem keeps_raiseOcc (c time : Nat) (s : State) (h : Keeps ko kq kc s) :
    Keeps ko kq kc (raiseOcc c time s) := by
  unfold raiseOcc
  try dsimp only
  repeat' first
    | with_reducible first | assumption | apply keeps_mGroup | apply keeps_bump
    | exact fun _ => rfl | intro _ | with_reducible (first | apply keeps_foldl | apply keeps_ite) | split
    | (show K _ _ _ _ _ _ _ _; dsimp only; with_reducible apply Keeps.k)

theorem keeps_missTrigger (g : Nat) (o : Occ) (s : State) (h : Keeps ko kq kc s) :
    Keeps ko kq kc (missTrigger g o s) := by
  unfold missTrigger
  try dsimp only
  repeat' first
    | with_reducible first | assumption | apply keeps_leaveHoldoff | apply keeps_pulse0 | apply keeps_mGroup
                           | apply keeps_bump
    | exact fun _ => rfl | intro _ | with_reducible (first | apply keeps_foldl | apply keeps_ite) | split
    | (show K _ _ _ _ _ _ _ _; dsimp only; with_reducible apply Keeps.k)

theorem keeps_judge (g : Nat) (o : Occ) (s : State) (h : Keeps ko kq kc s) :
    Keeps ko kq kc (judge g o s) := by
  unfold judge
  try dsimp only
  repeat' first
    | with_reducible first | assumption | apply keeps_beginCapture | apply keeps_missTrigger
    | exact fun _ => rfl | intro _ | with_reducible (first | apply keeps_foldl | apply keeps_ite) | split
    | (show K _ _ _ _ _ _ _ _; dsimp only; with_reducible apply Keeps.k)

theorem keeps_raiseProvisional (g : Nat) (o : Occ) (s : State) (h : Keeps ko kq kc s) :
    Keeps ko kq kc (raiseProvisional g o s) := by
  unfold raiseProvisional
  try dsimp only
  repeat' first
    | with_reducible first | assumption | apply keeps_beginProvisional
    | exact fun _ => rfl | intro _ | with_reducible (first | apply keeps_foldl | apply keeps_ite) | split
    | (show K _ _ _ _ _ _ _ _; dsimp only; with_reducible apply Keeps.k)

theorem keeps_qualifyPending (g : Nat) (s : State) (h : Keeps ko kq kc s) :
    Keeps ko kq kc (qualifyPending g s) := by
  unfold qualifyPending
  try dsimp only
  repeat' first
    | with_reducible first | assumption | apply keeps_qualify
    | exact fun _ => rfl | intro _ | with_reducible (first | apply keeps_foldl | apply keeps_ite) | split
    | (show K _ _ _ _ _ _ _ _; dsimp only; with_reducible apply Keeps.k)

theorem keeps_holdA (g : Nat) (o : Occ) (s : State) (h : Keeps ko kq kc s) :
    Keeps ko kq kc (holdA g o s) := by
  unfold holdA
  try dsimp only
  repeat' first
    | with_reducible first | assumption | apply keeps_pulse0 | apply keeps_mGroup
    | exact fun _ => rfl | intro _ | with_reducible (first | apply keeps_foldl | apply keeps_ite) | split
    | (show K _ _ _ _ _ _ _ _; dsimp only; with_reducible apply Keeps.k)

theorem keeps_holdB (g : Nat) (o : Occ) (s : State) (h : Keeps ko kq kc s) :
    Keeps ko kq kc (holdB g o s) := by
  unfold holdB
  try dsimp only
  repeat' first
    | with_reducible first | assumption | apply keeps_pulse0 | apply keeps_mGroup
    | exact fun _ => rfl | intro _ | with_reducible (first | apply keeps_foldl | apply keeps_ite) | split
    | (show K _ _ _ _ _ _ _ _; dsimp only; with_reducible apply Keeps.k)

theorem keeps_arriveA (g : Nat) (d : GroupDecl) (o : Occ) (s : State) (h : Keeps ko kq kc s) :
    Keeps ko kq kc (arriveA g d o s) := by
  unfold arriveA
  try dsimp only
  repeat' first
    | with_reducible first | assumption | apply keeps_raiseProvisional | apply keeps_mGroup | apply keeps_judge
                           | apply keeps_holdA
    | exact fun _ => rfl | intro _ | with_reducible (first | apply keeps_foldl | apply keeps_ite) | split
    | (show K _ _ _ _ _ _ _ _; dsimp only; with_reducible apply Keeps.k)

theorem keeps_arriveB (g : Nat) (d : GroupDecl) (o : Occ) (s : State) (h : Keeps ko kq kc s) :
    Keeps ko kq kc (arriveB g d o s) := by
  unfold arriveB
  try dsimp only
  repeat' first
    | with_reducible first | assumption | apply keeps_qualifyPending | apply keeps_mGroup | apply keeps_judge
                           | apply keeps_holdB
    | exact fun _ => rfl | intro _ | with_reducible (first | apply keeps_foldl | apply keeps_ite) | split
    | (show K _ _ _ _ _ _ _ _; dsimp only; with_reducible apply Keeps.k)

theorem keeps_runCompletes (g : Nat) (d : GroupDecl) (o : Occ) (s : State) (h : Keeps ko kq kc s) :
    Keeps ko kq kc (runCompletes g d o s) := by
  unfold runCompletes
  try dsimp only
  repeat' first
    | with_reducible first | assumption | apply keeps_qualifyPending | apply keeps_mGroup
    | exact fun _ => rfl | intro _ | with_reducible (first | apply keeps_foldl | apply keeps_ite) | split
    | (show K _ _ _ _ _ _ _ _; dsimp only; with_reducible apply Keeps.k)

theorem keeps_arrive (g : Nat) (o : Occ) (s : State) (h : Keeps ko kq kc s) :
    Keeps ko kq kc (arrive g o s) := by
  unfold arrive
  try dsimp only
  repeat' first
    | with_reducible first | assumption | apply keeps_runCompletes | apply keeps_arriveA | apply keeps_arriveB
    | exact fun _ => rfl | intro _ | with_reducible (first | apply keeps_foldl | apply keeps_ite) | split
    | (show K _ _ _ _ _ _ _ _; dsimp only; with_reducible apply Keeps.k)

theorem keeps_arrivalOf (g k : Nat) (s : State) (h : Keeps ko kq kc s) :
    Keeps ko kq kc (arrivalOf g k s) := by
  unfold arrivalOf
  try dsimp only
  repeat' first
    | with_reducible first | assumption | apply keeps_mGroup | apply keeps_arrive
    | exact fun _ => rfl | intro _ | with_reducible (first | apply keeps_foldl | apply keeps_ite) | split
    | (show K _ _ _ _ _ _ _ _; dsimp only; with_reducible apply Keeps.k)

theorem keeps_expire (g : Nat) (s : State) (h : Keeps ko kq kc s) :
    Keeps ko kq kc (expire g s) := by
  unfold expire
  try dsimp only
  repeat' first
    | with_reducible first | assumption | apply keeps_cancelProvisional | apply keeps_mGroup
    | exact fun _ => rfl | intro _ | with_reducible (first | apply keeps_foldl | apply keeps_ite) | split
    | (show K _ _ _ _ _ _ _ _; dsimp only; with_reducible apply Keeps.k)

theorem keeps_hemEnd (g : Nat) (s : State) (h : Keeps ko kq kc s) :
    Keeps ko kq kc (hemEnd g s) := by
  unfold hemEnd
  try dsimp only
  repeat' first
    | with_reducible first | assumption | apply keeps_closeCapture
    | exact fun _ => rfl | intro _ | with_reducible (first | apply keeps_foldl | apply keeps_ite) | split
    | (show K _ _ _ _ _ _ _ _; dsimp only; with_reducible apply Keeps.k)

theorem keeps_armGroup (g : Nat) (s : State) (h : Keeps ko kq kc s) :
    Keeps ko kq kc (armGroup g s) := by
  unfold armGroup
  try dsimp only
  repeat' first
    | with_reducible first | assumption | apply keeps_toArmed | apply keeps_mGroup
    | exact fun _ => rfl | intro _ | with_reducible (first | apply keeps_foldl | apply keeps_ite) | split
    | (show K _ _ _ _ _ _ _ _; dsimp only; with_reducible apply Keeps.k)

theorem keeps_disarmGroup (g : Nat) (s : State) (h : Keeps ko kq kc s) :
    Keeps ko kq kc (disarmGroup g s) := by
  unfold disarmGroup
  try dsimp only
  repeat' first
    | with_reducible first | assumption | apply keeps_toDisarmed | apply keeps_mGroup
    | exact fun _ => rfl | intro _ | with_reducible (first | apply keeps_foldl | apply keeps_ite) | split
    | (show K _ _ _ _ _ _ _ _; dsimp only; with_reducible apply Keeps.k)

theorem keeps_forceGroup (g : Nat) (s : State) (h : Keeps ko kq kc s) :
    Keeps ko kq kc (forceGroup g s) := by
  unfold forceGroup
  try dsimp only
  repeat' first
    | with_reducible first | assumption | apply keeps_judge
    | exact fun _ => rfl | intro _ | with_reducible (first | apply keeps_foldl | apply keeps_ite) | split
    | (show K _ _ _ _ _ _ _ _; dsimp only; with_reducible apply Keeps.k)

theorem keeps_abortCapture (g : Nat) (s : State) (h : Keeps ko kq kc s) :
    Keeps ko kq kc (abortCapture g s) := by
  unfold abortCapture
  try dsimp only
  repeat' first
    | with_reducible first | assumption | apply keeps_cancelProvisional | apply keeps_closeCapture
    | exact fun _ => rfl | intro _ | with_reducible (first | apply keeps_foldl | apply keeps_ite) | split
    | (show K _ _ _ _ _ _ _ _; dsimp only; with_reducible apply Keeps.k)

theorem keeps_abortCaptures (w : Word) (s : State) (h : Keeps ko kq kc s) :
    Keeps ko kq kc (abortCaptures w s) := by
  unfold abortCaptures
  try dsimp only
  repeat' first
    | with_reducible first | assumption | apply keeps_abortCapture
    | exact fun _ => rfl | intro _ | with_reducible (first | apply keeps_foldl | apply keeps_ite) | split
    | (show K _ _ _ _ _ _ _ _; dsimp only; with_reducible apply Keeps.k)

theorem keeps_eachGroup {f : Nat → State → State} (hf : ∀ g s, Keeps ko kq kc s → Keeps ko kq kc (f g s)) (w : Word)
    (s : State) (h : Keeps ko kq kc s) : Keeps ko kq kc (eachGroup f w s) := by
  unfold eachGroup
  repeat' first
    | with_reducible first | assumption | apply hf
    | intro _ | with_reducible (first | apply keeps_foldl) | split

theorem keeps_levelGroups (d : TrigCond) (n : Nat) (code : Int) (own cal : Bool) (s : State) (h : Keeps ko kq kc s) :
    Keeps ko kq kc (levelGroups d n code own cal s) := by
  unfold levelGroups
  try dsimp only
  repeat' first
    | with_reducible first | assumption | apply keeps_mGroup
    | exact fun _ => rfl | intro _ | with_reducible (first | apply keeps_foldl | apply keeps_ite) | split
    | (show K _ _ _ _ _ _ _ _; dsimp only; with_reducible apply Keeps.k)

theorem keeps_tdStep (ch n : Nat) (code : Int) (s : State) (d : TrigCond) (h : Keeps ko kq kc s) :
    Keeps ko kq kc (tdStep ch n code s d) := by
  unfold tdStep
  try dsimp only
  repeat' first
    | with_reducible first | assumption | apply keeps_levelGroups | apply keeps_raiseOcc | apply keeps_mCond
    | exact fun _ => rfl | intro _ | with_reducible (first | apply keeps_foldl | apply keeps_ite) | split
    | (show K _ _ _ _ _ _ _ _; dsimp only; with_reducible apply Keeps.k)

theorem keeps_tdSamples (ch n : Nat) (l : List Int) (s : State) (h : Keeps ko kq kc s) :
    Keeps ko kq kc (tdSamples ch n l s) := by
  induction l generalizing n s with
  | nil => exact h
  | cons a r ih => exact ih _ _ (keeps_foldl (fun _ _ h => keeps_tdStep _ _ _ _ _ h) h)

theorem keeps_overrange (ch n : Nat) (s : State) (h : Keeps ko kq kc s) :
    Keeps ko kq kc (overrange ch n s) := by
  unfold overrange
  try dsimp only
  repeat' first
    | with_reducible first | assumption | apply keeps_raiseOcc
    | exact fun _ => rfl | intro _ | with_reducible (first | apply keeps_foldl | apply keeps_ite) | split
    | (show K _ _ _ _ _ _ _ _; dsimp only; with_reducible apply Keeps.k)

theorem keeps_mVol (f : Volume → Volume) (s : State) (h : Keeps ko kq kc s) :
    Keeps ko kq kc (mVol f s) := by
  unfold mVol
  try dsimp only
  repeat' first
    | with_reducible first | assumption | apply keeps_mDisk
    | exact fun _ => rfl | intro _ | with_reducible (first | apply keeps_foldl | apply keeps_ite) | split
    | (show K _ _ _ _ _ _ _ _; dsimp only; with_reducible apply Keeps.k)

theorem keeps_issueCmd (d q : Nat) (op : NvmeOp) (retried : Bool) (s : State) (h : Keeps ko kq kc s) :
    Keeps ko kq kc (issueCmd d q op retried s) := by
  unfold issueCmd
  try dsimp only
  repeat' first
    | with_reducible first | assumption | apply keeps_mDrive | apply keeps_bump | apply keeps_emit | apply keeps_slot
    | exact fun _ => rfl | intro _ | with_reducible (first | apply keeps_foldl | apply keeps_ite) | split
    | (show K _ _ _ _ _ _ _ _; dsimp only; with_reducible apply Keeps.k)

theorem keeps_submit (d : Nat) (op : NvmeOp) (retried : Bool) (s : State) (h : Keeps ko kq kc s) :
    Keeps ko kq kc (submit d op retried s) := by
  unfold submit
  try dsimp only
  repeat' first
    | with_reducible first | assumption | apply keeps_issueCmd | apply keeps_mDrive
    | exact fun _ => rfl | intro _ | with_reducible (first | apply keeps_foldl | apply keeps_ite) | split
    | (show K _ _ _ _ _ _ _ _; dsimp only; with_reducible apply Keeps.k)

theorem keeps_pumpDrive (s : State) (d : Nat) (h : Keeps ko kq kc s) :
    Keeps ko kq kc (pumpDrive s d) := by
  unfold pumpDrive
  try dsimp only
  repeat' first
    | with_reducible first | assumption | apply keeps_mDrive | apply keeps_submit
    | exact fun _ => rfl | intro _ | with_reducible (first | apply keeps_foldl | apply keeps_ite) | split
    | (show K _ _ _ _ _ _ _ _; dsimp only; with_reducible apply Keeps.k)

theorem keeps_nextSetup (d : Nat) (s : State) (h : Keeps ko kq kc s) :
    Keeps ko kq kc (nextSetup d s) := by
  unfold nextSetup
  try dsimp only
  repeat' first
    | with_reducible first | assumption | apply keeps_mDrive | apply keeps_submit
    | exact fun _ => rfl | intro _ | with_reducible (first | apply keeps_foldl | apply keeps_ite) | split
    | (show K _ _ _ _ _ _ _ _; dsimp only; with_reducible apply Keeps.k)

theorem keeps_enableDrive (d : Nat) (s : State) (h : Keeps ko kq kc s) :
    Keeps ko kq kc (enableDrive d s) := by
  unfold enableDrive
  try dsimp only
  repeat' first
    | with_reducible first | assumption | apply keeps_mDrive | apply keeps_emit
    | exact fun _ => rfl | intro _ | with_reducible (first | apply keeps_foldl | apply keeps_ite) | split
    | (show K _ _ _ _ _ _ _ _; dsimp only; with_reducible apply Keeps.k)

theorem keeps_rejectDrive (d reason : Nat) (s : State) (h : Keeps ko kq kc s) :
    Keeps ko kq kc (rejectDrive d reason s) := by
  unfold rejectDrive
  try dsimp only
  repeat' first
    | with_reducible first | assumption | apply keeps_mDrive
    | exact fun _ => rfl | intro _ | with_reducible (first | apply keeps_foldl | apply keeps_ite) | split
    | (show K _ _ _ _ _ _ _ _; dsimp only; with_reducible apply Keeps.k)

theorem keeps_submitLive (op : NvmeOp) (s : State) (h : Keeps ko kq kc s) :
    Keeps ko kq kc (submitLive op s) := by
  unfold submitLive
  try dsimp only
  repeat' first
    | with_reducible first | assumption | apply keeps_submit
    | exact fun _ => rfl | intro _ | with_reducible (first | apply keeps_foldl | apply keeps_ite) | split
    | (show K _ _ _ _ _ _ _ _; dsimp only; with_reducible apply Keeps.k)

theorem keeps_mExtent (seq : Nat) (f : Extent → Extent) (s : State) (h : Keeps ko kq kc s) :
    Keeps ko kq kc (mExtent seq f s) := by
  unfold mExtent
  try dsimp only
  repeat' first
    | with_reducible first | assumption | apply keeps_mVol
    | exact fun _ => rfl | intro _ | with_reducible (first | apply keeps_foldl | apply keeps_ite) | split
    | (show K _ _ _ _ _ _ _ _; dsimp only; with_reducible apply Keeps.k)

theorem keeps_putHeader (seq : Nat) (f : Extent → Extent) (s : State) (h : Keeps ko kq kc s) :
    Keeps ko kq kc (putHeader seq f s) := by
  unfold putHeader
  try dsimp only
  repeat' first
    | with_reducible first | assumption | apply keeps_submitLive | apply keeps_mExtent
    | exact fun _ => rfl | intro _ | with_reducible (first | apply keeps_foldl | apply keeps_ite) | split
    | (show K _ _ _ _ _ _ _ _; dsimp only; with_reducible apply Keeps.k)

theorem keeps_rewriteHeader (seq : Nat) (f : Extent → Extent) (s : State) (h : Keeps ko kq kc s) :
    Keeps ko kq kc (rewriteHeader seq f s) := by
  unfold rewriteHeader
  try dsimp only
  repeat' first
    | with_reducible first | assumption | apply keeps_putHeader
    | exact fun _ => rfl | intro _ | with_reducible (first | apply keeps_foldl | apply keeps_ite) | split
    | (show K _ _ _ _ _ _ _ _; dsimp only; with_reducible apply Keeps.k)

theorem keeps_flagExtent (seq bits : Nat) (s : State) (h : Keeps ko kq kc s) :
    Keeps ko kq kc (flagExtent seq bits s) := by
  unfold flagExtent
  try dsimp only
  repeat' first
    | with_reducible first | assumption | apply keeps_rewriteHeader
    | exact fun _ => rfl | intro _ | with_reducible (first | apply keeps_foldl | apply keeps_ite) | split
    | (show K _ _ _ _ _ _ _ _; dsimp only; with_reducible apply Keeps.k)

theorem keeps_writeLabel (closed : Bool) (s : State) (h : Keeps ko kq kc s) :
    Keeps ko kq kc (writeLabel closed s) := by
  unfold writeLabel
  try dsimp only
  repeat' first
    | with_reducible first | assumption | apply keeps_submitLive | apply keeps_closed | apply keeps_mVol
    | exact fun _ => rfl | intro _ | with_reducible (first | apply keeps_foldl | apply keeps_ite) | split
    | (show K _ _ _ _ _ _ _ _; dsimp only; with_reducible apply Keeps.k)

theorem keeps_closeExtent (seq bits : Nat) (s : State) (h : Keeps ko kq kc s) :
    Keeps ko kq kc (closeExtent seq bits s) := by
  unfold closeExtent
  try dsimp only
  repeat' first
    | with_reducible first | assumption | apply keeps_mExtent | apply keeps_mVol
    | exact fun _ => rfl | intro _ | with_reducible (first | apply keeps_foldl | apply keeps_ite) | split
    | (show K _ _ _ _ _ _ _ _; dsimp only; with_reducible apply Keeps.k)

theorem keeps_truncateExtents (s : State) (h : Keeps ko kq kc s) :
    Keeps ko kq kc (truncateExtents s) := by
  unfold truncateExtents
  try dsimp only
  repeat' first
    | with_reducible first | assumption | apply keeps_closeExtent
    | exact fun _ => rfl | intro _ | with_reducible (first | apply keeps_foldl | apply keeps_ite) | split
    | (show K _ _ _ _ _ _ _ _; dsimp only; with_reducible apply Keeps.k)

theorem keeps_chainExtent (seq : Nat) (s : State) (h : Keeps ko kq kc s) :
    Keeps ko kq kc (chainExtent seq s) := by
  unfold chainExtent
  try dsimp only
  repeat' first
    | with_reducible first | assumption | apply keeps_putHeader
    | exact fun _ => rfl | intro _ | with_reducible (first | apply keeps_foldl | apply keeps_ite) | split
    | (show K _ _ _ _ _ _ _ _; dsimp only; with_reducible apply Keeps.k)

theorem keeps_endRewrite (s : State) (e : Extent) (h : Keeps ko kq kc s) :
    Keeps ko kq kc (endRewrite s e) := by
  unfold endRewrite
  try dsimp only
  repeat' first
    | with_reducible first | assumption | apply keeps_writeLabel | apply keeps_mExtent | apply keeps_pulse0
                           | apply keeps_bump | apply keeps_mVol
    | exact fun _ => rfl | intro _ | with_reducible (first | apply keeps_foldl | apply keeps_ite) | split
    | (show K _ _ _ _ _ _ _ _; dsimp only; with_reducible apply Keeps.k)

theorem keeps_advanceExtent (s : State) (e : Extent) (h : Keeps ko kq kc s) :
    Keeps ko kq kc (advanceExtent s e) := by
  unfold advanceExtent
  try dsimp only
  repeat' first
    | with_reducible first | assumption | apply keeps_rewriteHeader | apply keeps_chainExtent
                           | apply keeps_submitLive | apply keeps_endRewrite | apply keeps_mExtent
    | exact fun _ => rfl | intro _ | with_reducible (first | apply keeps_foldl | apply keeps_ite) | split
    | (show K _ _ _ _ _ _ _ _; dsimp only; with_reducible apply Keeps.k)

theorem keeps_advanceLabel (s : State) (h : Keeps ko kq kc s) :
    Keeps ko kq kc (advanceLabel s) := by
  unfold advanceLabel
  try dsimp only
  repeat' first
    | with_reducible first | assumption | apply keeps_submitLive | apply keeps_writeLabel | apply keeps_closed
                           | apply keeps_mVol
    | exact fun _ => rfl | intro _ | with_reducible (first | apply keeps_foldl | apply keeps_ite) | split
    | (show K _ _ _ _ _ _ _ _; dsimp only; with_reducible apply Keeps.k)

theorem keeps_labelDue (s : State) (h : Keeps ko kq kc s) :
    Keeps ko kq kc (labelDue s) := by
  unfold labelDue
  try dsimp only
  repeat' first
    | with_reducible first | assumption | apply keeps_writeLabel
    | exact fun _ => rfl | intro _ | with_reducible (first | apply keeps_foldl | apply keeps_ite) | split
    | (show K _ _ _ _ _ _ _ _; dsimp only; with_reducible apply Keeps.k)

theorem keeps_endStripes (s : State) (h : Keeps ko kq kc s) :
    Keeps ko kq kc (endStripes s) := by
  unfold endStripes
  try dsimp only
  repeat' first
    | with_reducible first | assumption | apply keeps_bumpBy | apply keeps_mVol
    | exact fun _ => rfl | intro _ | with_reducible (first | apply keeps_foldl | apply keeps_ite) | split
    | (show K _ _ _ _ _ _ _ _; dsimp only; with_reducible apply Keeps.k)

theorem keeps_serveExtent (s : State) (e : Extent) (h : Keeps ko kq kc s) :
    Keeps ko kq kc (serveExtent s e) := by
  unfold serveExtent
  try dsimp only
  repeat' first
    | with_reducible first | assumption | apply keeps_rewriteHeader | apply keeps_closeExtent | apply keeps_mExtent
    | exact fun _ => rfl | intro _ | with_reducible (first | apply keeps_foldl | apply keeps_ite) | split
    | (show K _ _ _ _ _ _ _ _; dsimp only; with_reducible apply Keeps.k)

theorem keeps_serveJobs (s : State) (h : Keeps ko kq kc s) :
    Keeps ko kq kc (serveJobs s) := by
  unfold serveJobs
  try dsimp only
  repeat' first
    | with_reducible first | assumption | apply keeps_serveExtent | apply keeps_mVol
    | exact fun _ => rfl | intro _ | with_reducible (first | apply keeps_foldl | apply keeps_ite) | split
    | (show K _ _ _ _ _ _ _ _; dsimp only; with_reducible apply Keeps.k)

theorem keeps_pumpAll (s : State) (h : Keeps ko kq kc s) :
    Keeps ko kq kc (pumpAll s) := by
  unfold pumpAll
  try dsimp only
  repeat' first
    | with_reducible first | assumption | apply keeps_pumpDrive
    | exact fun _ => rfl | intro _ | with_reducible (first | apply keeps_foldl | apply keeps_ite) | split
    | (show K _ _ _ _ _ _ _ _; dsimp only; with_reducible apply Keeps.k)

theorem keeps_progress (s : State) (h : Keeps ko kq kc s) :
    Keeps ko kq kc (progress s) := by
  unfold progress
  try dsimp only
  repeat' first
    | with_reducible first | assumption | apply keeps_advanceExtent | apply keeps_advanceLabel
                           | apply keeps_endStripes | apply keeps_settleDsk | apply keeps_serveJobs
                           | apply keeps_labelDue | apply keeps_pumpAll
    | exact fun _ => rfl | intro _ | with_reducible (first | apply keeps_foldl | apply keeps_ite) | split
    | (show K _ _ _ _ _ _ _ _; dsimp only; with_reducible apply Keeps.k)

theorem keeps_driveWork (s : State) (h : Keeps ko kq kc s) :
    Keeps ko kq kc (driveWork s) := by
  unfold driveWork
  try dsimp only
  repeat' first
    | with_reducible first | assumption | apply keeps_progress
    | exact fun _ => rfl | intro _ | with_reducible (first | apply keeps_foldl | apply keeps_ite) | split
    | (show K _ _ _ _ _ _ _ _; dsimp only; with_reducible apply Keeps.k)

theorem keeps_overflowJob (s : State) (j : CapJob) (h : Keeps ko kq kc s) :
    Keeps ko kq kc (overflowJob s j) := by
  unfold overflowJob
  try dsimp only
  repeat' first
    | with_reducible first | assumption | apply keeps_closeCapture
    | exact fun _ => rfl | intro _ | with_reducible (first | apply keeps_foldl | apply keeps_ite) | split
    | (show K _ _ _ _ _ _ _ _; dsimp only; with_reducible apply Keeps.k)

theorem keeps_stopRecording (s : State) (h : Keeps ko kq kc s) :
    Keeps ko kq kc (stopRecording s) := by
  unfold stopRecording
  try dsimp only
  repeat' first
    | with_reducible first | assumption | apply keeps_truncateExtents | apply keeps_overflowJob
                           | apply keeps_serveJobs | apply keeps_mVol
    | exact fun _ => rfl | intro _ | with_reducible (first | apply keeps_foldl | apply keeps_ite) | split
    | (show K _ _ _ _ _ _ _ _; dsimp only; with_reducible apply Keeps.k)

theorem keeps_dskReads (i wc n : Nat) (p : Nat → Nat → Purpose) (s : State) (h : Keeps ko kq kc s) :
    Keeps ko kq kc (dskReads i wc n p s) := by
  unfold dskReads
  try dsimp only
  repeat' first
    | with_reducible first | assumption | apply keeps_openSpan
    | exact fun _ => rfl | intro _ | with_reducible (first | apply keeps_foldl | apply keeps_ite) | split
    | (show K _ _ _ _ _ _ _ _; dsimp only; with_reducible apply Keeps.k)

theorem keeps_parityRead (m seq st : Nat) (s : State) (h : Keeps ko kq kc s) :
    Keeps ko kq kc (parityRead m seq st s) := by
  unfold parityRead
  try dsimp only
  repeat' first
    | with_reducible first | assumption | apply keeps_dskReads
    | exact fun _ => rfl | intro _ | with_reducible (first | apply keeps_foldl | apply keeps_ite) | split
    | (show K _ _ _ _ _ _ _ _; dsimp only; with_reducible apply Keeps.k)

theorem keeps_failMember (d reason : Nat) (quarantine : Bool) (s : State) (h : Keeps ko kq kc s) :
    Keeps ko kq kc (failMember d reason quarantine s) := by
  unfold failMember
  try dsimp only
  repeat' first
    | with_reducible first | assumption | apply keeps_stopRecording | apply keeps_flagExtent | apply keeps_parityRead
                           | apply keeps_quarantine | apply keeps_logEvent | apply keeps_progress
                           | apply keeps_pulse0 | apply keeps_mDrive | apply keeps_mVol
    | exact fun _ => rfl | intro _ | with_reducible (first | apply keeps_foldl | apply keeps_ite) | split
    | (show K _ _ _ _ _ _ _ _; dsimp only; with_reducible apply Keeps.k)

theorem keeps_quarantine (d reason addr : Nat) (s : State) (h : Keeps ko kq kc s) :
    Keeps ko kq kc (quarantine d reason addr s) := by
  unfold quarantine
  try dsimp only
  repeat' first
    | with_reducible first | assumption | apply keeps_failMember | apply keeps_logEvent | apply keeps_pulse0
                           | apply keeps_mDrive | apply keeps_bump
    | exact fun _ => rfl | intro _ | with_reducible (first | apply keeps_foldl | apply keeps_ite) | split
    | (show K _ _ _ _ _ _ _ _; dsimp only; with_reducible apply Keeps.k)

theorem keeps_checkLag (s : State) (h : Keeps ko kq kc s) :
    Keeps ko kq kc (checkLag s) := by
  unfold checkLag
  try dsimp only
  repeat' first
    | with_reducible first | assumption | apply keeps_failMember
    | exact fun _ => rfl | intro _ | with_reducible (first | apply keeps_foldl | apply keeps_ite) | split
    | (show K _ _ _ _ _ _ _ _; dsimp only; with_reducible apply Keeps.k)

theorem keeps_consumeCmd (d : Nat) (c : NvmeCmd) (head : Nat) (s : State) (h : Keeps ko kq kc s) :
    Keeps ko kq kc (consumeCmd d c head s) := by
  unfold consumeCmd
  try dsimp only
  repeat' first
    | with_reducible first | assumption | apply keeps_mDrive | apply keeps_emit
    | exact fun _ => rfl | intro _ | with_reducible (first | apply keeps_foldl | apply keeps_ite) | split
    | (show K _ _ _ _ _ _ _ _; dsimp only; with_reducible apply Keeps.k)

theorem keeps_completeCmd (d : Nat) (c : NvmeCmd) (s : State) (h : Keeps ko kq kc s) :
    Keeps ko kq kc (completeCmd d c s) := by
  unfold completeCmd
  try dsimp only
  repeat' first
    | with_reducible first | assumption | apply keeps_nextSetup | apply keeps_progress | apply keeps_checkLag
                           | apply keeps_bumpBy | apply keeps_mVol
    | exact fun _ => rfl | intro _ | with_reducible (first | apply keeps_foldl | apply keeps_ite) | split
    | (show K _ _ _ _ _ _ _ _; dsimp only; with_reducible apply Keeps.k)

theorem keeps_giveUp (d reason : Nat) (s : State) (h : Keeps ko kq kc s) :
    Keeps ko kq kc (giveUp d reason s) := by
  unfold giveUp
  try dsimp only
  repeat' first
    | with_reducible first | assumption | apply keeps_rejectDrive | apply keeps_failMember
    | exact fun _ => rfl | intro _ | with_reducible (first | apply keeps_foldl | apply keeps_ite) | split
    | (show K _ _ _ _ _ _ _ _; dsimp only; with_reducible apply Keeps.k)

theorem keeps_attemptFailed (d : Nat) (c : NvmeCmd) (reason : Nat) (s : State) (h : Keeps ko kq kc s) :
    Keeps ko kq kc (attemptFailed d c reason s) := by
  unfold attemptFailed
  try dsimp only
  repeat' first
    | with_reducible first | assumption | apply keeps_pulse0 | apply keeps_submit | apply keeps_giveUp
                           | apply keeps_bump
    | exact fun _ => rfl | intro _ | with_reducible (first | apply keeps_foldl | apply keeps_ite) | split
    | (show K _ _ _ _ _ _ _ _; dsimp only; with_reducible apply Keeps.k)

theorem keeps_completed (d : Nat) (c : NvmeCmd) (x : CompletionEntry) (s : State) (h : Keeps ko kq kc s) :
    Keeps ko kq kc (completed d c x s) := by
  unfold completed
  try dsimp only
  repeat' first
    | with_reducible first | assumption | apply keeps_attemptFailed | apply keeps_completeCmd
                           | apply keeps_consumeCmd | apply keeps_progress
    | exact fun _ => rfl | intro _ | with_reducible (first | apply keeps_foldl | apply keeps_ite) | split
    | (show K _ _ _ _ _ _ _ _; dsimp only; with_reducible apply Keeps.k)

theorem keeps_completion (d id : Nat) (x : CompletionEntry) (s : State) (h : Keeps ko kq kc s) :
    Keeps ko kq kc (completion d id x s) := by
  unfold completion
  try dsimp only
  repeat' first
    | with_reducible first | assumption | apply keeps_quarantine | apply keeps_completed | apply keeps_bump
                           | apply keeps_emit
    | exact fun _ => rfl | intro _ | with_reducible (first | apply keeps_foldl | apply keeps_ite) | split
    | (show K _ _ _ _ _ _ _ _; dsimp only; with_reducible apply Keeps.k)

theorem keeps_commandTimeout (d id : Nat) (s : State) (h : Keeps ko kq kc s) :
    Keeps ko kq kc (commandTimeout d id s) := by
  unfold commandTimeout
  try dsimp only
  repeat' first
    | with_reducible first | assumption | apply keeps_attemptFailed | apply keeps_mDrive | apply keeps_submit
                           | apply keeps_giveUp
    | exact fun _ => rfl | intro _ | with_reducible (first | apply keeps_foldl | apply keeps_ite) | split
    | (show K _ _ _ _ _ _ _ _; dsimp only; with_reducible apply Keeps.k)

theorem keeps_linkLost (d : Nat) (s : State) (h : Keeps ko kq kc s) :
    Keeps ko kq kc (linkLost d s) := by
  unfold linkLost
  try dsimp only
  repeat' first
    | with_reducible first | assumption | apply keeps_mDrive | apply keeps_giveUp
    | exact fun _ => rfl | intro _ | with_reducible (first | apply keeps_foldl | apply keeps_ite) | split
    | (show K _ _ _ _ _ _ _ _; dsimp only; with_reducible apply Keeps.k)

theorem keeps_joinMembers (map : List (Option Nat)) (failed : Nat) (s : State) (h : Keeps ko kq kc s) :
    Keeps ko kq kc (joinMembers map failed s) := by
  unfold joinMembers
  try dsimp only
  repeat' first
    | with_reducible first | assumption | apply keeps_mDrive
    | exact fun _ => rfl | intro _ | with_reducible (first | apply keeps_foldl | apply keeps_ite) | split
    | (show K _ _ _ _ _ _ _ _; dsimp only; with_reducible apply Keeps.k)

theorem keeps_startStreams (s : State) (h : Keeps ko kq kc s) :
    Keeps ko kq kc (startStreams s) := by
  unfold startStreams
  try dsimp only
  repeat' first
    | with_reducible first | assumption | apply keeps_settleDsk | apply keeps_mVol
    | exact fun _ => rfl | intro _ | with_reducible (first | apply keeps_foldl | apply keeps_ite) | split
    | (show K _ _ _ _ _ _ _ _; dsimp only; with_reducible apply Keeps.k)

theorem keeps_formatVolume (entropy : Nat) (s : State) (h : Keeps ko kq kc s) :
    Keeps ko kq kc (formatVolume entropy s) := by
  unfold formatVolume
  try dsimp only
  repeat' first
    | with_reducible first | assumption | apply keeps_stopRecording | apply keeps_startStreams
                           | apply keeps_joinMembers | apply keeps_writeLabel | apply keeps_mVol
    | exact fun _ => rfl | intro _ | with_reducible (first | apply keeps_foldl | apply keeps_ite) | split
    | (show K _ _ _ _ _ _ _ _; dsimp only; with_reducible apply Keeps.k)

theorem keeps_openVolume (labels : List (Nat × List Byte)) (s : State) (h : Keeps ko kq kc s) :
    Keeps ko kq kc (openVolume labels s) := by
  unfold openVolume
  try dsimp only
  repeat' first
    | with_reducible first | assumption | apply keeps_startStreams | apply keeps_joinMembers | apply keeps_writeLabel
                           | apply keeps_nextSeq | apply keeps_mDrive | apply keeps_mVol
    | exact fun _ => rfl | intro _ | with_reducible (first | apply keeps_foldl | apply keeps_ite) | split
    | (show K _ _ _ _ _ _ _ _; dsimp only; with_reducible apply Keeps.k)

theorem keeps_endOps (d : Nat) (f : NvmeOp → Bool) (s : State) (h : Keeps ko kq kc s) :
    Keeps ko kq kc (endOps d f s) := by
  unfold endOps
  try dsimp only
  repeat' first
    | with_reducible first | assumption | apply keeps_consumeCmd | apply keeps_mDrive
    | exact fun _ => rfl | intro _ | with_reducible (first | apply keeps_foldl | apply keeps_ite) | split
    | (show K _ _ _ _ _ _ _ _; dsimp only; with_reducible apply Keeps.k)

theorem keeps_labelRead (labels : List (Nat × List (List Byte))) (entropy : Nat) (s : State) (h : Keeps ko kq kc s) :
    Keeps ko kq kc (labelRead labels entropy s) := by
  unfold labelRead
  try dsimp only
  repeat' first
    | with_reducible first | assumption | apply keeps_formatVolume | apply keeps_openVolume | apply keeps_endOps
    | exact fun _ => rfl | intro _ | with_reducible (first | apply keeps_foldl | apply keeps_ite) | split
    | (show K _ _ _ _ _ _ _ _; dsimp only; with_reducible apply Keeps.k)

theorem keeps_openExtent (stream i n : Nat) (job : Option CapJob) (s : State) (h : Keeps ko kq kc s) :
    Keeps ko kq kc (openExtent stream i n job s).2 := by
  unfold openExtent
  try dsimp only
  repeat' first
    | with_reducible first | assumption | apply keeps_writeLabel | apply keeps_putHeader | apply keeps_nextSeq
                           | apply keeps_mVol
    | exact fun _ => rfl | intro _ | with_reducible (first | apply keeps_foldl | apply keeps_ite) | split
    | (show K _ _ _ _ _ _ _ _; dsimp only; with_reducible apply Keeps.k)

theorem keeps_openRoom (stream i n : Nat) (job : Option CapJob) (k : Nat) (s : State)
    (h : Keeps ko kq kc s) : Keeps ko kq kc (openRoom stream i n job k s).2 := by
  induction k generalizing s with
  | zero => exact h
  | succ k ih =>
    unfold openRoom
    try dsimp only
    repeat' first
      | with_reducible first | assumption | apply ih | apply keeps_closeExtent | apply keeps_openExtent
      | exact fun _ => rfl | intro _ | with_reducible (first | apply keeps_foldl | apply keeps_ite) | split

theorem keeps_resizeDsk (i n : Nat) (s : State) (h : Keeps ko kq kc s) :
    Keeps ko kq kc (resizeDsk i n s) := by
  unfold resizeDsk
  try dsimp only
  repeat' first
    | with_reducible first | assumption | apply keeps_resizeReader
    | exact fun _ => rfl | intro _ | with_reducible (first | apply keeps_foldl | apply keeps_ite) | split
    | (show K _ _ _ _ _ _ _ _; dsimp only; with_reducible apply Keeps.k)

theorem keeps_issueStripe (e : Extent) (n : Nat) (data : List Byte) (job : Option CapJob) (s : State)
    (h : Keeps ko kq kc s) :
    Keeps ko kq kc (issueStripe e n data job s) := by
  unfold issueStripe
  try dsimp only
  repeat' first
    | with_reducible first | assumption | apply keeps_closeExtent | apply keeps_parityRead | apply keeps_resizeDsk
                           | apply keeps_mExtent | apply keeps_submit | apply keeps_mVol
    | exact fun _ => rfl | intro _ | with_reducible (first | apply keeps_foldl | apply keeps_ite) | split
    | (show K _ _ _ _ _ _ _ _; dsimp only; with_reducible apply Keeps.k)

theorem keeps_placeStripe (stream i n : Nat) (data : List Byte) (job : Option CapJob) (s : State)
    (h : Keeps ko kq kc s) :
    Keeps ko kq kc (placeStripe stream i n data job s) := by
  unfold placeStripe
  try dsimp only
  repeat' first
    | with_reducible first | assumption | apply keeps_stopRecording | apply keeps_closeExtent
                           | apply keeps_issueStripe | apply keeps_progress | apply keeps_checkLag
                           | apply keeps_openRoom | apply keeps_mVol
    | exact fun _ => rfl | intro _ | with_reducible (first | apply keeps_foldl | apply keeps_ite) | split
    | (show K _ _ _ _ _ _ _ _; dsimp only; with_reducible apply Keeps.k)

theorem keeps_stripeWrite (i : Nat) (s : State) (h : Keeps ko kq kc s) :
    Keeps ko kq kc (stripeWrite i s) := by
  unfold stripeWrite
  try dsimp only
  repeat' first
    | with_reducible first | assumption | apply keeps_placeStripe
    | exact fun _ => rfl | intro _ | with_reducible (first | apply keeps_foldl | apply keeps_ite) | split
    | (show K _ _ _ _ _ _ _ _; dsimp only; with_reducible apply Keeps.k)

theorem keeps_beginClose (s : State) (h : Keeps ko kq kc s) :
    Keeps ko kq kc (beginClose s) := by
  unfold beginClose
  try dsimp only
  repeat' first
    | with_reducible first | assumption | apply keeps_truncateExtents | apply keeps_submitLive | apply keeps_progress
                           | apply keeps_mVol
    | exact fun _ => rfl | intro _ | with_reducible (first | apply keeps_foldl | apply keeps_ite) | split
    | (show K _ _ _ _ _ _ _ _; dsimp only; with_reducible apply Keeps.k)

theorem keeps_completeAll (s : State) (h : Keeps ko kq kc s) :
    Keeps ko kq kc (completeAll s) := by
  unfold completeAll
  try dsimp only
  repeat' first
    | with_reducible first | assumption | apply keeps_completed
    | exact fun _ => rfl | intro _ | with_reducible (first | apply keeps_foldl | apply keeps_ite) | split
    | (show K _ _ _ _ _ _ _ _; dsimp only; with_reducible apply Keeps.k)

theorem keeps_completeRounds  (k : Nat) (s : State) (h : Keeps ko kq kc s) : Keeps ko kq kc (completeRounds  k s) := by
  induction k generalizing s with
  | zero => exact h
  | succ k ih =>
    unfold completeRounds
    try dsimp only
    repeat' first
      | with_reducible first | assumption | apply ih | apply keeps_completeAll | apply keeps_progress
      | exact fun _ => rfl | intro _ | with_reducible (first | apply keeps_foldl | apply keeps_ite) | split

theorem keeps_closeVolume (s : State) (h : Keeps ko kq kc s) :
    Keeps ko kq kc (closeVolume s) := by
  unfold closeVolume
  try dsimp only
  repeat' first
    | with_reducible first | assumption | apply keeps_completeRounds | apply keeps_closed | apply keeps_mVol
    | exact fun _ => rfl | intro _ | with_reducible (first | apply keeps_foldl | apply keeps_ite) | split
    | (show K _ _ _ _ _ _ _ _; dsimp only; with_reducible apply Keeps.k)

theorem keeps_dropCommands (s : State) (h : Keeps ko kq kc s) :
    Keeps ko kq kc (dropCommands s) := by
  unfold dropCommands
  try dsimp only
  repeat' first
    | with_reducible first | assumption | apply keeps_mDisk
    | exact fun _ => rfl | intro _ | with_reducible (first | apply keeps_foldl | apply keeps_ite) | split
    | (show K _ _ _ _ _ _ _ _; dsimp only; with_reducible apply Keeps.k)

theorem keeps_serveDriveRead (d a : Nat) (c : NvmeCmd) (off n : Nat) (s : State) (h : Keeps ko kq kc s) :
    Keeps ko kq kc (serveDriveRead d a c off n s) := by
  unfold serveDriveRead
  try dsimp only
  repeat' first
    | with_reducible first | assumption | apply keeps_driveData | apply keeps_dskReads | apply keeps_emit
                           | apply keeps_mVol
    | exact fun _ => rfl | intro _ | with_reducible (first | apply keeps_foldl | apply keeps_ite) | split
    | (show K _ _ _ _ _ _ _ _; dsimp only; with_reducible apply Keeps.k)

theorem keeps_refuseAccess (d reason a : Nat) (s : State) (h : Keeps ko kq kc s) :
    Keeps ko kq kc (refuseAccess d reason a s) := by
  unfold refuseAccess
  try dsimp only
  repeat' first
    | with_reducible first | assumption | apply keeps_quarantine | apply keeps_emit
    | exact fun _ => rfl | intro _ | with_reducible (first | apply keeps_foldl | apply keeps_ite) | split
    | (show K _ _ _ _ _ _ _ _; dsimp only; with_reducible apply Keeps.k)

theorem keeps_driveIrq (d a : Nat) (w : Word) (u : Option PageUse) (s : State) (h : Keeps ko kq kc s) :
    Keeps ko kq kc (driveIrq d a w u s) := by
  unfold driveIrq
  try dsimp only
  repeat' first
    | with_reducible first | assumption | apply keeps_refuseAccess | apply keeps_doorbell
    | exact fun _ => rfl | intro _ | with_reducible (first | apply keeps_foldl | apply keeps_ite) | split
    | (show K _ _ _ _ _ _ _ _; dsimp only; with_reducible apply Keeps.k)

theorem keeps_readUse (d a n : Nat) (s : State) (u : Option PageUse) (h : Keeps ko kq kc s) :
    Keeps ko kq kc (readUse d a n s u) := by
  rcases u with _ | u
  · exact h
  · cases u
    case data => exact keeps_serveDriveRead _ _ _ _ _ _ h
    case prpList => exact keeps_emit _ _ h
    case submission => exact keeps_emit _ _ h
    all_goals exact h

theorem keeps_readPage (d a n : Nat) (s : State) (h : Keeps ko kq kc s) : Keeps ko kq kc (readPage d a n s) :=
  keeps_readUse _ _ _ _ _ h

theorem keeps_driveAccess (d : Nat) (x : DriveAccess) (s : State) (h : Keeps ko kq kc s) :
    Keeps ko kq kc (driveAccess d x s) := by
  unfold driveAccess
  try dsimp only
  repeat' first
    | with_reducible first | assumption | apply keeps_refuseAccess | apply keeps_driveIrq | apply keeps_readPage
                           | apply keeps_bump | apply keeps_emit
    | exact fun _ => rfl | intro _ | with_reducible (first | apply keeps_foldl | apply keeps_ite) | split
    | (show K _ _ _ _ _ _ _ _; dsimp only; with_reducible apply Keeps.k)

theorem keeps_markUe (seq st : Nat) (s : State) (h : Keeps ko kq kc s) :
    Keeps ko kq kc (markUe seq st s) := by
  unfold markUe
  try dsimp only
  repeat' first
    | with_reducible first | assumption | apply keeps_flagExtent | apply keeps_logEvent | apply keeps_mExtent
                           | apply keeps_pulse0 | apply keeps_bump
    | exact fun _ => rfl | intro _ | with_reducible (first | apply keeps_foldl | apply keeps_ite) | split
    | (show K _ _ _ _ _ _ _ _; dsimp only; with_reducible apply Keeps.k)

theorem keeps_parityData (seq st : Nat) (ue : Bool) (s : State) (h : Keeps ko kq kc s) :
    Keeps ko kq kc (parityData seq st ue s) := by
  unfold parityData
  try dsimp only
  repeat' first
    | with_reducible first | assumption | apply keeps_markUe
    | exact fun _ => rfl | intro _ | with_reducible (first | apply keeps_foldl | apply keeps_ite) | split
    | (show K _ _ _ _ _ _ _ _; dsimp only; with_reducible apply Keeps.k)

theorem keeps_driveData (d a seq st : Nat) (bytes : List Byte) (ue : Bool) (s : State) (h : Keeps ko kq kc s) :
    Keeps ko kq kc (driveData d a seq st bytes ue s) := by
  unfold driveData
  try dsimp only
  repeat' first
    | with_reducible first | assumption | apply keeps_parityData | apply keeps_emit
    | exact fun _ => rfl | intro _ | with_reducible (first | apply keeps_foldl | apply keeps_ite) | split
    | (show K _ _ _ _ _ _ _ _; dsimp only; with_reducible apply Keeps.k)

theorem keeps_driveLinkUp (d speed width : Nat) (nvme : Bool) (s : State) (h : Keeps ko kq kc s) :
    Keeps ko kq kc (driveLinkUp d speed width nvme s) := by
  unfold driveLinkUp
  try dsimp only
  repeat' first
    | with_reducible first | assumption | apply keeps_enableDrive | apply keeps_rejectDrive | apply keeps_mDrive
    | exact fun _ => rfl | intro _ | with_reducible (first | apply keeps_foldl | apply keeps_ite) | split
    | (show K _ _ _ _ _ _ _ _; dsimp only; with_reducible apply Keeps.k)

theorem keeps_driveReady (d : Nat) (s : State) (h : Keeps ko kq kc s) :
    Keeps ko kq kc (driveReady d s) := by
  unfold driveReady
  try dsimp only
  repeat' first
    | with_reducible first | assumption | apply keeps_submit
    | exact fun _ => rfl | intro _ | with_reducible (first | apply keeps_foldl | apply keeps_ite) | split
    | (show K _ _ _ _ _ _ _ _; dsimp only; with_reducible apply Keeps.k)

theorem keeps_identifyDone (d : Nat) (x : IdentifyInfo) (s : State) (h : Keeps ko kq kc s) :
    Keeps ko kq kc (identifyDone d x s) := by
  unfold identifyDone
  try dsimp only
  repeat' first
    | with_reducible first | assumption | apply keeps_rejectDrive | apply keeps_nextSetup | apply keeps_mDrive
                           | apply keeps_endOps
    | exact fun _ => rfl | intro _ | with_reducible (first | apply keeps_foldl | apply keeps_ite) | split
    | (show K _ _ _ _ _ _ _ _; dsimp only; with_reducible apply Keeps.k)

theorem keeps_driveLinkTimeout (d : Nat) (s : State) (h : Keeps ko kq kc s) :
    Keeps ko kq kc (driveLinkTimeout d s) := by
  unfold driveLinkTimeout
  try dsimp only
  repeat' first
    | with_reducible first | assumption | apply keeps_rejectDrive
    | exact fun _ => rfl | intro _ | with_reducible (first | apply keeps_foldl | apply keeps_ite) | split
    | (show K _ _ _ _ _ _ _ _; dsimp only; with_reducible apply Keeps.k)

theorem keeps_driveReadyTimeout (d : Nat) (s : State) (h : Keeps ko kq kc s) :
    Keeps ko kq kc (driveReadyTimeout d s) := by
  unfold driveReadyTimeout
  try dsimp only
  repeat' first
    | with_reducible first | assumption | apply keeps_rejectDrive
    | exact fun _ => rfl | intro _ | with_reducible (first | apply keeps_foldl | apply keeps_ite) | split
    | (show K _ _ _ _ _ _ _ _; dsimp only; with_reducible apply Keeps.k)

theorem keeps_nextCycle (s : State) (h : Keeps ko kq kc s) :
    Keeps ko kq kc (nextCycle s) := by
  unfold nextCycle
  try dsimp only
  repeat' first
    | with_reducible first | assumption | apply keeps_passCycle | apply keeps_mChan
    | exact fun _ => rfl | intro _ | with_reducible (first | apply keeps_foldl | apply keeps_ite) | split
    | (show K _ _ _ _ _ _ _ _; dsimp only; with_reducible apply Keeps.k)

theorem keeps_takeSamples (ch : Nat) (codes : List Int) (s : State) (h : Keeps ko kq kc s) :
    Keeps ko kq kc (takeSamples ch codes s) := by
  unfold takeSamples
  try dsimp only
  repeat' first
    | with_reducible first | assumption | apply keeps_channelSamples | apply keeps_checkCaptures
                           | apply keeps_tdSamples | apply keeps_nextCycle | apply keeps_mChan
    | exact fun _ => rfl | intro _ | with_reducible (first | apply keeps_foldl | apply keeps_ite) | split
    | (show K _ _ _ _ _ _ _ _; dsimp only; with_reducible apply Keeps.k)

theorem keeps_takeClamp (ch slice : Nat) (s : State) (h : Keeps ko kq kc s) :
    Keeps ko kq kc (takeClamp ch slice s) := by
  unfold takeClamp
  try dsimp only
  repeat' first
    | with_reducible first | assumption | apply keeps_clampSlice | apply keeps_overrange
    | exact fun _ => rfl | intro _ | with_reducible (first | apply keeps_foldl | apply keeps_ite) | split
    | (show K _ _ _ _ _ _ _ _; dsimp only; with_reducible apply Keeps.k)

theorem keeps_endWindow (ch : Nat) (s : State) (h : Keeps ko kq kc s) :
    Keeps ko kq kc (endWindow ch s) := by
  unfold endWindow
  try dsimp only
  repeat' first
    | with_reducible first | assumption | apply keeps_mChan
    | exact fun _ => rfl | intro _ | with_reducible (first | apply keeps_foldl | apply keeps_ite) | split
    | (show K _ _ _ _ _ _ _ _; dsimp only; with_reducible apply Keeps.k)

theorem keeps_endNeighbourAdj (ch : Nat) (s : State) (h : Keeps ko kq kc s) :
    Keeps ko kq kc (endNeighbourAdj ch s) := by
  unfold endNeighbourAdj
  try dsimp only
  repeat' first
    | with_reducible first | assumption | apply keeps_mChan
    | exact fun _ => rfl | intro _ | with_reducible (first | apply keeps_foldl | apply keeps_ite) | split
    | (show K _ _ _ _ _ _ _ _; dsimp only; with_reducible apply Keeps.k)

theorem keeps_endAdjWindow (ch : Nat) (s : State) (h : Keeps ko kq kc s) :
    Keeps ko kq kc (endAdjWindow ch s) := by
  unfold endAdjWindow
  try dsimp only
  repeat' first
    | with_reducible first | assumption | apply keeps_mChan
    | exact fun _ => rfl | intro _ | with_reducible (first | apply keeps_foldl | apply keeps_ite) | split
    | (show K _ _ _ _ _ _ _ _; dsimp only; with_reducible apply Keeps.k)

theorem keeps_measure (cls index cycles : Nat) (s : State) (h : Keeps ko kq kc s) :
    Keeps ko kq kc (Machine.measure cls index cycles s) := by
  unfold Machine.measure
  try dsimp only
  repeat' first
    | with_reducible first | assumption | apply keeps_logEvent | apply keeps_bump
    | exact fun _ => rfl | intro _ | with_reducible (first | apply keeps_foldl | apply keeps_ite) | split
    | (show K _ _ _ _ _ _ _ _; dsimp only; with_reducible apply Keeps.k)

theorem keeps_spectraAnchor (d : FrameDecl) (t : Nat) (s : State) (h : Keeps ko kq kc s) :
    Keeps ko kq kc (spectraAnchor d t s) := by
  unfold spectraAnchor
  try dsimp only
  repeat' first
    | with_reducible first | assumption | apply keeps_mSleeve
    | exact fun _ => rfl | intro _ | with_reducible (first | apply keeps_foldl | apply keeps_ite) | split
    | (show K _ _ _ _ _ _ _ _; dsimp only; with_reducible apply Keeps.k)

theorem keeps_frameStored (k n flags spurs : Nat) (d : FrameDecl) (s : State) (h : Keeps ko kq kc s) :
    Keeps ko kq kc (frameStored k n flags spurs d s) := by
  unfold frameStored
  try dsimp only
  repeat' first
    | with_reducible first | assumption | apply keeps_measure | apply keeps_pulse0 | apply keeps_mFrame
                           | apply keeps_bump
    | exact fun _ => rfl | intro _ | with_reducible (first | apply keeps_foldl | apply keeps_ite) | split
    | (show K _ _ _ _ _ _ _ _; dsimp only; with_reducible apply Keeps.k)

theorem keeps_decideFrame (k : Nat) (s : State) (h : Keeps ko kq kc s) :
    Keeps ko kq kc (decideFrame k s) := by
  unfold decideFrame
  try dsimp only
  repeat' first
    | with_reducible first | assumption | apply keeps_refuseRecord | apply keeps_pulse0 | apply keeps_mFrame
                           | apply keeps_bump
    | exact fun _ => rfl | intro _ | with_reducible (first | apply keeps_foldl | apply keeps_ite) | split
    | (show K _ _ _ _ _ _ _ _; dsimp only; with_reducible apply Keeps.k)

theorem keeps_passFrame (k : Nat) (data : List Byte) (s : State) (h : Keeps ko kq kc s) :
    Keeps ko kq kc (passFrame k data s) := by
  unfold passFrame
  try dsimp only
  repeat' first
    | with_reducible first | assumption | apply keeps_tidyMarkers | apply keeps_frameStored | apply keeps_decideFrame
                           | apply keeps_storeAll | apply keeps_mFrame
    | exact fun _ => rfl | intro _ | with_reducible (first | apply keeps_foldl | apply keeps_ite) | split
    | (show K _ _ _ _ _ _ _ _; dsimp only; with_reducible apply Keeps.k)

theorem keeps_storeHeader (k n flags : Nat) (d : FrameDecl) (bs : List Byte) (s : State) (h : Keeps ko kq kc s) :
    Keeps ko kq kc (storeHeader k n flags d bs s) := by
  unfold storeHeader
  try dsimp only
  repeat' first
    | with_reducible first | assumption | apply keeps_spectraAnchor | apply keeps_tidyMarkers | apply keeps_storeAll
                           | apply keeps_mSleeve | apply keeps_endDrop | apply keeps_mFrame
    | exact fun _ => rfl | intro _ | with_reducible (first | apply keeps_foldl | apply keeps_ite) | split
    | (show K _ _ _ _ _ _ _ _; dsimp only; with_reducible apply Keeps.k)

theorem keeps_beginFrame (k n flags : Nat) (d : FrameDecl) (bs : List Byte) (s : State) (h : Keeps ko kq kc s) :
    Keeps ko kq kc (beginFrame k n flags d bs s) := by
  unfold beginFrame
  try dsimp only
  repeat' first
    | with_reducible first | assumption | apply keeps_decideFrame | apply keeps_storeHeader | apply keeps_mFrame
    | exact fun _ => rfl | intro _ | with_reducible (first | apply keeps_foldl | apply keeps_ite) | split
    | (show K _ _ _ _ _ _ _ _; dsimp only; with_reducible apply Keeps.k)

theorem keeps_stampFrame (k : Nat) (s : State) (h : Keeps ko kq kc s) :
    Keeps ko kq kc (stampFrame k s) := by
  unfold stampFrame
  try dsimp only
  repeat' first
    | with_reducible first | assumption | apply keeps_beginFrame | apply keeps_passFrame | apply keeps_mFrame
    | exact fun _ => rfl | intro _ | with_reducible (first | apply keeps_foldl | apply keeps_ite) | split
    | (show K _ _ _ _ _ _ _ _; dsimp only; with_reducible apply Keeps.k)

theorem keeps_channeliserWrite (k i : Nat) (data : List Byte) (s : State) (h : Keeps ko kq kc s) :
    Keeps ko kq kc (channeliserWrite k i data s) := by
  unfold channeliserWrite
  try dsimp only
  repeat' first
    | with_reducible first | assumption | apply keeps_appendTimed | apply keeps_mSleeve | apply keeps_bumpBy
                           | apply keeps_mFrame
    | exact fun _ => rfl | intro _ | with_reducible (first | apply keeps_foldl | apply keeps_ite) | split
    | (show K _ _ _ _ _ _ _ _; dsimp only; with_reducible apply Keeps.k)

theorem keeps_afterWrite (s : State) (h : Keeps ko kq kc s) :
    Keeps ko kq kc (afterWrite s) := by
  unfold afterWrite
  try dsimp only
  repeat' first
    | with_reducible first | assumption | apply keeps_checkCaptures | apply keeps_progress
    | exact fun _ => rfl | intro _ | with_reducible (first | apply keeps_foldl | apply keeps_ite) | split
    | (show K _ _ _ _ _ _ _ _; dsimp only; with_reducible apply Keeps.k)

theorem keeps_blockWrite (i time : Nat) (data : List Byte) (s : State) (h : Keeps ko kq kc s) :
    Keeps ko kq kc (blockWrite i time data s) := by
  unfold blockWrite
  try dsimp only
  repeat' first
    | with_reducible first | assumption | apply keeps_channeliserWrite | apply keeps_appendBytes
                           | apply keeps_afterWrite | apply keeps_passFrame
    | exact fun _ => rfl | intro _ | with_reducible (first | apply keeps_foldl | apply keeps_ite) | split
    | (show K _ _ _ _ _ _ _ _; dsimp only; with_reducible apply Keeps.k)

theorem keeps_sharedRead (k j : Nat) (s : State) (h : Keeps ko kq kc s) :
    Keeps ko kq kc (sharedRead k j s) := by
  unfold sharedRead
  try dsimp only
  repeat' first
    | with_reducible first | assumption | apply keeps_nextFree | apply keeps_eccEvent | apply keeps_mFrame
    | exact fun _ => rfl | intro _ | with_reducible (first | apply keeps_foldl | apply keeps_ite) | split
    | (show K _ _ _ _ _ _ _ _; dsimp only; with_reducible apply Keeps.k)

theorem keeps_tracesFree (t : TraceDecl) (s : State) (h : Keeps ko kq kc s) :
    Keeps ko kq kc (tracesFree t s) := by
  unfold tracesFree
  try dsimp only
  repeat' first
    | with_reducible first | assumption
    | exact fun _ => rfl | intro _ | with_reducible (first | apply keeps_foldl | apply keeps_ite) | split
    | (show K _ _ _ _ _ _ _ _; dsimp only; with_reducible apply Keeps.k)

theorem keeps_traceRecord (d : Nat) (t : TraceDecl) (bs : List Byte) (born : Nat) (s : State) (h : Keeps ko kq kc s) :
    Keeps ko kq kc (traceRecord d t bs born s) := by
  unfold traceRecord
  try dsimp only
  repeat' first
    | with_reducible first | assumption | apply keeps_sharedRead | apply keeps_tracesFree | apply keeps_closeAt
                           | apply keeps_mTrace | apply keeps_bump
    | exact fun _ => rfl | intro _ | with_reducible (first | apply keeps_foldl | apply keeps_ite) | split
    | (show K _ _ _ _ _ _ _ _; dsimp only; with_reducible apply Keeps.k)

theorem keeps_traceFrame (d : Nat) (s : State) (h : Keeps ko kq kc s) :
    Keeps ko kq kc (traceFrame d s) := by
  unfold traceFrame
  try dsimp only
  repeat' first
    | with_reducible first | assumption | apply keeps_traceRecord
    | exact fun _ => rfl | intro _ | with_reducible (first | apply keeps_foldl | apply keeps_ite) | split
    | (show K _ _ _ _ _ _ _ _; dsimp only; with_reducible apply Keeps.k)

theorem keeps_traceClose (d : Nat) (s : State) (h : Keeps ko kq kc s) :
    Keeps ko kq kc (traceClose d s) := by
  unfold traceClose
  try dsimp only
  repeat' first
    | with_reducible first | assumption | apply keeps_appendRecord | apply keeps_measure | apply keeps_pulse0
                           | apply keeps_mTrace | apply keeps_bump
    | exact fun _ => rfl | intro _ | with_reducible (first | apply keeps_foldl | apply keeps_ite) | split
    | (show K _ _ _ _ _ _ _ _; dsimp only; with_reducible apply Keeps.k)

theorem keeps_fireDensity (p born time : Nat) (s : State) (c : CondDecl) (h : Keeps ko kq kc s) :
    Keeps ko kq kc (fireDensity p born time s c) := by
  unfold fireDensity
  try dsimp only
  repeat' first
    | with_reducible first | assumption | apply keeps_raiseOcc | apply keeps_measure | apply keeps_pulse0
                           | apply keeps_bump
    | exact fun _ => rfl | intro _ | with_reducible (first | apply keeps_foldl | apply keeps_ite) | split
    | (show K _ _ _ _ _ _ _ _; dsimp only; with_reducible apply Keeps.k)

theorem keeps_planeUse (p : Nat) (d : PlaneDecl) (bs : List Byte) (born : Nat) (s : State) (h : Keeps ko kq kc s) :
    Keeps ko kq kc (planeUse p d bs born s) := by
  unfold planeUse
  try dsimp only
  repeat' first
    | with_reducible first | assumption | apply keeps_fireDensity | apply keeps_mPlane
    | exact fun _ => rfl | intro _ | with_reducible (first | apply keeps_foldl | apply keeps_ite) | split
    | (show K _ _ _ _ _ _ _ _; dsimp only; with_reducible apply Keeps.k)

theorem keeps_densityFrame (p : Nat) (s : State) (h : Keeps ko kq kc s) :
    Keeps ko kq kc (densityFrame p s) := by
  unfold densityFrame
  try dsimp only
  repeat' first
    | with_reducible first | assumption | apply keeps_sharedRead | apply keeps_planeUse | apply keeps_mPlane
    | exact fun _ => rfl | intro _ | with_reducible (first | apply keeps_foldl | apply keeps_ite) | split
    | (show K _ _ _ _ _ _ _ _; dsimp only; with_reducible apply Keeps.k)

theorem keeps_exposureClose (p : Nat) (s : State) (h : Keeps ko kq kc s) :
    Keeps ko kq kc (exposureClose p s) := by
  unfold exposureClose
  try dsimp only
  repeat' first
    | with_reducible first | assumption | apply keeps_pulse0 | apply keeps_mPlane | apply keeps_bump
    | exact fun _ => rfl | intro _ | with_reducible (first | apply keeps_foldl | apply keeps_ite) | split
    | (show K _ _ _ _ _ _ _ _; dsimp only; with_reducible apply Keeps.k)

theorem keeps_queueDensity (p i : Nat) (data : List Byte) (s : State) (h : Keeps ko kq kc s) :
    Keeps ko kq kc (queueDensity p i data s) := by
  unfold queueDensity
  try dsimp only
  repeat' first
    | with_reducible first | assumption | apply keeps_openSpan | apply keeps_mSleeve | apply keeps_endDrop
    | exact fun _ => rfl | intro _ | with_reducible (first | apply keeps_foldl | apply keeps_ite) | split
    | (show K _ _ _ _ _ _ _ _; dsimp only; with_reducible apply Keeps.k)

theorem keeps_copyStart (p : Nat) (s : State) (h : Keeps ko kq kc s) :
    Keeps ko kq kc (copyStart p s) := by
  unfold copyStart
  try dsimp only
  repeat' first
    | with_reducible first | assumption | apply keeps_refuseRecord | apply keeps_queueDensity | apply keeps_pulse0
                           | apply keeps_mPlane | apply keeps_bump
    | exact fun _ => rfl | intro _ | with_reducible (first | apply keeps_foldl | apply keeps_ite) | split
    | (show K _ _ _ _ _ _ _ _; dsimp only; with_reducible apply Keeps.k)

theorem keeps_densityServed (p : Nat) (data : List Byte) (s : State) (h : Keeps ko kq kc s) :
    Keeps ko kq kc (densityServed p data s) := by
  unfold densityServed
  try dsimp only
  repeat' first
    | with_reducible first | assumption | apply keeps_tidyMarkers | apply keeps_noteResult | apply keeps_storeAll
                           | apply keeps_mSleeve | apply keeps_mPlane
    | exact fun _ => rfl | intro _ | with_reducible (first | apply keeps_foldl | apply keeps_ite) | split
    | (show K _ _ _ _ _ _ _ _; dsimp only; with_reducible apply Keeps.k)

theorem keeps_copyEnd (p : Nat) (s : State) (h : Keeps ko kq kc s) :
    Keeps ko kq kc (copyEnd p s) := by
  unfold copyEnd
  try dsimp only
  repeat' first
    | with_reducible first | assumption | apply keeps_pulse0 | apply keeps_mPlane | apply keeps_bump
    | exact fun _ => rfl | intro _ | with_reducible (first | apply keeps_foldl | apply keeps_ite) | split
    | (show K _ _ _ _ _ _ _ _; dsimp only; with_reducible apply Keeps.k)

theorem keeps_queueCtx (c : Nat) (bytes : List Byte) (input : Nat) (reserved : Bool) (s : State)
    (h : Keeps ko kq kc s) :
    Keeps ko kq kc (queueCtx c bytes input reserved s) := by
  unfold queueCtx
  try dsimp only
  repeat' first
    | with_reducible first | assumption | apply keeps_mCtx
    | exact fun _ => rfl | intro _ | with_reducible (first | apply keeps_foldl | apply keeps_ite) | split
    | (show K _ _ _ _ _ _ _ _; dsimp only; with_reducible apply Keeps.k)

theorem keeps_nextSeq (c : Nat) (s : State) (h : Keeps ko kq kc s) :
    Keeps ko kq kc (nextSeq c s) := by
  unfold nextSeq
  try dsimp only
  repeat' first
    | with_reducible first | assumption | apply keeps_mCtx
    | exact fun _ => rfl | intro _ | with_reducible (first | apply keeps_foldl | apply keeps_ite) | split
    | (show K _ _ _ _ _ _ _ _; dsimp only; with_reducible apply Keeps.k)

theorem keeps_discardRecord (c samples : Nat) (s : State) (h : Keeps ko kq kc s) :
    Keeps ko kq kc (discardRecord c samples s) := by
  unfold discardRecord
  try dsimp only
  repeat' first
    | with_reducible first | assumption | apply keeps_bump | apply keeps_mCtx
    | exact fun _ => rfl | intro _ | with_reducible (first | apply keeps_foldl | apply keeps_ite) | split
    | (show K _ _ _ _ _ _ _ _; dsimp only; with_reducible apply Keeps.k)

theorem keeps_loseEvent (c : Nat) (s : State) (h : Keeps ko kq kc s) :
    Keeps ko kq kc (loseEvent c s) := by
  unfold loseEvent
  try dsimp only
  repeat' first
    | with_reducible first | assumption | apply keeps_pulse0 | apply keeps_bump | apply keeps_mCtx
    | exact fun _ => rfl | intro _ | with_reducible (first | apply keeps_foldl | apply keeps_ite) | split
    | (show K _ _ _ _ _ _ _ _; dsimp only; with_reducible apply Keeps.k)

theorem keeps_carryOver (c : Nat) (s : State) (h : Keeps ko kq kc s) :
    Keeps ko kq kc (carryOver c s) := by
  unfold carryOver
  try dsimp only
  repeat' first
    | with_reducible first | assumption | apply keeps_pulse0 | apply keeps_bump | apply keeps_mCtx
    | exact fun _ => rfl | intro _ | with_reducible (first | apply keeps_foldl | apply keeps_ite) | split
    | (show K _ _ _ _ _ _ _ _; dsimp only; with_reducible apply Keeps.k)

theorem keeps_enterFallback (c cause time : Nat) (s : State) (h : Keeps ko kq kc s) :
    Keeps ko kq kc (enterFallback c cause time s) := by
  unfold enterFallback
  try dsimp only
  repeat' first
    | with_reducible first | assumption | apply keeps_discardRecord | apply keeps_carryOver | apply keeps_queueCtx
                           | apply keeps_nextSeq | apply keeps_pulse0 | apply keeps_bump | apply keeps_mCtx
    | exact fun _ => rfl | intro _ | with_reducible (first | apply keeps_foldl | apply keeps_ite) | split
    | (show K _ _ _ _ _ _ _ _; dsimp only; with_reducible apply Keeps.k)

theorem keeps_clearFallback (c : Nat) (s : State) (h : Keeps ko kq kc s) :
    Keeps ko kq kc (clearFallback c s) := by
  unfold clearFallback
  try dsimp only
  repeat' first
    | with_reducible first | assumption | apply keeps_mCtx
    | exact fun _ => rfl | intro _ | with_reducible (first | apply keeps_foldl | apply keeps_ite) | split
    | (show K _ _ _ _ _ _ _ _; dsimp only; with_reducible apply Keeps.k)

theorem keeps_putRecord (c kind : Nat) (bytes : List Byte) (samples time input : Nat) (s : State)
    (h : Keeps ko kq kc s) :
    Keeps ko kq kc (putRecord c kind bytes samples time input s) := by
  unfold putRecord
  try dsimp only
  repeat' first
    | with_reducible first | assumption | apply keeps_discardRecord | apply keeps_enterFallback
                           | apply keeps_clearFallback | apply keeps_loseEvent | apply keeps_carryOver
                           | apply keeps_queueCtx | apply keeps_nextSeq
    | exact fun _ => rfl | intro _ | with_reducible (first | apply keeps_foldl | apply keeps_ite) | split
    | (show K _ _ _ _ _ _ _ _; dsimp only; with_reducible apply Keeps.k)

theorem keeps_closeIq (c : Nat) (part : Bool) (s : State) (h : Keeps ko kq kc s) :
    Keeps ko kq kc (closeIq c part s) := by
  unfold closeIq
  try dsimp only
  repeat' first
    | with_reducible first | assumption | apply keeps_putRecord | apply keeps_mCtx
    | exact fun _ => rfl | intro _ | with_reducible (first | apply keeps_foldl | apply keeps_ite) | split
    | (show K _ _ _ _ _ _ _ _; dsimp only; with_reducible apply Keeps.k)

theorem keeps_ctxEvent (c : Nat) (d : ContextDecl) (rise : Bool) (value thr time input marks : Nat) (s : State)
    (h : Keeps ko kq kc s) :
    Keeps ko kq kc (ctxEvent c d rise value thr time input marks s) := by
  unfold ctxEvent
  try dsimp only
  repeat' first
    | with_reducible first | assumption | apply keeps_putRecord | apply keeps_raiseOcc | apply keeps_measure
                           | apply keeps_bump | apply keeps_mCtx
    | exact fun _ => rfl | intro _ | with_reducible (first | apply keeps_foldl | apply keeps_ite) | split
    | (show K _ _ _ _ _ _ _ _; dsimp only; with_reducible apply Keeps.k)

theorem keeps_threshold (c : Nat) (d : ContextDecl) (wide value time input marks : Nat) (s : State)
    (h : Keeps ko kq kc s) :
    Keeps ko kq kc (threshold c d wide value time input marks s) := by
  unfold threshold
  try dsimp only
  repeat' first
    | with_reducible first | assumption | apply keeps_ctxEvent
    | exact fun _ => rfl | intro _ | with_reducible (first | apply keeps_foldl | apply keeps_ite) | split
    | (show K _ _ _ _ _ _ _ _; dsimp only; with_reducible apply Keeps.k)

theorem keeps_closeDet (c : Nat) (d : ContextDecl) (part : Bool) (s : State) (h : Keeps ko kq kc s) :
    Keeps ko kq kc (closeDet c d part s) := by
  unfold closeDet
  try dsimp only
  repeat' first
    | with_reducible first | assumption | apply keeps_putRecord | apply keeps_threshold | apply keeps_mCtx
    | exact fun _ => rfl | intro _ | with_reducible (first | apply keeps_foldl | apply keeps_ite) | split
    | (show K _ _ _ _ _ _ _ _; dsimp only; with_reducible apply Keeps.k)

theorem keeps_resetContext (c : Nat) (d : ContextDecl) (s : State) (h : Keeps ko kq kc s) :
    Keeps ko kq kc (resetContext c d s) := by
  unfold resetContext
  try dsimp only
  repeat' first
    | with_reducible first | assumption | apply keeps_closeDet | apply keeps_closeIq | apply keeps_pulse0
                           | apply keeps_bump | apply keeps_mCtx
    | exact fun _ => rfl | intro _ | with_reducible (first | apply keeps_foldl | apply keeps_ite) | split
    | (show K _ _ _ _ _ _ _ _; dsimp only; with_reducible apply Keeps.k)

theorem keeps_rowValues (c t : Nat) (s : State) (h : Keeps ko kq kc s) :
    Keeps ko kq kc (rowValues c t s) := by
  unfold rowValues
  try dsimp only
  repeat' first
    | with_reducible first | assumption | apply keeps_mCtx
    | exact fun _ => rfl | intro _ | with_reducible (first | apply keeps_foldl | apply keeps_ite) | split
    | (show K _ _ _ _ _ _ _ _; dsimp only; with_reducible apply Keeps.k)

theorem keeps_outValue (c : Nat) (s : State) (p : Nat × Nat × Word) (h : Keeps ko kq kc s) :
    Keeps ko kq kc (outValue c s p) := by
  unfold outValue
  try dsimp only
  repeat' first
    | with_reducible first | assumption | apply keeps_pulse0 | apply keeps_bump | apply keeps_mCtx
    | exact fun _ => rfl | intro _ | with_reducible (first | apply keeps_foldl | apply keeps_ite) | split
    | (show K _ _ _ _ _ _ _ _; dsimp only; with_reducible apply Keeps.k)

theorem keeps_outValues (c t : Nat) (s : State) (h : Keeps ko kq kc s) :
    Keeps ko kq kc (outValues c t s) := by
  unfold outValues
  try dsimp only
  repeat' first
    | with_reducible first | assumption | apply keeps_outValue | apply keeps_mCtx
    | exact fun _ => rfl | intro _ | with_reducible (first | apply keeps_foldl | apply keeps_ite) | split
    | (show K _ _ _ _ _ _ _ _; dsimp only; with_reducible apply Keeps.k)

theorem keeps_endFade (c : Nat) (s : State) (h : Keeps ko kq kc s) :
    Keeps ko kq kc (endFade c s) := by
  unfold endFade
  try dsimp only
  repeat' first
    | with_reducible first | assumption | apply keeps_mCtx
    | exact fun _ => rfl | intro _ | with_reducible (first | apply keeps_foldl | apply keeps_ite) | split
    | (show K _ _ _ _ _ _ _ _; dsimp only; with_reducible apply Keeps.k)

theorem keeps_settle_ (c : Nat) (s : State) (h : Keeps ko kq kc s) :
    Keeps ko kq kc (settle_ c s) := by
  unfold settle_
  try dsimp only
  repeat' first
    | with_reducible first | assumption | apply keeps_mCtx
    | exact fun _ => rfl | intro _ | with_reducible (first | apply keeps_foldl | apply keeps_ite) | split
    | (show K _ _ _ _ _ _ _ _; dsimp only; with_reducible apply Keeps.k)

theorem keeps_iqSample (c : Nat) (d : ContextDecl) (y : Cx) (unsettled : Bool) (time : Nat) (s : State)
    (h : Keeps ko kq kc s) :
    Keeps ko kq kc (iqSample c d y unsettled time s) := by
  unfold iqSample
  try dsimp only
  repeat' first
    | with_reducible first | assumption | apply keeps_mCtx
    | exact fun _ => rfl | intro _ | with_reducible (first | apply keeps_foldl | apply keeps_ite) | split
    | (show K _ _ _ _ _ _ _ _; dsimp only; with_reducible apply Keeps.k)

theorem keeps_detSample (c p : Nat) (unsettled : Bool) (time : Nat) (s : State) (h : Keeps ko kq kc s) :
    Keeps ko kq kc (detSample c p unsettled time s) := by
  unfold detSample
  try dsimp only
  repeat' first
    | with_reducible first | assumption | apply keeps_mCtx
    | exact fun _ => rfl | intro _ | with_reducible (first | apply keeps_foldl | apply keeps_ite) | split
    | (show K _ _ _ _ _ _ _ _; dsimp only; with_reducible apply Keeps.k)

theorem keeps_closeFull (c : Nat) (d : ContextDecl) (s : State) (h : Keeps ko kq kc s) :
    Keeps ko kq kc (closeFull c d s) := by
  unfold closeFull
  try dsimp only
  repeat' first
    | with_reducible first | assumption | apply keeps_closeDet | apply keeps_closeIq
    | exact fun _ => rfl | intro _ | with_reducible (first | apply keeps_foldl | apply keeps_ite) | split
    | (show K _ _ _ _ _ _ _ _; dsimp only; with_reducible apply Keeps.k)

theorem keeps_ctxOutput (c : Nat) (d : ContextDecl) (u : Cx) (time input : Nat) (s : State) (h : Keeps ko kq kc s) :
    Keeps ko kq kc (ctxOutput c d u time input s) := by
  unfold ctxOutput
  try dsimp only
  repeat' first
    | with_reducible first | assumption | apply keeps_threshold | apply keeps_outValues | apply keeps_detSample
                           | apply keeps_closeFull | apply keeps_iqSample | apply keeps_endFade | apply keeps_settle_
                           | apply keeps_bump | apply keeps_mCtx
    | exact fun _ => rfl | intro _ | with_reducible (first | apply keeps_foldl | apply keeps_ite) | split
    | (show K _ _ _ _ _ _ _ _; dsimp only; with_reducible apply Keeps.k)

theorem keeps_mCtxReader (i : Nat) (f : Reader → Reader) (s : State) (h : Keeps ko kq kc s) :
    Keeps ko kq kc (mCtxReader i f s) := by
  unfold mCtxReader
  try dsimp only
  repeat' first
    | with_reducible first | assumption | apply keeps_mSleeve
    | exact fun _ => rfl | intro _ | with_reducible (first | apply keeps_foldl | apply keeps_ite) | split
    | (show K _ _ _ _ _ _ _ _; dsimp only; with_reducible apply Keeps.k)

theorem keeps_ctxAdvance (i : Nat) (s : State) (h : Keeps ko kq kc s) :
    Keeps ko kq kc (ctxAdvance i s) := by
  unfold ctxAdvance
  try dsimp only
  repeat' first
    | with_reducible first | assumption | apply keeps_mCtxReader
    | exact fun _ => rfl | intro _ | with_reducible (first | apply keeps_foldl | apply keeps_ite) | split
    | (show K _ _ _ _ _ _ _ _; dsimp only; with_reducible apply Keeps.k)

theorem keeps_takeNotices (i : Nat) (s : State) (h : Keeps ko kq kc s) :
    Keeps ko kq kc (takeNotices i s) := by
  unfold takeNotices
  try dsimp only
  repeat' first
    | with_reducible first | assumption | apply keeps_mCtxReader
    | exact fun _ => rfl | intro _ | with_reducible (first | apply keeps_foldl | apply keeps_ite) | split
    | (show K _ _ _ _ _ _ _ _; dsimp only; with_reducible apply Keeps.k)

theorem keeps_takeGaps (i j : Nat) (k : Nat) (s : State) (h : Keeps ko kq kc s) : Keeps ko kq kc
    (takeGaps i j k s) := by
  induction k generalizing s with
  | zero => exact h
  | succ k ih =>
    unfold takeGaps
    try dsimp only
    repeat' first
      | with_reducible first | assumption | apply ih | apply keeps_takeMarker | apply keeps_mCtxReader
      | exact fun _ => rfl | intro _ | with_reducible (first | apply keeps_foldl | apply keeps_ite) | split

theorem keeps_askRows (i j : Nat) (s : State) (h : Keeps ko kq kc s) :
    Keeps ko kq kc (askRows i j s) := by
  unfold askRows
  try dsimp only
  repeat' first
    | with_reducible first | assumption | apply keeps_mCtxReader | apply keeps_openSpan
    | exact fun _ => rfl | intro _ | with_reducible (first | apply keeps_foldl | apply keeps_ite) | split
    | (show K _ _ _ _ _ _ _ _; dsimp only; with_reducible apply Keeps.k)

theorem keeps_pumpRows (s : State) (i : Nat) (h : Keeps ko kq kc s) :
    Keeps ko kq kc (pumpRows s i) := by
  unfold pumpRows
  try dsimp only
  repeat' first
    | with_reducible first | assumption | apply keeps_takeNotices | apply keeps_takeGaps | apply keeps_askRows
    | exact fun _ => rfl | intro _ | with_reducible (first | apply keeps_foldl | apply keeps_ite) | split
    | (show K _ _ _ _ _ _ _ _; dsimp only; with_reducible apply Keeps.k)

theorem keeps_pumpContexts (s : State) (h : Keeps ko kq kc s) :
    Keeps ko kq kc (pumpContexts s) := by
  unfold pumpContexts
  try dsimp only
  repeat' first
    | with_reducible first | assumption | apply keeps_pumpRows
    | exact fun _ => rfl | intro _ | with_reducible (first | apply keeps_foldl | apply keeps_ite) | split
    | (show K _ _ _ _ _ _ _ _; dsimp only; with_reducible apply Keeps.k)

theorem keeps_ctxServed (i q n : Nat) (s : State) (h : Keeps ko kq kc s) :
    Keeps ko kq kc (ctxServed i q n s).2 := by
  unfold ctxServed
  try dsimp only
  repeat' first
    | with_reducible first | assumption | apply keeps_advanceReader
    | exact fun _ => rfl | intro _ | with_reducible (first | apply keeps_foldl | apply keeps_ite) | split
    | (show K _ _ _ _ _ _ _ _; dsimp only; with_reducible apply Keeps.k)

theorem keeps_ctxLand (i q n : Nat) (data : List Byte) (s : State) (h : Keeps ko kq kc s) :
    Keeps ko kq kc (ctxLand i q n data s) := by
  unfold ctxLand
  try dsimp only
  repeat' first
    | with_reducible first | assumption | apply keeps_mCtxReader
    | exact fun _ => rfl | intro _ | with_reducible (first | apply keeps_foldl | apply keeps_ite) | split
    | (show K _ _ _ _ _ _ _ _; dsimp only; with_reducible apply Keeps.k)

theorem keeps_takeRow (c : Nat) (d : ContextDecl) (s : State) (h : Keeps ko kq kc s) :
    Keeps ko kq kc (takeRow c d s) := by
  unfold takeRow
  try dsimp only
  repeat' first
    | with_reducible first | assumption | apply keeps_resetContext | apply keeps_ctxAdvance | apply keeps_rowValues
                           | apply keeps_ctxOutput | apply keeps_mCtx
    | exact fun _ => rfl | intro _ | with_reducible (first | apply keeps_foldl | apply keeps_ite) | split
    | (show K _ _ _ _ _ _ _ _; dsimp only; with_reducible apply Keeps.k)

theorem keeps_contextRow (c : Nat) (s : State) (h : Keeps ko kq kc s) :
    Keeps ko kq kc (contextRow c s) := by
  unfold contextRow
  try dsimp only
  repeat' first
    | with_reducible first | assumption | apply keeps_takeRow
    | exact fun _ => rfl | intro _ | with_reducible (first | apply keeps_foldl | apply keeps_ite) | split
    | (show K _ _ _ _ _ _ _ _; dsimp only; with_reducible apply Keeps.k)

theorem keeps_contextLoss (c : Nat) (s : State) (h : Keeps ko kq kc s) :
    Keeps ko kq kc (contextLoss c s) := by
  unfold contextLoss
  try dsimp only
  repeat' first
    | with_reducible first | assumption | apply keeps_ctxAdvance | apply keeps_mCtx
    | exact fun _ => rfl | intro _ | with_reducible (first | apply keeps_foldl | apply keeps_ite) | split
    | (show K _ _ _ _ _ _ _ _; dsimp only; with_reducible apply Keeps.k)

theorem keeps_offerRecord (c : Nat) (s : State) (h : Keeps ko kq kc s) :
    Keeps ko kq kc (offerRecord c s) := by
  unfold offerRecord
  try dsimp only
  repeat' first
    | with_reducible first | assumption | apply keeps_openRequest | apply keeps_mSleeve | apply keeps_mCtx
    | exact fun _ => rfl | intro _ | with_reducible (first | apply keeps_foldl | apply keeps_ite) | split
    | (show K _ _ _ _ _ _ _ _; dsimp only; with_reducible apply Keeps.k)

theorem keeps_recordServed (c : Nat) (data : List Byte) (s : State) (h : Keeps ko kq kc s) :
    Keeps ko kq kc (recordServed c data s) := by
  unfold recordServed
  try dsimp only
  repeat' first
    | with_reducible first | assumption | apply keeps_tidyMarkers | apply keeps_noteResult | apply keeps_storeAll
                           | apply keeps_mSleeve | apply keeps_measure | apply keeps_mCtx
    | exact fun _ => rfl | intro _ | with_reducible (first | apply keeps_foldl | apply keeps_ite) | split
    | (show K _ _ _ _ _ _ _ _; dsimp only; with_reducible apply Keeps.k)

theorem keeps_toleranceExpiry (c : Nat) (s : State) (h : Keeps ko kq kc s) :
    Keeps ko kq kc (toleranceExpiry c s) := by
  unfold toleranceExpiry
  try dsimp only
  repeat' first
    | with_reducible first | assumption | apply keeps_enterFallback | apply keeps_clearFallback
    | exact fun _ => rfl | intro _ | with_reducible (first | apply keeps_foldl | apply keeps_ite) | split
    | (show K _ _ _ _ _ _ _ _; dsimp only; with_reducible apply Keeps.k)

theorem keeps_fallbackExit (c : Nat) (s : State) (h : Keeps ko kq kc s) :
    Keeps ko kq kc (fallbackExit c s) := by
  unfold fallbackExit
  try dsimp only
  repeat' first
    | with_reducible first | assumption | apply keeps_carryOver | apply keeps_queueCtx | apply keeps_nextSeq
                           | apply keeps_pulse0 | apply keeps_mCtx
    | exact fun _ => rfl | intro _ | with_reducible (first | apply keeps_foldl | apply keeps_ite) | split
    | (show K _ _ _ _ _ _ _ _; dsimp only; with_reducible apply Keeps.k)

theorem keeps_contextApply (c field t : Nat) (v : Word) (s : State) (h : Keeps ko kq kc s) :
    Keeps ko kq kc (contextApply c field t v s) := by
  unfold contextApply
  try dsimp only
  repeat' first
    | with_reducible first | assumption | apply keeps_mCtx
    | exact fun _ => rfl | intro _ | with_reducible (first | apply keeps_foldl | apply keeps_ite) | split
    | (show K _ _ _ _ _ _ _ _; dsimp only; with_reducible apply Keeps.k)

theorem keeps_liveWrite (n : Nat) (v : Word) (s : State) (h : Keeps ko kq kc s) :
    Keeps ko kq kc (liveWrite n v s) := by
  unfold liveWrite
  try dsimp only
  repeat' first
    | with_reducible first | assumption | apply keeps_pulse0 | apply keeps_mLive | apply keeps_bump
    | exact fun _ => rfl | intro _ | with_reducible (first | apply keeps_foldl | apply keeps_ite) | split
    | (show K _ _ _ _ _ _ _ _; dsimp only; with_reducible apply Keeps.k)

theorem keeps_refuseCommit (state firstBad : Nat) (s : State) (h : Keeps ko kq kc s) :
    Keeps ko kq kc (refuseCommit state firstBad s) := by
  unfold refuseCommit
  try dsimp only
  repeat' first
    | with_reducible first | assumption | apply keeps_pulse0 | apply keeps_mLive | apply keeps_bump
    | exact fun _ => rfl | intro _ | with_reducible (first | apply keeps_foldl | apply keeps_ite) | split
    | (show K _ _ _ _ _ _ _ _; dsimp only; with_reducible apply Keeps.k)

theorem keeps_liveCommit (v : Word) (s : State) (h : Keeps ko kq kc s) :
    Keeps ko kq kc (liveCommit v s) := by
  unfold liveCommit
  try dsimp only
  repeat' first
    | with_reducible first | assumption | apply keeps_refuseCommit | apply keeps_pulse0 | apply keeps_mLive
    | exact fun _ => rfl | intro _ | with_reducible (first | apply keeps_foldl | apply keeps_ite) | split
    | (show K _ _ _ _ _ _ _ _; dsimp only; with_reducible apply Keeps.k)

theorem keeps_rangeChecked (s : State) (h : Keeps ko kq kc s) :
    Keeps ko kq kc (rangeChecked s) := by
  unfold rangeChecked
  try dsimp only
  repeat' first
    | with_reducible first | assumption | apply keeps_refuseCommit | apply keeps_mLive
    | exact fun _ => rfl | intro _ | with_reducible (first | apply keeps_foldl | apply keeps_ite) | split
    | (show K _ _ _ _ _ _ _ _; dsimp only; with_reducible apply Keeps.k)

theorem keeps_applyTrigger (a t : Nat) (v : Word) (s : State) (h : Keeps ko kq kc s) :
    Keeps ko kq kc (applyTrigger a t v s) := by
  unfold applyTrigger
  try dsimp only
  repeat' first
    | with_reducible first | assumption | apply keeps_mGroup | apply keeps_mCond
    | exact fun _ => rfl | intro _ | with_reducible (first | apply keeps_foldl | apply keeps_ite) | split
    | (show K _ _ _ _ _ _ _ _; dsimp only; with_reducible apply Keeps.k)

theorem keeps_applyTiu (a t : Nat) (v : Word) (s : State) (h : Keeps ko kq kc s) :
    Keeps ko kq kc (applyTiu a t v s) := by
  unfold applyTiu
  try dsimp only
  repeat' first
    | with_reducible first | assumption | apply keeps_drivePin | apply keeps_mInput | apply keeps_mUnit
    | exact fun _ => rfl | intro _ | with_reducible (first | apply keeps_foldl | apply keeps_ite) | split
    | (show K _ _ _ _ _ _ _ _; dsimp only; with_reducible apply Keeps.k)

theorem keeps_applyLength (i : Nat) (v : Word) (s : State) (h : Keeps ko kq kc s) :
    Keeps ko kq kc (applyLength i v s) := by
  unfold applyLength
  try dsimp only
  repeat' first
    | with_reducible first | assumption | apply keeps_mSleeve
    | exact fun _ => rfl | intro _ | with_reducible (first | apply keeps_foldl | apply keeps_ite) | split
    | (show K _ _ _ _ _ _ _ _; dsimp only; with_reducible apply Keeps.k)

theorem keeps_applyValue (t target : Nat) (v : Word) (s : State) (h : Keeps ko kq kc s) :
    Keeps ko kq kc (applyValue t target v s) := by
  unfold applyValue
  try dsimp only
  repeat' first
    | with_reducible first | assumption | apply keeps_applyCoupling | apply keeps_contextApply
                           | apply keeps_applyTrigger | apply keeps_applyLength | apply keeps_applyRange
                           | apply keeps_applyTiu
    | exact fun _ => rfl | intro _ | with_reducible (first | apply keeps_foldl | apply keeps_ite) | split
    | (show K _ _ _ _ _ _ _ _; dsimp only; with_reducible apply Keeps.k)

theorem keeps_seamPort (ns : List Nat) (s : State) (e : Nat) (h : Keeps ko kq kc s) :
    Keeps ko kq kc (seamPort ns s e) := by
  unfold seamPort
  try dsimp only
  repeat' first
    | with_reducible first | assumption | apply keeps_portQueued | apply keeps_portWrite | apply keeps_coreWords
    | exact fun _ => rfl | intro _ | with_reducible (first | apply keeps_foldl | apply keeps_ite) | split
    | (show K _ _ _ _ _ _ _ _; dsimp only; with_reducible apply Keeps.k)

theorem keeps_applyCommit (t : Nat) (ns : List Nat) (s : State) (h : Keeps ko kq kc s) :
    Keeps ko kq kc (applyCommit t ns s) := by
  unfold applyCommit
  try dsimp only
  repeat' first
    | with_reducible first | assumption | apply keeps_applyValue | apply keeps_mLive
    | exact fun _ => rfl | intro _ | with_reducible (first | apply keeps_foldl | apply keeps_ite) | split
    | (show K _ _ _ _ _ _ _ _; dsimp only; with_reducible apply Keeps.k)

theorem keeps_applyInitial (t : Nat) (s : State) (h : Keeps ko kq kc s) :
    Keeps ko kq kc (applyInitial t s) := by
  unfold applyInitial
  try dsimp only
  repeat' first
    | with_reducible first | assumption | apply keeps_applyValue
    | exact fun _ => rfl | intro _ | with_reducible (first | apply keeps_foldl | apply keeps_ite) | split
    | (show K _ _ _ _ _ _ _ _; dsimp only; with_reducible apply Keeps.k)

theorem keeps_seamStart (s : State) (h : Keeps ko kq kc s) :
    Keeps ko kq kc (seamStart s) := by
  unfold seamStart
  try dsimp only
  repeat' first
    | with_reducible first | assumption | apply keeps_rangeChecked | apply keeps_applyInitial
                           | apply keeps_applyCommit | apply keeps_seamRelays | apply keeps_seamPort
                           | apply keeps_calSeam | apply keeps_mLive | apply keeps_bump | apply keeps_mEng
    | exact fun _ => rfl | intro _ | with_reducible (first | apply keeps_foldl | apply keeps_ite) | split
    | (show K _ _ _ _ _ _ _ _; dsimp only; with_reducible apply Keeps.k)

theorem keeps_seamEnd (s : State) (h : Keeps ko kq kc s) :
    Keeps ko kq kc (seamEnd s) := by
  unfold seamEnd
  try dsimp only
  repeat' first
    | with_reducible first | assumption | apply keeps_pulse0 | apply keeps_mLive | apply keeps_bump
                           | apply keeps_mEng
    | exact fun _ => rfl | intro _ | with_reducible (first | apply keeps_foldl | apply keeps_ite) | split
    | (show K _ _ _ _ _ _ _ _; dsimp only; with_reducible apply Keeps.k)

theorem keeps_writeEntry (q : Nat) (e : Entry) (s : State) (h : Keeps ko kq kc s) :
    Keeps ko kq kc (writeEntry q e s) := by
  unfold writeEntry
  try dsimp only
  repeat' first
    | with_reducible first | assumption | apply keeps_sendVector | apply keeps_pulse0 | apply keeps_mRing
                           | apply keeps_bump | apply keeps_emit
    | exact fun _ => rfl | intro _ | with_reducible (first | apply keeps_foldl | apply keeps_ite) | split
    | (show K _ _ _ _ _ _ _ _; dsimp only; with_reducible apply Keeps.k)

theorem keeps_settleDisable (q : Nat) (s : State) (h : Keeps ko kq kc s) :
    Keeps ko kq kc (settleDisable q s) := by
  unfold settleDisable
  try dsimp only
  repeat' first
    | with_reducible first | assumption | apply keeps_mRing
    | exact fun _ => rfl | intro _ | with_reducible (first | apply keeps_foldl | apply keeps_ite) | split
    | (show K _ _ _ _ _ _ _ _; dsimp only; with_reducible apply Keeps.k)

theorem keeps_drainEntries (q : Nat) (k : Nat) (s : State) (h : Keeps ko kq kc s) : Keeps ko kq kc
    (drainEntries q k s) := by
  induction k generalizing s with
  | zero => exact h
  | succ k ih =>
    unfold drainEntries
    try dsimp only
    repeat' first
      | with_reducible first | assumption | apply ih | apply keeps_writeEntry | apply keeps_mRing
      | exact fun _ => rfl | intro _ | with_reducible (first | apply keeps_foldl | apply keeps_ite) | split

theorem keeps_askHost (q a n : Nat) (s : State) (h : Keeps ko kq kc s) :
    Keeps ko kq kc (askHost q a n s) := by
  unfold askHost
  try dsimp only
  repeat' first
    | with_reducible first | assumption | apply keeps_mLink | apply keeps_mRing | apply keeps_emit
    | exact fun _ => rfl | intro _ | with_reducible (first | apply keeps_foldl | apply keeps_ite) | split
    | (show K _ _ _ _ _ _ _ _; dsimp only; with_reducible apply Keeps.k)

theorem keeps_askAll (q : Nat) (w : HostAsk) (ps : List (Nat × Nat)) (s : State) (h : Keeps ko kq kc s) :
    Keeps ko kq kc (askAll q w ps s) := by
  unfold askAll
  try dsimp only
  repeat' first
    | with_reducible first | assumption | apply keeps_askHost | apply keeps_mRing
    | exact fun _ => rfl | intro _ | with_reducible (first | apply keeps_foldl | apply keeps_ite) | split
    | (show K _ _ _ _ _ _ _ _; dsimp only; with_reducible apply Keeps.k)

theorem keeps_sendAsks  (k : Nat) (s : State) (h : Keeps ko kq kc s) : Keeps ko kq kc (sendAsks  k s) := by
  induction k generalizing s with
  | zero => exact h
  | succ k ih =>
    unfold sendAsks
    try dsimp only
    repeat' first
      | with_reducible first | assumption | apply ih | apply keeps_mLink | apply keeps_emit
      | exact fun _ => rfl | intro _ | with_reducible (first | apply keeps_foldl | apply keeps_ite) | split

theorem keeps_answered (q : Nat) (s : State) (h : Keeps ko kq kc s) :
    Keeps ko kq kc (answered q s) := by
  unfold answered
  try dsimp only
  repeat' first
    | with_reducible first | assumption | apply keeps_sendAsks | apply keeps_mLink | apply keeps_mRing
    | exact fun _ => rfl | intro _ | with_reducible (first | apply keeps_foldl | apply keeps_ite) | split
    | (show K _ _ _ _ _ _ _ _; dsimp only; with_reducible apply Keeps.k)

theorem keeps_fetchNext (q : Nat) (s : State) (h : Keeps ko kq kc s) :
    Keeps ko kq kc (fetchNext q s) := by
  unfold fetchNext
  try dsimp only
  repeat' first
    | with_reducible first | assumption | apply keeps_askAll
    | exact fun _ => rfl | intro _ | with_reducible (first | apply keeps_foldl | apply keeps_ite) | split
    | (show K _ _ _ _ _ _ _ _; dsimp only; with_reducible apply Keeps.k)

theorem keeps_pushEntry (q : Nat) (e : Entry) (s : State) (h : Keeps ko kq kc s) :
    Keeps ko kq kc (pushEntry q e s) := by
  unfold pushEntry
  try dsimp only
  repeat' first
    | with_reducible first | assumption | apply keeps_settleDisable | apply keeps_drainEntries
                           | apply keeps_fetchNext | apply keeps_mRing
    | exact fun _ => rfl | intro _ | with_reducible (first | apply keeps_foldl | apply keeps_ite) | split
    | (show K _ _ _ _ _ _ _ _; dsimp only; with_reducible apply Keeps.k)

theorem keeps_hostWrites  (k : Nat) (o : Nat) (data : List Byte) (s : State)
    (h : Keeps ko kq kc s) : Keeps ko kq kc (hostWrites  k o data s) := by
  induction k generalizing o data s with
  | zero => exact h
  | succ k ih =>
    unfold hostWrites
    try dsimp only
    repeat' first
      | with_reducible first | assumption | apply ih | apply keeps_emit
      | exact fun _ => rfl | intro _ | with_reducible (first | apply keeps_foldl | apply keeps_ite) | split

theorem keeps_writePieces (l : List (Nat × Nat)) (bs : List Byte) (s : State) (h : Keeps ko kq kc s) :
    Keeps ko kq kc (writePieces l bs s) := by
  induction l generalizing bs s with
  | nil => exact h
  | cons p r ih => exact ih _ _ (keeps_hostWrites _ _ _ _ h)

theorem keeps_writeRest (u : Run) (s : State) (h : Keeps ko kq kc s) :
    Keeps ko kq kc (writeRest u s) := by
  unfold writeRest
  try dsimp only
  repeat' first
    | with_reducible first | assumption | apply keeps_writePieces
    | exact fun _ => rfl | intro _ | with_reducible (first | apply keeps_foldl | apply keeps_ite) | split
    | (show K _ _ _ _ _ _ _ _; dsimp only; with_reducible apply Keeps.k)

theorem keeps_finishRun (q status : Nat) (late part : Bool) (s : State) (h : Keeps ko kq kc s) :
    Keeps ko kq kc (finishRun q status late part s) := by
  unfold finishRun
  try dsimp only
  repeat' first
    | with_reducible first | assumption | apply keeps_pushEntry | apply keeps_writeRest | apply keeps_mRing
    | exact fun _ => rfl | intro _ | with_reducible (first | apply keeps_foldl | apply keeps_ite) | split
    | (show K _ _ _ _ _ _ _ _; dsimp only; with_reducible apply Keeps.k)

theorem keeps_mRun (q : Nat) (f : Run → Run) (s : State) (h : Keeps ko kq kc s) :
    Keeps ko kq kc (mRun q f s) := by
  unfold mRun
  try dsimp only
  repeat' first
    | with_reducible first | assumption | apply keeps_mRing
    | exact fun _ => rfl | intro _ | with_reducible (first | apply keeps_foldl | apply keeps_ite) | split
    | (show K _ _ _ _ _ _ _ _; dsimp only; with_reducible apply Keeps.k)

theorem keeps_requestRead (q a n : Nat) (s : State) (h : Keeps ko kq kc s) :
    Keeps ko kq kc (requestRead q a n s) := by
  unfold requestRead
  try dsimp only
  repeat' first
    | with_reducible first | assumption | apply keeps_openSpan | apply keeps_mRun
    | exact fun _ => rfl | intro _ | with_reducible (first | apply keeps_foldl | apply keeps_ite) | split
    | (show K _ _ _ _ _ _ _ _; dsimp only; with_reducible apply Keeps.k)

theorem keeps_nextBurst (q : Nat) (s : State) (h : Keeps ko kq kc s) :
    Keeps ko kq kc (nextBurst q s) := by
  unfold nextBurst
  try dsimp only
  repeat' first
    | with_reducible first | assumption | apply keeps_requestRead | apply keeps_finishRun | apply keeps_askAll
                           | apply keeps_mRun
    | exact fun _ => rfl | intro _ | with_reducible (first | apply keeps_foldl | apply keeps_ite) | split
    | (show K _ _ _ _ _ _ _ _; dsimp only; with_reducible apply Keeps.k)

theorem keeps_beginMove (q : Nat) (s : State) (h : Keeps ko kq kc s) :
    Keeps ko kq kc (beginMove q s) := by
  unfold beginMove
  try dsimp only
  repeat' first
    | with_reducible first | assumption | apply keeps_nextBurst | apply keeps_mRun
    | exact fun _ => rfl | intro _ | with_reducible (first | apply keeps_foldl | apply keeps_ite) | split
    | (show K _ _ _ _ _ _ _ _; dsimp only; with_reducible apply Keeps.k)

theorem keeps_closePartial (q : Nat) (s : State) (h : Keeps ko kq kc s) :
    Keeps ko kq kc (closePartial q s) := by
  unfold closePartial
  try dsimp only
  repeat' first
    | with_reducible first | assumption | apply keeps_finishRun
    | exact fun _ => rfl | intro _ | with_reducible (first | apply keeps_foldl | apply keeps_ite) | split
    | (show K _ _ _ _ _ _ _ _; dsimp only; with_reducible apply Keeps.k)

theorem keeps_streamPump (q : Nat) (s : State) (h : Keeps ko kq kc s) :
    Keeps ko kq kc (streamPump q s) := by
  unfold streamPump
  try dsimp only
  repeat' first
    | with_reducible first | assumption | apply keeps_closePartial | apply keeps_requestRead | apply keeps_takeMarker
                           | apply keeps_pushEntry | apply keeps_mSleeve | apply keeps_mRun
    | exact fun _ => rfl | intro _ | with_reducible (first | apply keeps_foldl | apply keeps_ite) | split
    | (show K _ _ _ _ _ _ _ _; dsimp only; with_reducible apply Keeps.k)

theorem keeps_pumpStreams (s : State) (h : Keeps ko kq kc s) :
    Keeps ko kq kc (pumpStreams s) := by
  unfold pumpStreams
  try dsimp only
  repeat' first
    | with_reducible first | assumption | apply keeps_streamPump
    | exact fun _ => rfl | intro _ | with_reducible (first | apply keeps_foldl | apply keeps_ite) | split
    | (show K _ _ _ _ _ _ _ _; dsimp only; with_reducible apply Keeps.k)

theorem keeps_fetchDesc (q : Nat) (data : Option (List Byte)) (s : State) (h : Keeps ko kq kc s) :
    Keeps ko kq kc (fetchDesc q data s) := by
  unfold fetchDesc
  try dsimp only
  repeat' first
    | with_reducible first | assumption | apply keeps_streamPump | apply keeps_pushEntry | apply keeps_finishRun
                           | apply keeps_beginMove | apply keeps_answered | apply keeps_pulse0 | apply keeps_askAll
                           | apply keeps_mRing | apply keeps_bump | apply keeps_mRun
    | exact fun _ => rfl | intro _ | with_reducible (first | apply keeps_foldl | apply keeps_ite) | split
    | (show K _ _ _ _ _ _ _ _; dsimp only; with_reducible apply Keeps.k)

theorem keeps_fetchTable (q : Nat) (data : Option (List Byte)) (s : State) (h : Keeps ko kq kc s) :
    Keeps ko kq kc (fetchTable q data s) := by
  unfold fetchTable
  try dsimp only
  repeat' first
    | with_reducible first | assumption | apply keeps_fetchNext | apply keeps_finishRun | apply keeps_beginMove
                           | apply keeps_answered | apply keeps_pulse0 | apply keeps_bump | apply keeps_mRun
    | exact fun _ => rfl | intro _ | with_reducible (first | apply keeps_foldl | apply keeps_ite) | split
    | (show K _ _ _ _ _ _ _ _; dsimp only; with_reducible apply Keeps.k)

theorem keeps_serveDmaRead (q : Nat) (s : State) (h : Keeps ko kq kc s) :
    Keeps ko kq kc (serveDmaRead q s).2 := by
  unfold serveDmaRead
  try dsimp only
  repeat' first
    | with_reducible first | assumption | apply keeps_advanceReader | apply keeps_mRun
    | exact fun _ => rfl | intro _ | with_reducible (first | apply keeps_foldl | apply keeps_ite) | split
    | (show K _ _ _ _ _ _ _ _; dsimp only; with_reducible apply Keeps.k)

theorem keeps_serveDmaWrite (q : Nat) (data : List Byte) (s : State) (h : Keeps ko kq kc s) :
    Keeps ko kq kc (serveDmaWrite q data s) := by
  unfold serveDmaWrite
  try dsimp only
  repeat' first
    | with_reducible first | assumption | apply keeps_appendBytes | apply keeps_bumpBy | apply keeps_mRun
    | exact fun _ => rfl | intro _ | with_reducible (first | apply keeps_foldl | apply keeps_ite) | split
    | (show K _ _ _ _ _ _ _ _; dsimp only; with_reducible apply Keeps.k)

theorem keeps_dmaData (q : Nat) (bytes : List Byte) (ue : Bool) (s : State) (h : Keeps ko kq kc s) :
    Keeps ko kq kc (dmaData q bytes ue s) := by
  unfold dmaData
  try dsimp only
  repeat' first
    | with_reducible first | assumption | apply keeps_openRequest | apply keeps_mRun
    | exact fun _ => rfl | intro _ | with_reducible (first | apply keeps_foldl | apply keeps_ite) | split
    | (show K _ _ _ _ _ _ _ _; dsimp only; with_reducible apply Keeps.k)

theorem keeps_hostReadData (q : Nat) (data : Option (List Byte)) (s : State) (h : Keeps ko kq kc s) :
    Keeps ko kq kc (hostReadData q data s) := by
  unfold hostReadData
  try dsimp only
  repeat' first
    | with_reducible first | assumption | apply keeps_openRequest | apply keeps_finishRun | apply keeps_answered
                           | apply keeps_pulse0 | apply keeps_bump
    | exact fun _ => rfl | intro _ | with_reducible (first | apply keeps_foldl | apply keeps_ite) | split
    | (show K _ _ _ _ _ _ _ _; dsimp only; with_reducible apply Keeps.k)

theorem keeps_readTimeout (q : Nat) (s : State) (h : Keeps ko kq kc s) :
    Keeps ko kq kc (readTimeout q s) := by
  unfold readTimeout
  try dsimp only
  repeat' first
    | with_reducible first | assumption | apply keeps_uncorrectable | apply keeps_hostReadData
                           | apply keeps_fetchTable | apply keeps_fetchDesc
    | exact fun _ => rfl | intro _ | with_reducible (first | apply keeps_foldl | apply keeps_ite) | split
    | (show K _ _ _ _ _ _ _ _; dsimp only; with_reducible apply Keeps.k)

theorem keeps_burstWrites (q : Nat) (u : Run) (s : State) (h : Keeps ko kq kc s) :
    Keeps ko kq kc (burstWrites q u s) := by
  unfold burstWrites
  try dsimp only
  repeat' first
    | with_reducible first | assumption | apply keeps_writePieces | apply keeps_mRun
    | exact fun _ => rfl | intro _ | with_reducible (first | apply keeps_foldl | apply keeps_ite) | split
    | (show K _ _ _ _ _ _ _ _; dsimp only; with_reducible apply Keeps.k)

theorem keeps_burstDone (q : Nat) (s : State) (h : Keeps ko kq kc s) :
    Keeps ko kq kc (burstDone q s) := by
  unfold burstDone
  try dsimp only
  repeat' first
    | with_reducible first | assumption | apply keeps_burstWrites | apply keeps_streamPump | apply keeps_finishRun
                           | apply keeps_nextBurst | apply keeps_bumpBy | apply keeps_mRun
    | exact fun _ => rfl | intro _ | with_reducible (first | apply keeps_foldl | apply keeps_ite) | split
    | (show K _ _ _ _ _ _ _ _; dsimp only; with_reducible apply Keeps.k)

theorem keeps_abortRun (q : Nat) (s : State) (h : Keeps ko kq kc s) :
    Keeps ko kq kc (abortRun q s) := by
  unfold abortRun
  try dsimp only
  repeat' first
    | with_reducible first | assumption | apply keeps_finishRun | apply keeps_mRing | apply keeps_mRun
    | exact fun _ => rfl | intro _ | with_reducible (first | apply keeps_foldl | apply keeps_ite) | split
    | (show K _ _ _ _ _ _ _ _; dsimp only; with_reducible apply Keeps.k)

theorem keeps_flushRing (q : Nat) (s : State) (h : Keeps ko kq kc s) :
    Keeps ko kq kc (flushRing q s) := by
  unfold flushRing
  try dsimp only
  repeat' first
    | with_reducible first | assumption | apply keeps_fetchNext | apply keeps_mRing
    | exact fun _ => rfl | intro _ | with_reducible (first | apply keeps_foldl | apply keeps_ite) | split
    | (show K _ _ _ _ _ _ _ _; dsimp only; with_reducible apply Keeps.k)

theorem keeps_disableRing (q : Nat) (s : State) (h : Keeps ko kq kc s) :
    Keeps ko kq kc (disableRing q s) := by
  unfold disableRing
  try dsimp only
  repeat' first
    | with_reducible first | assumption | apply keeps_settleDisable | apply keeps_flushRing | apply keeps_abortRun
                           | apply keeps_mRing
    | exact fun _ => rfl | intro _ | with_reducible (first | apply keeps_foldl | apply keeps_ite) | split
    | (show K _ _ _ _ _ _ _ _; dsimp only; with_reducible apply Keeps.k)

theorem keeps_joinStream (q : Nat) (s : State) (h : Keeps ko kq kc s) :
    Keeps ko kq kc (joinStream q s) := by
  unfold joinStream
  try dsimp only
  repeat' first
    | with_reducible first | assumption | apply keeps_tidyMarkers | apply keeps_pushEntry | apply keeps_mSleeve
    | exact fun _ => rfl | intro _ | with_reducible (first | apply keeps_foldl | apply keeps_ite) | split
    | (show K _ _ _ _ _ _ _ _; dsimp only; with_reducible apply Keeps.k)

theorem keeps_enableRing (q : Nat) (s : State) (h : Keeps ko kq kc s) :
    Keeps ko kq kc (enableRing q s) := by
  unfold enableRing
  try dsimp only
  repeat' first
    | with_reducible first | assumption | apply keeps_resumeWriter | apply keeps_joinStream | apply keeps_mRing
    | exact fun _ => rfl | intro _ | with_reducible (first | apply keeps_foldl | apply keeps_ite) | split
    | (show K _ _ _ _ _ _ _ _; dsimp only; with_reducible apply Keeps.k)

theorem keeps_writeCtrl (q : Nat) (w : Word) (s : State) (h : Keeps ko kq kc s) :
    Keeps ko kq kc (writeCtrl q w s) := by
  unfold writeCtrl
  try dsimp only
  repeat' first
    | with_reducible first | assumption | apply keeps_disableRing | apply keeps_enableRing | apply keeps_mRing
    | exact fun _ => rfl | intro _ | with_reducible (first | apply keeps_foldl | apply keeps_ite) | split
    | (show K _ _ _ _ _ _ _ _; dsimp only; with_reducible apply Keeps.k)

theorem keeps_writeTail (q : Nat) (w : Word) (s : State) (h : Keeps ko kq kc s) :
    Keeps ko kq kc (writeTail q w s) := by
  unfold writeTail
  try dsimp only
  repeat' first
    | with_reducible first | assumption | apply keeps_fetchNext | apply keeps_mRing
    | exact fun _ => rfl | intro _ | with_reducible (first | apply keeps_foldl | apply keeps_ite) | split
    | (show K _ _ _ _ _ _ _ _; dsimp only; with_reducible apply Keeps.k)

theorem keeps_writeChead (q : Nat) (w : Word) (s : State) (h : Keeps ko kq kc s) :
    Keeps ko kq kc (writeChead q w s) := by
  unfold writeChead
  try dsimp only
  repeat' first
    | with_reducible first | assumption | apply keeps_settleDisable | apply keeps_drainEntries
                           | apply keeps_fetchNext | apply keeps_mRing
    | exact fun _ => rfl | intro _ | with_reducible (first | apply keeps_foldl | apply keeps_ite) | split
    | (show K _ _ _ _ _ _ _ _; dsimp only; with_reducible apply Keeps.k)

theorem keeps_streamFlush (q : Nat) (s : State) (h : Keeps ko kq kc s) :
    Keeps ko kq kc (streamFlush q s) := by
  unfold streamFlush
  try dsimp only
  repeat' first
    | with_reducible first | assumption | apply keeps_closePartial
    | exact fun _ => rfl | intro _ | with_reducible (first | apply keeps_foldl | apply keeps_ite) | split
    | (show K _ _ _ _ _ _ _ _; dsimp only; with_reducible apply Keeps.k)

theorem keeps_noticeWrite (q : Nat) (s : State) (h : Keeps ko kq kc s) :
    Keeps ko kq kc (noticeWrite q s) := by
  unfold noticeWrite
  try dsimp only
  repeat' first
    | with_reducible first | assumption | apply keeps_leaveHoldoff | apply keeps_finishRun | apply keeps_bumpBy
                           | apply keeps_mGroup | apply keeps_emit | apply keeps_mRun
    | exact fun _ => rfl | intro _ | with_reducible (first | apply keeps_foldl | apply keeps_ite) | split
    | (show K _ _ _ _ _ _ _ _; dsimp only; with_reducible apply Keeps.k)

theorem keeps_lastNotices (s : State) (h : Keeps ko kq kc s) :
    Keeps ko kq kc (lastNotices s) := by
  unfold lastNotices
  try dsimp only
  repeat' first
    | with_reducible first | assumption | apply keeps_noticeWrite
    | exact fun _ => rfl | intro _ | with_reducible (first | apply keeps_foldl | apply keeps_ite) | split
    | (show K _ _ _ _ _ _ _ _; dsimp only; with_reducible apply Keeps.k)

theorem keeps_resetRings (s : State) (h : Keeps ko kq kc s) :
    Keeps ko kq kc (resetRings s) := by
  unfold resetRings
  try dsimp only
  repeat' first
    | with_reducible first | assumption
    | exact fun _ => rfl | intro _ | with_reducible (first | apply keeps_foldl | apply keeps_ite) | split
    | (show K _ _ _ _ _ _ _ _; dsimp only; with_reducible apply Keeps.k)

theorem keeps_stopRings (s : State) (h : Keeps ko kq kc s) :
    Keeps ko kq kc (stopRings s) := by
  unfold stopRings
  try dsimp only
  repeat' first
    | with_reducible first | assumption | apply keeps_disableRing
    | exact fun _ => rfl | intro _ | with_reducible (first | apply keeps_foldl | apply keeps_ite) | split
    | (show K _ _ _ _ _ _ _ _; dsimp only; with_reducible apply Keeps.k)

theorem keeps_queueRecord (n : Nat) (bytes : List Byte) (time : Nat) (s : State) (h : Keeps ko kq kc s) :
    Keeps ko kq kc (queueRecord n bytes time s) := by
  unfold queueRecord
  try dsimp only
  repeat' first
    | with_reducible first | assumption | apply keeps_pulse0 | apply keeps_mInput | apply keeps_bump
    | exact fun _ => rfl | intro _ | with_reducible (first | apply keeps_foldl | apply keeps_ite) | split
    | (show K _ _ _ _ _ _ _ _; dsimp only; with_reducible apply Keeps.k)

theorem keeps_stampEdge (n : Nat) (e : HeldEdge) (s : State) (h : Keeps ko kq kc s) :
    Keeps ko kq kc (stampEdge n e s) := by
  unfold stampEdge
  try dsimp only
  repeat' first
    | with_reducible first | assumption | apply keeps_queueRecord
    | exact fun _ => rfl | intro _ | with_reducible (first | apply keeps_foldl | apply keeps_ite) | split
    | (show K _ _ _ _ _ _ _ _; dsimp only; with_reducible apply Keeps.k)

theorem keeps_writeInterval (u : Nat) (a b : HeldEdge) (s : State) (h : Keeps ko kq kc s) :
    Keeps ko kq kc (writeInterval u a b s) := by
  unfold writeInterval
  try dsimp only
  repeat' first
    | with_reducible first | assumption | apply keeps_queueRecord | apply keeps_mUnit | apply keeps_bump
    | exact fun _ => rfl | intro _ | with_reducible (first | apply keeps_foldl | apply keeps_ite) | split
    | (show K _ _ _ _ _ _ _ _; dsimp only; with_reducible apply Keeps.k)

theorem keeps_intervalEdge (n : Nat) (e : HeldEdge) (s : State) (u : Nat) (h : Keeps ko kq kc s) :
    Keeps ko kq kc (intervalEdge n e s u) := by
  unfold intervalEdge
  try dsimp only
  repeat' first
    | with_reducible first | assumption | apply keeps_writeInterval | apply keeps_pulse0 | apply keeps_mUnit
                           | apply keeps_bump
    | exact fun _ => rfl | intro _ | with_reducible (first | apply keeps_foldl | apply keeps_ite) | split
    | (show K _ _ _ _ _ _ _ _; dsimp only; with_reducible apply Keeps.k)

theorem keeps_gateEdge (n : Nat) (e : HeldEdge) (s : State) (h : Keeps ko kq kc s) :
    Keeps ko kq kc (gateEdge n e s) := by
  unfold gateEdge
  try dsimp only
  repeat' first
    | with_reducible first | assumption | apply keeps_mInput
    | exact fun _ => rfl | intro _ | with_reducible (first | apply keeps_foldl | apply keeps_ite) | split
    | (show K _ _ _ _ _ _ _ _; dsimp only; with_reducible apply Keeps.k)

theorem keeps_closeGate (n : Nat) (s : State) (h : Keeps ko kq kc s) :
    Keeps ko kq kc (closeGate n s) := by
  unfold closeGate
  try dsimp only
  repeat' first
    | with_reducible first | assumption | apply keeps_queueRecord | apply keeps_mInput
    | exact fun _ => rfl | intro _ | with_reducible (first | apply keeps_foldl | apply keeps_ite) | split
    | (show K _ _ _ _ _ _ _ _; dsimp only; with_reducible apply Keeps.k)

theorem keeps_closeGates (n t : Nat) (s : State) (h : Keeps ko kq kc s) :
    Keeps ko kq kc (closeGates n t s) := by
  unfold closeGates
  try dsimp only
  repeat' first
    | with_reducible first | assumption | apply keeps_closeGate
    | exact fun _ => rfl | intro _ | with_reducible (first | apply keeps_foldl | apply keeps_ite) | split
    | (show K _ _ _ _ _ _ _ _; dsimp only; with_reducible apply Keeps.k)

theorem keeps_inputTo (n t k : Nat) (s : State) (h : Keeps ko kq kc s) : Keeps ko kq kc (inputTo n t k s) := by
  induction k generalizing s with
  | zero => exact keeps_closeGates _ _ _ h
  | succ k ih =>
    unfold inputTo
    repeat' first
      | with_reducible first | assumption | apply ih | apply keeps_closeGates | apply keeps_mInput
      | split

theorem keeps_inputEdge (s : State) (e : TiuEdge) (h : Keeps ko kq kc s) :
    Keeps ko kq kc (inputEdge s e) := by
  unfold inputEdge
  try dsimp only
  repeat' first
    | with_reducible first | assumption | apply keeps_stampEdge | apply keeps_gateEdge | apply keeps_inputTo
                           | apply keeps_mInput
    | exact fun _ => rfl | intro _ | with_reducible (first | apply keeps_foldl | apply keeps_ite) | split
    | (show K _ _ _ _ _ _ _ _; dsimp only; with_reducible apply Keeps.k)

theorem keeps_unitEdges (es : List TiuEdge) (t : Nat) (s : State) (u : Nat) (h : Keeps ko kq kc s) :
    Keeps ko kq kc (unitEdges es t s u) := by
  unfold unitEdges
  try dsimp only
  repeat' first
    | with_reducible first | assumption | apply keeps_intervalEdge | apply keeps_mUnit
    | exact fun _ => rfl | intro _ | with_reducible (first | apply keeps_foldl | apply keeps_ite) | split
    | (show K _ _ _ _ _ _ _ _; dsimp only; with_reducible apply Keeps.k)

theorem keeps_handleEdges (es : List TiuEdge) (t : Nat) (s : State) (h : Keeps ko kq kc s) :
    Keeps ko kq kc (handleEdges es t s) := by
  unfold handleEdges
  try dsimp only
  repeat' first
    | with_reducible first | assumption | apply keeps_inputEdge | apply keeps_unitEdges
    | exact fun _ => rfl | intro _ | with_reducible (first | apply keeps_foldl | apply keeps_ite) | split
    | (show K _ _ _ _ _ _ _ _; dsimp only; with_reducible apply Keeps.k)

theorem keeps_releaseEdges (e k : Nat) (s : State) (h : Keeps ko kq kc s) : Keeps ko kq kc (releaseEdges e k s) := by
  induction k generalizing s with
  | zero => exact h
  | succ k ih =>
    unfold releaseEdges
    try dsimp only
    repeat' first
      | with_reducible first | assumption | apply ih | apply keeps_handleEdges | apply keeps_mTiu
      | split

theorem keeps_settleEdges (s : State) (h : Keeps ko kq kc s) :
    Keeps ko kq kc (settleEdges s) := by
  unfold settleEdges
  try dsimp only
  repeat' first
    | with_reducible first | assumption | apply keeps_releaseEdges
    | exact fun _ => rfl | intro _ | with_reducible (first | apply keeps_foldl | apply keeps_ite) | split
    | (show K _ _ _ _ _ _ _ _; dsimp only; with_reducible apply Keeps.k)

theorem keeps_pushEdge (e : TiuEdge) (s : State) (h : Keeps ko kq kc s) :
    Keeps ko kq kc (pushEdge e s) := by
  unfold pushEdge
  try dsimp only
  repeat' first
    | with_reducible first | assumption | apply keeps_mTiu
    | exact fun _ => rfl | intro _ | with_reducible (first | apply keeps_foldl | apply keeps_ite) | split
    | (show K _ _ _ _ _ _ _ _; dsimp only; with_reducible apply Keeps.k)

theorem keeps_loseEdge (n : Nat) (e : HeldEdge) (s : State) (h : Keeps ko kq kc s) :
    Keeps ko kq kc (loseEdge n e s) := by
  unfold loseEdge
  try dsimp only
  repeat' first
    | with_reducible first | assumption | apply keeps_pushEdge | apply keeps_pulse0 | apply keeps_bump
    | exact fun _ => rfl | intro _ | with_reducible (first | apply keeps_foldl | apply keeps_ite) | split
    | (show K _ _ _ _ _ _ _ _; dsimp only; with_reducible apply Keeps.k)

theorem keeps_eventConds (n t : Nat) (rising : Bool) (s : State) (h : Keeps ko kq kc s) :
    Keeps ko kq kc (eventConds n t rising s) := by
  unfold eventConds
  try dsimp only
  repeat' first
    | with_reducible first | assumption | apply keeps_raiseOcc
    | exact fun _ => rfl | intro _ | with_reducible (first | apply keeps_foldl | apply keeps_ite) | split
    | (show K _ _ _ _ _ _ _ _; dsimp only; with_reducible apply Keeps.k)

theorem keeps_seenEdge (n : Nat) (e : HeldEdge) (s : State) (h : Keeps ko kq kc s) :
    Keeps ko kq kc (seenEdge n e s) := by
  unfold seenEdge
  try dsimp only
  repeat' first
    | with_reducible first | assumption | apply keeps_eventConds | apply keeps_pushEdge | apply keeps_mInput
                           | apply keeps_bump
    | exact fun _ => rfl | intro _ | with_reducible (first | apply keeps_foldl | apply keeps_ite) | split
    | (show K _ _ _ _ _ _ _ _; dsimp only; with_reducible apply Keeps.k)

theorem keeps_eventEdge (n : Nat) (rising : Bool) (code : Nat) (s : State) (h : Keeps ko kq kc s) :
    Keeps ko kq kc (eventEdge n rising code s) := by
  unfold eventEdge
  try dsimp only
  repeat' first
    | with_reducible first | assumption | apply keeps_loseEdge | apply keeps_seenEdge
    | exact fun _ => rfl | intro _ | with_reducible (first | apply keeps_foldl | apply keeps_ite) | split
    | (show K _ _ _ _ _ _ _ _; dsimp only; with_reducible apply Keeps.k)

theorem keeps_startCal (mask : Nat) (s : State) (h : Keeps ko kq kc s) :
    Keeps ko kq kc (startCal mask s) := by
  unfold startCal
  try dsimp only
  repeat' first
    | with_reducible first | assumption | apply keeps_mInput
    | exact fun _ => rfl | intro _ | with_reducible (first | apply keeps_foldl | apply keeps_ite) | split
    | (show K _ _ _ _ _ _ _ _; dsimp only; with_reducible apply Keeps.k)

theorem keeps_calDone (n : Nat) (hits : List Nat) (s : State) (h : Keeps ko kq kc s) :
    Keeps ko kq kc (calDone n hits s) := by
  unfold calDone
  try dsimp only
  repeat' first
    | with_reducible first | assumption | apply keeps_logEvent | apply keeps_pulse0 | apply keeps_mInput
    | exact fun _ => rfl | intro _ | with_reducible (first | apply keeps_foldl | apply keeps_ite) | split
    | (show K _ _ _ _ _ _ _ _; dsimp only; with_reducible apply Keeps.k)

theorem keeps_gateEnd (n : Nat) (s : State) (h : Keeps ko kq kc s) :
    Keeps ko kq kc (gateEnd n s) := by
  unfold gateEnd
  try dsimp only
  repeat' first
    | with_reducible first | assumption | apply keeps_inputTo
    | exact fun _ => rfl | intro _ | with_reducible (first | apply keeps_foldl | apply keeps_ite) | split
    | (show K _ _ _ _ _ _ _ _; dsimp only; with_reducible apply Keeps.k)

theorem keeps_recordWrite (n : Nat) (s : State) (h : Keeps ko kq kc s) :
    Keeps ko kq kc (recordWrite n s) := by
  unfold recordWrite
  try dsimp only
  repeat' first
    | with_reducible first | assumption | apply keeps_appendRecord | apply keeps_mInput
    | exact fun _ => rfl | intro _ | with_reducible (first | apply keeps_foldl | apply keeps_ite) | split
    | (show K _ _ _ _ _ _ _ _; dsimp only; with_reducible apply Keeps.k)

end Sys2Proof.Laws
end

