-- ==== Sys2Proof/Laws/KeepsControl.lean ====
section
/-! SUPPORT. Every operation of the control core, the loader, the registers and the block's own time keeps the facts of KeepsCore. -/

namespace Sys2Proof.Laws
open Sys2Proof.Machine

variable {ko : Sparse KeySlot} {kq : List Instr} {kc : Nat}

/-- A write to a slot only adds programmed bits. -/
theorem grown_upd {o m : Sparse KeySlot} {k : Nat} {f : KeySlot → KeySlot} (hm : wf {} m = true) (h : Grown o m)
    (hf : ∀ x : KeySlot, (x.enabled = true → (f x).enabled = true ∧ (f x).digest = x.digest) ∧
      (x.revoked = true → (f x).revoked = true)) : Grown o (upd {} k f m) := by
  intro j
  rw [look_upd hm]
  split
  · refine ⟨fun e => ?_, fun e => (hf _).2 ((h j).2 e)⟩
    obtain ⟨e1, d1⟩ := (h j).1 e
    exact ⟨((hf _).1 e1).1, ((hf _).1 e1).2.trans d1⟩
  · exact h j

theorem write_grows (x : KeySlot) (d : Digest) :
    (x.enabled = true → (x.write d).enabled = true ∧ (x.write d).digest = x.digest) ∧
      (x.revoked = true → (x.write d).revoked = true) := by
  unfold KeySlot.write
  split
  · exact ⟨fun e => ⟨e, rfl⟩, id⟩
  · exact ⟨fun e => absurd e ‹_›, id⟩

theorem cut_grows (x : KeySlot) (d : Digest) :
    (x.enabled = true → (x.cut d).enabled = true ∧ (x.cut d).digest = x.digest) ∧
      (x.revoked = true → (x.cut d).revoked = true) := by
  unfold KeySlot.cut
  split
  · exact ⟨fun e => ⟨e, rfl⟩, id⟩
  · exact ⟨fun e => absurd e ‹_›, id⟩

theorem keeps_cutKeys {s : State} (h : Keeps ko kq kc s) : wf {} (cutKeys s) = true ∧ Grown ko (cutKeys s) := by
  unfold cutKeys
  dsimp only
  split
  · refine ⟨wf_upd h.slots, grown_upd h.slots h.once fun x => ?_⟩
    split
    · exact write_grows x _
    · exact cut_grows x _
  · refine ⟨wf_upd h.slots, grown_upd h.slots h.once fun x => ⟨fun e => ⟨e, rfl⟩, fun e => ?_⟩⟩
    simp [e]
  · exact ⟨h.slots, h.once⟩

theorem keeps_powerOff (m : SysState) (s : State) (h : Keeps ko kq kc s) : Keeps ko kq kc (powerOff m s) := by
  obtain ⟨h1, h2⟩ := keeps_cutKeys h
  exact { mem := rfl, ctrs := fun p hp => absurd hp (List.not_mem_nil), slots := h1, once := h2, queue := h.queue, time := h.time }

theorem keeps_startSequence (straps : Nat) (testEn : Bool) (s : State) (h : Keeps ko kq kc s) :
    Keeps ko kq kc (startSequence straps testEn s) := by
  unfold startSequence
  try dsimp only
  repeat' first
    | with_reducible first | assumption | apply keeps_mLife | apply keeps_mPwr
    | exact fun _ => rfl | intro _ | with_reducible (first | apply keeps_foldl | apply keeps_ite) | split
    | (show K _ _ _ _ _ _ _ _; dsimp only; with_reducible apply Keeps.k)

theorem keeps_disarmAll (s : State) (h : Keeps ko kq kc s) :
    Keeps ko kq kc (disarmAll s) := by
  unfold disarmAll
  try dsimp only
  repeat' first
    | with_reducible first | assumption | apply keeps_disarmGroup | apply keeps_toDisarmed
    | exact fun _ => rfl | intro _ | with_reducible (first | apply keeps_foldl | apply keeps_ite) | split
    | (show K _ _ _ _ _ _ _ _; dsimp only; with_reducible apply Keeps.k)

theorem keeps_resetLive (s : State) (h : Keeps ko kq kc s) :
    Keeps ko kq kc (resetLive s) := by
  unfold resetLive
  try dsimp only
  repeat' first
    | with_reducible first | assumption | apply keeps_mLive
    | exact fun _ => rfl | intro _ | with_reducible (first | apply keeps_foldl | apply keeps_ite) | split
    | (show K _ _ _ _ _ _ _ _; dsimp only; with_reducible apply Keeps.k)

theorem keeps_stopStep1 (s : State) (h : Keeps ko kq kc s) :
    Keeps ko kq kc (stopStep1 s) := by
  unfold stopStep1
  try dsimp only
  repeat' first
    | with_reducible first | assumption | apply keeps_abortTurn | apply keeps_disarmAll | apply keeps_resetLive
                           | apply keeps_mChan
    | exact fun _ => rfl | intro _ | with_reducible (first | apply keeps_foldl | apply keeps_ite) | split
    | (show K _ _ _ _ _ _ _ _; dsimp only; with_reducible apply Keeps.k)

theorem keeps_beginStop (kind : StopKind) (into : SysState) (s : State) (h : Keeps ko kq kc s) :
    Keeps ko kq kc (beginStop kind into s) := by
  unfold beginStop
  try dsimp only
  repeat' first
    | with_reducible first | assumption | apply keeps_stopStep1 | apply keeps_mLife
    | exact fun _ => rfl | intro _ | with_reducible (first | apply keeps_foldl | apply keeps_ite) | split
    | (show K _ _ _ _ _ _ _ _; dsimp only; with_reducible apply Keeps.k)

theorem keeps_restartStep1 (why : Nat) (s : State) (h : Keeps ko kq kc s) :
    Keeps ko kq kc (restartStep1 why s) := by
  unfold restartStep1
  try dsimp only
  repeat' first
    | with_reducible first | assumption | apply keeps_endFreeze | apply keeps_resetLive | apply keeps_logEvent
                           | apply keeps_mSnap
    | exact fun _ => rfl | intro _ | with_reducible (first | apply keeps_foldl | apply keeps_ite) | split
    | (show K _ _ _ _ _ _ _ _; dsimp only; with_reducible apply Keeps.k)

theorem keeps_finishMailbox (resp : Nat) (res : Sparse Word) (s : State) (h : Keeps ko kq kc s) :
    Keeps ko kq kc (finishMailbox resp res s) := by
  unfold finishMailbox
  try dsimp only
  repeat' first
    | with_reducible first | assumption | apply keeps_pulse0 | apply keeps_mMbox | apply keeps_bump
    | exact fun _ => rfl | intro _ | with_reducible (first | apply keeps_foldl | apply keeps_ite) | split
    | (show K _ _ _ _ _ _ _ _; dsimp only; with_reducible apply Keeps.k)

theorem keeps_abortMailbox (s : State) (h : Keeps ko kq kc s) :
    Keeps ko kq kc (abortMailbox s) := by
  unfold abortMailbox
  try dsimp only
  repeat' first
    | with_reducible first | assumption | apply keeps_finishMailbox
    | exact fun _ => rfl | intro _ | with_reducible (first | apply keeps_foldl | apply keeps_ite) | split
    | (show K _ _ _ _ _ _ _ _; dsimp only; with_reducible apply Keeps.k)

theorem keeps_settleMailbox (q : StopSeq) (s : State) (h : Keeps ko kq kc s) :
    Keeps ko kq kc (settleMailbox q s) := by
  unfold settleMailbox
  try dsimp only
  repeat' first
    | with_reducible first | assumption | apply keeps_abortMailbox
    | exact fun _ => rfl | intro _ | with_reducible (first | apply keeps_foldl | apply keeps_ite) | split
    | (show K _ _ _ _ _ _ _ _; dsimp only; with_reducible apply Keeps.k)

theorem keeps_stopGroup (s : State) (g : Nat) (h : Keeps ko kq kc s) :
    Keeps ko kq kc (stopGroup s g) := by
  unfold stopGroup
  try dsimp only
  repeat' first
    | with_reducible first | assumption | apply keeps_cancelProvisional | apply keeps_closeCapture
                           | apply keeps_toDisarmed
    | exact fun _ => rfl | intro _ | with_reducible (first | apply keeps_foldl | apply keeps_ite) | split
    | (show K _ _ _ _ _ _ _ _; dsimp only; with_reducible apply Keeps.k)

theorem keeps_stopUnits (s : State) (h : Keeps ko kq kc s) :
    Keeps ko kq kc (stopUnits s) := by
  unfold stopUnits
  try dsimp only
  repeat' first
    | with_reducible first | assumption
    | exact fun _ => rfl | intro _ | with_reducible (first | apply keeps_foldl | apply keeps_ite) | split
    | (show K _ _ _ _ _ _ _ _; dsimp only; with_reducible apply Keeps.k)

theorem keeps_setStep (n : Nat) (s : State) (h : Keeps ko kq kc s) :
    Keeps ko kq kc (setStep n s) := by
  unfold setStep
  try dsimp only
  repeat' first
    | with_reducible first | assumption | apply keeps_mLife
    | exact fun _ => rfl | intro _ | with_reducible (first | apply keeps_foldl | apply keeps_ite) | split
    | (show K _ _ _ _ _ _ _ _; dsimp only; with_reducible apply Keeps.k)

theorem keeps_stopAtSeam (s : State) (h : Keeps ko kq kc s) :
    Keeps ko kq kc (stopAtSeam s) := by
  unfold stopAtSeam
  try dsimp only
  repeat' first
    | with_reducible first | assumption | apply keeps_settleMailbox | apply keeps_stopOutputs | apply keeps_endFreeze
                           | apply keeps_stopRings | apply keeps_stopGroup | apply keeps_stopUnits
                           | apply keeps_progress | apply keeps_startCal | apply keeps_calStop | apply keeps_setStep
    | exact fun _ => rfl | intro _ | with_reducible (first | apply keeps_foldl | apply keeps_ite) | split
    | (show K _ _ _ _ _ _ _ _; dsimp only; with_reducible apply Keeps.k)

theorem keeps_truncateGroup (s : State) (g : Nat) (h : Keeps ko kq kc s) :
    Keeps ko kq kc (truncateGroup s g) := by
  unfold truncateGroup
  try dsimp only
  repeat' first
    | with_reducible first | assumption | apply keeps_closeCapture | apply keeps_toDisarmed
    | exact fun _ => rfl | intro _ | with_reducible (first | apply keeps_foldl | apply keeps_ite) | split
    | (show K _ _ _ _ _ _ _ _; dsimp only; with_reducible apply Keeps.k)

theorem keeps_drained (timeout : Bool) (s : State) (h : Keeps ko kq kc s) :
    Keeps ko kq kc (drained timeout s) := by
  unfold drained
  try dsimp only
  repeat' first
    | with_reducible first | assumption | apply keeps_truncateGroup | apply keeps_dropCommands
                           | apply keeps_completeAll | apply keeps_failMember | apply keeps_beginClose
                           | apply keeps_setStep
    | exact fun _ => rfl | intro _ | with_reducible (first | apply keeps_foldl | apply keeps_ite) | split
    | (show K _ _ _ _ _ _ _ _; dsimp only; with_reducible apply Keeps.k)

theorem keeps_closeStore (s : State) (h : Keeps ko kq kc s) :
    Keeps ko kq kc (closeStore s) := by
  unfold closeStore
  try dsimp only
  repeat' first
    | with_reducible first | assumption | apply keeps_dropCommands
    | exact fun _ => rfl | intro _ | with_reducible (first | apply keeps_foldl | apply keeps_ite) | split
    | (show K _ _ _ _ _ _ _ _; dsimp only; with_reducible apply Keeps.k)

theorem keeps_finishClose (s : State) (h : Keeps ko kq kc s) :
    Keeps ko kq kc (finishClose s) := by
  unfold finishClose
  try dsimp only
  repeat' first
    | with_reducible first | assumption | apply keeps_lastNotices | apply keeps_closeStore | apply keeps_setStep
                           | apply keeps_mLife | apply keeps_mPkg
    | exact fun _ => rfl | intro _ | with_reducible (first | apply keeps_foldl | apply keeps_ite) | split
    | (show K _ _ _ _ _ _ _ _; dsimp only; with_reducible apply Keeps.k)

theorem keeps_closed (s : State) (h : Keeps ko kq kc s) :
    Keeps ko kq kc (closed s) := by
  unfold closed
  try dsimp only
  repeat' first
    | with_reducible first | assumption | apply keeps_finishClose | apply keeps_setStep
    | exact fun _ => rfl | intro _ | with_reducible (first | apply keeps_foldl | apply keeps_ite) | split
    | (show K _ _ _ _ _ _ _ _; dsimp only; with_reducible apply Keeps.k)

theorem keeps_volumeClosed (ok : Bool) (s : State) (h : Keeps ko kq kc s) :
    Keeps ko kq kc (volumeClosed ok s) := by
  unfold volumeClosed
  try dsimp only
  repeat' first
    | with_reducible first | assumption | apply keeps_dropCommands | apply keeps_closeVolume | apply keeps_closed
    | exact fun _ => rfl | intro _ | with_reducible (first | apply keeps_foldl | apply keeps_ite) | split
    | (show K _ _ _ _ _ _ _ _; dsimp only; with_reducible apply Keeps.k)

theorem keeps_beginLoad (s : State) (h : Keeps ko kq kc s) :
    Keeps ko kq kc (beginLoad s) := by
  unfold beginLoad
  try dsimp only
  repeat' first
    | with_reducible first | assumption | apply keeps_mLoader | apply keeps_mLife | apply keeps_mImg
                           | apply keeps_slot
    | exact fun _ => rfl | intro _ | with_reducible (first | apply keeps_foldl | apply keeps_ite) | split
    | (show K _ _ _ _ _ _ _ _; dsimp only; with_reducible apply Keeps.k)

theorem keeps_resetCounters (s : State) (h : Keeps ko kq kc s) : Keeps ko kq kc (resetCounters s) :=
  { h.k with ctrs := fun p hp => h.ctrs p (List.mem_filter.mp hp).1 }

theorem keeps_zeroStore (s : State) (h : Keeps ko kq kc s) : Keeps ko kq kc (zeroStore s) :=
  { h.k with mem := rfl }

theorem keeps_abandonLoad (s : State) (h : Keeps ko kq kc s) :
    Keeps ko kq kc (abandonLoad s) := by
  unfold abandonLoad
  try dsimp only
  repeat' first
    | with_reducible first | assumption | apply keeps_mLoader | apply keeps_mImg | apply keeps_slot
    | exact fun _ => rfl | intro _ | with_reducible (first | apply keeps_foldl | apply keeps_ite) | split
    | (show K _ _ _ _ _ _ _ _; dsimp only; with_reducible apply Keeps.k)

theorem keeps_enterSafe (s : State) (h : Keeps ko kq kc s) :
    Keeps ko kq kc (enterSafe s) := by
  unfold enterSafe
  try dsimp only
  repeat' first
    | with_reducible first | assumption | apply keeps_logEvent | apply keeps_mLoader | apply keeps_mLife
                           | apply keeps_mImg | apply keeps_mPwr | apply keeps_slot
    | exact fun _ => rfl | intro _ | with_reducible (first | apply keeps_foldl | apply keeps_ite) | split
    | (show K _ _ _ _ _ _ _ _; dsimp only; with_reducible apply Keeps.k)

theorem keeps_endStopped (s : State) (h : Keeps ko kq kc s) :
    Keeps ko kq kc (endStopped s) := by
  unfold endStopped
  try dsimp only
  repeat' first
    | with_reducible first | assumption | apply keeps_abandonLoad | apply keeps_mLife | apply keeps_mImg
                           | apply keeps_mPwr
    | exact fun _ => rfl | intro _ | with_reducible (first | apply keeps_foldl | apply keeps_ite) | split
    | (show K _ _ _ _ _ _ _ _; dsimp only; with_reducible apply Keeps.k)

theorem keeps_loadFailed (s : State) (h : Keeps ko kq kc s) :
    Keeps ko kq kc (loadFailed s) := by
  unfold loadFailed
  try dsimp only
  repeat' first
    | with_reducible first | assumption | apply keeps_endStopped | apply keeps_enterSafe
    | exact fun _ => rfl | intro _ | with_reducible (first | apply keeps_foldl | apply keeps_ite) | split
    | (show K _ _ _ _ _ _ _ _; dsimp only; with_reducible apply Keeps.k)

theorem keeps_tryLoad (s : State) (h : Keeps ko kq kc s) :
    Keeps ko kq kc (tryLoad s) := by
  unfold tryLoad
  try dsimp only
  repeat' first
    | with_reducible first | assumption | apply keeps_beginLoad
    | exact fun _ => rfl | intro _ | with_reducible (first | apply keeps_foldl | apply keeps_ite) | split
    | (show K _ _ _ _ _ _ _ _; dsimp only; with_reducible apply Keeps.k)

theorem keeps_reload (s : State) (h : Keeps ko kq kc s) :
    Keeps ko kq kc (reload s) := by
  unfold reload
  try dsimp only
  repeat' first
    | with_reducible first | assumption | apply keeps_loadFailed | apply keeps_beginLoad | apply keeps_mLife
    | exact fun _ => rfl | intro _ | with_reducible (first | apply keeps_foldl | apply keeps_ite) | split
    | (show K _ _ _ _ _ _ _ _; dsimp only; with_reducible apply Keeps.k)

theorem keeps_storeZeroed (s : State) (h : Keeps ko kq kc s) :
    Keeps ko kq kc (storeZeroed s) := by
  unfold storeZeroed
  try dsimp only
  repeat' first
    | with_reducible first | assumption | apply keeps_resetCounters | apply keeps_abortMailbox
                           | apply keeps_loadFailed | apply keeps_zeroStore | apply keeps_setStep
                           | apply keeps_tryLoad | apply keeps_reload | apply keeps_mLife | apply keeps_mPkg
    | exact fun _ => rfl | intro _ | with_reducible (first | apply keeps_foldl | apply keeps_ite) | split
    | (show K _ _ _ _ _ _ _ _; dsimp only; with_reducible apply Keeps.k)

theorem keeps_refuseSlot (code : Nat) (s : State) (h : Keeps ko kq kc s) :
    Keeps ko kq kc (refuseSlot code s) := by
  unfold refuseSlot
  try dsimp only
  repeat' first
    | with_reducible first | assumption | apply keeps_loadFailed | apply keeps_logEvent | apply keeps_mLoader
                           | apply keeps_mImg | apply keeps_slot
    | exact fun _ => rfl | intro _ | with_reducible (first | apply keeps_foldl | apply keeps_ite) | split
    | (show K _ _ _ _ _ _ _ _; dsimp only; with_reducible apply Keeps.k)

theorem keeps_restartIdle (kind : StopKind) (s : State) (h : Keeps ko kq kc s) :
    Keeps ko kq kc (restartIdle kind s) := by
  unfold restartIdle
  try dsimp only
  repeat' first
    | with_reducible first | assumption | apply keeps_closeStore | apply keeps_startCal | apply keeps_mLife
    | exact fun _ => rfl | intro _ | with_reducible (first | apply keeps_foldl | apply keeps_ite) | split
    | (show K _ _ _ _ _ _ _ _; dsimp only; with_reducible apply Keeps.k)

theorem keeps_startRestart (kind : StopKind) (s : State) (h : Keeps ko kq kc s) :
    Keeps ko kq kc (startRestart kind s) := by
  unfold startRestart
  try dsimp only
  repeat' first
    | with_reducible first | assumption | apply keeps_restartStep1 | apply keeps_restartIdle | apply keeps_beginStop
                           | apply keeps_startCal | apply keeps_mLife
    | exact fun _ => rfl | intro _ | with_reducible (first | apply keeps_foldl | apply keeps_ite) | split
    | (show K _ _ _ _ _ _ _ _; dsimp only; with_reducible apply Keeps.k)

theorem keeps_startRelay (c relay here want sensed : Nat) (retried : Bool) (s : State) (h : Keeps ko kq kc s) :
    Keeps ko kq kc (startRelay c relay here want sensed retried s).1 := by
  unfold startRelay
  try dsimp only
  repeat' first
    | with_reducible first | assumption | apply keeps_driveRelay
    | exact fun _ => rfl | intro _ | with_reducible (first | apply keeps_foldl | apply keeps_ite) | split
    | (show K _ _ _ _ _ _ _ _; dsimp only; with_reducible apply Keeps.k)

theorem keeps_startChannel (m : Image) (info : StartInfo) (s : State) (c : Nat) (h : Keeps ko kq kc s) :
    Keeps ko kq kc (startChannel m info s c) := by
  unfold startChannel
  try dsimp only
  repeat' first
    | with_reducible first | assumption | apply keeps_startRelay | apply keeps_logEvent | apply keeps_mChan
    | exact fun _ => rfl | intro _ | with_reducible (first | apply keeps_foldl | apply keeps_ite) | split
    | (show K _ _ _ _ _ _ _ _; dsimp only; with_reducible apply Keeps.k)

theorem keeps_configure (m : Image) (t0 : Nat) (s : State) (h : Keeps ko kq kc s) : Keeps ko kq kc (configure m t0 s) :=
  { h.k with }

theorem keeps_startPins (old : Sparse OutPin) (s : State) (h : Keeps ko kq kc s) :
    Keeps ko kq kc (startPins old s) := by
  unfold startPins
  try dsimp only
  repeat' first
    | with_reducible first | assumption | apply keeps_emit
    | exact fun _ => rfl | intro _ | with_reducible (first | apply keeps_foldl | apply keeps_ite) | split
    | (show K _ _ _ _ _ _ _ _; dsimp only; with_reducible apply Keeps.k)

theorem keeps_waitStart (s : State) (h : Keeps ko kq kc s) :
    Keeps ko kq kc (waitStart s) := by
  unfold waitStart
  try dsimp only
  repeat' first
    | with_reducible first | assumption | apply keeps_passCycle
    | exact fun _ => rfl | intro _ | with_reducible (first | apply keeps_foldl | apply keeps_ite) | split
    | (show K _ _ _ _ _ _ _ _; dsimp only; with_reducible apply Keeps.k)

theorem keeps_startImage (m : Image) (info : StartInfo) (s : State) (h : Keeps ko kq kc s) :
    Keeps ko kq kc (startImage m info s) := by
  unfold startImage
  try dsimp only
  repeat' first
    | with_reducible first | assumption | apply keeps_applyRefPolicy | apply keeps_startChannel
                           | apply keeps_configure | apply keeps_startPins | apply keeps_waitStart
                           | apply keeps_logEvent | apply keeps_calStart | apply keeps_toArmed | apply keeps_slot
    | exact fun _ => rfl | intro _ | with_reducible (first | apply keeps_foldl | apply keeps_ite) | split
    | (show K _ _ _ _ _ _ _ _; dsimp only; with_reducible apply Keeps.k)

theorem keeps_functionStart (info : StartInfo) (s : State) (h : Keeps ko kq kc s) :
    Keeps ko kq kc (functionStart info s) := by
  unfold functionStart
  try dsimp only
  repeat' first
    | with_reducible first | assumption | apply keeps_endStopped | apply keeps_startImage
    | exact fun _ => rfl | intro _ | with_reducible (first | apply keeps_foldl | apply keeps_ite) | split
    | (show K _ _ _ _ _ _ _ _; dsimp only; with_reducible apply Keeps.k)

theorem keeps_supplyValid (vaux : Bool) (straps : Nat) (testEn : Bool) (s : State) (h : Keeps ko kq kc s) :
    Keeps ko kq kc (supplyValid vaux straps testEn s) := by
  unfold supplyValid
  try dsimp only
  repeat' first
    | with_reducible first | assumption | apply keeps_startSequence | apply keeps_mLife | apply keeps_mPwr
    | exact fun _ => rfl | intro _ | with_reducible (first | apply keeps_foldl | apply keeps_ite) | split
    | (show K _ _ _ _ _ _ _ _; dsimp only; with_reducible apply Keeps.k)

theorem keeps_drainRecords (s : State) (h : Keeps ko kq kc s) :
    Keeps ko kq kc (drainRecords s) := by
  unfold drainRecords
  try dsimp only
  repeat' first
    | with_reducible first | assumption | apply keeps_writeRecord
    | exact fun _ => rfl | intro _ | with_reducible (first | apply keeps_foldl | apply keeps_ite) | split
    | (show K _ _ _ _ _ _ _ _; dsimp only; with_reducible apply Keeps.k)

theorem keeps_powerLoss (s : State) (h : Keeps ko kq kc s) :
    Keeps ko kq kc (powerLoss s) := by
  unfold powerLoss
  try dsimp only
  repeat' first
    | with_reducible first | assumption | apply keeps_drainRecords | apply keeps_logEvent | apply keeps_nextFree
    | exact fun _ => rfl | intro _ | with_reducible (first | apply keeps_foldl | apply keeps_ite) | split
    | (show K _ _ _ _ _ _ _ _; dsimp only; with_reducible apply Keeps.k)

theorem keeps_supplyInvalid (vaux : Bool) (s : State) (h : Keeps ko kq kc s) :
    Keeps ko kq kc (supplyInvalid vaux s) := by
  unfold supplyInvalid
  try dsimp only
  repeat' first
    | with_reducible first | assumption | apply keeps_powerLoss | apply keeps_powerOff | apply keeps_mPwr
                           | apply keeps_mPkg
    | exact fun _ => rfl | intro _ | with_reducible (first | apply keeps_foldl | apply keeps_ite) | split
    | (show K _ _ _ _ _ _ _ _; dsimp only; with_reducible apply Keeps.k)

theorem keeps_standbyNow (s : State) (h : Keeps ko kq kc s) :
    Keeps ko kq kc (standbyNow s) := by
  unfold standbyNow
  try dsimp only
  repeat' first
    | with_reducible first | assumption | apply keeps_abandonLoad | apply keeps_endFreeze | apply keeps_mLife
    | exact fun _ => rfl | intro _ | with_reducible (first | apply keeps_foldl | apply keeps_ite) | split
    | (show K _ _ _ _ _ _ _ _; dsimp only; with_reducible apply Keeps.k)

theorem keeps_stbyHigh (s : State) (h : Keeps ko kq kc s) :
    Keeps ko kq kc (stbyHigh s) := by
  unfold stbyHigh
  try dsimp only
  repeat' first
    | with_reducible first | assumption | apply keeps_standbyNow | apply keeps_endFreeze | apply keeps_beginStop
                           | apply keeps_logEvent | apply keeps_mLife | apply keeps_mPwr
    | exact fun _ => rfl | intro _ | with_reducible (first | apply keeps_foldl | apply keeps_ite) | split
    | (show K _ _ _ _ _ _ _ _; dsimp only; with_reducible apply Keeps.k)

theorem keeps_stbyLow (straps : Nat) (testEn : Bool) (s : State) (h : Keeps ko kq kc s) :
    Keeps ko kq kc (stbyLow straps testEn s) := by
  unfold stbyLow
  try dsimp only
  repeat' first
    | with_reducible first | assumption | apply keeps_startSequence | apply keeps_mPwr
    | exact fun _ => rfl | intro _ | with_reducible (first | apply keeps_foldl | apply keeps_ite) | split
    | (show K _ _ _ _ _ _ _ _; dsimp only; with_reducible apply Keeps.k)

theorem keeps_standbyOff (s : State) (h : Keeps ko kq kc s) :
    Keeps ko kq kc (standbyOff s) := by
  unfold standbyOff
  try dsimp only
  repeat' first
    | with_reducible first | assumption | apply keeps_startSequence | apply keeps_powerOff
    | exact fun _ => rfl | intro _ | with_reducible (first | apply keeps_foldl | apply keeps_ite) | split
    | (show K _ _ _ _ _ _ _ _; dsimp only; with_reducible apply Keeps.k)

theorem keeps_groupUp (g : Nat) (s : State) (h : Keeps ko kq kc s) :
    Keeps ko kq kc (groupUp g s) := by
  unfold groupUp
  try dsimp only
  repeat' first
    | with_reducible first | assumption | apply keeps_startCal | apply keeps_mPwr
    | exact fun _ => rfl | intro _ | with_reducible (first | apply keeps_foldl | apply keeps_ite) | split
    | (show K _ _ _ _ _ _ _ _; dsimp only; with_reducible apply Keeps.k)

theorem keeps_latchCause (c : PowerCause) (group input : Nat) (recorded : Bool) (s : State) (h : Keeps ko kq kc s) :
    Keeps ko kq kc (latchCause c group input recorded s) := by
  unfold latchCause
  try dsimp only
  repeat' first
    | with_reducible first | assumption | apply keeps_mPwr
    | exact fun _ => rfl | intro _ | with_reducible (first | apply keeps_foldl | apply keeps_ite) | split
    | (show K _ _ _ _ _ _ _ _; dsimp only; with_reducible apply Keeps.k)

theorem keeps_unpowered (s : State) (h : Keeps ko kq kc s) : Keeps ko kq kc (unpowered s) :=
  { h.k with mem := rfl }

theorem keeps_stageOff (s : State) (h : Keeps ko kq kc s) :
    Keeps ko kq kc (stageOff s) := by
  unfold stageOff
  try dsimp only
  repeat' first
    | with_reducible first | assumption | apply keeps_stopOutputs | apply keeps_stopUnits | apply keeps_unpowered
                           | apply keeps_logEvent | apply keeps_mLife | apply keeps_mPwr
    | exact fun _ => rfl | intro _ | with_reducible (first | apply keeps_foldl | apply keeps_ite) | split
    | (show K _ _ _ _ _ _ _ _; dsimp only; with_reducible apply Keeps.k)

theorem keeps_railFault (group input : Nat) (s : State) (h : Keeps ko kq kc s) :
    Keeps ko kq kc (railFault group input s) := by
  unfold railFault
  try dsimp only
  repeat' first
    | with_reducible first | assumption | apply keeps_latchCause | apply keeps_powerOff | apply keeps_stageOff
    | exact fun _ => rfl | intro _ | with_reducible (first | apply keeps_foldl | apply keeps_ite) | split
    | (show K _ _ _ _ _ _ _ _; dsimp only; with_reducible apply Keeps.k)

theorem keeps_hardOff (c : PowerCause) (s : State) (h : Keeps ko kq kc s) :
    Keeps ko kq kc (hardOff c s) := by
  unfold hardOff
  try dsimp only
  repeat' first
    | with_reducible first | assumption | apply keeps_latchCause | apply keeps_powerOff
    | exact fun _ => rfl | intro _ | with_reducible (first | apply keeps_foldl | apply keeps_ite) | split
    | (show K _ _ _ _ _ _ _ _; dsimp only; with_reducible apply Keeps.k)

theorem keeps_endStaged (s : State) (h : Keeps ko kq kc s) :
    Keeps ko kq kc (endStaged s) := by
  unfold endStaged
  try dsimp only
  repeat' first
    | with_reducible first | assumption | apply keeps_powerOff
    | exact fun _ => rfl | intro _ | with_reducible (first | apply keeps_foldl | apply keeps_ite) | split
    | (show K _ _ _ _ _ _ _ _; dsimp only; with_reducible apply Keeps.k)

theorem keeps_deferredRecord (s : State) (h : Keeps ko kq kc s) :
    Keeps ko kq kc (deferredRecord s) := by
  unfold deferredRecord
  try dsimp only
  repeat' first
    | with_reducible first | assumption | apply keeps_railFault | apply keeps_logEvent | apply keeps_nextFree
                           | apply keeps_mPwr
    | exact fun _ => rfl | intro _ | with_reducible (first | apply keeps_foldl | apply keeps_ite) | split
    | (show K _ _ _ _ _ _ _ _; dsimp only; with_reducible apply Keeps.k)

theorem keeps_ovenRuns (mramOk : Bool) (found : MramFound) (s : State) (h : Keeps ko kq kc s) :
    Keeps ko kq kc (ovenRuns mramOk found s) := by
  unfold ovenRuns
  try dsimp only
  repeat' first
    | with_reducible first | assumption | apply keeps_recorderPowerUp | apply keeps_deferredRecord
                           | apply keeps_firstModel | apply keeps_mPwr | apply keeps_mPkg
    | exact fun _ => rfl | intro _ | with_reducible (first | apply keeps_foldl | apply keeps_ite) | split
    | (show K _ _ _ _ _ _ _ _; dsimp only; with_reducible apply Keeps.k)

theorem keeps_rootLocks (s : State) (h : Keeps ko kq kc s) :
    Keeps ko kq kc (rootLocks s) := by
  unfold rootLocks
  try dsimp only
  repeat' first
    | with_reducible first | assumption | apply keeps_tryLoad | apply keeps_mTime | apply keeps_mPwr
    | exact fun _ => rfl | intro _ | with_reducible (first | apply keeps_foldl | apply keeps_ite) | split
    | (show K _ _ _ _ _ _ _ _; dsimp only; with_reducible apply Keeps.k)

theorem keeps_trainingDone (ok0 ok1 : Bool) (s : State) (h : Keeps ko kq kc s) :
    Keeps ko kq kc (trainingDone ok0 ok1 s) := by
  unfold trainingDone
  try dsimp only
  repeat' first
    | with_reducible first | assumption | apply keeps_latchCause | apply keeps_stageOff | apply keeps_mStore
    | exact fun _ => rfl | intro _ | with_reducible (first | apply keeps_foldl | apply keeps_ite) | split
    | (show K _ _ _ _ _ _ _ _; dsimp only; with_reducible apply Keeps.k)

theorem keeps_rootLost (s : State) (h : Keeps ko kq kc s) :
    Keeps ko kq kc (rootLost s) := by
  unfold rootLost
  try dsimp only
  repeat' first
    | with_reducible first | assumption | apply keeps_startRestart | apply keeps_abandonLoad | apply keeps_logEvent
                           | apply keeps_pulse0 | apply keeps_mLife | apply keeps_bump | apply keeps_mPwr
    | exact fun _ => rfl | intro _ | with_reducible (first | apply keeps_foldl | apply keeps_ite) | split
    | (show K _ _ _ _ _ _ _ _; dsimp only; with_reducible apply Keeps.k)

theorem keeps_rootBack (s : State) (h : Keeps ko kq kc s) :
    Keeps ko kq kc (rootBack s) := by
  unfold rootBack
  try dsimp only
  repeat' first
    | with_reducible first | assumption | apply keeps_tryLoad | apply keeps_mLife | apply keeps_mPwr
    | exact fun _ => rfl | intro _ | with_reducible (first | apply keeps_foldl | apply keeps_ite) | split
    | (show K _ _ _ _ _ _ _ _; dsimp only; with_reducible apply Keeps.k)

theorem keeps_rootGivenUp (s : State) (h : Keeps ko kq kc s) :
    Keeps ko kq kc (rootGivenUp s) := by
  unfold rootGivenUp
  try dsimp only
  repeat' first
    | with_reducible first | assumption | apply keeps_loadFailed | apply keeps_mLife
    | exact fun _ => rfl | intro _ | with_reducible (first | apply keeps_foldl | apply keeps_ite) | split
    | (show K _ _ _ _ _ _ _ _; dsimp only; with_reducible apply Keeps.k)

theorem keeps_recordWritten (verify copyVerify stateVerify : Bool) (s : State) (h : Keeps ko kq kc s) :
    Keeps ko kq kc (recordWritten verify copyVerify stateVerify s) := by
  unfold recordWritten
  try dsimp only
  repeat' first
    | with_reducible first | assumption | apply keeps_writeRecord | apply keeps_beginFreeze | apply keeps_endStaged
                           | apply keeps_reload
    | exact fun _ => rfl | intro _ | with_reducible (first | apply keeps_foldl | apply keeps_ite) | split
    | (show K _ _ _ _ _ _ _ _; dsimp only; with_reducible apply Keeps.k)

theorem keeps_keyFail (off : Nat) (v : Word) (s : State) (h : Keeps ko kq kc s) :
    Keeps ko kq kc (keyFail off v s) := by
  unfold keyFail
  try dsimp only
  repeat' first
    | with_reducible first | assumption | apply keeps_logEvent | apply keeps_pulse0 | apply keeps_bump
    | exact fun _ => rfl | intro _ | with_reducible (first | apply keeps_foldl | apply keeps_ite) | split
    | (show K _ _ _ _ _ _ _ _; dsimp only; with_reducible apply Keeps.k)

theorem keeps_guarded (off : Nat) (v : Word) {f : State → State} (hf : ∀ s, Keeps ko kq kc s → Keeps ko kq kc (f s))
    (s : State) (h : Keeps ko kq kc s) : Keeps ko kq kc (guarded off v f s) := by
  unfold guarded
  split
  · exact hf _ h
  · exact keeps_keyFail _ _ _ h

theorem keeps_restartAsked (v : Word) (s : State) (h : Keeps ko kq kc s) :
    Keeps ko kq kc (restartAsked v s) := by
  unfold restartAsked
  try dsimp only
  repeat' first
    | with_reducible first | assumption | apply keeps_startRestart | apply keeps_pulse0 | apply keeps_mMbox
    | exact fun _ => rfl | intro _ | with_reducible (first | apply keeps_foldl | apply keeps_ite) | split
    | (show K _ _ _ _ _ _ _ _; dsimp only; with_reducible apply Keeps.k)

theorem keeps_mramSilent (s : State) (h : Keeps ko kq kc s) :
    Keeps ko kq kc (mramSilent s) := by
  unfold mramSilent
  try dsimp only
  repeat' first
    | with_reducible first | assumption | apply keeps_degrade
    | exact fun _ => rfl | intro _ | with_reducible (first | apply keeps_foldl | apply keeps_ite) | split
    | (show K _ _ _ _ _ _ _ _; dsimp only; with_reducible apply Keeps.k)

theorem keeps_readPointer (flash : FlashInfo) (copy0 copy1 : Option (List Byte)) (s : State) (h : Keeps ko kq kc s) :
    Keeps ko kq kc (readPointer flash copy0 copy1 s) := by
  unfold readPointer
  try dsimp only
  repeat' first
    | with_reducible first | assumption | apply keeps_logEvent | apply keeps_mLoader | apply keeps_tryLoad
    | exact fun _ => rfl | intro _ | with_reducible (first | apply keeps_foldl | apply keeps_ite) | split
    | (show K _ _ _ _ _ _ _ _; dsimp only; with_reducible apply Keeps.k)

theorem keeps_readBoard (data : Option (List Byte)) (s : State) (h : Keeps ko kq kc s) :
    Keeps ko kq kc (readBoard data s) := by
  unfold readBoard
  try dsimp only
  repeat' first
    | with_reducible first | assumption | apply keeps_mLoader | apply keeps_tryLoad
    | exact fun _ => rfl | intro _ | with_reducible (first | apply keeps_foldl | apply keeps_ite) | split
    | (show K _ _ _ _ _ _ _ _; dsimp only; with_reducible apply Keeps.k)

theorem keeps_acceptSlot (m : Image) (s : State) (h : Keeps ko kq kc s) :
    Keeps ko kq kc (acceptSlot m s) := by
  unfold acceptSlot
  try dsimp only
  repeat' first
    | with_reducible first | assumption | apply keeps_mImg | apply keeps_slot
    | exact fun _ => rfl | intro _ | with_reducible (first | apply keeps_foldl | apply keeps_ite) | split
    | (show K _ _ _ _ _ _ _ _; dsimp only; with_reducible apply Keeps.k)

theorem keeps_headerRead (data : Option (List Byte)) (s : State) (h : Keeps ko kq kc s) :
    Keeps ko kq kc (headerRead data s) := by
  unfold headerRead
  try dsimp only
  repeat' first
    | with_reducible first | assumption | apply keeps_refuseSlot | apply keeps_mLoader
    | exact fun _ => rfl | intro _ | with_reducible (first | apply keeps_foldl | apply keeps_ite) | split
    | (show K _ _ _ _ _ _ _ _; dsimp only; with_reducible apply Keeps.k)

theorem keeps_bodyRead (data : Option (List Byte)) (firmwareOk : Bool) (s : State) (h : Keeps ko kq kc s) :
    Keeps ko kq kc (bodyRead data firmwareOk s) := by
  unfold bodyRead
  try dsimp only
  repeat' first
    | with_reducible first | assumption | apply keeps_refuseSlot | apply keeps_acceptSlot
    | exact fun _ => rfl | intro _ | with_reducible (first | apply keeps_foldl | apply keeps_ite) | split
    | (show K _ _ _ _ _ _ _ _; dsimp only; with_reducible apply Keeps.k)

theorem keeps_flashSilent (s : State) (h : Keeps ko kq kc s) :
    Keeps ko kq kc (flashSilent s) := by
  unfold flashSilent
  try dsimp only
  repeat' first
    | with_reducible first | assumption | apply keeps_readPointer | apply keeps_headerRead | apply keeps_readBoard
                           | apply keeps_bodyRead
    | exact fun _ => rfl | intro _ | with_reducible (first | apply keeps_foldl | apply keeps_ite) | split
    | (show K _ _ _ _ _ _ _ _; dsimp only; with_reducible apply Keeps.k)

theorem keeps_pwrInUpdate (power : Nat) (s : State) (h : Keeps ko kq kc s) :
    Keeps ko kq kc (pwrInUpdate power s) := by
  unfold pwrInUpdate
  try dsimp only
  repeat' first
    | with_reducible first | assumption | apply keeps_bump | apply keeps_mPwr
    | exact fun _ => rfl | intro _ | with_reducible (first | apply keeps_foldl | apply keeps_ite) | split
    | (show K _ _ _ _ _ _ _ _; dsimp only; with_reducible apply Keeps.k)

theorem keeps_stopRecord (r : StopReason) (s : State) (h : Keeps ko kq kc s) :
    Keeps ko kq kc (stopRecord r s) := by
  unfold stopRecord
  try dsimp only
  repeat' first
    | with_reducible first | assumption | apply keeps_logEvent
    | exact fun _ => rfl | intro _ | with_reducible (first | apply keeps_foldl | apply keeps_ite) | split
    | (show K _ _ _ _ _ _ _ _; dsimp only; with_reducible apply Keeps.k)

theorem keeps_controlledStop (r : StopReason) (s : State) (h : Keeps ko kq kc s) :
    Keeps ko kq kc (controlledStop r s) := by
  unfold controlledStop
  try dsimp only
  repeat' first
    | with_reducible first | assumption | apply keeps_stopRecord | apply keeps_beginStop | apply keeps_mLife
    | exact fun _ => rfl | intro _ | with_reducible (first | apply keeps_foldl | apply keeps_ite) | split
    | (show K _ _ _ _ _ _ _ _; dsimp only; with_reducible apply Keeps.k)

theorem keeps_raiseRail (s : State) (h : Keeps ko kq kc s) :
    Keeps ko kq kc (raiseRail s) := by
  unfold raiseRail
  try dsimp only
  repeat' first
    | with_reducible first | assumption | apply keeps_logEvent | apply keeps_pulse0 | apply keeps_bump
                           | apply keeps_mPwr
    | exact fun _ => rfl | intro _ | with_reducible (first | apply keeps_foldl | apply keeps_ite) | split
    | (show K _ _ _ _ _ _ _ _; dsimp only; with_reducible apply Keeps.k)

theorem keeps_slackLow (slack : Nat) (s : State) (h : Keeps ko kq kc s) :
    Keeps ko kq kc (slackLow slack s) := by
  unfold slackLow
  try dsimp only
  repeat' first
    | with_reducible first | assumption | apply keeps_controlledStop | apply keeps_raiseRail | apply keeps_mPwr
    | exact fun _ => rfl | intro _ | with_reducible (first | apply keeps_foldl | apply keeps_ite) | split
    | (show K _ _ _ _ _ _ _ _; dsimp only; with_reducible apply Keeps.k)

theorem keeps_avsLower (slack : Nat) (s : State) (h : Keeps ko kq kc s) :
    Keeps ko kq kc (avsLower slack s) := by
  unfold avsLower
  try dsimp only
  repeat' first
    | with_reducible first | assumption | apply keeps_bump | apply keeps_mPwr
    | exact fun _ => rfl | intro _ | with_reducible (first | apply keeps_foldl | apply keeps_ite) | split
    | (show K _ _ _ _ _ _ _ _; dsimp only; with_reducible apply Keeps.k)

theorem keeps_monPassStart (s : State) (h : Keeps ko kq kc s) :
    Keeps ko kq kc (monPassStart s) := by
  unfold monPassStart
  try dsimp only
  repeat' first
    | with_reducible first | assumption | apply keeps_bump | apply keeps_mPwr | apply keeps_mMon
    | exact fun _ => rfl | intro _ | with_reducible (first | apply keeps_foldl | apply keeps_ite) | split
    | (show K _ _ _ _ _ _ _ _; dsimp only; with_reducible apply Keeps.k)

theorem keeps_startLost (s : State) (h : Keeps ko kq kc s) :
    Keeps ko kq kc (startLost s) := by
  unfold startLost
  try dsimp only
  repeat' first
    | with_reducible first | assumption | apply keeps_pulse0 | apply keeps_bump
    | exact fun _ => rfl | intro _ | with_reducible (first | apply keeps_foldl | apply keeps_ite) | split
    | (show K _ _ _ _ _ _ _ _; dsimp only; with_reducible apply Keeps.k)

theorem keeps_monEntryStart (s : State) (h : Keeps ko kq kc s) :
    Keeps ko kq kc (monEntryStart s) := by
  unfold monEntryStart
  try dsimp only
  repeat' first
    | with_reducible first | assumption | apply keeps_startLost | apply keeps_mMon
    | exact fun _ => rfl | intro _ | with_reducible (first | apply keeps_foldl | apply keeps_ite) | split
    | (show K _ _ _ _ _ _ _ _; dsimp only; with_reducible apply Keeps.k)

theorem keeps_monStartTimeout (s : State) (h : Keeps ko kq kc s) :
    Keeps ko kq kc (monStartTimeout s) := by
  unfold monStartTimeout
  try dsimp only
  repeat' first
    | with_reducible first | assumption | apply keeps_startLost | apply keeps_mMon
    | exact fun _ => rfl | intro _ | with_reducible (first | apply keeps_foldl | apply keeps_ite) | split
    | (show K _ _ _ _ _ _ _ _; dsimp only; with_reducible apply Keeps.k)

theorem keeps_newJunction (s : State) (h : Keeps ko kq kc s) :
    Keeps ko kq kc (newJunction s) := by
  unfold newJunction
  try dsimp only
  repeat' first
    | with_reducible first | assumption | apply keeps_controlledStop | apply keeps_logEvent | apply keeps_bump
                           | apply keeps_mPwr
    | exact fun _ => rfl | intro _ | with_reducible (first | apply keeps_foldl | apply keeps_ite) | split
    | (show K _ _ _ _ _ _ _ _; dsimp only; with_reducible apply Keeps.k)

theorem keeps_monEntryEnd (a b : List Nat) (s : State) (h : Keeps ko kq kc s) :
    Keeps ko kq kc (monEntryEnd a b s) := by
  unfold monEntryEnd
  try dsimp only
  repeat' first
    | with_reducible first | assumption | apply keeps_newJunction | apply keeps_mPwr | apply keeps_mMon
    | exact fun _ => rfl | intro _ | with_reducible (first | apply keeps_foldl | apply keeps_ite) | split
    | (show K _ _ _ _ _ _ _ _; dsimp only; with_reducible apply Keeps.k)

theorem keeps_monUrgent (v : Word) (s : State) (h : Keeps ko kq kc s) :
    Keeps ko kq kc (monUrgent v s) := by
  unfold monUrgent
  try dsimp only
  repeat' first
    | with_reducible first | assumption | apply keeps_pulse0 | apply keeps_bump | apply keeps_mMon
    | exact fun _ => rfl | intro _ | with_reducible (first | apply keeps_foldl | apply keeps_ite) | split
    | (show K _ _ _ _ _ _ _ _; dsimp only; with_reducible apply Keeps.k)

theorem keeps_urgentDone (a b : Nat) (s : State) (h : Keeps ko kq kc s) :
    Keeps ko kq kc (urgentDone a b s) := by
  unfold urgentDone
  try dsimp only
  repeat' first
    | with_reducible first | assumption | apply keeps_pulse0 | apply keeps_mMon
    | exact fun _ => rfl | intro _ | with_reducible (first | apply keeps_foldl | apply keeps_ite) | split
    | (show K _ _ _ _ _ _ _ _; dsimp only; with_reducible apply Keeps.k)

theorem keeps_releasePending (s : State) (h : Keeps ko kq kc s) :
    Keeps ko kq kc (releasePending s) := by
  unfold releasePending
  try dsimp only
  repeat' first
    | with_reducible first | assumption | apply keeps_sendVector | apply keeps_mLink
    | exact fun _ => rfl | intro _ | with_reducible (first | apply keeps_foldl | apply keeps_ite) | split
    | (show K _ _ _ _ _ _ _ _; dsimp only; with_reducible apply Keeps.k)

theorem keeps_linkEvent (s : State) (h : Keeps ko kq kc s) :
    Keeps ko kq kc (linkEvent s) := by
  unfold linkEvent
  try dsimp only
  repeat' first
    | with_reducible first | assumption | apply keeps_resetRings | apply keeps_pulse0 | apply keeps_bump
    | exact fun _ => rfl | intro _ | with_reducible (first | apply keeps_foldl | apply keeps_ite) | split
    | (show K _ _ _ _ _ _ _ _; dsimp only; with_reducible apply Keeps.k)

theorem keeps_enterD3 (s : State) (h : Keeps ko kq kc s) :
    Keeps ko kq kc (enterD3 s) := by
  unfold enterD3
  try dsimp only
  repeat' first
    | with_reducible first | assumption | apply keeps_linkEvent | apply keeps_mLink
    | exact fun _ => rfl | intro _ | with_reducible (first | apply keeps_foldl | apply keeps_ite) | split
    | (show K _ _ _ _ _ _ _ _; dsimp only; with_reducible apply Keeps.k)

theorem keeps_cfgWrite (d : Nat) (w : Word) (s : State) (h : Keeps ko kq kc s) :
    Keeps ko kq kc (cfgWrite d w s) := by
  unfold cfgWrite
  try dsimp only
  repeat' first
    | with_reducible first | assumption | apply keeps_releasePending | apply keeps_enterD3 | apply keeps_mLink
    | exact fun _ => rfl | intro _ | with_reducible (first | apply keeps_foldl | apply keeps_ite) | split
    | (show K _ _ _ _ _ _ _ _; dsimp only; with_reducible apply Keeps.k)

theorem keeps_configRequest (write : Option Word) (d : Nat) (s : State) (h : Keeps ko kq kc s) :
    Keeps ko kq kc (configRequest write d s) := by
  unfold configRequest
  try dsimp only
  repeat' first
    | with_reducible first | assumption | apply keeps_cfgWrite | apply keeps_emit
    | exact fun _ => rfl | intro _ | with_reducible (first | apply keeps_foldl | apply keeps_ite) | split
    | (show K _ _ _ _ _ _ _ _; dsimp only; with_reducible apply Keeps.k)

theorem keeps_linkReady (speed width : Nat) (flit : Bool) (s : State) (h : Keeps ko kq kc s) :
    Keeps ko kq kc (linkReady speed width flit s) := by
  unfold linkReady
  try dsimp only
  repeat' first
    | with_reducible first | assumption | apply keeps_releasePending | apply keeps_mLink
    | exact fun _ => rfl | intro _ | with_reducible (first | apply keeps_foldl | apply keeps_ite) | split
    | (show K _ _ _ _ _ _ _ _; dsimp only; with_reducible apply Keeps.k)

theorem keeps_perstReleased (s : State) (h : Keeps ko kq kc s) :
    Keeps ko kq kc (perstReleased s) := by
  unfold perstReleased
  try dsimp only
  repeat' first
    | with_reducible first | assumption | apply keeps_mLink
    | exact fun _ => rfl | intro _ | with_reducible (first | apply keeps_foldl | apply keeps_ite) | split
    | (show K _ _ _ _ _ _ _ _; dsimp only; with_reducible apply Keeps.k)

theorem keeps_perstAsserted (s : State) (h : Keeps ko kq kc s) :
    Keeps ko kq kc (perstAsserted s) := by
  unfold perstAsserted
  try dsimp only
  repeat' first
    | with_reducible first | assumption | apply keeps_linkEvent | apply keeps_mLink
    | exact fun _ => rfl | intro _ | with_reducible (first | apply keeps_foldl | apply keeps_ite) | split
    | (show K _ _ _ _ _ _ _ _; dsimp only; with_reducible apply Keeps.k)

theorem keeps_hotReset (s : State) (h : Keeps ko kq kc s) :
    Keeps ko kq kc (hotReset s) := by
  unfold hotReset
  try dsimp only
  repeat' first
    | with_reducible first | assumption | apply keeps_linkEvent | apply keeps_mLink
    | exact fun _ => rfl | intro _ | with_reducible (first | apply keeps_foldl | apply keeps_ite) | split
    | (show K _ _ _ _ _ _ _ _; dsimp only; with_reducible apply Keeps.k)

theorem keeps_functionReset (s : State) (h : Keeps ko kq kc s) :
    Keeps ko kq kc (functionReset s) := by
  unfold functionReset
  try dsimp only
  repeat' first
    | with_reducible first | assumption | apply keeps_linkEvent | apply keeps_mLink
    | exact fun _ => rfl | intro _ | with_reducible (first | apply keeps_foldl | apply keeps_ite) | split
    | (show K _ _ _ _ _ _ _ _; dsimp only; with_reducible apply Keeps.k)

theorem keeps_hostLinkLost (s : State) (h : Keeps ko kq kc s) :
    Keeps ko kq kc (hostLinkLost s) := by
  unfold hostLinkLost
  try dsimp only
  repeat' first
    | with_reducible first | assumption | apply keeps_linkEvent | apply keeps_mLink
    | exact fun _ => rfl | intro _ | with_reducible (first | apply keeps_foldl | apply keeps_ite) | split
    | (show K _ _ _ _ _ _ _ _; dsimp only; with_reducible apply Keeps.k)

theorem keeps_unsupported (s : State) (h : Keeps ko kq kc s) :
    Keeps ko kq kc (unsupported s) := by
  unfold unsupported
  try dsimp only
  repeat' first
    | with_reducible first | assumption | apply keeps_reportError | apply keeps_emit
    | exact fun _ => rfl | intro _ | with_reducible (first | apply keeps_foldl | apply keeps_ite) | split
    | (show K _ _ _ _ _ _ _ _; dsimp only; with_reducible apply Keeps.k)

theorem keeps_keyUnlock (v : Word) (s : State) (h : Keeps ko kq kc s) :
    Keeps ko kq kc (keyUnlock v s) := by
  unfold keyUnlock
  try dsimp only
  repeat' first
    | with_reducible first | assumption | apply keeps_keyFail
    | exact fun _ => rfl | intro _ | with_reducible (first | apply keeps_foldl | apply keeps_ite) | split
    | (show K _ _ _ _ _ _ _ _; dsimp only; with_reducible apply Keeps.k)

theorem keeps_placketOver (s : State) (h : Keeps ko kq kc s) :
    Keeps ko kq kc (placketOver s) := by
  unfold placketOver
  try dsimp only
  repeat' first
    | with_reducible first | assumption
    | exact fun _ => rfl | intro _ | with_reducible (first | apply keeps_foldl | apply keeps_ite) | split
    | (show K _ _ _ _ _ _ _ _; dsimp only; with_reducible apply Keeps.k)

theorem keeps_summaryRead (s : State) (h : Keeps ko kq kc s) :
    Keeps ko kq kc (summaryRead s) := by
  unfold summaryRead
  try dsimp only
  repeat' first
    | with_reducible first | assumption | apply keeps_mStat | apply keeps_emit
    | exact fun _ => rfl | intro _ | with_reducible (first | apply keeps_foldl | apply keeps_ite) | split
    | (show K _ _ _ _ _ _ _ _; dsimp only; with_reducible apply Keeps.k)

theorem keeps_groupRead (n : Nat) (s : State) (h : Keeps ko kq kc s) :
    Keeps ko kq kc (groupRead n s) := by
  unfold groupRead
  try dsimp only
  repeat' first
    | with_reducible first | assumption | apply keeps_mStat | apply keeps_emit
    | exact fun _ => rfl | intro _ | with_reducible (first | apply keeps_foldl | apply keeps_ite) | split
    | (show K _ _ _ _ _ _ _ _; dsimp only; with_reducible apply Keeps.k)

theorem countersOk_unwrapped {l m : Sparse Counter} (hl : CountersOk l) (hm : CountersOk m) :
    CountersOk (l.foldl (fun m c => put {} c.1 { c.2 with wrap := false } m) m) := by
  induction l generalizing m with
  | nil => exact hm
  | cons a r ih =>
    exact ih (fun p hp => hl p (List.mem_cons_of_mem _ hp)) (countersOk_put hm (hl a (List.mem_cons_self ..)))

theorem keeps_snapTake (v : Word) (s : State) (h : Keeps ko kq kc s) : Keeps ko kq kc (snapTake v s) := by
  unfold snapTake
  split
  · exact keeps_mSnap (fun t ht => countersOk_unwrapped ht (fun p hp => absurd hp List.not_mem_nil)) h
  · exact h

theorem keeps_goOn (op : MboxOp) (s : State) (h : Keeps ko kq kc s) :
    Keeps ko kq kc (goOn op s) := by
  unfold goOn
  try dsimp only
  repeat' first
    | with_reducible first | assumption | apply keeps_mMbox
    | exact fun _ => rfl | intro _ | with_reducible (first | apply keeps_foldl | apply keeps_ite) | split
    | (show K _ _ _ _ _ _ _ _; dsimp only; with_reducible apply Keeps.k)

theorem keeps_returnData (bs : List Byte) (s : State) (h : Keeps ko kq kc s) :
    Keeps ko kq kc (returnData bs s) := by
  unfold returnData
  try dsimp only
  repeat' first
    | with_reducible first | assumption | apply keeps_mMbox
    | exact fun _ => rfl | intro _ | with_reducible (first | apply keeps_foldl | apply keeps_ite) | split
    | (show K _ _ _ _ _ _ _ _; dsimp only; with_reducible apply Keeps.k)

theorem keeps_flashReadCmd (s : State) (h : Keeps ko kq kc s) :
    Keeps ko kq kc (flashReadCmd s) := by
  unfold flashReadCmd
  try dsimp only
  repeat' first
    | with_reducible first | assumption | apply keeps_finishMailbox | apply keeps_emit | apply keeps_goOn
    | exact fun _ => rfl | intro _ | with_reducible (first | apply keeps_foldl | apply keeps_ite) | split
    | (show K _ _ _ _ _ _ _ _; dsimp only; with_reducible apply Keeps.k)

theorem keeps_flashEraseCmd (s : State) (h : Keeps ko kq kc s) :
    Keeps ko kq kc (flashEraseCmd s) := by
  unfold flashEraseCmd
  try dsimp only
  repeat' first
    | with_reducible first | assumption | apply keeps_finishMailbox | apply keeps_emit | apply keeps_goOn
    | exact fun _ => rfl | intro _ | with_reducible (first | apply keeps_foldl | apply keeps_ite) | split
    | (show K _ _ _ _ _ _ _ _; dsimp only; with_reducible apply Keeps.k)

theorem keeps_flashProgramCmd (s : State) (h : Keeps ko kq kc s) :
    Keeps ko kq kc (flashProgramCmd s) := by
  unfold flashProgramCmd
  try dsimp only
  repeat' first
    | with_reducible first | assumption | apply keeps_finishMailbox | apply keeps_emit | apply keeps_goOn
    | exact fun _ => rfl | intro _ | with_reducible (first | apply keeps_foldl | apply keeps_ite) | split
    | (show K _ _ _ _ _ _ _ _; dsimp only; with_reducible apply Keeps.k)

theorem keeps_flashInfoCmd (s : State) (h : Keeps ko kq kc s) :
    Keeps ko kq kc (flashInfoCmd s) := by
  unfold flashInfoCmd
  try dsimp only
  repeat' first
    | with_reducible first | assumption | apply keeps_finishMailbox
    | exact fun _ => rfl | intro _ | with_reducible (first | apply keeps_foldl | apply keeps_ite) | split
    | (show K _ _ _ _ _ _ _ _; dsimp only; with_reducible apply Keeps.k)

theorem keeps_boardReadCmd (s : State) (h : Keeps ko kq kc s) :
    Keeps ko kq kc (boardReadCmd s) := by
  unfold boardReadCmd
  try dsimp only
  repeat' first
    | with_reducible first | assumption | apply keeps_finishMailbox | apply keeps_returnData
    | exact fun _ => rfl | intro _ | with_reducible (first | apply keeps_foldl | apply keeps_ite) | split
    | (show K _ _ _ _ _ _ _ _; dsimp only; with_reducible apply Keeps.k)

theorem keeps_writeSlot (k : Nat) (d : Digest) (s : State) (h : Keeps ko kq kc s) :
    Keeps ko kq kc (writeSlot k d s) := by
  unfold writeSlot
  try dsimp only
  repeat' first
    | with_reducible first | assumption | apply keeps_finishMailbox | apply keeps_goOn
    | exact fun _ => rfl | intro _ | with_reducible (first | apply keeps_foldl | apply keeps_ite) | split
    | (show K _ _ _ _ _ _ _ _; dsimp only; with_reducible apply Keeps.k)

theorem keeps_ksWriteCmd (s : State) (h : Keeps ko kq kc s) :
    Keeps ko kq kc (ksWriteCmd s) := by
  unfold ksWriteCmd
  try dsimp only
  repeat' first
    | with_reducible first | assumption | apply keeps_finishMailbox | apply keeps_writeSlot
    | exact fun _ => rfl | intro _ | with_reducible (first | apply keeps_foldl | apply keeps_ite) | split
    | (show K _ _ _ _ _ _ _ _; dsimp only; with_reducible apply Keeps.k)

theorem keeps_ksRevokeCmd (s : State) (h : Keeps ko kq kc s) :
    Keeps ko kq kc (ksRevokeCmd s) := by
  unfold ksRevokeCmd
  try dsimp only
  repeat' first
    | with_reducible first | assumption | apply keeps_finishMailbox | apply keeps_goOn
    | exact fun _ => rfl | intro _ | with_reducible (first | apply keeps_foldl | apply keeps_ite) | split
    | (show K _ _ _ _ _ _ _ _; dsimp only; with_reducible apply Keeps.k)

theorem keeps_ageCmd (s : State) (h : Keeps ko kq kc s) :
    Keeps ko kq kc (ageCmd s) := by
  unfold ageCmd
  try dsimp only
  repeat' first
    | with_reducible first | assumption | apply keeps_finishMailbox | apply keeps_issueGen | apply keeps_setAge
    | exact fun _ => rfl | intro _ | with_reducible (first | apply keeps_foldl | apply keeps_ite) | split
    | (show K _ _ _ _ _ _ _ _; dsimp only; with_reducible apply Keeps.k)

theorem keeps_calRunCmd (s : State) (h : Keeps ko kq kc s) :
    Keeps ko kq kc (calRunCmd s) := by
  unfold calRunCmd
  try dsimp only
  repeat' first
    | with_reducible first | assumption | apply keeps_finishMailbox | apply keeps_startCalRun | apply keeps_ageCmd
    | exact fun _ => rfl | intro _ | with_reducible (first | apply keeps_foldl | apply keeps_ite) | split
    | (show K _ _ _ _ _ _ _ _; dsimp only; with_reducible apply Keeps.k)

theorem keeps_calStoreCmd (s : State) (h : Keeps ko kq kc s) :
    Keeps ko kq kc (calStoreCmd s) := by
  unfold calStoreCmd
  try dsimp only
  repeat' first
    | with_reducible first | assumption | apply keeps_finishMailbox | apply keeps_emit | apply keeps_goOn
    | exact fun _ => rfl | intro _ | with_reducible (first | apply keeps_foldl | apply keeps_ite) | split
    | (show K _ _ _ _ _ _ _ _; dsimp only; with_reducible apply Keeps.k)

theorem keeps_calAbortCmd (s : State) (h : Keeps ko kq kc s) :
    Keeps ko kq kc (calAbortCmd s) := by
  unfold calAbortCmd
  try dsimp only
  repeat' first
    | with_reducible first | assumption | apply keeps_finishMailbox | apply keeps_abortTurn
    | exact fun _ => rfl | intro _ | with_reducible (first | apply keeps_foldl | apply keeps_ite) | split
    | (show K _ _ _ _ _ _ _ _; dsimp only; with_reducible apply Keeps.k)

theorem keeps_logFreezeCmd (s : State) (h : Keeps ko kq kc s) :
    Keeps ko kq kc (logFreezeCmd s) := by
  unfold logFreezeCmd
  try dsimp only
  repeat' first
    | with_reducible first | assumption | apply keeps_finishMailbox | apply keeps_beginFreeze | apply keeps_goOn
    | exact fun _ => rfl | intro _ | with_reducible (first | apply keeps_foldl | apply keeps_ite) | split
    | (show K _ _ _ _ _ _ _ _; dsimp only; with_reducible apply Keeps.k)

theorem keeps_logClearCmd (s : State) (h : Keeps ko kq kc s) :
    Keeps ko kq kc (logClearCmd s) := by
  unfold logClearCmd
  try dsimp only
  repeat' first
    | with_reducible first | assumption | apply keeps_finishMailbox | apply keeps_goOn
    | exact fun _ => rfl | intro _ | with_reducible (first | apply keeps_foldl | apply keeps_ite) | split
    | (show K _ _ _ _ _ _ _ _; dsimp only; with_reducible apply Keeps.k)

theorem keeps_runCommand (op : Nat) (s : State) (h : Keeps ko kq kc s) :
    Keeps ko kq kc (runCommand op s) := by
  unfold runCommand
  try dsimp only
  repeat' first
    | with_reducible first | assumption | apply keeps_flashProgramCmd | apply keeps_finishMailbox
                           | apply keeps_flashEraseCmd | apply keeps_flashReadCmd | apply keeps_flashInfoCmd
                           | apply keeps_boardReadCmd | apply keeps_logFreezeCmd | apply keeps_ksRevokeCmd
                           | apply keeps_calStoreCmd | apply keeps_calAbortCmd | apply keeps_logClearCmd
                           | apply keeps_ksWriteCmd | apply keeps_endFreeze | apply keeps_calRunCmd
    | exact fun _ => rfl | intro _ | with_reducible (first | apply keeps_foldl | apply keeps_ite) | split
    | (show K _ _ _ _ _ _ _ _; dsimp only; with_reducible apply Keeps.k)

theorem keeps_ring_ (kg : Bool) (op : Nat) (s : State) (h : Keeps ko kq kc s) :
    Keeps ko kq kc (ring_ kg op s) := by
  unfold ring_
  try dsimp only
  repeat' first
    | with_reducible first | assumption | apply keeps_finishMailbox | apply keeps_runCommand | apply keeps_pulse0
                           | apply keeps_mMbox
    | exact fun _ => rfl | intro _ | with_reducible (first | apply keeps_foldl | apply keeps_ite) | split
    | (show K _ _ _ _ _ _ _ _; dsimp only; with_reducible apply Keeps.k)

theorem keeps_doorbell (kg : Bool) (op : Nat) (s : State) (h : Keeps ko kq kc s) :
    Keeps ko kq kc (doorbell kg op s) := by
  unfold doorbell
  try dsimp only
  repeat' first
    | with_reducible first | assumption | apply keeps_guarded | apply keeps_ring_
    | exact fun _ => rfl | intro _ | with_reducible (first | apply keeps_foldl | apply keeps_ite) | split
    | (show K _ _ _ _ _ _ _ _; dsimp only; with_reducible apply Keeps.k)

theorem keeps_programEnd (ok : Bool) (mismatch : Option Nat) (s : State) (h : Keeps ko kq kc s) :
    Keeps ko kq kc (programEnd ok mismatch s) := by
  unfold programEnd
  try dsimp only
  repeat' first
    | with_reducible first | assumption | apply keeps_finishMailbox
    | exact fun _ => rfl | intro _ | with_reducible (first | apply keeps_foldl | apply keeps_ite) | split
    | (show K _ _ _ _ _ _ _ _; dsimp only; with_reducible apply Keeps.k)

theorem keeps_slotWritten (k : Nat) (d : Digest) (s : State) (h : Keeps ko kq kc s) : Keeps ko kq kc
    (slotWritten k d s) :=
  keeps_finishMailbox _ _ _ (keeps_logEvent _ _ _ _
    { h.k with slots := by unfold mImg; dsimp only; exact wf_upd h.slots, once := by unfold mImg; dsimp only; exact grown_upd h.slots h.once fun x => write_grows x d })

theorem keeps_slotRevoked (k : Nat) (s : State) (h : Keeps ko kq kc s) : Keeps ko kq kc (slotRevoked k s) :=
  keeps_finishMailbox _ _ _ (keeps_logEvent _ _ _ _
    { h.k with slots := by unfold mImg; dsimp only; exact wf_upd h.slots, once := by unfold mImg; dsimp only; exact grown_upd h.slots h.once fun _ => ⟨fun e => ⟨e, rfl⟩, fun _ => rfl⟩ })

theorem keeps_calStored (k gen : Nat) (ok : Bool) (s : State) (h : Keeps ko kq kc s) :
    Keeps ko kq kc (calStored k gen ok s) := by
  unfold calStored
  try dsimp only
  repeat' first
    | with_reducible first | assumption | apply keeps_finishMailbox | apply keeps_pulse0 | apply keeps_mCal
    | exact fun _ => rfl | intro _ | with_reducible (first | apply keeps_foldl | apply keeps_ite) | split
    | (show K _ _ _ _ _ _ _ _; dsimp only; with_reducible apply Keeps.k)

theorem keeps_logCleared (signer seq : Nat) (d : Digest) (s : State) (h : Keeps ko kq kc s) :
    Keeps ko kq kc (logCleared signer seq d s) := by
  unfold logCleared
  try dsimp only
  repeat' first
    | with_reducible first | assumption | apply keeps_finishMailbox | apply keeps_clearLog
    | exact fun _ => rfl | intro _ | with_reducible (first | apply keeps_foldl | apply keeps_ite) | split
    | (show K _ _ _ _ _ _ _ _; dsimp only; with_reducible apply Keeps.k)

theorem keeps_mailboxEnds (ok : Bool) (data : List Byte) (mismatch : Option Nat) (s : State) (h : Keeps ko kq kc s) :
    Keeps ko kq kc (mailboxEnds ok data mismatch s) := by
  unfold mailboxEnds
  try dsimp only
  repeat' first
    | with_reducible first | assumption | apply keeps_finishMailbox | apply keeps_slotWritten
                           | apply keeps_slotRevoked | apply keeps_returnData | apply keeps_programEnd
                           | apply keeps_logCleared | apply keeps_calStored
    | exact fun _ => rfl | intro _ | with_reducible (first | apply keeps_foldl | apply keeps_ite) | split
    | (show K _ _ _ _ _ _ _ _; dsimp only; with_reducible apply Keeps.k)

theorem keeps_mailboxInput (f : Mailbox → Mailbox) (s : State) (h : Keeps ko kq kc s) :
    Keeps ko kq kc (mailboxInput f s) := by
  unfold mailboxInput
  try dsimp only
  repeat' first
    | with_reducible first | assumption | apply keeps_pulse0 | apply keeps_mMbox | apply keeps_bump
    | exact fun _ => rfl | intro _ | with_reducible (first | apply keeps_foldl | apply keeps_ite) | split
    | (show K _ _ _ _ _ _ _ _; dsimp only; with_reducible apply Keeps.k)

theorem keeps_writeCmd (o : Nat) (w : Word) (s : State) (h : Keeps ko kq kc s) :
    Keeps ko kq kc (writeCmd o w s) := by
  unfold writeCmd
  try dsimp only
  repeat' first
    | with_reducible first | assumption | apply keeps_restartAsked | apply keeps_mailboxInput | apply keeps_doorbell
                           | apply keeps_guarded | apply keeps_ring_
    | exact fun _ => rfl | intro _ | with_reducible (first | apply keeps_foldl | apply keeps_ite) | split
    | (show K _ _ _ _ _ _ _ _; dsimp only; with_reducible apply Keeps.k)

theorem keeps_writeTrg (o : Nat) (w : Word) (s : State) (h : Keeps ko kq kc s) :
    Keeps ko kq kc (writeTrg o w s) := by
  unfold writeTrg
  try dsimp only
  repeat' first
    | with_reducible first | assumption | apply keeps_disarmGroup | apply keeps_forceGroup | apply keeps_afterWrite
                           | apply keeps_eachGroup | apply keeps_armGroup | apply keeps_mTrig
    | exact fun _ => rfl | intro _ | with_reducible (first | apply keeps_foldl | apply keeps_ite) | split
    | (show K _ _ _ _ _ _ _ _; dsimp only; with_reducible apply Keeps.k)

theorem keeps_writeCap (o : Nat) (w : Word) (s : State) (h : Keeps ko kq kc s) :
    Keeps ko kq kc (writeCap o w s) := by
  unfold writeCap
  try dsimp only
  repeat' first
    | with_reducible first | assumption | apply keeps_abortCaptures | apply keeps_afterWrite | apply keeps_mTrig
    | exact fun _ => rfl | intro _ | with_reducible (first | apply keeps_foldl | apply keeps_ite) | split
    | (show K _ _ _ _ _ _ _ _; dsimp only; with_reducible apply Keeps.k)

theorem keeps_writeTiu (o : Nat) (w : Word) (s : State) (h : Keeps ko kq kc s) :
    Keeps ko kq kc (writeTiu o w s) := by
  unfold writeTiu
  try dsimp only
  repeat' first
    | with_reducible first | assumption | apply keeps_startCal | apply keeps_mTiu
    | exact fun _ => rfl | intro _ | with_reducible (first | apply keeps_foldl | apply keeps_ite) | split
    | (show K _ _ _ _ _ _ _ _; dsimp only; with_reducible apply Keeps.k)

theorem keeps_writeHost (o : Nat) (w : Word) (s : State) (h : Keeps ko kq kc s) :
    Keeps ko kq kc (writeHost o w s) := by
  unfold writeHost
  try dsimp only
  repeat' first
    | with_reducible first | assumption | apply keeps_releasePending | apply keeps_mLink
    | exact fun _ => rfl | intro _ | with_reducible (first | apply keeps_foldl | apply keeps_ite) | split
    | (show K _ _ _ _ _ _ _ _; dsimp only; with_reducible apply Keeps.k)

theorem keeps_writeBase (q : Nat) (f : Ring → Ring) (s : State) (h : Keeps ko kq kc s) :
    Keeps ko kq kc (writeBase q f s) := by
  unfold writeBase
  try dsimp only
  repeat' first
    | with_reducible first | assumption | apply keeps_mRing
    | exact fun _ => rfl | intro _ | with_reducible (first | apply keeps_foldl | apply keeps_ite) | split
    | (show K _ _ _ _ _ _ _ _; dsimp only; with_reducible apply Keeps.k)

theorem keeps_writeAbort (q : Nat) (w : Word) (s : State) (h : Keeps ko kq kc s) :
    Keeps ko kq kc (writeAbort q w s) := by
  unfold writeAbort
  try dsimp only
  repeat' first
    | with_reducible first | assumption | apply keeps_flushRing | apply keeps_abortRun
    | exact fun _ => rfl | intro _ | with_reducible (first | apply keeps_foldl | apply keeps_ite) | split
    | (show K _ _ _ _ _ _ _ _; dsimp only; with_reducible apply Keeps.k)

theorem keeps_writeRing (q o : Nat) (w : Word) (s : State) (h : Keeps ko kq kc s) :
    Keeps ko kq kc (writeRing q o w s) := by
  unfold writeRing
  try dsimp only
  repeat' first
    | with_reducible first | assumption | apply keeps_afterWrite | apply keeps_writeChead | apply keeps_writeAbort
                           | apply keeps_writeCtrl | apply keeps_writeTail | apply keeps_writeBase
    | exact fun _ => rfl | intro _ | with_reducible (first | apply keeps_foldl | apply keeps_ite) | split
    | (show K _ _ _ _ _ _ _ _; dsimp only; with_reducible apply Keeps.k)

theorem keeps_writeMon (o : Nat) (w : Word) (s : State) (h : Keeps ko kq kc s) :
    Keeps ko kq kc (writeMon o w s) := by
  unfold writeMon
  try dsimp only
  repeat' first
    | with_reducible first | assumption | apply keeps_monUrgent | apply keeps_mMon
    | exact fun _ => rfl | intro _ | with_reducible (first | apply keeps_foldl | apply keeps_ite) | split
    | (show K _ _ _ _ _ _ _ _; dsimp only; with_reducible apply Keeps.k)

theorem keeps_writeBlock (n o : Nat) (w : Word) (s : State) (h : Keeps ko kq kc s) :
    Keeps ko kq kc (writeBlock n o w s) := by
  unfold writeBlock
  try dsimp only
  repeat' first
    | with_reducible first | assumption | apply keeps_liveCommit | apply keeps_liveWrite | apply keeps_keyUnlock
                           | apply keeps_writeHost | apply keeps_writeRing | apply keeps_snapTake
                           | apply keeps_writeCmd | apply keeps_writeTrg | apply keeps_writeCap
                           | apply keeps_writeTiu | apply keeps_writeMon | apply keeps_mStore | apply keeps_mStat
                           | apply keeps_mDisk | apply keeps_mImg | apply keeps_mEng | apply keeps_mCal
                           | apply keeps_mRec
    | exact fun _ => rfl | intro _ | with_reducible (first | apply keeps_foldl | apply keeps_ite) | split
    | (show K _ _ _ _ _ _ _ _; dsimp only; with_reducible apply Keeps.k)

theorem keeps_writeReg (off : Nat) (w : Word) (s : State) (h : Keeps ko kq kc s) :
    Keeps ko kq kc (writeReg off w s) := by
  unfold writeReg
  try dsimp only
  repeat' first
    | with_reducible first | assumption | apply keeps_writeBlock
    | exact fun _ => rfl | intro _ | with_reducible (first | apply keeps_foldl | apply keeps_ite) | split
    | (show K _ _ _ _ _ _ _ _; dsimp only; with_reducible apply Keeps.k)

theorem keeps_writeDword (off : Nat) (d : Word × Nat) (s : State) (h : Keeps ko kq kc s) :
    Keeps ko kq kc (writeDword off d s) := by
  unfold writeDword
  try dsimp only
  repeat' first
    | with_reducible first | assumption | apply keeps_writeReg | apply keeps_pulse0 | apply keeps_bump
    | exact fun _ => rfl | intro _ | with_reducible (first | apply keeps_foldl | apply keeps_ite) | split
    | (show K _ _ _ _ _ _ _ _; dsimp only; with_reducible apply Keeps.k)

theorem keeps_writeDwords (off : Nat) (l : List (Word × Nat)) (s : State) (h : Keeps ko kq kc s) :
    Keeps ko kq kc (writeDwords off l s) := by
  induction l generalizing off s with
  | nil => exact h
  | cons a r ih => exact ih _ _ (keeps_writeDword _ _ _ h)

theorem keeps_bar0Write (off : Nat) (dws : List (Word × Nat)) (poisoned : Bool) (s : State) (h : Keeps ko kq kc s) :
    Keeps ko kq kc (bar0Write off dws poisoned s) := by
  unfold bar0Write
  try dsimp only
  repeat' first
    | with_reducible first | assumption | apply keeps_reportError | apply keeps_writeDwords | apply keeps_pulse0
                           | apply keeps_bump
    | exact fun _ => rfl | intro _ | with_reducible (first | apply keeps_foldl | apply keeps_ite) | split
    | (show K _ _ _ _ _ _ _ _; dsimp only; with_reducible apply Keeps.k)

theorem keeps_endRun (c : Nat) (s : State) (h : Keeps ko kq kc s) :
    Keeps ko kq kc (endRun c s) := by
  unfold endRun
  try dsimp only
  repeat' first
    | with_reducible first | assumption | apply keeps_cancelProvisional | apply keeps_mCond
    | exact fun _ => rfl | intro _ | with_reducible (first | apply keeps_foldl | apply keeps_ite) | split
    | (show K _ _ _ _ _ _ _ _; dsimp only; with_reducible apply Keeps.k)

theorem keeps_extendRun (c time : Nat) (s : State) (h : Keeps ko kq kc s) :
    Keeps ko kq kc (extendRun c time s) := by
  unfold extendRun
  try dsimp only
  repeat' first
    | with_reducible first | assumption | apply keeps_raiseProvisional | apply keeps_mGroup | apply keeps_mCond
    | exact fun _ => rfl | intro _ | with_reducible (first | apply keeps_foldl | apply keeps_ite) | split
    | (show K _ _ _ _ _ _ _ _; dsimp only; with_reducible apply Keeps.k)

theorem keeps_qualifyRun (c : Nat) (s : State) (h : Keeps ko kq kc s) :
    Keeps ko kq kc (qualifyRun c s) := by
  unfold qualifyRun
  try dsimp only
  repeat' first
    | with_reducible first | assumption | apply keeps_arrive | apply keeps_mCond | apply keeps_bump
    | exact fun _ => rfl | intro _ | with_reducible (first | apply keeps_foldl | apply keeps_ite) | split
    | (show K _ _ _ _ _ _ _ _; dsimp only; with_reducible apply Keeps.k)

theorem keeps_maskFrame (c : Nat) (s : State) (h : Keeps ko kq kc s) :
    Keeps ko kq kc (maskFrame c s) := by
  unfold maskFrame
  try dsimp only
  repeat' first
    | with_reducible first | assumption | apply keeps_sharedRead | apply keeps_qualifyRun | apply keeps_extendRun
                           | apply keeps_measure | apply keeps_endRun | apply keeps_mCond
    | exact fun _ => rfl | intro _ | with_reducible (first | apply keeps_foldl | apply keeps_ite) | split
    | (show K _ _ _ _ _ _ _ _; dsimp only; with_reducible apply Keeps.k)

theorem keeps_addFlight (r : Nat) (t : Txn) (bytes : List Byte) (s : State) (h : Keeps ko kq kc s) :
    Keeps ko kq kc (addFlight r t bytes s) := by
  unfold addFlight
  try dsimp only
  repeat' first
    | with_reducible first | assumption | apply keeps_mStore
    | exact fun _ => rfl | intro _ | with_reducible (first | apply keeps_foldl | apply keeps_ite) | split
    | (show K _ _ _ _ _ _ _ _; dsimp only; with_reducible apply Keeps.k)

theorem keeps_serveTxn (r : Nat) (s : State) (t : Txn) (h : Keeps ko kq kc s) :
    Keeps ko kq kc (serveTxn r s t) := by
  unfold serveTxn
  try dsimp only
  repeat' first
    | with_reducible first | assumption | apply keeps_densityServed | apply keeps_serveDmaWrite
                           | apply keeps_recordServed | apply keeps_serveDmaRead | apply keeps_ctxServed
                           | apply keeps_addFlight
    | exact fun _ => rfl | intro _ | with_reducible (first | apply keeps_foldl | apply keeps_ite) | split
    | (show K _ _ _ _ _ _ _ _; dsimp only; with_reducible apply Keeps.k)

theorem keeps_openTransaction (borrowed : Bool) (s : State) (h : Keeps ko kq kc s) :
    Keeps ko kq kc (openTransaction borrowed s) := by
  unfold openTransaction
  try dsimp only
  repeat' first
    | with_reducible first | assumption | apply keeps_pumpContexts | apply keeps_pumpStreams | apply keeps_afterWrite
                           | apply keeps_takeSlot | apply keeps_serveTxn
    | exact fun _ => rfl | intro _ | with_reducible (first | apply keeps_foldl | apply keeps_ite) | split
    | (show K _ _ _ _ _ _ _ _; dsimp only; with_reducible apply Keeps.k)

theorem keeps_deliver (t : Txn) (bytes : List Byte) (ue : Bool) (s : State) (h : Keeps ko kq kc s) :
    Keeps ko kq kc (deliver t bytes ue s) := by
  unfold deliver
  try dsimp only
  repeat' first
    | with_reducible first | assumption | apply keeps_parityData | apply keeps_driveData | apply keeps_ctxLand
                           | apply keeps_dmaData | apply keeps_bumpBy | apply keeps_emit
    | exact fun _ => rfl | intro _ | with_reducible (first | apply keeps_foldl | apply keeps_ite) | split
    | (show K _ _ _ _ _ _ _ _; dsimp only; with_reducible apply Keeps.k)

theorem keeps_openReadData (x : Ecc) (s : State) (h : Keeps ko kq kc s) :
    Keeps ko kq kc (openReadData x s) := by
  unfold openReadData
  try dsimp only
  repeat' first
    | with_reducible first | assumption | apply keeps_eccEvent | apply keeps_deliver | apply keeps_mStore
    | exact fun _ => rfl | intro _ | with_reducible (first | apply keeps_foldl | apply keeps_ite) | split
    | (show K _ _ _ _ _ _ _ _; dsimp only; with_reducible apply Keeps.k)

theorem keeps_destWaitOver (q : Nat) (s : State) (h : Keeps ko kq kc s) :
    Keeps ko kq kc (destWaitOver q s) := by
  unfold destWaitOver
  try dsimp only
  repeat' first
    | with_reducible first | assumption | apply keeps_beginMove
    | exact fun _ => rfl | intro _ | with_reducible (first | apply keeps_foldl | apply keeps_ite) | split
    | (show K _ _ _ _ _ _ _ _; dsimp only; with_reducible apply Keeps.k)

theorem keeps_unanswered (q : Nat) (w : HostAsk) (data : Option (List Byte)) (s : State) (h : Keeps ko kq kc s) :
    Keeps ko kq kc (unanswered q w data s) := by
  unfold unanswered
  try dsimp only
  repeat' first
    | with_reducible first | assumption | apply keeps_failedCompletion
    | exact fun _ => rfl | intro _ | with_reducible (first | apply keeps_foldl | apply keeps_ite) | split
    | (show K _ _ _ _ _ _ _ _; dsimp only; with_reducible apply Keeps.k)

theorem keeps_plainLs (e : Nat) (f : LsForm) {body : Engine → State → State} (g : Engine)
    (hf : ∀ g s, Keeps ko kq kc s → Keeps ko kq kc (body g s)) (s : State) (h : Keeps ko kq kc s) :
    Keeps ko kq kc (plainLs e f body g s) := by
  unfold plainLs
  repeat' first
    | with_reducible first | assumption | apply hf | apply keeps_mEngine | apply keeps_illegalSlot
    | split

theorem keeps_accumulate (e : Nat) (f : MacForm) (base : Nat → Int) (g : Engine) (s : State) (h : Keeps ko kq kc s) :
    Keeps ko kq kc (accumulate e f base g s) := by
  unfold accumulate
  try dsimp only
  repeat' first
    | with_reducible first | assumption | apply keeps_sendResult | apply keeps_mEngine
    | exact fun _ => rfl | intro _ | with_reducible (first | apply keeps_foldl | apply keeps_ite) | split
    | (show K _ _ _ _ _ _ _ _; dsimp only; with_reducible apply Keeps.k)

theorem keeps_smbusOffset (off : Nat) (s : State) (h : Keeps ko kq kc s) :
    Keeps ko kq kc (smbusOffset off s) := by
  unfold smbusOffset
  try dsimp only
  repeat' first
    | with_reducible first | assumption | apply keeps_mPkg
    | exact fun _ => rfl | intro _ | with_reducible (first | apply keeps_foldl | apply keeps_ite) | split
    | (show K _ _ _ _ _ _ _ _; dsimp only; with_reducible apply Keeps.k)

theorem keeps_smbusRead (s : State) (h : Keeps ko kq kc s) :
    Keeps ko kq kc (smbusRead s) := by
  unfold smbusRead
  try dsimp only
  repeat' first
    | with_reducible first | assumption | apply keeps_emit | apply keeps_mPkg
    | exact fun _ => rfl | intro _ | with_reducible (first | apply keeps_foldl | apply keeps_ite) | split
    | (show K _ _ _ _ _ _ _ _; dsimp only; with_reducible apply Keeps.k)

theorem keeps_smbusState (s : State) (h : Keeps ko kq kc s) :
    Keeps ko kq kc (smbusState s) := by
  unfold smbusState
  try dsimp only
  repeat' first
    | with_reducible first | assumption | apply keeps_emit
    | exact fun _ => rfl | intro _ | with_reducible (first | apply keeps_foldl | apply keeps_ite) | split
    | (show K _ _ _ _ _ _ _ _; dsimp only; with_reducible apply Keeps.k)

theorem keeps_dperstReleased (p : Nat) (s : State) (h : Keeps ko kq kc s) :
    Keeps ko kq kc (dperstReleased p s) := by
  unfold dperstReleased
  try dsimp only
  repeat' first
    | with_reducible first | assumption | apply keeps_mPkg
    | exact fun _ => rfl | intro _ | with_reducible (first | apply keeps_foldl | apply keeps_ite) | split
    | (show K _ _ _ _ _ _ _ _; dsimp only; with_reducible apply Keeps.k)

theorem keeps_tapScan (code : Nat) (s : State) (h : Keeps ko kq kc s) :
    Keeps ko kq kc (tapScan code s) := by
  unfold tapScan
  try dsimp only
  repeat' first
    | with_reducible first | assumption | apply keeps_nextFree | apply keeps_mPkg
    | exact fun _ => rfl | intro _ | with_reducible (first | apply keeps_foldl | apply keeps_ite) | split
    | (show K _ _ _ _ _ _ _ _; dsimp only; with_reducible apply Keeps.k)

theorem keeps_tapInstruction (code : Nat) (s : State) (h : Keeps ko kq kc s) :
    Keeps ko kq kc (tapInstruction code s) := by
  unfold tapInstruction
  try dsimp only
  repeat' first
    | with_reducible first | assumption | apply keeps_tapScan | apply keeps_emit | apply keeps_mPkg
    | exact fun _ => rfl | intro _ | with_reducible (first | apply keeps_foldl | apply keeps_ite) | split
    | (show K _ _ _ _ _ _ _ _; dsimp only; with_reducible apply Keeps.k)

theorem keeps_endCycle (s : State) (h : Keeps ko kq kc s) :
    Keeps ko kq kc (endCycle s) := by
  unfold endCycle
  try dsimp only
  repeat' first
    | with_reducible first | assumption | apply keeps_settleEdges | apply keeps_driveWork | apply keeps_nextCycle
                           | apply keeps_mEng
    | exact fun _ => rfl | intro _ | with_reducible (first | apply keeps_foldl | apply keeps_ite) | split
    | (show K _ _ _ _ _ _ _ _; dsimp only; with_reducible apply Keeps.k)

/-- Queueing commands keeps every other fact. -/
theorem keeps_queue {s : State} (h : Keeps ko kq kc s) (l : List Instr) : Keeps ko l kc { s with pending := l } :=
  { h.k with queue := rfl }

theorem keeps_issueAll (s : State) (h : Keeps ko kq kc s) : ∃ l, Keeps ko l kc (issueAll s) :=
  ⟨_, keeps_foldl (fun _ _ h => keeps_mEngine _ _ _ h) (keeps_queue h _)⟩

theorem keeps_settleAll (s : State) (h : Keeps ko kq kc s) : ∃ l, Keeps ko l kc (settleAll s) := by
  unfold settleAll
  dsimp only
  split
  · exact ⟨kq, keeps_endCycle _ (keeps_mEng _ _ h)⟩
  · exact ⟨_, keeps_queue h _⟩

theorem keeps_issuePhase (s : State) (h : Keeps ko kq kc s) : ∃ l, Keeps ko l kc (issuePhase s) := by
  unfold issuePhase
  split
  · exact keeps_settleAll s h
  · split
    · exact keeps_issueAll s h
    · exact ⟨kq, keeps_endCycle _ h⟩

theorem keeps_firstTakes (s : State) (h : Keeps ko kq kc s) :
    Keeps ko kq kc (firstTakes s) := by
  unfold firstTakes
  try dsimp only
  repeat' first
    | with_reducible first | assumption | apply keeps_takeBlock
    | exact fun _ => rfl | intro _ | with_reducible (first | apply keeps_foldl | apply keeps_ite) | split
    | (show K _ _ _ _ _ _ _ _; dsimp only; with_reducible apply Keeps.k)

theorem keeps_readSlot (s : State) (h : Keeps ko kq kc s) :
    Keeps ko kq kc (readSlot s) := by
  unfold readSlot
  try dsimp only
  repeat' first
    | with_reducible first | assumption | apply keeps_captureRead
    | exact fun _ => rfl | intro _ | with_reducible (first | apply keeps_foldl | apply keeps_ite) | split
    | (show K _ _ _ _ _ _ _ _; dsimp only; with_reducible apply Keeps.k)

theorem keeps_dropWritten (s : State) (h : Keeps ko kq kc s) :
    Keeps ko kq kc (dropWritten s) := by
  unfold dropWritten
  try dsimp only
  repeat' first
    | with_reducible first | assumption | apply keeps_mEng
    | exact fun _ => rfl | intro _ | with_reducible (first | apply keeps_foldl | apply keeps_ite) | split
    | (show K _ _ _ _ _ _ _ _; dsimp only; with_reducible apply Keeps.k)

theorem keeps_passBoundary (s : State) (h : Keeps ko kq kc s) :
    Keeps ko kq kc (passBoundary s) := by
  unfold passBoundary
  try dsimp only
  repeat' first
    | with_reducible first | assumption | apply keeps_endTablePass
    | exact fun _ => rfl | intro _ | with_reducible (first | apply keeps_foldl | apply keeps_ite) | split
    | (show K _ _ _ _ _ _ _ _; dsimp only; with_reducible apply Keeps.k)

theorem keeps_eventPhase (s : State) (h : Keeps ko kq kc s) : ∃ l, Keeps ko l kc (eventPhase s) :=
  ⟨_, keeps_mEng _ _ (keeps_dropWritten _ (keeps_queue (keeps_passBoundary _ (keeps_readSlot _ (keeps_firstTakes _ h))) _))⟩

theorem keeps_ownTime (s : State) (h : Keeps ko kq kc s) : ∃ l, Keeps ko l kc (ownTime s) := by
  unfold ownTime
  split
  · exact ⟨kq, keeps_endCycle _ (keeps_passBoundary _ (keeps_finishClose _ h))⟩
  · split
    · exact keeps_issuePhase s h
    · exact keeps_eventPhase s h

end Sys2Proof.Laws
end

