-- ==== Sys2Proof/Laws/KeepsExec.lean ====
section
/-! SUPPORT. Every command, and every step of the block's own time, keeps the facts of KeepsCore. -/

namespace Sys2Proof.Laws
open Sys2Proof.Machine

variable {ko : Sparse KeySlot} {kq : List Instr} {kc : Nat}

/-- What a command's own effect keeps, the command keeps. -/
theorem keeps_act {f : State → State} (hf : ∀ s, Keeps ko kq kc s → Keeps ko kq kc (f s)) {s t : State}
    (h : Keeps ko kq kc s) (ht : act f s = .next t) : Keeps ko kq kc t := by
  cases ht
  exact hf _ h.k

/-- A step of the block's own time keeps the facts, but for the queue, which it may fill. -/
theorem keeps_tick {s t : State} (h : Keeps ko kq kc s) (ht : tick s = .next t) : ∃ l, Keeps ko l kc t := by
  cases ht
  exact keeps_ownTime _ h.k

theorem keeps_execOvenSample (err : Int) (heater : Nat) {s t : State} (h : Keeps ko kq kc s)
    (ht : execOvenSample err heater s = .next t) :
    Keeps ko kq kc t := by
  refine keeps_act (fun s h => ?_) h ht
  repeat' first
    | with_reducible first | assumption | apply keeps_ovenSample
    | exact fun _ => rfl | intro _ | split | dsimp only

theorem keeps_execAgeingEvaluation  {s t : State} (h : Keeps ko kq kc s) (ht : execAgeingEvaluation s = .next t) :
    Keeps ko kq kc t := by
  refine keeps_act (fun s h => ?_) h ht
  repeat' first
    | with_reducible first | assumption | apply keeps_evaluateModel
    | exact fun _ => rfl | intro _ | split | dsimp only

theorem keeps_execTuneSlewStep  {s t : State} (h : Keeps ko kq kc s) (ht : execTuneSlewStep s = .next t) :
    Keeps ko kq kc t := by
  refine keeps_act (fun s h => ?_) h ht
  repeat' first
    | with_reducible first | assumption | apply keeps_slewStep
    | exact fun _ => rfl | intro _ | split | dsimp only

theorem keeps_execSynthOffsetStep  {s t : State} (h : Keeps ko kq kc s) (ht : execSynthOffsetStep s = .next t) :
    Keeps ko kq kc t := by
  refine keeps_act (fun s h => ?_) h ht
  repeat' first
    | with_reducible first | assumption | apply keeps_offsetStep
    | exact fun _ => rfl | intro _ | split | dsimp only

theorem keeps_execRefGateComplete (nominal : Nat) (err : Int) {s t : State} (h : Keeps ko kq kc s)
    (ht : execRefGateComplete nominal err s = .next t) :
    Keeps ko kq kc t := by
  refine keeps_act (fun s h => ?_) h ht
  repeat' first
    | with_reducible first | assumption | apply keeps_gateComplete
    | exact fun _ => rfl | intro _ | split | dsimp only

theorem keeps_execRefEdgeTimeout  {s t : State} (h : Keeps ko kq kc s) (ht : execRefEdgeTimeout s = .next t) :
    Keeps ko kq kc t := by
  refine keeps_act (fun s h => ?_) h ht
  repeat' first
    | with_reducible first | assumption | apply keeps_loseReference
    | exact fun _ => rfl | intro _ | split | dsimp only

theorem keeps_execLockAchieved  {s t : State} (h : Keeps ko kq kc s) (ht : execLockAchieved s = .next t) :
    Keeps ko kq kc t := by
  refine keeps_act (fun s h => ?_) h ht
  repeat' first
    | with_reducible first | assumption | apply keeps_achieveLock
    | exact fun _ => rfl | intro _ | split | dsimp only

theorem keeps_execOperatingSecond  {s t : State} (h : Keeps ko kq kc s) (ht : execOperatingSecond s = .next t) :
    Keeps ko kq kc t := by
  refine keeps_act (fun s h => ?_) h ht
  repeat' first
    | with_reducible first | assumption | apply keeps_countUp
    | exact fun _ => rfl | intro _ | split | dsimp only
    | (show K _ _ _ _ _ _ _ _; dsimp only; with_reducible apply Keeps.k)

theorem keeps_execRelaySenseReached (ch relay : Nat) {s t : State} (h : Keeps ko kq kc s)
    (ht : execRelaySenseReached ch relay s = .next t) :
    Keeps ko kq kc t := by
  refine keeps_act (fun s h => ?_) h ht
  repeat' first
    | with_reducible first | assumption | apply keeps_relaySensed
    | exact fun _ => rfl | intro _ | split | dsimp only

theorem keeps_execRelayRetry (ch relay : Nat) {s t : State} (h : Keeps ko kq kc s)
    (ht : execRelayRetry ch relay s = .next t) :
    Keeps ko kq kc t := by
  refine keeps_act (fun s h => ?_) h ht
  repeat' first
    | with_reducible first | assumption | apply keeps_retryRelay
    | exact fun _ => rfl | intro _ | split | dsimp only

theorem keeps_execRelayFault (ch relay sensed : Nat) {s t : State} (h : Keeps ko kq kc s)
    (ht : execRelayFault ch relay sensed s = .next t) :
    Keeps ko kq kc t := by
  refine keeps_act (fun s h => ?_) h ht
  repeat' first
    | with_reducible first | assumption | apply keeps_relayFaulted
    | exact fun _ => rfl | intro _ | split | dsimp only

theorem keeps_execCalMeasurementDone (m : Measurement) {s t : State} (h : Keeps ko kq kc s)
    (ht : execCalMeasurementDone m s = .next t) :
    Keeps ko kq kc t := by
  refine keeps_act (fun s h => ?_) h ht
  repeat' first
    | with_reducible first | assumption | apply keeps_calMeasured
    | exact fun _ => rfl | intro _ | split | dsimp only

theorem keeps_execCalComputeDone (resid : List (Nat × List Byte)) {s t : State} (h : Keeps ko kq kc s)
    (ht : execCalComputeDone resid s = .next t) :
    Keeps ko kq kc t := by
  refine keeps_act (fun s h => ?_) h ht
  repeat' first
    | with_reducible first | assumption | apply keeps_calComputed
    | exact fun _ => rfl | intro _ | split | dsimp only

theorem keeps_execCalTurnEnd  {s t : State} (h : Keeps ko kq kc s) (ht : execCalTurnEnd s = .next t) :
    Keeps ko kq kc t := by
  refine keeps_act (fun s h => ?_) h ht
  repeat' first
    | with_reducible first | assumption | apply keeps_calTurnEnd
    | exact fun _ => rfl | intro _ | split | dsimp only

theorem keeps_execTrackerIntervalEnd (ch : Nat) (power : Bool) (ofs : List Int) (est : List Estimate) {s t : State}
    (h : Keeps ko kq kc s) (ht : execTrackerIntervalEnd ch power ofs est s = .next t) :
    Keeps ko kq kc t := by
  refine keeps_act (fun s h => ?_) h ht
  repeat' first
    | with_reducible first | assumption | apply keeps_trackerEnd
    | exact fun _ => rfl | intro _ | split | dsimp only

theorem keeps_execDriveLinkUp (d speed width : Nat) (nvme : Bool) {s t : State} (h : Keeps ko kq kc s)
    (ht : execDriveLinkUp d speed width nvme s = .next t) :
    Keeps ko kq kc t := by
  refine keeps_act (fun s h => ?_) h ht
  repeat' first
    | with_reducible first | assumption | apply keeps_driveLinkUp
    | exact fun _ => rfl | intro _ | split | dsimp only

theorem keeps_execDriveLinkTimeout (d : Nat) {s t : State} (h : Keeps ko kq kc s)
    (ht : execDriveLinkTimeout d s = .next t) :
    Keeps ko kq kc t := by
  refine keeps_act (fun s h => ?_) h ht
  repeat' first
    | with_reducible first | assumption | apply keeps_driveLinkTimeout
    | exact fun _ => rfl | intro _ | split | dsimp only

theorem keeps_execDriveReady (d : Nat) {s t : State} (h : Keeps ko kq kc s) (ht : execDriveReady d s = .next t) :
    Keeps ko kq kc t := by
  refine keeps_act (fun s h => ?_) h ht
  repeat' first
    | with_reducible first | assumption | apply keeps_driveReady
    | exact fun _ => rfl | intro _ | split | dsimp only

theorem keeps_execDriveReadyTimeout (d : Nat) {s t : State} (h : Keeps ko kq kc s)
    (ht : execDriveReadyTimeout d s = .next t) :
    Keeps ko kq kc t := by
  refine keeps_act (fun s h => ?_) h ht
  repeat' first
    | with_reducible first | assumption | apply keeps_driveReadyTimeout
    | exact fun _ => rfl | intro _ | split | dsimp only

theorem keeps_execIdentifyDone (d : Nat) (info : IdentifyInfo) {s t : State} (h : Keeps ko kq kc s)
    (ht : execIdentifyDone d info s = .next t) :
    Keeps ko kq kc t := by
  refine keeps_act (fun s h => ?_) h ht
  repeat' first
    | with_reducible first | assumption | apply keeps_identifyDone
    | exact fun _ => rfl | intro _ | split | dsimp only

theorem keeps_execLabelRead (labels : List (Nat × List (List Byte))) (entropy : Nat) {s t : State}
    (h : Keeps ko kq kc s) (ht : execLabelRead labels entropy s = .next t) :
    Keeps ko kq kc t := by
  refine keeps_act (fun s h => ?_) h ht
  repeat' first
    | with_reducible first | assumption | apply keeps_labelRead
    | exact fun _ => rfl | intro _ | split | dsimp only

theorem keeps_execDriveDmaAccess (d : Nat) (access : DriveAccess) {s t : State} (h : Keeps ko kq kc s)
    (ht : execDriveDmaAccess d access s = .next t) :
    Keeps ko kq kc t := by
  refine keeps_act (fun s h => ?_) h ht
  repeat' first
    | with_reducible first | assumption | apply keeps_driveAccess
    | exact fun _ => rfl | intro _ | split | dsimp only

theorem keeps_execStripeWrite (sleeve : Nat) {s t : State} (h : Keeps ko kq kc s)
    (ht : execStripeWrite sleeve s = .next t) :
    Keeps ko kq kc t := by
  refine keeps_act (fun s h => ?_) h ht
  repeat' first
    | with_reducible first | assumption | apply keeps_stripeWrite
    | exact fun _ => rfl | intro _ | split | dsimp only

theorem keeps_execNvmeCompletion (d id : Nat) (status : CompletionEntry) {s t : State} (h : Keeps ko kq kc s)
    (ht : execNvmeCompletion d id status s = .next t) :
    Keeps ko kq kc t := by
  refine keeps_act (fun s h => ?_) h ht
  repeat' first
    | with_reducible first | assumption | apply keeps_completion
    | exact fun _ => rfl | intro _ | split | dsimp only

theorem keeps_execNvmeCommandTimeout (d id : Nat) {s t : State} (h : Keeps ko kq kc s)
    (ht : execNvmeCommandTimeout d id s = .next t) :
    Keeps ko kq kc t := by
  refine keeps_act (fun s h => ?_) h ht
  repeat' first
    | with_reducible first | assumption | apply keeps_commandTimeout
    | exact fun _ => rfl | intro _ | split | dsimp only

theorem keeps_execDriveLinkLost (d : Nat) {s t : State} (h : Keeps ko kq kc s) (ht : execDriveLinkLost d s = .next t) :
    Keeps ko kq kc t := by
  refine keeps_act (fun s h => ?_) h ht
  repeat' first
    | with_reducible first | assumption | apply keeps_linkLost
    | exact fun _ => rfl | intro _ | split | dsimp only

theorem keeps_execConverterSample (ch : Nat) (codes : List Int) {s t : State} (h : Keeps ko kq kc s)
    (ht : execConverterSample ch codes s = .next t) :
    Keeps ko kq kc t := by
  refine keeps_act (fun s h => ?_) h ht
  repeat' first
    | with_reducible first | assumption | apply keeps_takeSamples
    | exact fun _ => rfl | intro _ | split | dsimp only

theorem keeps_execSliceClamp (ch slice : Nat) {s t : State} (h : Keeps ko kq kc s)
    (ht : execSliceClamp ch slice s = .next t) :
    Keeps ko kq kc t := by
  refine keeps_act (fun s h => ?_) h ht
  repeat' first
    | with_reducible first | assumption | apply keeps_takeClamp
    | exact fun _ => rfl | intro _ | split | dsimp only

theorem keeps_execDeepTrip (ch : Nat) {s t : State} (h : Keeps ko kq kc s) (ht : execDeepTrip ch s = .next t) :
    Keeps ko kq kc t := by
  refine keeps_act (fun s h => ?_) h ht
  repeat' first
    | with_reducible first | assumption | apply keeps_tripDeep
    | exact fun _ => rfl | intro _ | split | dsimp only

theorem keeps_execOverloadWindowEnd (ch : Nat) {s t : State} (h : Keeps ko kq kc s)
    (ht : execOverloadWindowEnd ch s = .next t) :
    Keeps ko kq kc t := by
  refine keeps_act (fun s h => ?_) h ht
  repeat' first
    | with_reducible first | assumption | apply keeps_endWindow
    | exact fun _ => rfl | intro _ | split | dsimp only

theorem keeps_execNeighbourAdjEnd (ch : Nat) {s t : State} (h : Keeps ko kq kc s)
    (ht : execNeighbourAdjEnd ch s = .next t) :
    Keeps ko kq kc t := by
  refine keeps_act (fun s h => ?_) h ht
  repeat' first
    | with_reducible first | assumption | apply keeps_endNeighbourAdj
    | exact fun _ => rfl | intro _ | split | dsimp only

theorem keeps_execAdjWindowEnd (ch : Nat) {s t : State} (h : Keeps ko kq kc s) (ht : execAdjWindowEnd ch s = .next t) :
    Keeps ko kq kc t := by
  refine keeps_act (fun s h => ?_) h ht
  repeat' first
    | with_reducible first | assumption | apply keeps_endAdjWindow
    | exact fun _ => rfl | intro _ | split | dsimp only

theorem keeps_execFrameStamp (stream : Nat) {s t : State} (h : Keeps ko kq kc s)
    (ht : execFrameStamp stream s = .next t) :
    Keeps ko kq kc t := by
  refine keeps_act (fun s h => ?_) h ht
  repeat' first
    | with_reducible first | assumption | apply keeps_stampFrame | apply keeps_afterWrite
    | exact fun _ => rfl | intro _ | split | dsimp only

theorem keeps_execSleeveBlockWrite (sleeve time : Nat) (data : List Byte) {s t : State} (h : Keeps ko kq kc s)
    (ht : execSleeveBlockWrite sleeve time data s = .next t) :
    Keeps ko kq kc t := by
  refine keeps_act (fun s h => ?_) h ht
  repeat' first
    | with_reducible first | assumption | apply keeps_blockWrite
    | exact fun _ => rfl | intro _ | split | dsimp only

theorem keeps_execWriterResume (sleeve : Nat) {s t : State} (h : Keeps ko kq kc s)
    (ht : execWriterResume sleeve s = .next t) :
    Keeps ko kq kc t := by
  refine keeps_act (fun s h => ?_) h ht
  repeat' first
    | with_reducible first | assumption | apply keeps_resumeWriter
    | exact fun _ => rfl | intro _ | split | dsimp only

theorem keeps_execTraceFrame (d : Nat) {s t : State} (h : Keeps ko kq kc s) (ht : execTraceFrame d s = .next t) :
    Keeps ko kq kc t := by
  refine keeps_act (fun s h => ?_) h ht
  repeat' first
    | with_reducible first | assumption | apply keeps_traceFrame
    | exact fun _ => rfl | intro _ | split | dsimp only

theorem keeps_execTraceIntervalClose (d : Nat) {s t : State} (h : Keeps ko kq kc s)
    (ht : execTraceIntervalClose d s = .next t) :
    Keeps ko kq kc t := by
  refine keeps_act (fun s h => ?_) h ht
  repeat' first
    | with_reducible first | assumption | apply keeps_afterWrite | apply keeps_traceClose
    | exact fun _ => rfl | intro _ | split | dsimp only

theorem keeps_execDensityFrame (p : Nat) {s t : State} (h : Keeps ko kq kc s) (ht : execDensityFrame p s = .next t) :
    Keeps ko kq kc t := by
  refine keeps_act (fun s h => ?_) h ht
  repeat' first
    | with_reducible first | assumption | apply keeps_densityFrame
    | exact fun _ => rfl | intro _ | split | dsimp only

theorem keeps_execExposureClose (p : Nat) {s t : State} (h : Keeps ko kq kc s) (ht : execExposureClose p s = .next t) :
    Keeps ko kq kc t := by
  refine keeps_act (fun s h => ?_) h ht
  repeat' first
    | with_reducible first | assumption | apply keeps_exposureClose
    | exact fun _ => rfl | intro _ | split | dsimp only

theorem keeps_execCopyPassStart (p : Nat) {s t : State} (h : Keeps ko kq kc s) (ht : execCopyPassStart p s = .next t) :
    Keeps ko kq kc t := by
  refine keeps_act (fun s h => ?_) h ht
  repeat' first
    | with_reducible first | assumption | apply keeps_afterWrite | apply keeps_copyStart
    | exact fun _ => rfl | intro _ | split | dsimp only

theorem keeps_execCopyPassEnd (p : Nat) {s t : State} (h : Keeps ko kq kc s) (ht : execCopyPassEnd p s = .next t) :
    Keeps ko kq kc t := by
  refine keeps_act (fun s h => ?_) h ht
  repeat' first
    | with_reducible first | assumption | apply keeps_copyEnd
    | exact fun _ => rfl | intro _ | split | dsimp only

theorem keeps_execContextInputRow (c : Nat) {s t : State} (h : Keeps ko kq kc s)
    (ht : execContextInputRow c s = .next t) :
    Keeps ko kq kc t := by
  refine keeps_act (fun s h => ?_) h ht
  repeat' first
    | with_reducible first | assumption | apply keeps_contextRow
    | exact fun _ => rfl | intro _ | split | dsimp only

theorem keeps_execContextInputLoss (c _rows : Nat) {s t : State} (h : Keeps ko kq kc s)
    (ht : execContextInputLoss c _rows s = .next t) :
    Keeps ko kq kc t := by
  refine keeps_act (fun s h => ?_) h ht
  repeat' first
    | with_reducible first | assumption | apply keeps_contextLoss
    | exact fun _ => rfl | intro _ | split | dsimp only

theorem keeps_execSettlingComplete (c : Nat) {s t : State} (h : Keeps ko kq kc s)
    (ht : execSettlingComplete c s = .next t) :
    Keeps ko kq kc t := by
  refine keeps_act (fun s h => ?_) h ht
  repeat' first
    | with_reducible first | assumption | apply keeps_settle_
    | exact fun _ => rfl | intro _ | split | dsimp only

theorem keeps_execCrossfadeEnd (c : Nat) {s t : State} (h : Keeps ko kq kc s) (ht : execCrossfadeEnd c s = .next t) :
    Keeps ko kq kc t := by
  refine keeps_act (fun s h => ?_) h ht
  repeat' first
    | with_reducible first | assumption | apply keeps_endFade
    | exact fun _ => rfl | intro _ | split | dsimp only

theorem keeps_execDetectorIntervalClose (c : Nat) {s t : State} (h : Keeps ko kq kc s)
    (ht : execDetectorIntervalClose c s = .next t) :
    Keeps ko kq kc t := by
  refine keeps_act (fun s h => ?_) h ht
  repeat' first
    | with_reducible first | assumption | apply keeps_closeDet
    | exact fun _ => rfl | intro _ | split | dsimp only

theorem keeps_execIqRecordClose (c : Nat) {s t : State} (h : Keeps ko kq kc s) (ht : execIqRecordClose c s = .next t) :
    Keeps ko kq kc t := by
  refine keeps_act (fun s h => ?_) h ht
  repeat' first
    | with_reducible first | assumption | apply keeps_closeIq
    | exact fun _ => rfl | intro _ | split | dsimp only

theorem keeps_execContextRecordWrite (c : Nat) {s t : State} (h : Keeps ko kq kc s)
    (ht : execContextRecordWrite c s = .next t) :
    Keeps ko kq kc t := by
  refine keeps_act (fun s h => ?_) h ht
  repeat' first
    | with_reducible first | assumption | apply keeps_offerRecord
    | exact fun _ => rfl | intro _ | split | dsimp only

theorem keeps_execFallbackToleranceExpiry (c : Nat) {s t : State} (h : Keeps ko kq kc s)
    (ht : execFallbackToleranceExpiry c s = .next t) :
    Keeps ko kq kc t := by
  refine keeps_act (fun s h => ?_) h ht
  repeat' first
    | with_reducible first | assumption | apply keeps_toleranceExpiry
    | exact fun _ => rfl | intro _ | split | dsimp only

theorem keeps_execFallbackExit (c : Nat) {s t : State} (h : Keeps ko kq kc s) (ht : execFallbackExit c s = .next t) :
    Keeps ko kq kc t := by
  refine keeps_act (fun s h => ?_) h ht
  repeat' first
    | with_reducible first | assumption | apply keeps_fallbackExit
    | exact fun _ => rfl | intro _ | split | dsimp only

theorem keeps_execLiveShadowWrite (n : Nat) (v : Word) {s t : State} (h : Keeps ko kq kc s)
    (ht : execLiveShadowWrite n v s = .next t) :
    Keeps ko kq kc t := by
  refine keeps_act (fun s h => ?_) h ht
  repeat' first
    | with_reducible first | assumption | apply keeps_liveWrite
    | exact fun _ => rfl | intro _ | split | dsimp only

theorem keeps_execLiveCommit (v : Word) {s t : State} (h : Keeps ko kq kc s) (ht : execLiveCommit v s = .next t) :
    Keeps ko kq kc t := by
  refine keeps_act (fun s h => ?_) h ht
  repeat' first
    | with_reducible first | assumption | apply keeps_liveCommit
    | exact fun _ => rfl | intro _ | split | dsimp only

theorem keeps_execLiveRangeCheckDone  {s t : State} (h : Keeps ko kq kc s) (ht : execLiveRangeCheckDone s = .next t) :
    Keeps ko kq kc t := by
  refine keeps_act (fun s h => ?_) h ht
  repeat' first
    | with_reducible first | assumption | apply keeps_rangeChecked
    | exact fun _ => rfl | intro _ | split | dsimp only

theorem keeps_execSeamStart  {s t : State} (h : Keeps ko kq kc s) (ht : execSeamStart s = .next t) :
    Keeps ko kq kc t := by
  refine keeps_act (fun s h => ?_) h ht
  repeat' first
    | with_reducible first | assumption | apply keeps_seamStart
    | exact fun _ => rfl | intro _ | split | dsimp only

theorem keeps_execSeamEnd  {s t : State} (h : Keeps ko kq kc s) (ht : execSeamEnd s = .next t) :
    Keeps ko kq kc t := by
  refine keeps_act (fun s h => ?_) h ht
  repeat' first
    | with_reducible first | assumption | apply keeps_seamEnd
    | exact fun _ => rfl | intro _ | split | dsimp only

theorem keeps_execEventEdge (n : Nat) (rising : Bool) (code : Nat) {s t : State} (h : Keeps ko kq kc s)
    (ht : execEventEdge n rising code s = .next t) :
    Keeps ko kq kc t := by
  refine keeps_act (fun s h => ?_) h ht
  repeat' first
    | with_reducible first | assumption | apply keeps_eventEdge
    | exact fun _ => rfl | intro _ | split | dsimp only

theorem keeps_execTiuCal (v : Word) {s t : State} (h : Keeps ko kq kc s) (ht : execTiuCal v s = .next t) :
    Keeps ko kq kc t := by
  refine keeps_act (fun s h => ?_) h ht
  repeat' first
    | with_reducible first | assumption | apply keeps_startCal
    | exact fun _ => rfl | intro _ | split | dsimp only

theorem keeps_execTiuCalDone (n : Nat) (hits : List Nat) {s t : State} (h : Keeps ko kq kc s)
    (ht : execTiuCalDone n hits s = .next t) :
    Keeps ko kq kc t := by
  refine keeps_act (fun s h => ?_) h ht
  repeat' first
    | with_reducible first | assumption | apply keeps_calDone
    | exact fun _ => rfl | intro _ | split | dsimp only

theorem keeps_execFrequencyGateEnd (n : Nat) {s t : State} (h : Keeps ko kq kc s)
    (ht : execFrequencyGateEnd n s = .next t) :
    Keeps ko kq kc t := by
  refine keeps_act (fun s h => ?_) h ht
  repeat' first
    | with_reducible first | assumption | apply keeps_gateEnd
    | exact fun _ => rfl | intro _ | split | dsimp only

theorem keeps_execThrSettleEnd (n : Nat) {s t : State} (h : Keeps ko kq kc s) (ht : execThrSettleEnd n s = .next t) :
    Keeps ko kq kc t := by
  refine keeps_act (fun s h => ?_) h ht
  repeat' first
    | with_reducible first | assumption | apply keeps_mInput
    | exact fun _ => rfl | intro _ | split | dsimp only

theorem keeps_execOutputPulseEnd (o : Nat) {s t : State} (h : Keeps ko kq kc s)
    (ht : execOutputPulseEnd o s = .next t) :
    Keeps ko kq kc t := by
  refine keeps_act (fun s h => ?_) h ht
  repeat' first
    | with_reducible first | assumption | apply keeps_endPulse
    | exact fun _ => rfl | intro _ | split | dsimp only

theorem keeps_execTiuRecordWrite (n : Nat) {s t : State} (h : Keeps ko kq kc s)
    (ht : execTiuRecordWrite n s = .next t) :
    Keeps ko kq kc t := by
  refine keeps_act (fun s h => ?_) h ht
  repeat' first
    | with_reducible first | assumption | apply keeps_checkCaptures | apply keeps_recordWrite
    | exact fun _ => rfl | intro _ | split | dsimp only

theorem keeps_execFunctionStopAtSeam  {s t : State} (h : Keeps ko kq kc s) (ht : execFunctionStopAtSeam s = .next t) :
    Keeps ko kq kc t := by
  refine keeps_act (fun s h => ?_) h ht
  repeat' first
    | with_reducible first | assumption | apply keeps_stopAtSeam
    | exact fun _ => rfl | intro _ | split | dsimp only

theorem keeps_execNvmeDrainDone  {s t : State} (h : Keeps ko kq kc s) (ht : execNvmeDrainDone s = .next t) :
    Keeps ko kq kc t := by
  refine keeps_act (fun s h => ?_) h ht
  repeat' first
    | with_reducible first | assumption | apply keeps_drained
    | exact fun _ => rfl | intro _ | split | dsimp only

theorem keeps_execNvmeDrainTimeout  {s t : State} (h : Keeps ko kq kc s) (ht : execNvmeDrainTimeout s = .next t) :
    Keeps ko kq kc t := by
  refine keeps_act (fun s h => ?_) h ht
  repeat' first
    | with_reducible first | assumption | apply keeps_drained
    | exact fun _ => rfl | intro _ | split | dsimp only

theorem keeps_execVolumeCloseDone  {s t : State} (h : Keeps ko kq kc s) (ht : execVolumeCloseDone s = .next t) :
    Keeps ko kq kc t := by
  refine keeps_act (fun s h => ?_) h ht
  repeat' first
    | with_reducible first | assumption | apply keeps_volumeClosed
    | exact fun _ => rfl | intro _ | split | dsimp only

theorem keeps_execVolumeCloseTimeout  {s t : State} (h : Keeps ko kq kc s) (ht : execVolumeCloseTimeout s = .next t) :
    Keeps ko kq kc t := by
  refine keeps_act (fun s h => ?_) h ht
  repeat' first
    | with_reducible first | assumption | apply keeps_volumeClosed
    | exact fun _ => rfl | intro _ | split | dsimp only

theorem keeps_execStoreZeroed  {s t : State} (h : Keeps ko kq kc s) (ht : execStoreZeroed s = .next t) :
    Keeps ko kq kc t := by
  refine keeps_act (fun s h => ?_) h ht
  repeat' first
    | with_reducible first | assumption | apply keeps_storeZeroed
    | exact fun _ => rfl | intro _ | split | dsimp only

theorem keeps_execFunctionStart (info : StartInfo) {s t : State} (h : Keeps ko kq kc s)
    (ht : execFunctionStart info s = .next t) :
    Keeps ko kq kc t := by
  refine keeps_act (fun s h => ?_) h ht
  repeat' first
    | with_reducible first | assumption | apply keeps_functionStart
    | exact fun _ => rfl | intro _ | split | dsimp only

theorem keeps_execSupplyValid (vaux : Bool) (straps : Nat) (testEn : Bool) {s t : State} (h : Keeps ko kq kc s)
    (ht : execSupplyValid vaux straps testEn s = .next t) :
    Keeps ko kq kc t := by
  refine keeps_act (fun s h => ?_) h ht
  repeat' first
    | with_reducible first | assumption | apply keeps_supplyValid
    | exact fun _ => rfl | intro _ | split | dsimp only

theorem keeps_execSupplyInvalid (vaux : Bool) {s t : State} (h : Keeps ko kq kc s)
    (ht : execSupplyInvalid vaux s = .next t) :
    Keeps ko kq kc t := by
  refine keeps_act (fun s h => ?_) h ht
  repeat' first
    | with_reducible first | assumption | apply keeps_supplyInvalid
    | exact fun _ => rfl | intro _ | split | dsimp only

theorem keeps_execStbyHigh  {s t : State} (h : Keeps ko kq kc s) (ht : execStbyHigh s = .next t) :
    Keeps ko kq kc t := by
  refine keeps_act (fun s h => ?_) h ht
  repeat' first
    | with_reducible first | assumption | apply keeps_stbyHigh
    | exact fun _ => rfl | intro _ | split | dsimp only

theorem keeps_execStbyLow (straps : Nat) (testEn : Bool) {s t : State} (h : Keeps ko kq kc s)
    (ht : execStbyLow straps testEn s = .next t) :
    Keeps ko kq kc t := by
  refine keeps_act (fun s h => ?_) h ht
  repeat' first
    | with_reducible first | assumption | apply keeps_stbyLow
    | exact fun _ => rfl | intro _ | split | dsimp only

theorem keeps_execStandbyRailsOff  {s t : State} (h : Keeps ko kq kc s) (ht : execStandbyRailsOff s = .next t) :
    Keeps ko kq kc t := by
  refine keeps_act (fun s h => ?_) h ht
  repeat' first
    | with_reducible first | assumption | apply keeps_standbyOff
    | exact fun _ => rfl | intro _ | split | dsimp only

theorem keeps_execRailGroupInRegulation (group : Nat) {s t : State} (h : Keeps ko kq kc s)
    (ht : execRailGroupInRegulation group s = .next t) :
    Keeps ko kq kc t := by
  refine keeps_act (fun s h => ?_) h ht
  repeat' first
    | with_reducible first | assumption | apply keeps_groupUp
    | exact fun _ => rfl | intro _ | split | dsimp only

theorem keeps_execRailFault (group input : Nat) {s t : State} (h : Keeps ko kq kc s)
    (ht : execRailFault group input s = .next t) :
    Keeps ko kq kc t := by
  refine keeps_act (fun s h => ?_) h ht
  repeat' first
    | with_reducible first | assumption | apply keeps_railFault
    | exact fun _ => rfl | intro _ | split | dsimp only

theorem keeps_execOvenOscillatorRuns (mramOk : Bool) (found : MramFound) {s t : State} (h : Keeps ko kq kc s)
    (ht : execOvenOscillatorRuns mramOk found s = .next t) :
    Keeps ko kq kc t := by
  refine keeps_act (fun s h => ?_) h ht
  repeat' first
    | with_reducible first | assumption | apply keeps_ovenRuns
    | exact fun _ => rfl | intro _ | split | dsimp only

theorem keeps_execRootSynthLock  {s t : State} (h : Keeps ko kq kc s) (ht : execRootSynthLock s = .next t) :
    Keeps ko kq kc t := by
  refine keeps_act (fun s h => ?_) h ht
  repeat' first
    | with_reducible first | assumption | apply keeps_rootLocks
    | exact fun _ => rfl | intro _ | split | dsimp only

theorem keeps_execStoreTrainingDone (ok0 ok1 : Bool) {s t : State} (h : Keeps ko kq kc s)
    (ht : execStoreTrainingDone ok0 ok1 s = .next t) :
    Keeps ko kq kc t := by
  refine keeps_act (fun s h => ?_) h ht
  repeat' first
    | with_reducible first | assumption | apply keeps_trainingDone
    | exact fun _ => rfl | intro _ | split | dsimp only

theorem keeps_execRestartRequest (v : Word) {s t : State} (h : Keeps ko kq kc s)
    (ht : execRestartRequest v s = .next t) :
    Keeps ko kq kc t := by
  refine keeps_act (fun s h => ?_) h ht
  repeat' first
    | with_reducible first | assumption | apply keeps_restartAsked | apply keeps_guarded
    | exact fun _ => rfl | intro _ | split | dsimp only

theorem keeps_execRootUnlock  {s t : State} (h : Keeps ko kq kc s) (ht : execRootUnlock s = .next t) :
    Keeps ko kq kc t := by
  refine keeps_act (fun s h => ?_) h ht
  repeat' first
    | with_reducible first | assumption | apply keeps_rootLost
    | exact fun _ => rfl | intro _ | split | dsimp only

theorem keeps_execRootRelock  {s t : State} (h : Keeps ko kq kc s) (ht : execRootRelock s = .next t) :
    Keeps ko kq kc t := by
  refine keeps_act (fun s h => ?_) h ht
  repeat' first
    | with_reducible first | assumption | apply keeps_rootBack
    | exact fun _ => rfl | intro _ | split | dsimp only

theorem keeps_execRootRelockTimeout  {s t : State} (h : Keeps ko kq kc s) (ht : execRootRelockTimeout s = .next t) :
    Keeps ko kq kc t := by
  refine keeps_act (fun s h => ?_) h ht
  repeat' first
    | with_reducible first | assumption | apply keeps_rootGivenUp
    | exact fun _ => rfl | intro _ | split | dsimp only

theorem keeps_execLogRecordWritten (verify copyVerify stateVerify : Bool) {s t : State} (h : Keeps ko kq kc s)
    (ht : execLogRecordWritten verify copyVerify stateVerify s = .next t) :
    Keeps ko kq kc t := by
  refine keeps_act (fun s h => ?_) h ht
  repeat' first
    | with_reducible first | assumption | apply keeps_recordWritten
    | exact fun _ => rfl | intro _ | split | dsimp only

theorem keeps_execMramTimeout  {s t : State} (h : Keeps ko kq kc s) (ht : execMramTimeout s = .next t) :
    Keeps ko kq kc t := by
  refine keeps_act (fun s h => ?_) h ht
  repeat' first
    | with_reducible first | assumption | apply keeps_mramSilent
    | exact fun _ => rfl | intro _ | split | dsimp only

theorem keeps_execFreezeTimeout  {s t : State} (h : Keeps ko kq kc s) (ht : execFreezeTimeout s = .next t) :
    Keeps ko kq kc t := by
  refine keeps_act (fun s h => ?_) h ht
  repeat' first
    | with_reducible first | assumption | apply keeps_endFreeze
    | exact fun _ => rfl | intro _ | split | dsimp only

theorem keeps_execFallbackProgram  {s t : State} (h : Keeps ko kq kc s) (ht : execFallbackProgram s = .next t) :
    Keeps ko kq kc t := by
  refine keeps_act (fun s h => ?_) h ht
  repeat' first
    | with_reducible first | assumption | apply keeps_programFallback
    | exact fun _ => rfl | intro _ | split | dsimp only

theorem keeps_execInputTrip  {s t : State} (h : Keeps ko kq kc s) (ht : execInputTrip s = .next t) :
    Keeps ko kq kc t := by
  refine keeps_act (fun s h => ?_) h ht
  repeat' first
    | with_reducible first | assumption | apply keeps_hardOff
    | exact fun _ => rfl | intro _ | split | dsimp only

theorem keeps_execThermalShutdown  {s t : State} (h : Keeps ko kq kc s) (ht : execThermalShutdown s = .next t) :
    Keeps ko kq kc t := by
  refine keeps_act (fun s h => ?_) h ht
  repeat' first
    | with_reducible first | assumption | apply keeps_hardOff
    | exact fun _ => rfl | intro _ | split | dsimp only

theorem keeps_execRailFaultRecordWaitExpiry  {s t : State} (h : Keeps ko kq kc s)
    (ht : execRailFaultRecordWaitExpiry s = .next t) :
    Keeps ko kq kc t := by
  refine keeps_act (fun s h => ?_) h ht
  repeat' first
    | with_reducible first | assumption | apply keeps_endStaged
    | exact fun _ => rfl | intro _ | split | dsimp only

theorem keeps_execBootPointerRead (flash : FlashInfo) (copy0 copy1 : Option (List Byte)) {s t : State}
    (h : Keeps ko kq kc s) (ht : execBootPointerRead flash copy0 copy1 s = .next t) :
    Keeps ko kq kc t := by
  refine keeps_act (fun s h => ?_) h ht
  repeat' first
    | with_reducible first | assumption | apply keeps_readPointer
    | exact fun _ => rfl | intro _ | split | dsimp only

theorem keeps_execBoardRecordRead (data : Option (List Byte)) {s t : State} (h : Keeps ko kq kc s)
    (ht : execBoardRecordRead data s = .next t) :
    Keeps ko kq kc t := by
  refine keeps_act (fun s h => ?_) h ht
  repeat' first
    | with_reducible first | assumption | apply keeps_readBoard
    | exact fun _ => rfl | intro _ | split | dsimp only

theorem keeps_execImageHeaderRead (data : Option (List Byte)) {s t : State} (h : Keeps ko kq kc s)
    (ht : execImageHeaderRead data s = .next t) :
    Keeps ko kq kc t := by
  refine keeps_act (fun s h => ?_) h ht
  repeat' first
    | with_reducible first | assumption | apply keeps_headerRead
    | exact fun _ => rfl | intro _ | split | dsimp only

theorem keeps_execImageBodyRead (data : Option (List Byte)) (firmwareOk : Bool) {s t : State}
    (h : Keeps ko kq kc s) (ht : execImageBodyRead data firmwareOk s = .next t) :
    Keeps ko kq kc t := by
  refine keeps_act (fun s h => ?_) h ht
  repeat' first
    | with_reducible first | assumption | apply keeps_bodyRead
    | exact fun _ => rfl | intro _ | split | dsimp only

theorem keeps_execFlashNoAnswer  {s t : State} (h : Keeps ko kq kc s) (ht : execFlashNoAnswer s = .next t) :
    Keeps ko kq kc t := by
  refine keeps_act (fun s h => ?_) h ht
  repeat' first
    | with_reducible first | assumption | apply keeps_flashSilent
    | exact fun _ => rfl | intro _ | split | dsimp only

theorem keeps_execPwrInUpdate (power : Nat) {s t : State} (h : Keeps ko kq kc s)
    (ht : execPwrInUpdate power s = .next t) :
    Keeps ko kq kc t := by
  refine keeps_act (fun s h => ?_) h ht
  repeat' first
    | with_reducible first | assumption | apply keeps_pwrInUpdate
    | exact fun _ => rfl | intro _ | split | dsimp only

theorem keeps_execSlackLow (slack : Nat) {s t : State} (h : Keeps ko kq kc s) (ht : execSlackLow slack s = .next t) :
    Keeps ko kq kc t := by
  refine keeps_act (fun s h => ?_) h ht
  repeat' first
    | with_reducible first | assumption | apply keeps_slackLow
    | exact fun _ => rfl | intro _ | split | dsimp only

theorem keeps_execAvsLower (slack : Nat) {s t : State} (h : Keeps ko kq kc s) (ht : execAvsLower slack s = .next t) :
    Keeps ko kq kc t := by
  refine keeps_act (fun s h => ?_) h ht
  repeat' first
    | with_reducible first | assumption | apply keeps_avsLower
    | exact fun _ => rfl | intro _ | split | dsimp only

theorem keeps_execMonPassStart  {s t : State} (h : Keeps ko kq kc s) (ht : execMonPassStart s = .next t) :
    Keeps ko kq kc t := by
  refine keeps_act (fun s h => ?_) h ht
  repeat' first
    | with_reducible first | assumption | apply keeps_monPassStart
    | exact fun _ => rfl | intro _ | split | dsimp only

theorem keeps_execMonEntryStart  {s t : State} (h : Keeps ko kq kc s) (ht : execMonEntryStart s = .next t) :
    Keeps ko kq kc t := by
  refine keeps_act (fun s h => ?_) h ht
  repeat' first
    | with_reducible first | assumption | apply keeps_monEntryStart
    | exact fun _ => rfl | intro _ | split | dsimp only

theorem keeps_execMonStartTimeout  {s t : State} (h : Keeps ko kq kc s) (ht : execMonStartTimeout s = .next t) :
    Keeps ko kq kc t := by
  refine keeps_act (fun s h => ?_) h ht
  repeat' first
    | with_reducible first | assumption | apply keeps_monStartTimeout
    | exact fun _ => rfl | intro _ | split | dsimp only

theorem keeps_execMonEntryEnd (a b : List Nat) {s t : State} (h : Keeps ko kq kc s)
    (ht : execMonEntryEnd a b s = .next t) :
    Keeps ko kq kc t := by
  refine keeps_act (fun s h => ?_) h ht
  repeat' first
    | with_reducible first | assumption | apply keeps_monEntryEnd
    | exact fun _ => rfl | intro _ | split | dsimp only

theorem keeps_execMonUrgentGo (v : Word) {s t : State} (h : Keeps ko kq kc s) (ht : execMonUrgentGo v s = .next t) :
    Keeps ko kq kc t := by
  refine keeps_act (fun s h => ?_) h ht
  repeat' first
    | with_reducible first | assumption | apply keeps_monUrgent
    | exact fun _ => rfl | intro _ | split | dsimp only

theorem keeps_execUrgentConversionDone (a b : Nat) {s t : State} (h : Keeps ko kq kc s)
    (ht : execUrgentConversionDone a b s = .next t) :
    Keeps ko kq kc t := by
  refine keeps_act (fun s h => ?_) h ht
  repeat' first
    | with_reducible first | assumption | apply keeps_urgentDone
    | exact fun _ => rfl | intro _ | split | dsimp only

theorem keeps_execHostLinkReady (speed width : Nat) (flit : Bool) {s t : State} (h : Keeps ko kq kc s)
    (ht : execHostLinkReady speed width flit s = .next t) :
    Keeps ko kq kc t := by
  refine keeps_act (fun s h => ?_) h ht
  repeat' first
    | with_reducible first | assumption | apply keeps_linkReady
    | exact fun _ => rfl | intro _ | split | dsimp only

theorem keeps_execConfigRequest (write : Option Word) (dword : Nat) {s t : State} (h : Keeps ko kq kc s)
    (ht : execConfigRequest write dword s = .next t) :
    Keeps ko kq kc t := by
  refine keeps_act (fun s h => ?_) h ht
  repeat' first
    | with_reducible first | assumption | apply keeps_configRequest
    | exact fun _ => rfl | intro _ | split | dsimp only

theorem keeps_execPerstRelease  {s t : State} (h : Keeps ko kq kc s) (ht : execPerstRelease s = .next t) :
    Keeps ko kq kc t := by
  refine keeps_act (fun s h => ?_) h ht
  repeat' first
    | with_reducible first | assumption | apply keeps_perstReleased
    | exact fun _ => rfl | intro _ | split | dsimp only

theorem keeps_execPerstAssert  {s t : State} (h : Keeps ko kq kc s) (ht : execPerstAssert s = .next t) :
    Keeps ko kq kc t := by
  refine keeps_act (fun s h => ?_) h ht
  repeat' first
    | with_reducible first | assumption | apply keeps_perstAsserted
    | exact fun _ => rfl | intro _ | split | dsimp only

theorem keeps_execHotReset  {s t : State} (h : Keeps ko kq kc s) (ht : execHotReset s = .next t) :
    Keeps ko kq kc t := by
  refine keeps_act (fun s h => ?_) h ht
  repeat' first
    | with_reducible first | assumption | apply keeps_hotReset
    | exact fun _ => rfl | intro _ | split | dsimp only

theorem keeps_execFunctionLevelReset  {s t : State} (h : Keeps ko kq kc s) (ht : execFunctionLevelReset s = .next t) :
    Keeps ko kq kc t := by
  refine keeps_act (fun s h => ?_) h ht
  repeat' first
    | with_reducible first | assumption | apply keeps_functionReset
    | exact fun _ => rfl | intro _ | split | dsimp only

theorem keeps_execLinkDown  {s t : State} (h : Keeps ko kq kc s) (ht : execLinkDown s = .next t) :
    Keeps ko kq kc t := by
  refine keeps_act (fun s h => ?_) h ht
  repeat' first
    | with_reducible first | assumption | apply keeps_hostLinkLost
    | exact fun _ => rfl | intro _ | split | dsimp only

theorem keeps_execD3hotEntry  {s t : State} (h : Keeps ko kq kc s) (ht : execD3hotEntry s = .next t) :
    Keeps ko kq kc t := by
  refine keeps_act (fun s h => ?_) h ht
  repeat' first
    | with_reducible first | assumption | apply keeps_enterD3
    | exact fun _ => rfl | intro _ | split | dsimp only

theorem keeps_execUnsupportedRequest (_addr : Nat) {s t : State} (h : Keeps ko kq kc s)
    (ht : execUnsupportedRequest _addr s = .next t) :
    Keeps ko kq kc t := by
  refine keeps_act (fun s h => ?_) h ht
  repeat' first
    | with_reducible first | assumption | apply keeps_unsupported
    | exact fun _ => rfl | intro _ | split | dsimp only

theorem keeps_execStatSummaryRead  {s t : State} (h : Keeps ko kq kc s) (ht : execStatSummaryRead s = .next t) :
    Keeps ko kq kc t := by
  refine keeps_act (fun s h => ?_) h ht
  repeat' first
    | with_reducible first | assumption | apply keeps_summaryRead
    | exact fun _ => rfl | intro _ | split | dsimp only

theorem keeps_execStatGrpRead (n : Nat) {s t : State} (h : Keeps ko kq kc s) (ht : execStatGrpRead n s = .next t) :
    Keeps ko kq kc t := by
  refine keeps_act (fun s h => ?_) h ht
  repeat' first
    | with_reducible first | assumption | apply keeps_groupRead
    | exact fun _ => rfl | intro _ | split | dsimp only

theorem keeps_execKeyUnlockWrite (v : Word) {s t : State} (h : Keeps ko kq kc s)
    (ht : execKeyUnlockWrite v s = .next t) :
    Keeps ko kq kc t := by
  refine keeps_act (fun s h => ?_) h ht
  repeat' first
    | with_reducible first | assumption | apply keeps_keyUnlock
    | exact fun _ => rfl | intro _ | split | dsimp only

theorem keeps_execPlacketTimeout  {s t : State} (h : Keeps ko kq kc s) (ht : execPlacketTimeout s = .next t) :
    Keeps ko kq kc t := by
  refine keeps_act (fun s h => ?_) h ht
  repeat' first
    | with_reducible first | assumption | apply keeps_placketOver
    | exact fun _ => rfl | intro _ | split | dsimp only

theorem keeps_execSnapTake (v : Word) {s t : State} (h : Keeps ko kq kc s) (ht : execSnapTake v s = .next t) :
    Keeps ko kq kc t := by
  refine keeps_act (fun s h => ?_) h ht
  repeat' first
    | with_reducible first | assumption | apply keeps_snapTake
    | exact fun _ => rfl | intro _ | split | dsimp only

theorem keeps_execNop (kg : Bool) {s t : State} (h : Keeps ko kq kc s) (ht : execNop kg s = .next t) :
    Keeps ko kq kc t := by
  refine keeps_act (fun s h => ?_) h ht
  repeat' first
    | with_reducible first | assumption | apply keeps_doorbell
    | exact fun _ => rfl | intro _ | split | dsimp only

theorem keeps_execGetState (kg : Bool) {s t : State} (h : Keeps ko kq kc s) (ht : execGetState kg s = .next t) :
    Keeps ko kq kc t := by
  refine keeps_act (fun s h => ?_) h ht
  repeat' first
    | with_reducible first | assumption | apply keeps_doorbell
    | exact fun _ => rfl | intro _ | split | dsimp only

theorem keeps_execFlashInfo (kg : Bool) {s t : State} (h : Keeps ko kq kc s) (ht : execFlashInfo kg s = .next t) :
    Keeps ko kq kc t := by
  refine keeps_act (fun s h => ?_) h ht
  repeat' first
    | with_reducible first | assumption | apply keeps_doorbell
    | exact fun _ => rfl | intro _ | split | dsimp only

theorem keeps_execFlashRead (kg : Bool) {s t : State} (h : Keeps ko kq kc s) (ht : execFlashRead kg s = .next t) :
    Keeps ko kq kc t := by
  refine keeps_act (fun s h => ?_) h ht
  repeat' first
    | with_reducible first | assumption | apply keeps_doorbell
    | exact fun _ => rfl | intro _ | split | dsimp only

theorem keeps_execFlashErase (kg : Bool) {s t : State} (h : Keeps ko kq kc s) (ht : execFlashErase kg s = .next t) :
    Keeps ko kq kc t := by
  refine keeps_act (fun s h => ?_) h ht
  repeat' first
    | with_reducible first | assumption | apply keeps_doorbell
    | exact fun _ => rfl | intro _ | split | dsimp only

theorem keeps_execFlashProgram (kg : Bool) {s t : State} (h : Keeps ko kq kc s) (ht : execFlashProgram kg s = .next t) :
    Keeps ko kq kc t := by
  refine keeps_act (fun s h => ?_) h ht
  repeat' first
    | with_reducible first | assumption | apply keeps_doorbell
    | exact fun _ => rfl | intro _ | split | dsimp only

theorem keeps_execBoardRead (kg : Bool) {s t : State} (h : Keeps ko kq kc s) (ht : execBoardRead kg s = .next t) :
    Keeps ko kq kc t := by
  refine keeps_act (fun s h => ?_) h ht
  repeat' first
    | with_reducible first | assumption | apply keeps_doorbell
    | exact fun _ => rfl | intro _ | split | dsimp only

theorem keeps_execKsWrite (kg : Bool) {s t : State} (h : Keeps ko kq kc s) (ht : execKsWrite kg s = .next t) :
    Keeps ko kq kc t := by
  refine keeps_act (fun s h => ?_) h ht
  repeat' first
    | with_reducible first | assumption | apply keeps_doorbell
    | exact fun _ => rfl | intro _ | split | dsimp only

theorem keeps_execKsRevoke (kg : Bool) {s t : State} (h : Keeps ko kq kc s) (ht : execKsRevoke kg s = .next t) :
    Keeps ko kq kc t := by
  refine keeps_act (fun s h => ?_) h ht
  repeat' first
    | with_reducible first | assumption | apply keeps_doorbell
    | exact fun _ => rfl | intro _ | split | dsimp only

theorem keeps_execCalRunCalibrate (kg : Bool) {s t : State} (h : Keeps ko kq kc s)
    (ht : execCalRunCalibrate kg s = .next t) :
    Keeps ko kq kc t := by
  refine keeps_act (fun s h => ?_) h ht
  repeat' first
    | with_reducible first | assumption | apply keeps_doorbell
    | exact fun _ => rfl | intro _ | split | dsimp only

theorem keeps_execCalRunAgeing (kg : Bool) {s t : State} (h : Keeps ko kq kc s) (ht : execCalRunAgeing kg s = .next t) :
    Keeps ko kq kc t := by
  refine keeps_act (fun s h => ?_) h ht
  repeat' first
    | with_reducible first | assumption | apply keeps_doorbell
    | exact fun _ => rfl | intro _ | split | dsimp only

theorem keeps_execCalStore (kg : Bool) {s t : State} (h : Keeps ko kq kc s) (ht : execCalStore kg s = .next t) :
    Keeps ko kq kc t := by
  refine keeps_act (fun s h => ?_) h ht
  repeat' first
    | with_reducible first | assumption | apply keeps_doorbell
    | exact fun _ => rfl | intro _ | split | dsimp only

theorem keeps_execCalAbort (kg : Bool) {s t : State} (h : Keeps ko kq kc s) (ht : execCalAbort kg s = .next t) :
    Keeps ko kq kc t := by
  refine keeps_act (fun s h => ?_) h ht
  repeat' first
    | with_reducible first | assumption | apply keeps_doorbell
    | exact fun _ => rfl | intro _ | split | dsimp only

theorem keeps_execLogFreeze (kg : Bool) {s t : State} (h : Keeps ko kq kc s) (ht : execLogFreeze kg s = .next t) :
    Keeps ko kq kc t := by
  refine keeps_act (fun s h => ?_) h ht
  repeat' first
    | with_reducible first | assumption | apply keeps_doorbell
    | exact fun _ => rfl | intro _ | split | dsimp only

theorem keeps_execLogThaw (kg : Bool) {s t : State} (h : Keeps ko kq kc s) (ht : execLogThaw kg s = .next t) :
    Keeps ko kq kc t := by
  refine keeps_act (fun s h => ?_) h ht
  repeat' first
    | with_reducible first | assumption | apply keeps_doorbell
    | exact fun _ => rfl | intro _ | split | dsimp only

theorem keeps_execLogClear (kg : Bool) {s t : State} (h : Keeps ko kq kc s) (ht : execLogClear kg s = .next t) :
    Keeps ko kq kc t := by
  refine keeps_act (fun s h => ?_) h ht
  repeat' first
    | with_reducible first | assumption | apply keeps_doorbell
    | exact fun _ => rfl | intro _ | split | dsimp only

theorem keeps_execUnknownOpcode (kg : Bool) (opcode : Word) {s t : State} (h : Keeps ko kq kc s)
    (ht : execUnknownOpcode kg opcode s = .next t) :
    Keeps ko kq kc t := by
  refine keeps_act (fun s h => ?_) h ht
  repeat' first
    | with_reducible first | assumption | apply keeps_doorbell
    | exact fun _ => rfl | intro _ | split | dsimp only

theorem keeps_execMailboxComplete (ok : Bool) (data : List Byte) (mismatch : Option Nat) {s t : State}
    (h : Keeps ko kq kc s) (ht : execMailboxComplete ok data mismatch s = .next t) :
    Keeps ko kq kc t := by
  refine keeps_act (fun s h => ?_) h ht
  repeat' first
    | with_reducible first | assumption | apply keeps_mailboxEnds
    | exact fun _ => rfl | intro _ | split | dsimp only

theorem keeps_execBar0Write (off : Nat) (dws : List (Word × Nat)) (poisoned : Bool) {s t : State}
    (h : Keeps ko kq kc s) (ht : execBar0Write off dws poisoned s = .next t) :
    Keeps ko kq kc t := by
  refine keeps_act (fun s h => ?_) h ht
  repeat' first
    | with_reducible first | assumption | apply keeps_bar0Write
    | exact fun _ => rfl | intro _ | split | dsimp only

theorem keeps_execDmaQTailWrite (q : Nat) (v : Word) {s t : State} (h : Keeps ko kq kc s)
    (ht : execDmaQTailWrite q v s = .next t) :
    Keeps ko kq kc t := by
  refine keeps_act (fun s h => ?_) h ht
  repeat' first
    | with_reducible first | assumption | apply keeps_writeTail
    | exact fun _ => rfl | intro _ | split | dsimp only

theorem keeps_execDmaQCheadWrite (q : Nat) (v : Word) {s t : State} (h : Keeps ko kq kc s)
    (ht : execDmaQCheadWrite q v s = .next t) :
    Keeps ko kq kc t := by
  refine keeps_act (fun s h => ?_) h ht
  repeat' first
    | with_reducible first | assumption | apply keeps_writeChead
    | exact fun _ => rfl | intro _ | split | dsimp only

theorem keeps_execDmaQCtrlWrite (q : Nat) (v : Word) {s t : State} (h : Keeps ko kq kc s)
    (ht : execDmaQCtrlWrite q v s = .next t) :
    Keeps ko kq kc t := by
  refine keeps_act (fun s h => ?_) h ht
  repeat' first
    | with_reducible first | assumption | apply keeps_afterWrite | apply keeps_writeCtrl
    | exact fun _ => rfl | intro _ | split | dsimp only

theorem keeps_execDmaQAbort (q : Nat) {s t : State} (h : Keeps ko kq kc s) (ht : execDmaQAbort q s = .next t) :
    Keeps ko kq kc t := by
  refine keeps_act (fun s h => ?_) h ht
  repeat' first
    | with_reducible first | assumption | apply keeps_writeAbort
    | exact fun _ => rfl | intro _ | split | dsimp only

theorem keeps_execDmaQFlush (q : Nat) {s t : State} (h : Keeps ko kq kc s) (ht : execDmaQFlush q s = .next t) :
    Keeps ko kq kc t := by
  refine keeps_act (fun s h => ?_) h ht
  repeat' first
    | with_reducible first | assumption | apply keeps_writeAbort
    | exact fun _ => rfl | intro _ | split | dsimp only

theorem keeps_execMaskFrame (cond : Nat) {s t : State} (h : Keeps ko kq kc s) (ht : execMaskFrame cond s = .next t) :
    Keeps ko kq kc t := by
  refine keeps_act (fun s h => ?_) h ht
  repeat' first
    | with_reducible first | assumption | apply keeps_afterWrite | apply keeps_maskFrame
    | exact fun _ => rfl | intro _ | split | dsimp only

theorem keeps_execOccurrenceArrival (g k : Nat) {s t : State} (h : Keeps ko kq kc s)
    (ht : execOccurrenceArrival g k s = .next t) :
    Keeps ko kq kc t := by
  refine keeps_act (fun s h => ?_) h ht
  repeat' first
    | with_reducible first | assumption | apply keeps_afterWrite | apply keeps_arrivalOf
    | exact fun _ => rfl | intro _ | split | dsimp only

theorem keeps_execOccurrenceExpiry (g : Nat) {s t : State} (h : Keeps ko kq kc s)
    (ht : execOccurrenceExpiry g s = .next t) :
    Keeps ko kq kc t := by
  refine keeps_act (fun s h => ?_) h ht
  repeat' first
    | with_reducible first | assumption | apply keeps_afterWrite | apply keeps_expire
    | exact fun _ => rfl | intro _ | split | dsimp only

theorem keeps_execHemEnd (g : Nat) {s t : State} (h : Keeps ko kq kc s) (ht : execHemEnd g s = .next t) :
    Keeps ko kq kc t := by
  refine keeps_act (fun s h => ?_) h ht
  repeat' first
    | with_reducible first | assumption | apply keeps_afterWrite | apply keeps_hemEnd
    | exact fun _ => rfl | intro _ | split | dsimp only

theorem keeps_execHoldoffEnd (g : Nat) {s t : State} (h : Keeps ko kq kc s) (ht : execHoldoffEnd g s = .next t) :
    Keeps ko kq kc t := by
  refine keeps_act (fun s h => ?_) h ht
  repeat' first
    | with_reducible first | assumption | apply keeps_leaveHoldoff
    | exact fun _ => rfl | intro _ | split | dsimp only

theorem keeps_execTrgArm (v : Word) {s t : State} (h : Keeps ko kq kc s) (ht : execTrgArm v s = .next t) :
    Keeps ko kq kc t := by
  refine keeps_act (fun s h => ?_) h ht
  repeat' first
    | with_reducible first | assumption | apply keeps_afterWrite | apply keeps_eachGroup | apply keeps_armGroup
    | exact fun _ => rfl | intro _ | split | dsimp only

theorem keeps_execTrgDisarm (v : Word) {s t : State} (h : Keeps ko kq kc s) (ht : execTrgDisarm v s = .next t) :
    Keeps ko kq kc t := by
  refine keeps_act (fun s h => ?_) h ht
  repeat' first
    | with_reducible first | assumption | apply keeps_disarmGroup | apply keeps_eachGroup
    | exact fun _ => rfl | intro _ | split | dsimp only

theorem keeps_execTrgForce (v : Word) {s t : State} (h : Keeps ko kq kc s) (ht : execTrgForce v s = .next t) :
    Keeps ko kq kc t := by
  refine keeps_act (fun s h => ?_) h ht
  repeat' first
    | with_reducible first | assumption | apply keeps_forceGroup | apply keeps_afterWrite | apply keeps_eachGroup
    | exact fun _ => rfl | intro _ | split | dsimp only

theorem keeps_execCapAbort (v : Word) {s t : State} (h : Keeps ko kq kc s) (ht : execCapAbort v s = .next t) :
    Keeps ko kq kc t := by
  refine keeps_act (fun s h => ?_) h ht
  repeat' first
    | with_reducible first | assumption | apply keeps_abortCaptures | apply keeps_afterWrite
    | exact fun _ => rfl | intro _ | split | dsimp only

theorem keeps_execOpenTransaction (borrowed : Bool) {s t : State} (h : Keeps ko kq kc s)
    (ht : execOpenTransaction borrowed s = .next t) :
    Keeps ko kq kc t := by
  refine keeps_act (fun s h => ?_) h ht
  repeat' first
    | with_reducible first | assumption | apply keeps_openTransaction
    | exact fun _ => rfl | intro _ | split | dsimp only

theorem keeps_execOpenReadData (ecc : Ecc) {s t : State} (h : Keeps ko kq kc s)
    (ht : execOpenReadData ecc s = .next t) :
    Keeps ko kq kc t := by
  refine keeps_act (fun s h => ?_) h ht
  repeat' first
    | with_reducible first | assumption | apply keeps_openReadData
    | exact fun _ => rfl | intro _ | split | dsimp only

theorem keeps_execTagGrant (requester : Nat) {s t : State} (h : Keeps ko kq kc s)
    (ht : execTagGrant requester s = .next t) :
    Keeps ko kq kc t := by
  refine keeps_act (fun s h => ?_) h ht
  repeat' first
    | with_reducible first | assumption | apply keeps_grantTag
    | exact fun _ => rfl | intro _ | split | dsimp only

theorem keeps_execBar2Read (x len : Nat) {s t : State} (h : Keeps ko kq kc s) (ht : execBar2Read x len s = .next t) :
    Keeps ko kq kc t := by
  refine keeps_act (fun s h => ?_) h ht
  repeat' first
    | with_reducible first | assumption | apply keeps_bar2Read
    | exact fun _ => rfl | intro _ | split | dsimp only

theorem keeps_execBar2Write (_x : Nat) (poisoned : Bool) {s t : State} (h : Keeps ko kq kc s)
    (ht : execBar2Write _x poisoned s = .next t) :
    Keeps ko kq kc t := by
  refine keeps_act (fun s h => ?_) h ht
  repeat' first
    | with_reducible first | assumption | apply keeps_bar2Write
    | exact fun _ => rfl | intro _ | split | dsimp only

theorem keeps_execDescriptorFetch (q : Nat) (data : Option (List Byte)) {s t : State} (h : Keeps ko kq kc s)
    (ht : execDescriptorFetch q data s = .next t) :
    Keeps ko kq kc t := by
  refine keeps_act (fun s h => ?_) h ht
  repeat' first
    | with_reducible first | assumption | apply keeps_unanswered | apply keeps_fetchDesc
    | exact fun _ => rfl | intro _ | split | dsimp only

theorem keeps_execTableFetch (q : Nat) (data : Option (List Byte)) {s t : State} (h : Keeps ko kq kc s)
    (ht : execTableFetch q data s = .next t) :
    Keeps ko kq kc t := by
  refine keeps_act (fun s h => ?_) h ht
  repeat' first
    | with_reducible first | assumption | apply keeps_fetchTable | apply keeps_unanswered
    | exact fun _ => rfl | intro _ | split | dsimp only

theorem keeps_execBurstDone (q : Nat) {s t : State} (h : Keeps ko kq kc s) (ht : execBurstDone q s = .next t) :
    Keeps ko kq kc t := by
  refine keeps_act (fun s h => ?_) h ht
  repeat' first
    | with_reducible first | assumption | apply keeps_burstDone
    | exact fun _ => rfl | intro _ | split | dsimp only

theorem keeps_execHostReadCompletion (q : Nat) (data : Option (List Byte)) {s t : State} (h : Keeps ko kq kc s)
    (ht : execHostReadCompletion q data s = .next t) :
    Keeps ko kq kc t := by
  refine keeps_act (fun s h => ?_) h ht
  repeat' first
    | with_reducible first | assumption | apply keeps_hostReadData | apply keeps_unanswered
    | exact fun _ => rfl | intro _ | split | dsimp only

theorem keeps_execDestWaitEnd (q : Nat) {s t : State} (h : Keeps ko kq kc s) (ht : execDestWaitEnd q s = .next t) :
    Keeps ko kq kc t := by
  refine keeps_act (fun s h => ?_) h ht
  repeat' first
    | with_reducible first | assumption | apply keeps_destWaitOver
    | exact fun _ => rfl | intro _ | split | dsimp only

theorem keeps_execStreamFlushTimeout (q : Nat) {s t : State} (h : Keeps ko kq kc s)
    (ht : execStreamFlushTimeout q s = .next t) :
    Keeps ko kq kc t := by
  refine keeps_act (fun s h => ?_) h ht
  repeat' first
    | with_reducible first | assumption | apply keeps_streamFlush
    | exact fun _ => rfl | intro _ | split | dsimp only

theorem keeps_execNoticeWrite (q : Nat) {s t : State} (h : Keeps ko kq kc s) (ht : execNoticeWrite q s = .next t) :
    Keeps ko kq kc t := by
  refine keeps_act (fun s h => ?_) h ht
  repeat' first
    | with_reducible first | assumption | apply keeps_noticeWrite
    | exact fun _ => rfl | intro _ | split | dsimp only

theorem keeps_execCompletionTimeout (q : Nat) {s t : State} (h : Keeps ko kq kc s)
    (ht : execCompletionTimeout q s = .next t) :
    Keeps ko kq kc t := by
  refine keeps_act (fun s h => ?_) h ht
  repeat' first
    | with_reducible first | assumption | apply keeps_readTimeout
    | exact fun _ => rfl | intro _ | split | dsimp only

theorem keeps_execStreamReadLand (e st : Nat) {s t : State} (h : Keeps ko kq kc s)
    (ht : execStreamReadLand e st s = .next t) :
    Keeps ko kq kc t := by
  refine keeps_act (fun s h => ?_) h ht
  repeat' first
    | with_reducible first | assumption | apply keeps_streamReadLand
    | exact fun _ => rfl | intro _ | split | dsimp only

theorem keeps_execStreamWriteTake (e st : Nat) {s t : State} (h : Keeps ko kq kc s)
    (ht : execStreamWriteTake e st s = .next t) :
    Keeps ko kq kc t := by
  refine keeps_act (fun s h => ?_) h ht
  repeat' first
    | with_reducible first | assumption | apply keeps_streamWriteTake
    | exact fun _ => rfl | intro _ | split | dsimp only

theorem keeps_execResultLands (e : Nat) {s t : State} (h : Keeps ko kq kc s) (ht : execResultLands e s = .next t) :
    Keeps ko kq kc t := by
  refine keeps_act (fun s h => ?_) h ht
  repeat' first
    | with_reducible first | assumption | apply keeps_landResults
    | exact fun _ => rfl | intro _ | split | dsimp only

theorem keeps_execXchDelivery (e : Nat) {s t : State} (h : Keeps ko kq kc s) (ht : execXchDelivery e s = .next t) :
    Keeps ko kq kc t := by
  refine keeps_act (fun s h => ?_) h ht
  repeat' first
    | with_reducible first | assumption | apply keeps_deliverWord
    | exact fun _ => rfl | intro _ | split | dsimp only

theorem keeps_execLoopExit (e : Nat) {s t : State} (h : Keeps ko kq kc s) (ht : execLoopExit e s = .next t) :
    Keeps ko kq kc t := by
  refine keeps_act (fun s h => ?_) h ht
  repeat' first
    | with_reducible first | assumption | apply keeps_mEngine
    | exact fun _ => rfl | intro _ | split | dsimp only

theorem keeps_execStopBundle (e : Nat) {s t : State} (h : Keeps ko kq kc s) (ht : execStopBundle e s = .next t) :
    Keeps ko kq kc t := by
  refine keeps_act (fun s h => ?_) h ht
  repeat' first
    | with_reducible first | assumption | apply keeps_stopEngine
    | exact fun _ => rfl | intro _ | split | dsimp only

theorem keeps_execSeamMark (e : Nat) {s t : State} (h : Keeps ko kq kc s) (ht : execSeamMark e s = .next t) :
    Keeps ko kq kc t := by
  refine keeps_act (fun s h => ?_) h ht
  repeat' first
    | with_reducible first | assumption | apply keeps_parkEngine
    | exact fun _ => rfl | intro _ | split | dsimp only

theorem keeps_execIllegalEncoding (e : Nat) {s t : State} (h : Keeps ko kq kc s)
    (ht : execIllegalEncoding e s = .next t) :
    Keeps ko kq kc t := by
  refine keeps_act (fun s h => ?_) h ht
  repeat' first
    | with_reducible first | assumption | apply keeps_illegalSlot
    | exact fun _ => rfl | intro _ | split | dsimp only

theorem keeps_execBr (e : Nat) (g : Gate) (target : Nat) {s t : State} (h : Keeps ko kq kc s)
    (ht : execBr e g target s = .next t) :
    Keeps ko kq kc t := by
  refine keeps_act (fun s h => ?_) h ht
  repeat' first
    | with_reducible first | assumption | apply keeps_takeBranch | apply keeps_slot
    | exact fun _ => rfl | intro _ | split | dsimp only

theorem keeps_execBrx (e : Nat) (g : Gate) (xs : Nat) {s t : State} (h : Keeps ko kq kc s)
    (ht : execBrx e g xs s = .next t) :
    Keeps ko kq kc t := by
  refine keeps_act (fun s h => ?_) h ht
  repeat' first
    | with_reducible first | assumption | apply keeps_takeBranch | apply keeps_slot
    | exact fun _ => rfl | intro _ | split | dsimp only

theorem keeps_execLoop (e : Nat) (g : Gate) (f : LoopForm) {s t : State} (h : Keeps ko kq kc s)
    (ht : execLoop e g f s = .next t) :
    Keeps ko kq kc t := by
  refine keeps_act (fun s h => ?_) h ht
  repeat' first
    | with_reducible first | assumption | apply keeps_startLoop | apply keeps_slot
    | exact fun _ => rfl | intro _ | split | dsimp only

theorem keeps_execBxclr (e : Nat) (g : Gate) {s t : State} (h : Keeps ko kq kc s) (ht : execBxclr e g s = .next t) :
    Keeps ko kq kc t := by
  refine keeps_act (fun s h => ?_) h ht
  repeat' first
    | with_reducible first | assumption | apply keeps_clearBexp | apply keeps_slot
    | exact fun _ => rfl | intro _ | split | dsimp only

theorem keeps_execBsc (e : Nat) (g : Gate) (src : Bool) (xs imm : Nat) {s t : State} (h : Keeps ko kq kc s)
    (ht : execBsc e g src xs imm s = .next t) :
    Keeps ko kq kc t := by
  refine keeps_act (fun s h => ?_) h ht
  repeat' first
    | with_reducible first | assumption | apply keeps_sendResult | apply keeps_slot
    | exact fun _ => rfl | intro _ | split | dsimp only

theorem keeps_execClrf (e : Nat) (g : Gate) {s t : State} (h : Keeps ko kq kc s) (ht : execClrf e g s = .next t) :
    Keeps ko kq kc t := by
  refine keeps_act (fun s h => ?_) h ht
  repeat' first
    | with_reducible first | assumption | apply keeps_sendResult | apply keeps_slot
    | exact fun _ => rfl | intro _ | split | dsimp only

theorem keeps_execRofset (e : Nat) (g : Gate) (imm : Nat) {s t : State} (h : Keeps ko kq kc s)
    (ht : execRofset e g imm s = .next t) :
    Keeps ko kq kc t := by
  refine keeps_act (fun s h => ?_) h ht
  repeat' first
    | with_reducible first | assumption | apply keeps_sendResult | apply keeps_slot
    | exact fun _ => rfl | intro _ | split | dsimp only

theorem keeps_execLdv (e : Nat) (g : Gate) (f : LsForm) {s t : State} (h : Keeps ko kq kc s)
    (ht : execLdv e g f s = .next t) :
    Keeps ko kq kc t := by
  refine keeps_act (fun s h => ?_) h ht
  repeat' first
    | with_reducible first | assumption | apply keeps_loadVector | apply keeps_slot
    | exact fun _ => rfl | intro _ | split | dsimp only

theorem keeps_execLdc (e : Nat) (g : Gate) (f : LsForm) {s t : State} (h : Keeps ko kq kc s)
    (ht : execLdc e g f s = .next t) :
    Keeps ko kq kc t := by
  refine keeps_act (fun s h => ?_) h ht
  repeat' first
    | with_reducible first | assumption | apply keeps_loadVector | apply keeps_plainLs | apply keeps_slot
    | exact fun _ => rfl | intro _ | split | dsimp only

theorem keeps_execLdp12 (e : Nat) (g : Gate) (f : LsForm) {s t : State} (h : Keeps ko kq kc s)
    (ht : execLdp12 e g f s = .next t) :
    Keeps ko kq kc t := by
  refine keeps_act (fun s h => ?_) h ht
  repeat' first
    | with_reducible first | assumption | apply keeps_loadVector | apply keeps_plainLs | apply keeps_slot
    | exact fun _ => rfl | intro _ | split | dsimp only

theorem keeps_execLdu16 (e : Nat) (g : Gate) (f : LsForm) {s t : State} (h : Keeps ko kq kc s)
    (ht : execLdu16 e g f s = .next t) :
    Keeps ko kq kc t := by
  refine keeps_act (fun s h => ?_) h ht
  repeat' first
    | with_reducible first | assumption | apply keeps_loadVector | apply keeps_plainLs | apply keeps_slot
    | exact fun _ => rfl | intro _ | split | dsimp only

theorem keeps_execLdx (e : Nat) (g : Gate) (f : LsForm) {s t : State} (h : Keeps ko kq kc s)
    (ht : execLdx e g f s = .next t) :
    Keeps ko kq kc t := by
  refine keeps_act (fun s h => ?_) h ht
  repeat' first
    | with_reducible first | assumption | apply keeps_illegalSlot | apply keeps_sendResult | apply keeps_lsUpdate
                           | apply keeps_plainLs | apply keeps_slot
    | exact fun _ => rfl | intro _ | split | dsimp only

theorem keeps_execStv (e : Nat) (g : Gate) (f : LsForm) {s t : State} (h : Keeps ko kq kc s)
    (ht : execStv e g f s = .next t) :
    Keeps ko kq kc t := by
  refine keeps_act (fun s h => ?_) h ht
  repeat' first
    | with_reducible first | assumption | apply keeps_storeValue | apply keeps_trackStore | apply keeps_slot
    | exact fun _ => rfl | intro _ | split | dsimp only

theorem keeps_execSth (e : Nat) (g : Gate) (f : LsForm) {s t : State} (h : Keeps ko kq kc s)
    (ht : execSth e g f s = .next t) :
    Keeps ko kq kc t := by
  refine keeps_act (fun s h => ?_) h ht
  repeat' first
    | with_reducible first | assumption | apply keeps_storeValue | apply keeps_plainLs | apply keeps_slot
    | exact fun _ => rfl | intro _ | split | dsimp only

theorem keeps_execStq (e : Nat) (g : Gate) (f : LsForm) {s t : State} (h : Keeps ko kq kc s)
    (ht : execStq e g f s = .next t) :
    Keeps ko kq kc t := by
  refine keeps_act (fun s h => ?_) h ht
  repeat' first
    | with_reducible first | assumption | apply keeps_storeValue | apply keeps_plainLs | apply keeps_slot
    | exact fun _ => rfl | intro _ | split | dsimp only

theorem keeps_execStx (e : Nat) (g : Gate) (f : LsForm) {s t : State} (h : Keeps ko kq kc s)
    (ht : execStx e g f s = .next t) :
    Keeps ko kq kc t := by
  refine keeps_act (fun s h => ?_) h ht
  repeat' first
    | with_reducible first | assumption | apply keeps_illegalSlot | apply keeps_storeValue | apply keeps_plainLs
                           | apply keeps_slot
    | exact fun _ => rfl | intro _ | split | dsimp only

theorem keeps_execCmul (e : Nat) (g : Gate) (f : MacForm) {s t : State} (h : Keeps ko kq kc s)
    (ht : execCmul e g f s = .next t) :
    Keeps ko kq kc t := by
  refine keeps_act (fun s h => ?_) h ht
  repeat' first
    | with_reducible first | assumption | apply keeps_macResult | apply keeps_slot
    | exact fun _ => rfl | intro _ | split | dsimp only

theorem keeps_execCmla (e : Nat) (g : Gate) (f : MacForm) {s t : State} (h : Keeps ko kq kc s)
    (ht : execCmla e g f s = .next t) :
    Keeps ko kq kc t := by
  refine keeps_act (fun s h => ?_) h ht
  repeat' first
    | with_reducible first | assumption | apply keeps_accumulate | apply keeps_slot
    | exact fun _ => rfl | intro _ | split | dsimp only

theorem keeps_execCmac (e : Nat) (g : Gate) (f : MacForm) {s t : State} (h : Keeps ko kq kc s)
    (ht : execCmac e g f s = .next t) :
    Keeps ko kq kc t := by
  refine keeps_act (fun s h => ?_) h ht
  repeat' first
    | with_reducible first | assumption | apply keeps_accumulate | apply keeps_slot
    | exact fun _ => rfl | intro _ | split | dsimp only

theorem keeps_execAcrd (e : Nat) (g : Gate) (f : MacForm) {s t : State} (h : Keeps ko kq kc s)
    (ht : execAcrd e g f s = .next t) :
    Keeps ko kq kc t := by
  refine keeps_act (fun s h => ?_) h ht
  repeat' first
    | with_reducible first | assumption | apply keeps_macResult | apply keeps_slot
    | exact fun _ => rfl | intro _ | split | dsimp only

theorem keeps_execAcrc (e : Nat) (g : Gate) (f : MacForm) {s t : State} (h : Keeps ko kq kc s)
    (ht : execAcrc e g f s = .next t) :
    Keeps ko kq kc t := by
  refine keeps_act (fun s h => ?_) h ht
  repeat' first
    | with_reducible first | assumption | apply keeps_macResult | apply keeps_mEngine | apply keeps_slot
    | exact fun _ => rfl | intro _ | split | dsimp only

theorem keeps_execFcvtp (e : Nat) (g : Gate) (f : MacForm) {s t : State} (h : Keeps ko kq kc s)
    (ht : execFcvtp e g f s = .next t) :
    Keeps ko kq kc t := by
  refine keeps_act (fun s h => ?_) h ht
  repeat' first
    | with_reducible first | assumption | apply keeps_illegalSlot | apply keeps_macResult | apply keeps_slot
    | exact fun _ => rfl | intro _ | split | dsimp only

theorem keeps_execFcvtl (e : Nat) (g : Gate) (f : MacForm) {s t : State} (h : Keeps ko kq kc s)
    (ht : execFcvtl e g f s = .next t) :
    Keeps ko kq kc t := by
  refine keeps_act (fun s h => ?_) h ht
  repeat' first
    | with_reducible first | assumption | apply keeps_macResult | apply keeps_slot
    | exact fun _ => rfl | intro _ | split | dsimp only

theorem keeps_execCadd (e : Nat) (g : Gate) (f : AluForm) {s t : State} (h : Keeps ko kq kc s)
    (ht : execCadd e g f s = .next t) :
    Keeps ko kq kc t := by
  refine keeps_act (fun s h => ?_) h ht
  repeat' first
    | with_reducible first | assumption | apply keeps_aluVecOp | apply keeps_aluVec
    | exact fun _ => rfl | intro _ | split | dsimp only

theorem keeps_execCsub (e : Nat) (g : Gate) (f : AluForm) {s t : State} (h : Keeps ko kq kc s)
    (ht : execCsub e g f s = .next t) :
    Keeps ko kq kc t := by
  refine keeps_act (fun s h => ?_) h ht
  repeat' first
    | with_reducible first | assumption | apply keeps_aluVecOp | apply keeps_aluVec
    | exact fun _ => rfl | intro _ | split | dsimp only

theorem keeps_execBfy (e : Nat) (g : Gate) (f : AluForm) {s t : State} (h : Keeps ko kq kc s)
    (ht : execBfy e g f s = .next t) :
    Keeps ko kq kc t := by
  refine keeps_act (fun s h => ?_) h ht
  repeat' first
    | with_reducible first | assumption | apply keeps_aluVecOp | apply keeps_aluVec
    | exact fun _ => rfl | intro _ | split | dsimp only

theorem keeps_execBfyj (e : Nat) (g : Gate) (f : AluForm) {s t : State} (h : Keeps ko kq kc s)
    (ht : execBfyj e g f s = .next t) :
    Keeps ko kq kc t := by
  refine keeps_act (fun s h => ?_) h ht
  repeat' first
    | with_reducible first | assumption | apply keeps_aluVecOp | apply keeps_aluVec
    | exact fun _ => rfl | intro _ | split | dsimp only

theorem keeps_execVmov (e : Nat) (g : Gate) (f : AluForm) {s t : State} (h : Keeps ko kq kc s)
    (ht : execVmov e g f s = .next t) :
    Keeps ko kq kc t := by
  refine keeps_act (fun s h => ?_) h ht
  repeat' first
    | with_reducible first | assumption | apply keeps_aluVecOp | apply keeps_aluVec
    | exact fun _ => rfl | intro _ | split | dsimp only

theorem keeps_execConj (e : Nat) (g : Gate) (f : AluForm) {s t : State} (h : Keeps ko kq kc s)
    (ht : execConj e g f s = .next t) :
    Keeps ko kq kc t := by
  refine keeps_act (fun s h => ?_) h ht
  repeat' first
    | with_reducible first | assumption | apply keeps_aluVecOp | apply keeps_aluVec
    | exact fun _ => rfl | intro _ | split | dsimp only

theorem keeps_execVshr (e : Nat) (g : Gate) (f : AluForm) {s t : State} (h : Keeps ko kq kc s)
    (ht : execVshr e g f s = .next t) :
    Keeps ko kq kc t := by
  refine keeps_act (fun s h => ?_) h ht
  repeat' first
    | with_reducible first | assumption | apply keeps_aluVecOp | apply keeps_aluVec
    | exact fun _ => rfl | intro _ | split | dsimp only

theorem keeps_execNorm (e : Nat) (g : Gate) (f : AluForm) {s t : State} (h : Keeps ko kq kc s)
    (ht : execNorm e g f s = .next t) :
    Keeps ko kq kc t := by
  refine keeps_act (fun s h => ?_) h ht
  repeat' first
    | with_reducible first | assumption | apply keeps_sendResult | apply keeps_aluVecOp
    | exact fun _ => rfl | intro _ | split | dsimp only

theorem keeps_execExp (e : Nat) (g : Gate) (f : AluForm) {s t : State} (h : Keeps ko kq kc s)
    (ht : execExp e g f s = .next t) :
    Keeps ko kq kc t := by
  refine keeps_act (fun s h => ?_) h ht
  repeat' first
    | with_reducible first | assumption | apply keeps_aluScalar
    | exact fun _ => rfl | intro _ | split | dsimp only

theorem keeps_execAdd (e : Nat) (g : Gate) (f : AluForm) {s t : State} (h : Keeps ko kq kc s)
    (ht : execAdd e g f s = .next t) :
    Keeps ko kq kc t := by
  refine keeps_act (fun s h => ?_) h ht
  repeat' first
    | with_reducible first | assumption | apply keeps_aluScalar
    | exact fun _ => rfl | intro _ | split | dsimp only

theorem keeps_execSub (e : Nat) (g : Gate) (f : AluForm) {s t : State} (h : Keeps ko kq kc s)
    (ht : execSub e g f s = .next t) :
    Keeps ko kq kc t := by
  refine keeps_act (fun s h => ?_) h ht
  repeat' first
    | with_reducible first | assumption | apply keeps_aluScalar
    | exact fun _ => rfl | intro _ | split | dsimp only

theorem keeps_execAnd (e : Nat) (g : Gate) (f : AluForm) {s t : State} (h : Keeps ko kq kc s)
    (ht : execAnd e g f s = .next t) :
    Keeps ko kq kc t := by
  refine keeps_act (fun s h => ?_) h ht
  repeat' first
    | with_reducible first | assumption | apply keeps_aluScalar
    | exact fun _ => rfl | intro _ | split | dsimp only

theorem keeps_execOr (e : Nat) (g : Gate) (f : AluForm) {s t : State} (h : Keeps ko kq kc s)
    (ht : execOr e g f s = .next t) :
    Keeps ko kq kc t := by
  refine keeps_act (fun s h => ?_) h ht
  repeat' first
    | with_reducible first | assumption | apply keeps_aluScalar
    | exact fun _ => rfl | intro _ | split | dsimp only

theorem keeps_execXor (e : Nat) (g : Gate) (f : AluForm) {s t : State} (h : Keeps ko kq kc s)
    (ht : execXor e g f s = .next t) :
    Keeps ko kq kc t := by
  refine keeps_act (fun s h => ?_) h ht
  repeat' first
    | with_reducible first | assumption | apply keeps_aluScalar
    | exact fun _ => rfl | intro _ | split | dsimp only

theorem keeps_execShl (e : Nat) (g : Gate) (f : AluForm) {s t : State} (h : Keeps ko kq kc s)
    (ht : execShl e g f s = .next t) :
    Keeps ko kq kc t := by
  refine keeps_act (fun s h => ?_) h ht
  repeat' first
    | with_reducible first | assumption | apply keeps_aluScalar
    | exact fun _ => rfl | intro _ | split | dsimp only

theorem keeps_execShra (e : Nat) (g : Gate) (f : AluForm) {s t : State} (h : Keeps ko kq kc s)
    (ht : execShra e g f s = .next t) :
    Keeps ko kq kc t := by
  refine keeps_act (fun s h => ?_) h ht
  repeat' first
    | with_reducible first | assumption | apply keeps_aluScalar
    | exact fun _ => rfl | intro _ | split | dsimp only

theorem keeps_execShrl (e : Nat) (g : Gate) (f : AluForm) {s t : State} (h : Keeps ko kq kc s)
    (ht : execShrl e g f s = .next t) :
    Keeps ko kq kc t := by
  refine keeps_act (fun s h => ?_) h ht
  repeat' first
    | with_reducible first | assumption | apply keeps_aluScalar
    | exact fun _ => rfl | intro _ | split | dsimp only

theorem keeps_execMin (e : Nat) (g : Gate) (f : AluForm) {s t : State} (h : Keeps ko kq kc s)
    (ht : execMin e g f s = .next t) :
    Keeps ko kq kc t := by
  refine keeps_act (fun s h => ?_) h ht
  repeat' first
    | with_reducible first | assumption | apply keeps_aluScalar
    | exact fun _ => rfl | intro _ | split | dsimp only

theorem keeps_execMax (e : Nat) (g : Gate) (f : AluForm) {s t : State} (h : Keeps ko kq kc s)
    (ht : execMax e g f s = .next t) :
    Keeps ko kq kc t := by
  refine keeps_act (fun s h => ?_) h ht
  repeat' first
    | with_reducible first | assumption | apply keeps_aluScalar
    | exact fun _ => rfl | intro _ | split | dsimp only

theorem keeps_execMovi (e : Nat) (g : Gate) (f : AluForm) {s t : State} (h : Keeps ko kq kc s)
    (ht : execMovi e g f s = .next t) :
    Keeps ko kq kc t := by
  refine keeps_act (fun s h => ?_) h ht
  repeat' first
    | with_reducible first | assumption | apply keeps_aluScalar
    | exact fun _ => rfl | intro _ | split | dsimp only

theorem keeps_execMovhi (e : Nat) (g : Gate) (f : AluForm) {s t : State} (h : Keeps ko kq kc s)
    (ht : execMovhi e g f s = .next t) :
    Keeps ko kq kc t := by
  refine keeps_act (fun s h => ?_) h ht
  repeat' first
    | with_reducible first | assumption | apply keeps_aluScalar
    | exact fun _ => rfl | intro _ | split | dsimp only

theorem keeps_execBxget (e : Nat) (g : Gate) (f : AluForm) {s t : State} (h : Keeps ko kq kc s)
    (ht : execBxget e g f s = .next t) :
    Keeps ko kq kc t := by
  refine keeps_act (fun s h => ?_) h ht
  repeat' first
    | with_reducible first | assumption | apply keeps_aluScalar
    | exact fun _ => rfl | intro _ | split | dsimp only

theorem keeps_execMovf (e : Nat) (g : Gate) (f : AluForm) {s t : State} (h : Keeps ko kq kc s)
    (ht : execMovf e g f s = .next t) :
    Keeps ko kq kc t := by
  refine keeps_act (fun s h => ?_) h ht
  repeat' first
    | with_reducible first | assumption | apply keeps_aluScalar
    | exact fun _ => rfl | intro _ | split | dsimp only

theorem keeps_execMovxv (e : Nat) (g : Gate) (f : AluForm) {s t : State} (h : Keeps ko kq kc s)
    (ht : execMovxv e g f s = .next t) :
    Keeps ko kq kc t := by
  refine keeps_act (fun s h => ?_) h ht
  repeat' first
    | with_reducible first | assumption | apply keeps_aluScalar
    | exact fun _ => rfl | intro _ | split | dsimp only

theorem keeps_execMovvx (e : Nat) (g : Gate) (f : AluForm) {s t : State} (h : Keeps ko kq kc s)
    (ht : execMovvx e g f s = .next t) :
    Keeps ko kq kc t := by
  refine keeps_act (fun s h => ?_) h ht
  repeat' first
    | with_reducible first | assumption | apply keeps_aluVecOp | apply keeps_aluVec
    | exact fun _ => rfl | intro _ | split | dsimp only

theorem keeps_execCmpeq (e : Nat) (g : Gate) (f : AluForm) {s t : State} (h : Keeps ko kq kc s)
    (ht : execCmpeq e g f s = .next t) :
    Keeps ko kq kc t := by
  refine keeps_act (fun s h => ?_) h ht
  repeat' first
    | with_reducible first | assumption | apply keeps_aluPred
    | exact fun _ => rfl | intro _ | split | dsimp only

theorem keeps_execCmplt (e : Nat) (g : Gate) (f : AluForm) {s t : State} (h : Keeps ko kq kc s)
    (ht : execCmplt e g f s = .next t) :
    Keeps ko kq kc t := by
  refine keeps_act (fun s h => ?_) h ht
  repeat' first
    | with_reducible first | assumption | apply keeps_aluPred
    | exact fun _ => rfl | intro _ | split | dsimp only

theorem keeps_execCmpltu (e : Nat) (g : Gate) (f : AluForm) {s t : State} (h : Keeps ko kq kc s)
    (ht : execCmpltu e g f s = .next t) :
    Keeps ko kq kc t := by
  refine keeps_act (fun s h => ?_) h ht
  repeat' first
    | with_reducible first | assumption | apply keeps_aluPred
    | exact fun _ => rfl | intro _ | split | dsimp only

theorem keeps_execPand (e : Nat) (g : Gate) (f : AluForm) {s t : State} (h : Keeps ko kq kc s)
    (ht : execPand e g f s = .next t) :
    Keeps ko kq kc t := by
  refine keeps_act (fun s h => ?_) h ht
  repeat' first
    | with_reducible first | assumption | apply keeps_aluPred
    | exact fun _ => rfl | intro _ | split | dsimp only

theorem keeps_execPor (e : Nat) (g : Gate) (f : AluForm) {s t : State} (h : Keeps ko kq kc s)
    (ht : execPor e g f s = .next t) :
    Keeps ko kq kc t := by
  refine keeps_act (fun s h => ?_) h ht
  repeat' first
    | with_reducible first | assumption | apply keeps_aluPred
    | exact fun _ => rfl | intro _ | split | dsimp only

theorem keeps_execPnot (e : Nat) (g : Gate) (f : AluForm) {s t : State} (h : Keeps ko kq kc s)
    (ht : execPnot e g f s = .next t) :
    Keeps ko kq kc t := by
  refine keeps_act (fun s h => ?_) h ht
  repeat' first
    | with_reducible first | assumption | apply keeps_aluPred
    | exact fun _ => rfl | intro _ | split | dsimp only

theorem keeps_execSend (e : Nat) (g : Gate) (f : XchForm) {s t : State} (h : Keeps ko kq kc s)
    (ht : execSend e g f s = .next t) :
    Keeps ko kq kc t := by
  refine keeps_act (fun s h => ?_) h ht
  repeat' first
    | with_reducible first | assumption | apply keeps_sendWord | apply keeps_slot
    | exact fun _ => rfl | intro _ | split | dsimp only

theorem keeps_execSendx (e : Nat) (g : Gate) (f : XchForm) {s t : State} (h : Keeps ko kq kc s)
    (ht : execSendx e g f s = .next t) :
    Keeps ko kq kc t := by
  refine keeps_act (fun s h => ?_) h ht
  repeat' first
    | with_reducible first | assumption | apply keeps_illegalSlot | apply keeps_sendWord | apply keeps_slot
    | exact fun _ => rfl | intro _ | split | dsimp only

theorem keeps_execSmbusSetOffset (off : Nat) {s t : State} (h : Keeps ko kq kc s)
    (ht : execSmbusSetOffset off s = .next t) :
    Keeps ko kq kc t := by
  refine keeps_act (fun s h => ?_) h ht
  repeat' first
    | with_reducible first | assumption | apply keeps_smbusOffset
    | exact fun _ => rfl | intro _ | split | dsimp only

theorem keeps_execSmbusRead  {s t : State} (h : Keeps ko kq kc s) (ht : execSmbusRead s = .next t) :
    Keeps ko kq kc t := by
  refine keeps_act (fun s h => ?_) h ht
  repeat' first
    | with_reducible first | assumption | apply keeps_smbusRead
    | exact fun _ => rfl | intro _ | split | dsimp only

theorem keeps_execSmbusState  {s t : State} (h : Keeps ko kq kc s) (ht : execSmbusState s = .next t) :
    Keeps ko kq kc t := by
  refine keeps_act (fun s h => ?_) h ht
  repeat' first
    | with_reducible first | assumption | apply keeps_smbusState
    | exact fun _ => rfl | intro _ | split | dsimp only

theorem keeps_execDperstRelease (p : Nat) {s t : State} (h : Keeps ko kq kc s) (ht : execDperstRelease p s = .next t) :
    Keeps ko kq kc t := by
  refine keeps_act (fun s h => ?_) h ht
  repeat' first
    | with_reducible first | assumption | apply keeps_dperstReleased
    | exact fun _ => rfl | intro _ | split | dsimp only

theorem keeps_execTapInstruction (code : Nat) {s t : State} (h : Keeps ko kq kc s)
    (ht : execTapInstruction code s = .next t) :
    Keeps ko kq kc t := by
  refine keeps_act (fun s h => ?_) h ht
  repeat' first
    | with_reducible first | assumption | apply keeps_tapInstruction
    | exact fun _ => rfl | intro _ | split | dsimp only

end Sys2Proof.Laws
end

