-- ==== Sys2Proof/Laws/State.lean ====
section
/-! SUPPORT. What each update of the state reads as: one lemma per field and update. -/

namespace Sys2Proof.Machine

@[simp] theorem mTime_time (f : TimeBase → TimeBase) (s : State) : (mTime f s).time = f s.time := rfl
@[simp] theorem mTime_stat (f : TimeBase → TimeBase) (s : State) : (mTime f s).stat = s.stat := rfl
@[simp] theorem mTime_snap (f : TimeBase → TimeBase) (s : State) : (mTime f s).snap = s.snap := rfl
@[simp] theorem mTime_key (f : TimeBase → TimeBase) (s : State) : (mTime f s).key = s.key := rfl
@[simp] theorem mTime_live (f : TimeBase → TimeBase) (s : State) : (mTime f s).live = s.live := rfl
@[simp] theorem mTime_mbox (f : TimeBase → TimeBase) (s : State) : (mTime f s).mbox = s.mbox := rfl
@[simp] theorem mTime_loader (f : TimeBase → TimeBase) (s : State) : (mTime f s).loader = s.loader := rfl
@[simp] theorem mTime_img (f : TimeBase → TimeBase) (s : State) : (mTime f s).img = s.img := rfl
@[simp] theorem mTime_life (f : TimeBase → TimeBase) (s : State) : (mTime f s).life = s.life := rfl
@[simp] theorem mTime_pwr (f : TimeBase → TimeBase) (s : State) : (mTime f s).pwr = s.pwr := rfl
@[simp] theorem mTime_clk (f : TimeBase → TimeBase) (s : State) : (mTime f s).clk = s.clk := rfl
@[simp] theorem mTime_chans (f : TimeBase → TimeBase) (s : State) : (mTime f s).chans = s.chans := rfl
@[simp] theorem mTime_store (f : TimeBase → TimeBase) (s : State) : (mTime f s).store = s.store := rfl
@[simp] theorem mTime_sleeves (f : TimeBase → TimeBase) (s : State) : (mTime f s).sleeves = s.sleeves := rfl
@[simp] theorem mTime_link (f : TimeBase → TimeBase) (s : State) : (mTime f s).link = s.link := rfl
@[simp] theorem mTime_rings (f : TimeBase → TimeBase) (s : State) : (mTime f s).rings = s.rings := rfl
@[simp] theorem mTime_eng (f : TimeBase → TimeBase) (s : State) : (mTime f s).eng = s.eng := rfl
@[simp] theorem mTime_frames (f : TimeBase → TimeBase) (s : State) : (mTime f s).frames = s.frames := rfl
@[simp] theorem mTime_ssel (f : TimeBase → TimeBase) (s : State) : (mTime f s).ssel = s.ssel := rfl
@[simp] theorem mTime_traces (f : TimeBase → TimeBase) (s : State) : (mTime f s).traces = s.traces := rfl
@[simp] theorem mTime_dselTrace (f : TimeBase → TimeBase) (s : State) : (mTime f s).dselTrace = s.dselTrace := rfl
@[simp] theorem mTime_planes (f : TimeBase → TimeBase) (s : State) : (mTime f s).planes = s.planes := rfl
@[simp] theorem mTime_psel (f : TimeBase → TimeBase) (s : State) : (mTime f s).psel = s.psel := rfl
@[simp] theorem mTime_ctxs (f : TimeBase → TimeBase) (s : State) : (mTime f s).ctxs = s.ctxs := rfl
@[simp] theorem mTime_ctxSel (f : TimeBase → TimeBase) (s : State) : (mTime f s).ctxSel = s.ctxSel := rfl
@[simp] theorem mTime_trig (f : TimeBase → TimeBase) (s : State) : (mTime f s).trig = s.trig := rfl
@[simp] theorem mTime_tiu (f : TimeBase → TimeBase) (s : State) : (mTime f s).tiu = s.tiu := rfl
@[simp] theorem mTime_disk (f : TimeBase → TimeBase) (s : State) : (mTime f s).disk = s.disk := rfl
@[simp] theorem mTime_cal (f : TimeBase → TimeBase) (s : State) : (mTime f s).cal = s.cal := rfl
@[simp] theorem mTime_recorder (f : TimeBase → TimeBase) (s : State) : (mTime f s).recorder = s.recorder := rfl
@[simp] theorem mTime_mon (f : TimeBase → TimeBase) (s : State) : (mTime f s).mon = s.mon := rfl
@[simp] theorem mTime_pkg (f : TimeBase → TimeBase) (s : State) : (mTime f s).pkg = s.pkg := rfl
@[simp] theorem mTime_image (f : TimeBase → TimeBase) (s : State) : (mTime f s).image = s.image := rfl
@[simp] theorem mTime_accepted (f : TimeBase → TimeBase) (s : State) : (mTime f s).accepted = s.accepted := rfl
@[simp] theorem mTime_exceeded (f : TimeBase → TimeBase) (s : State) : (mTime f s).exceeded = s.exceeded := rfl
@[simp] theorem mTime_free (f : TimeBase → TimeBase) (s : State) : (mTime f s).free = s.free := rfl
@[simp] theorem mTime_outbox (f : TimeBase → TimeBase) (s : State) : (mTime f s).outbox = s.outbox := rfl
@[simp] theorem mTime_pending (f : TimeBase → TimeBase) (s : State) : (mTime f s).pending = s.pending := rfl
@[simp] theorem mStat_time (f : StatusTree → StatusTree) (s : State) : (mStat f s).time = s.time := rfl
@[simp] theorem mStat_stat (f : StatusTree → StatusTree) (s : State) : (mStat f s).stat = f s.stat := rfl
@[simp] theorem mStat_snap (f : StatusTree → StatusTree) (s : State) : (mStat f s).snap = s.snap := rfl
@[simp] theorem mStat_key (f : StatusTree → StatusTree) (s : State) : (mStat f s).key = s.key := rfl
@[simp] theorem mStat_live (f : StatusTree → StatusTree) (s : State) : (mStat f s).live = s.live := rfl
@[simp] theorem mStat_mbox (f : StatusTree → StatusTree) (s : State) : (mStat f s).mbox = s.mbox := rfl
@[simp] theorem mStat_loader (f : StatusTree → StatusTree) (s : State) : (mStat f s).loader = s.loader := rfl
@[simp] theorem mStat_img (f : StatusTree → StatusTree) (s : State) : (mStat f s).img = s.img := rfl
@[simp] theorem mStat_life (f : StatusTree → StatusTree) (s : State) : (mStat f s).life = s.life := rfl
@[simp] theorem mStat_pwr (f : StatusTree → StatusTree) (s : State) : (mStat f s).pwr = s.pwr := rfl
@[simp] theorem mStat_clk (f : StatusTree → StatusTree) (s : State) : (mStat f s).clk = s.clk := rfl
@[simp] theorem mStat_chans (f : StatusTree → StatusTree) (s : State) : (mStat f s).chans = s.chans := rfl
@[simp] theorem mStat_store (f : StatusTree → StatusTree) (s : State) : (mStat f s).store = s.store := rfl
@[simp] theorem mStat_sleeves (f : StatusTree → StatusTree) (s : State) : (mStat f s).sleeves = s.sleeves := rfl
@[simp] theorem mStat_link (f : StatusTree → StatusTree) (s : State) : (mStat f s).link = s.link := rfl
@[simp] theorem mStat_rings (f : StatusTree → StatusTree) (s : State) : (mStat f s).rings = s.rings := rfl
@[simp] theorem mStat_eng (f : StatusTree → StatusTree) (s : State) : (mStat f s).eng = s.eng := rfl
@[simp] theorem mStat_frames (f : StatusTree → StatusTree) (s : State) : (mStat f s).frames = s.frames := rfl
@[simp] theorem mStat_ssel (f : StatusTree → StatusTree) (s : State) : (mStat f s).ssel = s.ssel := rfl
@[simp] theorem mStat_traces (f : StatusTree → StatusTree) (s : State) : (mStat f s).traces = s.traces := rfl
@[simp] theorem mStat_dselTrace (f : StatusTree → StatusTree) (s : State) : (mStat f s).dselTrace = s.dselTrace := rfl
@[simp] theorem mStat_planes (f : StatusTree → StatusTree) (s : State) : (mStat f s).planes = s.planes := rfl
@[simp] theorem mStat_psel (f : StatusTree → StatusTree) (s : State) : (mStat f s).psel = s.psel := rfl
@[simp] theorem mStat_ctxs (f : StatusTree → StatusTree) (s : State) : (mStat f s).ctxs = s.ctxs := rfl
@[simp] theorem mStat_ctxSel (f : StatusTree → StatusTree) (s : State) : (mStat f s).ctxSel = s.ctxSel := rfl
@[simp] theorem mStat_trig (f : StatusTree → StatusTree) (s : State) : (mStat f s).trig = s.trig := rfl
@[simp] theorem mStat_tiu (f : StatusTree → StatusTree) (s : State) : (mStat f s).tiu = s.tiu := rfl
@[simp] theorem mStat_disk (f : StatusTree → StatusTree) (s : State) : (mStat f s).disk = s.disk := rfl
@[simp] theorem mStat_cal (f : StatusTree → StatusTree) (s : State) : (mStat f s).cal = s.cal := rfl
@[simp] theorem mStat_recorder (f : StatusTree → StatusTree) (s : State) : (mStat f s).recorder = s.recorder := rfl
@[simp] theorem mStat_mon (f : StatusTree → StatusTree) (s : State) : (mStat f s).mon = s.mon := rfl
@[simp] theorem mStat_pkg (f : StatusTree → StatusTree) (s : State) : (mStat f s).pkg = s.pkg := rfl
@[simp] theorem mStat_image (f : StatusTree → StatusTree) (s : State) : (mStat f s).image = s.image := rfl
@[simp] theorem mStat_accepted (f : StatusTree → StatusTree) (s : State) : (mStat f s).accepted = s.accepted := rfl
@[simp] theorem mStat_exceeded (f : StatusTree → StatusTree) (s : State) : (mStat f s).exceeded = s.exceeded := rfl
@[simp] theorem mStat_free (f : StatusTree → StatusTree) (s : State) : (mStat f s).free = s.free := rfl
@[simp] theorem mStat_outbox (f : StatusTree → StatusTree) (s : State) : (mStat f s).outbox = s.outbox := rfl
@[simp] theorem mStat_pending (f : StatusTree → StatusTree) (s : State) : (mStat f s).pending = s.pending := rfl
@[simp] theorem mSnap_time (f : Snapshot → Snapshot) (s : State) : (mSnap f s).time = s.time := rfl
@[simp] theorem mSnap_stat (f : Snapshot → Snapshot) (s : State) : (mSnap f s).stat = s.stat := rfl
@[simp] theorem mSnap_snap (f : Snapshot → Snapshot) (s : State) : (mSnap f s).snap = f s.snap := rfl
@[simp] theorem mSnap_key (f : Snapshot → Snapshot) (s : State) : (mSnap f s).key = s.key := rfl
@[simp] theorem mSnap_live (f : Snapshot → Snapshot) (s : State) : (mSnap f s).live = s.live := rfl
@[simp] theorem mSnap_mbox (f : Snapshot → Snapshot) (s : State) : (mSnap f s).mbox = s.mbox := rfl
@[simp] theorem mSnap_loader (f : Snapshot → Snapshot) (s : State) : (mSnap f s).loader = s.loader := rfl
@[simp] theorem mSnap_img (f : Snapshot → Snapshot) (s : State) : (mSnap f s).img = s.img := rfl
@[simp] theorem mSnap_life (f : Snapshot → Snapshot) (s : State) : (mSnap f s).life = s.life := rfl
@[simp] theorem mSnap_pwr (f : Snapshot → Snapshot) (s : State) : (mSnap f s).pwr = s.pwr := rfl
@[simp] theorem mSnap_clk (f : Snapshot → Snapshot) (s : State) : (mSnap f s).clk = s.clk := rfl
@[simp] theorem mSnap_chans (f : Snapshot → Snapshot) (s : State) : (mSnap f s).chans = s.chans := rfl
@[simp] theorem mSnap_store (f : Snapshot → Snapshot) (s : State) : (mSnap f s).store = s.store := rfl
@[simp] theorem mSnap_sleeves (f : Snapshot → Snapshot) (s : State) : (mSnap f s).sleeves = s.sleeves := rfl
@[simp] theorem mSnap_link (f : Snapshot → Snapshot) (s : State) : (mSnap f s).link = s.link := rfl
@[simp] theorem mSnap_rings (f : Snapshot → Snapshot) (s : State) : (mSnap f s).rings = s.rings := rfl
@[simp] theorem mSnap_eng (f : Snapshot → Snapshot) (s : State) : (mSnap f s).eng = s.eng := rfl
@[simp] theorem mSnap_frames (f : Snapshot → Snapshot) (s : State) : (mSnap f s).frames = s.frames := rfl
@[simp] theorem mSnap_ssel (f : Snapshot → Snapshot) (s : State) : (mSnap f s).ssel = s.ssel := rfl
@[simp] theorem mSnap_traces (f : Snapshot → Snapshot) (s : State) : (mSnap f s).traces = s.traces := rfl
@[simp] theorem mSnap_dselTrace (f : Snapshot → Snapshot) (s : State) : (mSnap f s).dselTrace = s.dselTrace := rfl
@[simp] theorem mSnap_planes (f : Snapshot → Snapshot) (s : State) : (mSnap f s).planes = s.planes := rfl
@[simp] theorem mSnap_psel (f : Snapshot → Snapshot) (s : State) : (mSnap f s).psel = s.psel := rfl
@[simp] theorem mSnap_ctxs (f : Snapshot → Snapshot) (s : State) : (mSnap f s).ctxs = s.ctxs := rfl
@[simp] theorem mSnap_ctxSel (f : Snapshot → Snapshot) (s : State) : (mSnap f s).ctxSel = s.ctxSel := rfl
@[simp] theorem mSnap_trig (f : Snapshot → Snapshot) (s : State) : (mSnap f s).trig = s.trig := rfl
@[simp] theorem mSnap_tiu (f : Snapshot → Snapshot) (s : State) : (mSnap f s).tiu = s.tiu := rfl
@[simp] theorem mSnap_disk (f : Snapshot → Snapshot) (s : State) : (mSnap f s).disk = s.disk := rfl
@[simp] theorem mSnap_cal (f : Snapshot → Snapshot) (s : State) : (mSnap f s).cal = s.cal := rfl
@[simp] theorem mSnap_recorder (f : Snapshot → Snapshot) (s : State) : (mSnap f s).recorder = s.recorder := rfl
@[simp] theorem mSnap_mon (f : Snapshot → Snapshot) (s : State) : (mSnap f s).mon = s.mon := rfl
@[simp] theorem mSnap_pkg (f : Snapshot → Snapshot) (s : State) : (mSnap f s).pkg = s.pkg := rfl
@[simp] theorem mSnap_image (f : Snapshot → Snapshot) (s : State) : (mSnap f s).image = s.image := rfl
@[simp] theorem mSnap_accepted (f : Snapshot → Snapshot) (s : State) : (mSnap f s).accepted = s.accepted := rfl
@[simp] theorem mSnap_exceeded (f : Snapshot → Snapshot) (s : State) : (mSnap f s).exceeded = s.exceeded := rfl
@[simp] theorem mSnap_free (f : Snapshot → Snapshot) (s : State) : (mSnap f s).free = s.free := rfl
@[simp] theorem mSnap_outbox (f : Snapshot → Snapshot) (s : State) : (mSnap f s).outbox = s.outbox := rfl
@[simp] theorem mSnap_pending (f : Snapshot → Snapshot) (s : State) : (mSnap f s).pending = s.pending := rfl
@[simp] theorem mLive_time (f : LiveBank → LiveBank) (s : State) : (mLive f s).time = s.time := rfl
@[simp] theorem mLive_stat (f : LiveBank → LiveBank) (s : State) : (mLive f s).stat = s.stat := rfl
@[simp] theorem mLive_snap (f : LiveBank → LiveBank) (s : State) : (mLive f s).snap = s.snap := rfl
@[simp] theorem mLive_key (f : LiveBank → LiveBank) (s : State) : (mLive f s).key = s.key := rfl
@[simp] theorem mLive_live (f : LiveBank → LiveBank) (s : State) : (mLive f s).live = f s.live := rfl
@[simp] theorem mLive_mbox (f : LiveBank → LiveBank) (s : State) : (mLive f s).mbox = s.mbox := rfl
@[simp] theorem mLive_loader (f : LiveBank → LiveBank) (s : State) : (mLive f s).loader = s.loader := rfl
@[simp] theorem mLive_img (f : LiveBank → LiveBank) (s : State) : (mLive f s).img = s.img := rfl
@[simp] theorem mLive_life (f : LiveBank → LiveBank) (s : State) : (mLive f s).life = s.life := rfl
@[simp] theorem mLive_pwr (f : LiveBank → LiveBank) (s : State) : (mLive f s).pwr = s.pwr := rfl
@[simp] theorem mLive_clk (f : LiveBank → LiveBank) (s : State) : (mLive f s).clk = s.clk := rfl
@[simp] theorem mLive_chans (f : LiveBank → LiveBank) (s : State) : (mLive f s).chans = s.chans := rfl
@[simp] theorem mLive_store (f : LiveBank → LiveBank) (s : State) : (mLive f s).store = s.store := rfl
@[simp] theorem mLive_sleeves (f : LiveBank → LiveBank) (s : State) : (mLive f s).sleeves = s.sleeves := rfl
@[simp] theorem mLive_link (f : LiveBank → LiveBank) (s : State) : (mLive f s).link = s.link := rfl
@[simp] theorem mLive_rings (f : LiveBank → LiveBank) (s : State) : (mLive f s).rings = s.rings := rfl
@[simp] theorem mLive_eng (f : LiveBank → LiveBank) (s : State) : (mLive f s).eng = s.eng := rfl
@[simp] theorem mLive_frames (f : LiveBank → LiveBank) (s : State) : (mLive f s).frames = s.frames := rfl
@[simp] theorem mLive_ssel (f : LiveBank → LiveBank) (s : State) : (mLive f s).ssel = s.ssel := rfl
@[simp] theorem mLive_traces (f : LiveBank → LiveBank) (s : State) : (mLive f s).traces = s.traces := rfl
@[simp] theorem mLive_dselTrace (f : LiveBank → LiveBank) (s : State) : (mLive f s).dselTrace = s.dselTrace := rfl
@[simp] theorem mLive_planes (f : LiveBank → LiveBank) (s : State) : (mLive f s).planes = s.planes := rfl
@[simp] theorem mLive_psel (f : LiveBank → LiveBank) (s : State) : (mLive f s).psel = s.psel := rfl
@[simp] theorem mLive_ctxs (f : LiveBank → LiveBank) (s : State) : (mLive f s).ctxs = s.ctxs := rfl
@[simp] theorem mLive_ctxSel (f : LiveBank → LiveBank) (s : State) : (mLive f s).ctxSel = s.ctxSel := rfl
@[simp] theorem mLive_trig (f : LiveBank → LiveBank) (s : State) : (mLive f s).trig = s.trig := rfl
@[simp] theorem mLive_tiu (f : LiveBank → LiveBank) (s : State) : (mLive f s).tiu = s.tiu := rfl
@[simp] theorem mLive_disk (f : LiveBank → LiveBank) (s : State) : (mLive f s).disk = s.disk := rfl
@[simp] theorem mLive_cal (f : LiveBank → LiveBank) (s : State) : (mLive f s).cal = s.cal := rfl
@[simp] theorem mLive_recorder (f : LiveBank → LiveBank) (s : State) : (mLive f s).recorder = s.recorder := rfl
@[simp] theorem mLive_mon (f : LiveBank → LiveBank) (s : State) : (mLive f s).mon = s.mon := rfl
@[simp] theorem mLive_pkg (f : LiveBank → LiveBank) (s : State) : (mLive f s).pkg = s.pkg := rfl
@[simp] theorem mLive_image (f : LiveBank → LiveBank) (s : State) : (mLive f s).image = s.image := rfl
@[simp] theorem mLive_accepted (f : LiveBank → LiveBank) (s : State) : (mLive f s).accepted = s.accepted := rfl
@[simp] theorem mLive_exceeded (f : LiveBank → LiveBank) (s : State) : (mLive f s).exceeded = s.exceeded := rfl
@[simp] theorem mLive_free (f : LiveBank → LiveBank) (s : State) : (mLive f s).free = s.free := rfl
@[simp] theorem mLive_outbox (f : LiveBank → LiveBank) (s : State) : (mLive f s).outbox = s.outbox := rfl
@[simp] theorem mLive_pending (f : LiveBank → LiveBank) (s : State) : (mLive f s).pending = s.pending := rfl
@[simp] theorem mMbox_time (f : Mailbox → Mailbox) (s : State) : (mMbox f s).time = s.time := rfl
@[simp] theorem mMbox_stat (f : Mailbox → Mailbox) (s : State) : (mMbox f s).stat = s.stat := rfl
@[simp] theorem mMbox_snap (f : Mailbox → Mailbox) (s : State) : (mMbox f s).snap = s.snap := rfl
@[simp] theorem mMbox_key (f : Mailbox → Mailbox) (s : State) : (mMbox f s).key = s.key := rfl
@[simp] theorem mMbox_live (f : Mailbox → Mailbox) (s : State) : (mMbox f s).live = s.live := rfl
@[simp] theorem mMbox_mbox (f : Mailbox → Mailbox) (s : State) : (mMbox f s).mbox = f s.mbox := rfl
@[simp] theorem mMbox_loader (f : Mailbox → Mailbox) (s : State) : (mMbox f s).loader = s.loader := rfl
@[simp] theorem mMbox_img (f : Mailbox → Mailbox) (s : State) : (mMbox f s).img = s.img := rfl
@[simp] theorem mMbox_life (f : Mailbox → Mailbox) (s : State) : (mMbox f s).life = s.life := rfl
@[simp] theorem mMbox_pwr (f : Mailbox → Mailbox) (s : State) : (mMbox f s).pwr = s.pwr := rfl
@[simp] theorem mMbox_clk (f : Mailbox → Mailbox) (s : State) : (mMbox f s).clk = s.clk := rfl
@[simp] theorem mMbox_chans (f : Mailbox → Mailbox) (s : State) : (mMbox f s).chans = s.chans := rfl
@[simp] theorem mMbox_store (f : Mailbox → Mailbox) (s : State) : (mMbox f s).store = s.store := rfl
@[simp] theorem mMbox_sleeves (f : Mailbox → Mailbox) (s : State) : (mMbox f s).sleeves = s.sleeves := rfl
@[simp] theorem mMbox_link (f : Mailbox → Mailbox) (s : State) : (mMbox f s).link = s.link := rfl
@[simp] theorem mMbox_rings (f : Mailbox → Mailbox) (s : State) : (mMbox f s).rings = s.rings := rfl
@[simp] theorem mMbox_eng (f : Mailbox → Mailbox) (s : State) : (mMbox f s).eng = s.eng := rfl
@[simp] theorem mMbox_frames (f : Mailbox → Mailbox) (s : State) : (mMbox f s).frames = s.frames := rfl
@[simp] theorem mMbox_ssel (f : Mailbox → Mailbox) (s : State) : (mMbox f s).ssel = s.ssel := rfl
@[simp] theorem mMbox_traces (f : Mailbox → Mailbox) (s : State) : (mMbox f s).traces = s.traces := rfl
@[simp] theorem mMbox_dselTrace (f : Mailbox → Mailbox) (s : State) : (mMbox f s).dselTrace = s.dselTrace := rfl
@[simp] theorem mMbox_planes (f : Mailbox → Mailbox) (s : State) : (mMbox f s).planes = s.planes := rfl
@[simp] theorem mMbox_psel (f : Mailbox → Mailbox) (s : State) : (mMbox f s).psel = s.psel := rfl
@[simp] theorem mMbox_ctxs (f : Mailbox → Mailbox) (s : State) : (mMbox f s).ctxs = s.ctxs := rfl
@[simp] theorem mMbox_ctxSel (f : Mailbox → Mailbox) (s : State) : (mMbox f s).ctxSel = s.ctxSel := rfl
@[simp] theorem mMbox_trig (f : Mailbox → Mailbox) (s : State) : (mMbox f s).trig = s.trig := rfl
@[simp] theorem mMbox_tiu (f : Mailbox → Mailbox) (s : State) : (mMbox f s).tiu = s.tiu := rfl
@[simp] theorem mMbox_disk (f : Mailbox → Mailbox) (s : State) : (mMbox f s).disk = s.disk := rfl
@[simp] theorem mMbox_cal (f : Mailbox → Mailbox) (s : State) : (mMbox f s).cal = s.cal := rfl
@[simp] theorem mMbox_recorder (f : Mailbox → Mailbox) (s : State) : (mMbox f s).recorder = s.recorder := rfl
@[simp] theorem mMbox_mon (f : Mailbox → Mailbox) (s : State) : (mMbox f s).mon = s.mon := rfl
@[simp] theorem mMbox_pkg (f : Mailbox → Mailbox) (s : State) : (mMbox f s).pkg = s.pkg := rfl
@[simp] theorem mMbox_image (f : Mailbox → Mailbox) (s : State) : (mMbox f s).image = s.image := rfl
@[simp] theorem mMbox_accepted (f : Mailbox → Mailbox) (s : State) : (mMbox f s).accepted = s.accepted := rfl
@[simp] theorem mMbox_exceeded (f : Mailbox → Mailbox) (s : State) : (mMbox f s).exceeded = s.exceeded := rfl
@[simp] theorem mMbox_free (f : Mailbox → Mailbox) (s : State) : (mMbox f s).free = s.free := rfl
@[simp] theorem mMbox_outbox (f : Mailbox → Mailbox) (s : State) : (mMbox f s).outbox = s.outbox := rfl
@[simp] theorem mMbox_pending (f : Mailbox → Mailbox) (s : State) : (mMbox f s).pending = s.pending := rfl
@[simp] theorem mLoader_time (f : Loader → Loader) (s : State) : (mLoader f s).time = s.time := rfl
@[simp] theorem mLoader_stat (f : Loader → Loader) (s : State) : (mLoader f s).stat = s.stat := rfl
@[simp] theorem mLoader_snap (f : Loader → Loader) (s : State) : (mLoader f s).snap = s.snap := rfl
@[simp] theorem mLoader_key (f : Loader → Loader) (s : State) : (mLoader f s).key = s.key := rfl
@[simp] theorem mLoader_live (f : Loader → Loader) (s : State) : (mLoader f s).live = s.live := rfl
@[simp] theorem mLoader_mbox (f : Loader → Loader) (s : State) : (mLoader f s).mbox = s.mbox := rfl
@[simp] theorem mLoader_loader (f : Loader → Loader) (s : State) : (mLoader f s).loader = f s.loader := rfl
@[simp] theorem mLoader_img (f : Loader → Loader) (s : State) : (mLoader f s).img = s.img := rfl
@[simp] theorem mLoader_life (f : Loader → Loader) (s : State) : (mLoader f s).life = s.life := rfl
@[simp] theorem mLoader_pwr (f : Loader → Loader) (s : State) : (mLoader f s).pwr = s.pwr := rfl
@[simp] theorem mLoader_clk (f : Loader → Loader) (s : State) : (mLoader f s).clk = s.clk := rfl
@[simp] theorem mLoader_chans (f : Loader → Loader) (s : State) : (mLoader f s).chans = s.chans := rfl
@[simp] theorem mLoader_store (f : Loader → Loader) (s : State) : (mLoader f s).store = s.store := rfl
@[simp] theorem mLoader_sleeves (f : Loader → Loader) (s : State) : (mLoader f s).sleeves = s.sleeves := rfl
@[simp] theorem mLoader_link (f : Loader → Loader) (s : State) : (mLoader f s).link = s.link := rfl
@[simp] theorem mLoader_rings (f : Loader → Loader) (s : State) : (mLoader f s).rings = s.rings := rfl
@[simp] theorem mLoader_eng (f : Loader → Loader) (s : State) : (mLoader f s).eng = s.eng := rfl
@[simp] theorem mLoader_frames (f : Loader → Loader) (s : State) : (mLoader f s).frames = s.frames := rfl
@[simp] theorem mLoader_ssel (f : Loader → Loader) (s : State) : (mLoader f s).ssel = s.ssel := rfl
@[simp] theorem mLoader_traces (f : Loader → Loader) (s : State) : (mLoader f s).traces = s.traces := rfl
@[simp] theorem mLoader_dselTrace (f : Loader → Loader) (s : State) : (mLoader f s).dselTrace = s.dselTrace := rfl
@[simp] theorem mLoader_planes (f : Loader → Loader) (s : State) : (mLoader f s).planes = s.planes := rfl
@[simp] theorem mLoader_psel (f : Loader → Loader) (s : State) : (mLoader f s).psel = s.psel := rfl
@[simp] theorem mLoader_ctxs (f : Loader → Loader) (s : State) : (mLoader f s).ctxs = s.ctxs := rfl
@[simp] theorem mLoader_ctxSel (f : Loader → Loader) (s : State) : (mLoader f s).ctxSel = s.ctxSel := rfl
@[simp] theorem mLoader_trig (f : Loader → Loader) (s : State) : (mLoader f s).trig = s.trig := rfl
@[simp] theorem mLoader_tiu (f : Loader → Loader) (s : State) : (mLoader f s).tiu = s.tiu := rfl
@[simp] theorem mLoader_disk (f : Loader → Loader) (s : State) : (mLoader f s).disk = s.disk := rfl
@[simp] theorem mLoader_cal (f : Loader → Loader) (s : State) : (mLoader f s).cal = s.cal := rfl
@[simp] theorem mLoader_recorder (f : Loader → Loader) (s : State) : (mLoader f s).recorder = s.recorder := rfl
@[simp] theorem mLoader_mon (f : Loader → Loader) (s : State) : (mLoader f s).mon = s.mon := rfl
@[simp] theorem mLoader_pkg (f : Loader → Loader) (s : State) : (mLoader f s).pkg = s.pkg := rfl
@[simp] theorem mLoader_image (f : Loader → Loader) (s : State) : (mLoader f s).image = s.image := rfl
@[simp] theorem mLoader_accepted (f : Loader → Loader) (s : State) : (mLoader f s).accepted = s.accepted := rfl
@[simp] theorem mLoader_exceeded (f : Loader → Loader) (s : State) : (mLoader f s).exceeded = s.exceeded := rfl
@[simp] theorem mLoader_free (f : Loader → Loader) (s : State) : (mLoader f s).free = s.free := rfl
@[simp] theorem mLoader_outbox (f : Loader → Loader) (s : State) : (mLoader f s).outbox = s.outbox := rfl
@[simp] theorem mLoader_pending (f : Loader → Loader) (s : State) : (mLoader f s).pending = s.pending := rfl
@[simp] theorem mImg_time (f : ImgRegs → ImgRegs) (s : State) : (mImg f s).time = s.time := rfl
@[simp] theorem mImg_stat (f : ImgRegs → ImgRegs) (s : State) : (mImg f s).stat = s.stat := rfl
@[simp] theorem mImg_snap (f : ImgRegs → ImgRegs) (s : State) : (mImg f s).snap = s.snap := rfl
@[simp] theorem mImg_key (f : ImgRegs → ImgRegs) (s : State) : (mImg f s).key = s.key := rfl
@[simp] theorem mImg_live (f : ImgRegs → ImgRegs) (s : State) : (mImg f s).live = s.live := rfl
@[simp] theorem mImg_mbox (f : ImgRegs → ImgRegs) (s : State) : (mImg f s).mbox = s.mbox := rfl
@[simp] theorem mImg_loader (f : ImgRegs → ImgRegs) (s : State) : (mImg f s).loader = s.loader := rfl
@[simp] theorem mImg_img (f : ImgRegs → ImgRegs) (s : State) : (mImg f s).img = f s.img := rfl
@[simp] theorem mImg_life (f : ImgRegs → ImgRegs) (s : State) : (mImg f s).life = s.life := rfl
@[simp] theorem mImg_pwr (f : ImgRegs → ImgRegs) (s : State) : (mImg f s).pwr = s.pwr := rfl
@[simp] theorem mImg_clk (f : ImgRegs → ImgRegs) (s : State) : (mImg f s).clk = s.clk := rfl
@[simp] theorem mImg_chans (f : ImgRegs → ImgRegs) (s : State) : (mImg f s).chans = s.chans := rfl
@[simp] theorem mImg_store (f : ImgRegs → ImgRegs) (s : State) : (mImg f s).store = s.store := rfl
@[simp] theorem mImg_sleeves (f : ImgRegs → ImgRegs) (s : State) : (mImg f s).sleeves = s.sleeves := rfl
@[simp] theorem mImg_link (f : ImgRegs → ImgRegs) (s : State) : (mImg f s).link = s.link := rfl
@[simp] theorem mImg_rings (f : ImgRegs → ImgRegs) (s : State) : (mImg f s).rings = s.rings := rfl
@[simp] theorem mImg_eng (f : ImgRegs → ImgRegs) (s : State) : (mImg f s).eng = s.eng := rfl
@[simp] theorem mImg_frames (f : ImgRegs → ImgRegs) (s : State) : (mImg f s).frames = s.frames := rfl
@[simp] theorem mImg_ssel (f : ImgRegs → ImgRegs) (s : State) : (mImg f s).ssel = s.ssel := rfl
@[simp] theorem mImg_traces (f : ImgRegs → ImgRegs) (s : State) : (mImg f s).traces = s.traces := rfl
@[simp] theorem mImg_dselTrace (f : ImgRegs → ImgRegs) (s : State) : (mImg f s).dselTrace = s.dselTrace := rfl
@[simp] theorem mImg_planes (f : ImgRegs → ImgRegs) (s : State) : (mImg f s).planes = s.planes := rfl
@[simp] theorem mImg_psel (f : ImgRegs → ImgRegs) (s : State) : (mImg f s).psel = s.psel := rfl
@[simp] theorem mImg_ctxs (f : ImgRegs → ImgRegs) (s : State) : (mImg f s).ctxs = s.ctxs := rfl
@[simp] theorem mImg_ctxSel (f : ImgRegs → ImgRegs) (s : State) : (mImg f s).ctxSel = s.ctxSel := rfl
@[simp] theorem mImg_trig (f : ImgRegs → ImgRegs) (s : State) : (mImg f s).trig = s.trig := rfl
@[simp] theorem mImg_tiu (f : ImgRegs → ImgRegs) (s : State) : (mImg f s).tiu = s.tiu := rfl
@[simp] theorem mImg_disk (f : ImgRegs → ImgRegs) (s : State) : (mImg f s).disk = s.disk := rfl
@[simp] theorem mImg_cal (f : ImgRegs → ImgRegs) (s : State) : (mImg f s).cal = s.cal := rfl
@[simp] theorem mImg_recorder (f : ImgRegs → ImgRegs) (s : State) : (mImg f s).recorder = s.recorder := rfl
@[simp] theorem mImg_mon (f : ImgRegs → ImgRegs) (s : State) : (mImg f s).mon = s.mon := rfl
@[simp] theorem mImg_pkg (f : ImgRegs → ImgRegs) (s : State) : (mImg f s).pkg = s.pkg := rfl
@[simp] theorem mImg_image (f : ImgRegs → ImgRegs) (s : State) : (mImg f s).image = s.image := rfl
@[simp] theorem mImg_accepted (f : ImgRegs → ImgRegs) (s : State) : (mImg f s).accepted = s.accepted := rfl
@[simp] theorem mImg_exceeded (f : ImgRegs → ImgRegs) (s : State) : (mImg f s).exceeded = s.exceeded := rfl
@[simp] theorem mImg_free (f : ImgRegs → ImgRegs) (s : State) : (mImg f s).free = s.free := rfl
@[simp] theorem mImg_outbox (f : ImgRegs → ImgRegs) (s : State) : (mImg f s).outbox = s.outbox := rfl
@[simp] theorem mImg_pending (f : ImgRegs → ImgRegs) (s : State) : (mImg f s).pending = s.pending := rfl
@[simp] theorem mLife_time (f : Life → Life) (s : State) : (mLife f s).time = s.time := rfl
@[simp] theorem mLife_stat (f : Life → Life) (s : State) : (mLife f s).stat = s.stat := rfl
@[simp] theorem mLife_snap (f : Life → Life) (s : State) : (mLife f s).snap = s.snap := rfl
@[simp] theorem mLife_key (f : Life → Life) (s : State) : (mLife f s).key = s.key := rfl
@[simp] theorem mLife_live (f : Life → Life) (s : State) : (mLife f s).live = s.live := rfl
@[simp] theorem mLife_mbox (f : Life → Life) (s : State) : (mLife f s).mbox = s.mbox := rfl
@[simp] theorem mLife_loader (f : Life → Life) (s : State) : (mLife f s).loader = s.loader := rfl
@[simp] theorem mLife_img (f : Life → Life) (s : State) : (mLife f s).img = s.img := rfl
@[simp] theorem mLife_life (f : Life → Life) (s : State) : (mLife f s).life = f s.life := rfl
@[simp] theorem mLife_pwr (f : Life → Life) (s : State) : (mLife f s).pwr = s.pwr := rfl
@[simp] theorem mLife_clk (f : Life → Life) (s : State) : (mLife f s).clk = s.clk := rfl
@[simp] theorem mLife_chans (f : Life → Life) (s : State) : (mLife f s).chans = s.chans := rfl
@[simp] theorem mLife_store (f : Life → Life) (s : State) : (mLife f s).store = s.store := rfl
@[simp] theorem mLife_sleeves (f : Life → Life) (s : State) : (mLife f s).sleeves = s.sleeves := rfl
@[simp] theorem mLife_link (f : Life → Life) (s : State) : (mLife f s).link = s.link := rfl
@[simp] theorem mLife_rings (f : Life → Life) (s : State) : (mLife f s).rings = s.rings := rfl
@[simp] theorem mLife_eng (f : Life → Life) (s : State) : (mLife f s).eng = s.eng := rfl
@[simp] theorem mLife_frames (f : Life → Life) (s : State) : (mLife f s).frames = s.frames := rfl
@[simp] theorem mLife_ssel (f : Life → Life) (s : State) : (mLife f s).ssel = s.ssel := rfl
@[simp] theorem mLife_traces (f : Life → Life) (s : State) : (mLife f s).traces = s.traces := rfl
@[simp] theorem mLife_dselTrace (f : Life → Life) (s : State) : (mLife f s).dselTrace = s.dselTrace := rfl
@[simp] theorem mLife_planes (f : Life → Life) (s : State) : (mLife f s).planes = s.planes := rfl
@[simp] theorem mLife_psel (f : Life → Life) (s : State) : (mLife f s).psel = s.psel := rfl
@[simp] theorem mLife_ctxs (f : Life → Life) (s : State) : (mLife f s).ctxs = s.ctxs := rfl
@[simp] theorem mLife_ctxSel (f : Life → Life) (s : State) : (mLife f s).ctxSel = s.ctxSel := rfl
@[simp] theorem mLife_trig (f : Life → Life) (s : State) : (mLife f s).trig = s.trig := rfl
@[simp] theorem mLife_tiu (f : Life → Life) (s : State) : (mLife f s).tiu = s.tiu := rfl
@[simp] theorem mLife_disk (f : Life → Life) (s : State) : (mLife f s).disk = s.disk := rfl
@[simp] theorem mLife_cal (f : Life → Life) (s : State) : (mLife f s).cal = s.cal := rfl
@[simp] theorem mLife_recorder (f : Life → Life) (s : State) : (mLife f s).recorder = s.recorder := rfl
@[simp] theorem mLife_mon (f : Life → Life) (s : State) : (mLife f s).mon = s.mon := rfl
@[simp] theorem mLife_pkg (f : Life → Life) (s : State) : (mLife f s).pkg = s.pkg := rfl
@[simp] theorem mLife_image (f : Life → Life) (s : State) : (mLife f s).image = s.image := rfl
@[simp] theorem mLife_accepted (f : Life → Life) (s : State) : (mLife f s).accepted = s.accepted := rfl
@[simp] theorem mLife_exceeded (f : Life → Life) (s : State) : (mLife f s).exceeded = s.exceeded := rfl
@[simp] theorem mLife_free (f : Life → Life) (s : State) : (mLife f s).free = s.free := rfl
@[simp] theorem mLife_outbox (f : Life → Life) (s : State) : (mLife f s).outbox = s.outbox := rfl
@[simp] theorem mLife_pending (f : Life → Life) (s : State) : (mLife f s).pending = s.pending := rfl
@[simp] theorem mPwr_time (f : Power → Power) (s : State) : (mPwr f s).time = s.time := rfl
@[simp] theorem mPwr_stat (f : Power → Power) (s : State) : (mPwr f s).stat = s.stat := rfl
@[simp] theorem mPwr_snap (f : Power → Power) (s : State) : (mPwr f s).snap = s.snap := rfl
@[simp] theorem mPwr_key (f : Power → Power) (s : State) : (mPwr f s).key = s.key := rfl
@[simp] theorem mPwr_live (f : Power → Power) (s : State) : (mPwr f s).live = s.live := rfl
@[simp] theorem mPwr_mbox (f : Power → Power) (s : State) : (mPwr f s).mbox = s.mbox := rfl
@[simp] theorem mPwr_loader (f : Power → Power) (s : State) : (mPwr f s).loader = s.loader := rfl
@[simp] theorem mPwr_img (f : Power → Power) (s : State) : (mPwr f s).img = s.img := rfl
@[simp] theorem mPwr_life (f : Power → Power) (s : State) : (mPwr f s).life = s.life := rfl
@[simp] theorem mPwr_pwr (f : Power → Power) (s : State) : (mPwr f s).pwr = f s.pwr := rfl
@[simp] theorem mPwr_clk (f : Power → Power) (s : State) : (mPwr f s).clk = s.clk := rfl
@[simp] theorem mPwr_chans (f : Power → Power) (s : State) : (mPwr f s).chans = s.chans := rfl
@[simp] theorem mPwr_store (f : Power → Power) (s : State) : (mPwr f s).store = s.store := rfl
@[simp] theorem mPwr_sleeves (f : Power → Power) (s : State) : (mPwr f s).sleeves = s.sleeves := rfl
@[simp] theorem mPwr_link (f : Power → Power) (s : State) : (mPwr f s).link = s.link := rfl
@[simp] theorem mPwr_rings (f : Power → Power) (s : State) : (mPwr f s).rings = s.rings := rfl
@[simp] theorem mPwr_eng (f : Power → Power) (s : State) : (mPwr f s).eng = s.eng := rfl
@[simp] theorem mPwr_frames (f : Power → Power) (s : State) : (mPwr f s).frames = s.frames := rfl
@[simp] theorem mPwr_ssel (f : Power → Power) (s : State) : (mPwr f s).ssel = s.ssel := rfl
@[simp] theorem mPwr_traces (f : Power → Power) (s : State) : (mPwr f s).traces = s.traces := rfl
@[simp] theorem mPwr_dselTrace (f : Power → Power) (s : State) : (mPwr f s).dselTrace = s.dselTrace := rfl
@[simp] theorem mPwr_planes (f : Power → Power) (s : State) : (mPwr f s).planes = s.planes := rfl
@[simp] theorem mPwr_psel (f : Power → Power) (s : State) : (mPwr f s).psel = s.psel := rfl
@[simp] theorem mPwr_ctxs (f : Power → Power) (s : State) : (mPwr f s).ctxs = s.ctxs := rfl
@[simp] theorem mPwr_ctxSel (f : Power → Power) (s : State) : (mPwr f s).ctxSel = s.ctxSel := rfl
@[simp] theorem mPwr_trig (f : Power → Power) (s : State) : (mPwr f s).trig = s.trig := rfl
@[simp] theorem mPwr_tiu (f : Power → Power) (s : State) : (mPwr f s).tiu = s.tiu := rfl
@[simp] theorem mPwr_disk (f : Power → Power) (s : State) : (mPwr f s).disk = s.disk := rfl
@[simp] theorem mPwr_cal (f : Power → Power) (s : State) : (mPwr f s).cal = s.cal := rfl
@[simp] theorem mPwr_recorder (f : Power → Power) (s : State) : (mPwr f s).recorder = s.recorder := rfl
@[simp] theorem mPwr_mon (f : Power → Power) (s : State) : (mPwr f s).mon = s.mon := rfl
@[simp] theorem mPwr_pkg (f : Power → Power) (s : State) : (mPwr f s).pkg = s.pkg := rfl
@[simp] theorem mPwr_image (f : Power → Power) (s : State) : (mPwr f s).image = s.image := rfl
@[simp] theorem mPwr_accepted (f : Power → Power) (s : State) : (mPwr f s).accepted = s.accepted := rfl
@[simp] theorem mPwr_exceeded (f : Power → Power) (s : State) : (mPwr f s).exceeded = s.exceeded := rfl
@[simp] theorem mPwr_free (f : Power → Power) (s : State) : (mPwr f s).free = s.free := rfl
@[simp] theorem mPwr_outbox (f : Power → Power) (s : State) : (mPwr f s).outbox = s.outbox := rfl
@[simp] theorem mPwr_pending (f : Power → Power) (s : State) : (mPwr f s).pending = s.pending := rfl
@[simp] theorem mClk_time (f : Clk → Clk) (s : State) : (mClk f s).time = s.time := rfl
@[simp] theorem mClk_stat (f : Clk → Clk) (s : State) : (mClk f s).stat = s.stat := rfl
@[simp] theorem mClk_snap (f : Clk → Clk) (s : State) : (mClk f s).snap = s.snap := rfl
@[simp] theorem mClk_key (f : Clk → Clk) (s : State) : (mClk f s).key = s.key := rfl
@[simp] theorem mClk_live (f : Clk → Clk) (s : State) : (mClk f s).live = s.live := rfl
@[simp] theorem mClk_mbox (f : Clk → Clk) (s : State) : (mClk f s).mbox = s.mbox := rfl
@[simp] theorem mClk_loader (f : Clk → Clk) (s : State) : (mClk f s).loader = s.loader := rfl
@[simp] theorem mClk_img (f : Clk → Clk) (s : State) : (mClk f s).img = s.img := rfl
@[simp] theorem mClk_life (f : Clk → Clk) (s : State) : (mClk f s).life = s.life := rfl
@[simp] theorem mClk_pwr (f : Clk → Clk) (s : State) : (mClk f s).pwr = s.pwr := rfl
@[simp] theorem mClk_clk (f : Clk → Clk) (s : State) : (mClk f s).clk = f s.clk := rfl
@[simp] theorem mClk_chans (f : Clk → Clk) (s : State) : (mClk f s).chans = s.chans := rfl
@[simp] theorem mClk_store (f : Clk → Clk) (s : State) : (mClk f s).store = s.store := rfl
@[simp] theorem mClk_sleeves (f : Clk → Clk) (s : State) : (mClk f s).sleeves = s.sleeves := rfl
@[simp] theorem mClk_link (f : Clk → Clk) (s : State) : (mClk f s).link = s.link := rfl
@[simp] theorem mClk_rings (f : Clk → Clk) (s : State) : (mClk f s).rings = s.rings := rfl
@[simp] theorem mClk_eng (f : Clk → Clk) (s : State) : (mClk f s).eng = s.eng := rfl
@[simp] theorem mClk_frames (f : Clk → Clk) (s : State) : (mClk f s).frames = s.frames := rfl
@[simp] theorem mClk_ssel (f : Clk → Clk) (s : State) : (mClk f s).ssel = s.ssel := rfl
@[simp] theorem mClk_traces (f : Clk → Clk) (s : State) : (mClk f s).traces = s.traces := rfl
@[simp] theorem mClk_dselTrace (f : Clk → Clk) (s : State) : (mClk f s).dselTrace = s.dselTrace := rfl
@[simp] theorem mClk_planes (f : Clk → Clk) (s : State) : (mClk f s).planes = s.planes := rfl
@[simp] theorem mClk_psel (f : Clk → Clk) (s : State) : (mClk f s).psel = s.psel := rfl
@[simp] theorem mClk_ctxs (f : Clk → Clk) (s : State) : (mClk f s).ctxs = s.ctxs := rfl
@[simp] theorem mClk_ctxSel (f : Clk → Clk) (s : State) : (mClk f s).ctxSel = s.ctxSel := rfl
@[simp] theorem mClk_trig (f : Clk → Clk) (s : State) : (mClk f s).trig = s.trig := rfl
@[simp] theorem mClk_tiu (f : Clk → Clk) (s : State) : (mClk f s).tiu = s.tiu := rfl
@[simp] theorem mClk_disk (f : Clk → Clk) (s : State) : (mClk f s).disk = s.disk := rfl
@[simp] theorem mClk_cal (f : Clk → Clk) (s : State) : (mClk f s).cal = s.cal := rfl
@[simp] theorem mClk_recorder (f : Clk → Clk) (s : State) : (mClk f s).recorder = s.recorder := rfl
@[simp] theorem mClk_mon (f : Clk → Clk) (s : State) : (mClk f s).mon = s.mon := rfl
@[simp] theorem mClk_pkg (f : Clk → Clk) (s : State) : (mClk f s).pkg = s.pkg := rfl
@[simp] theorem mClk_image (f : Clk → Clk) (s : State) : (mClk f s).image = s.image := rfl
@[simp] theorem mClk_accepted (f : Clk → Clk) (s : State) : (mClk f s).accepted = s.accepted := rfl
@[simp] theorem mClk_exceeded (f : Clk → Clk) (s : State) : (mClk f s).exceeded = s.exceeded := rfl
@[simp] theorem mClk_free (f : Clk → Clk) (s : State) : (mClk f s).free = s.free := rfl
@[simp] theorem mClk_outbox (f : Clk → Clk) (s : State) : (mClk f s).outbox = s.outbox := rfl
@[simp] theorem mClk_pending (f : Clk → Clk) (s : State) : (mClk f s).pending = s.pending := rfl
@[simp] theorem mStore_time (f : Store → Store) (s : State) : (mStore f s).time = s.time := rfl
@[simp] theorem mStore_stat (f : Store → Store) (s : State) : (mStore f s).stat = s.stat := rfl
@[simp] theorem mStore_snap (f : Store → Store) (s : State) : (mStore f s).snap = s.snap := rfl
@[simp] theorem mStore_key (f : Store → Store) (s : State) : (mStore f s).key = s.key := rfl
@[simp] theorem mStore_live (f : Store → Store) (s : State) : (mStore f s).live = s.live := rfl
@[simp] theorem mStore_mbox (f : Store → Store) (s : State) : (mStore f s).mbox = s.mbox := rfl
@[simp] theorem mStore_loader (f : Store → Store) (s : State) : (mStore f s).loader = s.loader := rfl
@[simp] theorem mStore_img (f : Store → Store) (s : State) : (mStore f s).img = s.img := rfl
@[simp] theorem mStore_life (f : Store → Store) (s : State) : (mStore f s).life = s.life := rfl
@[simp] theorem mStore_pwr (f : Store → Store) (s : State) : (mStore f s).pwr = s.pwr := rfl
@[simp] theorem mStore_clk (f : Store → Store) (s : State) : (mStore f s).clk = s.clk := rfl
@[simp] theorem mStore_chans (f : Store → Store) (s : State) : (mStore f s).chans = s.chans := rfl
@[simp] theorem mStore_store (f : Store → Store) (s : State) : (mStore f s).store = f s.store := rfl
@[simp] theorem mStore_sleeves (f : Store → Store) (s : State) : (mStore f s).sleeves = s.sleeves := rfl
@[simp] theorem mStore_link (f : Store → Store) (s : State) : (mStore f s).link = s.link := rfl
@[simp] theorem mStore_rings (f : Store → Store) (s : State) : (mStore f s).rings = s.rings := rfl
@[simp] theorem mStore_eng (f : Store → Store) (s : State) : (mStore f s).eng = s.eng := rfl
@[simp] theorem mStore_frames (f : Store → Store) (s : State) : (mStore f s).frames = s.frames := rfl
@[simp] theorem mStore_ssel (f : Store → Store) (s : State) : (mStore f s).ssel = s.ssel := rfl
@[simp] theorem mStore_traces (f : Store → Store) (s : State) : (mStore f s).traces = s.traces := rfl
@[simp] theorem mStore_dselTrace (f : Store → Store) (s : State) : (mStore f s).dselTrace = s.dselTrace := rfl
@[simp] theorem mStore_planes (f : Store → Store) (s : State) : (mStore f s).planes = s.planes := rfl
@[simp] theorem mStore_psel (f : Store → Store) (s : State) : (mStore f s).psel = s.psel := rfl
@[simp] theorem mStore_ctxs (f : Store → Store) (s : State) : (mStore f s).ctxs = s.ctxs := rfl
@[simp] theorem mStore_ctxSel (f : Store → Store) (s : State) : (mStore f s).ctxSel = s.ctxSel := rfl
@[simp] theorem mStore_trig (f : Store → Store) (s : State) : (mStore f s).trig = s.trig := rfl
@[simp] theorem mStore_tiu (f : Store → Store) (s : State) : (mStore f s).tiu = s.tiu := rfl
@[simp] theorem mStore_disk (f : Store → Store) (s : State) : (mStore f s).disk = s.disk := rfl
@[simp] theorem mStore_cal (f : Store → Store) (s : State) : (mStore f s).cal = s.cal := rfl
@[simp] theorem mStore_recorder (f : Store → Store) (s : State) : (mStore f s).recorder = s.recorder := rfl
@[simp] theorem mStore_mon (f : Store → Store) (s : State) : (mStore f s).mon = s.mon := rfl
@[simp] theorem mStore_pkg (f : Store → Store) (s : State) : (mStore f s).pkg = s.pkg := rfl
@[simp] theorem mStore_image (f : Store → Store) (s : State) : (mStore f s).image = s.image := rfl
@[simp] theorem mStore_accepted (f : Store → Store) (s : State) : (mStore f s).accepted = s.accepted := rfl
@[simp] theorem mStore_exceeded (f : Store → Store) (s : State) : (mStore f s).exceeded = s.exceeded := rfl
@[simp] theorem mStore_free (f : Store → Store) (s : State) : (mStore f s).free = s.free := rfl
@[simp] theorem mStore_outbox (f : Store → Store) (s : State) : (mStore f s).outbox = s.outbox := rfl
@[simp] theorem mStore_pending (f : Store → Store) (s : State) : (mStore f s).pending = s.pending := rfl
@[simp] theorem mLink_time (f : HostLink → HostLink) (s : State) : (mLink f s).time = s.time := rfl
@[simp] theorem mLink_stat (f : HostLink → HostLink) (s : State) : (mLink f s).stat = s.stat := rfl
@[simp] theorem mLink_snap (f : HostLink → HostLink) (s : State) : (mLink f s).snap = s.snap := rfl
@[simp] theorem mLink_key (f : HostLink → HostLink) (s : State) : (mLink f s).key = s.key := rfl
@[simp] theorem mLink_live (f : HostLink → HostLink) (s : State) : (mLink f s).live = s.live := rfl
@[simp] theorem mLink_mbox (f : HostLink → HostLink) (s : State) : (mLink f s).mbox = s.mbox := rfl
@[simp] theorem mLink_loader (f : HostLink → HostLink) (s : State) : (mLink f s).loader = s.loader := rfl
@[simp] theorem mLink_img (f : HostLink → HostLink) (s : State) : (mLink f s).img = s.img := rfl
@[simp] theorem mLink_life (f : HostLink → HostLink) (s : State) : (mLink f s).life = s.life := rfl
@[simp] theorem mLink_pwr (f : HostLink → HostLink) (s : State) : (mLink f s).pwr = s.pwr := rfl
@[simp] theorem mLink_clk (f : HostLink → HostLink) (s : State) : (mLink f s).clk = s.clk := rfl
@[simp] theorem mLink_chans (f : HostLink → HostLink) (s : State) : (mLink f s).chans = s.chans := rfl
@[simp] theorem mLink_store (f : HostLink → HostLink) (s : State) : (mLink f s).store = s.store := rfl
@[simp] theorem mLink_sleeves (f : HostLink → HostLink) (s : State) : (mLink f s).sleeves = s.sleeves := rfl
@[simp] theorem mLink_link (f : HostLink → HostLink) (s : State) : (mLink f s).link = f s.link := rfl
@[simp] theorem mLink_rings (f : HostLink → HostLink) (s : State) : (mLink f s).rings = s.rings := rfl
@[simp] theorem mLink_eng (f : HostLink → HostLink) (s : State) : (mLink f s).eng = s.eng := rfl
@[simp] theorem mLink_frames (f : HostLink → HostLink) (s : State) : (mLink f s).frames = s.frames := rfl
@[simp] theorem mLink_ssel (f : HostLink → HostLink) (s : State) : (mLink f s).ssel = s.ssel := rfl
@[simp] theorem mLink_traces (f : HostLink → HostLink) (s : State) : (mLink f s).traces = s.traces := rfl
@[simp] theorem mLink_dselTrace (f : HostLink → HostLink) (s : State) : (mLink f s).dselTrace = s.dselTrace := rfl
@[simp] theorem mLink_planes (f : HostLink → HostLink) (s : State) : (mLink f s).planes = s.planes := rfl
@[simp] theorem mLink_psel (f : HostLink → HostLink) (s : State) : (mLink f s).psel = s.psel := rfl
@[simp] theorem mLink_ctxs (f : HostLink → HostLink) (s : State) : (mLink f s).ctxs = s.ctxs := rfl
@[simp] theorem mLink_ctxSel (f : HostLink → HostLink) (s : State) : (mLink f s).ctxSel = s.ctxSel := rfl
@[simp] theorem mLink_trig (f : HostLink → HostLink) (s : State) : (mLink f s).trig = s.trig := rfl
@[simp] theorem mLink_tiu (f : HostLink → HostLink) (s : State) : (mLink f s).tiu = s.tiu := rfl
@[simp] theorem mLink_disk (f : HostLink → HostLink) (s : State) : (mLink f s).disk = s.disk := rfl
@[simp] theorem mLink_cal (f : HostLink → HostLink) (s : State) : (mLink f s).cal = s.cal := rfl
@[simp] theorem mLink_recorder (f : HostLink → HostLink) (s : State) : (mLink f s).recorder = s.recorder := rfl
@[simp] theorem mLink_mon (f : HostLink → HostLink) (s : State) : (mLink f s).mon = s.mon := rfl
@[simp] theorem mLink_pkg (f : HostLink → HostLink) (s : State) : (mLink f s).pkg = s.pkg := rfl
@[simp] theorem mLink_image (f : HostLink → HostLink) (s : State) : (mLink f s).image = s.image := rfl
@[simp] theorem mLink_accepted (f : HostLink → HostLink) (s : State) : (mLink f s).accepted = s.accepted := rfl
@[simp] theorem mLink_exceeded (f : HostLink → HostLink) (s : State) : (mLink f s).exceeded = s.exceeded := rfl
@[simp] theorem mLink_free (f : HostLink → HostLink) (s : State) : (mLink f s).free = s.free := rfl
@[simp] theorem mLink_outbox (f : HostLink → HostLink) (s : State) : (mLink f s).outbox = s.outbox := rfl
@[simp] theorem mLink_pending (f : HostLink → HostLink) (s : State) : (mLink f s).pending = s.pending := rfl
@[simp] theorem mEng_time (f : EngineArray → EngineArray) (s : State) : (mEng f s).time = s.time := rfl
@[simp] theorem mEng_stat (f : EngineArray → EngineArray) (s : State) : (mEng f s).stat = s.stat := rfl
@[simp] theorem mEng_snap (f : EngineArray → EngineArray) (s : State) : (mEng f s).snap = s.snap := rfl
@[simp] theorem mEng_key (f : EngineArray → EngineArray) (s : State) : (mEng f s).key = s.key := rfl
@[simp] theorem mEng_live (f : EngineArray → EngineArray) (s : State) : (mEng f s).live = s.live := rfl
@[simp] theorem mEng_mbox (f : EngineArray → EngineArray) (s : State) : (mEng f s).mbox = s.mbox := rfl
@[simp] theorem mEng_loader (f : EngineArray → EngineArray) (s : State) : (mEng f s).loader = s.loader := rfl
@[simp] theorem mEng_img (f : EngineArray → EngineArray) (s : State) : (mEng f s).img = s.img := rfl
@[simp] theorem mEng_life (f : EngineArray → EngineArray) (s : State) : (mEng f s).life = s.life := rfl
@[simp] theorem mEng_pwr (f : EngineArray → EngineArray) (s : State) : (mEng f s).pwr = s.pwr := rfl
@[simp] theorem mEng_clk (f : EngineArray → EngineArray) (s : State) : (mEng f s).clk = s.clk := rfl
@[simp] theorem mEng_chans (f : EngineArray → EngineArray) (s : State) : (mEng f s).chans = s.chans := rfl
@[simp] theorem mEng_store (f : EngineArray → EngineArray) (s : State) : (mEng f s).store = s.store := rfl
@[simp] theorem mEng_sleeves (f : EngineArray → EngineArray) (s : State) : (mEng f s).sleeves = s.sleeves := rfl
@[simp] theorem mEng_link (f : EngineArray → EngineArray) (s : State) : (mEng f s).link = s.link := rfl
@[simp] theorem mEng_rings (f : EngineArray → EngineArray) (s : State) : (mEng f s).rings = s.rings := rfl
@[simp] theorem mEng_eng (f : EngineArray → EngineArray) (s : State) : (mEng f s).eng = f s.eng := rfl
@[simp] theorem mEng_frames (f : EngineArray → EngineArray) (s : State) : (mEng f s).frames = s.frames := rfl
@[simp] theorem mEng_ssel (f : EngineArray → EngineArray) (s : State) : (mEng f s).ssel = s.ssel := rfl
@[simp] theorem mEng_traces (f : EngineArray → EngineArray) (s : State) : (mEng f s).traces = s.traces := rfl
@[simp] theorem mEng_dselTrace (f : EngineArray → EngineArray) (s : State) : (mEng f s).dselTrace = s.dselTrace := rfl
@[simp] theorem mEng_planes (f : EngineArray → EngineArray) (s : State) : (mEng f s).planes = s.planes := rfl
@[simp] theorem mEng_psel (f : EngineArray → EngineArray) (s : State) : (mEng f s).psel = s.psel := rfl
@[simp] theorem mEng_ctxs (f : EngineArray → EngineArray) (s : State) : (mEng f s).ctxs = s.ctxs := rfl
@[simp] theorem mEng_ctxSel (f : EngineArray → EngineArray) (s : State) : (mEng f s).ctxSel = s.ctxSel := rfl
@[simp] theorem mEng_trig (f : EngineArray → EngineArray) (s : State) : (mEng f s).trig = s.trig := rfl
@[simp] theorem mEng_tiu (f : EngineArray → EngineArray) (s : State) : (mEng f s).tiu = s.tiu := rfl
@[simp] theorem mEng_disk (f : EngineArray → EngineArray) (s : State) : (mEng f s).disk = s.disk := rfl
@[simp] theorem mEng_cal (f : EngineArray → EngineArray) (s : State) : (mEng f s).cal = s.cal := rfl
@[simp] theorem mEng_recorder (f : EngineArray → EngineArray) (s : State) : (mEng f s).recorder = s.recorder := rfl
@[simp] theorem mEng_mon (f : EngineArray → EngineArray) (s : State) : (mEng f s).mon = s.mon := rfl
@[simp] theorem mEng_pkg (f : EngineArray → EngineArray) (s : State) : (mEng f s).pkg = s.pkg := rfl
@[simp] theorem mEng_image (f : EngineArray → EngineArray) (s : State) : (mEng f s).image = s.image := rfl
@[simp] theorem mEng_accepted (f : EngineArray → EngineArray) (s : State) : (mEng f s).accepted = s.accepted := rfl
@[simp] theorem mEng_exceeded (f : EngineArray → EngineArray) (s : State) : (mEng f s).exceeded = s.exceeded := rfl
@[simp] theorem mEng_free (f : EngineArray → EngineArray) (s : State) : (mEng f s).free = s.free := rfl
@[simp] theorem mEng_outbox (f : EngineArray → EngineArray) (s : State) : (mEng f s).outbox = s.outbox := rfl
@[simp] theorem mEng_pending (f : EngineArray → EngineArray) (s : State) : (mEng f s).pending = s.pending := rfl
@[simp] theorem mTrig_time (f : Trigger → Trigger) (s : State) : (mTrig f s).time = s.time := rfl
@[simp] theorem mTrig_stat (f : Trigger → Trigger) (s : State) : (mTrig f s).stat = s.stat := rfl
@[simp] theorem mTrig_snap (f : Trigger → Trigger) (s : State) : (mTrig f s).snap = s.snap := rfl
@[simp] theorem mTrig_key (f : Trigger → Trigger) (s : State) : (mTrig f s).key = s.key := rfl
@[simp] theorem mTrig_live (f : Trigger → Trigger) (s : State) : (mTrig f s).live = s.live := rfl
@[simp] theorem mTrig_mbox (f : Trigger → Trigger) (s : State) : (mTrig f s).mbox = s.mbox := rfl
@[simp] theorem mTrig_loader (f : Trigger → Trigger) (s : State) : (mTrig f s).loader = s.loader := rfl
@[simp] theorem mTrig_img (f : Trigger → Trigger) (s : State) : (mTrig f s).img = s.img := rfl
@[simp] theorem mTrig_life (f : Trigger → Trigger) (s : State) : (mTrig f s).life = s.life := rfl
@[simp] theorem mTrig_pwr (f : Trigger → Trigger) (s : State) : (mTrig f s).pwr = s.pwr := rfl
@[simp] theorem mTrig_clk (f : Trigger → Trigger) (s : State) : (mTrig f s).clk = s.clk := rfl
@[simp] theorem mTrig_chans (f : Trigger → Trigger) (s : State) : (mTrig f s).chans = s.chans := rfl
@[simp] theorem mTrig_store (f : Trigger → Trigger) (s : State) : (mTrig f s).store = s.store := rfl
@[simp] theorem mTrig_sleeves (f : Trigger → Trigger) (s : State) : (mTrig f s).sleeves = s.sleeves := rfl
@[simp] theorem mTrig_link (f : Trigger → Trigger) (s : State) : (mTrig f s).link = s.link := rfl
@[simp] theorem mTrig_rings (f : Trigger → Trigger) (s : State) : (mTrig f s).rings = s.rings := rfl
@[simp] theorem mTrig_eng (f : Trigger → Trigger) (s : State) : (mTrig f s).eng = s.eng := rfl
@[simp] theorem mTrig_frames (f : Trigger → Trigger) (s : State) : (mTrig f s).frames = s.frames := rfl
@[simp] theorem mTrig_ssel (f : Trigger → Trigger) (s : State) : (mTrig f s).ssel = s.ssel := rfl
@[simp] theorem mTrig_traces (f : Trigger → Trigger) (s : State) : (mTrig f s).traces = s.traces := rfl
@[simp] theorem mTrig_dselTrace (f : Trigger → Trigger) (s : State) : (mTrig f s).dselTrace = s.dselTrace := rfl
@[simp] theorem mTrig_planes (f : Trigger → Trigger) (s : State) : (mTrig f s).planes = s.planes := rfl
@[simp] theorem mTrig_psel (f : Trigger → Trigger) (s : State) : (mTrig f s).psel = s.psel := rfl
@[simp] theorem mTrig_ctxs (f : Trigger → Trigger) (s : State) : (mTrig f s).ctxs = s.ctxs := rfl
@[simp] theorem mTrig_ctxSel (f : Trigger → Trigger) (s : State) : (mTrig f s).ctxSel = s.ctxSel := rfl
@[simp] theorem mTrig_trig (f : Trigger → Trigger) (s : State) : (mTrig f s).trig = f s.trig := rfl
@[simp] theorem mTrig_tiu (f : Trigger → Trigger) (s : State) : (mTrig f s).tiu = s.tiu := rfl
@[simp] theorem mTrig_disk (f : Trigger → Trigger) (s : State) : (mTrig f s).disk = s.disk := rfl
@[simp] theorem mTrig_cal (f : Trigger → Trigger) (s : State) : (mTrig f s).cal = s.cal := rfl
@[simp] theorem mTrig_recorder (f : Trigger → Trigger) (s : State) : (mTrig f s).recorder = s.recorder := rfl
@[simp] theorem mTrig_mon (f : Trigger → Trigger) (s : State) : (mTrig f s).mon = s.mon := rfl
@[simp] theorem mTrig_pkg (f : Trigger → Trigger) (s : State) : (mTrig f s).pkg = s.pkg := rfl
@[simp] theorem mTrig_image (f : Trigger → Trigger) (s : State) : (mTrig f s).image = s.image := rfl
@[simp] theorem mTrig_accepted (f : Trigger → Trigger) (s : State) : (mTrig f s).accepted = s.accepted := rfl
@[simp] theorem mTrig_exceeded (f : Trigger → Trigger) (s : State) : (mTrig f s).exceeded = s.exceeded := rfl
@[simp] theorem mTrig_free (f : Trigger → Trigger) (s : State) : (mTrig f s).free = s.free := rfl
@[simp] theorem mTrig_outbox (f : Trigger → Trigger) (s : State) : (mTrig f s).outbox = s.outbox := rfl
@[simp] theorem mTrig_pending (f : Trigger → Trigger) (s : State) : (mTrig f s).pending = s.pending := rfl
@[simp] theorem mTiu_time (f : Tiu → Tiu) (s : State) : (mTiu f s).time = s.time := rfl
@[simp] theorem mTiu_stat (f : Tiu → Tiu) (s : State) : (mTiu f s).stat = s.stat := rfl
@[simp] theorem mTiu_snap (f : Tiu → Tiu) (s : State) : (mTiu f s).snap = s.snap := rfl
@[simp] theorem mTiu_key (f : Tiu → Tiu) (s : State) : (mTiu f s).key = s.key := rfl
@[simp] theorem mTiu_live (f : Tiu → Tiu) (s : State) : (mTiu f s).live = s.live := rfl
@[simp] theorem mTiu_mbox (f : Tiu → Tiu) (s : State) : (mTiu f s).mbox = s.mbox := rfl
@[simp] theorem mTiu_loader (f : Tiu → Tiu) (s : State) : (mTiu f s).loader = s.loader := rfl
@[simp] theorem mTiu_img (f : Tiu → Tiu) (s : State) : (mTiu f s).img = s.img := rfl
@[simp] theorem mTiu_life (f : Tiu → Tiu) (s : State) : (mTiu f s).life = s.life := rfl
@[simp] theorem mTiu_pwr (f : Tiu → Tiu) (s : State) : (mTiu f s).pwr = s.pwr := rfl
@[simp] theorem mTiu_clk (f : Tiu → Tiu) (s : State) : (mTiu f s).clk = s.clk := rfl
@[simp] theorem mTiu_chans (f : Tiu → Tiu) (s : State) : (mTiu f s).chans = s.chans := rfl
@[simp] theorem mTiu_store (f : Tiu → Tiu) (s : State) : (mTiu f s).store = s.store := rfl
@[simp] theorem mTiu_sleeves (f : Tiu → Tiu) (s : State) : (mTiu f s).sleeves = s.sleeves := rfl
@[simp] theorem mTiu_link (f : Tiu → Tiu) (s : State) : (mTiu f s).link = s.link := rfl
@[simp] theorem mTiu_rings (f : Tiu → Tiu) (s : State) : (mTiu f s).rings = s.rings := rfl
@[simp] theorem mTiu_eng (f : Tiu → Tiu) (s : State) : (mTiu f s).eng = s.eng := rfl
@[simp] theorem mTiu_frames (f : Tiu → Tiu) (s : State) : (mTiu f s).frames = s.frames := rfl
@[simp] theorem mTiu_ssel (f : Tiu → Tiu) (s : State) : (mTiu f s).ssel = s.ssel := rfl
@[simp] theorem mTiu_traces (f : Tiu → Tiu) (s : State) : (mTiu f s).traces = s.traces := rfl
@[simp] theorem mTiu_dselTrace (f : Tiu → Tiu) (s : State) : (mTiu f s).dselTrace = s.dselTrace := rfl
@[simp] theorem mTiu_planes (f : Tiu → Tiu) (s : State) : (mTiu f s).planes = s.planes := rfl
@[simp] theorem mTiu_psel (f : Tiu → Tiu) (s : State) : (mTiu f s).psel = s.psel := rfl
@[simp] theorem mTiu_ctxs (f : Tiu → Tiu) (s : State) : (mTiu f s).ctxs = s.ctxs := rfl
@[simp] theorem mTiu_ctxSel (f : Tiu → Tiu) (s : State) : (mTiu f s).ctxSel = s.ctxSel := rfl
@[simp] theorem mTiu_trig (f : Tiu → Tiu) (s : State) : (mTiu f s).trig = s.trig := rfl
@[simp] theorem mTiu_tiu (f : Tiu → Tiu) (s : State) : (mTiu f s).tiu = f s.tiu := rfl
@[simp] theorem mTiu_disk (f : Tiu → Tiu) (s : State) : (mTiu f s).disk = s.disk := rfl
@[simp] theorem mTiu_cal (f : Tiu → Tiu) (s : State) : (mTiu f s).cal = s.cal := rfl
@[simp] theorem mTiu_recorder (f : Tiu → Tiu) (s : State) : (mTiu f s).recorder = s.recorder := rfl
@[simp] theorem mTiu_mon (f : Tiu → Tiu) (s : State) : (mTiu f s).mon = s.mon := rfl
@[simp] theorem mTiu_pkg (f : Tiu → Tiu) (s : State) : (mTiu f s).pkg = s.pkg := rfl
@[simp] theorem mTiu_image (f : Tiu → Tiu) (s : State) : (mTiu f s).image = s.image := rfl
@[simp] theorem mTiu_accepted (f : Tiu → Tiu) (s : State) : (mTiu f s).accepted = s.accepted := rfl
@[simp] theorem mTiu_exceeded (f : Tiu → Tiu) (s : State) : (mTiu f s).exceeded = s.exceeded := rfl
@[simp] theorem mTiu_free (f : Tiu → Tiu) (s : State) : (mTiu f s).free = s.free := rfl
@[simp] theorem mTiu_outbox (f : Tiu → Tiu) (s : State) : (mTiu f s).outbox = s.outbox := rfl
@[simp] theorem mTiu_pending (f : Tiu → Tiu) (s : State) : (mTiu f s).pending = s.pending := rfl
@[simp] theorem mDisk_time (f : Disk → Disk) (s : State) : (mDisk f s).time = s.time := rfl
@[simp] theorem mDisk_stat (f : Disk → Disk) (s : State) : (mDisk f s).stat = s.stat := rfl
@[simp] theorem mDisk_snap (f : Disk → Disk) (s : State) : (mDisk f s).snap = s.snap := rfl
@[simp] theorem mDisk_key (f : Disk → Disk) (s : State) : (mDisk f s).key = s.key := rfl
@[simp] theorem mDisk_live (f : Disk → Disk) (s : State) : (mDisk f s).live = s.live := rfl
@[simp] theorem mDisk_mbox (f : Disk → Disk) (s : State) : (mDisk f s).mbox = s.mbox := rfl
@[simp] theorem mDisk_loader (f : Disk → Disk) (s : State) : (mDisk f s).loader = s.loader := rfl
@[simp] theorem mDisk_img (f : Disk → Disk) (s : State) : (mDisk f s).img = s.img := rfl
@[simp] theorem mDisk_life (f : Disk → Disk) (s : State) : (mDisk f s).life = s.life := rfl
@[simp] theorem mDisk_pwr (f : Disk → Disk) (s : State) : (mDisk f s).pwr = s.pwr := rfl
@[simp] theorem mDisk_clk (f : Disk → Disk) (s : State) : (mDisk f s).clk = s.clk := rfl
@[simp] theorem mDisk_chans (f : Disk → Disk) (s : State) : (mDisk f s).chans = s.chans := rfl
@[simp] theorem mDisk_store (f : Disk → Disk) (s : State) : (mDisk f s).store = s.store := rfl
@[simp] theorem mDisk_sleeves (f : Disk → Disk) (s : State) : (mDisk f s).sleeves = s.sleeves := rfl
@[simp] theorem mDisk_link (f : Disk → Disk) (s : State) : (mDisk f s).link = s.link := rfl
@[simp] theorem mDisk_rings (f : Disk → Disk) (s : State) : (mDisk f s).rings = s.rings := rfl
@[simp] theorem mDisk_eng (f : Disk → Disk) (s : State) : (mDisk f s).eng = s.eng := rfl
@[simp] theorem mDisk_frames (f : Disk → Disk) (s : State) : (mDisk f s).frames = s.frames := rfl
@[simp] theorem mDisk_ssel (f : Disk → Disk) (s : State) : (mDisk f s).ssel = s.ssel := rfl
@[simp] theorem mDisk_traces (f : Disk → Disk) (s : State) : (mDisk f s).traces = s.traces := rfl
@[simp] theorem mDisk_dselTrace (f : Disk → Disk) (s : State) : (mDisk f s).dselTrace = s.dselTrace := rfl
@[simp] theorem mDisk_planes (f : Disk → Disk) (s : State) : (mDisk f s).planes = s.planes := rfl
@[simp] theorem mDisk_psel (f : Disk → Disk) (s : State) : (mDisk f s).psel = s.psel := rfl
@[simp] theorem mDisk_ctxs (f : Disk → Disk) (s : State) : (mDisk f s).ctxs = s.ctxs := rfl
@[simp] theorem mDisk_ctxSel (f : Disk → Disk) (s : State) : (mDisk f s).ctxSel = s.ctxSel := rfl
@[simp] theorem mDisk_trig (f : Disk → Disk) (s : State) : (mDisk f s).trig = s.trig := rfl
@[simp] theorem mDisk_tiu (f : Disk → Disk) (s : State) : (mDisk f s).tiu = s.tiu := rfl
@[simp] theorem mDisk_disk (f : Disk → Disk) (s : State) : (mDisk f s).disk = f s.disk := rfl
@[simp] theorem mDisk_cal (f : Disk → Disk) (s : State) : (mDisk f s).cal = s.cal := rfl
@[simp] theorem mDisk_recorder (f : Disk → Disk) (s : State) : (mDisk f s).recorder = s.recorder := rfl
@[simp] theorem mDisk_mon (f : Disk → Disk) (s : State) : (mDisk f s).mon = s.mon := rfl
@[simp] theorem mDisk_pkg (f : Disk → Disk) (s : State) : (mDisk f s).pkg = s.pkg := rfl
@[simp] theorem mDisk_image (f : Disk → Disk) (s : State) : (mDisk f s).image = s.image := rfl
@[simp] theorem mDisk_accepted (f : Disk → Disk) (s : State) : (mDisk f s).accepted = s.accepted := rfl
@[simp] theorem mDisk_exceeded (f : Disk → Disk) (s : State) : (mDisk f s).exceeded = s.exceeded := rfl
@[simp] theorem mDisk_free (f : Disk → Disk) (s : State) : (mDisk f s).free = s.free := rfl
@[simp] theorem mDisk_outbox (f : Disk → Disk) (s : State) : (mDisk f s).outbox = s.outbox := rfl
@[simp] theorem mDisk_pending (f : Disk → Disk) (s : State) : (mDisk f s).pending = s.pending := rfl
@[simp] theorem mCal_time (f : Cal → Cal) (s : State) : (mCal f s).time = s.time := rfl
@[simp] theorem mCal_stat (f : Cal → Cal) (s : State) : (mCal f s).stat = s.stat := rfl
@[simp] theorem mCal_snap (f : Cal → Cal) (s : State) : (mCal f s).snap = s.snap := rfl
@[simp] theorem mCal_key (f : Cal → Cal) (s : State) : (mCal f s).key = s.key := rfl
@[simp] theorem mCal_live (f : Cal → Cal) (s : State) : (mCal f s).live = s.live := rfl
@[simp] theorem mCal_mbox (f : Cal → Cal) (s : State) : (mCal f s).mbox = s.mbox := rfl
@[simp] theorem mCal_loader (f : Cal → Cal) (s : State) : (mCal f s).loader = s.loader := rfl
@[simp] theorem mCal_img (f : Cal → Cal) (s : State) : (mCal f s).img = s.img := rfl
@[simp] theorem mCal_life (f : Cal → Cal) (s : State) : (mCal f s).life = s.life := rfl
@[simp] theorem mCal_pwr (f : Cal → Cal) (s : State) : (mCal f s).pwr = s.pwr := rfl
@[simp] theorem mCal_clk (f : Cal → Cal) (s : State) : (mCal f s).clk = s.clk := rfl
@[simp] theorem mCal_chans (f : Cal → Cal) (s : State) : (mCal f s).chans = s.chans := rfl
@[simp] theorem mCal_store (f : Cal → Cal) (s : State) : (mCal f s).store = s.store := rfl
@[simp] theorem mCal_sleeves (f : Cal → Cal) (s : State) : (mCal f s).sleeves = s.sleeves := rfl
@[simp] theorem mCal_link (f : Cal → Cal) (s : State) : (mCal f s).link = s.link := rfl
@[simp] theorem mCal_rings (f : Cal → Cal) (s : State) : (mCal f s).rings = s.rings := rfl
@[simp] theorem mCal_eng (f : Cal → Cal) (s : State) : (mCal f s).eng = s.eng := rfl
@[simp] theorem mCal_frames (f : Cal → Cal) (s : State) : (mCal f s).frames = s.frames := rfl
@[simp] theorem mCal_ssel (f : Cal → Cal) (s : State) : (mCal f s).ssel = s.ssel := rfl
@[simp] theorem mCal_traces (f : Cal → Cal) (s : State) : (mCal f s).traces = s.traces := rfl
@[simp] theorem mCal_dselTrace (f : Cal → Cal) (s : State) : (mCal f s).dselTrace = s.dselTrace := rfl
@[simp] theorem mCal_planes (f : Cal → Cal) (s : State) : (mCal f s).planes = s.planes := rfl
@[simp] theorem mCal_psel (f : Cal → Cal) (s : State) : (mCal f s).psel = s.psel := rfl
@[simp] theorem mCal_ctxs (f : Cal → Cal) (s : State) : (mCal f s).ctxs = s.ctxs := rfl
@[simp] theorem mCal_ctxSel (f : Cal → Cal) (s : State) : (mCal f s).ctxSel = s.ctxSel := rfl
@[simp] theorem mCal_trig (f : Cal → Cal) (s : State) : (mCal f s).trig = s.trig := rfl
@[simp] theorem mCal_tiu (f : Cal → Cal) (s : State) : (mCal f s).tiu = s.tiu := rfl
@[simp] theorem mCal_disk (f : Cal → Cal) (s : State) : (mCal f s).disk = s.disk := rfl
@[simp] theorem mCal_cal (f : Cal → Cal) (s : State) : (mCal f s).cal = f s.cal := rfl
@[simp] theorem mCal_recorder (f : Cal → Cal) (s : State) : (mCal f s).recorder = s.recorder := rfl
@[simp] theorem mCal_mon (f : Cal → Cal) (s : State) : (mCal f s).mon = s.mon := rfl
@[simp] theorem mCal_pkg (f : Cal → Cal) (s : State) : (mCal f s).pkg = s.pkg := rfl
@[simp] theorem mCal_image (f : Cal → Cal) (s : State) : (mCal f s).image = s.image := rfl
@[simp] theorem mCal_accepted (f : Cal → Cal) (s : State) : (mCal f s).accepted = s.accepted := rfl
@[simp] theorem mCal_exceeded (f : Cal → Cal) (s : State) : (mCal f s).exceeded = s.exceeded := rfl
@[simp] theorem mCal_free (f : Cal → Cal) (s : State) : (mCal f s).free = s.free := rfl
@[simp] theorem mCal_outbox (f : Cal → Cal) (s : State) : (mCal f s).outbox = s.outbox := rfl
@[simp] theorem mCal_pending (f : Cal → Cal) (s : State) : (mCal f s).pending = s.pending := rfl
@[simp] theorem mRec_time (f : Recorder → Recorder) (s : State) : (mRec f s).time = s.time := rfl
@[simp] theorem mRec_stat (f : Recorder → Recorder) (s : State) : (mRec f s).stat = s.stat := rfl
@[simp] theorem mRec_snap (f : Recorder → Recorder) (s : State) : (mRec f s).snap = s.snap := rfl
@[simp] theorem mRec_key (f : Recorder → Recorder) (s : State) : (mRec f s).key = s.key := rfl
@[simp] theorem mRec_live (f : Recorder → Recorder) (s : State) : (mRec f s).live = s.live := rfl
@[simp] theorem mRec_mbox (f : Recorder → Recorder) (s : State) : (mRec f s).mbox = s.mbox := rfl
@[simp] theorem mRec_loader (f : Recorder → Recorder) (s : State) : (mRec f s).loader = s.loader := rfl
@[simp] theorem mRec_img (f : Recorder → Recorder) (s : State) : (mRec f s).img = s.img := rfl
@[simp] theorem mRec_life (f : Recorder → Recorder) (s : State) : (mRec f s).life = s.life := rfl
@[simp] theorem mRec_pwr (f : Recorder → Recorder) (s : State) : (mRec f s).pwr = s.pwr := rfl
@[simp] theorem mRec_clk (f : Recorder → Recorder) (s : State) : (mRec f s).clk = s.clk := rfl
@[simp] theorem mRec_chans (f : Recorder → Recorder) (s : State) : (mRec f s).chans = s.chans := rfl
@[simp] theorem mRec_store (f : Recorder → Recorder) (s : State) : (mRec f s).store = s.store := rfl
@[simp] theorem mRec_sleeves (f : Recorder → Recorder) (s : State) : (mRec f s).sleeves = s.sleeves := rfl
@[simp] theorem mRec_link (f : Recorder → Recorder) (s : State) : (mRec f s).link = s.link := rfl
@[simp] theorem mRec_rings (f : Recorder → Recorder) (s : State) : (mRec f s).rings = s.rings := rfl
@[simp] theorem mRec_eng (f : Recorder → Recorder) (s : State) : (mRec f s).eng = s.eng := rfl
@[simp] theorem mRec_frames (f : Recorder → Recorder) (s : State) : (mRec f s).frames = s.frames := rfl
@[simp] theorem mRec_ssel (f : Recorder → Recorder) (s : State) : (mRec f s).ssel = s.ssel := rfl
@[simp] theorem mRec_traces (f : Recorder → Recorder) (s : State) : (mRec f s).traces = s.traces := rfl
@[simp] theorem mRec_dselTrace (f : Recorder → Recorder) (s : State) : (mRec f s).dselTrace = s.dselTrace := rfl
@[simp] theorem mRec_planes (f : Recorder → Recorder) (s : State) : (mRec f s).planes = s.planes := rfl
@[simp] theorem mRec_psel (f : Recorder → Recorder) (s : State) : (mRec f s).psel = s.psel := rfl
@[simp] theorem mRec_ctxs (f : Recorder → Recorder) (s : State) : (mRec f s).ctxs = s.ctxs := rfl
@[simp] theorem mRec_ctxSel (f : Recorder → Recorder) (s : State) : (mRec f s).ctxSel = s.ctxSel := rfl
@[simp] theorem mRec_trig (f : Recorder → Recorder) (s : State) : (mRec f s).trig = s.trig := rfl
@[simp] theorem mRec_tiu (f : Recorder → Recorder) (s : State) : (mRec f s).tiu = s.tiu := rfl
@[simp] theorem mRec_disk (f : Recorder → Recorder) (s : State) : (mRec f s).disk = s.disk := rfl
@[simp] theorem mRec_cal (f : Recorder → Recorder) (s : State) : (mRec f s).cal = s.cal := rfl
@[simp] theorem mRec_recorder (f : Recorder → Recorder) (s : State) : (mRec f s).recorder = f s.recorder := rfl
@[simp] theorem mRec_mon (f : Recorder → Recorder) (s : State) : (mRec f s).mon = s.mon := rfl
@[simp] theorem mRec_pkg (f : Recorder → Recorder) (s : State) : (mRec f s).pkg = s.pkg := rfl
@[simp] theorem mRec_image (f : Recorder → Recorder) (s : State) : (mRec f s).image = s.image := rfl
@[simp] theorem mRec_accepted (f : Recorder → Recorder) (s : State) : (mRec f s).accepted = s.accepted := rfl
@[simp] theorem mRec_exceeded (f : Recorder → Recorder) (s : State) : (mRec f s).exceeded = s.exceeded := rfl
@[simp] theorem mRec_free (f : Recorder → Recorder) (s : State) : (mRec f s).free = s.free := rfl
@[simp] theorem mRec_outbox (f : Recorder → Recorder) (s : State) : (mRec f s).outbox = s.outbox := rfl
@[simp] theorem mRec_pending (f : Recorder → Recorder) (s : State) : (mRec f s).pending = s.pending := rfl
@[simp] theorem mMon_time (f : Monitor → Monitor) (s : State) : (mMon f s).time = s.time := rfl
@[simp] theorem mMon_stat (f : Monitor → Monitor) (s : State) : (mMon f s).stat = s.stat := rfl
@[simp] theorem mMon_snap (f : Monitor → Monitor) (s : State) : (mMon f s).snap = s.snap := rfl
@[simp] theorem mMon_key (f : Monitor → Monitor) (s : State) : (mMon f s).key = s.key := rfl
@[simp] theorem mMon_live (f : Monitor → Monitor) (s : State) : (mMon f s).live = s.live := rfl
@[simp] theorem mMon_mbox (f : Monitor → Monitor) (s : State) : (mMon f s).mbox = s.mbox := rfl
@[simp] theorem mMon_loader (f : Monitor → Monitor) (s : State) : (mMon f s).loader = s.loader := rfl
@[simp] theorem mMon_img (f : Monitor → Monitor) (s : State) : (mMon f s).img = s.img := rfl
@[simp] theorem mMon_life (f : Monitor → Monitor) (s : State) : (mMon f s).life = s.life := rfl
@[simp] theorem mMon_pwr (f : Monitor → Monitor) (s : State) : (mMon f s).pwr = s.pwr := rfl
@[simp] theorem mMon_clk (f : Monitor → Monitor) (s : State) : (mMon f s).clk = s.clk := rfl
@[simp] theorem mMon_chans (f : Monitor → Monitor) (s : State) : (mMon f s).chans = s.chans := rfl
@[simp] theorem mMon_store (f : Monitor → Monitor) (s : State) : (mMon f s).store = s.store := rfl
@[simp] theorem mMon_sleeves (f : Monitor → Monitor) (s : State) : (mMon f s).sleeves = s.sleeves := rfl
@[simp] theorem mMon_link (f : Monitor → Monitor) (s : State) : (mMon f s).link = s.link := rfl
@[simp] theorem mMon_rings (f : Monitor → Monitor) (s : State) : (mMon f s).rings = s.rings := rfl
@[simp] theorem mMon_eng (f : Monitor → Monitor) (s : State) : (mMon f s).eng = s.eng := rfl
@[simp] theorem mMon_frames (f : Monitor → Monitor) (s : State) : (mMon f s).frames = s.frames := rfl
@[simp] theorem mMon_ssel (f : Monitor → Monitor) (s : State) : (mMon f s).ssel = s.ssel := rfl
@[simp] theorem mMon_traces (f : Monitor → Monitor) (s : State) : (mMon f s).traces = s.traces := rfl
@[simp] theorem mMon_dselTrace (f : Monitor → Monitor) (s : State) : (mMon f s).dselTrace = s.dselTrace := rfl
@[simp] theorem mMon_planes (f : Monitor → Monitor) (s : State) : (mMon f s).planes = s.planes := rfl
@[simp] theorem mMon_psel (f : Monitor → Monitor) (s : State) : (mMon f s).psel = s.psel := rfl
@[simp] theorem mMon_ctxs (f : Monitor → Monitor) (s : State) : (mMon f s).ctxs = s.ctxs := rfl
@[simp] theorem mMon_ctxSel (f : Monitor → Monitor) (s : State) : (mMon f s).ctxSel = s.ctxSel := rfl
@[simp] theorem mMon_trig (f : Monitor → Monitor) (s : State) : (mMon f s).trig = s.trig := rfl
@[simp] theorem mMon_tiu (f : Monitor → Monitor) (s : State) : (mMon f s).tiu = s.tiu := rfl
@[simp] theorem mMon_disk (f : Monitor → Monitor) (s : State) : (mMon f s).disk = s.disk := rfl
@[simp] theorem mMon_cal (f : Monitor → Monitor) (s : State) : (mMon f s).cal = s.cal := rfl
@[simp] theorem mMon_recorder (f : Monitor → Monitor) (s : State) : (mMon f s).recorder = s.recorder := rfl
@[simp] theorem mMon_mon (f : Monitor → Monitor) (s : State) : (mMon f s).mon = f s.mon := rfl
@[simp] theorem mMon_pkg (f : Monitor → Monitor) (s : State) : (mMon f s).pkg = s.pkg := rfl
@[simp] theorem mMon_image (f : Monitor → Monitor) (s : State) : (mMon f s).image = s.image := rfl
@[simp] theorem mMon_accepted (f : Monitor → Monitor) (s : State) : (mMon f s).accepted = s.accepted := rfl
@[simp] theorem mMon_exceeded (f : Monitor → Monitor) (s : State) : (mMon f s).exceeded = s.exceeded := rfl
@[simp] theorem mMon_free (f : Monitor → Monitor) (s : State) : (mMon f s).free = s.free := rfl
@[simp] theorem mMon_outbox (f : Monitor → Monitor) (s : State) : (mMon f s).outbox = s.outbox := rfl
@[simp] theorem mMon_pending (f : Monitor → Monitor) (s : State) : (mMon f s).pending = s.pending := rfl
@[simp] theorem mPkg_time (f : Package → Package) (s : State) : (mPkg f s).time = s.time := rfl
@[simp] theorem mPkg_stat (f : Package → Package) (s : State) : (mPkg f s).stat = s.stat := rfl
@[simp] theorem mPkg_snap (f : Package → Package) (s : State) : (mPkg f s).snap = s.snap := rfl
@[simp] theorem mPkg_key (f : Package → Package) (s : State) : (mPkg f s).key = s.key := rfl
@[simp] theorem mPkg_live (f : Package → Package) (s : State) : (mPkg f s).live = s.live := rfl
@[simp] theorem mPkg_mbox (f : Package → Package) (s : State) : (mPkg f s).mbox = s.mbox := rfl
@[simp] theorem mPkg_loader (f : Package → Package) (s : State) : (mPkg f s).loader = s.loader := rfl
@[simp] theorem mPkg_img (f : Package → Package) (s : State) : (mPkg f s).img = s.img := rfl
@[simp] theorem mPkg_life (f : Package → Package) (s : State) : (mPkg f s).life = s.life := rfl
@[simp] theorem mPkg_pwr (f : Package → Package) (s : State) : (mPkg f s).pwr = s.pwr := rfl
@[simp] theorem mPkg_clk (f : Package → Package) (s : State) : (mPkg f s).clk = s.clk := rfl
@[simp] theorem mPkg_chans (f : Package → Package) (s : State) : (mPkg f s).chans = s.chans := rfl
@[simp] theorem mPkg_store (f : Package → Package) (s : State) : (mPkg f s).store = s.store := rfl
@[simp] theorem mPkg_sleeves (f : Package → Package) (s : State) : (mPkg f s).sleeves = s.sleeves := rfl
@[simp] theorem mPkg_link (f : Package → Package) (s : State) : (mPkg f s).link = s.link := rfl
@[simp] theorem mPkg_rings (f : Package → Package) (s : State) : (mPkg f s).rings = s.rings := rfl
@[simp] theorem mPkg_eng (f : Package → Package) (s : State) : (mPkg f s).eng = s.eng := rfl
@[simp] theorem mPkg_frames (f : Package → Package) (s : State) : (mPkg f s).frames = s.frames := rfl
@[simp] theorem mPkg_ssel (f : Package → Package) (s : State) : (mPkg f s).ssel = s.ssel := rfl
@[simp] theorem mPkg_traces (f : Package → Package) (s : State) : (mPkg f s).traces = s.traces := rfl
@[simp] theorem mPkg_dselTrace (f : Package → Package) (s : State) : (mPkg f s).dselTrace = s.dselTrace := rfl
@[simp] theorem mPkg_planes (f : Package → Package) (s : State) : (mPkg f s).planes = s.planes := rfl
@[simp] theorem mPkg_psel (f : Package → Package) (s : State) : (mPkg f s).psel = s.psel := rfl
@[simp] theorem mPkg_ctxs (f : Package → Package) (s : State) : (mPkg f s).ctxs = s.ctxs := rfl
@[simp] theorem mPkg_ctxSel (f : Package → Package) (s : State) : (mPkg f s).ctxSel = s.ctxSel := rfl
@[simp] theorem mPkg_trig (f : Package → Package) (s : State) : (mPkg f s).trig = s.trig := rfl
@[simp] theorem mPkg_tiu (f : Package → Package) (s : State) : (mPkg f s).tiu = s.tiu := rfl
@[simp] theorem mPkg_disk (f : Package → Package) (s : State) : (mPkg f s).disk = s.disk := rfl
@[simp] theorem mPkg_cal (f : Package → Package) (s : State) : (mPkg f s).cal = s.cal := rfl
@[simp] theorem mPkg_recorder (f : Package → Package) (s : State) : (mPkg f s).recorder = s.recorder := rfl
@[simp] theorem mPkg_mon (f : Package → Package) (s : State) : (mPkg f s).mon = s.mon := rfl
@[simp] theorem mPkg_pkg (f : Package → Package) (s : State) : (mPkg f s).pkg = f s.pkg := rfl
@[simp] theorem mPkg_image (f : Package → Package) (s : State) : (mPkg f s).image = s.image := rfl
@[simp] theorem mPkg_accepted (f : Package → Package) (s : State) : (mPkg f s).accepted = s.accepted := rfl
@[simp] theorem mPkg_exceeded (f : Package → Package) (s : State) : (mPkg f s).exceeded = s.exceeded := rfl
@[simp] theorem mPkg_free (f : Package → Package) (s : State) : (mPkg f s).free = s.free := rfl
@[simp] theorem mPkg_outbox (f : Package → Package) (s : State) : (mPkg f s).outbox = s.outbox := rfl
@[simp] theorem mPkg_pending (f : Package → Package) (s : State) : (mPkg f s).pending = s.pending := rfl
@[simp] theorem mChan_time (k : Nat) (f : Chan → Chan) (s : State) : (mChan k f s).time = s.time := rfl
@[simp] theorem mChan_stat (k : Nat) (f : Chan → Chan) (s : State) : (mChan k f s).stat = s.stat := rfl
@[simp] theorem mChan_snap (k : Nat) (f : Chan → Chan) (s : State) : (mChan k f s).snap = s.snap := rfl
@[simp] theorem mChan_key (k : Nat) (f : Chan → Chan) (s : State) : (mChan k f s).key = s.key := rfl
@[simp] theorem mChan_live (k : Nat) (f : Chan → Chan) (s : State) : (mChan k f s).live = s.live := rfl
@[simp] theorem mChan_mbox (k : Nat) (f : Chan → Chan) (s : State) : (mChan k f s).mbox = s.mbox := rfl
@[simp] theorem mChan_loader (k : Nat) (f : Chan → Chan) (s : State) : (mChan k f s).loader = s.loader := rfl
@[simp] theorem mChan_img (k : Nat) (f : Chan → Chan) (s : State) : (mChan k f s).img = s.img := rfl
@[simp] theorem mChan_life (k : Nat) (f : Chan → Chan) (s : State) : (mChan k f s).life = s.life := rfl
@[simp] theorem mChan_pwr (k : Nat) (f : Chan → Chan) (s : State) : (mChan k f s).pwr = s.pwr := rfl
@[simp] theorem mChan_clk (k : Nat) (f : Chan → Chan) (s : State) : (mChan k f s).clk = s.clk := rfl
@[simp] theorem mChan_chans (k : Nat) (f : Chan → Chan) (s : State) : (mChan k f s).chans = upd {} k f s.chans := rfl
@[simp] theorem mChan_store (k : Nat) (f : Chan → Chan) (s : State) : (mChan k f s).store = s.store := rfl
@[simp] theorem mChan_sleeves (k : Nat) (f : Chan → Chan) (s : State) : (mChan k f s).sleeves = s.sleeves := rfl
@[simp] theorem mChan_link (k : Nat) (f : Chan → Chan) (s : State) : (mChan k f s).link = s.link := rfl
@[simp] theorem mChan_rings (k : Nat) (f : Chan → Chan) (s : State) : (mChan k f s).rings = s.rings := rfl
@[simp] theorem mChan_eng (k : Nat) (f : Chan → Chan) (s : State) : (mChan k f s).eng = s.eng := rfl
@[simp] theorem mChan_frames (k : Nat) (f : Chan → Chan) (s : State) : (mChan k f s).frames = s.frames := rfl
@[simp] theorem mChan_ssel (k : Nat) (f : Chan → Chan) (s : State) : (mChan k f s).ssel = s.ssel := rfl
@[simp] theorem mChan_traces (k : Nat) (f : Chan → Chan) (s : State) : (mChan k f s).traces = s.traces := rfl
@[simp] theorem mChan_dselTrace (k : Nat) (f : Chan → Chan) (s : State) : (mChan k f s).dselTrace = s.dselTrace := rfl
@[simp] theorem mChan_planes (k : Nat) (f : Chan → Chan) (s : State) : (mChan k f s).planes = s.planes := rfl
@[simp] theorem mChan_psel (k : Nat) (f : Chan → Chan) (s : State) : (mChan k f s).psel = s.psel := rfl
@[simp] theorem mChan_ctxs (k : Nat) (f : Chan → Chan) (s : State) : (mChan k f s).ctxs = s.ctxs := rfl
@[simp] theorem mChan_ctxSel (k : Nat) (f : Chan → Chan) (s : State) : (mChan k f s).ctxSel = s.ctxSel := rfl
@[simp] theorem mChan_trig (k : Nat) (f : Chan → Chan) (s : State) : (mChan k f s).trig = s.trig := rfl
@[simp] theorem mChan_tiu (k : Nat) (f : Chan → Chan) (s : State) : (mChan k f s).tiu = s.tiu := rfl
@[simp] theorem mChan_disk (k : Nat) (f : Chan → Chan) (s : State) : (mChan k f s).disk = s.disk := rfl
@[simp] theorem mChan_cal (k : Nat) (f : Chan → Chan) (s : State) : (mChan k f s).cal = s.cal := rfl
@[simp] theorem mChan_recorder (k : Nat) (f : Chan → Chan) (s : State) : (mChan k f s).recorder = s.recorder := rfl
@[simp] theorem mChan_mon (k : Nat) (f : Chan → Chan) (s : State) : (mChan k f s).mon = s.mon := rfl
@[simp] theorem mChan_pkg (k : Nat) (f : Chan → Chan) (s : State) : (mChan k f s).pkg = s.pkg := rfl
@[simp] theorem mChan_image (k : Nat) (f : Chan → Chan) (s : State) : (mChan k f s).image = s.image := rfl
@[simp] theorem mChan_accepted (k : Nat) (f : Chan → Chan) (s : State) : (mChan k f s).accepted = s.accepted := rfl
@[simp] theorem mChan_exceeded (k : Nat) (f : Chan → Chan) (s : State) : (mChan k f s).exceeded = s.exceeded := rfl
@[simp] theorem mChan_free (k : Nat) (f : Chan → Chan) (s : State) : (mChan k f s).free = s.free := rfl
@[simp] theorem mChan_outbox (k : Nat) (f : Chan → Chan) (s : State) : (mChan k f s).outbox = s.outbox := rfl
@[simp] theorem mChan_pending (k : Nat) (f : Chan → Chan) (s : State) : (mChan k f s).pending = s.pending := rfl
@[simp] theorem mSleeve_time (k : Nat) (f : Sleeve → Sleeve) (s : State) : (mSleeve k f s).time = s.time := rfl
@[simp] theorem mSleeve_stat (k : Nat) (f : Sleeve → Sleeve) (s : State) : (mSleeve k f s).stat = s.stat := rfl
@[simp] theorem mSleeve_snap (k : Nat) (f : Sleeve → Sleeve) (s : State) : (mSleeve k f s).snap = s.snap := rfl
@[simp] theorem mSleeve_key (k : Nat) (f : Sleeve → Sleeve) (s : State) : (mSleeve k f s).key = s.key := rfl
@[simp] theorem mSleeve_live (k : Nat) (f : Sleeve → Sleeve) (s : State) : (mSleeve k f s).live = s.live := rfl
@[simp] theorem mSleeve_mbox (k : Nat) (f : Sleeve → Sleeve) (s : State) : (mSleeve k f s).mbox = s.mbox := rfl
@[simp] theorem mSleeve_loader (k : Nat) (f : Sleeve → Sleeve) (s : State) : (mSleeve k f s).loader = s.loader := rfl
@[simp] theorem mSleeve_img (k : Nat) (f : Sleeve → Sleeve) (s : State) : (mSleeve k f s).img = s.img := rfl
@[simp] theorem mSleeve_life (k : Nat) (f : Sleeve → Sleeve) (s : State) : (mSleeve k f s).life = s.life := rfl
@[simp] theorem mSleeve_pwr (k : Nat) (f : Sleeve → Sleeve) (s : State) : (mSleeve k f s).pwr = s.pwr := rfl
@[simp] theorem mSleeve_clk (k : Nat) (f : Sleeve → Sleeve) (s : State) : (mSleeve k f s).clk = s.clk := rfl
@[simp] theorem mSleeve_chans (k : Nat) (f : Sleeve → Sleeve) (s : State) : (mSleeve k f s).chans = s.chans := rfl
@[simp] theorem mSleeve_store (k : Nat) (f : Sleeve → Sleeve) (s : State) : (mSleeve k f s).store = s.store := rfl
@[simp] theorem mSleeve_sleeves (k : Nat) (f : Sleeve → Sleeve) (s : State) : (mSleeve k f s).sleeves = upd {} k f s.sleeves := rfl
@[simp] theorem mSleeve_link (k : Nat) (f : Sleeve → Sleeve) (s : State) : (mSleeve k f s).link = s.link := rfl
@[simp] theorem mSleeve_rings (k : Nat) (f : Sleeve → Sleeve) (s : State) : (mSleeve k f s).rings = s.rings := rfl
@[simp] theorem mSleeve_eng (k : Nat) (f : Sleeve → Sleeve) (s : State) : (mSleeve k f s).eng = s.eng := rfl
@[simp] theorem mSleeve_frames (k : Nat) (f : Sleeve → Sleeve) (s : State) : (mSleeve k f s).frames = s.frames := rfl
@[simp] theorem mSleeve_ssel (k : Nat) (f : Sleeve → Sleeve) (s : State) : (mSleeve k f s).ssel = s.ssel := rfl
@[simp] theorem mSleeve_traces (k : Nat) (f : Sleeve → Sleeve) (s : State) : (mSleeve k f s).traces = s.traces := rfl
@[simp] theorem mSleeve_dselTrace (k : Nat) (f : Sleeve → Sleeve) (s : State) : (mSleeve k f s).dselTrace = s.dselTrace := rfl
@[simp] theorem mSleeve_planes (k : Nat) (f : Sleeve → Sleeve) (s : State) : (mSleeve k f s).planes = s.planes := rfl
@[simp] theorem mSleeve_psel (k : Nat) (f : Sleeve → Sleeve) (s : State) : (mSleeve k f s).psel = s.psel := rfl
@[simp] theorem mSleeve_ctxs (k : Nat) (f : Sleeve → Sleeve) (s : State) : (mSleeve k f s).ctxs = s.ctxs := rfl
@[simp] theorem mSleeve_ctxSel (k : Nat) (f : Sleeve → Sleeve) (s : State) : (mSleeve k f s).ctxSel = s.ctxSel := rfl
@[simp] theorem mSleeve_trig (k : Nat) (f : Sleeve → Sleeve) (s : State) : (mSleeve k f s).trig = s.trig := rfl
@[simp] theorem mSleeve_tiu (k : Nat) (f : Sleeve → Sleeve) (s : State) : (mSleeve k f s).tiu = s.tiu := rfl
@[simp] theorem mSleeve_disk (k : Nat) (f : Sleeve → Sleeve) (s : State) : (mSleeve k f s).disk = s.disk := rfl
@[simp] theorem mSleeve_cal (k : Nat) (f : Sleeve → Sleeve) (s : State) : (mSleeve k f s).cal = s.cal := rfl
@[simp] theorem mSleeve_recorder (k : Nat) (f : Sleeve → Sleeve) (s : State) : (mSleeve k f s).recorder = s.recorder := rfl
@[simp] theorem mSleeve_mon (k : Nat) (f : Sleeve → Sleeve) (s : State) : (mSleeve k f s).mon = s.mon := rfl
@[simp] theorem mSleeve_pkg (k : Nat) (f : Sleeve → Sleeve) (s : State) : (mSleeve k f s).pkg = s.pkg := rfl
@[simp] theorem mSleeve_image (k : Nat) (f : Sleeve → Sleeve) (s : State) : (mSleeve k f s).image = s.image := rfl
@[simp] theorem mSleeve_accepted (k : Nat) (f : Sleeve → Sleeve) (s : State) : (mSleeve k f s).accepted = s.accepted := rfl
@[simp] theorem mSleeve_exceeded (k : Nat) (f : Sleeve → Sleeve) (s : State) : (mSleeve k f s).exceeded = s.exceeded := rfl
@[simp] theorem mSleeve_free (k : Nat) (f : Sleeve → Sleeve) (s : State) : (mSleeve k f s).free = s.free := rfl
@[simp] theorem mSleeve_outbox (k : Nat) (f : Sleeve → Sleeve) (s : State) : (mSleeve k f s).outbox = s.outbox := rfl
@[simp] theorem mSleeve_pending (k : Nat) (f : Sleeve → Sleeve) (s : State) : (mSleeve k f s).pending = s.pending := rfl
@[simp] theorem mRing_time (k : Nat) (f : Ring → Ring) (s : State) : (mRing k f s).time = s.time := rfl
@[simp] theorem mRing_stat (k : Nat) (f : Ring → Ring) (s : State) : (mRing k f s).stat = s.stat := rfl
@[simp] theorem mRing_snap (k : Nat) (f : Ring → Ring) (s : State) : (mRing k f s).snap = s.snap := rfl
@[simp] theorem mRing_key (k : Nat) (f : Ring → Ring) (s : State) : (mRing k f s).key = s.key := rfl
@[simp] theorem mRing_live (k : Nat) (f : Ring → Ring) (s : State) : (mRing k f s).live = s.live := rfl
@[simp] theorem mRing_mbox (k : Nat) (f : Ring → Ring) (s : State) : (mRing k f s).mbox = s.mbox := rfl
@[simp] theorem mRing_loader (k : Nat) (f : Ring → Ring) (s : State) : (mRing k f s).loader = s.loader := rfl
@[simp] theorem mRing_img (k : Nat) (f : Ring → Ring) (s : State) : (mRing k f s).img = s.img := rfl
@[simp] theorem mRing_life (k : Nat) (f : Ring → Ring) (s : State) : (mRing k f s).life = s.life := rfl
@[simp] theorem mRing_pwr (k : Nat) (f : Ring → Ring) (s : State) : (mRing k f s).pwr = s.pwr := rfl
@[simp] theorem mRing_clk (k : Nat) (f : Ring → Ring) (s : State) : (mRing k f s).clk = s.clk := rfl
@[simp] theorem mRing_chans (k : Nat) (f : Ring → Ring) (s : State) : (mRing k f s).chans = s.chans := rfl
@[simp] theorem mRing_store (k : Nat) (f : Ring → Ring) (s : State) : (mRing k f s).store = s.store := rfl
@[simp] theorem mRing_sleeves (k : Nat) (f : Ring → Ring) (s : State) : (mRing k f s).sleeves = s.sleeves := rfl
@[simp] theorem mRing_link (k : Nat) (f : Ring → Ring) (s : State) : (mRing k f s).link = s.link := rfl
@[simp] theorem mRing_rings (k : Nat) (f : Ring → Ring) (s : State) : (mRing k f s).rings = upd {} k f s.rings := rfl
@[simp] theorem mRing_eng (k : Nat) (f : Ring → Ring) (s : State) : (mRing k f s).eng = s.eng := rfl
@[simp] theorem mRing_frames (k : Nat) (f : Ring → Ring) (s : State) : (mRing k f s).frames = s.frames := rfl
@[simp] theorem mRing_ssel (k : Nat) (f : Ring → Ring) (s : State) : (mRing k f s).ssel = s.ssel := rfl
@[simp] theorem mRing_traces (k : Nat) (f : Ring → Ring) (s : State) : (mRing k f s).traces = s.traces := rfl
@[simp] theorem mRing_dselTrace (k : Nat) (f : Ring → Ring) (s : State) : (mRing k f s).dselTrace = s.dselTrace := rfl
@[simp] theorem mRing_planes (k : Nat) (f : Ring → Ring) (s : State) : (mRing k f s).planes = s.planes := rfl
@[simp] theorem mRing_psel (k : Nat) (f : Ring → Ring) (s : State) : (mRing k f s).psel = s.psel := rfl
@[simp] theorem mRing_ctxs (k : Nat) (f : Ring → Ring) (s : State) : (mRing k f s).ctxs = s.ctxs := rfl
@[simp] theorem mRing_ctxSel (k : Nat) (f : Ring → Ring) (s : State) : (mRing k f s).ctxSel = s.ctxSel := rfl
@[simp] theorem mRing_trig (k : Nat) (f : Ring → Ring) (s : State) : (mRing k f s).trig = s.trig := rfl
@[simp] theorem mRing_tiu (k : Nat) (f : Ring → Ring) (s : State) : (mRing k f s).tiu = s.tiu := rfl
@[simp] theorem mRing_disk (k : Nat) (f : Ring → Ring) (s : State) : (mRing k f s).disk = s.disk := rfl
@[simp] theorem mRing_cal (k : Nat) (f : Ring → Ring) (s : State) : (mRing k f s).cal = s.cal := rfl
@[simp] theorem mRing_recorder (k : Nat) (f : Ring → Ring) (s : State) : (mRing k f s).recorder = s.recorder := rfl
@[simp] theorem mRing_mon (k : Nat) (f : Ring → Ring) (s : State) : (mRing k f s).mon = s.mon := rfl
@[simp] theorem mRing_pkg (k : Nat) (f : Ring → Ring) (s : State) : (mRing k f s).pkg = s.pkg := rfl
@[simp] theorem mRing_image (k : Nat) (f : Ring → Ring) (s : State) : (mRing k f s).image = s.image := rfl
@[simp] theorem mRing_accepted (k : Nat) (f : Ring → Ring) (s : State) : (mRing k f s).accepted = s.accepted := rfl
@[simp] theorem mRing_exceeded (k : Nat) (f : Ring → Ring) (s : State) : (mRing k f s).exceeded = s.exceeded := rfl
@[simp] theorem mRing_free (k : Nat) (f : Ring → Ring) (s : State) : (mRing k f s).free = s.free := rfl
@[simp] theorem mRing_outbox (k : Nat) (f : Ring → Ring) (s : State) : (mRing k f s).outbox = s.outbox := rfl
@[simp] theorem mRing_pending (k : Nat) (f : Ring → Ring) (s : State) : (mRing k f s).pending = s.pending := rfl
@[simp] theorem mFrame_time (k : Nat) (f : FrameStream → FrameStream) (s : State) : (mFrame k f s).time = s.time := rfl
@[simp] theorem mFrame_stat (k : Nat) (f : FrameStream → FrameStream) (s : State) : (mFrame k f s).stat = s.stat := rfl
@[simp] theorem mFrame_snap (k : Nat) (f : FrameStream → FrameStream) (s : State) : (mFrame k f s).snap = s.snap := rfl
@[simp] theorem mFrame_key (k : Nat) (f : FrameStream → FrameStream) (s : State) : (mFrame k f s).key = s.key := rfl
@[simp] theorem mFrame_live (k : Nat) (f : FrameStream → FrameStream) (s : State) : (mFrame k f s).live = s.live := rfl
@[simp] theorem mFrame_mbox (k : Nat) (f : FrameStream → FrameStream) (s : State) : (mFrame k f s).mbox = s.mbox := rfl
@[simp] theorem mFrame_loader (k : Nat) (f : FrameStream → FrameStream) (s : State) : (mFrame k f s).loader = s.loader := rfl
@[simp] theorem mFrame_img (k : Nat) (f : FrameStream → FrameStream) (s : State) : (mFrame k f s).img = s.img := rfl
@[simp] theorem mFrame_life (k : Nat) (f : FrameStream → FrameStream) (s : State) : (mFrame k f s).life = s.life := rfl
@[simp] theorem mFrame_pwr (k : Nat) (f : FrameStream → FrameStream) (s : State) : (mFrame k f s).pwr = s.pwr := rfl
@[simp] theorem mFrame_clk (k : Nat) (f : FrameStream → FrameStream) (s : State) : (mFrame k f s).clk = s.clk := rfl
@[simp] theorem mFrame_chans (k : Nat) (f : FrameStream → FrameStream) (s : State) : (mFrame k f s).chans = s.chans := rfl
@[simp] theorem mFrame_store (k : Nat) (f : FrameStream → FrameStream) (s : State) : (mFrame k f s).store = s.store := rfl
@[simp] theorem mFrame_sleeves (k : Nat) (f : FrameStream → FrameStream) (s : State) : (mFrame k f s).sleeves = s.sleeves := rfl
@[simp] theorem mFrame_link (k : Nat) (f : FrameStream → FrameStream) (s : State) : (mFrame k f s).link = s.link := rfl
@[simp] theorem mFrame_rings (k : Nat) (f : FrameStream → FrameStream) (s : State) : (mFrame k f s).rings = s.rings := rfl
@[simp] theorem mFrame_eng (k : Nat) (f : FrameStream → FrameStream) (s : State) : (mFrame k f s).eng = s.eng := rfl
@[simp] theorem mFrame_frames (k : Nat) (f : FrameStream → FrameStream) (s : State) : (mFrame k f s).frames = upd {} k f s.frames := rfl
@[simp] theorem mFrame_ssel (k : Nat) (f : FrameStream → FrameStream) (s : State) : (mFrame k f s).ssel = s.ssel := rfl
@[simp] theorem mFrame_traces (k : Nat) (f : FrameStream → FrameStream) (s : State) : (mFrame k f s).traces = s.traces := rfl
@[simp] theorem mFrame_dselTrace (k : Nat) (f : FrameStream → FrameStream) (s : State) : (mFrame k f s).dselTrace = s.dselTrace := rfl
@[simp] theorem mFrame_planes (k : Nat) (f : FrameStream → FrameStream) (s : State) : (mFrame k f s).planes = s.planes := rfl
@[simp] theorem mFrame_psel (k : Nat) (f : FrameStream → FrameStream) (s : State) : (mFrame k f s).psel = s.psel := rfl
@[simp] theorem mFrame_ctxs (k : Nat) (f : FrameStream → FrameStream) (s : State) : (mFrame k f s).ctxs = s.ctxs := rfl
@[simp] theorem mFrame_ctxSel (k : Nat) (f : FrameStream → FrameStream) (s : State) : (mFrame k f s).ctxSel = s.ctxSel := rfl
@[simp] theorem mFrame_trig (k : Nat) (f : FrameStream → FrameStream) (s : State) : (mFrame k f s).trig = s.trig := rfl
@[simp] theorem mFrame_tiu (k : Nat) (f : FrameStream → FrameStream) (s : State) : (mFrame k f s).tiu = s.tiu := rfl
@[simp] theorem mFrame_disk (k : Nat) (f : FrameStream → FrameStream) (s : State) : (mFrame k f s).disk = s.disk := rfl
@[simp] theorem mFrame_cal (k : Nat) (f : FrameStream → FrameStream) (s : State) : (mFrame k f s).cal = s.cal := rfl
@[simp] theorem mFrame_recorder (k : Nat) (f : FrameStream → FrameStream) (s : State) : (mFrame k f s).recorder = s.recorder := rfl
@[simp] theorem mFrame_mon (k : Nat) (f : FrameStream → FrameStream) (s : State) : (mFrame k f s).mon = s.mon := rfl
@[simp] theorem mFrame_pkg (k : Nat) (f : FrameStream → FrameStream) (s : State) : (mFrame k f s).pkg = s.pkg := rfl
@[simp] theorem mFrame_image (k : Nat) (f : FrameStream → FrameStream) (s : State) : (mFrame k f s).image = s.image := rfl
@[simp] theorem mFrame_accepted (k : Nat) (f : FrameStream → FrameStream) (s : State) : (mFrame k f s).accepted = s.accepted := rfl
@[simp] theorem mFrame_exceeded (k : Nat) (f : FrameStream → FrameStream) (s : State) : (mFrame k f s).exceeded = s.exceeded := rfl
@[simp] theorem mFrame_free (k : Nat) (f : FrameStream → FrameStream) (s : State) : (mFrame k f s).free = s.free := rfl
@[simp] theorem mFrame_outbox (k : Nat) (f : FrameStream → FrameStream) (s : State) : (mFrame k f s).outbox = s.outbox := rfl
@[simp] theorem mFrame_pending (k : Nat) (f : FrameStream → FrameStream) (s : State) : (mFrame k f s).pending = s.pending := rfl
@[simp] theorem mTrace_time (k : Nat) (f : Trace → Trace) (s : State) : (mTrace k f s).time = s.time := rfl
@[simp] theorem mTrace_stat (k : Nat) (f : Trace → Trace) (s : State) : (mTrace k f s).stat = s.stat := rfl
@[simp] theorem mTrace_snap (k : Nat) (f : Trace → Trace) (s : State) : (mTrace k f s).snap = s.snap := rfl
@[simp] theorem mTrace_key (k : Nat) (f : Trace → Trace) (s : State) : (mTrace k f s).key = s.key := rfl
@[simp] theorem mTrace_live (k : Nat) (f : Trace → Trace) (s : State) : (mTrace k f s).live = s.live := rfl
@[simp] theorem mTrace_mbox (k : Nat) (f : Trace → Trace) (s : State) : (mTrace k f s).mbox = s.mbox := rfl
@[simp] theorem mTrace_loader (k : Nat) (f : Trace → Trace) (s : State) : (mTrace k f s).loader = s.loader := rfl
@[simp] theorem mTrace_img (k : Nat) (f : Trace → Trace) (s : State) : (mTrace k f s).img = s.img := rfl
@[simp] theorem mTrace_life (k : Nat) (f : Trace → Trace) (s : State) : (mTrace k f s).life = s.life := rfl
@[simp] theorem mTrace_pwr (k : Nat) (f : Trace → Trace) (s : State) : (mTrace k f s).pwr = s.pwr := rfl
@[simp] theorem mTrace_clk (k : Nat) (f : Trace → Trace) (s : State) : (mTrace k f s).clk = s.clk := rfl
@[simp] theorem mTrace_chans (k : Nat) (f : Trace → Trace) (s : State) : (mTrace k f s).chans = s.chans := rfl
@[simp] theorem mTrace_store (k : Nat) (f : Trace → Trace) (s : State) : (mTrace k f s).store = s.store := rfl
@[simp] theorem mTrace_sleeves (k : Nat) (f : Trace → Trace) (s : State) : (mTrace k f s).sleeves = s.sleeves := rfl
@[simp] theorem mTrace_link (k : Nat) (f : Trace → Trace) (s : State) : (mTrace k f s).link = s.link := rfl
@[simp] theorem mTrace_rings (k : Nat) (f : Trace → Trace) (s : State) : (mTrace k f s).rings = s.rings := rfl
@[simp] theorem mTrace_eng (k : Nat) (f : Trace → Trace) (s : State) : (mTrace k f s).eng = s.eng := rfl
@[simp] theorem mTrace_frames (k : Nat) (f : Trace → Trace) (s : State) : (mTrace k f s).frames = s.frames := rfl
@[simp] theorem mTrace_ssel (k : Nat) (f : Trace → Trace) (s : State) : (mTrace k f s).ssel = s.ssel := rfl
@[simp] theorem mTrace_traces (k : Nat) (f : Trace → Trace) (s : State) : (mTrace k f s).traces = upd {} k f s.traces := rfl
@[simp] theorem mTrace_dselTrace (k : Nat) (f : Trace → Trace) (s : State) : (mTrace k f s).dselTrace = s.dselTrace := rfl
@[simp] theorem mTrace_planes (k : Nat) (f : Trace → Trace) (s : State) : (mTrace k f s).planes = s.planes := rfl
@[simp] theorem mTrace_psel (k : Nat) (f : Trace → Trace) (s : State) : (mTrace k f s).psel = s.psel := rfl
@[simp] theorem mTrace_ctxs (k : Nat) (f : Trace → Trace) (s : State) : (mTrace k f s).ctxs = s.ctxs := rfl
@[simp] theorem mTrace_ctxSel (k : Nat) (f : Trace → Trace) (s : State) : (mTrace k f s).ctxSel = s.ctxSel := rfl
@[simp] theorem mTrace_trig (k : Nat) (f : Trace → Trace) (s : State) : (mTrace k f s).trig = s.trig := rfl
@[simp] theorem mTrace_tiu (k : Nat) (f : Trace → Trace) (s : State) : (mTrace k f s).tiu = s.tiu := rfl
@[simp] theorem mTrace_disk (k : Nat) (f : Trace → Trace) (s : State) : (mTrace k f s).disk = s.disk := rfl
@[simp] theorem mTrace_cal (k : Nat) (f : Trace → Trace) (s : State) : (mTrace k f s).cal = s.cal := rfl
@[simp] theorem mTrace_recorder (k : Nat) (f : Trace → Trace) (s : State) : (mTrace k f s).recorder = s.recorder := rfl
@[simp] theorem mTrace_mon (k : Nat) (f : Trace → Trace) (s : State) : (mTrace k f s).mon = s.mon := rfl
@[simp] theorem mTrace_pkg (k : Nat) (f : Trace → Trace) (s : State) : (mTrace k f s).pkg = s.pkg := rfl
@[simp] theorem mTrace_image (k : Nat) (f : Trace → Trace) (s : State) : (mTrace k f s).image = s.image := rfl
@[simp] theorem mTrace_accepted (k : Nat) (f : Trace → Trace) (s : State) : (mTrace k f s).accepted = s.accepted := rfl
@[simp] theorem mTrace_exceeded (k : Nat) (f : Trace → Trace) (s : State) : (mTrace k f s).exceeded = s.exceeded := rfl
@[simp] theorem mTrace_free (k : Nat) (f : Trace → Trace) (s : State) : (mTrace k f s).free = s.free := rfl
@[simp] theorem mTrace_outbox (k : Nat) (f : Trace → Trace) (s : State) : (mTrace k f s).outbox = s.outbox := rfl
@[simp] theorem mTrace_pending (k : Nat) (f : Trace → Trace) (s : State) : (mTrace k f s).pending = s.pending := rfl
@[simp] theorem mPlane_time (k : Nat) (f : Plane → Plane) (s : State) : (mPlane k f s).time = s.time := rfl
@[simp] theorem mPlane_stat (k : Nat) (f : Plane → Plane) (s : State) : (mPlane k f s).stat = s.stat := rfl
@[simp] theorem mPlane_snap (k : Nat) (f : Plane → Plane) (s : State) : (mPlane k f s).snap = s.snap := rfl
@[simp] theorem mPlane_key (k : Nat) (f : Plane → Plane) (s : State) : (mPlane k f s).key = s.key := rfl
@[simp] theorem mPlane_live (k : Nat) (f : Plane → Plane) (s : State) : (mPlane k f s).live = s.live := rfl
@[simp] theorem mPlane_mbox (k : Nat) (f : Plane → Plane) (s : State) : (mPlane k f s).mbox = s.mbox := rfl
@[simp] theorem mPlane_loader (k : Nat) (f : Plane → Plane) (s : State) : (mPlane k f s).loader = s.loader := rfl
@[simp] theorem mPlane_img (k : Nat) (f : Plane → Plane) (s : State) : (mPlane k f s).img = s.img := rfl
@[simp] theorem mPlane_life (k : Nat) (f : Plane → Plane) (s : State) : (mPlane k f s).life = s.life := rfl
@[simp] theorem mPlane_pwr (k : Nat) (f : Plane → Plane) (s : State) : (mPlane k f s).pwr = s.pwr := rfl
@[simp] theorem mPlane_clk (k : Nat) (f : Plane → Plane) (s : State) : (mPlane k f s).clk = s.clk := rfl
@[simp] theorem mPlane_chans (k : Nat) (f : Plane → Plane) (s : State) : (mPlane k f s).chans = s.chans := rfl
@[simp] theorem mPlane_store (k : Nat) (f : Plane → Plane) (s : State) : (mPlane k f s).store = s.store := rfl
@[simp] theorem mPlane_sleeves (k : Nat) (f : Plane → Plane) (s : State) : (mPlane k f s).sleeves = s.sleeves := rfl
@[simp] theorem mPlane_link (k : Nat) (f : Plane → Plane) (s : State) : (mPlane k f s).link = s.link := rfl
@[simp] theorem mPlane_rings (k : Nat) (f : Plane → Plane) (s : State) : (mPlane k f s).rings = s.rings := rfl
@[simp] theorem mPlane_eng (k : Nat) (f : Plane → Plane) (s : State) : (mPlane k f s).eng = s.eng := rfl
@[simp] theorem mPlane_frames (k : Nat) (f : Plane → Plane) (s : State) : (mPlane k f s).frames = s.frames := rfl
@[simp] theorem mPlane_ssel (k : Nat) (f : Plane → Plane) (s : State) : (mPlane k f s).ssel = s.ssel := rfl
@[simp] theorem mPlane_traces (k : Nat) (f : Plane → Plane) (s : State) : (mPlane k f s).traces = s.traces := rfl
@[simp] theorem mPlane_dselTrace (k : Nat) (f : Plane → Plane) (s : State) : (mPlane k f s).dselTrace = s.dselTrace := rfl
@[simp] theorem mPlane_planes (k : Nat) (f : Plane → Plane) (s : State) : (mPlane k f s).planes = upd {} k f s.planes := rfl
@[simp] theorem mPlane_psel (k : Nat) (f : Plane → Plane) (s : State) : (mPlane k f s).psel = s.psel := rfl
@[simp] theorem mPlane_ctxs (k : Nat) (f : Plane → Plane) (s : State) : (mPlane k f s).ctxs = s.ctxs := rfl
@[simp] theorem mPlane_ctxSel (k : Nat) (f : Plane → Plane) (s : State) : (mPlane k f s).ctxSel = s.ctxSel := rfl
@[simp] theorem mPlane_trig (k : Nat) (f : Plane → Plane) (s : State) : (mPlane k f s).trig = s.trig := rfl
@[simp] theorem mPlane_tiu (k : Nat) (f : Plane → Plane) (s : State) : (mPlane k f s).tiu = s.tiu := rfl
@[simp] theorem mPlane_disk (k : Nat) (f : Plane → Plane) (s : State) : (mPlane k f s).disk = s.disk := rfl
@[simp] theorem mPlane_cal (k : Nat) (f : Plane → Plane) (s : State) : (mPlane k f s).cal = s.cal := rfl
@[simp] theorem mPlane_recorder (k : Nat) (f : Plane → Plane) (s : State) : (mPlane k f s).recorder = s.recorder := rfl
@[simp] theorem mPlane_mon (k : Nat) (f : Plane → Plane) (s : State) : (mPlane k f s).mon = s.mon := rfl
@[simp] theorem mPlane_pkg (k : Nat) (f : Plane → Plane) (s : State) : (mPlane k f s).pkg = s.pkg := rfl
@[simp] theorem mPlane_image (k : Nat) (f : Plane → Plane) (s : State) : (mPlane k f s).image = s.image := rfl
@[simp] theorem mPlane_accepted (k : Nat) (f : Plane → Plane) (s : State) : (mPlane k f s).accepted = s.accepted := rfl
@[simp] theorem mPlane_exceeded (k : Nat) (f : Plane → Plane) (s : State) : (mPlane k f s).exceeded = s.exceeded := rfl
@[simp] theorem mPlane_free (k : Nat) (f : Plane → Plane) (s : State) : (mPlane k f s).free = s.free := rfl
@[simp] theorem mPlane_outbox (k : Nat) (f : Plane → Plane) (s : State) : (mPlane k f s).outbox = s.outbox := rfl
@[simp] theorem mPlane_pending (k : Nat) (f : Plane → Plane) (s : State) : (mPlane k f s).pending = s.pending := rfl
@[simp] theorem mCtx_time (k : Nat) (f : Context → Context) (s : State) : (mCtx k f s).time = s.time := rfl
@[simp] theorem mCtx_stat (k : Nat) (f : Context → Context) (s : State) : (mCtx k f s).stat = s.stat := rfl
@[simp] theorem mCtx_snap (k : Nat) (f : Context → Context) (s : State) : (mCtx k f s).snap = s.snap := rfl
@[simp] theorem mCtx_key (k : Nat) (f : Context → Context) (s : State) : (mCtx k f s).key = s.key := rfl
@[simp] theorem mCtx_live (k : Nat) (f : Context → Context) (s : State) : (mCtx k f s).live = s.live := rfl
@[simp] theorem mCtx_mbox (k : Nat) (f : Context → Context) (s : State) : (mCtx k f s).mbox = s.mbox := rfl
@[simp] theorem mCtx_loader (k : Nat) (f : Context → Context) (s : State) : (mCtx k f s).loader = s.loader := rfl
@[simp] theorem mCtx_img (k : Nat) (f : Context → Context) (s : State) : (mCtx k f s).img = s.img := rfl
@[simp] theorem mCtx_life (k : Nat) (f : Context → Context) (s : State) : (mCtx k f s).life = s.life := rfl
@[simp] theorem mCtx_pwr (k : Nat) (f : Context → Context) (s : State) : (mCtx k f s).pwr = s.pwr := rfl
@[simp] theorem mCtx_clk (k : Nat) (f : Context → Context) (s : State) : (mCtx k f s).clk = s.clk := rfl
@[simp] theorem mCtx_chans (k : Nat) (f : Context → Context) (s : State) : (mCtx k f s).chans = s.chans := rfl
@[simp] theorem mCtx_store (k : Nat) (f : Context → Context) (s : State) : (mCtx k f s).store = s.store := rfl
@[simp] theorem mCtx_sleeves (k : Nat) (f : Context → Context) (s : State) : (mCtx k f s).sleeves = s.sleeves := rfl
@[simp] theorem mCtx_link (k : Nat) (f : Context → Context) (s : State) : (mCtx k f s).link = s.link := rfl
@[simp] theorem mCtx_rings (k : Nat) (f : Context → Context) (s : State) : (mCtx k f s).rings = s.rings := rfl
@[simp] theorem mCtx_eng (k : Nat) (f : Context → Context) (s : State) : (mCtx k f s).eng = s.eng := rfl
@[simp] theorem mCtx_frames (k : Nat) (f : Context → Context) (s : State) : (mCtx k f s).frames = s.frames := rfl
@[simp] theorem mCtx_ssel (k : Nat) (f : Context → Context) (s : State) : (mCtx k f s).ssel = s.ssel := rfl
@[simp] theorem mCtx_traces (k : Nat) (f : Context → Context) (s : State) : (mCtx k f s).traces = s.traces := rfl
@[simp] theorem mCtx_dselTrace (k : Nat) (f : Context → Context) (s : State) : (mCtx k f s).dselTrace = s.dselTrace := rfl
@[simp] theorem mCtx_planes (k : Nat) (f : Context → Context) (s : State) : (mCtx k f s).planes = s.planes := rfl
@[simp] theorem mCtx_psel (k : Nat) (f : Context → Context) (s : State) : (mCtx k f s).psel = s.psel := rfl
@[simp] theorem mCtx_ctxs (k : Nat) (f : Context → Context) (s : State) : (mCtx k f s).ctxs = upd {} k f s.ctxs := rfl
@[simp] theorem mCtx_ctxSel (k : Nat) (f : Context → Context) (s : State) : (mCtx k f s).ctxSel = s.ctxSel := rfl
@[simp] theorem mCtx_trig (k : Nat) (f : Context → Context) (s : State) : (mCtx k f s).trig = s.trig := rfl
@[simp] theorem mCtx_tiu (k : Nat) (f : Context → Context) (s : State) : (mCtx k f s).tiu = s.tiu := rfl
@[simp] theorem mCtx_disk (k : Nat) (f : Context → Context) (s : State) : (mCtx k f s).disk = s.disk := rfl
@[simp] theorem mCtx_cal (k : Nat) (f : Context → Context) (s : State) : (mCtx k f s).cal = s.cal := rfl
@[simp] theorem mCtx_recorder (k : Nat) (f : Context → Context) (s : State) : (mCtx k f s).recorder = s.recorder := rfl
@[simp] theorem mCtx_mon (k : Nat) (f : Context → Context) (s : State) : (mCtx k f s).mon = s.mon := rfl
@[simp] theorem mCtx_pkg (k : Nat) (f : Context → Context) (s : State) : (mCtx k f s).pkg = s.pkg := rfl
@[simp] theorem mCtx_image (k : Nat) (f : Context → Context) (s : State) : (mCtx k f s).image = s.image := rfl
@[simp] theorem mCtx_accepted (k : Nat) (f : Context → Context) (s : State) : (mCtx k f s).accepted = s.accepted := rfl
@[simp] theorem mCtx_exceeded (k : Nat) (f : Context → Context) (s : State) : (mCtx k f s).exceeded = s.exceeded := rfl
@[simp] theorem mCtx_free (k : Nat) (f : Context → Context) (s : State) : (mCtx k f s).free = s.free := rfl
@[simp] theorem mCtx_outbox (k : Nat) (f : Context → Context) (s : State) : (mCtx k f s).outbox = s.outbox := rfl
@[simp] theorem mCtx_pending (k : Nat) (f : Context → Context) (s : State) : (mCtx k f s).pending = s.pending := rfl
@[simp] theorem mEngine_time (k : Nat) (f : Engine → Engine) (s : State) : (mEngine k f s).time = s.time := rfl
@[simp] theorem mEngine_stat (k : Nat) (f : Engine → Engine) (s : State) : (mEngine k f s).stat = s.stat := rfl
@[simp] theorem mEngine_snap (k : Nat) (f : Engine → Engine) (s : State) : (mEngine k f s).snap = s.snap := rfl
@[simp] theorem mEngine_key (k : Nat) (f : Engine → Engine) (s : State) : (mEngine k f s).key = s.key := rfl
@[simp] theorem mEngine_live (k : Nat) (f : Engine → Engine) (s : State) : (mEngine k f s).live = s.live := rfl
@[simp] theorem mEngine_mbox (k : Nat) (f : Engine → Engine) (s : State) : (mEngine k f s).mbox = s.mbox := rfl
@[simp] theorem mEngine_loader (k : Nat) (f : Engine → Engine) (s : State) : (mEngine k f s).loader = s.loader := rfl
@[simp] theorem mEngine_img (k : Nat) (f : Engine → Engine) (s : State) : (mEngine k f s).img = s.img := rfl
@[simp] theorem mEngine_life (k : Nat) (f : Engine → Engine) (s : State) : (mEngine k f s).life = s.life := rfl
@[simp] theorem mEngine_pwr (k : Nat) (f : Engine → Engine) (s : State) : (mEngine k f s).pwr = s.pwr := rfl
@[simp] theorem mEngine_clk (k : Nat) (f : Engine → Engine) (s : State) : (mEngine k f s).clk = s.clk := rfl
@[simp] theorem mEngine_chans (k : Nat) (f : Engine → Engine) (s : State) : (mEngine k f s).chans = s.chans := rfl
@[simp] theorem mEngine_store (k : Nat) (f : Engine → Engine) (s : State) : (mEngine k f s).store = s.store := rfl
@[simp] theorem mEngine_sleeves (k : Nat) (f : Engine → Engine) (s : State) : (mEngine k f s).sleeves = s.sleeves := rfl
@[simp] theorem mEngine_link (k : Nat) (f : Engine → Engine) (s : State) : (mEngine k f s).link = s.link := rfl
@[simp] theorem mEngine_rings (k : Nat) (f : Engine → Engine) (s : State) : (mEngine k f s).rings = s.rings := rfl
@[simp] theorem mEngine_eng (k : Nat) (f : Engine → Engine) (s : State) : (mEngine k f s).eng = { s.eng with engines := upd {} k f s.eng.engines } := rfl
@[simp] theorem mEngine_frames (k : Nat) (f : Engine → Engine) (s : State) : (mEngine k f s).frames = s.frames := rfl
@[simp] theorem mEngine_ssel (k : Nat) (f : Engine → Engine) (s : State) : (mEngine k f s).ssel = s.ssel := rfl
@[simp] theorem mEngine_traces (k : Nat) (f : Engine → Engine) (s : State) : (mEngine k f s).traces = s.traces := rfl
@[simp] theorem mEngine_dselTrace (k : Nat) (f : Engine → Engine) (s : State) : (mEngine k f s).dselTrace = s.dselTrace := rfl
@[simp] theorem mEngine_planes (k : Nat) (f : Engine → Engine) (s : State) : (mEngine k f s).planes = s.planes := rfl
@[simp] theorem mEngine_psel (k : Nat) (f : Engine → Engine) (s : State) : (mEngine k f s).psel = s.psel := rfl
@[simp] theorem mEngine_ctxs (k : Nat) (f : Engine → Engine) (s : State) : (mEngine k f s).ctxs = s.ctxs := rfl
@[simp] theorem mEngine_ctxSel (k : Nat) (f : Engine → Engine) (s : State) : (mEngine k f s).ctxSel = s.ctxSel := rfl
@[simp] theorem mEngine_trig (k : Nat) (f : Engine → Engine) (s : State) : (mEngine k f s).trig = s.trig := rfl
@[simp] theorem mEngine_tiu (k : Nat) (f : Engine → Engine) (s : State) : (mEngine k f s).tiu = s.tiu := rfl
@[simp] theorem mEngine_disk (k : Nat) (f : Engine → Engine) (s : State) : (mEngine k f s).disk = s.disk := rfl
@[simp] theorem mEngine_cal (k : Nat) (f : Engine → Engine) (s : State) : (mEngine k f s).cal = s.cal := rfl
@[simp] theorem mEngine_recorder (k : Nat) (f : Engine → Engine) (s : State) : (mEngine k f s).recorder = s.recorder := rfl
@[simp] theorem mEngine_mon (k : Nat) (f : Engine → Engine) (s : State) : (mEngine k f s).mon = s.mon := rfl
@[simp] theorem mEngine_pkg (k : Nat) (f : Engine → Engine) (s : State) : (mEngine k f s).pkg = s.pkg := rfl
@[simp] theorem mEngine_image (k : Nat) (f : Engine → Engine) (s : State) : (mEngine k f s).image = s.image := rfl
@[simp] theorem mEngine_accepted (k : Nat) (f : Engine → Engine) (s : State) : (mEngine k f s).accepted = s.accepted := rfl
@[simp] theorem mEngine_exceeded (k : Nat) (f : Engine → Engine) (s : State) : (mEngine k f s).exceeded = s.exceeded := rfl
@[simp] theorem mEngine_free (k : Nat) (f : Engine → Engine) (s : State) : (mEngine k f s).free = s.free := rfl
@[simp] theorem mEngine_outbox (k : Nat) (f : Engine → Engine) (s : State) : (mEngine k f s).outbox = s.outbox := rfl
@[simp] theorem mEngine_pending (k : Nat) (f : Engine → Engine) (s : State) : (mEngine k f s).pending = s.pending := rfl
@[simp] theorem mCond_time (k : Nat) (f : Cond → Cond) (s : State) : (mCond k f s).time = s.time := rfl
@[simp] theorem mCond_stat (k : Nat) (f : Cond → Cond) (s : State) : (mCond k f s).stat = s.stat := rfl
@[simp] theorem mCond_snap (k : Nat) (f : Cond → Cond) (s : State) : (mCond k f s).snap = s.snap := rfl
@[simp] theorem mCond_key (k : Nat) (f : Cond → Cond) (s : State) : (mCond k f s).key = s.key := rfl
@[simp] theorem mCond_live (k : Nat) (f : Cond → Cond) (s : State) : (mCond k f s).live = s.live := rfl
@[simp] theorem mCond_mbox (k : Nat) (f : Cond → Cond) (s : State) : (mCond k f s).mbox = s.mbox := rfl
@[simp] theorem mCond_loader (k : Nat) (f : Cond → Cond) (s : State) : (mCond k f s).loader = s.loader := rfl
@[simp] theorem mCond_img (k : Nat) (f : Cond → Cond) (s : State) : (mCond k f s).img = s.img := rfl
@[simp] theorem mCond_life (k : Nat) (f : Cond → Cond) (s : State) : (mCond k f s).life = s.life := rfl
@[simp] theorem mCond_pwr (k : Nat) (f : Cond → Cond) (s : State) : (mCond k f s).pwr = s.pwr := rfl
@[simp] theorem mCond_clk (k : Nat) (f : Cond → Cond) (s : State) : (mCond k f s).clk = s.clk := rfl
@[simp] theorem mCond_chans (k : Nat) (f : Cond → Cond) (s : State) : (mCond k f s).chans = s.chans := rfl
@[simp] theorem mCond_store (k : Nat) (f : Cond → Cond) (s : State) : (mCond k f s).store = s.store := rfl
@[simp] theorem mCond_sleeves (k : Nat) (f : Cond → Cond) (s : State) : (mCond k f s).sleeves = s.sleeves := rfl
@[simp] theorem mCond_link (k : Nat) (f : Cond → Cond) (s : State) : (mCond k f s).link = s.link := rfl
@[simp] theorem mCond_rings (k : Nat) (f : Cond → Cond) (s : State) : (mCond k f s).rings = s.rings := rfl
@[simp] theorem mCond_eng (k : Nat) (f : Cond → Cond) (s : State) : (mCond k f s).eng = s.eng := rfl
@[simp] theorem mCond_frames (k : Nat) (f : Cond → Cond) (s : State) : (mCond k f s).frames = s.frames := rfl
@[simp] theorem mCond_ssel (k : Nat) (f : Cond → Cond) (s : State) : (mCond k f s).ssel = s.ssel := rfl
@[simp] theorem mCond_traces (k : Nat) (f : Cond → Cond) (s : State) : (mCond k f s).traces = s.traces := rfl
@[simp] theorem mCond_dselTrace (k : Nat) (f : Cond → Cond) (s : State) : (mCond k f s).dselTrace = s.dselTrace := rfl
@[simp] theorem mCond_planes (k : Nat) (f : Cond → Cond) (s : State) : (mCond k f s).planes = s.planes := rfl
@[simp] theorem mCond_psel (k : Nat) (f : Cond → Cond) (s : State) : (mCond k f s).psel = s.psel := rfl
@[simp] theorem mCond_ctxs (k : Nat) (f : Cond → Cond) (s : State) : (mCond k f s).ctxs = s.ctxs := rfl
@[simp] theorem mCond_ctxSel (k : Nat) (f : Cond → Cond) (s : State) : (mCond k f s).ctxSel = s.ctxSel := rfl
@[simp] theorem mCond_trig (k : Nat) (f : Cond → Cond) (s : State) : (mCond k f s).trig = { s.trig with conds := upd {} k f s.trig.conds } := rfl
@[simp] theorem mCond_tiu (k : Nat) (f : Cond → Cond) (s : State) : (mCond k f s).tiu = s.tiu := rfl
@[simp] theorem mCond_disk (k : Nat) (f : Cond → Cond) (s : State) : (mCond k f s).disk = s.disk := rfl
@[simp] theorem mCond_cal (k : Nat) (f : Cond → Cond) (s : State) : (mCond k f s).cal = s.cal := rfl
@[simp] theorem mCond_recorder (k : Nat) (f : Cond → Cond) (s : State) : (mCond k f s).recorder = s.recorder := rfl
@[simp] theorem mCond_mon (k : Nat) (f : Cond → Cond) (s : State) : (mCond k f s).mon = s.mon := rfl
@[simp] theorem mCond_pkg (k : Nat) (f : Cond → Cond) (s : State) : (mCond k f s).pkg = s.pkg := rfl
@[simp] theorem mCond_image (k : Nat) (f : Cond → Cond) (s : State) : (mCond k f s).image = s.image := rfl
@[simp] theorem mCond_accepted (k : Nat) (f : Cond → Cond) (s : State) : (mCond k f s).accepted = s.accepted := rfl
@[simp] theorem mCond_exceeded (k : Nat) (f : Cond → Cond) (s : State) : (mCond k f s).exceeded = s.exceeded := rfl
@[simp] theorem mCond_free (k : Nat) (f : Cond → Cond) (s : State) : (mCond k f s).free = s.free := rfl
@[simp] theorem mCond_outbox (k : Nat) (f : Cond → Cond) (s : State) : (mCond k f s).outbox = s.outbox := rfl
@[simp] theorem mCond_pending (k : Nat) (f : Cond → Cond) (s : State) : (mCond k f s).pending = s.pending := rfl
@[simp] theorem mGroup_time (k : Nat) (f : Group → Group) (s : State) : (mGroup k f s).time = s.time := rfl
@[simp] theorem mGroup_stat (k : Nat) (f : Group → Group) (s : State) : (mGroup k f s).stat = s.stat := rfl
@[simp] theorem mGroup_snap (k : Nat) (f : Group → Group) (s : State) : (mGroup k f s).snap = s.snap := rfl
@[simp] theorem mGroup_key (k : Nat) (f : Group → Group) (s : State) : (mGroup k f s).key = s.key := rfl
@[simp] theorem mGroup_live (k : Nat) (f : Group → Group) (s : State) : (mGroup k f s).live = s.live := rfl
@[simp] theorem mGroup_mbox (k : Nat) (f : Group → Group) (s : State) : (mGroup k f s).mbox = s.mbox := rfl
@[simp] theorem mGroup_loader (k : Nat) (f : Group → Group) (s : State) : (mGroup k f s).loader = s.loader := rfl
@[simp] theorem mGroup_img (k : Nat) (f : Group → Group) (s : State) : (mGroup k f s).img = s.img := rfl
@[simp] theorem mGroup_life (k : Nat) (f : Group → Group) (s : State) : (mGroup k f s).life = s.life := rfl
@[simp] theorem mGroup_pwr (k : Nat) (f : Group → Group) (s : State) : (mGroup k f s).pwr = s.pwr := rfl
@[simp] theorem mGroup_clk (k : Nat) (f : Group → Group) (s : State) : (mGroup k f s).clk = s.clk := rfl
@[simp] theorem mGroup_chans (k : Nat) (f : Group → Group) (s : State) : (mGroup k f s).chans = s.chans := rfl
@[simp] theorem mGroup_store (k : Nat) (f : Group → Group) (s : State) : (mGroup k f s).store = s.store := rfl
@[simp] theorem mGroup_sleeves (k : Nat) (f : Group → Group) (s : State) : (mGroup k f s).sleeves = s.sleeves := rfl
@[simp] theorem mGroup_link (k : Nat) (f : Group → Group) (s : State) : (mGroup k f s).link = s.link := rfl
@[simp] theorem mGroup_rings (k : Nat) (f : Group → Group) (s : State) : (mGroup k f s).rings = s.rings := rfl
@[simp] theorem mGroup_eng (k : Nat) (f : Group → Group) (s : State) : (mGroup k f s).eng = s.eng := rfl
@[simp] theorem mGroup_frames (k : Nat) (f : Group → Group) (s : State) : (mGroup k f s).frames = s.frames := rfl
@[simp] theorem mGroup_ssel (k : Nat) (f : Group → Group) (s : State) : (mGroup k f s).ssel = s.ssel := rfl
@[simp] theorem mGroup_traces (k : Nat) (f : Group → Group) (s : State) : (mGroup k f s).traces = s.traces := rfl
@[simp] theorem mGroup_dselTrace (k : Nat) (f : Group → Group) (s : State) : (mGroup k f s).dselTrace = s.dselTrace := rfl
@[simp] theorem mGroup_planes (k : Nat) (f : Group → Group) (s : State) : (mGroup k f s).planes = s.planes := rfl
@[simp] theorem mGroup_psel (k : Nat) (f : Group → Group) (s : State) : (mGroup k f s).psel = s.psel := rfl
@[simp] theorem mGroup_ctxs (k : Nat) (f : Group → Group) (s : State) : (mGroup k f s).ctxs = s.ctxs := rfl
@[simp] theorem mGroup_ctxSel (k : Nat) (f : Group → Group) (s : State) : (mGroup k f s).ctxSel = s.ctxSel := rfl
@[simp] theorem mGroup_trig (k : Nat) (f : Group → Group) (s : State) : (mGroup k f s).trig = { s.trig with groups := upd {} k f s.trig.groups } := rfl
@[simp] theorem mGroup_tiu (k : Nat) (f : Group → Group) (s : State) : (mGroup k f s).tiu = s.tiu := rfl
@[simp] theorem mGroup_disk (k : Nat) (f : Group → Group) (s : State) : (mGroup k f s).disk = s.disk := rfl
@[simp] theorem mGroup_cal (k : Nat) (f : Group → Group) (s : State) : (mGroup k f s).cal = s.cal := rfl
@[simp] theorem mGroup_recorder (k : Nat) (f : Group → Group) (s : State) : (mGroup k f s).recorder = s.recorder := rfl
@[simp] theorem mGroup_mon (k : Nat) (f : Group → Group) (s : State) : (mGroup k f s).mon = s.mon := rfl
@[simp] theorem mGroup_pkg (k : Nat) (f : Group → Group) (s : State) : (mGroup k f s).pkg = s.pkg := rfl
@[simp] theorem mGroup_image (k : Nat) (f : Group → Group) (s : State) : (mGroup k f s).image = s.image := rfl
@[simp] theorem mGroup_accepted (k : Nat) (f : Group → Group) (s : State) : (mGroup k f s).accepted = s.accepted := rfl
@[simp] theorem mGroup_exceeded (k : Nat) (f : Group → Group) (s : State) : (mGroup k f s).exceeded = s.exceeded := rfl
@[simp] theorem mGroup_free (k : Nat) (f : Group → Group) (s : State) : (mGroup k f s).free = s.free := rfl
@[simp] theorem mGroup_outbox (k : Nat) (f : Group → Group) (s : State) : (mGroup k f s).outbox = s.outbox := rfl
@[simp] theorem mGroup_pending (k : Nat) (f : Group → Group) (s : State) : (mGroup k f s).pending = s.pending := rfl
@[simp] theorem mInput_time (k : Nat) (f : EvtInput → EvtInput) (s : State) : (mInput k f s).time = s.time := rfl
@[simp] theorem mInput_stat (k : Nat) (f : EvtInput → EvtInput) (s : State) : (mInput k f s).stat = s.stat := rfl
@[simp] theorem mInput_snap (k : Nat) (f : EvtInput → EvtInput) (s : State) : (mInput k f s).snap = s.snap := rfl
@[simp] theorem mInput_key (k : Nat) (f : EvtInput → EvtInput) (s : State) : (mInput k f s).key = s.key := rfl
@[simp] theorem mInput_live (k : Nat) (f : EvtInput → EvtInput) (s : State) : (mInput k f s).live = s.live := rfl
@[simp] theorem mInput_mbox (k : Nat) (f : EvtInput → EvtInput) (s : State) : (mInput k f s).mbox = s.mbox := rfl
@[simp] theorem mInput_loader (k : Nat) (f : EvtInput → EvtInput) (s : State) : (mInput k f s).loader = s.loader := rfl
@[simp] theorem mInput_img (k : Nat) (f : EvtInput → EvtInput) (s : State) : (mInput k f s).img = s.img := rfl
@[simp] theorem mInput_life (k : Nat) (f : EvtInput → EvtInput) (s : State) : (mInput k f s).life = s.life := rfl
@[simp] theorem mInput_pwr (k : Nat) (f : EvtInput → EvtInput) (s : State) : (mInput k f s).pwr = s.pwr := rfl
@[simp] theorem mInput_clk (k : Nat) (f : EvtInput → EvtInput) (s : State) : (mInput k f s).clk = s.clk := rfl
@[simp] theorem mInput_chans (k : Nat) (f : EvtInput → EvtInput) (s : State) : (mInput k f s).chans = s.chans := rfl
@[simp] theorem mInput_store (k : Nat) (f : EvtInput → EvtInput) (s : State) : (mInput k f s).store = s.store := rfl
@[simp] theorem mInput_sleeves (k : Nat) (f : EvtInput → EvtInput) (s : State) : (mInput k f s).sleeves = s.sleeves := rfl
@[simp] theorem mInput_link (k : Nat) (f : EvtInput → EvtInput) (s : State) : (mInput k f s).link = s.link := rfl
@[simp] theorem mInput_rings (k : Nat) (f : EvtInput → EvtInput) (s : State) : (mInput k f s).rings = s.rings := rfl
@[simp] theorem mInput_eng (k : Nat) (f : EvtInput → EvtInput) (s : State) : (mInput k f s).eng = s.eng := rfl
@[simp] theorem mInput_frames (k : Nat) (f : EvtInput → EvtInput) (s : State) : (mInput k f s).frames = s.frames := rfl
@[simp] theorem mInput_ssel (k : Nat) (f : EvtInput → EvtInput) (s : State) : (mInput k f s).ssel = s.ssel := rfl
@[simp] theorem mInput_traces (k : Nat) (f : EvtInput → EvtInput) (s : State) : (mInput k f s).traces = s.traces := rfl
@[simp] theorem mInput_dselTrace (k : Nat) (f : EvtInput → EvtInput) (s : State) : (mInput k f s).dselTrace = s.dselTrace := rfl
@[simp] theorem mInput_planes (k : Nat) (f : EvtInput → EvtInput) (s : State) : (mInput k f s).planes = s.planes := rfl
@[simp] theorem mInput_psel (k : Nat) (f : EvtInput → EvtInput) (s : State) : (mInput k f s).psel = s.psel := rfl
@[simp] theorem mInput_ctxs (k : Nat) (f : EvtInput → EvtInput) (s : State) : (mInput k f s).ctxs = s.ctxs := rfl
@[simp] theorem mInput_ctxSel (k : Nat) (f : EvtInput → EvtInput) (s : State) : (mInput k f s).ctxSel = s.ctxSel := rfl
@[simp] theorem mInput_trig (k : Nat) (f : EvtInput → EvtInput) (s : State) : (mInput k f s).trig = s.trig := rfl
@[simp] theorem mInput_tiu (k : Nat) (f : EvtInput → EvtInput) (s : State) : (mInput k f s).tiu = { s.tiu with inputs := upd {} k f s.tiu.inputs } := rfl
@[simp] theorem mInput_disk (k : Nat) (f : EvtInput → EvtInput) (s : State) : (mInput k f s).disk = s.disk := rfl
@[simp] theorem mInput_cal (k : Nat) (f : EvtInput → EvtInput) (s : State) : (mInput k f s).cal = s.cal := rfl
@[simp] theorem mInput_recorder (k : Nat) (f : EvtInput → EvtInput) (s : State) : (mInput k f s).recorder = s.recorder := rfl
@[simp] theorem mInput_mon (k : Nat) (f : EvtInput → EvtInput) (s : State) : (mInput k f s).mon = s.mon := rfl
@[simp] theorem mInput_pkg (k : Nat) (f : EvtInput → EvtInput) (s : State) : (mInput k f s).pkg = s.pkg := rfl
@[simp] theorem mInput_image (k : Nat) (f : EvtInput → EvtInput) (s : State) : (mInput k f s).image = s.image := rfl
@[simp] theorem mInput_accepted (k : Nat) (f : EvtInput → EvtInput) (s : State) : (mInput k f s).accepted = s.accepted := rfl
@[simp] theorem mInput_exceeded (k : Nat) (f : EvtInput → EvtInput) (s : State) : (mInput k f s).exceeded = s.exceeded := rfl
@[simp] theorem mInput_free (k : Nat) (f : EvtInput → EvtInput) (s : State) : (mInput k f s).free = s.free := rfl
@[simp] theorem mInput_outbox (k : Nat) (f : EvtInput → EvtInput) (s : State) : (mInput k f s).outbox = s.outbox := rfl
@[simp] theorem mInput_pending (k : Nat) (f : EvtInput → EvtInput) (s : State) : (mInput k f s).pending = s.pending := rfl
@[simp] theorem mUnit_time (k : Nat) (f : IntervalUnit → IntervalUnit) (s : State) : (mUnit k f s).time = s.time := rfl
@[simp] theorem mUnit_stat (k : Nat) (f : IntervalUnit → IntervalUnit) (s : State) : (mUnit k f s).stat = s.stat := rfl
@[simp] theorem mUnit_snap (k : Nat) (f : IntervalUnit → IntervalUnit) (s : State) : (mUnit k f s).snap = s.snap := rfl
@[simp] theorem mUnit_key (k : Nat) (f : IntervalUnit → IntervalUnit) (s : State) : (mUnit k f s).key = s.key := rfl
@[simp] theorem mUnit_live (k : Nat) (f : IntervalUnit → IntervalUnit) (s : State) : (mUnit k f s).live = s.live := rfl
@[simp] theorem mUnit_mbox (k : Nat) (f : IntervalUnit → IntervalUnit) (s : State) : (mUnit k f s).mbox = s.mbox := rfl
@[simp] theorem mUnit_loader (k : Nat) (f : IntervalUnit → IntervalUnit) (s : State) : (mUnit k f s).loader = s.loader := rfl
@[simp] theorem mUnit_img (k : Nat) (f : IntervalUnit → IntervalUnit) (s : State) : (mUnit k f s).img = s.img := rfl
@[simp] theorem mUnit_life (k : Nat) (f : IntervalUnit → IntervalUnit) (s : State) : (mUnit k f s).life = s.life := rfl
@[simp] theorem mUnit_pwr (k : Nat) (f : IntervalUnit → IntervalUnit) (s : State) : (mUnit k f s).pwr = s.pwr := rfl
@[simp] theorem mUnit_clk (k : Nat) (f : IntervalUnit → IntervalUnit) (s : State) : (mUnit k f s).clk = s.clk := rfl
@[simp] theorem mUnit_chans (k : Nat) (f : IntervalUnit → IntervalUnit) (s : State) : (mUnit k f s).chans = s.chans := rfl
@[simp] theorem mUnit_store (k : Nat) (f : IntervalUnit → IntervalUnit) (s : State) : (mUnit k f s).store = s.store := rfl
@[simp] theorem mUnit_sleeves (k : Nat) (f : IntervalUnit → IntervalUnit) (s : State) : (mUnit k f s).sleeves = s.sleeves := rfl
@[simp] theorem mUnit_link (k : Nat) (f : IntervalUnit → IntervalUnit) (s : State) : (mUnit k f s).link = s.link := rfl
@[simp] theorem mUnit_rings (k : Nat) (f : IntervalUnit → IntervalUnit) (s : State) : (mUnit k f s).rings = s.rings := rfl
@[simp] theorem mUnit_eng (k : Nat) (f : IntervalUnit → IntervalUnit) (s : State) : (mUnit k f s).eng = s.eng := rfl
@[simp] theorem mUnit_frames (k : Nat) (f : IntervalUnit → IntervalUnit) (s : State) : (mUnit k f s).frames = s.frames := rfl
@[simp] theorem mUnit_ssel (k : Nat) (f : IntervalUnit → IntervalUnit) (s : State) : (mUnit k f s).ssel = s.ssel := rfl
@[simp] theorem mUnit_traces (k : Nat) (f : IntervalUnit → IntervalUnit) (s : State) : (mUnit k f s).traces = s.traces := rfl
@[simp] theorem mUnit_dselTrace (k : Nat) (f : IntervalUnit → IntervalUnit) (s : State) : (mUnit k f s).dselTrace = s.dselTrace := rfl
@[simp] theorem mUnit_planes (k : Nat) (f : IntervalUnit → IntervalUnit) (s : State) : (mUnit k f s).planes = s.planes := rfl
@[simp] theorem mUnit_psel (k : Nat) (f : IntervalUnit → IntervalUnit) (s : State) : (mUnit k f s).psel = s.psel := rfl
@[simp] theorem mUnit_ctxs (k : Nat) (f : IntervalUnit → IntervalUnit) (s : State) : (mUnit k f s).ctxs = s.ctxs := rfl
@[simp] theorem mUnit_ctxSel (k : Nat) (f : IntervalUnit → IntervalUnit) (s : State) : (mUnit k f s).ctxSel = s.ctxSel := rfl
@[simp] theorem mUnit_trig (k : Nat) (f : IntervalUnit → IntervalUnit) (s : State) : (mUnit k f s).trig = s.trig := rfl
@[simp] theorem mUnit_tiu (k : Nat) (f : IntervalUnit → IntervalUnit) (s : State) : (mUnit k f s).tiu = { s.tiu with units := upd {} k f s.tiu.units } := rfl
@[simp] theorem mUnit_disk (k : Nat) (f : IntervalUnit → IntervalUnit) (s : State) : (mUnit k f s).disk = s.disk := rfl
@[simp] theorem mUnit_cal (k : Nat) (f : IntervalUnit → IntervalUnit) (s : State) : (mUnit k f s).cal = s.cal := rfl
@[simp] theorem mUnit_recorder (k : Nat) (f : IntervalUnit → IntervalUnit) (s : State) : (mUnit k f s).recorder = s.recorder := rfl
@[simp] theorem mUnit_mon (k : Nat) (f : IntervalUnit → IntervalUnit) (s : State) : (mUnit k f s).mon = s.mon := rfl
@[simp] theorem mUnit_pkg (k : Nat) (f : IntervalUnit → IntervalUnit) (s : State) : (mUnit k f s).pkg = s.pkg := rfl
@[simp] theorem mUnit_image (k : Nat) (f : IntervalUnit → IntervalUnit) (s : State) : (mUnit k f s).image = s.image := rfl
@[simp] theorem mUnit_accepted (k : Nat) (f : IntervalUnit → IntervalUnit) (s : State) : (mUnit k f s).accepted = s.accepted := rfl
@[simp] theorem mUnit_exceeded (k : Nat) (f : IntervalUnit → IntervalUnit) (s : State) : (mUnit k f s).exceeded = s.exceeded := rfl
@[simp] theorem mUnit_free (k : Nat) (f : IntervalUnit → IntervalUnit) (s : State) : (mUnit k f s).free = s.free := rfl
@[simp] theorem mUnit_outbox (k : Nat) (f : IntervalUnit → IntervalUnit) (s : State) : (mUnit k f s).outbox = s.outbox := rfl
@[simp] theorem mUnit_pending (k : Nat) (f : IntervalUnit → IntervalUnit) (s : State) : (mUnit k f s).pending = s.pending := rfl
@[simp] theorem mOut_time (k : Nat) (f : OutPin → OutPin) (s : State) : (mOut k f s).time = s.time := rfl
@[simp] theorem mOut_stat (k : Nat) (f : OutPin → OutPin) (s : State) : (mOut k f s).stat = s.stat := rfl
@[simp] theorem mOut_snap (k : Nat) (f : OutPin → OutPin) (s : State) : (mOut k f s).snap = s.snap := rfl
@[simp] theorem mOut_key (k : Nat) (f : OutPin → OutPin) (s : State) : (mOut k f s).key = s.key := rfl
@[simp] theorem mOut_live (k : Nat) (f : OutPin → OutPin) (s : State) : (mOut k f s).live = s.live := rfl
@[simp] theorem mOut_mbox (k : Nat) (f : OutPin → OutPin) (s : State) : (mOut k f s).mbox = s.mbox := rfl
@[simp] theorem mOut_loader (k : Nat) (f : OutPin → OutPin) (s : State) : (mOut k f s).loader = s.loader := rfl
@[simp] theorem mOut_img (k : Nat) (f : OutPin → OutPin) (s : State) : (mOut k f s).img = s.img := rfl
@[simp] theorem mOut_life (k : Nat) (f : OutPin → OutPin) (s : State) : (mOut k f s).life = s.life := rfl
@[simp] theorem mOut_pwr (k : Nat) (f : OutPin → OutPin) (s : State) : (mOut k f s).pwr = s.pwr := rfl
@[simp] theorem mOut_clk (k : Nat) (f : OutPin → OutPin) (s : State) : (mOut k f s).clk = s.clk := rfl
@[simp] theorem mOut_chans (k : Nat) (f : OutPin → OutPin) (s : State) : (mOut k f s).chans = s.chans := rfl
@[simp] theorem mOut_store (k : Nat) (f : OutPin → OutPin) (s : State) : (mOut k f s).store = s.store := rfl
@[simp] theorem mOut_sleeves (k : Nat) (f : OutPin → OutPin) (s : State) : (mOut k f s).sleeves = s.sleeves := rfl
@[simp] theorem mOut_link (k : Nat) (f : OutPin → OutPin) (s : State) : (mOut k f s).link = s.link := rfl
@[simp] theorem mOut_rings (k : Nat) (f : OutPin → OutPin) (s : State) : (mOut k f s).rings = s.rings := rfl
@[simp] theorem mOut_eng (k : Nat) (f : OutPin → OutPin) (s : State) : (mOut k f s).eng = s.eng := rfl
@[simp] theorem mOut_frames (k : Nat) (f : OutPin → OutPin) (s : State) : (mOut k f s).frames = s.frames := rfl
@[simp] theorem mOut_ssel (k : Nat) (f : OutPin → OutPin) (s : State) : (mOut k f s).ssel = s.ssel := rfl
@[simp] theorem mOut_traces (k : Nat) (f : OutPin → OutPin) (s : State) : (mOut k f s).traces = s.traces := rfl
@[simp] theorem mOut_dselTrace (k : Nat) (f : OutPin → OutPin) (s : State) : (mOut k f s).dselTrace = s.dselTrace := rfl
@[simp] theorem mOut_planes (k : Nat) (f : OutPin → OutPin) (s : State) : (mOut k f s).planes = s.planes := rfl
@[simp] theorem mOut_psel (k : Nat) (f : OutPin → OutPin) (s : State) : (mOut k f s).psel = s.psel := rfl
@[simp] theorem mOut_ctxs (k : Nat) (f : OutPin → OutPin) (s : State) : (mOut k f s).ctxs = s.ctxs := rfl
@[simp] theorem mOut_ctxSel (k : Nat) (f : OutPin → OutPin) (s : State) : (mOut k f s).ctxSel = s.ctxSel := rfl
@[simp] theorem mOut_trig (k : Nat) (f : OutPin → OutPin) (s : State) : (mOut k f s).trig = s.trig := rfl
@[simp] theorem mOut_tiu (k : Nat) (f : OutPin → OutPin) (s : State) : (mOut k f s).tiu = { s.tiu with outs := upd {} k f s.tiu.outs } := rfl
@[simp] theorem mOut_disk (k : Nat) (f : OutPin → OutPin) (s : State) : (mOut k f s).disk = s.disk := rfl
@[simp] theorem mOut_cal (k : Nat) (f : OutPin → OutPin) (s : State) : (mOut k f s).cal = s.cal := rfl
@[simp] theorem mOut_recorder (k : Nat) (f : OutPin → OutPin) (s : State) : (mOut k f s).recorder = s.recorder := rfl
@[simp] theorem mOut_mon (k : Nat) (f : OutPin → OutPin) (s : State) : (mOut k f s).mon = s.mon := rfl
@[simp] theorem mOut_pkg (k : Nat) (f : OutPin → OutPin) (s : State) : (mOut k f s).pkg = s.pkg := rfl
@[simp] theorem mOut_image (k : Nat) (f : OutPin → OutPin) (s : State) : (mOut k f s).image = s.image := rfl
@[simp] theorem mOut_accepted (k : Nat) (f : OutPin → OutPin) (s : State) : (mOut k f s).accepted = s.accepted := rfl
@[simp] theorem mOut_exceeded (k : Nat) (f : OutPin → OutPin) (s : State) : (mOut k f s).exceeded = s.exceeded := rfl
@[simp] theorem mOut_free (k : Nat) (f : OutPin → OutPin) (s : State) : (mOut k f s).free = s.free := rfl
@[simp] theorem mOut_outbox (k : Nat) (f : OutPin → OutPin) (s : State) : (mOut k f s).outbox = s.outbox := rfl
@[simp] theorem mOut_pending (k : Nat) (f : OutPin → OutPin) (s : State) : (mOut k f s).pending = s.pending := rfl
@[simp] theorem mDrive_time (k : Nat) (f : Drive → Drive) (s : State) : (mDrive k f s).time = s.time := rfl
@[simp] theorem mDrive_stat (k : Nat) (f : Drive → Drive) (s : State) : (mDrive k f s).stat = s.stat := rfl
@[simp] theorem mDrive_snap (k : Nat) (f : Drive → Drive) (s : State) : (mDrive k f s).snap = s.snap := rfl
@[simp] theorem mDrive_key (k : Nat) (f : Drive → Drive) (s : State) : (mDrive k f s).key = s.key := rfl
@[simp] theorem mDrive_live (k : Nat) (f : Drive → Drive) (s : State) : (mDrive k f s).live = s.live := rfl
@[simp] theorem mDrive_mbox (k : Nat) (f : Drive → Drive) (s : State) : (mDrive k f s).mbox = s.mbox := rfl
@[simp] theorem mDrive_loader (k : Nat) (f : Drive → Drive) (s : State) : (mDrive k f s).loader = s.loader := rfl
@[simp] theorem mDrive_img (k : Nat) (f : Drive → Drive) (s : State) : (mDrive k f s).img = s.img := rfl
@[simp] theorem mDrive_life (k : Nat) (f : Drive → Drive) (s : State) : (mDrive k f s).life = s.life := rfl
@[simp] theorem mDrive_pwr (k : Nat) (f : Drive → Drive) (s : State) : (mDrive k f s).pwr = s.pwr := rfl
@[simp] theorem mDrive_clk (k : Nat) (f : Drive → Drive) (s : State) : (mDrive k f s).clk = s.clk := rfl
@[simp] theorem mDrive_chans (k : Nat) (f : Drive → Drive) (s : State) : (mDrive k f s).chans = s.chans := rfl
@[simp] theorem mDrive_store (k : Nat) (f : Drive → Drive) (s : State) : (mDrive k f s).store = s.store := rfl
@[simp] theorem mDrive_sleeves (k : Nat) (f : Drive → Drive) (s : State) : (mDrive k f s).sleeves = s.sleeves := rfl
@[simp] theorem mDrive_link (k : Nat) (f : Drive → Drive) (s : State) : (mDrive k f s).link = s.link := rfl
@[simp] theorem mDrive_rings (k : Nat) (f : Drive → Drive) (s : State) : (mDrive k f s).rings = s.rings := rfl
@[simp] theorem mDrive_eng (k : Nat) (f : Drive → Drive) (s : State) : (mDrive k f s).eng = s.eng := rfl
@[simp] theorem mDrive_frames (k : Nat) (f : Drive → Drive) (s : State) : (mDrive k f s).frames = s.frames := rfl
@[simp] theorem mDrive_ssel (k : Nat) (f : Drive → Drive) (s : State) : (mDrive k f s).ssel = s.ssel := rfl
@[simp] theorem mDrive_traces (k : Nat) (f : Drive → Drive) (s : State) : (mDrive k f s).traces = s.traces := rfl
@[simp] theorem mDrive_dselTrace (k : Nat) (f : Drive → Drive) (s : State) : (mDrive k f s).dselTrace = s.dselTrace := rfl
@[simp] theorem mDrive_planes (k : Nat) (f : Drive → Drive) (s : State) : (mDrive k f s).planes = s.planes := rfl
@[simp] theorem mDrive_psel (k : Nat) (f : Drive → Drive) (s : State) : (mDrive k f s).psel = s.psel := rfl
@[simp] theorem mDrive_ctxs (k : Nat) (f : Drive → Drive) (s : State) : (mDrive k f s).ctxs = s.ctxs := rfl
@[simp] theorem mDrive_ctxSel (k : Nat) (f : Drive → Drive) (s : State) : (mDrive k f s).ctxSel = s.ctxSel := rfl
@[simp] theorem mDrive_trig (k : Nat) (f : Drive → Drive) (s : State) : (mDrive k f s).trig = s.trig := rfl
@[simp] theorem mDrive_tiu (k : Nat) (f : Drive → Drive) (s : State) : (mDrive k f s).tiu = s.tiu := rfl
@[simp] theorem mDrive_disk (k : Nat) (f : Drive → Drive) (s : State) : (mDrive k f s).disk = { s.disk with drives := upd {} k f s.disk.drives } := rfl
@[simp] theorem mDrive_cal (k : Nat) (f : Drive → Drive) (s : State) : (mDrive k f s).cal = s.cal := rfl
@[simp] theorem mDrive_recorder (k : Nat) (f : Drive → Drive) (s : State) : (mDrive k f s).recorder = s.recorder := rfl
@[simp] theorem mDrive_mon (k : Nat) (f : Drive → Drive) (s : State) : (mDrive k f s).mon = s.mon := rfl
@[simp] theorem mDrive_pkg (k : Nat) (f : Drive → Drive) (s : State) : (mDrive k f s).pkg = s.pkg := rfl
@[simp] theorem mDrive_image (k : Nat) (f : Drive → Drive) (s : State) : (mDrive k f s).image = s.image := rfl
@[simp] theorem mDrive_accepted (k : Nat) (f : Drive → Drive) (s : State) : (mDrive k f s).accepted = s.accepted := rfl
@[simp] theorem mDrive_exceeded (k : Nat) (f : Drive → Drive) (s : State) : (mDrive k f s).exceeded = s.exceeded := rfl
@[simp] theorem mDrive_free (k : Nat) (f : Drive → Drive) (s : State) : (mDrive k f s).free = s.free := rfl
@[simp] theorem mDrive_outbox (k : Nat) (f : Drive → Drive) (s : State) : (mDrive k f s).outbox = s.outbox := rfl
@[simp] theorem mDrive_pending (k : Nat) (f : Drive → Drive) (s : State) : (mDrive k f s).pending = s.pending := rfl
@[simp] theorem nextFree_time (s : State) : (nextFree s).time = s.time := rfl
@[simp] theorem nextFree_stat (s : State) : (nextFree s).stat = s.stat := rfl
@[simp] theorem nextFree_snap (s : State) : (nextFree s).snap = s.snap := rfl
@[simp] theorem nextFree_key (s : State) : (nextFree s).key = s.key := rfl
@[simp] theorem nextFree_live (s : State) : (nextFree s).live = s.live := rfl
@[simp] theorem nextFree_mbox (s : State) : (nextFree s).mbox = s.mbox := rfl
@[simp] theorem nextFree_loader (s : State) : (nextFree s).loader = s.loader := rfl
@[simp] theorem nextFree_img (s : State) : (nextFree s).img = s.img := rfl
@[simp] theorem nextFree_life (s : State) : (nextFree s).life = s.life := rfl
@[simp] theorem nextFree_pwr (s : State) : (nextFree s).pwr = s.pwr := rfl
@[simp] theorem nextFree_clk (s : State) : (nextFree s).clk = s.clk := rfl
@[simp] theorem nextFree_chans (s : State) : (nextFree s).chans = s.chans := rfl
@[simp] theorem nextFree_store (s : State) : (nextFree s).store = s.store := rfl
@[simp] theorem nextFree_sleeves (s : State) : (nextFree s).sleeves = s.sleeves := rfl
@[simp] theorem nextFree_link (s : State) : (nextFree s).link = s.link := rfl
@[simp] theorem nextFree_rings (s : State) : (nextFree s).rings = s.rings := rfl
@[simp] theorem nextFree_eng (s : State) : (nextFree s).eng = s.eng := rfl
@[simp] theorem nextFree_frames (s : State) : (nextFree s).frames = s.frames := rfl
@[simp] theorem nextFree_ssel (s : State) : (nextFree s).ssel = s.ssel := rfl
@[simp] theorem nextFree_traces (s : State) : (nextFree s).traces = s.traces := rfl
@[simp] theorem nextFree_dselTrace (s : State) : (nextFree s).dselTrace = s.dselTrace := rfl
@[simp] theorem nextFree_planes (s : State) : (nextFree s).planes = s.planes := rfl
@[simp] theorem nextFree_psel (s : State) : (nextFree s).psel = s.psel := rfl
@[simp] theorem nextFree_ctxs (s : State) : (nextFree s).ctxs = s.ctxs := rfl
@[simp] theorem nextFree_ctxSel (s : State) : (nextFree s).ctxSel = s.ctxSel := rfl
@[simp] theorem nextFree_trig (s : State) : (nextFree s).trig = s.trig := rfl
@[simp] theorem nextFree_tiu (s : State) : (nextFree s).tiu = s.tiu := rfl
@[simp] theorem nextFree_disk (s : State) : (nextFree s).disk = s.disk := rfl
@[simp] theorem nextFree_cal (s : State) : (nextFree s).cal = s.cal := rfl
@[simp] theorem nextFree_recorder (s : State) : (nextFree s).recorder = s.recorder := rfl
@[simp] theorem nextFree_mon (s : State) : (nextFree s).mon = s.mon := rfl
@[simp] theorem nextFree_pkg (s : State) : (nextFree s).pkg = s.pkg := rfl
@[simp] theorem nextFree_image (s : State) : (nextFree s).image = s.image := rfl
@[simp] theorem nextFree_accepted (s : State) : (nextFree s).accepted = s.accepted := rfl
@[simp] theorem nextFree_exceeded (s : State) : (nextFree s).exceeded = s.exceeded := rfl
@[simp] theorem nextFree_free (s : State) : (nextFree s).free = s.free + 1 := rfl
@[simp] theorem nextFree_outbox (s : State) : (nextFree s).outbox = s.outbox := rfl
@[simp] theorem nextFree_pending (s : State) : (nextFree s).pending = s.pending := rfl
@[simp] theorem emit_time (o : Output) (s : State) : (emit o s).time = s.time := rfl
@[simp] theorem emit_stat (o : Output) (s : State) : (emit o s).stat = s.stat := rfl
@[simp] theorem emit_snap (o : Output) (s : State) : (emit o s).snap = s.snap := rfl
@[simp] theorem emit_key (o : Output) (s : State) : (emit o s).key = s.key := rfl
@[simp] theorem emit_live (o : Output) (s : State) : (emit o s).live = s.live := rfl
@[simp] theorem emit_mbox (o : Output) (s : State) : (emit o s).mbox = s.mbox := rfl
@[simp] theorem emit_loader (o : Output) (s : State) : (emit o s).loader = s.loader := rfl
@[simp] theorem emit_img (o : Output) (s : State) : (emit o s).img = s.img := rfl
@[simp] theorem emit_life (o : Output) (s : State) : (emit o s).life = s.life := rfl
@[simp] theorem emit_pwr (o : Output) (s : State) : (emit o s).pwr = s.pwr := rfl
@[simp] theorem emit_clk (o : Output) (s : State) : (emit o s).clk = s.clk := rfl
@[simp] theorem emit_chans (o : Output) (s : State) : (emit o s).chans = s.chans := rfl
@[simp] theorem emit_store (o : Output) (s : State) : (emit o s).store = s.store := rfl
@[simp] theorem emit_sleeves (o : Output) (s : State) : (emit o s).sleeves = s.sleeves := rfl
@[simp] theorem emit_link (o : Output) (s : State) : (emit o s).link = s.link := rfl
@[simp] theorem emit_rings (o : Output) (s : State) : (emit o s).rings = s.rings := rfl
@[simp] theorem emit_eng (o : Output) (s : State) : (emit o s).eng = s.eng := rfl
@[simp] theorem emit_frames (o : Output) (s : State) : (emit o s).frames = s.frames := rfl
@[simp] theorem emit_ssel (o : Output) (s : State) : (emit o s).ssel = s.ssel := rfl
@[simp] theorem emit_traces (o : Output) (s : State) : (emit o s).traces = s.traces := rfl
@[simp] theorem emit_dselTrace (o : Output) (s : State) : (emit o s).dselTrace = s.dselTrace := rfl
@[simp] theorem emit_planes (o : Output) (s : State) : (emit o s).planes = s.planes := rfl
@[simp] theorem emit_psel (o : Output) (s : State) : (emit o s).psel = s.psel := rfl
@[simp] theorem emit_ctxs (o : Output) (s : State) : (emit o s).ctxs = s.ctxs := rfl
@[simp] theorem emit_ctxSel (o : Output) (s : State) : (emit o s).ctxSel = s.ctxSel := rfl
@[simp] theorem emit_trig (o : Output) (s : State) : (emit o s).trig = s.trig := rfl
@[simp] theorem emit_tiu (o : Output) (s : State) : (emit o s).tiu = s.tiu := rfl
@[simp] theorem emit_disk (o : Output) (s : State) : (emit o s).disk = s.disk := rfl
@[simp] theorem emit_cal (o : Output) (s : State) : (emit o s).cal = s.cal := rfl
@[simp] theorem emit_recorder (o : Output) (s : State) : (emit o s).recorder = s.recorder := rfl
@[simp] theorem emit_mon (o : Output) (s : State) : (emit o s).mon = s.mon := rfl
@[simp] theorem emit_pkg (o : Output) (s : State) : (emit o s).pkg = s.pkg := rfl
@[simp] theorem emit_image (o : Output) (s : State) : (emit o s).image = s.image := rfl
@[simp] theorem emit_accepted (o : Output) (s : State) : (emit o s).accepted = s.accepted := rfl
@[simp] theorem emit_exceeded (o : Output) (s : State) : (emit o s).exceeded = s.exceeded := rfl
@[simp] theorem emit_free (o : Output) (s : State) : (emit o s).free = s.free := rfl
@[simp] theorem emit_outbox (o : Output) (s : State) : (emit o s).outbox = s.outbox ++ [o] := rfl
@[simp] theorem emit_pending (o : Output) (s : State) : (emit o s).pending = s.pending := rfl
@[simp] theorem pulse_time (n k : Nat) (b : Word) (s : State) : (pulse n k b s).time = s.time := rfl
@[simp] theorem pulse_stat (n k : Nat) (b : Word) (s : State) : (pulse n k b s).stat = { s.stat with pulses := upd 0 (64 * n + k) (fun w => w ||| b) s.stat.pulses } := rfl
@[simp] theorem pulse_snap (n k : Nat) (b : Word) (s : State) : (pulse n k b s).snap = s.snap := rfl
@[simp] theorem pulse_key (n k : Nat) (b : Word) (s : State) : (pulse n k b s).key = s.key := rfl
@[simp] theorem pulse_live (n k : Nat) (b : Word) (s : State) : (pulse n k b s).live = s.live := rfl
@[simp] theorem pulse_mbox (n k : Nat) (b : Word) (s : State) : (pulse n k b s).mbox = s.mbox := rfl
@[simp] theorem pulse_loader (n k : Nat) (b : Word) (s : State) : (pulse n k b s).loader = s.loader := rfl
@[simp] theorem pulse_img (n k : Nat) (b : Word) (s : State) : (pulse n k b s).img = s.img := rfl
@[simp] theorem pulse_life (n k : Nat) (b : Word) (s : State) : (pulse n k b s).life = s.life := rfl
@[simp] theorem pulse_pwr (n k : Nat) (b : Word) (s : State) : (pulse n k b s).pwr = s.pwr := rfl
@[simp] theorem pulse_clk (n k : Nat) (b : Word) (s : State) : (pulse n k b s).clk = s.clk := rfl
@[simp] theorem pulse_chans (n k : Nat) (b : Word) (s : State) : (pulse n k b s).chans = s.chans := rfl
@[simp] theorem pulse_store (n k : Nat) (b : Word) (s : State) : (pulse n k b s).store = s.store := rfl
@[simp] theorem pulse_sleeves (n k : Nat) (b : Word) (s : State) : (pulse n k b s).sleeves = s.sleeves := rfl
@[simp] theorem pulse_link (n k : Nat) (b : Word) (s : State) : (pulse n k b s).link = s.link := rfl
@[simp] theorem pulse_rings (n k : Nat) (b : Word) (s : State) : (pulse n k b s).rings = s.rings := rfl
@[simp] theorem pulse_eng (n k : Nat) (b : Word) (s : State) : (pulse n k b s).eng = s.eng := rfl
@[simp] theorem pulse_frames (n k : Nat) (b : Word) (s : State) : (pulse n k b s).frames = s.frames := rfl
@[simp] theorem pulse_ssel (n k : Nat) (b : Word) (s : State) : (pulse n k b s).ssel = s.ssel := rfl
@[simp] theorem pulse_traces (n k : Nat) (b : Word) (s : State) : (pulse n k b s).traces = s.traces := rfl
@[simp] theorem pulse_dselTrace (n k : Nat) (b : Word) (s : State) : (pulse n k b s).dselTrace = s.dselTrace := rfl
@[simp] theorem pulse_planes (n k : Nat) (b : Word) (s : State) : (pulse n k b s).planes = s.planes := rfl
@[simp] theorem pulse_psel (n k : Nat) (b : Word) (s : State) : (pulse n k b s).psel = s.psel := rfl
@[simp] theorem pulse_ctxs (n k : Nat) (b : Word) (s : State) : (pulse n k b s).ctxs = s.ctxs := rfl
@[simp] theorem pulse_ctxSel (n k : Nat) (b : Word) (s : State) : (pulse n k b s).ctxSel = s.ctxSel := rfl
@[simp] theorem pulse_trig (n k : Nat) (b : Word) (s : State) : (pulse n k b s).trig = s.trig := rfl
@[simp] theorem pulse_tiu (n k : Nat) (b : Word) (s : State) : (pulse n k b s).tiu = s.tiu := rfl
@[simp] theorem pulse_disk (n k : Nat) (b : Word) (s : State) : (pulse n k b s).disk = s.disk := rfl
@[simp] theorem pulse_cal (n k : Nat) (b : Word) (s : State) : (pulse n k b s).cal = s.cal := rfl
@[simp] theorem pulse_recorder (n k : Nat) (b : Word) (s : State) : (pulse n k b s).recorder = s.recorder := rfl
@[simp] theorem pulse_mon (n k : Nat) (b : Word) (s : State) : (pulse n k b s).mon = s.mon := rfl
@[simp] theorem pulse_pkg (n k : Nat) (b : Word) (s : State) : (pulse n k b s).pkg = s.pkg := rfl
@[simp] theorem pulse_image (n k : Nat) (b : Word) (s : State) : (pulse n k b s).image = s.image := rfl
@[simp] theorem pulse_accepted (n k : Nat) (b : Word) (s : State) : (pulse n k b s).accepted = s.accepted := rfl
@[simp] theorem pulse_exceeded (n k : Nat) (b : Word) (s : State) : (pulse n k b s).exceeded = s.exceeded := rfl
@[simp] theorem pulse_free (n k : Nat) (b : Word) (s : State) : (pulse n k b s).free = s.free := rfl
@[simp] theorem pulse_outbox (n k : Nat) (b : Word) (s : State) : (pulse n k b s).outbox = s.outbox := rfl
@[simp] theorem pulse_pending (n k : Nat) (b : Word) (s : State) : (pulse n k b s).pending = s.pending := rfl
@[simp] theorem pulse0_time (n b : Nat) (s : State) : (pulse0 n b s).time = s.time := rfl
@[simp] theorem pulse0_stat (n b : Nat) (s : State) : (pulse0 n b s).stat = { s.stat with pulses := upd 0 (64 * n) (fun w => w ||| w32 (2 ^ b)) s.stat.pulses } := rfl
@[simp] theorem pulse0_snap (n b : Nat) (s : State) : (pulse0 n b s).snap = s.snap := rfl
@[simp] theorem pulse0_key (n b : Nat) (s : State) : (pulse0 n b s).key = s.key := rfl
@[simp] theorem pulse0_live (n b : Nat) (s : State) : (pulse0 n b s).live = s.live := rfl
@[simp] theorem pulse0_mbox (n b : Nat) (s : State) : (pulse0 n b s).mbox = s.mbox := rfl
@[simp] theorem pulse0_loader (n b : Nat) (s : State) : (pulse0 n b s).loader = s.loader := rfl
@[simp] theorem pulse0_img (n b : Nat) (s : State) : (pulse0 n b s).img = s.img := rfl
@[simp] theorem pulse0_life (n b : Nat) (s : State) : (pulse0 n b s).life = s.life := rfl
@[simp] theorem pulse0_pwr (n b : Nat) (s : State) : (pulse0 n b s).pwr = s.pwr := rfl
@[simp] theorem pulse0_clk (n b : Nat) (s : State) : (pulse0 n b s).clk = s.clk := rfl
@[simp] theorem pulse0_chans (n b : Nat) (s : State) : (pulse0 n b s).chans = s.chans := rfl
@[simp] theorem pulse0_store (n b : Nat) (s : State) : (pulse0 n b s).store = s.store := rfl
@[simp] theorem pulse0_sleeves (n b : Nat) (s : State) : (pulse0 n b s).sleeves = s.sleeves := rfl
@[simp] theorem pulse0_link (n b : Nat) (s : State) : (pulse0 n b s).link = s.link := rfl
@[simp] theorem pulse0_rings (n b : Nat) (s : State) : (pulse0 n b s).rings = s.rings := rfl
@[simp] theorem pulse0_eng (n b : Nat) (s : State) : (pulse0 n b s).eng = s.eng := rfl
@[simp] theorem pulse0_frames (n b : Nat) (s : State) : (pulse0 n b s).frames = s.frames := rfl
@[simp] theorem pulse0_ssel (n b : Nat) (s : State) : (pulse0 n b s).ssel = s.ssel := rfl
@[simp] theorem pulse0_traces (n b : Nat) (s : State) : (pulse0 n b s).traces = s.traces := rfl
@[simp] theorem pulse0_dselTrace (n b : Nat) (s : State) : (pulse0 n b s).dselTrace = s.dselTrace := rfl
@[simp] theorem pulse0_planes (n b : Nat) (s : State) : (pulse0 n b s).planes = s.planes := rfl
@[simp] theorem pulse0_psel (n b : Nat) (s : State) : (pulse0 n b s).psel = s.psel := rfl
@[simp] theorem pulse0_ctxs (n b : Nat) (s : State) : (pulse0 n b s).ctxs = s.ctxs := rfl
@[simp] theorem pulse0_ctxSel (n b : Nat) (s : State) : (pulse0 n b s).ctxSel = s.ctxSel := rfl
@[simp] theorem pulse0_trig (n b : Nat) (s : State) : (pulse0 n b s).trig = s.trig := rfl
@[simp] theorem pulse0_tiu (n b : Nat) (s : State) : (pulse0 n b s).tiu = s.tiu := rfl
@[simp] theorem pulse0_disk (n b : Nat) (s : State) : (pulse0 n b s).disk = s.disk := rfl
@[simp] theorem pulse0_cal (n b : Nat) (s : State) : (pulse0 n b s).cal = s.cal := rfl
@[simp] theorem pulse0_recorder (n b : Nat) (s : State) : (pulse0 n b s).recorder = s.recorder := rfl
@[simp] theorem pulse0_mon (n b : Nat) (s : State) : (pulse0 n b s).mon = s.mon := rfl
@[simp] theorem pulse0_pkg (n b : Nat) (s : State) : (pulse0 n b s).pkg = s.pkg := rfl
@[simp] theorem pulse0_image (n b : Nat) (s : State) : (pulse0 n b s).image = s.image := rfl
@[simp] theorem pulse0_accepted (n b : Nat) (s : State) : (pulse0 n b s).accepted = s.accepted := rfl
@[simp] theorem pulse0_exceeded (n b : Nat) (s : State) : (pulse0 n b s).exceeded = s.exceeded := rfl
@[simp] theorem pulse0_free (n b : Nat) (s : State) : (pulse0 n b s).free = s.free := rfl
@[simp] theorem pulse0_outbox (n b : Nat) (s : State) : (pulse0 n b s).outbox = s.outbox := rfl
@[simp] theorem pulse0_pending (n b : Nat) (s : State) : (pulse0 n b s).pending = s.pending := rfl

end Sys2Proof.Machine
end

