-- ==== Sys2Proof/Laws/Ops.lean ====
section
/-! SUPPORT. What the operations that commands share can do: each lemma says once what an operation leaves and what it changes. -/

namespace Sys2Proof.Machine

/-- A command that acts answers one next state: its effect, settled. -/
theorem act_next {f : State → State} {s t : State} :
    act f s = .next t ↔ settle s (f { s with outbox := [] }) = t := by simp [act]

/-- A message holds a vector pending or sends it, and touches nothing else of the link. -/
theorem message_link (v : Nat) (l : HostLink) (out : List Output) :
    (message v l out).1 = l ∨ (message v l out).1 = { l with pending := put false v true l.pending } := by
  simp only [message]
  repeat' split
  all_goals simp

/-- What leaves the module only grows. -/
theorem message_out (v : Nat) (l : HostLink) (out : List Output) :
    (message v l out).2 = out ∨ ∃ a d, (message v l out).2 = out ++ [.msi v a d] := by
  simp only [message]
  repeat' split
  all_goals simp

/-- Settling changes of the link its pending bits at most. -/
theorem settle_link (o s : State) : (settle o s).link = s.link ∨
    (settle o s).link = { s.link with pending := put false 0 true s.link.pending } := by
  simp only [settle, settledLink]
  split
  · exact message_link 0 s.link s.outbox
  · simp

theorem fresh_eq (s : State) : fresh s = { s with outbox := [] } := rfl

@[simp] theorem settle_time (o s : State) : (settle o s).time = s.time := rfl
@[simp] theorem settle_snap (o s : State) : (settle o s).snap = s.snap := rfl
@[simp] theorem settle_key (o s : State) : (settle o s).key = s.key := rfl
@[simp] theorem settle_live (o s : State) : (settle o s).live = s.live := rfl
@[simp] theorem settle_mbox (o s : State) : (settle o s).mbox = s.mbox := rfl
@[simp] theorem settle_loader (o s : State) : (settle o s).loader = s.loader := rfl
@[simp] theorem settle_img (o s : State) : (settle o s).img = s.img := rfl
@[simp] theorem settle_life (o s : State) : (settle o s).life = s.life := rfl
@[simp] theorem settle_pwr (o s : State) : (settle o s).pwr = s.pwr := rfl
@[simp] theorem settle_clk (o s : State) : (settle o s).clk = s.clk := rfl
@[simp] theorem settle_chans (o s : State) : (settle o s).chans = s.chans := rfl
@[simp] theorem settle_store (o s : State) : (settle o s).store = s.store := rfl
@[simp] theorem settle_sleeves (o s : State) : (settle o s).sleeves = s.sleeves := rfl
@[simp] theorem settle_rings (o s : State) : (settle o s).rings = s.rings := rfl
@[simp] theorem settle_eng (o s : State) : (settle o s).eng = s.eng := rfl
@[simp] theorem settle_frames (o s : State) : (settle o s).frames = s.frames := rfl
@[simp] theorem settle_ssel (o s : State) : (settle o s).ssel = s.ssel := rfl
@[simp] theorem settle_traces (o s : State) : (settle o s).traces = s.traces := rfl
@[simp] theorem settle_dselTrace (o s : State) : (settle o s).dselTrace = s.dselTrace := rfl
@[simp] theorem settle_planes (o s : State) : (settle o s).planes = s.planes := rfl
@[simp] theorem settle_psel (o s : State) : (settle o s).psel = s.psel := rfl
@[simp] theorem settle_ctxs (o s : State) : (settle o s).ctxs = s.ctxs := rfl
@[simp] theorem settle_ctxSel (o s : State) : (settle o s).ctxSel = s.ctxSel := rfl
@[simp] theorem settle_trig (o s : State) : (settle o s).trig = s.trig := rfl
@[simp] theorem settle_tiu (o s : State) : (settle o s).tiu = s.tiu := rfl
@[simp] theorem settle_disk (o s : State) : (settle o s).disk = s.disk := rfl
@[simp] theorem settle_cal (o s : State) : (settle o s).cal = s.cal := rfl
@[simp] theorem settle_recorder (o s : State) : (settle o s).recorder = s.recorder := rfl
@[simp] theorem settle_mon (o s : State) : (settle o s).mon = s.mon := rfl
@[simp] theorem settle_pkg (o s : State) : (settle o s).pkg = s.pkg := rfl
@[simp] theorem settle_image (o s : State) : (settle o s).image = s.image := rfl
@[simp] theorem settle_accepted (o s : State) : (settle o s).accepted = s.accepted := rfl
@[simp] theorem settle_exceeded (o s : State) : (settle o s).exceeded = s.exceeded := rfl
@[simp] theorem settle_free (o s : State) : (settle o s).free = s.free := rfl
@[simp] theorem settle_pending (o s : State) : (settle o s).pending = s.pending := rfl

@[simp] theorem fresh_time (s : State) : (fresh s).time = s.time := rfl
@[simp] theorem fresh_stat (s : State) : (fresh s).stat = s.stat := rfl
@[simp] theorem fresh_snap (s : State) : (fresh s).snap = s.snap := rfl
@[simp] theorem fresh_key (s : State) : (fresh s).key = s.key := rfl
@[simp] theorem fresh_live (s : State) : (fresh s).live = s.live := rfl
@[simp] theorem fresh_mbox (s : State) : (fresh s).mbox = s.mbox := rfl
@[simp] theorem fresh_loader (s : State) : (fresh s).loader = s.loader := rfl
@[simp] theorem fresh_img (s : State) : (fresh s).img = s.img := rfl
@[simp] theorem fresh_life (s : State) : (fresh s).life = s.life := rfl
@[simp] theorem fresh_pwr (s : State) : (fresh s).pwr = s.pwr := rfl
@[simp] theorem fresh_clk (s : State) : (fresh s).clk = s.clk := rfl
@[simp] theorem fresh_chans (s : State) : (fresh s).chans = s.chans := rfl
@[simp] theorem fresh_store (s : State) : (fresh s).store = s.store := rfl
@[simp] theorem fresh_sleeves (s : State) : (fresh s).sleeves = s.sleeves := rfl
@[simp] theorem fresh_link (s : State) : (fresh s).link = s.link := rfl
@[simp] theorem fresh_rings (s : State) : (fresh s).rings = s.rings := rfl
@[simp] theorem fresh_eng (s : State) : (fresh s).eng = s.eng := rfl
@[simp] theorem fresh_frames (s : State) : (fresh s).frames = s.frames := rfl
@[simp] theorem fresh_ssel (s : State) : (fresh s).ssel = s.ssel := rfl
@[simp] theorem fresh_traces (s : State) : (fresh s).traces = s.traces := rfl
@[simp] theorem fresh_dselTrace (s : State) : (fresh s).dselTrace = s.dselTrace := rfl
@[simp] theorem fresh_planes (s : State) : (fresh s).planes = s.planes := rfl
@[simp] theorem fresh_psel (s : State) : (fresh s).psel = s.psel := rfl
@[simp] theorem fresh_ctxs (s : State) : (fresh s).ctxs = s.ctxs := rfl
@[simp] theorem fresh_ctxSel (s : State) : (fresh s).ctxSel = s.ctxSel := rfl
@[simp] theorem fresh_trig (s : State) : (fresh s).trig = s.trig := rfl
@[simp] theorem fresh_tiu (s : State) : (fresh s).tiu = s.tiu := rfl
@[simp] theorem fresh_disk (s : State) : (fresh s).disk = s.disk := rfl
@[simp] theorem fresh_cal (s : State) : (fresh s).cal = s.cal := rfl
@[simp] theorem fresh_recorder (s : State) : (fresh s).recorder = s.recorder := rfl
@[simp] theorem fresh_mon (s : State) : (fresh s).mon = s.mon := rfl
@[simp] theorem fresh_pkg (s : State) : (fresh s).pkg = s.pkg := rfl
@[simp] theorem fresh_image (s : State) : (fresh s).image = s.image := rfl
@[simp] theorem fresh_accepted (s : State) : (fresh s).accepted = s.accepted := rfl
@[simp] theorem fresh_exceeded (s : State) : (fresh s).exceeded = s.exceeded := rfl
@[simp] theorem fresh_free (s : State) : (fresh s).free = s.free := rfl
@[simp] theorem fresh_pending (s : State) : (fresh s).pending = s.pending := rfl

@[simp] theorem fresh_outbox (s : State) : (fresh s).outbox = [] := rfl

@[simp] theorem bumpBy_time (n a k : Nat) (s : State) : (bumpBy n a k s).time = s.time := by unfold bumpBy; split <;> rfl
@[simp] theorem bumpBy_stat (n a k : Nat) (s : State) : (bumpBy n a k s).stat = s.stat := by unfold bumpBy; split <;> rfl
@[simp] theorem bumpBy_key (n a k : Nat) (s : State) : (bumpBy n a k s).key = s.key := by unfold bumpBy; split <;> rfl
@[simp] theorem bumpBy_live (n a k : Nat) (s : State) : (bumpBy n a k s).live = s.live := by unfold bumpBy; split <;> rfl
@[simp] theorem bumpBy_mbox (n a k : Nat) (s : State) : (bumpBy n a k s).mbox = s.mbox := by unfold bumpBy; split <;> rfl
@[simp] theorem bumpBy_loader (n a k : Nat) (s : State) : (bumpBy n a k s).loader = s.loader := by unfold bumpBy; split <;> rfl
@[simp] theorem bumpBy_img (n a k : Nat) (s : State) : (bumpBy n a k s).img = s.img := by unfold bumpBy; split <;> rfl
@[simp] theorem bumpBy_life (n a k : Nat) (s : State) : (bumpBy n a k s).life = s.life := by unfold bumpBy; split <;> rfl
@[simp] theorem bumpBy_pwr (n a k : Nat) (s : State) : (bumpBy n a k s).pwr = s.pwr := by unfold bumpBy; split <;> rfl
@[simp] theorem bumpBy_clk (n a k : Nat) (s : State) : (bumpBy n a k s).clk = s.clk := by unfold bumpBy; split <;> rfl
@[simp] theorem bumpBy_chans (n a k : Nat) (s : State) : (bumpBy n a k s).chans = s.chans := by unfold bumpBy; split <;> rfl
@[simp] theorem bumpBy_store (n a k : Nat) (s : State) : (bumpBy n a k s).store = s.store := by unfold bumpBy; split <;> rfl
@[simp] theorem bumpBy_sleeves (n a k : Nat) (s : State) : (bumpBy n a k s).sleeves = s.sleeves := by unfold bumpBy; split <;> rfl
@[simp] theorem bumpBy_link (n a k : Nat) (s : State) : (bumpBy n a k s).link = s.link := by unfold bumpBy; split <;> rfl
@[simp] theorem bumpBy_rings (n a k : Nat) (s : State) : (bumpBy n a k s).rings = s.rings := by unfold bumpBy; split <;> rfl
@[simp] theorem bumpBy_eng (n a k : Nat) (s : State) : (bumpBy n a k s).eng = s.eng := by unfold bumpBy; split <;> rfl
@[simp] theorem bumpBy_frames (n a k : Nat) (s : State) : (bumpBy n a k s).frames = s.frames := by unfold bumpBy; split <;> rfl
@[simp] theorem bumpBy_ssel (n a k : Nat) (s : State) : (bumpBy n a k s).ssel = s.ssel := by unfold bumpBy; split <;> rfl
@[simp] theorem bumpBy_traces (n a k : Nat) (s : State) : (bumpBy n a k s).traces = s.traces := by unfold bumpBy; split <;> rfl
@[simp] theorem bumpBy_dselTrace (n a k : Nat) (s : State) : (bumpBy n a k s).dselTrace = s.dselTrace := by unfold bumpBy; split <;> rfl
@[simp] theorem bumpBy_planes (n a k : Nat) (s : State) : (bumpBy n a k s).planes = s.planes := by unfold bumpBy; split <;> rfl
@[simp] theorem bumpBy_psel (n a k : Nat) (s : State) : (bumpBy n a k s).psel = s.psel := by unfold bumpBy; split <;> rfl
@[simp] theorem bumpBy_ctxs (n a k : Nat) (s : State) : (bumpBy n a k s).ctxs = s.ctxs := by unfold bumpBy; split <;> rfl
@[simp] theorem bumpBy_ctxSel (n a k : Nat) (s : State) : (bumpBy n a k s).ctxSel = s.ctxSel := by unfold bumpBy; split <;> rfl
@[simp] theorem bumpBy_trig (n a k : Nat) (s : State) : (bumpBy n a k s).trig = s.trig := by unfold bumpBy; split <;> rfl
@[simp] theorem bumpBy_tiu (n a k : Nat) (s : State) : (bumpBy n a k s).tiu = s.tiu := by unfold bumpBy; split <;> rfl
@[simp] theorem bumpBy_disk (n a k : Nat) (s : State) : (bumpBy n a k s).disk = s.disk := by unfold bumpBy; split <;> rfl
@[simp] theorem bumpBy_cal (n a k : Nat) (s : State) : (bumpBy n a k s).cal = s.cal := by unfold bumpBy; split <;> rfl
@[simp] theorem bumpBy_recorder (n a k : Nat) (s : State) : (bumpBy n a k s).recorder = s.recorder := by unfold bumpBy; split <;> rfl
@[simp] theorem bumpBy_mon (n a k : Nat) (s : State) : (bumpBy n a k s).mon = s.mon := by unfold bumpBy; split <;> rfl
@[simp] theorem bumpBy_pkg (n a k : Nat) (s : State) : (bumpBy n a k s).pkg = s.pkg := by unfold bumpBy; split <;> rfl
@[simp] theorem bumpBy_image (n a k : Nat) (s : State) : (bumpBy n a k s).image = s.image := by unfold bumpBy; split <;> rfl
@[simp] theorem bumpBy_accepted (n a k : Nat) (s : State) : (bumpBy n a k s).accepted = s.accepted := by unfold bumpBy; split <;> rfl
@[simp] theorem bumpBy_exceeded (n a k : Nat) (s : State) : (bumpBy n a k s).exceeded = s.exceeded := by unfold bumpBy; split <;> rfl
@[simp] theorem bumpBy_free (n a k : Nat) (s : State) : (bumpBy n a k s).free = s.free := by unfold bumpBy; split <;> rfl
@[simp] theorem bumpBy_outbox (n a k : Nat) (s : State) : (bumpBy n a k s).outbox = s.outbox := by unfold bumpBy; split <;> rfl
@[simp] theorem bumpBy_pending (n a k : Nat) (s : State) : (bumpBy n a k s).pending = s.pending := by unfold bumpBy; split <;> rfl

@[simp] theorem bump_time (n a : Nat) (s : State) : (bump n a s).time = s.time := bumpBy_time n a 1 s
@[simp] theorem bump_stat (n a : Nat) (s : State) : (bump n a s).stat = s.stat := bumpBy_stat n a 1 s
@[simp] theorem bump_key (n a : Nat) (s : State) : (bump n a s).key = s.key := bumpBy_key n a 1 s
@[simp] theorem bump_live (n a : Nat) (s : State) : (bump n a s).live = s.live := bumpBy_live n a 1 s
@[simp] theorem bump_mbox (n a : Nat) (s : State) : (bump n a s).mbox = s.mbox := bumpBy_mbox n a 1 s
@[simp] theorem bump_loader (n a : Nat) (s : State) : (bump n a s).loader = s.loader := bumpBy_loader n a 1 s
@[simp] theorem bump_img (n a : Nat) (s : State) : (bump n a s).img = s.img := bumpBy_img n a 1 s
@[simp] theorem bump_life (n a : Nat) (s : State) : (bump n a s).life = s.life := bumpBy_life n a 1 s
@[simp] theorem bump_pwr (n a : Nat) (s : State) : (bump n a s).pwr = s.pwr := bumpBy_pwr n a 1 s
@[simp] theorem bump_clk (n a : Nat) (s : State) : (bump n a s).clk = s.clk := bumpBy_clk n a 1 s
@[simp] theorem bump_chans (n a : Nat) (s : State) : (bump n a s).chans = s.chans := bumpBy_chans n a 1 s
@[simp] theorem bump_store (n a : Nat) (s : State) : (bump n a s).store = s.store := bumpBy_store n a 1 s
@[simp] theorem bump_sleeves (n a : Nat) (s : State) : (bump n a s).sleeves = s.sleeves := bumpBy_sleeves n a 1 s
@[simp] theorem bump_link (n a : Nat) (s : State) : (bump n a s).link = s.link := bumpBy_link n a 1 s
@[simp] theorem bump_rings (n a : Nat) (s : State) : (bump n a s).rings = s.rings := bumpBy_rings n a 1 s
@[simp] theorem bump_eng (n a : Nat) (s : State) : (bump n a s).eng = s.eng := bumpBy_eng n a 1 s
@[simp] theorem bump_frames (n a : Nat) (s : State) : (bump n a s).frames = s.frames := bumpBy_frames n a 1 s
@[simp] theorem bump_ssel (n a : Nat) (s : State) : (bump n a s).ssel = s.ssel := bumpBy_ssel n a 1 s
@[simp] theorem bump_traces (n a : Nat) (s : State) : (bump n a s).traces = s.traces := bumpBy_traces n a 1 s
@[simp] theorem bump_dselTrace (n a : Nat) (s : State) : (bump n a s).dselTrace = s.dselTrace := bumpBy_dselTrace n a 1 s
@[simp] theorem bump_planes (n a : Nat) (s : State) : (bump n a s).planes = s.planes := bumpBy_planes n a 1 s
@[simp] theorem bump_psel (n a : Nat) (s : State) : (bump n a s).psel = s.psel := bumpBy_psel n a 1 s
@[simp] theorem bump_ctxs (n a : Nat) (s : State) : (bump n a s).ctxs = s.ctxs := bumpBy_ctxs n a 1 s
@[simp] theorem bump_ctxSel (n a : Nat) (s : State) : (bump n a s).ctxSel = s.ctxSel := bumpBy_ctxSel n a 1 s
@[simp] theorem bump_trig (n a : Nat) (s : State) : (bump n a s).trig = s.trig := bumpBy_trig n a 1 s
@[simp] theorem bump_tiu (n a : Nat) (s : State) : (bump n a s).tiu = s.tiu := bumpBy_tiu n a 1 s
@[simp] theorem bump_disk (n a : Nat) (s : State) : (bump n a s).disk = s.disk := bumpBy_disk n a 1 s
@[simp] theorem bump_cal (n a : Nat) (s : State) : (bump n a s).cal = s.cal := bumpBy_cal n a 1 s
@[simp] theorem bump_recorder (n a : Nat) (s : State) : (bump n a s).recorder = s.recorder := bumpBy_recorder n a 1 s
@[simp] theorem bump_mon (n a : Nat) (s : State) : (bump n a s).mon = s.mon := bumpBy_mon n a 1 s
@[simp] theorem bump_pkg (n a : Nat) (s : State) : (bump n a s).pkg = s.pkg := bumpBy_pkg n a 1 s
@[simp] theorem bump_image (n a : Nat) (s : State) : (bump n a s).image = s.image := bumpBy_image n a 1 s
@[simp] theorem bump_accepted (n a : Nat) (s : State) : (bump n a s).accepted = s.accepted := bumpBy_accepted n a 1 s
@[simp] theorem bump_exceeded (n a : Nat) (s : State) : (bump n a s).exceeded = s.exceeded := bumpBy_exceeded n a 1 s
@[simp] theorem bump_free (n a : Nat) (s : State) : (bump n a s).free = s.free := bumpBy_free n a 1 s
@[simp] theorem bump_outbox (n a : Nat) (s : State) : (bump n a s).outbox = s.outbox := bumpBy_outbox n a 1 s
@[simp] theorem bump_pending (n a : Nat) (s : State) : (bump n a s).pending = s.pending := bumpBy_pending n a 1 s

@[simp] theorem logEvent_time (c q : Nat) (ps : List Nat) (s : State) : (logEvent c q ps s).time = s.time := by unfold logEvent; simp only []; (repeat' split) <;> simp
@[simp] theorem logEvent_key (c q : Nat) (ps : List Nat) (s : State) : (logEvent c q ps s).key = s.key := by unfold logEvent; simp only []; (repeat' split) <;> simp
@[simp] theorem logEvent_live (c q : Nat) (ps : List Nat) (s : State) : (logEvent c q ps s).live = s.live := by unfold logEvent; simp only []; (repeat' split) <;> simp
@[simp] theorem logEvent_mbox (c q : Nat) (ps : List Nat) (s : State) : (logEvent c q ps s).mbox = s.mbox := by unfold logEvent; simp only []; (repeat' split) <;> simp
@[simp] theorem logEvent_loader (c q : Nat) (ps : List Nat) (s : State) : (logEvent c q ps s).loader = s.loader := by unfold logEvent; simp only []; (repeat' split) <;> simp
@[simp] theorem logEvent_img (c q : Nat) (ps : List Nat) (s : State) : (logEvent c q ps s).img = s.img := by unfold logEvent; simp only []; (repeat' split) <;> simp
@[simp] theorem logEvent_life (c q : Nat) (ps : List Nat) (s : State) : (logEvent c q ps s).life = s.life := by unfold logEvent; simp only []; (repeat' split) <;> simp
@[simp] theorem logEvent_pwr (c q : Nat) (ps : List Nat) (s : State) : (logEvent c q ps s).pwr = s.pwr := by unfold logEvent; simp only []; (repeat' split) <;> simp
@[simp] theorem logEvent_clk (c q : Nat) (ps : List Nat) (s : State) : (logEvent c q ps s).clk = s.clk := by unfold logEvent; simp only []; (repeat' split) <;> simp
@[simp] theorem logEvent_chans (c q : Nat) (ps : List Nat) (s : State) : (logEvent c q ps s).chans = s.chans := by unfold logEvent; simp only []; (repeat' split) <;> simp
@[simp] theorem logEvent_store (c q : Nat) (ps : List Nat) (s : State) : (logEvent c q ps s).store = s.store := by unfold logEvent; simp only []; (repeat' split) <;> simp
@[simp] theorem logEvent_sleeves (c q : Nat) (ps : List Nat) (s : State) : (logEvent c q ps s).sleeves = s.sleeves := by unfold logEvent; simp only []; (repeat' split) <;> simp
@[simp] theorem logEvent_link (c q : Nat) (ps : List Nat) (s : State) : (logEvent c q ps s).link = s.link := by unfold logEvent; simp only []; (repeat' split) <;> simp
@[simp] theorem logEvent_rings (c q : Nat) (ps : List Nat) (s : State) : (logEvent c q ps s).rings = s.rings := by unfold logEvent; simp only []; (repeat' split) <;> simp
@[simp] theorem logEvent_eng (c q : Nat) (ps : List Nat) (s : State) : (logEvent c q ps s).eng = s.eng := by unfold logEvent; simp only []; (repeat' split) <;> simp
@[simp] theorem logEvent_frames (c q : Nat) (ps : List Nat) (s : State) : (logEvent c q ps s).frames = s.frames := by unfold logEvent; simp only []; (repeat' split) <;> simp
@[simp] theorem logEvent_ssel (c q : Nat) (ps : List Nat) (s : State) : (logEvent c q ps s).ssel = s.ssel := by unfold logEvent; simp only []; (repeat' split) <;> simp
@[simp] theorem logEvent_traces (c q : Nat) (ps : List Nat) (s : State) : (logEvent c q ps s).traces = s.traces := by unfold logEvent; simp only []; (repeat' split) <;> simp
@[simp] theorem logEvent_dselTrace (c q : Nat) (ps : List Nat) (s : State) : (logEvent c q ps s).dselTrace = s.dselTrace := by unfold logEvent; simp only []; (repeat' split) <;> simp
@[simp] theorem logEvent_planes (c q : Nat) (ps : List Nat) (s : State) : (logEvent c q ps s).planes = s.planes := by unfold logEvent; simp only []; (repeat' split) <;> simp
@[simp] theorem logEvent_psel (c q : Nat) (ps : List Nat) (s : State) : (logEvent c q ps s).psel = s.psel := by unfold logEvent; simp only []; (repeat' split) <;> simp
@[simp] theorem logEvent_ctxs (c q : Nat) (ps : List Nat) (s : State) : (logEvent c q ps s).ctxs = s.ctxs := by unfold logEvent; simp only []; (repeat' split) <;> simp
@[simp] theorem logEvent_ctxSel (c q : Nat) (ps : List Nat) (s : State) : (logEvent c q ps s).ctxSel = s.ctxSel := by unfold logEvent; simp only []; (repeat' split) <;> simp
@[simp] theorem logEvent_trig (c q : Nat) (ps : List Nat) (s : State) : (logEvent c q ps s).trig = s.trig := by unfold logEvent; simp only []; (repeat' split) <;> simp
@[simp] theorem logEvent_tiu (c q : Nat) (ps : List Nat) (s : State) : (logEvent c q ps s).tiu = s.tiu := by unfold logEvent; simp only []; (repeat' split) <;> simp
@[simp] theorem logEvent_disk (c q : Nat) (ps : List Nat) (s : State) : (logEvent c q ps s).disk = s.disk := by unfold logEvent; simp only []; (repeat' split) <;> simp
@[simp] theorem logEvent_cal (c q : Nat) (ps : List Nat) (s : State) : (logEvent c q ps s).cal = s.cal := by unfold logEvent; simp only []; (repeat' split) <;> simp
@[simp] theorem logEvent_mon (c q : Nat) (ps : List Nat) (s : State) : (logEvent c q ps s).mon = s.mon := by unfold logEvent; simp only []; (repeat' split) <;> simp
@[simp] theorem logEvent_pkg (c q : Nat) (ps : List Nat) (s : State) : (logEvent c q ps s).pkg = s.pkg := by unfold logEvent; simp only []; (repeat' split) <;> simp
@[simp] theorem logEvent_image (c q : Nat) (ps : List Nat) (s : State) : (logEvent c q ps s).image = s.image := by unfold logEvent; simp only []; (repeat' split) <;> simp
@[simp] theorem logEvent_accepted (c q : Nat) (ps : List Nat) (s : State) : (logEvent c q ps s).accepted = s.accepted := by unfold logEvent; simp only []; (repeat' split) <;> simp
@[simp] theorem logEvent_exceeded (c q : Nat) (ps : List Nat) (s : State) : (logEvent c q ps s).exceeded = s.exceeded := by unfold logEvent; simp only []; (repeat' split) <;> simp
@[simp] theorem logEvent_free (c q : Nat) (ps : List Nat) (s : State) : (logEvent c q ps s).free = s.free := by unfold logEvent; simp only []; (repeat' split) <;> simp
@[simp] theorem logEvent_outbox (c q : Nat) (ps : List Nat) (s : State) : (logEvent c q ps s).outbox = s.outbox := by unfold logEvent; simp only []; (repeat' split) <;> simp
@[simp] theorem logEvent_pending (c q : Nat) (ps : List Nat) (s : State) : (logEvent c q ps s).pending = s.pending := by unfold logEvent; simp only []; (repeat' split) <;> simp

@[simp] theorem sendVector_time (v : Nat) (s : State) : (sendVector v s).time = s.time := rfl
@[simp] theorem sendVector_stat (v : Nat) (s : State) : (sendVector v s).stat = s.stat := rfl
@[simp] theorem sendVector_snap (v : Nat) (s : State) : (sendVector v s).snap = s.snap := rfl
@[simp] theorem sendVector_key (v : Nat) (s : State) : (sendVector v s).key = s.key := rfl
@[simp] theorem sendVector_live (v : Nat) (s : State) : (sendVector v s).live = s.live := rfl
@[simp] theorem sendVector_mbox (v : Nat) (s : State) : (sendVector v s).mbox = s.mbox := rfl
@[simp] theorem sendVector_loader (v : Nat) (s : State) : (sendVector v s).loader = s.loader := rfl
@[simp] theorem sendVector_img (v : Nat) (s : State) : (sendVector v s).img = s.img := rfl
@[simp] theorem sendVector_life (v : Nat) (s : State) : (sendVector v s).life = s.life := rfl
@[simp] theorem sendVector_pwr (v : Nat) (s : State) : (sendVector v s).pwr = s.pwr := rfl
@[simp] theorem sendVector_clk (v : Nat) (s : State) : (sendVector v s).clk = s.clk := rfl
@[simp] theorem sendVector_chans (v : Nat) (s : State) : (sendVector v s).chans = s.chans := rfl
@[simp] theorem sendVector_store (v : Nat) (s : State) : (sendVector v s).store = s.store := rfl
@[simp] theorem sendVector_sleeves (v : Nat) (s : State) : (sendVector v s).sleeves = s.sleeves := rfl
@[simp] theorem sendVector_rings (v : Nat) (s : State) : (sendVector v s).rings = s.rings := rfl
@[simp] theorem sendVector_eng (v : Nat) (s : State) : (sendVector v s).eng = s.eng := rfl
@[simp] theorem sendVector_frames (v : Nat) (s : State) : (sendVector v s).frames = s.frames := rfl
@[simp] theorem sendVector_ssel (v : Nat) (s : State) : (sendVector v s).ssel = s.ssel := rfl
@[simp] theorem sendVector_traces (v : Nat) (s : State) : (sendVector v s).traces = s.traces := rfl
@[simp] theorem sendVector_dselTrace (v : Nat) (s : State) : (sendVector v s).dselTrace = s.dselTrace := rfl
@[simp] theorem sendVector_planes (v : Nat) (s : State) : (sendVector v s).planes = s.planes := rfl
@[simp] theorem sendVector_psel (v : Nat) (s : State) : (sendVector v s).psel = s.psel := rfl
@[simp] theorem sendVector_ctxs (v : Nat) (s : State) : (sendVector v s).ctxs = s.ctxs := rfl
@[simp] theorem sendVector_ctxSel (v : Nat) (s : State) : (sendVector v s).ctxSel = s.ctxSel := rfl
@[simp] theorem sendVector_trig (v : Nat) (s : State) : (sendVector v s).trig = s.trig := rfl
@[simp] theorem sendVector_tiu (v : Nat) (s : State) : (sendVector v s).tiu = s.tiu := rfl
@[simp] theorem sendVector_disk (v : Nat) (s : State) : (sendVector v s).disk = s.disk := rfl
@[simp] theorem sendVector_cal (v : Nat) (s : State) : (sendVector v s).cal = s.cal := rfl
@[simp] theorem sendVector_recorder (v : Nat) (s : State) : (sendVector v s).recorder = s.recorder := rfl
@[simp] theorem sendVector_mon (v : Nat) (s : State) : (sendVector v s).mon = s.mon := rfl
@[simp] theorem sendVector_pkg (v : Nat) (s : State) : (sendVector v s).pkg = s.pkg := rfl
@[simp] theorem sendVector_image (v : Nat) (s : State) : (sendVector v s).image = s.image := rfl
@[simp] theorem sendVector_accepted (v : Nat) (s : State) : (sendVector v s).accepted = s.accepted := rfl
@[simp] theorem sendVector_exceeded (v : Nat) (s : State) : (sendVector v s).exceeded = s.exceeded := rfl
@[simp] theorem sendVector_free (v : Nat) (s : State) : (sendVector v s).free = s.free := rfl
@[simp] theorem sendVector_pending (v : Nat) (s : State) : (sendVector v s).pending = s.pending := rfl

/-- An event with room in the intake queue and no freeze enters its end. -/
theorem logEvent_room {s : State} (c q : Nat) (ps : List Nat) (hf : s.recorder.freeze = none)
    (hq : s.recorder.queue.length < 256) : logEvent c q ps s =
      { s with recorder := { s.recorder with queue := s.recorder.queue ++ [recordOf s c q ps] } } := by
  simp [logEvent, hf, hq]

/-- A key-guarded write within a placket: the placket closes and the write acts. -/
theorem guarded_open {s : State} (off : Nat) (v : Word) (f : State → State) (h : placketOpen s = true) :
    guarded off v f s = f { s with key := none } := by simp [guarded, h]

/-- A key-guarded write outside a placket fails. -/
theorem guarded_shut {s : State} (off : Nat) (v : Word) (f : State → State) (h : placketOpen s = false) :
    guarded off v f s = keyFail off v { s with key := none } := by simp [guarded, h]

/-- A slot of a programmed engine whose gate is open executes. -/
theorem slot_open {s : State} {e : Nat} {q : Gate} {f : Engine → State → State}
    (hp : (engine s e).programmed = true) (hg : gateOpen (engine s e) q = true) :
    slot e q f s = f (engine s e) s := by simp [slot, hp, hg]

/-- A slot that is gated off, or of an engine without a programme, does nothing. -/
theorem slot_shut {s : State} {e : Nat} {q : Gate} {f : Engine → State → State}
    (h : (engine s e).programmed = false ∨ gateOpen (engine s e) q = false) : slot e q f s = s := by
  rcases h with h | h <;> simp [slot, h]

@[simp] theorem sendResult_time (e l r : Nat) (d : Dest) (v : BitVec 192) (fl : Nat) (s : State) : (sendResult e l r d v fl s).time = s.time := rfl
@[simp] theorem sendResult_stat (e l r : Nat) (d : Dest) (v : BitVec 192) (fl : Nat) (s : State) : (sendResult e l r d v fl s).stat = s.stat := rfl
@[simp] theorem sendResult_snap (e l r : Nat) (d : Dest) (v : BitVec 192) (fl : Nat) (s : State) : (sendResult e l r d v fl s).snap = s.snap := rfl
@[simp] theorem sendResult_key (e l r : Nat) (d : Dest) (v : BitVec 192) (fl : Nat) (s : State) : (sendResult e l r d v fl s).key = s.key := rfl
@[simp] theorem sendResult_live (e l r : Nat) (d : Dest) (v : BitVec 192) (fl : Nat) (s : State) : (sendResult e l r d v fl s).live = s.live := rfl
@[simp] theorem sendResult_mbox (e l r : Nat) (d : Dest) (v : BitVec 192) (fl : Nat) (s : State) : (sendResult e l r d v fl s).mbox = s.mbox := rfl
@[simp] theorem sendResult_loader (e l r : Nat) (d : Dest) (v : BitVec 192) (fl : Nat) (s : State) : (sendResult e l r d v fl s).loader = s.loader := rfl
@[simp] theorem sendResult_img (e l r : Nat) (d : Dest) (v : BitVec 192) (fl : Nat) (s : State) : (sendResult e l r d v fl s).img = s.img := rfl
@[simp] theorem sendResult_life (e l r : Nat) (d : Dest) (v : BitVec 192) (fl : Nat) (s : State) : (sendResult e l r d v fl s).life = s.life := rfl
@[simp] theorem sendResult_pwr (e l r : Nat) (d : Dest) (v : BitVec 192) (fl : Nat) (s : State) : (sendResult e l r d v fl s).pwr = s.pwr := rfl
@[simp] theorem sendResult_clk (e l r : Nat) (d : Dest) (v : BitVec 192) (fl : Nat) (s : State) : (sendResult e l r d v fl s).clk = s.clk := rfl
@[simp] theorem sendResult_chans (e l r : Nat) (d : Dest) (v : BitVec 192) (fl : Nat) (s : State) : (sendResult e l r d v fl s).chans = s.chans := rfl
@[simp] theorem sendResult_store (e l r : Nat) (d : Dest) (v : BitVec 192) (fl : Nat) (s : State) : (sendResult e l r d v fl s).store = s.store := rfl
@[simp] theorem sendResult_sleeves (e l r : Nat) (d : Dest) (v : BitVec 192) (fl : Nat) (s : State) : (sendResult e l r d v fl s).sleeves = s.sleeves := rfl
@[simp] theorem sendResult_link (e l r : Nat) (d : Dest) (v : BitVec 192) (fl : Nat) (s : State) : (sendResult e l r d v fl s).link = s.link := rfl
@[simp] theorem sendResult_rings (e l r : Nat) (d : Dest) (v : BitVec 192) (fl : Nat) (s : State) : (sendResult e l r d v fl s).rings = s.rings := rfl
@[simp] theorem sendResult_frames (e l r : Nat) (d : Dest) (v : BitVec 192) (fl : Nat) (s : State) : (sendResult e l r d v fl s).frames = s.frames := rfl
@[simp] theorem sendResult_ssel (e l r : Nat) (d : Dest) (v : BitVec 192) (fl : Nat) (s : State) : (sendResult e l r d v fl s).ssel = s.ssel := rfl
@[simp] theorem sendResult_traces (e l r : Nat) (d : Dest) (v : BitVec 192) (fl : Nat) (s : State) : (sendResult e l r d v fl s).traces = s.traces := rfl
@[simp] theorem sendResult_dselTrace (e l r : Nat) (d : Dest) (v : BitVec 192) (fl : Nat) (s : State) : (sendResult e l r d v fl s).dselTrace = s.dselTrace := rfl
@[simp] theorem sendResult_planes (e l r : Nat) (d : Dest) (v : BitVec 192) (fl : Nat) (s : State) : (sendResult e l r d v fl s).planes = s.planes := rfl
@[simp] theorem sendResult_psel (e l r : Nat) (d : Dest) (v : BitVec 192) (fl : Nat) (s : State) : (sendResult e l r d v fl s).psel = s.psel := rfl
@[simp] theorem sendResult_ctxs (e l r : Nat) (d : Dest) (v : BitVec 192) (fl : Nat) (s : State) : (sendResult e l r d v fl s).ctxs = s.ctxs := rfl
@[simp] theorem sendResult_ctxSel (e l r : Nat) (d : Dest) (v : BitVec 192) (fl : Nat) (s : State) : (sendResult e l r d v fl s).ctxSel = s.ctxSel := rfl
@[simp] theorem sendResult_trig (e l r : Nat) (d : Dest) (v : BitVec 192) (fl : Nat) (s : State) : (sendResult e l r d v fl s).trig = s.trig := rfl
@[simp] theorem sendResult_tiu (e l r : Nat) (d : Dest) (v : BitVec 192) (fl : Nat) (s : State) : (sendResult e l r d v fl s).tiu = s.tiu := rfl
@[simp] theorem sendResult_disk (e l r : Nat) (d : Dest) (v : BitVec 192) (fl : Nat) (s : State) : (sendResult e l r d v fl s).disk = s.disk := rfl
@[simp] theorem sendResult_cal (e l r : Nat) (d : Dest) (v : BitVec 192) (fl : Nat) (s : State) : (sendResult e l r d v fl s).cal = s.cal := rfl
@[simp] theorem sendResult_recorder (e l r : Nat) (d : Dest) (v : BitVec 192) (fl : Nat) (s : State) : (sendResult e l r d v fl s).recorder = s.recorder := rfl
@[simp] theorem sendResult_mon (e l r : Nat) (d : Dest) (v : BitVec 192) (fl : Nat) (s : State) : (sendResult e l r d v fl s).mon = s.mon := rfl
@[simp] theorem sendResult_pkg (e l r : Nat) (d : Dest) (v : BitVec 192) (fl : Nat) (s : State) : (sendResult e l r d v fl s).pkg = s.pkg := rfl
@[simp] theorem sendResult_image (e l r : Nat) (d : Dest) (v : BitVec 192) (fl : Nat) (s : State) : (sendResult e l r d v fl s).image = s.image := rfl
@[simp] theorem sendResult_accepted (e l r : Nat) (d : Dest) (v : BitVec 192) (fl : Nat) (s : State) : (sendResult e l r d v fl s).accepted = s.accepted := rfl
@[simp] theorem sendResult_exceeded (e l r : Nat) (d : Dest) (v : BitVec 192) (fl : Nat) (s : State) : (sendResult e l r d v fl s).exceeded = s.exceeded := rfl
@[simp] theorem sendResult_free (e l r : Nat) (d : Dest) (v : BitVec 192) (fl : Nat) (s : State) : (sendResult e l r d v fl s).free = s.free := rfl
@[simp] theorem sendResult_outbox (e l r : Nat) (d : Dest) (v : BitVec 192) (fl : Nat) (s : State) : (sendResult e l r d v fl s).outbox = s.outbox := rfl
@[simp] theorem sendResult_pending (e l r : Nat) (d : Dest) (v : BitVec 192) (fl : Nat) (s : State) : (sendResult e l r d v fl s).pending = s.pending := rfl

@[simp] theorem setFlags_time (e f : Nat) (s : State) : (setFlags e f s).time = s.time := rfl
@[simp] theorem setFlags_stat (e f : Nat) (s : State) : (setFlags e f s).stat = s.stat := rfl
@[simp] theorem setFlags_snap (e f : Nat) (s : State) : (setFlags e f s).snap = s.snap := rfl
@[simp] theorem setFlags_key (e f : Nat) (s : State) : (setFlags e f s).key = s.key := rfl
@[simp] theorem setFlags_live (e f : Nat) (s : State) : (setFlags e f s).live = s.live := rfl
@[simp] theorem setFlags_mbox (e f : Nat) (s : State) : (setFlags e f s).mbox = s.mbox := rfl
@[simp] theorem setFlags_loader (e f : Nat) (s : State) : (setFlags e f s).loader = s.loader := rfl
@[simp] theorem setFlags_img (e f : Nat) (s : State) : (setFlags e f s).img = s.img := rfl
@[simp] theorem setFlags_life (e f : Nat) (s : State) : (setFlags e f s).life = s.life := rfl
@[simp] theorem setFlags_pwr (e f : Nat) (s : State) : (setFlags e f s).pwr = s.pwr := rfl
@[simp] theorem setFlags_clk (e f : Nat) (s : State) : (setFlags e f s).clk = s.clk := rfl
@[simp] theorem setFlags_chans (e f : Nat) (s : State) : (setFlags e f s).chans = s.chans := rfl
@[simp] theorem setFlags_store (e f : Nat) (s : State) : (setFlags e f s).store = s.store := rfl
@[simp] theorem setFlags_sleeves (e f : Nat) (s : State) : (setFlags e f s).sleeves = s.sleeves := rfl
@[simp] theorem setFlags_link (e f : Nat) (s : State) : (setFlags e f s).link = s.link := rfl
@[simp] theorem setFlags_rings (e f : Nat) (s : State) : (setFlags e f s).rings = s.rings := rfl
@[simp] theorem setFlags_frames (e f : Nat) (s : State) : (setFlags e f s).frames = s.frames := rfl
@[simp] theorem setFlags_ssel (e f : Nat) (s : State) : (setFlags e f s).ssel = s.ssel := rfl
@[simp] theorem setFlags_traces (e f : Nat) (s : State) : (setFlags e f s).traces = s.traces := rfl
@[simp] theorem setFlags_dselTrace (e f : Nat) (s : State) : (setFlags e f s).dselTrace = s.dselTrace := rfl
@[simp] theorem setFlags_planes (e f : Nat) (s : State) : (setFlags e f s).planes = s.planes := rfl
@[simp] theorem setFlags_psel (e f : Nat) (s : State) : (setFlags e f s).psel = s.psel := rfl
@[simp] theorem setFlags_ctxs (e f : Nat) (s : State) : (setFlags e f s).ctxs = s.ctxs := rfl
@[simp] theorem setFlags_ctxSel (e f : Nat) (s : State) : (setFlags e f s).ctxSel = s.ctxSel := rfl
@[simp] theorem setFlags_trig (e f : Nat) (s : State) : (setFlags e f s).trig = s.trig := rfl
@[simp] theorem setFlags_tiu (e f : Nat) (s : State) : (setFlags e f s).tiu = s.tiu := rfl
@[simp] theorem setFlags_disk (e f : Nat) (s : State) : (setFlags e f s).disk = s.disk := rfl
@[simp] theorem setFlags_cal (e f : Nat) (s : State) : (setFlags e f s).cal = s.cal := rfl
@[simp] theorem setFlags_recorder (e f : Nat) (s : State) : (setFlags e f s).recorder = s.recorder := rfl
@[simp] theorem setFlags_mon (e f : Nat) (s : State) : (setFlags e f s).mon = s.mon := rfl
@[simp] theorem setFlags_pkg (e f : Nat) (s : State) : (setFlags e f s).pkg = s.pkg := rfl
@[simp] theorem setFlags_image (e f : Nat) (s : State) : (setFlags e f s).image = s.image := rfl
@[simp] theorem setFlags_accepted (e f : Nat) (s : State) : (setFlags e f s).accepted = s.accepted := rfl
@[simp] theorem setFlags_exceeded (e f : Nat) (s : State) : (setFlags e f s).exceeded = s.exceeded := rfl
@[simp] theorem setFlags_free (e f : Nat) (s : State) : (setFlags e f s).free = s.free := rfl
@[simp] theorem setFlags_outbox (e f : Nat) (s : State) : (setFlags e f s).outbox = s.outbox := rfl
@[simp] theorem setFlags_pending (e f : Nat) (s : State) : (setFlags e f s).pending = s.pending := rfl

@[simp] theorem storeLocal_time (e r a : Nat) (b : List Byte) (s : State) : (storeLocal e r a b s).time = s.time := by unfold storeLocal; simp only []; split <;> simp
@[simp] theorem storeLocal_key (e r a : Nat) (b : List Byte) (s : State) : (storeLocal e r a b s).key = s.key := by unfold storeLocal; simp only []; split <;> simp
@[simp] theorem storeLocal_live (e r a : Nat) (b : List Byte) (s : State) : (storeLocal e r a b s).live = s.live := by unfold storeLocal; simp only []; split <;> simp
@[simp] theorem storeLocal_mbox (e r a : Nat) (b : List Byte) (s : State) : (storeLocal e r a b s).mbox = s.mbox := by unfold storeLocal; simp only []; split <;> simp
@[simp] theorem storeLocal_loader (e r a : Nat) (b : List Byte) (s : State) : (storeLocal e r a b s).loader = s.loader := by unfold storeLocal; simp only []; split <;> simp
@[simp] theorem storeLocal_img (e r a : Nat) (b : List Byte) (s : State) : (storeLocal e r a b s).img = s.img := by unfold storeLocal; simp only []; split <;> simp
@[simp] theorem storeLocal_life (e r a : Nat) (b : List Byte) (s : State) : (storeLocal e r a b s).life = s.life := by unfold storeLocal; simp only []; split <;> simp
@[simp] theorem storeLocal_pwr (e r a : Nat) (b : List Byte) (s : State) : (storeLocal e r a b s).pwr = s.pwr := by unfold storeLocal; simp only []; split <;> simp
@[simp] theorem storeLocal_clk (e r a : Nat) (b : List Byte) (s : State) : (storeLocal e r a b s).clk = s.clk := by unfold storeLocal; simp only []; split <;> simp
@[simp] theorem storeLocal_chans (e r a : Nat) (b : List Byte) (s : State) : (storeLocal e r a b s).chans = s.chans := by unfold storeLocal; simp only []; split <;> simp
@[simp] theorem storeLocal_store (e r a : Nat) (b : List Byte) (s : State) : (storeLocal e r a b s).store = s.store := by unfold storeLocal; simp only []; split <;> simp
@[simp] theorem storeLocal_sleeves (e r a : Nat) (b : List Byte) (s : State) : (storeLocal e r a b s).sleeves = s.sleeves := by unfold storeLocal; simp only []; split <;> simp
@[simp] theorem storeLocal_link (e r a : Nat) (b : List Byte) (s : State) : (storeLocal e r a b s).link = s.link := by unfold storeLocal; simp only []; split <;> simp
@[simp] theorem storeLocal_rings (e r a : Nat) (b : List Byte) (s : State) : (storeLocal e r a b s).rings = s.rings := by unfold storeLocal; simp only []; split <;> simp
@[simp] theorem storeLocal_frames (e r a : Nat) (b : List Byte) (s : State) : (storeLocal e r a b s).frames = s.frames := by unfold storeLocal; simp only []; split <;> simp
@[simp] theorem storeLocal_ssel (e r a : Nat) (b : List Byte) (s : State) : (storeLocal e r a b s).ssel = s.ssel := by unfold storeLocal; simp only []; split <;> simp
@[simp] theorem storeLocal_traces (e r a : Nat) (b : List Byte) (s : State) : (storeLocal e r a b s).traces = s.traces := by unfold storeLocal; simp only []; split <;> simp
@[simp] theorem storeLocal_dselTrace (e r a : Nat) (b : List Byte) (s : State) : (storeLocal e r a b s).dselTrace = s.dselTrace := by unfold storeLocal; simp only []; split <;> simp
@[simp] theorem storeLocal_planes (e r a : Nat) (b : List Byte) (s : State) : (storeLocal e r a b s).planes = s.planes := by unfold storeLocal; simp only []; split <;> simp
@[simp] theorem storeLocal_psel (e r a : Nat) (b : List Byte) (s : State) : (storeLocal e r a b s).psel = s.psel := by unfold storeLocal; simp only []; split <;> simp
@[simp] theorem storeLocal_ctxs (e r a : Nat) (b : List Byte) (s : State) : (storeLocal e r a b s).ctxs = s.ctxs := by unfold storeLocal; simp only []; split <;> simp
@[simp] theorem storeLocal_ctxSel (e r a : Nat) (b : List Byte) (s : State) : (storeLocal e r a b s).ctxSel = s.ctxSel := by unfold storeLocal; simp only []; split <;> simp
@[simp] theorem storeLocal_trig (e r a : Nat) (b : List Byte) (s : State) : (storeLocal e r a b s).trig = s.trig := by unfold storeLocal; simp only []; split <;> simp
@[simp] theorem storeLocal_tiu (e r a : Nat) (b : List Byte) (s : State) : (storeLocal e r a b s).tiu = s.tiu := by unfold storeLocal; simp only []; split <;> simp
@[simp] theorem storeLocal_disk (e r a : Nat) (b : List Byte) (s : State) : (storeLocal e r a b s).disk = s.disk := by unfold storeLocal; simp only []; split <;> simp
@[simp] theorem storeLocal_cal (e r a : Nat) (b : List Byte) (s : State) : (storeLocal e r a b s).cal = s.cal := by unfold storeLocal; simp only []; split <;> simp
@[simp] theorem storeLocal_recorder (e r a : Nat) (b : List Byte) (s : State) : (storeLocal e r a b s).recorder = s.recorder := by unfold storeLocal; simp only []; split <;> simp
@[simp] theorem storeLocal_mon (e r a : Nat) (b : List Byte) (s : State) : (storeLocal e r a b s).mon = s.mon := by unfold storeLocal; simp only []; split <;> simp
@[simp] theorem storeLocal_pkg (e r a : Nat) (b : List Byte) (s : State) : (storeLocal e r a b s).pkg = s.pkg := by unfold storeLocal; simp only []; split <;> simp
@[simp] theorem storeLocal_image (e r a : Nat) (b : List Byte) (s : State) : (storeLocal e r a b s).image = s.image := by unfold storeLocal; simp only []; split <;> simp
@[simp] theorem storeLocal_accepted (e r a : Nat) (b : List Byte) (s : State) : (storeLocal e r a b s).accepted = s.accepted := by unfold storeLocal; simp only []; split <;> simp
@[simp] theorem storeLocal_exceeded (e r a : Nat) (b : List Byte) (s : State) : (storeLocal e r a b s).exceeded = s.exceeded := by unfold storeLocal; simp only []; split <;> simp
@[simp] theorem storeLocal_free (e r a : Nat) (b : List Byte) (s : State) : (storeLocal e r a b s).free = s.free := by unfold storeLocal; simp only []; split <;> simp
@[simp] theorem storeLocal_outbox (e r a : Nat) (b : List Byte) (s : State) : (storeLocal e r a b s).outbox = s.outbox := by unfold storeLocal; simp only []; split <;> simp
@[simp] theorem storeLocal_pending (e r a : Nat) (b : List Byte) (s : State) : (storeLocal e r a b s).pending = s.pending := by unfold storeLocal; simp only []; split <;> simp

@[simp] theorem stopUnits_time (s : State) : (stopUnits s).time = s.time := rfl
@[simp] theorem stopUnits_stat (s : State) : (stopUnits s).stat = s.stat := rfl
@[simp] theorem stopUnits_snap (s : State) : (stopUnits s).snap = s.snap := rfl
@[simp] theorem stopUnits_key (s : State) : (stopUnits s).key = s.key := rfl
@[simp] theorem stopUnits_live (s : State) : (stopUnits s).live = s.live := rfl
@[simp] theorem stopUnits_mbox (s : State) : (stopUnits s).mbox = s.mbox := rfl
@[simp] theorem stopUnits_loader (s : State) : (stopUnits s).loader = s.loader := rfl
@[simp] theorem stopUnits_life (s : State) : (stopUnits s).life = s.life := rfl
@[simp] theorem stopUnits_pwr (s : State) : (stopUnits s).pwr = s.pwr := rfl
@[simp] theorem stopUnits_clk (s : State) : (stopUnits s).clk = s.clk := rfl
@[simp] theorem stopUnits_sleeves (s : State) : (stopUnits s).sleeves = s.sleeves := rfl
@[simp] theorem stopUnits_link (s : State) : (stopUnits s).link = s.link := rfl
@[simp] theorem stopUnits_rings (s : State) : (stopUnits s).rings = s.rings := rfl
@[simp] theorem stopUnits_ssel (s : State) : (stopUnits s).ssel = s.ssel := rfl
@[simp] theorem stopUnits_dselTrace (s : State) : (stopUnits s).dselTrace = s.dselTrace := rfl
@[simp] theorem stopUnits_psel (s : State) : (stopUnits s).psel = s.psel := rfl
@[simp] theorem stopUnits_ctxSel (s : State) : (stopUnits s).ctxSel = s.ctxSel := rfl
@[simp] theorem stopUnits_trig (s : State) : (stopUnits s).trig = s.trig := rfl
@[simp] theorem stopUnits_tiu (s : State) : (stopUnits s).tiu = s.tiu := rfl
@[simp] theorem stopUnits_disk (s : State) : (stopUnits s).disk = s.disk := rfl
@[simp] theorem stopUnits_cal (s : State) : (stopUnits s).cal = s.cal := rfl
@[simp] theorem stopUnits_recorder (s : State) : (stopUnits s).recorder = s.recorder := rfl
@[simp] theorem stopUnits_mon (s : State) : (stopUnits s).mon = s.mon := rfl
@[simp] theorem stopUnits_pkg (s : State) : (stopUnits s).pkg = s.pkg := rfl
@[simp] theorem stopUnits_image (s : State) : (stopUnits s).image = s.image := rfl
@[simp] theorem stopUnits_accepted (s : State) : (stopUnits s).accepted = s.accepted := rfl
@[simp] theorem stopUnits_exceeded (s : State) : (stopUnits s).exceeded = s.exceeded := rfl
@[simp] theorem stopUnits_free (s : State) : (stopUnits s).free = s.free := rfl
@[simp] theorem stopUnits_outbox (s : State) : (stopUnits s).outbox = s.outbox := rfl
@[simp] theorem stopUnits_pending (s : State) : (stopUnits s).pending = s.pending := rfl

/-- Every pass converts every die sensor, whatever mask ROM holds (R449, R456). -/
theorem vendor_covers (i : Nat) (hi : i < 6) :
    (∃ e, e < 96 ∧ (vendorEntry e).inputA = 13 + i) ∧ ∃ e, e < 96 ∧ (vendorEntry e).inputB = 13 + i := by
  by_cases h : romCovers = true
  · have h' := h
    simp only [romCovers, List.all_eq_true, Bool.and_eq_true, List.any_eq_true, List.mem_range, beq_iff_eq] at h'
    obtain ⟨⟨a, ha, hae⟩, b, hb, hbe⟩ := h' i hi
    exact ⟨⟨a, ha, by simpa [vendorEntry, h] using hae⟩, b, hb, by simpa [vendorEntry, h] using hbe⟩
  · simp only [Bool.not_eq_true] at h
    exact ⟨⟨i, by omega, by simp [vendorEntry, h, hi]⟩, i, by omega, by simp [vendorEntry, h, hi]⟩

/-- A request covers its bytes with whole 64-byte units (R164). -/
theorem openSpan_covers (a n : Nat) : a / 64 * 64 ≤ a ∧ a + n ≤ a / 64 * 64 + ((a + n + 63) / 64 * 64 - a / 64 * 64) ∧
    a / 64 * 64 % 64 = 0 ∧ ((a + n + 63) / 64 * 64 - a / 64 * 64) % 64 = 0 := by omega

/-- The shared static stream reads a record once (R249). -/
theorem sharedRead_again {s : State} {k j : Nat} (h : j < (frameStream s k).readTo) : sharedRead k j s = s := by
  simp [sharedRead, Nat.not_le.2 h]

/-- A relay that stands in its place is not driven at a function start (R137). -/
theorem startRelay_here (c relay p sensed : Nat) (retried : Bool) (s : State) :
    startRelay c relay p p sensed retried s = (s, p) := by simp [startRelay]

/-- A placket stays until its time is over (R89). -/
theorem placketOver_open {s : State} (h : placketOpen s = true) : placketOver s = s := by simp [placketOver, h]

end Sys2Proof.Machine
end

