-- ==== Sys2Proof/Laws/PerInstr.lean ====
section
/-! SUPPORT. One lemma for each command: the unit that a well-formed command names is one of those that the spec gives. -/

namespace Sys2Proof.Laws.WellFormed

open Machine

/-- The numbered unit that a command acts on, with how many such units there are (R11, R281, R387); none where it acts on
no numbered unit. -/
def unit : Instr → Option (Nat × Nat)
  | .supplyValid _ _ _ => none
  | .supplyInvalid _ => none
  | .stbyHigh => none
  | .stbyLow _ _ => none
  | .standbyRailsOff => none
  | .railGroupInRegulation _ => none
  | .railFault _ _ => none
  | .ovenOscillatorRuns _ _ => none
  | .rootSynthLock => none
  | .storeTrainingDone _ _ => none
  | .storeZeroed => none
  | .bootPointerRead _ _ _ => none
  | .boardRecordRead _ => none
  | .imageHeaderRead _ => none
  | .imageBodyRead _ _ => none
  | .functionStart _ => none
  | .hostLinkReady _ _ _ => none
  | .configRequest _ _ => none
  | .perstRelease => none
  | .perstAssert => none
  | .hotReset => none
  | .functionLevelReset => none
  | .linkDown => none
  | .d3hotEntry => none
  | .unsupportedRequest _ => none
  | .restartRequest _ => none
  | .functionStopAtSeam => none
  | .nvmeDrainDone => none
  | .nvmeDrainTimeout => none
  | .volumeCloseDone => none
  | .rootUnlock => none
  | .rootRelock => none
  | .rootRelockTimeout => none
  | .bar0Write _ _ _ => none
  | .statSummaryRead => none
  | .statGrpRead n => some (n, 25)
  | .keyUnlockWrite _ => none
  | .placketTimeout => none
  | .snapTake _ => none
  | .liveShadowWrite n _ => some (n, 4096)
  | .liveCommit _ => none
  | .liveRangeCheckDone => none
  | .seamStart => none
  | .seamEnd => none
  | .nop _ => none
  | .getState _ => none
  | .flashInfo _ => none
  | .flashRead _ => none
  | .flashErase _ => none
  | .flashProgram _ => none
  | .boardRead _ => none
  | .ksWrite _ => none
  | .ksRevoke _ => none
  | .calRunCalibrate _ => none
  | .calRunAgeing _ => none
  | .calStore _ => none
  | .calAbort _ => none
  | .logFreeze _ => none
  | .logThaw _ => none
  | .logClear _ => none
  | .unknownOpcode _ _ => none
  | .mailboxComplete _ _ _ => none
  | .ovenSample _ _ => none
  | .ageingEvaluation => none
  | .tuneSlewStep => none
  | .synthOffsetStep => none
  | .refGateComplete _ _ => none
  | .refEdgeTimeout => none
  | .lockAchieved => none
  | .operatingSecond => none
  | .converterSample ch _ => some (ch, 4)
  | .sliceClamp ch _ => some (ch, 4)
  | .deepTrip ch => some (ch, 4)
  | .overloadWindowEnd ch => some (ch, 4)
  | .neighbourAdjEnd ch => some (ch, 4)
  | .adjWindowEnd ch => some (ch, 4)
  | .relaySenseReached ch _ => some (ch, 4)
  | .relayRetry ch _ => some (ch, 4)
  | .relayFault ch _ _ => some (ch, 4)
  | .sleeveBlockWrite sleeve _ _ => some (sleeve, 2048)
  | .writerResume sleeve => some (sleeve, 2048)
  | .openTransaction _ => none
  | .openReadData _ => none
  | .tagGrant requester => some (requester, 6)
  | .bar2Read _ _ => none
  | .bar2Write _ _ => none
  | .streamReadLand e _ => some (e, 192)
  | .streamWriteTake e _ => some (e, 192)
  | .resultLands e => some (e, 192)
  | .xchDelivery e => some (e, 192)
  | .loopExit e => some (e, 192)
  | .stopBundle e => some (e, 192)
  | .seamMark e => some (e, 192)
  | .illegalEncoding e => some (e, 192)
  | .br e _ _ => some (e, 192)
  | .brx e _ _ => some (e, 192)
  | .loop e _ _ => some (e, 192)
  | .bxclr e _ => some (e, 192)
  | .bsc e _ _ _ _ => some (e, 192)
  | .clrf e _ => some (e, 192)
  | .rofset e _ _ => some (e, 192)
  | .ldv e _ _ => some (e, 192)
  | .ldc e _ _ => some (e, 192)
  | .ldp12 e _ _ => some (e, 192)
  | .ldu16 e _ _ => some (e, 192)
  | .ldx e _ _ => some (e, 192)
  | .stv e _ _ => some (e, 192)
  | .sth e _ _ => some (e, 192)
  | .stq e _ _ => some (e, 192)
  | .stx e _ _ => some (e, 192)
  | .cmul e _ _ => some (e, 192)
  | .cmla e _ _ => some (e, 192)
  | .cmac e _ _ => some (e, 192)
  | .acrd e _ _ => some (e, 192)
  | .acrc e _ _ => some (e, 192)
  | .fcvtp e _ _ => some (e, 192)
  | .fcvtl e _ _ => some (e, 192)
  | .cadd e _ _ => some (e, 192)
  | .csub e _ _ => some (e, 192)
  | .bfy e _ _ => some (e, 192)
  | .bfyj e _ _ => some (e, 192)
  | .vmov e _ _ => some (e, 192)
  | .conj e _ _ => some (e, 192)
  | .vshr e _ _ => some (e, 192)
  | .norm e _ _ => some (e, 192)
  | .exp e _ _ => some (e, 192)
  | .add e _ _ => some (e, 192)
  | .sub e _ _ => some (e, 192)
  | .and e _ _ => some (e, 192)
  | .or e _ _ => some (e, 192)
  | .xor e _ _ => some (e, 192)
  | .shl e _ _ => some (e, 192)
  | .shra e _ _ => some (e, 192)
  | .shrl e _ _ => some (e, 192)
  | .min e _ _ => some (e, 192)
  | .max e _ _ => some (e, 192)
  | .movi e _ _ => some (e, 192)
  | .movhi e _ _ => some (e, 192)
  | .bxget e _ _ => some (e, 192)
  | .movf e _ _ => some (e, 192)
  | .movxv e _ _ => some (e, 192)
  | .movvx e _ _ => some (e, 192)
  | .cmpeq e _ _ => some (e, 192)
  | .cmplt e _ _ => some (e, 192)
  | .cmpltu e _ _ => some (e, 192)
  | .pand e _ _ => some (e, 192)
  | .por e _ _ => some (e, 192)
  | .pnot e _ _ => some (e, 192)
  | .send e _ _ => some (e, 192)
  | .sendx e _ _ => some (e, 192)
  | .frameStamp stream => some (stream, 64)
  | .traceFrame d => some (d, 32)
  | .traceIntervalClose d => some (d, 32)
  | .densityFrame p => some (p, 8)
  | .exposureClose p => some (p, 8)
  | .copyPassStart p => some (p, 8)
  | .copyPassEnd p => some (p, 8)
  | .contextInputRow c => some (c, 1024)
  | .contextInputLoss c _ => some (c, 1024)
  | .settlingComplete c => some (c, 1024)
  | .crossfadeEnd c => some (c, 1024)
  | .detectorIntervalClose c => some (c, 1024)
  | .iqRecordClose c => some (c, 1024)
  | .contextRecordWrite c => some (c, 1024)
  | .fallbackToleranceExpiry c => some (c, 1024)
  | .fallbackExit c => some (c, 1024)
  | .maskFrame c => some (c, 256)
  | .occurrenceArrival g _ => some (g, 16)
  | .occurrenceExpiry g => some (g, 16)
  | .hemEnd g => some (g, 16)
  | .holdoffEnd g => some (g, 16)
  | .trgArm _ => none
  | .trgDisarm _ => none
  | .trgForce _ => none
  | .capAbort _ => none
  | .eventEdge n _ _ => some (n, 8)
  | .tiuCal _ => none
  | .tiuCalDone n _ => some (n, 8)
  | .frequencyGateEnd n => some (n, 8)
  | .thrSettleEnd n => some (n, 8)
  | .outputPulseEnd o => some (o, 6)
  | .tiuRecordWrite n => some (n, 8)
  | .driveLinkUp d _ _ _ => some (d, 16)
  | .driveLinkTimeout d => some (d, 16)
  | .driveReady d => some (d, 16)
  | .driveReadyTimeout d => some (d, 16)
  | .identifyDone d _ => some (d, 16)
  | .labelRead _ _ => none
  | .driveDmaAccess d _ => some (d, 16)
  | .stripeWrite sleeve => some (sleeve, 2048)
  | .nvmeCompletion d _ _ => some (d, 16)
  | .nvmeCommandTimeout d _ => some (d, 16)
  | .driveLinkLost d => some (d, 16)
  | .dmaQTailWrite q _ => some (q, 8192)
  | .dmaQCheadWrite q _ => some (q, 8192)
  | .dmaQCtrlWrite q _ => some (q, 8192)
  | .dmaQAbort q => some (q, 8192)
  | .dmaQFlush q => some (q, 8192)
  | .descriptorFetch q _ => some (q, 8192)
  | .tableFetch q _ => some (q, 8192)
  | .burstDone q => some (q, 8192)
  | .hostReadCompletion q _ => some (q, 8192)
  | .destWaitEnd q => some (q, 8192)
  | .streamFlushTimeout q => some (q, 8192)
  | .noticeWrite q => some (q, 8192)
  | .calMeasurementDone _ => none
  | .calComputeDone _ => none
  | .calTurnEnd => none
  | .trackerIntervalEnd ch _ _ _ => some (ch, 4)
  | .logRecordWritten _ _ _ => none
  | .mramTimeout => none
  | .freezeTimeout => none
  | .fallbackProgram => none
  | .inputTrip => none
  | .pwrInUpdate _ => none
  | .slackLow _ => none
  | .avsLower _ => none
  | .thermalShutdown => none
  | .monPassStart => none
  | .monEntryStart => none
  | .monStartTimeout => none
  | .monEntryEnd _ _ => none
  | .monUrgentGo _ => none
  | .urgentConversionDone _ _ => none
  | .smbusSetOffset _ => none
  | .smbusRead => none
  | .smbusState => none
  | .completionTimeout q => some (q, 8192)
  | .flashNoAnswer => none
  | .volumeCloseTimeout => none
  | .railFaultRecordWaitExpiry => none
  | .dperstRelease p => some (p, 8)
  | .tapInstruction _ => none

/-- A well-formed command names a unit that there is. -/
def Statement (i : Instr) : Prop := wellFormed i = true → ∀ u, unit i = some u → u.1 < u.2

/-- The first of two tests that both pass. -/
theorem left {a b : Bool} (h : (a && b) = true) : a = true := by
  exact (Bool.and_eq_true_iff.mp h).1

theorem supplyValid : ∀ x0 x1 x2, Statement (.supplyValid x0 x1 x2) := fun _ _ _ _ _ hu => nomatch hu

theorem supplyInvalid : ∀ x0, Statement (.supplyInvalid x0) := fun _ _ _ hu => nomatch hu

theorem stbyHigh : Statement (.stbyHigh) := fun  _ _ hu => nomatch hu

theorem stbyLow : ∀ x0 x1, Statement (.stbyLow x0 x1) := fun _ _ _ _ hu => nomatch hu

theorem standbyRailsOff : Statement (.standbyRailsOff) := fun  _ _ hu => nomatch hu

theorem railGroupInRegulation : ∀ x0, Statement (.railGroupInRegulation x0) := fun _ _ _ hu => nomatch hu

theorem railFault : ∀ x0 x1, Statement (.railFault x0 x1) := fun _ _ _ _ hu => nomatch hu

theorem ovenOscillatorRuns : ∀ x0 x1, Statement (.ovenOscillatorRuns x0 x1) := fun _ _ _ _ hu => nomatch hu

theorem rootSynthLock : Statement (.rootSynthLock) := fun  _ _ hu => nomatch hu

theorem storeTrainingDone : ∀ x0 x1, Statement (.storeTrainingDone x0 x1) := fun _ _ _ _ hu => nomatch hu

theorem storeZeroed : Statement (.storeZeroed) := fun  _ _ hu => nomatch hu

theorem bootPointerRead : ∀ x0 x1 x2, Statement (.bootPointerRead x0 x1 x2) := fun _ _ _ _ _ hu => nomatch hu

theorem boardRecordRead : ∀ x0, Statement (.boardRecordRead x0) := fun _ _ _ hu => nomatch hu

theorem imageHeaderRead : ∀ x0, Statement (.imageHeaderRead x0) := fun _ _ _ hu => nomatch hu

theorem imageBodyRead : ∀ x0 x1, Statement (.imageBodyRead x0 x1) := fun _ _ _ _ hu => nomatch hu

theorem functionStart : ∀ x0, Statement (.functionStart x0) := fun _ _ _ hu => nomatch hu

theorem hostLinkReady : ∀ x0 x1 x2, Statement (.hostLinkReady x0 x1 x2) := fun _ _ _ _ _ hu => nomatch hu

theorem configRequest : ∀ x0 x1, Statement (.configRequest x0 x1) := fun _ _ _ _ hu => nomatch hu

theorem perstRelease : Statement (.perstRelease) := fun  _ _ hu => nomatch hu

theorem perstAssert : Statement (.perstAssert) := fun  _ _ hu => nomatch hu

theorem hotReset : Statement (.hotReset) := fun  _ _ hu => nomatch hu

theorem functionLevelReset : Statement (.functionLevelReset) := fun  _ _ hu => nomatch hu

theorem linkDown : Statement (.linkDown) := fun  _ _ hu => nomatch hu

theorem d3hotEntry : Statement (.d3hotEntry) := fun  _ _ hu => nomatch hu

theorem unsupportedRequest : ∀ x0, Statement (.unsupportedRequest x0) := fun _ _ _ hu => nomatch hu

theorem restartRequest : ∀ x0, Statement (.restartRequest x0) := fun _ _ _ hu => nomatch hu

theorem functionStopAtSeam : Statement (.functionStopAtSeam) := fun  _ _ hu => nomatch hu

theorem nvmeDrainDone : Statement (.nvmeDrainDone) := fun  _ _ hu => nomatch hu

theorem nvmeDrainTimeout : Statement (.nvmeDrainTimeout) := fun  _ _ hu => nomatch hu

theorem volumeCloseDone : Statement (.volumeCloseDone) := fun  _ _ hu => nomatch hu

theorem rootUnlock : Statement (.rootUnlock) := fun  _ _ hu => nomatch hu

theorem rootRelock : Statement (.rootRelock) := fun  _ _ hu => nomatch hu

theorem rootRelockTimeout : Statement (.rootRelockTimeout) := fun  _ _ hu => nomatch hu

theorem bar0Write : ∀ x0 x1 x2, Statement (.bar0Write x0 x1 x2) := fun _ _ _ _ _ hu => nomatch hu

theorem statSummaryRead : Statement (.statSummaryRead) := fun  _ _ hu => nomatch hu

theorem statGrpRead : ∀ x0, Statement (.statGrpRead x0) := fun _ h _ hu => by
  cases hu; exact of_decide_eq_true h

theorem keyUnlockWrite : ∀ x0, Statement (.keyUnlockWrite x0) := fun _ _ _ hu => nomatch hu

theorem placketTimeout : Statement (.placketTimeout) := fun  _ _ hu => nomatch hu

theorem snapTake : ∀ x0, Statement (.snapTake x0) := fun _ _ _ hu => nomatch hu

theorem liveShadowWrite : ∀ x0 x1, Statement (.liveShadowWrite x0 x1) := fun _ _ h _ hu => by
  cases hu; exact of_decide_eq_true h

theorem liveCommit : ∀ x0, Statement (.liveCommit x0) := fun _ _ _ hu => nomatch hu

theorem liveRangeCheckDone : Statement (.liveRangeCheckDone) := fun  _ _ hu => nomatch hu

theorem seamStart : Statement (.seamStart) := fun  _ _ hu => nomatch hu

theorem seamEnd : Statement (.seamEnd) := fun  _ _ hu => nomatch hu

theorem nop : ∀ x0, Statement (.nop x0) := fun _ _ _ hu => nomatch hu

theorem getState : ∀ x0, Statement (.getState x0) := fun _ _ _ hu => nomatch hu

theorem flashInfo : ∀ x0, Statement (.flashInfo x0) := fun _ _ _ hu => nomatch hu

theorem flashRead : ∀ x0, Statement (.flashRead x0) := fun _ _ _ hu => nomatch hu

theorem flashErase : ∀ x0, Statement (.flashErase x0) := fun _ _ _ hu => nomatch hu

theorem flashProgram : ∀ x0, Statement (.flashProgram x0) := fun _ _ _ hu => nomatch hu

theorem boardRead : ∀ x0, Statement (.boardRead x0) := fun _ _ _ hu => nomatch hu

theorem ksWrite : ∀ x0, Statement (.ksWrite x0) := fun _ _ _ hu => nomatch hu

theorem ksRevoke : ∀ x0, Statement (.ksRevoke x0) := fun _ _ _ hu => nomatch hu

theorem calRunCalibrate : ∀ x0, Statement (.calRunCalibrate x0) := fun _ _ _ hu => nomatch hu

theorem calRunAgeing : ∀ x0, Statement (.calRunAgeing x0) := fun _ _ _ hu => nomatch hu

theorem calStore : ∀ x0, Statement (.calStore x0) := fun _ _ _ hu => nomatch hu

theorem calAbort : ∀ x0, Statement (.calAbort x0) := fun _ _ _ hu => nomatch hu

theorem logFreeze : ∀ x0, Statement (.logFreeze x0) := fun _ _ _ hu => nomatch hu

theorem logThaw : ∀ x0, Statement (.logThaw x0) := fun _ _ _ hu => nomatch hu

theorem logClear : ∀ x0, Statement (.logClear x0) := fun _ _ _ hu => nomatch hu

theorem unknownOpcode : ∀ x0 x1, Statement (.unknownOpcode x0 x1) := fun _ _ _ _ hu => nomatch hu

theorem mailboxComplete : ∀ x0 x1 x2, Statement (.mailboxComplete x0 x1 x2) := fun _ _ _ _ _ hu => nomatch hu

theorem ovenSample : ∀ x0 x1, Statement (.ovenSample x0 x1) := fun _ _ _ _ hu => nomatch hu

theorem ageingEvaluation : Statement (.ageingEvaluation) := fun  _ _ hu => nomatch hu

theorem tuneSlewStep : Statement (.tuneSlewStep) := fun  _ _ hu => nomatch hu

theorem synthOffsetStep : Statement (.synthOffsetStep) := fun  _ _ hu => nomatch hu

theorem refGateComplete : ∀ x0 x1, Statement (.refGateComplete x0 x1) := fun _ _ _ _ hu => nomatch hu

theorem refEdgeTimeout : Statement (.refEdgeTimeout) := fun  _ _ hu => nomatch hu

theorem lockAchieved : Statement (.lockAchieved) := fun  _ _ hu => nomatch hu

theorem operatingSecond : Statement (.operatingSecond) := fun  _ _ hu => nomatch hu

theorem converterSample : ∀ x0 x1, Statement (.converterSample x0 x1) := fun _ _ h _ hu => by
  cases hu; exact of_decide_eq_true (left (left h))

theorem sliceClamp : ∀ x0 x1, Statement (.sliceClamp x0 x1) := fun _ _ h _ hu => by
  cases hu; exact of_decide_eq_true (left h)

theorem deepTrip : ∀ x0, Statement (.deepTrip x0) := fun _ h _ hu => by
  cases hu; exact of_decide_eq_true h

theorem overloadWindowEnd : ∀ x0, Statement (.overloadWindowEnd x0) := fun _ h _ hu => by
  cases hu; exact of_decide_eq_true h

theorem neighbourAdjEnd : ∀ x0, Statement (.neighbourAdjEnd x0) := fun _ h _ hu => by
  cases hu; exact of_decide_eq_true h

theorem adjWindowEnd : ∀ x0, Statement (.adjWindowEnd x0) := fun _ h _ hu => by
  cases hu; exact of_decide_eq_true h

theorem relaySenseReached : ∀ x0 x1, Statement (.relaySenseReached x0 x1) := fun _ _ h _ hu => by
  cases hu; exact of_decide_eq_true (left h)

theorem relayRetry : ∀ x0 x1, Statement (.relayRetry x0 x1) := fun _ _ h _ hu => by
  cases hu; exact of_decide_eq_true (left h)

theorem relayFault : ∀ x0 x1 x2, Statement (.relayFault x0 x1 x2) := fun _ _ _ h _ hu => by
  cases hu; exact of_decide_eq_true (left (left h))

theorem sleeveBlockWrite : ∀ x0 x1 x2, Statement (.sleeveBlockWrite x0 x1 x2) := fun _ _ _ h _ hu => by
  cases hu; exact of_decide_eq_true h

theorem writerResume : ∀ x0, Statement (.writerResume x0) := fun _ h _ hu => by
  cases hu; exact of_decide_eq_true h

theorem openTransaction : ∀ x0, Statement (.openTransaction x0) := fun _ _ _ hu => nomatch hu

theorem openReadData : ∀ x0, Statement (.openReadData x0) := fun _ _ _ hu => nomatch hu

theorem tagGrant : ∀ x0, Statement (.tagGrant x0) := fun _ h _ hu => by
  cases hu; exact of_decide_eq_true h

theorem bar2Read : ∀ x0 x1, Statement (.bar2Read x0 x1) := fun _ _ _ _ hu => nomatch hu

theorem bar2Write : ∀ x0 x1, Statement (.bar2Write x0 x1) := fun _ _ _ _ hu => nomatch hu

theorem streamReadLand : ∀ x0 x1, Statement (.streamReadLand x0 x1) := fun _ _ h _ hu => by
  cases hu; exact of_decide_eq_true (left h)

theorem streamWriteTake : ∀ x0 x1, Statement (.streamWriteTake x0 x1) := fun _ _ h _ hu => by
  cases hu; exact of_decide_eq_true (left h)

theorem resultLands : ∀ x0, Statement (.resultLands x0) := fun _ h _ hu => by
  cases hu; exact of_decide_eq_true h

theorem xchDelivery : ∀ x0, Statement (.xchDelivery x0) := fun _ h _ hu => by
  cases hu; exact of_decide_eq_true h

theorem loopExit : ∀ x0, Statement (.loopExit x0) := fun _ h _ hu => by
  cases hu; exact of_decide_eq_true h

theorem stopBundle : ∀ x0, Statement (.stopBundle x0) := fun _ h _ hu => by
  cases hu; exact of_decide_eq_true h

theorem seamMark : ∀ x0, Statement (.seamMark x0) := fun _ h _ hu => by
  cases hu; exact of_decide_eq_true h

theorem illegalEncoding : ∀ x0, Statement (.illegalEncoding x0) := fun _ h _ hu => by
  cases hu; exact of_decide_eq_true h

theorem br : ∀ x0 x1 x2, Statement (.br x0 x1 x2) := fun _ _ _ h _ hu => by
  cases hu; exact of_decide_eq_true (left (left h))

theorem brx : ∀ x0 x1 x2, Statement (.brx x0 x1 x2) := fun _ _ _ h _ hu => by
  cases hu; exact of_decide_eq_true (left (left h))

theorem loop : ∀ x0 x1 x2, Statement (.loop x0 x1 x2) := fun _ _ _ h _ hu => by
  cases hu; exact of_decide_eq_true (left (left h))

theorem bxclr : ∀ x0 x1, Statement (.bxclr x0 x1) := fun _ _ h _ hu => by
  cases hu; exact of_decide_eq_true (left h)

theorem bsc : ∀ x0 x1 x2 x3 x4, Statement (.bsc x0 x1 x2 x3 x4) := fun _ _ _ _ _ h _ hu => by
  cases hu; exact of_decide_eq_true (left (left (left h)))

theorem clrf : ∀ x0 x1, Statement (.clrf x0 x1) := fun _ _ h _ hu => by
  cases hu; exact of_decide_eq_true (left h)

theorem rofset : ∀ x0 x1 x2, Statement (.rofset x0 x1 x2) := fun _ _ _ h _ hu => by
  cases hu; exact of_decide_eq_true (left (left h))

theorem ldv : ∀ x0 x1 x2, Statement (.ldv x0 x1 x2) := fun _ _ _ h _ hu => by
  cases hu; exact of_decide_eq_true (left (left h))

theorem ldc : ∀ x0 x1 x2, Statement (.ldc x0 x1 x2) := fun _ _ _ h _ hu => by
  cases hu; exact of_decide_eq_true (left (left h))

theorem ldp12 : ∀ x0 x1 x2, Statement (.ldp12 x0 x1 x2) := fun _ _ _ h _ hu => by
  cases hu; exact of_decide_eq_true (left (left h))

theorem ldu16 : ∀ x0 x1 x2, Statement (.ldu16 x0 x1 x2) := fun _ _ _ h _ hu => by
  cases hu; exact of_decide_eq_true (left (left h))

theorem ldx : ∀ x0 x1 x2, Statement (.ldx x0 x1 x2) := fun _ _ _ h _ hu => by
  cases hu; exact of_decide_eq_true (left (left h))

theorem stv : ∀ x0 x1 x2, Statement (.stv x0 x1 x2) := fun _ _ _ h _ hu => by
  cases hu; exact of_decide_eq_true (left (left h))

theorem sth : ∀ x0 x1 x2, Statement (.sth x0 x1 x2) := fun _ _ _ h _ hu => by
  cases hu; exact of_decide_eq_true (left (left h))

theorem stq : ∀ x0 x1 x2, Statement (.stq x0 x1 x2) := fun _ _ _ h _ hu => by
  cases hu; exact of_decide_eq_true (left (left h))

theorem stx : ∀ x0 x1 x2, Statement (.stx x0 x1 x2) := fun _ _ _ h _ hu => by
  cases hu; exact of_decide_eq_true (left (left h))

theorem cmul : ∀ x0 x1 x2, Statement (.cmul x0 x1 x2) := fun _ _ _ h _ hu => by
  cases hu; exact of_decide_eq_true (left (left h))

theorem cmla : ∀ x0 x1 x2, Statement (.cmla x0 x1 x2) := fun _ _ _ h _ hu => by
  cases hu; exact of_decide_eq_true (left (left h))

theorem cmac : ∀ x0 x1 x2, Statement (.cmac x0 x1 x2) := fun _ _ _ h _ hu => by
  cases hu; exact of_decide_eq_true (left (left h))

theorem acrd : ∀ x0 x1 x2, Statement (.acrd x0 x1 x2) := fun _ _ _ h _ hu => by
  cases hu; exact of_decide_eq_true (left (left h))

theorem acrc : ∀ x0 x1 x2, Statement (.acrc x0 x1 x2) := fun _ _ _ h _ hu => by
  cases hu; exact of_decide_eq_true (left (left h))

theorem fcvtp : ∀ x0 x1 x2, Statement (.fcvtp x0 x1 x2) := fun _ _ _ h _ hu => by
  cases hu; exact of_decide_eq_true (left (left h))

theorem fcvtl : ∀ x0 x1 x2, Statement (.fcvtl x0 x1 x2) := fun _ _ _ h _ hu => by
  cases hu; exact of_decide_eq_true (left (left h))

theorem cadd : ∀ x0 x1 x2, Statement (.cadd x0 x1 x2) := fun _ _ _ h _ hu => by
  cases hu; exact of_decide_eq_true (left (left h))

theorem csub : ∀ x0 x1 x2, Statement (.csub x0 x1 x2) := fun _ _ _ h _ hu => by
  cases hu; exact of_decide_eq_true (left (left h))

theorem bfy : ∀ x0 x1 x2, Statement (.bfy x0 x1 x2) := fun _ _ _ h _ hu => by
  cases hu; exact of_decide_eq_true (left (left h))

theorem bfyj : ∀ x0 x1 x2, Statement (.bfyj x0 x1 x2) := fun _ _ _ h _ hu => by
  cases hu; exact of_decide_eq_true (left (left h))

theorem vmov : ∀ x0 x1 x2, Statement (.vmov x0 x1 x2) := fun _ _ _ h _ hu => by
  cases hu; exact of_decide_eq_true (left (left h))

theorem conj : ∀ x0 x1 x2, Statement (.conj x0 x1 x2) := fun _ _ _ h _ hu => by
  cases hu; exact of_decide_eq_true (left (left h))

theorem vshr : ∀ x0 x1 x2, Statement (.vshr x0 x1 x2) := fun _ _ _ h _ hu => by
  cases hu; exact of_decide_eq_true (left (left h))

theorem norm : ∀ x0 x1 x2, Statement (.norm x0 x1 x2) := fun _ _ _ h _ hu => by
  cases hu; exact of_decide_eq_true (left (left h))

theorem exp : ∀ x0 x1 x2, Statement (.exp x0 x1 x2) := fun _ _ _ h _ hu => by
  cases hu; exact of_decide_eq_true (left (left h))

theorem add : ∀ x0 x1 x2, Statement (.add x0 x1 x2) := fun _ _ _ h _ hu => by
  cases hu; exact of_decide_eq_true (left (left h))

theorem sub : ∀ x0 x1 x2, Statement (.sub x0 x1 x2) := fun _ _ _ h _ hu => by
  cases hu; exact of_decide_eq_true (left (left h))

theorem and : ∀ x0 x1 x2, Statement (.and x0 x1 x2) := fun _ _ _ h _ hu => by
  cases hu; exact of_decide_eq_true (left (left h))

theorem or : ∀ x0 x1 x2, Statement (.or x0 x1 x2) := fun _ _ _ h _ hu => by
  cases hu; exact of_decide_eq_true (left (left h))

theorem xor : ∀ x0 x1 x2, Statement (.xor x0 x1 x2) := fun _ _ _ h _ hu => by
  cases hu; exact of_decide_eq_true (left (left h))

theorem shl : ∀ x0 x1 x2, Statement (.shl x0 x1 x2) := fun _ _ _ h _ hu => by
  cases hu; exact of_decide_eq_true (left (left h))

theorem shra : ∀ x0 x1 x2, Statement (.shra x0 x1 x2) := fun _ _ _ h _ hu => by
  cases hu; exact of_decide_eq_true (left (left h))

theorem shrl : ∀ x0 x1 x2, Statement (.shrl x0 x1 x2) := fun _ _ _ h _ hu => by
  cases hu; exact of_decide_eq_true (left (left h))

theorem min : ∀ x0 x1 x2, Statement (.min x0 x1 x2) := fun _ _ _ h _ hu => by
  cases hu; exact of_decide_eq_true (left (left h))

theorem max : ∀ x0 x1 x2, Statement (.max x0 x1 x2) := fun _ _ _ h _ hu => by
  cases hu; exact of_decide_eq_true (left (left h))

theorem movi : ∀ x0 x1 x2, Statement (.movi x0 x1 x2) := fun _ _ _ h _ hu => by
  cases hu; exact of_decide_eq_true (left (left h))

theorem movhi : ∀ x0 x1 x2, Statement (.movhi x0 x1 x2) := fun _ _ _ h _ hu => by
  cases hu; exact of_decide_eq_true (left (left h))

theorem bxget : ∀ x0 x1 x2, Statement (.bxget x0 x1 x2) := fun _ _ _ h _ hu => by
  cases hu; exact of_decide_eq_true (left (left h))

theorem movf : ∀ x0 x1 x2, Statement (.movf x0 x1 x2) := fun _ _ _ h _ hu => by
  cases hu; exact of_decide_eq_true (left (left h))

theorem movxv : ∀ x0 x1 x2, Statement (.movxv x0 x1 x2) := fun _ _ _ h _ hu => by
  cases hu; exact of_decide_eq_true (left (left h))

theorem movvx : ∀ x0 x1 x2, Statement (.movvx x0 x1 x2) := fun _ _ _ h _ hu => by
  cases hu; exact of_decide_eq_true (left (left h))

theorem cmpeq : ∀ x0 x1 x2, Statement (.cmpeq x0 x1 x2) := fun _ _ _ h _ hu => by
  cases hu; exact of_decide_eq_true (left (left h))

theorem cmplt : ∀ x0 x1 x2, Statement (.cmplt x0 x1 x2) := fun _ _ _ h _ hu => by
  cases hu; exact of_decide_eq_true (left (left h))

theorem cmpltu : ∀ x0 x1 x2, Statement (.cmpltu x0 x1 x2) := fun _ _ _ h _ hu => by
  cases hu; exact of_decide_eq_true (left (left h))

theorem pand : ∀ x0 x1 x2, Statement (.pand x0 x1 x2) := fun _ _ _ h _ hu => by
  cases hu; exact of_decide_eq_true (left (left h))

theorem por : ∀ x0 x1 x2, Statement (.por x0 x1 x2) := fun _ _ _ h _ hu => by
  cases hu; exact of_decide_eq_true (left (left h))

theorem pnot : ∀ x0 x1 x2, Statement (.pnot x0 x1 x2) := fun _ _ _ h _ hu => by
  cases hu; exact of_decide_eq_true (left (left h))

theorem send : ∀ x0 x1 x2, Statement (.send x0 x1 x2) := fun _ _ _ h _ hu => by
  cases hu; exact of_decide_eq_true (left (left h))

theorem sendx : ∀ x0 x1 x2, Statement (.sendx x0 x1 x2) := fun _ _ _ h _ hu => by
  cases hu; exact of_decide_eq_true (left (left h))

theorem frameStamp : ∀ x0, Statement (.frameStamp x0) := fun _ h _ hu => by
  cases hu; exact of_decide_eq_true h

theorem traceFrame : ∀ x0, Statement (.traceFrame x0) := fun _ h _ hu => by
  cases hu; exact of_decide_eq_true h

theorem traceIntervalClose : ∀ x0, Statement (.traceIntervalClose x0) := fun _ h _ hu => by
  cases hu; exact of_decide_eq_true h

theorem densityFrame : ∀ x0, Statement (.densityFrame x0) := fun _ h _ hu => by
  cases hu; exact of_decide_eq_true h

theorem exposureClose : ∀ x0, Statement (.exposureClose x0) := fun _ h _ hu => by
  cases hu; exact of_decide_eq_true h

theorem copyPassStart : ∀ x0, Statement (.copyPassStart x0) := fun _ h _ hu => by
  cases hu; exact of_decide_eq_true h

theorem copyPassEnd : ∀ x0, Statement (.copyPassEnd x0) := fun _ h _ hu => by
  cases hu; exact of_decide_eq_true h

theorem contextInputRow : ∀ x0, Statement (.contextInputRow x0) := fun _ h _ hu => by
  cases hu; exact of_decide_eq_true h

theorem contextInputLoss : ∀ x0 x1, Statement (.contextInputLoss x0 x1) := fun _ _ h _ hu => by
  cases hu; exact of_decide_eq_true h

theorem settlingComplete : ∀ x0, Statement (.settlingComplete x0) := fun _ h _ hu => by
  cases hu; exact of_decide_eq_true h

theorem crossfadeEnd : ∀ x0, Statement (.crossfadeEnd x0) := fun _ h _ hu => by
  cases hu; exact of_decide_eq_true h

theorem detectorIntervalClose : ∀ x0, Statement (.detectorIntervalClose x0) := fun _ h _ hu => by
  cases hu; exact of_decide_eq_true h

theorem iqRecordClose : ∀ x0, Statement (.iqRecordClose x0) := fun _ h _ hu => by
  cases hu; exact of_decide_eq_true h

theorem contextRecordWrite : ∀ x0, Statement (.contextRecordWrite x0) := fun _ h _ hu => by
  cases hu; exact of_decide_eq_true h

theorem fallbackToleranceExpiry : ∀ x0, Statement (.fallbackToleranceExpiry x0) := fun _ h _ hu => by
  cases hu; exact of_decide_eq_true h

theorem fallbackExit : ∀ x0, Statement (.fallbackExit x0) := fun _ h _ hu => by
  cases hu; exact of_decide_eq_true h

theorem maskFrame : ∀ x0, Statement (.maskFrame x0) := fun _ h _ hu => by
  cases hu; exact of_decide_eq_true h

theorem occurrenceArrival : ∀ x0 x1, Statement (.occurrenceArrival x0 x1) := fun _ _ h _ hu => by
  cases hu; exact of_decide_eq_true h

theorem occurrenceExpiry : ∀ x0, Statement (.occurrenceExpiry x0) := fun _ h _ hu => by
  cases hu; exact of_decide_eq_true h

theorem hemEnd : ∀ x0, Statement (.hemEnd x0) := fun _ h _ hu => by
  cases hu; exact of_decide_eq_true h

theorem holdoffEnd : ∀ x0, Statement (.holdoffEnd x0) := fun _ h _ hu => by
  cases hu; exact of_decide_eq_true h

theorem trgArm : ∀ x0, Statement (.trgArm x0) := fun _ _ _ hu => nomatch hu

theorem trgDisarm : ∀ x0, Statement (.trgDisarm x0) := fun _ _ _ hu => nomatch hu

theorem trgForce : ∀ x0, Statement (.trgForce x0) := fun _ _ _ hu => nomatch hu

theorem capAbort : ∀ x0, Statement (.capAbort x0) := fun _ _ _ hu => nomatch hu

theorem eventEdge : ∀ x0 x1 x2, Statement (.eventEdge x0 x1 x2) := fun _ _ _ h _ hu => by
  cases hu; exact of_decide_eq_true (left h)

theorem tiuCal : ∀ x0, Statement (.tiuCal x0) := fun _ _ _ hu => nomatch hu

theorem tiuCalDone : ∀ x0 x1, Statement (.tiuCalDone x0 x1) := fun _ _ h _ hu => by
  cases hu; exact of_decide_eq_true (left (left h))

theorem frequencyGateEnd : ∀ x0, Statement (.frequencyGateEnd x0) := fun _ h _ hu => by
  cases hu; exact of_decide_eq_true h

theorem thrSettleEnd : ∀ x0, Statement (.thrSettleEnd x0) := fun _ h _ hu => by
  cases hu; exact of_decide_eq_true h

theorem outputPulseEnd : ∀ x0, Statement (.outputPulseEnd x0) := fun _ h _ hu => by
  cases hu; exact of_decide_eq_true h

theorem tiuRecordWrite : ∀ x0, Statement (.tiuRecordWrite x0) := fun _ h _ hu => by
  cases hu; exact of_decide_eq_true h

theorem driveLinkUp : ∀ x0 x1 x2 x3, Statement (.driveLinkUp x0 x1 x2 x3) := fun _ _ _ _ h _ hu => by
  cases hu; exact of_decide_eq_true (left (left h))

theorem driveLinkTimeout : ∀ x0, Statement (.driveLinkTimeout x0) := fun _ h _ hu => by
  cases hu; exact of_decide_eq_true h

theorem driveReady : ∀ x0, Statement (.driveReady x0) := fun _ h _ hu => by
  cases hu; exact of_decide_eq_true h

theorem driveReadyTimeout : ∀ x0, Statement (.driveReadyTimeout x0) := fun _ h _ hu => by
  cases hu; exact of_decide_eq_true h

theorem identifyDone : ∀ x0 x1, Statement (.identifyDone x0 x1) := fun _ _ h _ hu => by
  cases hu; exact of_decide_eq_true h

theorem labelRead : ∀ x0 x1, Statement (.labelRead x0 x1) := fun _ _ _ _ hu => nomatch hu

theorem driveDmaAccess : ∀ x0 x1, Statement (.driveDmaAccess x0 x1) := fun _ _ h _ hu => by
  cases hu; exact of_decide_eq_true h

theorem stripeWrite : ∀ x0, Statement (.stripeWrite x0) := fun _ h _ hu => by
  cases hu; exact of_decide_eq_true h

theorem nvmeCompletion : ∀ x0 x1 x2, Statement (.nvmeCompletion x0 x1 x2) := fun _ _ _ h _ hu => by
  cases hu; exact of_decide_eq_true h

theorem nvmeCommandTimeout : ∀ x0 x1, Statement (.nvmeCommandTimeout x0 x1) := fun _ _ h _ hu => by
  cases hu; exact of_decide_eq_true h

theorem driveLinkLost : ∀ x0, Statement (.driveLinkLost x0) := fun _ h _ hu => by
  cases hu; exact of_decide_eq_true h

theorem dmaQTailWrite : ∀ x0 x1, Statement (.dmaQTailWrite x0 x1) := fun _ _ h _ hu => by
  cases hu; exact of_decide_eq_true h

theorem dmaQCheadWrite : ∀ x0 x1, Statement (.dmaQCheadWrite x0 x1) := fun _ _ h _ hu => by
  cases hu; exact of_decide_eq_true h

theorem dmaQCtrlWrite : ∀ x0 x1, Statement (.dmaQCtrlWrite x0 x1) := fun _ _ h _ hu => by
  cases hu; exact of_decide_eq_true h

theorem dmaQAbort : ∀ x0, Statement (.dmaQAbort x0) := fun _ h _ hu => by
  cases hu; exact of_decide_eq_true h

theorem dmaQFlush : ∀ x0, Statement (.dmaQFlush x0) := fun _ h _ hu => by
  cases hu; exact of_decide_eq_true h

theorem descriptorFetch : ∀ x0 x1, Statement (.descriptorFetch x0 x1) := fun _ _ h _ hu => by
  cases hu; exact of_decide_eq_true h

theorem tableFetch : ∀ x0 x1, Statement (.tableFetch x0 x1) := fun _ _ h _ hu => by
  cases hu; exact of_decide_eq_true h

theorem burstDone : ∀ x0, Statement (.burstDone x0) := fun _ h _ hu => by
  cases hu; exact of_decide_eq_true h

theorem hostReadCompletion : ∀ x0 x1, Statement (.hostReadCompletion x0 x1) := fun _ _ h _ hu => by
  cases hu; exact of_decide_eq_true h

theorem destWaitEnd : ∀ x0, Statement (.destWaitEnd x0) := fun _ h _ hu => by
  cases hu; exact of_decide_eq_true h

theorem streamFlushTimeout : ∀ x0, Statement (.streamFlushTimeout x0) := fun _ h _ hu => by
  cases hu; exact of_decide_eq_true h

theorem noticeWrite : ∀ x0, Statement (.noticeWrite x0) := fun _ h _ hu => by
  cases hu; exact of_decide_eq_true h

theorem calMeasurementDone : ∀ x0, Statement (.calMeasurementDone x0) := fun _ _ _ hu => nomatch hu

theorem calComputeDone : ∀ x0, Statement (.calComputeDone x0) := fun _ _ _ hu => nomatch hu

theorem calTurnEnd : Statement (.calTurnEnd) := fun  _ _ hu => nomatch hu

theorem trackerIntervalEnd : ∀ x0 x1 x2 x3, Statement (.trackerIntervalEnd x0 x1 x2 x3) := fun _ _ _ _ h _ hu => by
  cases hu; exact of_decide_eq_true h

theorem logRecordWritten : ∀ x0 x1 x2, Statement (.logRecordWritten x0 x1 x2) := fun _ _ _ _ _ hu => nomatch hu

theorem mramTimeout : Statement (.mramTimeout) := fun  _ _ hu => nomatch hu

theorem freezeTimeout : Statement (.freezeTimeout) := fun  _ _ hu => nomatch hu

theorem fallbackProgram : Statement (.fallbackProgram) := fun  _ _ hu => nomatch hu

theorem inputTrip : Statement (.inputTrip) := fun  _ _ hu => nomatch hu

theorem pwrInUpdate : ∀ x0, Statement (.pwrInUpdate x0) := fun _ _ _ hu => nomatch hu

theorem slackLow : ∀ x0, Statement (.slackLow x0) := fun _ _ _ hu => nomatch hu

theorem avsLower : ∀ x0, Statement (.avsLower x0) := fun _ _ _ hu => nomatch hu

theorem thermalShutdown : Statement (.thermalShutdown) := fun  _ _ hu => nomatch hu

theorem monPassStart : Statement (.monPassStart) := fun  _ _ hu => nomatch hu

theorem monEntryStart : Statement (.monEntryStart) := fun  _ _ hu => nomatch hu

theorem monStartTimeout : Statement (.monStartTimeout) := fun  _ _ hu => nomatch hu

theorem monEntryEnd : ∀ x0 x1, Statement (.monEntryEnd x0 x1) := fun _ _ _ _ hu => nomatch hu

theorem monUrgentGo : ∀ x0, Statement (.monUrgentGo x0) := fun _ _ _ hu => nomatch hu

theorem urgentConversionDone : ∀ x0 x1, Statement (.urgentConversionDone x0 x1) := fun _ _ _ _ hu => nomatch hu

theorem smbusSetOffset : ∀ x0, Statement (.smbusSetOffset x0) := fun _ _ _ hu => nomatch hu

theorem smbusRead : Statement (.smbusRead) := fun  _ _ hu => nomatch hu

theorem smbusState : Statement (.smbusState) := fun  _ _ hu => nomatch hu

theorem completionTimeout : ∀ x0, Statement (.completionTimeout x0) := fun _ h _ hu => by
  cases hu; exact of_decide_eq_true h

theorem flashNoAnswer : Statement (.flashNoAnswer) := fun  _ _ hu => nomatch hu

theorem volumeCloseTimeout : Statement (.volumeCloseTimeout) := fun  _ _ hu => nomatch hu

theorem railFaultRecordWaitExpiry : Statement (.railFaultRecordWaitExpiry) := fun  _ _ hu => nomatch hu

theorem dperstRelease : ∀ x0, Statement (.dperstRelease x0) := fun _ h _ hu => by
  cases hu; exact of_decide_eq_true h

theorem tapInstruction : ∀ x0, Statement (.tapInstruction x0) := fun _ _ _ hu => nomatch hu

end Sys2Proof.Laws.WellFormed
end

