-- ==== Sys2Proof/Tests/Slice0.lean ====
section
/-! SUPPORT. Small tests of the model, and for each statement with hypotheses witnesses that meet them: one theorem per
state, its clauses numbered in the statement's order. -/

namespace Sys2Proof.Tests

open Machine

/-- A power controller with every rail up. -/
def pwrOn : Power :=
  { vin48 := true, vaux := true, cls := some 2, on := true, groups := 3, osc := true, root := true, hkFromRoot := true,
    analysis := true }

/-- A running function on image `m`. -/
def up (m : Image) : State :=
  { State.reset with
    pwr := pwrOn, time := { cycle := 4096, count := 2048, counting := true }, life := { sys := .running, zeroed := true }
    eng := { running := true, started := true, period := 4096, t0 := 1024 }
    store := { trained0 := true, trained1 := true, table := true, imageTable := true }, image := some m }

/-- A running function without declarations. -/
def run0 : State := up {}

/-- Both supplies valid and standby low, nothing in regulation. -/
def seq0 : State := { State.reset with pwr := { vin48 := true, vaux := true, cls := some 2, on := true } }


/-- Arguments of the mailbox. -/
def arg (l : List Word) (s : State) : State := { s with mbox := { s.mbox with arg := results l } }
/-- A command of the mailbox runs. -/
def busy (op : MboxOp) (s : State) : State := { s with mbox := { s.mbox with running := some op } }
/-- A placket is open. -/
def keyed (s : State) : State := { s with key := some 1 }
/-- A flash of 256 MiB. -/
def flashed (s : State) : State :=
  { s with loader := { s.loader with
      flash := { density := 268435456, page := 256, eraseTypes := [65536] }, areas := { slotA := 0x40000, slotB := 0x8000000, board := 0x7FFFFFF, boardLen := 2 } } }

/-- A turn of channel 1. -/
def run1 : CalRun := { channel := 1, step := .connect, range := 0, waiting := 4, aborting := false, awaitSeam := true, measured := [], delay := 0, resid := [], temps := [] }

/-- Channel 0 set. -/
def ch0 (h : Chan) (s : State) : State := { s with chans := put {} 0 h s.chans }
/-- Channel 2 set. -/
def ch2 (h : Chan) (s : State) : State := { s with chans := put {} 2 h s.chans }
/-- An image with one raw sleeve (P12), its flag sleeve, a RESULT stream sleeve with a guarded HOST ring reader. -/
def imgS : Image :=
  { sleeves := [{ format := .p12, base := 0, granules := 2, maxGranules := 4, companion := 1, writerUnit := 1, hostRead := true },
                { format := .flag, base := 0x200000, granules := 2, maxGranules := 4, companion := 0, writerUnit := 1, hostRead := true },
                { kind := .stream, format := .result, base := 0x400000, granules := 2, maxGranules := 4, writerUnit := 0x11, hostRead := true,
                  readers := [{ unit := 0x11, guarded := true, index := 1 }] },
                { kind := .continuous, format := .result, base := 0x600000, granules := 2, maxGranules := 4, writerUnit := 3, hostRead := true,
                  readers := [{ unit := 0x11, guarded := true, index := 0 }] },
                { kind := .capture, format := .result, base := 0x800000, granules := 1, maxGranules := 1, writerUnit := 3, writerIndex := 1 }] }
/-- A running function on `imgS`, its sleeves at function start. -/
def runS : State := { up imgS with sleeves := [(0, { active := 2, inForce := 2 }), (1, { active := 2, inForce := 2 }), (2, { active := 2, inForce := 2 }), (3, { active := 2, inForce := 2 }), (4, { active := 1, inForce := 1 })] }
/-- One sleeve of `runS` changed. -/
def slv (i : Nat) (f : Sleeve → Sleeve) (s : State) : State := { s with sleeves := upd {} i f s.sleeves }
/-- The host link up with BAR2 open. -/
def linked (s : State) : State := { s with link := { s.link with perst := true, up := true, ready := true, speed := 6, width := 16 } }

/-- A function whose engine 0 holds a programme. -/
def eng0 (g : Engine) : State :=
  { run0 with eng := { run0.eng with engines := [(0, { g with programmed := true, codeBytes := 48 })] } }
/-- Some register contents. -/
def regs0 : Engine :=
  { v := [(1, 0x7FFFFF800000123456FEDCBA000001FFFFFF800001ABCDEF), (2, 0x800000000002000003000004000005000006000007FFFFFF)]
    x := [(1, 0xFFFFFFF0), (2, 35)], p := [(1, true)], ac := [(0, 0x7FFFFFFFFFFFFF), (1, 5), (9, 7)], ef := 1, bexp := 7 }

/-- An image with a frame stream of 192-byte records from sleeve 0 to sleeve 1, a detector and a plane on it, and a
context from sleeve 2 to sleeve 3. -/
def imgF : Image :=
  { sleeves := [{ format := .p12, base := 0, granules := 2, maxGranules := 4, writerUnit := 1 },
                { base := 0x200000, granules := 8, maxGranules := 8, writerUnit := 2 },
                { base := 0x400000, granules := 8, maxGranules := 8, writerUnit := 3, readers := [{ unit := 0x13, guarded := true }] },
                { base := 0x600000, granules := 8, maxGranules := 8, writerUnit := 4 },
                { base := 0x800000, granules := 8, maxGranules := 8, writerUnit := 5 }]
    frames := [{ src := 0, dst := 1, sizeLog2 := 10, hop := 512, recordBytes := 192, format := 1, binCount := 32, settle := 2 },
               { channeliser := true, src := 0, dst := 2, binCount := 2 }]
    traces := [{ detector := 0, stream := 0, dst := 4, pointCount := 4, decim := 2, interval := 2, firstFrame := 1 }]
    planes := [{ plane := 0, stream := 0, dst := 4, columns := 2, rows := 3, decim := 2, exposure := 2, firstFrame := 1 }]
    denConds := [{ condition := 1, plane := 0, colHi := 1, rowHi := 2 }]
    contexts := [{ index := 5, src := 2, dst := 3, xfLen := 16, outMode := 15, recordFill := 2, lens := [4], decims := [1], taps := 2,
                   gain := 1, detInterval := 3 }] }
/-- A running function on `imgF`. -/
def runF : State := { up imgF with sleeves := [(0, { active := 2, inForce := 2 }), (1, { active := 8, inForce := 8 }),
  (2, { active := 8, inForce := 8 }), (3, { active := 8, inForce := 8 }), (4, { active := 8, inForce := 8 })] }
/-- A frame record numbered `n` with FLAGS `f` stands first in the spectra sleeve. -/
def recorded (n f : Nat) (s : State) : State :=
  slv 1 (fun v => { v with wcount := 192 })
    { s with store := { s.store with mem := putBytes 0x200018 (leBytes 8 n) (putBytes 0x200012 (leBytes 1 f) s.store.mem) } }
/-- Context 5 set. -/
def ctx5 (x : Context) (s : State) : State := { s with ctxs := put {} 5 x s.ctxs }
/-- Plane 0 set. -/
def pl0 (x : Plane) (s : State) : State := { s with planes := put {} 0 x s.planes }
/-- Detector 0 set. -/
def tr0 (x : Trace) (s : State) : State := { s with traces := put {} 0 x s.traces }
/-- A copy pass. -/
def cp0 : CopyPass := { exposure := 3, merged := 1, sums := {}, started := false, writing := false, cell := 0, satCells := 0 }

/-- `imgF` with groups 0 (DEST STORE on sleeve 0), 1 (DEST NONE) and 2 (A and B, provisional), and a mask condition. -/
def imgG : Image := { imgF with
  sleeves := imgF.sleeves ++ [{ base := 0xA00000, granules := 2, maxGranules := 2, writerUnit := 7, writerIndex := 3 }]
  groups := [{ group := 0, dest := .store, condsA := [1], sleeves := [0], outMask := 17, hem := some 100, cuff := 10 },
             { group := 1, dest := .none, condsA := [2], auto := true },
             { group := 2, dest := .store, mode := 2, provisional := true, condsA := [1], condsB := [2], sleeves := [0] }]
  conds := [{ cond := 1, cls := .mask, source := 0, stream := 0, qual := 2, minBins := 0 }, { cond := 2, cls := .tdEdge }] }
/-- A running function on `imgG`. -/
def runG : State := { runF with image := some imgG }
/-- Group `g` set. -/
def grp (g : Nat) (x : Group) (s : State) : State := { s with trig := { s.trig with groups := put {} g x s.trig.groups } }
/-- A capture with `hem` samples after its trigger at sample 2,000. -/
def cap0 (hem : Option Nat) : Capture :=
  { number := 3, trig := { cond := 1, time := 512000 }, qual := 0, start := 1990, cuff := 10, hem := hem, clipped := 0, flags := 1
    missed := 0, missedFirst := none, calGen := 0, regions := [(0, 30, 0)], lens := [2], holdoff := 0, holdoffEvents := 2 }
/-- Event input 3 set. -/
def inp3 (x : EvtInput) (s : State) : State := { s with tiu := { s.tiu with inputs := put {} 3 x s.tiu.inputs } }

/-- Drive 2 set, in a running function that uses it and keeps its port out of reset. -/
def drv2 (v : Drive) : State :=
  { up { imgS with drives := { modes := [0, 1], members := 1, memberMap := [2], streams := [{ sleeves := [4] }] } } with
    sleeves := runS.sleeves, pkg := { run0.pkg with dperst := 2 }, disk := { drives := put {} 2 v [] } }
/-- The volume set. -/
def vol (v : Volume) (s : State) : State := { s with disk := { s.disk with vol := v } }
/-- `drv2` under a volume mode. -/
def mode (n : Nat) (s : State) : State :=
  { s with image := s.image.map (fun m => { m with drives := { m.drives with volumeMode := n } }) }
/-- A command. -/
def cmd0 (retried : Bool) : NvmeCmd := { id := 5, op := .flush 3, retried := retried }
/-- An open extent of stream 0 and sleeve 4. -/
def ext0 : Extent :=
  { seq := 1, stream := 0, sleeve := 4, start := 0, reserve := 256, stripes := 0, payload := [], wc := 0, time := 0
    capture := 0, calGen := 0, flags := 0, gen := 0, ueStripes := [], image := [], chain := none, phase := .opened, wantFinal := true }

/-- `imgS` with an XFER ring 0 into sleeve 0, a STREAM ring 1 on sleeve 2 and a NOTICE ring 2. -/
def imgD : Image := { imgS with rings := [{ ring := 0, kind := .xfer, sleeve := 0 }, { ring := 1, kind := .stream, sleeve := 2, flushUs := 5 },
  { ring := 2, kind := .notice, sleeve := 0xFFFF }] }
/-- A running function on `imgD` with ring `q` set. -/
def rng (q : Nat) (r : Ring) : State := { runS with image := some imgD, rings := put {} q r [] }
/-- A running ring of 16 entries. -/
def rg : Ring := { enable := true, running := true, sizeLog2 := 4, phase := true, cbase := 4096 }
/-- A descriptor. -/
def dsc (op len : Nat) : Desc :=
  { op := op, index := false, tableSide := 0, irq := true, swap := 1, tag := 9, length := len, hostAddr := 8192, storeAddr := 0, count := 0 }
/-- A run of a descriptor in a phase. -/
def rn (d : Desc) (p : RunPhase) : Run := { newRun d with phase := p }
/-- The bytes of a descriptor. -/
def dbytes (op flags len addr cnt : Nat) : List Byte :=
  leBytes 1 op ++ leBytes 1 flags ++ leBytes 2 9 ++ leBytes 4 len ++ leBytes 8 8192 ++ leBytes 8 addr ++ leBytes 4 cnt ++ leBytes 4 0
/-- A group with a notice for ring 2. -/
def ntc (s : State) : State := { s with trig := { s.trig with groups := put {} 1 { notices := [(2, 0, [1, 2, 3])] } s.trig.groups } }
/-- The first 64 bytes of a label of member 0 of a volume of one drive without parity. -/
def labelHd (gen failed : Nat) : List Byte :=
  leBytes 4 0x56445A53 ++ leBytes 2 1 ++ leBytes 1 0 ++ leBytes 1 1 ++ leBytes 1 0 ++ leBytes 1 2 ++ leBytes 2 failed ++
    leBytes 4 gen ++ leBytes 16 77 ++ leBytes 8 500 ++ leBytes 8 300 ++ leBytes 8 9 ++ leBytes 8 8
/-- A valid label with that head. -/
def label0 (gen failed : Nat) : List Byte :=
  let body := labelHd gen failed ++ List.replicate (0xFFC - 0x40) 0
  body ++ leBytes 4 (crc32 body)

/-- A turn `u` in a running function. -/
def trn (u : CalRun) : State := { run0 with cal := { run := some u } }
/-- The recorder set in a running function. -/
def recd (r : Recorder) : State := { run0 with recorder := r }
/-- The monitors set in a running function. -/
def mond (m : Monitor) : State := { run0 with mon := m }
/-- A record of code `c`. -/
def rec0 (c : Nat) : Rec := { code := c, params := [1], time := 700 }
/-- The power controller changed in a running function. -/
def pwd (f : Power → Power) : State := { run0 with pwr := f pwrOn }

/-- An edge condition, a width condition and an OVERRANGE condition, each used by a group. -/
def imgE : Image := {
  groups := [{ group := 0, dest := .none, condsA := [1] }, { group := 1, dest := .none, condsA := [2, 3] }]
  conds := [{ cond := 1, cls := .tdEdge, source := 0 }, { cond := 2, cls := .tdWidth, source := 1, wmin := 2, wmax := 3 },
    { cond := 3, cls := .overrange, source := 0 }] }
/-- A running function on `imgE`, its first cycle's samples to come. -/
def runE : State := { up imgE with trig := { conds := [(1, { prev := some (-5) }), (2, { prev := some (-5) })] } }

/-! One ill-formed command for each check of `wellFormed`: it is refused, and the same command with admitted operands is not. -/

theorem test_well_formed_0 : (
    [.supplyValid false 0 false, .stbyLow 0 false, .railGroupInRegulation 1, .railFault 1 3, .railFault 4 2,
     .ovenOscillatorRuns false {}, .hostLinkReady 1 1 false, .configRequest none 0, .unsupportedRequest 0,
     .bar0Write 0 [(0, 15)] false, .statGrpRead 0, .liveShadowWrite 0 0, .unknownOpcode false 0, .ovenSample 0 0,
     .refGateComplete 0 0, .converterSample 0 (List.replicate 16 0), .sliceClamp 0 0, .deepTrip 0,
     .overloadWindowEnd 0, .neighbourAdjEnd 0, .adjWindowEnd 0, .relaySenseReached 0 0, .relayRetry 0 0,
     .relayFault 0 0 0, .sleeveBlockWrite 0 0 [], .writerResume 0, .tagGrant 0, .bar2Read 0 1, .bar2Write 0 false,
     .streamReadLand 0 0] : List Instr).all wellFormed = true := by decide

theorem test_well_formed_1 : (
    [.streamWriteTake 0 0, .resultLands 0, .xchDelivery 0, .loopExit 0, .stopBundle 0, .seamMark 0,
     .illegalEncoding 0, .br 0 {} 0, .brx 0 {} 0, .loop 0 {} {}, .bxclr 0 {}, .bsc 0 {} false 0 0, .clrf 0 {},
     .rofset 0 {} 0, .ldv 0 {} {}, .ldc 0 {} {}, .ldp12 0 {} {}, .ldu16 0 {} {}, .ldx 0 {} {}, .stv 0 {} {},
     .sth 0 {} {}, .stq 0 {} {}, .stx 0 {} {}, .cmul 0 {} {}, .cmla 0 {} {}, .cmac 0 {} {}, .acrd 0 {} {},
     .acrc 0 {} {}, .fcvtp 0 {} {}, .fcvtl 0 {} {}] : List Instr).all wellFormed = true := by decide

theorem test_well_formed_2 : (
    [.cadd 0 {} {}, .csub 0 {} {}, .bfy 0 {} {}, .bfyj 0 {} {}, .vmov 0 {} {}, .conj 0 {} {}, .vshr 0 {} {},
     .norm 0 {} {}, .exp 0 {} {}, .add 0 {} {}, .sub 0 {} {}, .and 0 {} {}, .or 0 {} {}, .xor 0 {} {}, .shl 0 {} {},
     .shra 0 {} {}, .shrl 0 {} {}, .min 0 {} {}, .max 0 {} {}, .movi 0 {} {}, .movhi 0 {} {}, .bxget 0 {} {},
     .movf 0 {} {}, .movxv 0 {} {}, .movvx 0 {} {}, .cmpeq 0 {} {}, .cmplt 0 {} {}, .cmpltu 0 {} {}, .pand 0 {} {},
     .por 0 {} {}] : List Instr).all wellFormed = true := by decide

set_option maxRecDepth 8000 in
theorem test_well_formed_3 : (
    [.pnot 0 {} {}, .send 0 {} {}, .sendx 0 {} {}, .frameStamp 0, .traceFrame 0, .traceIntervalClose 0,
     .densityFrame 0, .exposureClose 0, .copyPassStart 0, .copyPassEnd 0, .contextInputRow 0, .contextInputLoss 0 0,
     .settlingComplete 0, .crossfadeEnd 0, .detectorIntervalClose 0, .iqRecordClose 0, .contextRecordWrite 0,
     .fallbackToleranceExpiry 0, .fallbackExit 0, .maskFrame 0, .occurrenceArrival 0 0, .occurrenceExpiry 0,
     .hemEnd 0, .holdoffEnd 0, .eventEdge 0 false 0, .tiuCalDone 0 (List.replicate 512 8192), .frequencyGateEnd 0,
     .thrSettleEnd 0, .outputPulseEnd 0, .tiuRecordWrite 0] : List Instr).all wellFormed = true := by decide

theorem test_well_formed_4 : (
    [.driveLinkUp 0 0 0 false, .driveLinkTimeout 0, .driveReady 0, .driveReadyTimeout 0, .identifyDone 0 {},
     .labelRead [] 0, .driveDmaAccess 0 (default), .stripeWrite 0, .nvmeCompletion 0 0 {}, .nvmeCommandTimeout 0 0,
     .driveLinkLost 0, .dmaQTailWrite 0 0, .dmaQCheadWrite 0 0, .dmaQCtrlWrite 0 0, .dmaQAbort 0, .dmaQFlush 0,
     .descriptorFetch 0 none, .tableFetch 0 none, .burstDone 0, .hostReadCompletion 0 none, .destWaitEnd 0,
     .streamFlushTimeout 0, .noticeWrite 0, .trackerIntervalEnd 0 false [] [], .pwrInUpdate 0, .monEntryEnd [] [],
     .urgentConversionDone 0 0, .smbusSetOffset 0, .completionTimeout 0, .dperstRelease 0] : List Instr).all wellFormed = true := by decide

theorem test_well_formed_5 : (
    [.tapInstruction 0] : List Instr).all wellFormed = true := by decide

theorem test_ill_formed_0 : (
    [.supplyValid false 8 false, .stbyLow 8 false, .railGroupInRegulation 4, .railGroupInRegulation 0,
     .railFault 0 3, .railFault 1 12, .railFault 2 20, .ovenOscillatorRuns true { gen := 4294967296 },
     .ovenOscillatorRuns true { seconds := 4294967296 }, .ovenOscillatorRuns true { cycles := 4294967296 },
     .hostLinkReady 6 1 false, .hostLinkReady 7 1 false, .hostLinkReady 0 1 false, .hostLinkReady 1 0 false,
     .hostLinkReady 1 3 false, .hostLinkReady 1 32 false, .configRequest none 1024,
     .unsupportedRequest 18446744073709551616, .bar0Write 0x1000000 [(0, 15)] false, .bar0Write 2 [(0, 15)] false,
     .bar0Write 0 [] false, .bar0Write 0 [(0, 16)] false, .statGrpRead 25, .liveShadowWrite 4096 0,
     .unknownOpcode false 0x10000, .ovenSample 32768 0, .ovenSample (-32769) 0, .ovenSample 0 65536,
     .refGateComplete 0 2147483648, .refGateComplete 0 (-2147483649)] : List Instr).all (fun c => !wellFormed c) = true := by decide

theorem test_ill_formed_1 : (
    [.converterSample 4 (List.replicate 16 0), .converterSample 0 (List.replicate 15 0),
     .converterSample 0 (-2049 :: List.replicate 15 0), .converterSample 0 (2048 :: List.replicate 15 0),
     .sliceClamp 4 0, .sliceClamp 0 16, .deepTrip 4, .overloadWindowEnd 4, .neighbourAdjEnd 4, .adjWindowEnd 4,
     .relaySenseReached 4 0, .relaySenseReached 0 2, .relayRetry 4 0, .relayRetry 0 2, .relayFault 4 0 0,
     .relayFault 0 2 0, .relayFault 0 0 4, .sleeveBlockWrite 2048 0 [], .writerResume 2048, .tagGrant 6,
     .bar2Read 68719476736 1, .bar2Read 0 4097, .bar2Read 0 0, .bar2Write 68719476736 false, .streamReadLand 192 0,
     .streamReadLand 0 1024, .streamWriteTake 192 0, .streamWriteTake 0 1024, .resultLands 192,
     .xchDelivery 192] : List Instr).all (fun c => !wellFormed c) = true := by decide

theorem test_ill_formed_2 : (
    [.loopExit 192, .stopBundle 192, .seamMark 192, .illegalEncoding 192, .br 192 {} 0, .br 0 { pred := 8 } 0,
     .br 0 { spg := 4 } 0, .br 0 {} 16384, .brx 192 {} 0, .brx 0 { pred := 8 } 0, .brx 0 {} 16, .loop 192 {} {},
     .loop 0 { pred := 8 } {}, .loop 0 {} { lc := 4 }, .loop 0 {} { drain := 4 }, .loop 0 {} { xs := 16 },
     .loop 0 {} { last := 16384 }, .loop 0 {} { imm := 65536 }, .bxclr 192 {}, .bxclr 0 { pred := 8 },
     .bsc 192 {} false 0 0, .bsc 0 { pred := 8 } false 0 0, .bsc 0 {} false 16 0, .bsc 0 {} false 0 65536,
     .clrf 192 {}, .clrf 0 { pred := 8 }, .rofset 192 {} 0, .rofset 0 { pred := 8 } 0, .rofset 0 {} 65536,
     .ldv 192 {} {}] : List Instr).all (fun c => !wellFormed c) = true := by decide

theorem test_ill_formed_3 : (
    [.ldv 0 { pred := 8 } {}, .ldv 0 {} { slot := 2 }, .ldv 0 {} { reg := 64 }, .ldv 0 {} { xa := 16 },
     .ldv 0 {} { off := -32769 }, .ldv 0 {} { off := 32768 }, .ldc 192 {} {}, .ldc 0 { pred := 8 } {},
     .ldc 0 {} { slot := 2 }, .ldp12 192 {} {}, .ldp12 0 { pred := 8 } {}, .ldp12 0 {} { slot := 2 },
     .ldu16 192 {} {}, .ldu16 0 { pred := 8 } {}, .ldu16 0 {} { slot := 2 }, .ldx 192 {} {}, .ldx 0 { pred := 8 } {},
     .ldx 0 {} { slot := 2 }, .stv 192 {} {}, .stv 0 { pred := 8 } {}, .stv 0 {} { slot := 2 }, .sth 192 {} {},
     .sth 0 { pred := 8 } {}, .sth 0 {} { slot := 2 }, .stq 192 {} {}, .stq 0 { pred := 8 } {},
     .stq 0 {} { slot := 2 }, .stx 192 {} {}, .stx 0 { pred := 8 } {}, .stx 0 {} { slot := 2 }] : List Instr).all (fun c => !wellFormed c) = true := by decide

theorem test_ill_formed_4 : (
    [.cmul 192 {} {}, .cmul 0 { pred := 8 } {}, .cmul 0 {} { vd := 64 }, .cmul 0 {} { va := 64 },
     .cmul 0 {} { vb := 64 }, .cmul 0 {} { ac := 4 }, .cmul 0 {} { sh := 16 }, .cmla 192 {} {},
     .cmla 0 { pred := 8 } {}, .cmla 0 {} { vd := 64 }, .cmac 192 {} {}, .cmac 0 { pred := 8 } {},
     .cmac 0 {} { vd := 64 }, .acrd 192 {} {}, .acrd 0 { pred := 8 } {}, .acrd 0 {} { vd := 64 }, .acrc 192 {} {},
     .acrc 0 { pred := 8 } {}, .acrc 0 {} { vd := 64 }, .fcvtp 192 {} {}, .fcvtp 0 { pred := 8 } {},
     .fcvtp 0 {} { vd := 64 }, .fcvtl 192 {} {}, .fcvtl 0 { pred := 8 } {}, .fcvtl 0 {} { vd := 64 },
     .cadd 192 {} {}, .cadd 0 { pred := 8 } {}, .cadd 0 {} { d := 64 }, .cadd 0 {} { a := 64 },
     .cadd 0 {} { b := 64 }] : List Instr).all (fun c => !wellFormed c) = true := by decide

theorem test_ill_formed_5 : (
    [.cadd 0 {} { imm := 65536 }, .csub 192 {} {}, .csub 0 { pred := 8 } {}, .csub 0 {} { d := 64 }, .bfy 192 {} {},
     .bfy 0 { pred := 8 } {}, .bfy 0 {} { d := 64 }, .bfyj 192 {} {}, .bfyj 0 { pred := 8 } {},
     .bfyj 0 {} { d := 64 }, .vmov 192 {} {}, .vmov 0 { pred := 8 } {}, .vmov 0 {} { d := 64 }, .conj 192 {} {},
     .conj 0 { pred := 8 } {}, .conj 0 {} { d := 64 }, .vshr 192 {} {}, .vshr 0 { pred := 8 } {},
     .vshr 0 {} { d := 64 }, .norm 192 {} {}, .norm 0 { pred := 8 } {}, .norm 0 {} { d := 64 }, .exp 192 {} {},
     .exp 0 { pred := 8 } {}, .exp 0 {} { d := 64 }, .add 192 {} {}, .add 0 { pred := 8 } {}, .add 0 {} { d := 64 },
     .sub 192 {} {}, .sub 0 { pred := 8 } {}] : List Instr).all (fun c => !wellFormed c) = true := by decide

theorem test_ill_formed_6 : (
    [.sub 0 {} { d := 64 }, .and 192 {} {}, .and 0 { pred := 8 } {}, .and 0 {} { d := 64 }, .or 192 {} {},
     .or 0 { pred := 8 } {}, .or 0 {} { d := 64 }, .xor 192 {} {}, .xor 0 { pred := 8 } {}, .xor 0 {} { d := 64 },
     .shl 192 {} {}, .shl 0 { pred := 8 } {}, .shl 0 {} { d := 64 }, .shra 192 {} {}, .shra 0 { pred := 8 } {},
     .shra 0 {} { d := 64 }, .shrl 192 {} {}, .shrl 0 { pred := 8 } {}, .shrl 0 {} { d := 64 }, .min 192 {} {},
     .min 0 { pred := 8 } {}, .min 0 {} { d := 64 }, .max 192 {} {}, .max 0 { pred := 8 } {}, .max 0 {} { d := 64 },
     .movi 192 {} {}, .movi 0 { pred := 8 } {}, .movi 0 {} { d := 64 }, .movhi 192 {} {},
     .movhi 0 { pred := 8 } {}] : List Instr).all (fun c => !wellFormed c) = true := by decide

theorem test_ill_formed_7 : (
    [.movhi 0 {} { d := 64 }, .bxget 192 {} {}, .bxget 0 { pred := 8 } {}, .bxget 0 {} { d := 64 }, .movf 192 {} {},
     .movf 0 { pred := 8 } {}, .movf 0 {} { d := 64 }, .movxv 192 {} {}, .movxv 0 { pred := 8 } {},
     .movxv 0 {} { d := 64 }, .movvx 192 {} {}, .movvx 0 { pred := 8 } {}, .movvx 0 {} { d := 64 }, .cmpeq 192 {} {},
     .cmpeq 0 { pred := 8 } {}, .cmpeq 0 {} { d := 64 }, .cmplt 192 {} {}, .cmplt 0 { pred := 8 } {},
     .cmplt 0 {} { d := 64 }, .cmpltu 192 {} {}, .cmpltu 0 { pred := 8 } {}, .cmpltu 0 {} { d := 64 },
     .pand 192 {} {}, .pand 0 { pred := 8 } {}, .pand 0 {} { d := 64 }, .por 192 {} {}, .por 0 { pred := 8 } {},
     .por 0 {} { d := 64 }, .pnot 192 {} {}, .pnot 0 { pred := 8 } {}] : List Instr).all (fun c => !wellFormed c) = true := by decide

theorem test_ill_formed_8 : (
    [.pnot 0 {} { d := 64 }, .send 192 {} {}, .send 0 { pred := 8 } {}, .send 0 {} { reg := 64 },
     .send 0 {} { route := 4096 }, .sendx 192 {} {}, .sendx 0 { pred := 8 } {}, .sendx 0 {} { reg := 64 },
     .frameStamp 64, .traceFrame 32, .traceIntervalClose 32, .densityFrame 8, .exposureClose 8, .copyPassStart 8,
     .copyPassEnd 8, .contextInputRow 1024, .contextInputLoss 1024 0, .settlingComplete 1024, .crossfadeEnd 1024,
     .detectorIntervalClose 1024, .iqRecordClose 1024, .contextRecordWrite 1024, .fallbackToleranceExpiry 1024,
     .fallbackExit 1024, .maskFrame 256, .occurrenceArrival 16 0, .occurrenceExpiry 16, .hemEnd 16, .holdoffEnd 16,
     .eventEdge 8 false 0] : List Instr).all (fun c => !wellFormed c) = true := by decide

set_option maxRecDepth 8000 in
theorem test_ill_formed_9 : (
    [.eventEdge 0 false 512, .tiuCalDone 8 (List.replicate 512 8192), .tiuCalDone 0 (List.replicate 511 8192 ++ [0]),
     .tiuCalDone 0 (List.replicate 256 16384), .frequencyGateEnd 8, .thrSettleEnd 8, .outputPulseEnd 6,
     .tiuRecordWrite 8, .driveLinkUp 16 0 0 false, .driveLinkUp 0 4 0 false, .driveLinkUp 0 0 5 false,
     .driveLinkTimeout 16, .driveReady 16, .driveReadyTimeout 16, .identifyDone 16 {}, .labelRead [(16, [])] 0,
     .labelRead [] 340282366920938463463374607431768211456, .driveDmaAccess 16 (default), .stripeWrite 2048,
     .nvmeCompletion 16 0 {}, .nvmeCommandTimeout 16 0, .driveLinkLost 16, .dmaQTailWrite 8192 0,
     .dmaQCheadWrite 8192 0, .dmaQCtrlWrite 8192 0, .dmaQAbort 8192, .dmaQFlush 8192, .descriptorFetch 8192 none,
     .tableFetch 8192 none, .burstDone 8192] : List Instr).all (fun c => !wellFormed c) = true := by decide

set_option maxRecDepth 8000 in
theorem test_ill_formed_10 : (
    [.hostReadCompletion 8192 none, .destWaitEnd 8192, .streamFlushTimeout 8192, .noticeWrite 8192,
     .trackerIntervalEnd 4 false [] [], .pwrInUpdate 65536, .monEntryEnd (List.replicate 257 0) [],
     .monEntryEnd [65536] [], .monEntryEnd [] (List.replicate 257 0), .monEntryEnd [] [65536],
     .urgentConversionDone 65536 0, .urgentConversionDone 0 65536, .smbusSetOffset 0x100000000, .smbusSetOffset 2,
     .completionTimeout 8192, .dperstRelease 8,
     .tapInstruction 256] : List Instr).all (fun c => !wellFormed c) = true := by decide

/-! Worked examples of the spec, each with its section, and single steps. -/

/-- The state after a command. -/
def after (c : Instr) (s : State) : State := match exec c s with
  | .next t => t
  | _ => s

/-- Lane 0 of V3 in 09 "Worked example: EXP, NORM and BEXP". -/
def expV : Engine := { v := [(3, 0xFFC00003A120)], x := [(2, 5)] }

theorem test_exp_counts : vecCount (readV expV 3) = 5 := by decide

theorem test_norm_shifts : normVec expV { a := 3, b := 2 } = (0xF80000742400, 0) := by decide

/-- 04 "Worked example: two commits": seam `n` is next, `before` CK_FAB cycles ahead, SEAM_PERIOD 65,536. -/
def seamS (n before : Nat) : State :=
  let c := n * 65536 - 2 * before
  { bumpBy 9 0 n run0 with
    eng := { run0.eng with period := 65536, t0 := 1024 },
    time := { cycle := c, count := 16 * c + 1024, counting := true } }

set_option maxRecDepth 8000 in
theorem test_commit_in_time : (after (.liveCommit 1) (seamS 1 300)).live.commit = some { target := 1, checked := false } := by decide

set_option maxRecDepth 8000 in
theorem test_commit_late : (after (.liveCommit 1) (seamS 2 100)).live.commit = some { target := 3, checked := false } := by decide

-- 06 "Worked example: overload of CH1", the flag records of block m
theorem test_flag_record_ovr :
    flagRecord ((List.range 54).foldl (fun h k => hullSample (640 + 10 + k) true false h) {}) = 0x1FCA := by decide

theorem test_flag_record_adj :
    flagRecord ((List.range 54).foldl (fun h k => hullSample (640 + 10 + k) false true h) {}) = 0x2FCA := by decide

-- 07 "Worked example: halving a raw sleeve", in samples of a P12 sleeve
theorem test_resize_gap : gapAmount .p12 (671088640 / 2 * 3) = 671088640 := by decide

-- 10 "Worked example: four channels at 65,536 points", step 1
theorem test_sample_time :
    timeAt (slv 0 (fun v => { v with anchors := [(0, 0x01000000)] }) runF) 0 32768000 = 0x02F40000 := by decide

-- 11 "Worked example: a rare-signal plane on CH0"
theorem test_density_carry : carry { decay := 3 } 5000 = 4375 := by decide

theorem test_density_row : PlaneDecl.row { rows := 400, rowBottom := 28000, rowStep := 30 } 38000 = 333 := by decide

-- 12 "Worked example: a 25 kHz measurement at 4.000 15 GHz"
theorem test_stage_gains : (stageGain 64, stageGain 100) = (8388608, 5368709) := by decide

theorem test_settling_length : settleLen { taps := 64 } [{ len := 64, decim := 32 },
    { len := 100, decim := 50 }] = 67 := by decide

-- 13 R309
theorem test_crossing : crossing 1 (-100) 300 0 = 64 := by decide

-- 14 "Worked example: edges in the wrong order"
theorem test_tap_position : tapPos { valid := true, widths := [(0, 1900000), (1, 8600)] } 1 = 1860 := by decide

/-- Interval unit 0 from EVT0 to EVT3, both rising. -/
def ivlS (mode : Nat) : State := { runG with tiu := { runG.tiu with units := [(0, { mode := mode, start := 0, stop := 3 })] } }

/-- An edge of the example. -/
def edgeAt (n sample fine : Nat) (s : State) : State :=
  intervalEdge n { time := 256 * sample + fine, rising := true, settling := false, uncal := false } s 0

theorem test_interval_signed : ((evt (edgeAt 0 63987 157 (edgeAt 3 63987 100 (ivlS 1))) 3).queue.map
    (fun r => sgn 64 (le r.bytes 16 8))) = [-57] := by decide

theorem test_interval_unsigned : ((evt (edgeAt 3 64100 0 (edgeAt 0 63987 157 (edgeAt 3 63987 100 (ivlS 2)))) 3).queue.map
    (fun r => sgn 64 (le r.bytes 16 8))) = [28771] := by decide

-- 15 "Worked example: locating a payload byte"
theorem test_stripe_roles : (Volume.memberP { members := 16, parity := 2 } 5069,
    Volume.role { members := 16, parity := 2 } 5069 3,
    Volume.role { members := 16, parity := 2 } 5069 5) = (2, 1, 2 + 1) := by decide

-- 16 "Worked example: abort with residue", step 4
theorem test_abort_residue : (after (.burstDone 0) (rng 0 { rg with run := some { rn (dsc 2 1048576) .burstOver with
    moved := 165888, burst := 4096, aborting := true } })).outbox.any (fun o => match o with
      | .hostWrite a bs => a == 4096 && le bs 0 2 == 0x0101 && le bs 8 8 == 169984 && le bs 16 8 == 878592
      | _ => false) = true := by decide

-- 17 "Worked example: an ADAPT correction on CH2, S07"
theorem test_tracker_anchor : trackCode true 130 100 (180 * 16) = (164, true) := by decide

theorem test_tracker_limits : limitCode 80 256 (-512) 511 164 = (164, false) := by decide

/-- 18 "Worked example: a bad block, then degradation". -/
def badS : State := recd { ringOpen := (812, 37), bad := (List.range 63).map (· + 1000), queue := [rec0 0x1020] }

theorem test_bad_block : (after (.logRecordWritten false true true) badS).recorder.mram.map
    (fun p => (p.1, p.2.map (fun r => (r.code, r.params.take 2)))) =
    [(64 * 813 + 37, some (0x1020, [1])), (64 * 813 + 38, some (0x2022, [812, 64]))] := by decide

theorem test_bad_block_seal : look 0 (after (.logRecordWritten false true true) badS).recorder.seals 812 = BitVec.allOnes 256 := by decide

-- 19 R455
theorem test_stop_temperature : codeStop = 24522 := by decide

-- 04 "Worked example: writing 64 KiB of slot B", step 2
theorem test_key_opens : (after (.keyUnlockWrite 0x6B3D) run0).key.isSome = true := by decide

theorem test_key_wrong : (after (.keyUnlockWrite 0x6B3C) run0).key = none := by decide

theorem test_no_word_spells : decodeTableWord 32 5 = none := by decide

theorem test_with_fetch_word : run0.withFetchWord 32 5 = run0 := rfl

theorem test_front_command : step { run0 with pending := [.smbusState, .stbyHigh] } = exec .smbusState { run0 with pending := [.stbyHigh] } := rfl

/-! IdleStepPassesOneCycle -/

-- clauses 1
theorem witness_IdleStepPassesOneCycle_1 : ∃ (s : State),
    s.pending = [] ∧ s.eng.running = false ∧ (∀ q, s.life.stop = some q → q.step ≠ 4) :=
  ⟨State.reset, by decide⟩

/-! EveryStepKeepsSound -/

theorem witness_EveryStepKeepsSound : ∃ s t : State, Sound s ∧ step s = .next t :=
  ⟨{ run0 with pending := [.stbyHigh] }, _, ⟨by decide, by decide, fun p h => by cases h⟩, rfl⟩

/-! EveryCommandAnswersAndLeavesTheQueue -/

theorem witness_EveryCommandAnswersAndLeavesTheQueue : Sound runS :=
  ⟨by decide, by decide, fun p h => by cases h⟩

/-! RisesLatch -/

-- clauses 1, 2: a bit that rises, and the highest bit and group
theorem witness_RisesLatch_1 : ∃ (s u : State) (n k : Nat),
    k < 32 ∧ n < 25 ∧ (n, k) ∈ leafRegs ∧ leaf u n k &&& ~~~ leaf s n k ≠ 0 ∧ tbit (u.stat.group n).toNat k = false :=
  ⟨run0, pulse0 23 6 run0, 23, 0, by decide⟩

theorem witness_RisesLatch_2 : ∃ n k : Nat, k < 32 ∧ n < 25 ∧ 31 ≤ k ∧ 24 ≤ n := ⟨24, 31, by decide⟩

/-! VectorZeroOnRise -/

-- clauses 5, 6
theorem witness_VectorZeroOnRise_1 : ∃ (s : State) (u : State),
    ((s.stat.top &&& s.stat.vec0En) ≠ 0 ∨ ((settle s u).stat.top &&& (settle s u).stat.vec0En) = 0) :=
  ⟨run0, run0, by decide⟩

/-- A link that is up, with `w` as the first dword of its MSI-X capability and `e` as vector 0. -/
def msix0 (w : Word) (e : MsixEntry) : State :=
  { run0 with link := { run0.link with up := true, msix := [(0, e)], cfg := put 0 Config.msixCap w [] } }

theorem msixControl_msix0 (w : Word) (e : MsixEntry) : msixControl (msix0 w e).link = fld w.toNat 16 16 := by
  simp only [msix0, msixControl]; rw [Laws.look_put_same (lo := 0) rfl]

-- clauses 1, 2: the link down; vector 0 masked
theorem witness_VectorZeroOnRise_down : ∃ s u : State,
    (s.stat.top &&& s.stat.vec0En) = 0 ∧ ((settle s u).stat.top &&& (settle s u).stat.vec0En) ≠ 0 ∧
    u.link.up = false :=
  ⟨run0, pulse0 23 6 run0, by decide⟩

theorem witness_VectorZeroOnRise_masked : ∃ s u : State,
    (s.stat.top &&& s.stat.vec0En) = 0 ∧ ((settle s u).stat.top &&& (settle s u).stat.vec0En) ≠ 0 ∧
      tbit (msixControl u.link) 15 = true ∧ (look {} u.link.msix 0).masked = true :=
  ⟨run0, pulse0 23 6 (msix0 0x80000000 { masked := true }), by decide, by decide,
    by rw [show (pulse0 23 6 (msix0 0x80000000 { masked := true })).link = (msix0 0x80000000 { masked := true }).link from rfl,
      msixControl_msix0]; decide, by decide⟩

-- clauses 1, 2: the function masked
theorem witness_VectorZeroOnRise_function : ∃ s u : State,
    (s.stat.top &&& s.stat.vec0En) = 0 ∧ ((settle s u).stat.top &&& (settle s u).stat.vec0En) ≠ 0 ∧
      tbit (msixControl u.link) 15 = true ∧ tbit (msixControl u.link) 14 = true :=
  ⟨run0, pulse0 23 6 (msix0 0xC0000000 {}), by decide, by decide,
    by rw [show (pulse0 23 6 (msix0 0xC0000000 {})).link = (msix0 0xC0000000 {}).link from rfl,
    msixControl_msix0]; decide,
    by rw [show (pulse0 23 6 (msix0 0xC0000000 {})).link = (msix0 0xC0000000 {}).link from rfl,
    msixControl_msix0]; decide⟩

-- clauses 3, 4
theorem witness_VectorZeroOnRise_sent : ∃ s u : State,
    (s.stat.top &&& s.stat.vec0En) = 0 ∧ ((settle s u).stat.top &&& (settle s u).stat.vec0En) ≠ 0 ∧
      tbit (msixControl u.link) 15 = true ∧ (look {} u.link.msix 0).masked = false ∧
      tbit (msixControl u.link) 14 = false ∧
      u.link.up = true ∧ u.link.d3hot = false :=
  ⟨run0, pulse0 23 6 (msix0 0x80000000 { masked := false }), by decide, by decide,
    by rw [show (pulse0 23 6 (msix0 0x80000000 { masked := false })).link = (msix0 0x80000000 { masked := false }).link from rfl,
      msixControl_msix0]; decide, by decide,
    by rw [show (pulse0 23 6 (msix0 0x80000000 { masked := false })).link = (msix0 0x80000000 { masked := false }).link from rfl,
      msixControl_msix0]; decide, by decide, by decide⟩

/-- `msix0` with vector 0's message held. -/
def heldS (e : MsixEntry) : State :=
  { msix0 0x80000000 e with link := { (msix0 0x80000000 e).link with pending := [(0, true)], perst := true } }

-- clause 7: unmasked by a write, and sent when the link comes up
theorem witness_VectorZeroOnRise_unmask : ∃ (s : State) (w : Word), wf false s.link.pending = true ∧
    wf {} s.link.msix = true ∧
    look false s.link.pending 0 = true ∧ tbit (msixControl s.link) 15 = true ∧ tbit (msixControl s.link) 14 = false ∧
      s.link.d3hot = false ∧ s.link.up = true ∧ tbit w.toNat 0 = false :=
  ⟨heldS { addr := 64 }, 0, by decide, by decide, by decide,
    by rw [show msixControl (heldS { addr := 64 }).link = msixControl (msix0 0x80000000 { addr := 64 }).link from rfl,
      msixControl_msix0]; decide,
    by rw [show msixControl (heldS { addr := 64 }).link = msixControl (msix0 0x80000000 { addr := 64 }).link from rfl,
      msixControl_msix0]; decide, by decide, by decide, by decide⟩

theorem witness_VectorZeroOnRise_ready : ∃ s : State, look false s.link.pending 0 = true ∧
    tbit (msixControl s.link) 15 = true ∧ tbit (msixControl s.link) 14 = false ∧
    (look {} s.link.msix 0).masked = false ∧
      linkPowered s = true ∧ s.link.perst = true :=
  ⟨heldS { masked := false }, by decide,
    by rw [show msixControl (heldS { masked := false }).link = msixControl (msix0 0x80000000 { masked := false }).link from rfl,
      msixControl_msix0]; decide,
    by rw [show msixControl (heldS { masked := false }).link = msixControl (msix0 0x80000000 { masked := false }).link from rfl,
      msixControl_msix0]; decide, by decide, by decide, by decide⟩

/-! SupplyBecomesValid -/

-- clauses 2
theorem witness_SupplyBecomesValid_1 : ∃ (s : State) (vaux : Bool),
    let before := if vaux then s.pwr.vaux else s.pwr.vin48
    let other := if vaux then s.pwr.vin48 else s.pwr.vaux
    before = false ∧ other = false :=
  ⟨State.reset, true, by decide⟩

-- clauses 1
theorem witness_SupplyBecomesValid_2 : ∃ (s : State) (vaux : Bool),
    let before := if vaux then s.pwr.vaux else s.pwr.vin48
    before = true :=
  ⟨run0, true, by decide⟩

-- clauses 4
theorem witness_SupplyBecomesValid_3 : ∃ (s : State) (vaux : Bool),
    let before := if vaux then s.pwr.vaux else s.pwr.vin48
    let other := if vaux then s.pwr.vin48 else s.pwr.vaux
    before = false ∧ other = true ∧ s.pwr.stby = false :=
  ⟨{ State.reset with pwr := { vin48 := true } }, true, by decide⟩

-- clauses 3
theorem witness_SupplyBecomesValid_4 : ∃ (s : State) (vaux : Bool),
    let before := if vaux then s.pwr.vaux else s.pwr.vin48
    let other := if vaux then s.pwr.vin48 else s.pwr.vaux
    before = false ∧ other = true ∧ s.pwr.stby = true :=
  ⟨{ State.reset with pwr := { vin48 := true, stby := true } }, true, by decide⟩

/-! SupplyBecomesInvalid -/

-- clauses 1
theorem witness_SupplyBecomesInvalid_1 : ∃ (s : State) (vaux : Bool),
    let before := if vaux then s.pwr.vaux else s.pwr.vin48
    before = false :=
  ⟨State.reset, true, by decide⟩

-- clauses 2
theorem witness_SupplyBecomesInvalid_2 : ∃ (s : State) (vaux : Bool),
    let before := if vaux then s.pwr.vaux else s.pwr.vin48
    before = true :=
  ⟨run0, true, by decide⟩

/-! StandbyPin -/

-- clauses 1, 4, 8
theorem witness_StandbyPin_1 : ∃ (s : State),
    s.pwr.stby = true ∧ (s.pwr.on = true ∨ s.pwr.vin48 = false ∨ s.pwr.vaux = false) ∧ standbyReady s = false :=
  ⟨{ run0 with pwr := { pwrOn with stby := true } }, by decide⟩

-- clauses 2, 3
theorem witness_StandbyPin_2 : ∃ (s : State),
    s.pwr.stby = false ∧ s.pwr.on = false :=
  ⟨{ State.reset with pwr := { vin48 := true, vaux := true } }, by decide⟩

-- clauses 5
theorem witness_StandbyPin_3 : ∃ (s : State),
    s.pwr.stby = true ∧ s.pwr.on = false ∧ s.pwr.vin48 = true ∧ s.pwr.vaux = true :=
  ⟨{ State.reset with pwr := { stby := true, vin48 := true, vaux := true } }, by decide⟩

-- clauses 6
theorem witness_StandbyPin_4 : ∃ (s : State),
    standbyReady s = true ∧ s.pwr.stby = true :=
  ⟨{ State.reset with pwr := { pwrOn with stby := true, groups := 1, osc := false }, life := { sys := .standbyEntry, stop := some ⟨.standby, 4, true⟩ } },
    by decide⟩

-- clauses 7
theorem witness_StandbyPin_5 : ∃ (s : State),
    standbyReady s = true ∧ s.pwr.stby = false :=
  ⟨{ State.reset with pwr := { pwrOn with stby := false, groups := 1, osc := false }, life := { sys := .standbyEntry, stop := some ⟨.standby, 4, true⟩ } },
    by decide⟩

/-! StandbyStopsTheFunction -/

-- clauses 1
theorem witness_StandbyStopsTheFunction_1 : ∃ (s : State),
    s.pwr.stby = false ∧ s.pwr.on = true ∧ s.pwr.staged = false ∧ s.life.sys = .running :=
  ⟨run0, by decide⟩

-- clauses 3
theorem witness_StandbyStopsTheFunction_2 : ∃ (s : State),
    s.pwr.stby = false ∧ s.pwr.on = true ∧ s.pwr.staged = false ∧
    (s.life.sys = .powerUp ∨ s.life.sys = .loading ∨ s.life.sys = .safe ∨ s.life.sys = .stopped ∨
        (s.life.sys = .restarting ∧ ∀ q, s.life.stop = some q → 4 < q.step)) :=
  ⟨{ run0 with life := { sys := .restarting, stop := some ⟨.restart, 5, false⟩, awaitRoot := true }, loader := { slot := 1, copy := [3] } },
    by decide⟩

-- clauses 4
theorem witness_StandbyStopsTheFunction_3 : ∃ (s : State),
    s.pwr.stby = false ∧ s.pwr.on = true ∧ (s.pwr.staged = true ∨ s.life.sys = .standbyEntry) :=
  ⟨{ run0 with life := { sys := .standbyEntry, stop := some ⟨.standby, 2, false⟩ } }, by decide⟩

-- clause 2
theorem witness_StandbyStopsTheFunction_4 : ∃ (s : State) (q : _),
    s.life.stop = some q ∧ s.pwr.stby = false ∧ s.pwr.on = true ∧ s.pwr.staged = false ∧ s.life.sys = .restarting ∧
    q.step ≤ 4 :=
  ⟨{ run0 with life := { sys := .restarting, stop := some ⟨.restart, 2, false⟩, awaitRoot := true } }, _, rfl,
    by decide⟩

/-! RailGroupsRiseInOrder -/

-- clauses 1
theorem witness_RailGroupsRiseInOrder_1 : ∃ (s : State) (g : Nat),
    s.pwr.on = true ∧ s.pwr.staged = false ∧ g = s.pwr.groups + 1 ∧ g < 3 :=
  ⟨seq0, 1, by decide⟩

-- clauses 3
theorem witness_RailGroupsRiseInOrder_2 : ∃ (s : State),
    s.pwr.on = true ∧ s.pwr.staged = false ∧ s.pwr.groups = 2 ∧ s.pwr.testEn = false :=
  ⟨{ seq0 with pwr := { seq0.pwr with groups := 2 } }, by decide⟩

-- clauses 2
theorem witness_RailGroupsRiseInOrder_3 : ∃ (s : State),
    s.pwr.on = true ∧ s.pwr.staged = false ∧ s.pwr.groups = 2 ∧ s.pwr.testEn = true :=
  ⟨{ seq0 with pwr := { seq0.pwr with groups := 2, testEn := true } }, by decide⟩

-- clauses 4
theorem witness_RailGroupsRiseInOrder_4 : ∃ (s : State) (g : Nat),
    (s.pwr.on = false ∨ s.pwr.staged = true ∨ g ≠ s.pwr.groups + 1 ∨ 3 < g) :=
  ⟨seq0, 4, by decide⟩

/-! OscillatorAndRootStart -/

-- clauses 1
theorem witness_OscillatorAndRootStart_1 : ∃ (s : State),
    s.pwr.on = true ∧ s.pwr.osc = false ∧ 2 ≤ s.pwr.groups :=
  ⟨{ seq0 with pwr := { seq0.pwr with groups := 2 } }, by decide⟩

-- clauses 2
theorem witness_OscillatorAndRootStart_2 : ∃ (s : State),
    s.pwr.osc = true ∧ s.time.counting = false :=
  ⟨{ seq0 with pwr := { seq0.pwr with groups := 2, osc := true } }, by decide⟩

/-! StoreTrainsAndIsZeroed -/

-- clauses 1
theorem witness_StoreTrainsAndIsZeroed_1 : ∃ (s : State) (ok0 : Bool) (ok1 : Bool),
    s.pwr.on = true ∧ s.pwr.staged = false ∧ s.pwr.testEn = false ∧ s.store.table = false ∧ s.pwr.groups = 3 ∧
    ok0 = true ∧ ok1 = true :=
  ⟨{ seq0 with pwr := { seq0.pwr with groups := 3, osc := true, root := true } }, true, true, by decide⟩

-- clauses 2
theorem witness_StoreTrainsAndIsZeroed_2 : ∃ (s : State) (ok0 : Bool) (ok1 : Bool),
    s.pwr.on = true ∧ s.pwr.staged = false ∧ s.pwr.testEn = false ∧ s.store.table = false ∧ s.pwr.groups = 3 ∧
    (ok0 && ok1) = false :=
  ⟨{ seq0 with pwr := { seq0.pwr with groups := 3, osc := true, root := true } }, true, false, by decide⟩

-- clauses 3
theorem witness_StoreTrainsAndIsZeroed_3 : ∃ (s : State),
    s.life.stop = none ∧ s.store.table = true ∧ s.life.zeroed = false ∧ s.life.sys = .powerUp :=
  ⟨{ seq0 with pwr := { seq0.pwr with groups := 3, osc := true, root := true }, store := { table := true } },
    by decide⟩

-- clause 4
theorem witness_StoreTrainsAndIsZeroed_4 : ∃ (s : State) (q : _),
    s.life.stop = some q ∧ q.step = 5 ∧ q.kind = .controlled :=
  ⟨{ run0 with life := { sys := .stopped, stop := some ⟨.controlled, 5, false⟩ } }, _, rfl, by decide⟩

-- clause 5
theorem witness_StoreTrainsAndIsZeroed_5 : ∃ (s : State) (q : _),
    s.life.stop = some q ∧ q.step = 5 ∧ (q.kind = .restart ∨ q.kind = .rootUnlock) ∧ s.mbox.running = none :=
  ⟨{ run0 with life := { sys := .restarting, stop := some ⟨.restart, 5, false⟩ } }, _, rfl, by decide⟩

/-! PowerFaults -/

-- clauses 1, 2, 4, 6, 10
theorem witness_PowerFaults_1 : ∃ (s : State) (g : Nat) (inp : Nat),
    s.pwr.on = true ∧ railGroup inp ≠ some g ∧ s.pwr.staged = true :=
  ⟨{ run0 with pwr := { pwrOn with staged := true } }, 1, 0, by decide⟩

-- clauses 7, 8, 9, 11
theorem witness_PowerFaults_2 : ∃ (s : State),
    s.pwr.on = false ∧ s.pwr.staged = false :=
  ⟨{ run0 with pwr := { pwrOn with on := false } }, by decide⟩

-- clauses 3
theorem witness_PowerFaults_3 : ∃ (s : State) (g : Nat) (inp : Nat),
    s.pwr.on = true ∧ railGroup inp = some g ∧ (s.pwr.groups < 2 ∨ g = 2 ∨ g = 4) ∧ ¬ (s.pwr.staged = true ∧ g = 3) :=
  ⟨run0, 2, 6, by decide⟩

-- clauses 5
theorem witness_PowerFaults_4 : ∃ (s : State) (g : Nat) (inp : Nat),
    s.pwr.on = true ∧ railGroup inp = some g ∧ 2 ≤ s.pwr.groups ∧ g ≠ 2 ∧ g ≠ 4 ∧ ¬ (s.pwr.staged = true ∧ g = 3) :=
  ⟨run0, 3, 7, by decide⟩

/-! BootPointerAndBoardRecordRead -/

-- clauses 1, 4
theorem witness_BootPointerAndBoardRecordRead_1 : ∃ (s : State),
    pointerDue s = true ∧ (s.life.sys ≠ .powerUp ∨ s.loader.pointerRead = false ∨ s.loader.boardDone = true) :=
  ⟨{ seq0 with pwr := { seq0.pwr with groups := 3, osc := true } }, by decide⟩

-- clauses 2, 3
theorem witness_BootPointerAndBoardRecordRead_2 : ∃ (s : State),
    pointerDue s = false ∧ s.life.sys = .powerUp ∧ s.loader.pointerRead = true ∧ s.loader.boardDone = false :=
  ⟨{ seq0 with loader := { pointerRead := true, areas := { boardLen := 2 } } }, by decide⟩

/-! ImageSlotsAreChecked -/

-- clauses 1, 2, 3
theorem witness_ImageSlotsAreChecked_1 : ∃ (s : State),
    slotLoading s = true ∧ (s.loader.slot = 1 ∨ s.loader.slot = 2) ∧ s.loader.copy = [] ∧ s.life.sys = .loading :=
  ⟨{ run0 with life := { sys := .loading }, pkg := { run0.pkg with xspiReset := true }, loader := { slot := 1 }, image := none },
    by decide⟩

-- clauses 4
theorem witness_ImageSlotsAreChecked_2 : ∃ (s : State),
    slotLoading s = true ∧ (s.loader.slot = 1 ∨ s.loader.slot = 2) ∧ s.loader.copy ≠ [] :=
  ⟨{ run0 with life := { sys := .loading }, pkg := { run0.pkg with xspiReset := true }, loader := { slot := 1, copy := [1] }, image := none },
    by decide⟩

/-! FunctionStarts -/

-- clauses 3, 5
theorem witness_FunctionStarts_1 : ∃ (s : State) (p : Nat),
    (s.accepted = none ∨ s.life.sys ≠ .loading ∨ s.pwr.root = false) ∧ tbit s.pkg.dperstDue p = false :=
  ⟨run0, 3, by decide⟩

-- clauses 4
theorem witness_FunctionStarts_2 : ∃ (s : State) (p : Nat),
    tbit s.pkg.dperstDue p = true :=
  ⟨{ run0 with pkg := { run0.pkg with dperstDue := 8 } }, 3, by decide⟩

-- clause 1
theorem witness_FunctionStarts_3 : ∃ (s : State) (m : _),
    s.accepted = some m ∧ s.life.sys = .loading ∧ s.pwr.root = true ∧ s.life.stopAtStart = .none :=
  ⟨{ run0 with life := { sys := .loading }, accepted := some { live := [{ initial := 7 }] }, img := { run0.img with running := 0 }, eng := {} },
    _, rfl, by decide⟩

-- clause 2
theorem witness_FunctionStarts_4 : ∃ (s : State) (m : _),
    s.accepted = some m ∧ s.life.sys = .loading ∧ s.pwr.root = true ∧ s.life.stopAtStart ≠ .none :=
  ⟨{ run0 with life := { sys := .loading, stopAtStart := .margin }, accepted := some {}, eng := {} }, _, rfl,
    by decide⟩

/-! HostLinkComesUp -/

-- clauses 3, 5
theorem witness_HostLinkComesUp_1 : ∃ (s : State),
    (s.pwr.on = false ∨ s.pwr.testEn = true ∨ s.pwr.groups = 0 ∨ s.link.perst = false) ∧ s.link.ready = false :=
  ⟨State.reset, by decide⟩

-- clauses 2, 4
theorem witness_HostLinkComesUp_2 : ∃ (s : State),
    s.pwr.on = true ∧ s.pwr.testEn = false ∧ 1 ≤ s.pwr.groups ∧ s.link.perst = true ∧ s.link.ready = true :=
  ⟨{ run0 with link := { perst := true, up := true, ready := true } }, by decide⟩

/-! HostLinkEventsSpareTheFunction -/

-- clauses 1, 2, 3, 4, 5
theorem witness_HostLinkEventsSpareTheFunction_1 : ∃ (s : State),
    s.link.ready = true ∧ s.link.d3hot = false ∧ s.link.up = true ∧ s.link.perst = true ∧ linkPowered s = true :=
  ⟨{ run0 with link := { perst := true, up := true, ready := true } }, by decide⟩

/-! ConfigurationSpace -/

-- clauses 3, 4, 5, 6, 7
theorem witness_ConfigurationSpace_1 : ∃ (s : State),
    linkPowered s = true ∧ s.link.perst = true ∧ s.link.ready = true :=
  ⟨{ run0 with link := { perst := true, up := true, ready := true } }, by decide⟩

-- clauses 1
theorem witness_ConfigurationSpace_2 : ∃ (s : State),
    linkPowered s = true ∧ s.link.perst = true ∧ s.link.ready = false :=
  ⟨{ run0 with link := { perst := true } }, by decide⟩

-- clauses 2
theorem witness_ConfigurationSpace_3 : ∃ (s : State),
    (linkPowered s = false ∨ s.link.perst = false) :=
  ⟨run0, by decide⟩

/-! RestartIsGuarded -/

-- clauses 1
theorem witness_RestartIsGuarded_1 : ∃ (s : State),
    placketOpen s = false :=
  ⟨run0, by decide⟩

-- clauses 2
theorem witness_RestartIsGuarded_2 : ∃ (s : State) (v : Word),
    placketOpen s = true ∧ tbit v.toNat 0 = false :=
  ⟨{ run0 with key := some 1 }, 0, by decide⟩

-- clauses 3
theorem witness_RestartIsGuarded_3 : ∃ (s : State) (v : Word),
    placketOpen s = true ∧ tbit v.toNat 0 = true ∧ restartAllowed s = false :=
  ⟨{ run0 with key := some 1, life := { sys := .loading } }, 1, by decide⟩

-- clauses 4
theorem witness_RestartIsGuarded_4 : ∃ (s : State) (v : Word),
    placketOpen s = true ∧ tbit v.toNat 0 = true ∧ restartAllowed s = true :=
  ⟨{ run0 with key := some 1 }, 1, by decide⟩

/-! StopSequenceOfTheFunction -/

-- clauses 1, 2, 3, 4, 5
theorem witness_StopSequenceOfTheFunction_1 : ∃ (s : State),
    s.life.stop = none :=
  ⟨run0, by decide⟩

-- clause 6
theorem witness_StopSequenceOfTheFunction_2 : ∃ (s : State) (q : _),
    s.life.stop = some q ∧ q.step = 1 :=
  ⟨{ run0 with life := { sys := .restarting, stop := some ⟨.restart, 1, false⟩ } }, _, rfl, by decide⟩

-- clause 6
theorem witness_StopSequenceOfTheFunction_3 : ∃ (s : State) (q : _),
    s.life.stop = some q ∧ q.step = 2 :=
  ⟨{ run0 with life := { sys := .restarting, stop := some ⟨.restart, 2, false⟩ } }, _, rfl, by decide⟩

-- clause 6
theorem witness_StopSequenceOfTheFunction_4 : ∃ (s : State) (q : _),
    s.life.stop = some q ∧ q.step = 4 ∧ s.pending = [] ∧ s.eng.running = false :=
  ⟨{ run0 with eng := {}, life := { sys := .restarting, stop := some ⟨.restart, 4, false⟩ } }, _, rfl, by decide⟩

-- clause 6
theorem witness_StopSequenceOfTheFunction_5 : ∃ (s : State) (q : _),
    s.life.stop = some q ∧ q.step = 4 ∧ noticesDue (lastNotices s) = true :=
  ⟨{ ntc (rng 2 { rg with tail := 1 }) with eng := {}, life := { sys := .restarting, stop := some ⟨.restart, 4, false⟩ } },
    _, rfl, by decide⟩

-- clause 6
theorem witness_StopSequenceOfTheFunction_6 : ∃ (s : State) (q : _),
    s.life.stop = some q ∧ q.step = 4 ∧ (q.kind = .standby ∨ q.thenStandby = true) ∧
    noticesDue (lastNotices s) = false :=
  ⟨{ run0 with eng := {}, life := { sys := .standbyEntry, stop := some ⟨.standby, 4, false⟩ } }, _, rfl, by decide⟩

-- clause 6
theorem witness_StopSequenceOfTheFunction_7 : ∃ (s : State) (q : _),
    s.life.stop = some q ∧ q.step = 4 ∧ q.thenStandby = false ∧ noticesDue (lastNotices s) = false ∧
    q.kind ≠ .standby :=
  ⟨{ run0 with eng := {}, life := { sys := .restarting, stop := some ⟨.restart, 4, false⟩ } }, _, rfl, by decide⟩

-- clause 6
theorem witness_StopSequenceOfTheFunction_8 : ∃ (s : State) (q : _),
    s.life.stop = some q ∧ q.step = 4 ∧ q.thenStandby = false ∧ q.kind = .controlled ∧
    noticesDue (lastNotices s) = false ∧ q.kind ≠ .standby :=
  ⟨{ run0 with eng := {}, life := { sys := .stopped, stop := some ⟨.controlled, 4, false⟩ }, pwr := { pwrOn with analysis := true }, pkg := { run0.pkg with dperst := 3 } },
    _, rfl, by decide⟩

-- clause 6: the volume's close, done or timed out
theorem witness_StopSequenceOfTheFunction_volume : ∃ (s : State) (q : StopSeq) (c : Instr), s.life.stop = some q ∧
    q.step = 3 ∧
    (c = .volumeCloseDone ∨ c = .volumeCloseTimeout) :=
  ⟨{ run0 with life := { sys := .restarting, stop := some ⟨.restart, 3, false⟩ } }, _, .volumeCloseTimeout, rfl,
    by decide⟩

/-! RootLossAndRelock -/

-- clauses 2, 3, 7
theorem witness_RootLossAndRelock_1 : ∃ (s : State),
    s.pwr.root = true ∧ (s.pwr.root = true ∨ s.time.counting = false) ∧ s.life.awaitRoot = false :=
  ⟨run0, by decide⟩

-- clauses 1, 4, 5
theorem witness_RootLossAndRelock_2 : ∃ (s : State),
    s.pwr.root = false ∧ s.time.counting = true ∧ s.life.awaitRoot = true ∧
    (s.life.sys = .loading ∨ (s.life.sys = .powerUp ∧ s.life.zeroed = true)) ∧ s.life.stopAtStart = .none :=
  ⟨{ run0 with pwr := { pwrOn with root := false }, life := { sys := .loading, awaitRoot := true } }, by decide⟩

-- clauses 6
theorem witness_RootLossAndRelock_3 : ∃ (s : State),
    s.life.awaitRoot = true ∧ (s.life.sys = .restarting ∨ s.life.sys = .safe ∨ s.life.sys = .stopped ∨
        (s.life.sys = .powerUp ∧ s.life.zeroed = false)) :=
  ⟨{ run0 with pwr := { pwrOn with root := false }, life := { sys := .restarting, awaitRoot := true, stop := some ⟨.rootUnlock, 5, false⟩ } },
    by decide⟩

/-! ReadClearsAndKeepsNewAssertions -/

-- clauses 5
theorem witness_ReadClearsAndKeepsNewAssertions_1 : ∃ (s : State),
    wf 0 s.stat.grp = true ∧ wf 0 s.stat.grpFresh = true :=
  ⟨run0, by decide⟩

/-! KeyUnlockAndPlacket -/

-- clauses 2, 4, 5
theorem witness_KeyUnlockAndPlacket_1 : ∃ (s : State) (v : Word),
    v ≠ 0x6B3D ∧ s.key = none ∧ placketOpen s = false :=
  ⟨run0, 5, by decide⟩

-- clauses 6
theorem witness_KeyUnlockAndPlacket_2 : ∃ (s : State),
    placketOpen s = true :=
  ⟨{ run0 with key := some 0 }, by decide⟩

-- clause 3
theorem witness_KeyUnlockAndPlacket_3 : ∃ (s : State) (c : _),
    s.key = some c :=
  ⟨{ run0 with key := some 0 }, _, rfl⟩

-- clause 7
theorem witness_KeyUnlockAndPlacket_within : ∃ s : State, placketOpen s = true := ⟨keyed run0, by decide⟩

-- clause 8: no placket, and one that is over at its 160,000th cycle
theorem witness_KeyUnlockAndPlacket_without : ∃ s : State, placketOpen s = false := ⟨run0, by decide⟩

theorem witness_KeyUnlockAndPlacket_over : ∃ (s : State) (c : Nat), s.key = some c ∧ s.time.cycle - c = 8 * 160000 ∧
    placketOpen s = false :=
  ⟨{ run0 with key := some 0, time := { run0.time with cycle := 1280000 } }, 0, rfl, by decide⟩

/-! Bar0WriteRules -/

-- clauses 4, 23, 24, 28, 36, 37, 38, 39, 40, 41, 42, 43, 44
theorem witness_Bar0WriteRules_1 : ∃ (n : Nat) (o : Nat) (q : Nat) (k : Nat),
    let writable : Bool := match n with
      | 1 => o == 4
      | 2 | 3 => o == 0
      | 4 => o == 0 || (decide (0x4000 ≤ o) && decide (o < 0x8000))
      | 5 => [0, 4, 8, 0x10].contains o || (decide (0x20 ≤ o) && decide (o < 0x40)) ||
          (decide (0x4000 ≤ o) && decide (o < 0x8000))
      | 8 | 9 | 10 | 11 | 12 | 13 | 17 | 22 => o == 0x100
      | 14 => [0, 4, 8, 0x100].contains o
      | 15 => [0, 0x100].contains o
      | 16 => [4, 0x100, 0x300].contains o
      | 18 => decide (0x8000 ≤ o) && decide (o < 0x10000)
      | 19 => decide (o < 0x80000) && [0, 4, 8, 0xC, 0x10, 0x14, 0x1C, 0x28].contains (o % 0x40)
      | 21 => [4, 8, 0x10].contains o || (decide (0x700 ≤ o) && decide (o < 0x800))
      | 23 => o == 0x28
      | 24 => o == 0x54
      | _ => false
    n < 25 ∧ o < blockSize n ∧ writable = false ∧ k < 8 ∧ k < 0x1000 ∧ q < 0x2000 :=
  ⟨2, 4, 1, 1, by decide⟩

/-! SnapshotCopiesEveryCounter -/

-- clauses 1
theorem witness_SnapshotCopiesEveryCounter_1 : ∃ (v : Word),
    tbit v.toNat 0 = true :=
  ⟨1, by decide⟩

-- clauses 2
theorem witness_SnapshotCopiesEveryCounter_2 : ∃ (v : Word),
    tbit v.toNat 0 = false :=
  ⟨0, by decide⟩

-- clause 3
theorem witness_SnapshotCopiesEveryCounter_3 : ∃ (s : State),
    s.snap.here = true :=
  ⟨{ run0 with snap := { run0.snap with here := true } }, by decide⟩

-- clause 4
theorem witness_SnapshotCopiesEveryCounter_4 : ∃ (s : State),
    s.snap.here = false :=
  ⟨run0, by decide⟩

/-! LiveShadowsAndCommit -/

-- clauses 1, 2
theorem witness_LiveShadowsAndCommit_1 : ∃ (s : State) (v : Word),
    running s = false ∧ tbit v.toNat 0 = true :=
  ⟨State.reset, 1, by decide⟩

-- clauses 4, 7
theorem witness_LiveShadowsAndCommit_2 : ∃ (s : State) (n : Nat) (v : Word),
    running s = true ∧ liveCount s ≤ n ∧ tbit v.toNat 0 = true ∧ s.live.commit = none :=
  ⟨run0, 0, 1, by decide⟩

-- clauses 3, 5
theorem witness_LiveShadowsAndCommit_3 : ∃ (s : State) (n : Nat) (v : Word),
    tbit v.toNat 0 = false ∧ running s = true ∧ n < liveCount s ∧ s.live.commit = none :=
  ⟨(up { live := [{}, {}] }), 1, 0, by decide⟩

-- clauses 6, 8
theorem witness_LiveShadowsAndCommit_4 : ∃ (s : State) (n : Nat) (v : Word),
    running s = true ∧ n < liveCount s ∧ s.live.commit.isSome = true ∧ tbit v.toNat 0 = true :=
  ⟨{ up { live := [{}, {}] } with live := { commit := some ⟨3, false⟩ } }, 1, 1, by decide⟩

/-- A commit of two live parameters waits for its range check. -/
def livS (l : List LiveRec) (x : Sparse Word) : State :=
  { up { live := l } with live := { commit := some ⟨3, false⟩, shadow := x } }

-- clause 9: every shadow admitted
theorem witness_LiveShadowsAndCommit_admitted : ∃ (s : State) (c : _), s.live.commit = some c ∧ c.checked = false ∧
    (∀ k, k < liveCount s → (liveRec s k).admits (look 0 s.live.shadow k) = true) :=
  ⟨livS [{}, {}] [], _, rfl, by decide⟩

-- clause 9: the second shadow refused
theorem witness_LiveShadowsAndCommit_refused : ∃ (s : State) (c : _) (k : Nat), s.live.commit = some c ∧
    c.checked = false ∧
    k < liveCount s ∧ (liveRec s k).admits (look 0 s.live.shadow k) = false ∧
    (∀ j, j < k → (liveRec s j).admits (look 0 s.live.shadow j) = true) :=
  ⟨livS [{ max := 5 }, { max := 5 }] [(1, 9)], _, 1, rfl, by decide⟩

/-! SeamsBeginAndEnd -/

-- clauses 1, 3
theorem witness_SeamsBeginAndEnd_1 : ∃ (s : State),
    (s.eng.running = false ∨ s.eng.inSeam = true) ∧ s.eng.inSeam = false :=
  ⟨State.reset, by decide⟩

-- clauses 2
theorem witness_SeamsBeginAndEnd_2 : ∃ (s : State),
    s.eng.running = true ∧ s.eng.inSeam = false :=
  ⟨run0, by decide⟩

-- clauses 4
theorem witness_SeamsBeginAndEnd_3 : ∃ (s : State),
    s.eng.inSeam = true :=
  ⟨{ run0 with eng := { run0.eng with inSeam := true } }, by decide⟩

/-! MailboxDoorbellAnswers -/

-- clauses 4, 5
theorem witness_MailboxDoorbellAnswers_1 : ∃ (s : State),
    s.life.sys = .stopped :=
  ⟨{ State.reset with life := { sys := .stopped } }, by decide⟩

-- clause 1
theorem witness_MailboxDoorbellAnswers_2 : ∃ (p : _),
    let table : List ((Bool → Instr) × Nat) := [(.nop, 0x01), (.getState, 0x02), (.flashInfo, 0x10), (.flashRead,
    0x11),
      (.flashErase, 0x12), (.flashProgram, 0x13), (.boardRead, 0x14), (.ksWrite, 0x20), (.ksRevoke, 0x21),
      (.calRunCalibrate, 0x30), (.calRunAgeing, 0x30), (.calStore, 0x31), (.calAbort, 0x32), (.logFreeze, 0x40),
      (.logThaw, 0x41), (.logClear, 0x42)]
    p ∈ table :=
  ⟨(.calAbort, 0x32), by decide⟩

-- clause 2
theorem witness_MailboxDoorbellAnswers_3 : ∃ (w : Word),
    knownOps.contains (w.toNat % 65536) = false :=
  ⟨0x77, by decide⟩

-- clause 3
theorem witness_MailboxDoorbellAnswers_4 : ∃ (s : State),
    s.life.sys = .safe :=
  ⟨{ State.reset with life := { sys := .safe } }, by decide⟩

-- clause 6: in a running function, in SAFE, while loading
theorem witness_MailboxDoorbellAnswers_running : ∃ (s : State) (op : Nat), knownOps.contains op = true ∧
    s.life.sys = .running :=
  ⟨run0, 0x42, by decide⟩

theorem witness_MailboxDoorbellAnswers_safe : ∃ (s : State) (op : Nat), knownOps.contains op = true ∧
    (s.life.sys = .safe ∨ s.life.sys = .stopped) ∧ safeOps.contains op = false ∧ op ≠ 0x31 :=
  ⟨{ State.reset with life := { sys := .safe } }, 0x30, by decide⟩

theorem witness_MailboxDoorbellAnswers_loading : ∃ (s : State) (op : Nat), knownOps.contains op = true ∧
    (s.life.sys = .powerUp ∨ s.life.sys = .loading ∨ s.life.sys = .restarting ∨ s.life.sys = .standbyEntry) ∧
    op ≠ 1 ∧ op ≠ 2 :=
  ⟨State.reset, 0x10, by decide⟩

/-! MailboxReads -/

-- clauses 1, 2, 3, 5, 7
theorem witness_MailboxReads_1 : ∃ (s : State) (kg : Bool),
    s.mbox.running = none ∧ (kg = true → placketOpen s = true) ∧ firstAnswer s 0x10 kg = 0 ∧
    firstAnswer s 0x14 kg = 0 ∧ argOf s 0 + argOf s 1 ≤ 4096 ∧ s.loader.board = none ∧ firstAnswer s 0x41 kg = 0 :=
  ⟨run0, false, by decide⟩

-- clauses 4
theorem witness_MailboxReads_2 : ∃ (s : State) (kg : Bool),
    s.mbox.running = none ∧ (kg = true → placketOpen s = true) ∧ firstAnswer s 0x14 kg = 0 ∧
    4096 < argOf s 0 + argOf s 1 :=
  ⟨arg [0, 4097] run0, false, by decide⟩

-- clause 6
theorem witness_MailboxReads_3 : ∃ (s : State) (kg : Bool) (bs : _),
    s.loader.board = some bs ∧ s.mbox.running = none ∧ (kg = true → placketOpen s = true) ∧
    firstAnswer s 0x14 kg = 0 ∧ argOf s 0 + argOf s 1 ≤ 4096 :=
  ⟨arg [1, 4095] { run0 with loader := { board := some [1,2,3], areas := { boardLen := 2 } } }, false, _, rfl,
    by decide⟩

/-! MailboxFlash -/

-- clauses 3, 5, 8, 14
theorem witness_MailboxFlash_1 : ∃ (s : State) (kg : Bool),
    let off := argOf s 0
    let len := argOf s 1
    let f := s.loader.flash
    s.mbox.running = none ∧ (kg = true → placketOpen s = true) ∧ firstAnswer s 0x11 kg = 0 ∧ 0 < len ∧ len ≤ 16384 ∧
    off + len ≤ f.density ∧ firstAnswer s 0x12 kg = 0 ∧ off % 65536 = 0 ∧ flashRangeOk s off 65536 = false ∧
    firstAnswer s 0x13 kg = 0 ∧ f.page ≠ 0 ∧ off % f.page = 0 ∧ len % f.page = 0 ∧ flashRangeOk s off len = false :=
  ⟨arg [0x30000, 256] (keyed (flashed run0)), true, by decide⟩

-- clauses 6, 9
theorem witness_MailboxFlash_2 : ∃ (s : State) (kg : Bool),
    let off := argOf s 0
    let len := argOf s 1
    let f := s.loader.flash
    s.mbox.running = none ∧ (kg = true → placketOpen s = true) ∧ firstAnswer s 0x12 kg = 0 ∧ off % 65536 = 0 ∧
    flashRangeOk s off 65536 = true ∧ firstAnswer s 0x13 kg = 0 ∧ 0 < len ∧ len ≤ 16384 ∧ f.page ≠ 0 ∧
    off % f.page = 0 ∧ len % f.page = 0 ∧ flashRangeOk s off len = true :=
  ⟨arg [0x10000, 256] (keyed (flashed run0)), true, by decide⟩

-- clauses 4, 7
theorem witness_MailboxFlash_3 : ∃ (s : State) (kg : Bool),
    let off := argOf s 0
    let len := argOf s 1
    let f := s.loader.flash
    s.mbox.running = none ∧ (kg = true → placketOpen s = true) ∧ firstAnswer s 0x12 kg = 0 ∧ off % 65536 ≠ 0 ∧
    firstAnswer s 0x13 kg = 0 ∧ (len = 0 ∨ 16384 < len ∨ off % f.page ≠ 0 ∨ len % f.page ≠ 0) :=
  ⟨arg [5, 256] (keyed (flashed run0)), true, by decide⟩

-- clauses 1
theorem witness_MailboxFlash_4 : ∃ (s : State) (kg : Bool),
    let len := argOf s 1
    s.mbox.running = none ∧ (kg = true → placketOpen s = true) ∧ firstAnswer s 0x11 kg = 0 ∧
    (len = 0 ∨ 16384 < len) :=
  ⟨flashed run0, false, by decide⟩

-- clauses 2
theorem witness_MailboxFlash_5 : ∃ (s : State) (kg : Bool),
    let off := argOf s 0
    let len := argOf s 1
    let f := s.loader.flash
    s.mbox.running = none ∧ (kg = true → placketOpen s = true) ∧ firstAnswer s 0x11 kg = 0 ∧ 0 < len ∧ len ≤ 16384 ∧
    f.density < off + len :=
  ⟨arg [268435455, 2] (flashed run0), false, by decide⟩

-- clauses 10
theorem witness_MailboxFlash_6 : ∃ (s : State) (ok : Bool),
    let off := argOf s 0
    let len := argOf s 1
    s.mbox.running = some (.flashRead off len) ∧ ok = true :=
  ⟨arg [5, 2] (busy (.flashRead 5 2) run0), true, by decide⟩

-- clauses 11
theorem witness_MailboxFlash_7 : ∃ (s : State) (ok : Bool),
    let off := argOf s 0
    let len := argOf s 1
    s.mbox.running = some (.flashRead off len) ∧ ok = false :=
  ⟨arg [5, 2] (busy (.flashRead 5 2) run0), false, by decide⟩

-- clauses 12
theorem witness_MailboxFlash_8 : ∃ (s : State),
    let off := argOf s 0
    s.mbox.running = some (.flashErase off) :=
  ⟨arg [5, 2] (busy (.flashErase 5) run0), by decide⟩

-- clauses 13
theorem witness_MailboxFlash_9 : ∃ (s : State),
    let off := argOf s 0
    let len := argOf s 1
    s.mbox.running = some (.flashProgram off len) :=
  ⟨arg [5, 2] (busy (.flashProgram 5 2) run0), by decide⟩

/-! MailboxKeySlots -/

-- clauses 3, 6
theorem witness_MailboxKeySlots_1 : ∃ (s : State),
    let token := cmdData s 3780
    s.mbox.running = none ∧ placketOpen s = true ∧ firstAnswer s 0x20 true = 0 ∧ argOf s 0 = 0 ∧ argOf s 1 ≤ 3 ∧
    commissioned s = false ∧ writeRefused (keySlot s (argOf s 1)) (digestAt token 0) = false ∧
    firstAnswer s 0x21 true = 0 :=
  ⟨keyed run0, by decide⟩

-- clauses 5
theorem witness_MailboxKeySlots_2 : ∃ (s : State),
    s.mbox.running = none ∧ placketOpen s = true ∧ firstAnswer s 0x20 true = 0 ∧ (1 < argOf s 0 ∨ (argOf s 0 = 0 ∧
    3 < argOf s 1)) :=
  ⟨arg [2] (keyed run0), by decide⟩

-- clauses 1
theorem witness_MailboxKeySlots_3 : ∃ (s : State),
    s.mbox.running = none ∧ placketOpen s = true ∧ firstAnswer s 0x20 true = 0 ∧ argOf s 0 = 0 ∧ argOf s 1 ≤ 3 ∧
    commissioned s = true :=
  ⟨arg [0, 3] { keyed run0 with img := { run0.img with keys := [(1, { enabled := true, digest := 3 })] } }, by decide⟩

-- clauses 2
theorem witness_MailboxKeySlots_4 : ∃ (s : State),
    let token := cmdData s 3780
    s.mbox.running = none ∧ placketOpen s = true ∧ firstAnswer s 0x20 true = 0 ∧ argOf s 0 = 0 ∧ argOf s 1 ≤ 3 ∧
    commissioned s = false ∧ writeRefused (keySlot s (argOf s 1)) (digestAt token 0) = true :=
  ⟨arg [0, 3] { keyed run0 with img := { run0.img with keys := [(3, { digest := 3 })] } },
    by decide⟩

-- clauses 4
theorem witness_MailboxKeySlots_5 : ∃ (s : State),
    s.mbox.running = none ∧ placketOpen s = true ∧ firstAnswer s 0x20 true = 0 ∧ argOf s 0 = 1 :=
  ⟨arg [1, 3] { keyed run0 with img := { run0.img with keys := [] } }, by decide⟩

-- clause 7
theorem witness_MailboxKeySlots_6 : ∃ (s : State) (k : _) (d : _),
    s.mbox.running = some (.ksWrite k d) :=
  ⟨busy (.ksWrite 1 5) run0, _, _, rfl⟩

-- clause 8
theorem witness_MailboxKeySlots_7 : ∃ (s : State) (k : _),
    s.mbox.running = some (.ksRevoke k) :=
  ⟨busy (.ksRevoke 1) { run0 with img := { run0.img with keys := [(1, { enabled := true, digest := 3 })] } }, _, rfl⟩

/-! MailboxCalibrationAndRecorder -/

-- clauses 2, 4, 5, 7
theorem witness_MailboxCalibrationAndRecorder_1 : ∃ (s : State) (kg : Bool),
    s.mbox.running = none ∧ (kg = true → placketOpen s = true) ∧ firstAnswer s 0x31 kg = 0 ∧ s.cal.run = none ∧
    firstAnswer s 0x32 kg = 0 ∧ firstAnswer s 0x40 kg = 0 ∧ recordWaits s = false ∧ firstAnswer s 0x42 kg = 0 ∧
    argOf s 0 ≠ 3780 :=
  ⟨keyed run0, true, by decide⟩

-- clauses 6
theorem witness_MailboxCalibrationAndRecorder_2 : ∃ (s : State) (kg : Bool),
    s.mbox.running = none ∧ (kg = true → placketOpen s = true) ∧ firstAnswer s 0x40 kg = 0 ∧ recordWaits s = true ∧
    s.recorder.freeze = none ∧ s.recorder.degraded = false :=
  ⟨{ run0 with recorder := { run0.recorder with queue := [{}] } }, false, by decide⟩

-- clauses 8
theorem witness_MailboxCalibrationAndRecorder_3 : ∃ (s : State) (kg : Bool),
    s.mbox.running = none ∧ (kg = true → placketOpen s = true) ∧ firstAnswer s 0x42 kg = 0 ∧ argOf s 0 = 3780 :=
  ⟨arg [3780] { keyed run0 with mbox := { run0.mbox with arg := results [3780], data := putBytes 0 (leBytes 4 0x434C5A53) [] } },
    true, by decide⟩

-- clause 3
theorem witness_MailboxCalibrationAndRecorder_4 : ∃ (s : State) (kg : Bool) (r : _),
    s.cal.run = some r ∧ r.aborting = false ∧ s.mbox.running = none ∧ (kg = true → placketOpen s = true) ∧
    firstAnswer s 0x32 kg = 0 :=
  ⟨arg [5] { run0 with cal := { run := some run1 } }, false, _, rfl, by decide⟩

-- clause 9
theorem witness_MailboxCalibrationAndRecorder_5 : ∃ (s : State) (ok : Bool) (k : _) (gen : _),
    s.mbox.running = some (.calStore k gen) ∧ ok = true :=
  ⟨busy (.calStore 1 5) run0, true, _, _, rfl, by decide⟩

-- clause 9
theorem witness_MailboxCalibrationAndRecorder_6 : ∃ (s : State) (ok : Bool) (k : _) (gen : _),
    s.mbox.running = some (.calStore k gen) ∧ ok = false :=
  ⟨busy (.calStore 1 5) run0, false, _, _, rfl, by decide⟩

-- clause 1: bad arguments, a run in progress, CALIBRATE, AGEING
theorem witness_MailboxCalibrationAndRecorder_args : ∃ (s : State) (kg : Bool) (c : Instr), s.mbox.running = none ∧
    (kg = true → placketOpen s = true) ∧ firstAnswer s 0x30 kg = 0 ∧
    (c = .calRunCalibrate kg ∨ c = .calRunAgeing kg) ∧
    calArgsOk s = false :=
  ⟨arg [0] run0, false, .calRunCalibrate false, by decide⟩

theorem witness_MailboxCalibrationAndRecorder_run : ∃ (s : State) (kg : Bool) (c : Instr), s.mbox.running = none ∧
    (kg = true → placketOpen s = true) ∧ firstAnswer s 0x30 kg = 0 ∧
    (c = .calRunCalibrate kg ∨ c = .calRunAgeing kg) ∧
    calArgsOk s = true ∧ s.cal.run.isSome = true :=
  ⟨arg [5] { run0 with cal := { run := some run1 } }, false, .calRunAgeing false, by decide⟩

theorem witness_MailboxCalibrationAndRecorder_calibrate : ∃ (s : State) (kg : Bool) (c : Instr),
    s.mbox.running = none ∧
    (kg = true → placketOpen s = true) ∧ firstAnswer s 0x30 kg = 0 ∧
    (c = .calRunCalibrate kg ∨ c = .calRunAgeing kg) ∧
    calArgsOk s = true ∧ s.cal.run = none ∧ argOf s 1 = 0 :=
  ⟨arg [5] run0, false, .calRunCalibrate false, by decide⟩

theorem witness_MailboxCalibrationAndRecorder_ageing : ∃ (s : State) (kg : Bool) (c : Instr), s.mbox.running = none ∧
    (kg = true → placketOpen s = true) ∧ firstAnswer s 0x30 kg = 0 ∧
    (c = .calRunCalibrate kg ∨ c = .calRunAgeing kg) ∧
    calArgsOk s = true ∧ s.cal.run = none ∧ argOf s 1 = 1 :=
  ⟨arg [0, 1, 5, 6, 7] run0, false, .calRunAgeing false, by decide⟩

-- clause 10
theorem witness_MailboxCalibrationAndRecorder_moved : ∃ (s : State) (k seq : Nat) (d : _),
    s.mbox.running = some (.logClear k seq d) ∧ s.recorder.seq ≠ seq :=
  ⟨busy (.logClear 1 7 9) run0, 1, 7, 9, rfl, by decide⟩

theorem witness_MailboxCalibrationAndRecorder_clear : ∃ (s : State) (k seq : Nat) (d : _),
    s.mbox.running = some (.logClear k seq d) ∧ s.recorder.seq = seq :=
  ⟨busy (.logClear 1 0 9) run0, 1, 0, 9, rfl, by decide⟩

/-! OvenSettlesAndUnsettles -/

-- clauses 1
theorem witness_OvenSettlesAndUnsettles_1 : ∃ (err : Int),
    -10 ≤ err ∧ err ≤ 10 :=
  ⟨10, by decide⟩

-- clauses 2
theorem witness_OvenSettlesAndUnsettles_2 : ∃ (s : State) (err : Int),
    let c := s.clk
    (err < -10 ∨ 10 < err) ∧ (c.settled = false ∨ c.runOut < 101) :=
  ⟨{ run0 with clk := { runOut := 999 } }, 11, by decide⟩

-- clauses 3
theorem witness_OvenSettlesAndUnsettles_3 : ∃ (s : State) (err : Int),
    let c := s.clk
    (err < -10 ∨ 10 < err) ∧ c.settled = true ∧ 101 ≤ c.runOut :=
  ⟨{ run0 with clk := { settled := true, runOut := 101 } }, 11, by decide⟩

/-! ReferenceDetectedAndLost -/

-- clauses 1, 7, 12
theorem witness_ReferenceDetectedAndLost_1 : ∃ (s : State) (nominal : Nat) (err : Int),
    let c := s.clk
    let inside := 1 ≤ nominal ∧ nominal ≤ 3 ∧ -5000000 ≤ err ∧ err ≤ 5000000
    inside ∧ c.refLock = 0 ∧ c.refDetect = 0 ∧ (c.lock ≠ .acquiring ∨ c.eps ≠ 0) :=
  ⟨run0, 1, 5, by decide⟩

-- clauses 6, 10, 11
theorem witness_ReferenceDetectedAndLost_2 : ∃ (s : State) (nominal : Nat) (err : Int),
    let c := s.clk
    let inside := 1 ≤ nominal ∧ nominal ≤ 3 ∧ -5000000 ≤ err ∧ err ≤ 5000000
    ¬ inside ∧ c.refDetect ≠ 0 ∧ (c.lock = .acquiring ∨ c.lock = .locked) ∧ c.lock = .acquiring ∧ c.eps = 0 :=
  ⟨{ run0 with clk := { refLock := 2, lock := .acquiring, code := 600, refDetect := 2, eps := 0 } }, 0, (-5000001),
    by decide⟩

-- clauses 8
theorem witness_ReferenceDetectedAndLost_3 : ∃ (s : State),
    let c := s.clk
    c.refDetect ≠ 0 ∧ (c.lock = .internal ∨ c.lock = .holdover) :=
  ⟨{ run0 with clk := { refDetect := 1 } }, by decide⟩

-- clauses 3
theorem witness_ReferenceDetectedAndLost_4 : ∃ (s : State) (nominal : Nat) (err : Int),
    let c := s.clk
    let code := match c.stepped with
      | some (k, b) => if k = hkCycle s then clampCode (c.code + (b - c.base)) else c.code
      | none => c.code
    let inside := 1 ≤ nominal ∧ nominal ≤ 3 ∧ -5000000 ≤ err ∧ err ≤ 5000000
    inside ∧ c.refLock ≠ 0 ∧ c.lock ≠ .acquiring ∧ c.lock ≠ .locked ∧
    clampCode (code + stepsOf err) = code + stepsOf err :=
  ⟨{ run0 with clk := { refLock := 1 } }, 3, 5, by decide⟩

-- clauses 2
theorem witness_ReferenceDetectedAndLost_5 : ∃ (s : State) (nominal : Nat) (err : Int),
    let c := s.clk
    let code := match c.stepped with
      | some (k, b) => if k = hkCycle s then clampCode (c.code + (b - c.base)) else c.code
      | none => c.code
    let inside := 1 ≤ nominal ∧ nominal ≤ 3 ∧ -5000000 ≤ err ∧ err ≤ 5000000
    inside ∧ c.refLock ≠ 0 ∧ c.lock ≠ .acquiring ∧ c.lock ≠ .locked ∧
    clampCode (code + stepsOf err) ≠ code + stepsOf err :=
  ⟨{ run0 with clk := { refLock := 2, lock := .holdover, code := 8388600 } }, 3, 5000000,
    by decide⟩

-- clauses 4
theorem witness_ReferenceDetectedAndLost_6 : ∃ (s : State) (nominal : Nat) (err : Int),
    let c := s.clk
    let inside := 1 ≤ nominal ∧ nominal ≤ 3 ∧ -5000000 ≤ err ∧ err ≤ 5000000
    inside ∧ c.refLock ≠ 0 ∧ c.lock = .acquiring :=
  ⟨{ run0 with clk := { refLock := 2, lock := .acquiring, code := 8388600 } }, 3, (-5000000),
    by decide⟩

-- clauses 9
theorem witness_ReferenceDetectedAndLost_7 : ∃ (s : State),
    let c := s.clk
    c.refDetect ≠ 0 ∧ c.lock = .refFar :=
  ⟨{ run0 with clk := { refLock := 2, lock := .refFar, code := 600, refDetect := 2, eps := 0 } },
    by decide⟩

-- clauses 5
theorem witness_ReferenceDetectedAndLost_8 : ∃ (s : State) (nominal : Nat) (err : Int),
    let c := s.clk
    let inside := 1 ≤ nominal ∧ nominal ≤ 3 ∧ -5000000 ≤ err ∧ err ≤ 5000000
    inside ∧ c.refLock ≠ 0 ∧ c.lock = .locked :=
  ⟨{ run0 with clk := { refLock := 2, lock := .locked, code := 600, refDetect := 2, history := [1] }, free := 4 },
    2, 5, by decide⟩

/-! TuningConverterSlews -/

-- clauses 1, 6, 8
theorem witness_TuningConverterSlews_1 : ∃ (s : State),
    let c := s.clk
    let due := modelOwns c = true ∧ s.recorder.seconds < 0xFFFFFFFF ∧ c.handed ≠ some (hkCycle s)
    ¬ due ∧ (c.lock ≠ .acquiring ∨ c.unwinding = true) ∧ 2 ≤ s.pwr.groups :=
  ⟨{ run0 with clk := { unwinding := true, eps := 200000, epsTarget := 200000, target := 500000, base := 419430, code := 0, lock := .acquiring } },
    by decide⟩

-- clauses 3, 7
theorem witness_TuningConverterSlews_2 : ∃ (s : State),
    let c := s.clk
    let goal := clampCode c.target
    let due := modelOwns c = true ∧ s.recorder.seconds < 0xFFFFFFFF ∧ c.handed ≠ some (hkCycle s)
    due ∧ c.base ≠ goal ∧ s.pwr.groups < 2 :=
  ⟨{ run0 with clk := { target := 99, code := 19 }, recorder := { run0.recorder with seconds := 4294967294 }, pwr := { pwrOn with groups := 1 } },
    by decide⟩

-- clauses 5
theorem witness_TuningConverterSlews_3 : ∃ (s : State),
    let c := s.clk
    c.lock = .acquiring ∧ c.unwinding = false :=
  ⟨{ run0 with clk := { eps := 180000, epsTarget := 200000, target := 500000, base := 0, code := 0, lock := .acquiring } },
    by decide⟩

-- clauses 2
theorem witness_TuningConverterSlews_4 : ∃ (s : State),
    let c := s.clk
    let goal := clampCode c.target
    let due := modelOwns c = true ∧ s.recorder.seconds < 0xFFFFFFFF ∧ c.handed ≠ some (hkCycle s)
    due ∧ c.base = goal :=
  ⟨run0, by decide⟩

/-! SamplesMarksAndOverload -/

-- clauses 1, 3, 4
theorem witness_SamplesMarksAndOverload_1 : ∃ (s : State) (ch : Nat) (slice : Nat),
    let h := chan s ch
    ch < 4 ∧ slice < 16 ∧ h.arrived = false :=
  ⟨run0, 0, 3, by decide⟩

-- clauses 2
theorem witness_SamplesMarksAndOverload_2 : ∃ (s : State) (ch : Nat) (slice : Nat),
    let h := chan s ch
    ch < 4 ∧ slice < 16 ∧ h.arrived = true :=
  ⟨{ ch0 { arrived := true, clampNew := 5, clamping := 1 } run0 with eng := {} }, 0, 3,
    by decide⟩

-- clause 5
theorem witness_SamplesMarksAndOverload_conditions : ∃ (s : State) (ch : Nat) (d : TrigCond), ch < 4 ∧
    (chan s ch).arrived = false ∧
    functionLive s = true ∧ s.eng.t0 ≤ cycleBase s ∧ tdConds s ch = [d] ∧ wf {} s.trig.conds = true ∧
      wf {} s.trig.groups = true ∧ ∀ g, (group s g).capture = none :=
  ⟨runE, 0, _, by decide, by decide, by decide, by decide, rfl, by decide, by decide, fun _ => rfl⟩

-- clause 6: a level re-armed, an edge in each direction, a width
theorem witness_SamplesMarksAndOverload_level : ∃ (d : TrigCond) (k : Cond) (a : Int), k.queued = [] ∧
    k.prev = some a ∧
    d.cls = .tdLevel ∧ d.polarity < 2 :=
  ⟨{ polarity := 1, cls := .tdLevel }, { prev := some (-5) }, -5, by decide⟩

theorem witness_SamplesMarksAndOverload_edge : ∃ (d : TrigCond) (k : Cond) (a : Int), k.queued = [] ∧
    k.prev = some a ∧
    d.cls = .tdEdge ∧ d.polarity = 2 ∧ (d.cls = .tdLevel → d.polarity < 2) :=
  ⟨{ polarity := 2, cls := .tdEdge }, { prev := some 100, hyst := 5 }, 100, by decide⟩

theorem witness_SamplesMarksAndOverload_width : ∃ (d : TrigCond) (k : Cond) (a : Int), k.queued = [] ∧
    k.prev = some a ∧
    d.cls = .tdWidth :=
  ⟨{ cls := .tdWidth }, { prev := some 100, pulse := some ⟨5, 2, 2, 4, false⟩ }, 100, by decide⟩

/-! WindowsAndRelaysEnd -/

-- clauses 2, 6, 7, 8
theorem witness_WindowsAndRelaysEnd_1 : ∃ (s : State) (ch : Nat) (relay : Nat),
    let h := chan s ch
    let tr := if relay = 0 then h.liningTransit else h.couplingTransit
    h.window = false ∧ tr = none ∧ s.cal.run = none :=
  ⟨run0, 0, 0, by decide⟩

-- clauses 3
theorem witness_WindowsAndRelaysEnd_2 : ∃ (s : State) (ch : Nat),
    let h := chan s ch
    h.window = true :=
  ⟨ch2 { window := true, deep := true, lastClamp := some 4, switching := true } run0, 2,
    by decide⟩

-- clause 5
theorem witness_WindowsAndRelaysEnd_3 : ∃ (s : State) (ch : Nat) (relay : Nat) (t : _),
    let h := chan s ch
    let tr := if relay = 0 then h.liningTransit else h.couplingTransit
    tr = some t ∧ s.cal.run = none :=
  ⟨ch2 { liningTransit := some ⟨1, false⟩ } run0, 2, 0, _, rfl, by decide⟩

-- clause 5
theorem witness_WindowsAndRelaysEnd_4 : ∃ (s : State) (ch : Nat) (relay : Nat) (t : _),
    let h := chan s ch
    let tr := if relay = 0 then h.liningTransit else h.couplingTransit
    tr = some t ∧ t.retried = false :=
  ⟨ch2 { liningTransit := some ⟨1, false⟩ } run0, 2, 0, _, rfl, by decide⟩

-- clause 5
theorem witness_WindowsAndRelaysEnd_5 : ∃ (s : State) (ch : Nat) (relay : Nat) (t : _),
    let h := chan s ch
    let tr := if relay = 0 then h.liningTransit else h.couplingTransit
    tr = some t ∧ t.retried = true :=
  ⟨ch2 { liningTransit := some ⟨1, true⟩ } run0, 2, 0, _, rfl, by decide⟩

-- clause 5
theorem witness_WindowsAndRelaysEnd_6 : ∃ (s : State) (ch : Nat) (relay : Nat) (t : _),
    let h := chan s ch
    let tr := if relay = 0 then h.liningTransit else h.couplingTransit
    tr = some t ∧ t.retried = false ∧ s.cal.run = none :=
  ⟨ch2 { liningTransit := some ⟨1, false⟩ } run0, 2, 0, _, rfl, by decide⟩

-- clause 5
theorem witness_WindowsAndRelaysEnd_7 : ∃ (s : State) (ch : Nat) (relay : Nat) (t : _),
    let h := chan s ch
    let tr := if relay = 0 then h.liningTransit else h.couplingTransit
    tr = some t ∧ t.retried = true ∧ s.cal.run = none :=
  ⟨ch2 { liningTransit := some ⟨1, true⟩ } run0, 2, 0, _, rfl, by decide⟩

/-! SleeveWriterStoresDropsOrStops -/

-- clauses 7, 13, 14, 15, 16, 17, 21
set_option maxRecDepth 20000 in
theorem witness_SleeveWriterStoresDropsOrStops_1 : ∃ (s : State) (i : Nat) (data : List Byte),
    let v := sleeve s i
    let b := (sleeveDecl s i).format.block
    functionLive s = true ∧ i < (img s).sleeves.length ∧ frameStreamOf s i = none ∧ channeliserOf s i = none ∧
    v.stopped = false ∧ v.skip = 0 ∧ 0 < data.length ∧ data.length ≤ b - v.wcount % b ∧ v.wcount % b = 0 ∧
    fits s i b = false ∧ (sleeveDecl s i).kind = .continuous ∧ v.resumeHeld = false :=
  ⟨slv 3 (fun v => { v with wcount := 8192 }) runS, 3, (List.replicate 4096 3), by dsimp only; decide⟩

-- clauses 8, 9, 22, 23
theorem witness_SleeveWriterStoresDropsOrStops_2 : ∃ (s : State) (i : Nat),
    let v := sleeve s i
    v.stopped = true ∧ v.resumeHeld = true ∧ v.markers.length ≤ 63 ∧ companion s i = [] ∧
    (∀ j ∈ pair s i, (sleeve s j).markers.length ≤ 63) :=
  ⟨slv 2 (fun v => { v with stopped := true, resumeHeld := true }) runS, 2, by decide⟩

-- clauses 10, 11, 12
theorem witness_SleeveWriterStoresDropsOrStops_3 : ∃ (s : State) (i : Nat) (data : List Byte),
    let v := sleeve s i
    let b := (sleeveDecl s i).format.block
    v.stopped = false ∧ v.skip = 0 ∧ 0 < data.length ∧ data.length ≤ b - v.wcount % b ∧
    (v.wcount % b ≠ 0 ∨ (fits s i b = true ∧ v.dropping = false)) ∧
    v.wcount - v.passStart + data.length < lenBytes s i :=
  ⟨runS, 2, [1,2,3], by decide⟩

-- clauses 18, 19, 20
theorem witness_SleeveWriterStoresDropsOrStops_4 : ∃ (s : State) (i : Nat) (data : List Byte),
    let v := sleeve s i
    let b := (sleeveDecl s i).format.block
    v.stopped = false ∧ v.skip = 0 ∧ 0 < data.length ∧ data.length ≤ b - v.wcount % b ∧ v.wcount % b = 0 ∧
    fits s i b = false ∧ (sleeveDecl s i).kind ≠ .continuous ∧ v.resumeHeld = false :=
  ⟨slv 2 (fun v => { v with wcount := 8192, passStart := 8192, prevLen := 8192 }) runS, 2, [1,2,3],
    by decide⟩

-- clauses 1
theorem witness_SleeveWriterStoresDropsOrStops_5 : ∃ (s : State) (i : Nat),
    (functionLive s = false ∨ (img s).sleeves.length ≤ i) :=
  ⟨State.reset, 2, by decide⟩

-- clauses 24
theorem witness_SleeveWriterStoresDropsOrStops_6 : ∃ (s : State) (i : Nat),
    let v := sleeve s i
    v.resumeHeld = true ∧ v.stopped = true ∧ 63 < v.markers.length :=
  ⟨slv 2 (fun v => { v with stopped := true, resumeHeld := true, markers := List.replicate 64 ⟨true,0,0,0⟩ }) runS,
    2, by decide⟩

-- clause 2
theorem witness_SleeveWriterStoresDropsOrStops_7 : ∃ (s : State) (i : Nat) (k : _),
    frameStreamOf s i = some k ∧ functionLive s = true ∧ i < (img s).sleeves.length :=
  ⟨{ runS with image := some { imgS with frames := [{ dst := 4, src := 0 }, { channeliser := true, dst := 3, src := 0, binCount := 2 }] } },
    4, _, rfl, by decide⟩

-- clause 3
theorem witness_SleeveWriterStoresDropsOrStops_8 : ∃ (s : State) (i : Nat) (data : List Byte) (k : _),
    frameStreamOf s i = some k ∧ (frameStream s k).left = 0 ∧ ((frameStream s k).buf ≠ [] ∨ data = []) ∧
    functionLive s = true ∧ i < (img s).sleeves.length :=
  ⟨{ runS with image := some { imgS with frames := [{ dst := 4, src := 0 }, { channeliser := true, dst := 3, src := 0, binCount := 2 }] }, frames := [(0, { buf := [1] })] },
    4, [1,2,3], _, rfl, by decide⟩

-- clause 4
theorem witness_SleeveWriterStoresDropsOrStops_9 : ∃ (s : State) (i : Nat) (data : List Byte) (k : _),
    frameStreamOf s i = some k ∧ (frameStream s k).left = 0 ∧ (frameStream s k).buf = [] ∧ functionLive s = true ∧
    i < (img s).sleeves.length ∧ data ≠ [] :=
  ⟨{ runS with image := some { imgS with frames := [{ dst := 4, src := 0 }, { channeliser := true, dst := 3, src := 0, binCount := 2 }] } },
    4, [1,2,3], _, rfl, by decide⟩

-- clause 5
theorem witness_SleeveWriterStoresDropsOrStops_10 : ∃ (s : State) (i : Nat) (k : _),
    frameStreamOf s i = some k ∧ functionLive s = true ∧ i < (img s).sleeves.length ∧ wf {} s.frames = true ∧
    wf {} s.sleeves = true :=
  ⟨{ runS with image := some { imgS with frames := [{ dst := 4, src := 0 }, { channeliser := true, dst := 3, src := 0, binCount := 2 }] } },
    4, _, rfl, by decide⟩

-- clause 5
theorem witness_SleeveWriterStoresDropsOrStops_11 : ∃ (s : State) (i : Nat) (k : _),
    let v := sleeve s i
    let d := frameDecl s k
    frameStreamOf s i = some k ∧ functionLive s = true ∧ i < (img s).sleeves.length ∧ wf {} s.frames = true ∧
    wf {} s.sleeves = true ∧ v.stopped = false ∧ fits s i d.recordBytes = true :=
  ⟨{ runS with image := some { imgS with frames := [{ dst := 4, src := 0 }, { channeliser := true, dst := 3, src := 0, binCount := 2 }] } },
    4, _, rfl, by decide⟩

-- clause 5
theorem witness_SleeveWriterStoresDropsOrStops_12 : ∃ (s : State) (i : Nat) (k : _),
    let v := sleeve s i
    frameStreamOf s i = some k ∧ functionLive s = true ∧ i < (img s).sleeves.length ∧ wf {} s.frames = true ∧
    wf {} s.sleeves = true ∧ v.stopped = true :=
  ⟨slv 2 (fun v => { v with stopped := true }) { runS with image := some { imgS with frames := [{ dst := 2, src := 0, recordBytes := 192 }] } },
    2, _, rfl, by decide⟩

-- clause 5
theorem witness_SleeveWriterStoresDropsOrStops_13 : ∃ (s : State) (i : Nat) (k : _),
    let v := sleeve s i
    let d := frameDecl s k
    frameStreamOf s i = some k ∧ functionLive s = true ∧ i < (img s).sleeves.length ∧ wf {} s.frames = true ∧
    wf {} s.sleeves = true ∧ v.stopped = false ∧ fits s i d.recordBytes = false :=
  ⟨slv 2 (fun v => { v with wcount := 8192 }) { runS with image := some { imgS with frames := [{ dst := 2, src := 0, recordBytes := 192 }] } },
    2, _, rfl, by decide⟩

-- clause 5
theorem witness_SleeveWriterStoresDropsOrStops_14 : ∃ (s : State) (i : Nat) (k : _),
    let v := sleeve s i
    let d := frameDecl s k
    frameStreamOf s i = some k ∧ functionLive s = true ∧ i < (img s).sleeves.length ∧ wf {} s.frames = true ∧
    wf {} s.sleeves = true ∧ v.stopped = false ∧ fits s i d.recordBytes = false ∧
    (sleeveDecl s i).kind = .continuous :=
  ⟨slv 3 (fun v => { v with wcount := 8192 }) { runS with image := some { imgS with frames := [{ dst := 3, src := 0, recordBytes := 192 }] } },
    3, _, rfl, by decide⟩

-- clause 5
theorem witness_SleeveWriterStoresDropsOrStops_15 : ∃ (s : State) (i : Nat) (k : _),
    let v := sleeve s i
    let d := frameDecl s k
    frameStreamOf s i = some k ∧ functionLive s = true ∧ i < (img s).sleeves.length ∧ wf {} s.frames = true ∧
    wf {} s.sleeves = true ∧ v.stopped = false ∧ fits s i d.recordBytes = false ∧
    (sleeveDecl s i).kind ≠ .continuous :=
  ⟨slv 2 (fun v => { v with wcount := 8192 }) { runS with image := some { imgS with frames := [{ dst := 2, src := 0, recordBytes := 192 }] } },
    2, _, rfl, by decide⟩

-- clause 6
theorem witness_SleeveWriterStoresDropsOrStops_16 : ∃ (s : State) (i : Nat) (k : _),
    channeliserOf s i = some k ∧ functionLive s = true ∧ i < (img s).sleeves.length ∧ frameStreamOf s i = none :=
  ⟨{ runS with image := some { imgS with frames := [{ dst := 4, src := 0 }, { channeliser := true, dst := 3, src := 0, binCount := 2 }] } },
    3, _, rfl, by decide⟩

/-! OpenTrafficServesReads -/

-- clauses 1, 2, 6, 8
theorem witness_OpenTrafficServesReads_1 : ∃ (s : State),
    bar2Open s = false ∧ s.store.table = false ∧ s.store.flights = [] :=
  ⟨State.reset, by decide⟩

-- clauses 3, 4, 11
set_option maxRecDepth 20000 in
theorem witness_OpenTrafficServesReads_2 : ∃ (s : State) (x : Nat) (n : Nat) (r : Nat),
    bar2Open s = true ∧ bar2Shows s x n = false ∧ tagFree s r = true ∧ tagWaits s r = true :=
  ⟨{ runS with store := { runS.store with queues := [(2, List.replicate 1024 ⟨0, 0, none, .core, true⟩ ++ [⟨0,0,none,.core,false⟩])] } },
    0x600000, 4097, 2, by decide⟩

-- clauses 5
theorem witness_OpenTrafficServesReads_3 : ∃ (s : State) (x : Nat) (n : Nat),
    bar2Open s = true ∧ bar2Shows s x n = true ∧ 0 < n ∧ x % 4096 + n ≤ 4096 :=
  ⟨linked (slv 3 (fun v => { v with hwm := 4096 }) runS), 0x600010, 4, by decide⟩

-- clauses 7
theorem witness_OpenTrafficServesReads_4 : ∃ (s : State),
    s.store.table = true :=
  ⟨{ runS with store := { runS.store with queues := [(2, [⟨0x600000, 64, none, .bar2 0x600010 4, true⟩])], turn := 2, turnUsed := 2 }, image := some { imgS with slots := { weights := [1,1,3,1,1,1] } } },
    by decide⟩

-- clause 9
theorem witness_OpenTrafficServesReads_5 : ∃ (s : State) (x : Nat) (n : Nat) (f : _) (rest : _),
    s.store.flights = f :: rest ∧ f.txn.purpose = .bar2 x n :=
  ⟨{ runS with store := { runS.store with flights := [⟨2, ⟨0x600000, 64, none, .bar2 0x600010 4, true⟩, [1,2,3,4]⟩] } },
    0x600010, 4, _, _, rfl, by decide⟩

/-- Requester 2 holds `n` tags. -/
def tagsS (n : Nat) : State :=
  { runS with store := { runS.store with queues := [(2, List.replicate n ⟨0, 0, none, .core, true⟩)] } }

theorem tagsHeld_tagsS (n r : Nat) : tagsHeld (tagsS n) r = if r = 2 then n else 0 := by
  by_cases h : r = 2
  · subst h; simp [tagsHeld, waiting, look, tagsS, runS, up, State.reset]
  · have h' : ¬ 2 = r := fun e => h e.symm
    simp [tagsHeld, waiting, look, tagsS, runS, up, State.reset, h, h']

-- clause 10
theorem witness_OpenTrafficServesReads_tags : ∃ (s : State) (r : Nat), tagFree s r = false :=
  ⟨tagsS 27648, 2, by
    simp only [tagFree, sharedInUse, List.range, List.range.loop, List.foldl, tagsHeld_tagsS]; decide⟩

/-! GatedSlotsHaveNoEffect -/

theorem witness_GatedSlotsHaveNoEffect_unprogrammed : ∃ (s : State) (e : Nat), (engine s e).programmed = false :=
  ⟨run0, 191, by decide⟩

theorem witness_GatedSlotsHaveNoEffect_gated : ∃ (s : State) (e : Nat) (q : Gate),
    (engine s e).programmed = true ∧ gateOpen (engine s e) q = false :=
  ⟨eng0 regs0, 0, { pred := 7 }, by decide⟩

/-! VectorAluResults -/

-- clauses 1, 2, 3, 4, 5, 6, 7, 8, 9
theorem witness_VectorAluResults_1 : ∃ (s : State) (e : Nat) (q : Gate),
    (engine s e).programmed = true ∧ gateOpen (engine s e) q = true :=
  ⟨eng0 regs0, 0, {}, by decide⟩

-- clause 10
theorem witness_VectorAluResults_2 : ∃ (s : State) (e : Nat) (q : Gate) (f : AluForm),
    (engine s e).programmed = true ∧ gateOpen (engine s e) q = true ∧ f.h = false :=
  ⟨eng0 regs0, 0, {}, { d := 4, a := 1, b := 2 }, by decide⟩

/-! ScalarAndPredicateAluResults -/

-- clauses 1, 2, 3, 4, 5, 6, 7, 8, 9, 10, 11, 12, 13, 14, 15, 16, 17, 18, 19, 20, 21, 22
theorem witness_ScalarAndPredicateAluResults_1 : ∃ (s : State) (e : Nat) (q : Gate),
    (engine s e).programmed = true ∧ gateOpen (engine s e) q = true :=
  ⟨eng0 regs0, 0, {}, by decide⟩

/-! MultiplyAccumulate -/

-- clauses 1, 2, 3, 4, 5, 6, 8
theorem witness_MultiplyAccumulate_1 : ∃ (s : State) (e : Nat) (q : Gate) (f : MacForm),
    (engine s e).programmed = true ∧ gateOpen (engine s e) q = true ∧ f.vb < 16 :=
  ⟨eng0 regs0, 0, {}, { vd := 4, va := 1, vb := 2 }, by decide⟩

-- clauses 7
theorem witness_MultiplyAccumulate_2 : ∃ (s : State) (e : Nat) (q : Gate) (f : MacForm),
    (engine s e).programmed = true ∧ gateOpen (engine s e) q = true ∧ 16 ≤ f.vb :=
  ⟨eng0 regs0, 0, {}, { vd := 4, va := 2, vb := 17, neg := true, conj := true, ac := 0 }, by decide⟩

-- clause 9
theorem witness_MultiplyAccumulate_3 : ∃ (s : State) (e : Nat) (q : Gate) (w : _),
    f32.negative w = false ∧ f32.special w = false ∧ (engine s e).programmed = true ∧
    gateOpen (engine s e) q = true ∧ fld w 23 8 ≠ 0 :=
  ⟨eng0 regs0, 0, {}, 0x3F800000, by decide⟩

-- clause 10
theorem witness_MultiplyAccumulate_4 : ∃ (s : State) (e : Nat) (q : Gate) (w : _),
    (f32.negative w = true ∧ w ≠ 2 ^ 31 ∨ f32.special w = true) ∧ (engine s e).programmed = true ∧
    gateOpen (engine s e) q = true :=
  ⟨eng0 regs0, 0, {}, 0xBF800000, by decide⟩

-- clause 11
theorem witness_MultiplyAccumulate_5 : ∃ (s : State) (e : Nat) (q : Gate) (w : _),
    f32.negative w = false ∧ fld w 23 8 = 0 ∧ (engine s e).programmed = true ∧ gateOpen (engine s e) q = true :=
  ⟨eng0 regs0, 0, {}, 0x7FFFFF, by decide⟩

/-! LoadsStoresAndStreams -/

-- clauses 1, 3, 4, 5, 6, 7, 8, 9, 10, 13
theorem witness_LoadsStoresAndStreams_1 : ∃ (s : State) (e : Nat) (st : Nat) (q : Gate),
    (engine s e).programmed = true ∧ gateOpen (engine s e) q = true ∧ nextEntry s e st = none :=
  ⟨eng0 regs0, 0, 0, {}, by decide⟩

-- clause 2
theorem witness_LoadsStoresAndStreams_2 : ∃ (s : State) (e : Nat) (q : Gate) (f : LsForm),
    (engine s e).programmed = true ∧ gateOpen (engine s e) q = true ∧ f.f = false :=
  ⟨eng0 regs0, 0, {}, { reg := 1, xa := 1, off := 5 }, by decide⟩

-- clause 11
theorem witness_LoadsStoresAndStreams_3 : ∃ (s : State) (e : Nat) (q : Gate),
    let g := engine s e
    (engine s e).programmed = true ∧ gateOpen (engine s e) q = true ∧
    (∀ x, x ∈ g.stores → s.time.cycle < x.cycle + 2) :=
  ⟨eng0 regs0, 0, {}, by decide⟩

-- clause 12
theorem witness_LoadsStoresAndStreams_4 : ∃ (s : State) (e : Nat) (st : Nat) (q : Gate) (b : _),
    let g := engine s e
    g.incoming.find? (fun b => b.stream == st) = some b ∧ (engine s e).programmed = true ∧
    gateOpen (engine s e) q = true :=
  ⟨eng0 { regs0 with incoming := [⟨5, 4000, 64, [1,2], .corrected 8⟩] }, 0, 5, {}, _, rfl,
    by decide⟩

-- clause 14
theorem witness_LoadsStoresAndStreams_5 : ∃ (s : State) (e : Nat) (st : Nat) (q : Gate) (x : _),
    nextEntry s e st = some x ∧ (engine s e).programmed = true ∧ gateOpen (engine s e) q = true :=
  ⟨{ eng0 regs0 with image := some { engines := [{ engine := 0, schedule := [⟨5, 64, 4, 2⟩, ⟨6, 64, 4, 2⟩] }], slots := { streams := List.replicate 8 {} } } },
    0, 5, {}, _, rfl, by decide⟩

/-! ControlSlots -/

-- clauses 4, 5, 6, 10, 11, 12, 13, 14
theorem witness_ControlSlots_1 : ∃ (s : State) (e : Nat) (q : Gate) (f : LoopForm),
    let g := engine s e
    (engine s e).programmed = true ∧ gateOpen (engine s e) q = true ∧ g.inDelay = false ∧ f.last = 0 :=
  ⟨eng0 regs0, 0, {}, { lc := 1, last := 0 }, by decide⟩

-- clauses 1, 2, 3
theorem witness_ControlSlots_2 : ∃ (s : State) (e : Nat) (q : Gate),
    let g := engine s e
    (engine s e).programmed = true ∧ gateOpen (engine s e) q = true ∧ g.inDelay = true :=
  ⟨eng0 { regs0 with inDelay := true }, 0, {}, by decide⟩

-- clauses 7
theorem witness_ControlSlots_3 : ∃ (s : State) (e : Nat) (q : Gate) (f : LoopForm),
    let g := engine s e
    let k := if f.cs then (readX g (f.xs % 16)).toNat else f.imm
    (engine s e).programmed = true ∧ gateOpen (engine s e) q = true ∧ g.inDelay = false ∧ f.last ≠ 0 ∧ k = 0 :=
  ⟨eng0 regs0, 0, {}, { lc := 1, last := 3, imm := 0 }, by decide⟩

-- clauses 8
theorem witness_ControlSlots_4 : ∃ (s : State) (e : Nat) (q : Gate) (f : LoopForm),
    let g := engine s e
    let k := if f.cs then (readX g (f.xs % 16)).toNat else f.imm
    (engine s e).programmed = true ∧ gateOpen (engine s e) q = true ∧ g.inDelay = false ∧ f.last ≠ 0 ∧ k ≠ 0 ∧
    f.rot = false :=
  ⟨eng0 regs0, 0, {}, { lc := 1, last := 3, imm := 3 }, by decide⟩

-- clauses 9
theorem witness_ControlSlots_5 : ∃ (s : State) (e : Nat) (q : Gate) (f : LoopForm),
    let g := engine s e
    let k := if f.cs then (readX g (f.xs % 16)).toNat else f.imm
    (engine s e).programmed = true ∧ gateOpen (engine s e) q = true ∧ g.inDelay = false ∧ f.last ≠ 0 ∧ k ≠ 0 ∧
    f.rot = true :=
  ⟨eng0 { regs0 with loops := [⟨1, 0, 5, none⟩, ⟨0, 0, 5, none⟩], p := [(1, true), (5, true)] }, 0, {},
    { lc := 1, last := 3, cs := true, xs := 2, rot := true, drain := 3 }, by decide⟩

/-! ResultsWordsAndIssue -/

-- clauses 1, 4, 6, 9, 11
theorem witness_ResultsWordsAndIssue_1 : ∃ (s : State) (e : Nat) (q : Gate) (x : XchForm),
    let g := engine s e
    let opened := g.programmed = true ∧ gateOpen g q = true
    g.landings = [] ∧ s.eng.words = [] ∧ opened ∧ routeDecl s x.route = none ∧ exitDue g = false :=
  ⟨eng0 regs0, 0, {}, {}, by decide⟩

-- clauses 2
theorem witness_ResultsWordsAndIssue_2 : ∃ (s : State) (e : Nat) (l : Landing),
    let g := engine s e
    g.landings = [l] ∧ l.dest ≠ .clearFlags :=
  ⟨eng0 { regs0 with landings := [⟨3, 0, .x 2, 5, 2⟩] }, 0, ⟨3, 0, .x 2, 5, 2⟩, by decide⟩

-- clauses 5
theorem witness_ResultsWordsAndIssue_3 : ∃ (s : State) (e : Nat) (w : XchWord),
    s.eng.words = [w] ∧ w.engine = e :=
  ⟨{ eng0 regs0 with eng := { (eng0 regs0).eng with words := [⟨5, 0, 1, 5⟩] } }, 0, ⟨5, 0, 1, 5⟩, by decide⟩

-- clauses 8
theorem witness_ResultsWordsAndIssue_4 : ∃ (s : State) (e : Nat) (q : Gate) (x : XchForm),
    let g := engine s e
    let opened := g.programmed = true ∧ gateOpen g q = true
    opened ∧ 16 ≤ x.reg :=
  ⟨{ eng0 regs0 with image := some { routes := [{ src := 1, dst := 1, hops := 3 }] } }, 0, {}, { reg := 16 },
    by decide⟩

-- clause 3
theorem witness_ResultsWordsAndIssue_5 : ∃ (l : Landing) (v : _) (d : _) (f : _),
    l = { l with dest := .v d, value := v, flags := f } :=
  ⟨⟨3, 7, .v 2, 5, 2⟩, _, _, _, rfl⟩

-- clause 3
theorem witness_ResultsWordsAndIssue_6 : ∃ (l : Landing) (v : _) (d : _) (f : _),
    l = { l with dest := .x d, value := v, flags := f } :=
  ⟨⟨3, 0, .x 2, 5, 1⟩, _, _, _, rfl⟩

-- clause 7
theorem witness_ResultsWordsAndIssue_7 : ∃ (s : State) (e : Nat) (q : Gate) (x : XchForm) (r : _),
    let g := engine s e
    let opened := g.programmed = true ∧ gateOpen g q = true
    let mine := fun r : RouteDecl => r.src = e ∧ engineCycle s % 2 ^ r.intervalLog2 = r.phase
    routeDecl s x.route = some r ∧ opened ∧ mine r :=
  ⟨{ eng0 regs0 with image := some { routes := [{ src := 0, dst := 1, hops := 3 }] } }, 0, {}, { reg := 1 }, _, rfl,
    by decide⟩

-- clause 7
theorem witness_ResultsWordsAndIssue_8 : ∃ (s : State) (e : Nat) (q : Gate) (x : XchForm) (r : _),
    let g := engine s e
    let opened := g.programmed = true ∧ gateOpen g q = true
    let mine := fun r : RouteDecl => r.src = e ∧ engineCycle s % 2 ^ r.intervalLog2 = r.phase
    routeDecl s x.route = some r ∧ opened ∧ mine r ∧ x.reg < 16 :=
  ⟨{ eng0 regs0 with image := some { routes := [{ src := 0, dst := 1, hops := 3 }] } }, 0, {}, { reg := 1 }, _, rfl,
    by decide⟩

-- clause 7
theorem witness_ResultsWordsAndIssue_9 : ∃ (s : State) (e : Nat) (q : Gate) (x : XchForm) (r : _),
    let g := engine s e
    let opened := g.programmed = true ∧ gateOpen g q = true
    let mine := fun r : RouteDecl => r.src = e ∧ engineCycle s % 2 ^ r.intervalLog2 = r.phase
    routeDecl s x.route = some r ∧ opened ∧ ¬ mine r :=
  ⟨{ eng0 regs0 with image := some { routes := [{ src := 1, dst := 1, hops := 3 }] } }, 0, {}, { reg := 1 }, _, rfl,
    by decide⟩

-- clause 10
theorem witness_ResultsWordsAndIssue_10 : ∃ (s : State) (e : Nat) (b : _) (r : _) (rest : _),
    let g := engine s e
    g.issued = some b ∧ loopsAt g b = r :: rest ∧ look 0 g.lc r.lc ≤ 1 :=
  ⟨eng0 { regs0 with issued := some 5, loops := [⟨1, 2, 5, none⟩, ⟨0, 2, 5, none⟩], lc := [(1, 1)] }, 0, _, _, _,
    rfl, rfl, by decide⟩

-- clause 10
theorem witness_ResultsWordsAndIssue_11 : ∃ (s : State) (e : Nat) (b : _) (r : _) (rest : _),
    let g := engine s e
    let exited := { g with
        lc := put 0 r.lc 0 g.lc, loops := dropLoop r.lc g.loops, pc := b + 1
        rofs := if r.staged.isSome then (g.rofs + 1) % 32 else g.rofs }
    g.issued = some b ∧ loopsAt g b = r :: rest ∧ look 0 g.lc r.lc ≤ 1 ∧ exitDue exited = false :=
  ⟨eng0 { regs0 with issued := some 5, rofs := 31, loops := [⟨1, 2, 5, some (3, 2)⟩, ⟨0, 2, 4, none⟩], lc := [(1, 1)] },
    0, _, _, _, rfl, rfl, by decide⟩

-- clause 12
theorem witness_ResultsWordsAndIssue_words : ∃ (s : State) (e d : Nat), (∃ v ∈ s.eng.words, v.engine = e ∧
    v.due = d) ∧
    ∀ v ∈ s.eng.words, v.engine = e → d ≤ v.due :=
  ⟨{ eng0 regs0 with eng := { (eng0 regs0).eng with words := [⟨7, 0, 1, 5⟩, ⟨5, 0, 1, 6⟩, ⟨5, 1, 1, 5⟩, ⟨5, 0, 2, 9⟩] } },
    0, 5,
    by decide⟩

/-! FramesTracesAndPlanes -/

-- clauses 1, 4, 6, 7, 9, 11
theorem witness_FramesTracesAndPlanes_1 : ∃ (s : State) (k : Nat) (p : Nat) (j : Nat),
    let f := frameStream s k
    let d := frameDecl s k
    let x := traceOf s k
    let y := planeOf s p
    wf {} s.planes = true ∧ wf {} s.traces = true ∧ wf {} s.frames = true ∧ functionLive s = true ∧
    (d.channeliser = true ∨ d.recordBytes < 128 ∨ f.left ≠ 0 ∨ f.buf.length < 128) ∧ f.readTo ≤ j ∧
    (traceDecl s k = none ∨ x.ready = true ∨ (∀ t, traceDecl s k = some t → recordReady s t.stream x.readRecords = false)) ∧
    (traceDecl s k = none ∨ x.ready = false) ∧
    (planeDecl s p = none ∨ y.ready = true ∨ (∀ t, planeDecl s p = some t → recordReady s t.stream y.readRecords = false)) ∧
    y.ready = false :=
  ⟨runF, 0, 0, 1, by decide⟩

-- clauses 2
set_option maxRecDepth 20000 in
theorem witness_FramesTracesAndPlanes_2 : ∃ (s : State) (k : Nat),
    let f := frameStream s k
    let d := frameDecl s k
    wf {} s.planes = true ∧ wf {} s.traces = true ∧ wf {} s.frames = true ∧ functionLive s = true ∧
    d.channeliser = false ∧ 128 < d.recordBytes ∧ f.left = 0 ∧ 128 ≤ f.buf.length :=
  ⟨{ runF with frames := [(0, { buf := List.replicate 200 1, next := 3 })] }, 0, by dsimp only; decide⟩

-- clauses 12
theorem witness_FramesTracesAndPlanes_3 : ∃ (s : State) (p : Nat),
    let y := planeOf s p
    wf {} s.planes = true ∧ wf {} s.traces = true ∧ wf {} s.frames = true ∧ functionLive s = true ∧ y.ready = true ∧
    y.pass = none :=
  ⟨pl0 { ready := true, exposure := 4, active := [(1, 2)] } runF, 0, by decide⟩

-- clauses 13
theorem witness_FramesTracesAndPlanes_4 : ∃ (s : State) (p : Nat),
    let y := planeOf s p
    wf {} s.planes = true ∧ wf {} s.traces = true ∧ wf {} s.frames = true ∧ functionLive s = true ∧ y.ready = true ∧
    y.pass.isSome = true :=
  ⟨pl0 { ready := true, exposure := 4, active := [(1, 2)], pass := some cp0 } runF, 0, by decide⟩

-- clauses 3
theorem witness_FramesTracesAndPlanes_5 : ∃ (s : State) (k : Nat) (j : Nat),
    let f := frameStream s k
    wf {} s.planes = true ∧ wf {} s.traces = true ∧ wf {} s.frames = true ∧ functionLive s = true ∧ j < f.readTo :=
  ⟨{ runF with frames := [(0, { readTo := 2 })] }, 0, 1, by decide⟩

-- clause 5
theorem witness_FramesTracesAndPlanes_6 : ∃ (s : State) (k : Nat) (t : _),
    let x := traceOf s k
    let bsT := fun t : TraceDecl => frameRecord s t.stream x.readRecords
    traceDecl s k = some t ∧ recordReady s t.stream x.readRecords = true ∧ wf {} s.planes = true ∧
    wf {} s.traces = true ∧ wf {} s.frames = true ∧ functionLive s = true ∧ x.ready = false ∧
    recNumber (bsT t) < t.firstFrame :=
  ⟨recorded 0 0 runF, 0, _, rfl, by decide⟩

-- clause 5
theorem witness_FramesTracesAndPlanes_7 : ∃ (s : State) (k : Nat) (t : _),
    let x := traceOf s k
    let bsT := fun t : TraceDecl => frameRecord s t.stream x.readRecords
    let endT := fun t : TraceDecl => t.firstFrame + x.interval * t.interval + t.interval - 1
    traceDecl s k = some t ∧ recordReady s t.stream x.readRecords = true ∧ wf {} s.planes = true ∧
    wf {} s.traces = true ∧ wf {} s.frames = true ∧ functionLive s = true ∧ x.ready = false ∧
    t.firstFrame ≤ recNumber (bsT t) ∧ endT t < recNumber (bsT t) :=
  ⟨recorded 3 0 runF, 0, _, rfl, by decide⟩

-- clause 5
theorem witness_FramesTracesAndPlanes_8 : ∃ (s : State) (k : Nat) (t : _),
    let x := traceOf s k
    let bsT := fun t : TraceDecl => frameRecord s t.stream x.readRecords
    let endT := fun t : TraceDecl => t.firstFrame + x.interval * t.interval + t.interval - 1
    traceDecl s k = some t ∧ recordReady s t.stream x.readRecords = true ∧ wf {} s.planes = true ∧
    wf {} s.traces = true ∧ wf {} s.frames = true ∧ functionLive s = true ∧ x.ready = false ∧
    t.firstFrame ≤ recNumber (bsT t) ∧ recNumber (bsT t) ≤ endT t :=
  ⟨recorded 1 0 runF, 0, _, rfl, by decide⟩

-- clause 8
theorem witness_FramesTracesAndPlanes_9 : ∃ (s : State) (k : Nat) (t : _),
    let x := traceOf s k
    traceDecl s k = some t ∧ wf {} s.planes = true ∧ wf {} s.traces = true ∧ wf {} s.frames = true ∧
    functionLive s = true ∧ x.ready = true :=
  ⟨tr0 { ready := true, interval := 4, peak := [(1,2)] } (recorded 3 0 runF), 0, _, rfl,
    by decide⟩

-- clause 10
theorem witness_FramesTracesAndPlanes_10 : ∃ (s : State) (p : Nat) (t : _),
    let y := planeOf s p
    let bsP := fun t : PlaneDecl => frameRecord s t.stream y.readRecords
    planeDecl s p = some t ∧ recordReady s t.stream y.readRecords = true ∧ wf {} s.planes = true ∧
    wf {} s.traces = true ∧ wf {} s.frames = true ∧ functionLive s = true ∧ y.ready = false ∧
    recNumber (bsP t) < t.firstFrame :=
  ⟨recorded 0 0 runF, 0, _, rfl, by decide⟩

-- clause 10
theorem witness_FramesTracesAndPlanes_11 : ∃ (s : State) (p : Nat) (t : _),
    let y := planeOf s p
    let bsP := fun t : PlaneDecl => frameRecord s t.stream y.readRecords
    let endP := fun t : PlaneDecl => t.firstFrame + y.exposure * t.exposure + t.exposure - 1
    planeDecl s p = some t ∧ recordReady s t.stream y.readRecords = true ∧ wf {} s.planes = true ∧
    wf {} s.traces = true ∧ wf {} s.frames = true ∧ functionLive s = true ∧ y.ready = false ∧
    t.firstFrame ≤ recNumber (bsP t) ∧ endP t < recNumber (bsP t) :=
  ⟨recorded 3 0 runF, 0, _, rfl, by decide⟩

-- clause 10
theorem witness_FramesTracesAndPlanes_12 : ∃ (s : State) (p : Nat) (t : _),
    let y := planeOf s p
    let bsP := fun t : PlaneDecl => frameRecord s t.stream y.readRecords
    let endP := fun t : PlaneDecl => t.firstFrame + y.exposure * t.exposure + t.exposure - 1
    planeDecl s p = some t ∧ recordReady s t.stream y.readRecords = true ∧ wf {} s.planes = true ∧
    wf {} s.traces = true ∧ wf {} s.frames = true ∧ functionLive s = true ∧ y.ready = false ∧
    t.firstFrame ≤ recNumber (bsP t) ∧ recNumber (bsP t) ≤ endP t :=
  ⟨recorded 1 0 runF, 0, _, rfl, by decide⟩

-- clause 14
theorem witness_FramesTracesAndPlanes_13 : ∃ (s : State) (p : Nat) (t : _) (c : _),
    let y := planeOf s p
    planeDecl s p = some t ∧ y.pass = some c ∧ c.started = false ∧ wf {} s.planes = true ∧ wf {} s.traces = true ∧
    wf {} s.frames = true ∧ functionLive s = true ∧ copyRuns s = false :=
  ⟨pl0 { ready := true, exposure := 4, active := [(1, 2)], pass := some cp0 } runF, 0, _, _, rfl, rfl,
    by decide⟩

-- clause 14
theorem witness_FramesTracesAndPlanes_14 : ∃ (s : State) (p : Nat) (t : _) (c : _),
    let y := planeOf s p
    planeDecl s p = some t ∧ y.pass = some c ∧ c.started = true ∧ (c.writing = false ∨ densityWaits s p = false) ∧
    wf {} s.planes = true ∧ wf {} s.traces = true ∧ wf {} s.frames = true ∧ functionLive s = true :=
  ⟨pl0 { exposure := 4, active := [(1, 2)], pass := some { cp0 with started := true }, copyBuf := [(2, 0xFFFFFFFF)] } runF,
    0, _, _, rfl, rfl, by decide⟩

-- clause 14
theorem witness_FramesTracesAndPlanes_15 : ∃ (s : State) (p : Nat) (t : _) (c : _),
    let y := planeOf s p
    planeDecl s p = some t ∧ y.pass = some c ∧ c.started = true ∧ c.writing = true ∧ wf {} s.planes = true ∧
    wf {} s.traces = true ∧ wf {} s.frames = true ∧ functionLive s = true ∧ densityWaits s p = true :=
  ⟨pl0 { exposure := 4, pass := some { cp0 with started := true, writing := true } } { runF with store := { runF.store with queues := [(4, [⟨0, 0, some [], .denCopy 0, true⟩])] } },
    0, _, _, rfl, rfl, by decide⟩

/-! ContextRowsRecordsAndFallback -/

-- clauses 1, 5, 6, 8, 10, 12, 14, 16, 18
theorem witness_ContextRowsRecordsAndFallback_1 : ∃ (s : State) (c : Nat) (d : ContextDecl),
    let x := ctxOf s c
    let rb := 8 * d.stride
    let q := x.stored * rb
    ctxDecl s c = some d ∧ functionLive s = true ∧ wf {} s.ctxs = true ∧ rowReady s d x = false ∧
    ctxLoss s d x = none ∧ (rowTorn s d x.row = false ∨ landedAt s d.src (q + 8 * (d.stride - 1)) = none) ∧
    (x.settled = true ∨ x.resetDue = true ∨ x.out < settleLen d x.stages) ∧ (x.fade = none ∨ ∃ f, x.fade = some f ∧
    f.pos < d.xfLen) ∧ (x.detCount < x.detInterval ∨ x.detCount = 0) ∧ x.iq.length < d.recordFill ∧
    x.queue.find? (fun r => !r.offered) = none ∧ (x.fallback = true ∨ x.queue = [] ∨ ∃ r, x.queue.head? = some r ∧
    s.time.cycle < r.born + 1280 * d.toleranceUs) ∧
    (x.fallback = false ∨ x.queue ≠ [] ∨ recordFits s d.dst 1024 = false ∨ fits s d.dst 1024 = false) :=
  ⟨runF, 5, (imgF.contexts.getD 0 {}), by decide⟩

-- clauses 7
theorem witness_ContextRowsRecordsAndFallback_2 : ∃ (s : State) (c : Nat) (d : ContextDecl),
    let x := ctxOf s c
    ctxDecl s c = some d ∧ functionLive s = true ∧ wf {} s.ctxs = true ∧ x.settled = false ∧ x.resetDue = false ∧
    settleLen d x.stages ≤ x.out :=
  ⟨ctx5 { stages := [⟨4,1,[],0⟩], resetDue := false, out := 6 } runF, 5, (imgF.contexts.getD 0 {}),
    by decide⟩

-- clauses 11
theorem witness_ContextRowsRecordsAndFallback_3 : ∃ (s : State) (c : Nat) (d : ContextDecl),
    let x := ctxOf s c
    ctxDecl s c = some d ∧ functionLive s = true ∧ wf {} s.ctxs = true ∧ x.detInterval ≤ x.detCount ∧
    x.detCount ≠ 0 :=
  ⟨ctx5 { detCount := 3, detInterval := 3, detSum := 5, detPeak := 5 } runF, 5, (imgF.contexts.getD 0 {}),
    by decide⟩

-- clauses 13
theorem witness_ContextRowsRecordsAndFallback_4 : ∃ (s : State) (c : Nat) (d : ContextDecl),
    let x := ctxOf s c
    ctxDecl s c = some d ∧ functionLive s = true ∧ wf {} s.ctxs = true ∧ d.recordFill ≤ x.iq.length :=
  ⟨ctx5 { detCount := 2, detInterval := 3, iq := [(1,2),(3,4)] } runF, 5, (imgF.contexts.getD 0 {}),
    by decide⟩

-- clauses 19
theorem witness_ContextRowsRecordsAndFallback_5 : ∃ (s : State) (c : Nat) (d : ContextDecl),
    let x := ctxOf s c
    ctxDecl s c = some d ∧ functionLive s = true ∧ wf {} s.ctxs = true ∧ x.fallback = true ∧ x.queue = [] ∧
    recordFits s d.dst 1024 = true ∧ fits s d.dst 1024 = true :=
  ⟨ctx5 { fallback := true, iq := [(1,1)] } runF, 5, (imgF.contexts.getD 0 {}), by decide⟩

-- clauses 2
theorem witness_ContextRowsRecordsAndFallback_6 : ∃ (s : State) (c : Nat) (d : ContextDecl),
    let x := ctxOf s c
    ctxDecl s c = some d ∧ functionLive s = true ∧ wf {} s.ctxs = true ∧ rowReady s d x = true :=
  ⟨slv 2 (fun v => { v with wcount := 80, readers := [(0, { count := 80, landed := [(0, List.replicate 80 1)] })] }) (ctx5 { stages := [⟨4,1,[],0⟩], resetDue := false, tw := 2^40, phase := 2^47, row := 7, stored := 0 } runF),
    5, (imgF.contexts.getD 0 {}), by decide⟩

-- clauses 4
theorem witness_ContextRowsRecordsAndFallback_7 : ∃ (s : State) (c : Nat) (d : ContextDecl),
    let x := ctxOf s c
    let rb := 8 * d.stride
    let q := x.stored * rb
    ctxDecl s c = some d ∧ functionLive s = true ∧ wf {} s.ctxs = true ∧ ctxLoss s d x = none ∧
    rowTorn s d x.row = true ∧ (landedAt s d.src (q + 8 * (d.stride - 1))).isSome = true :=
  ⟨{ slv 0 (fun v => { v with anchors := [(5000, 6000), (5, 5000), (0, 1024)] }) (slv 2 (fun v => { v with wcount := 80, readers := [(0, { count := 80, landed := [(0, List.replicate 80 1)] })] }) (ctx5 { stages := [⟨4,1,[],0⟩], resetDue := false, tw := 2^40, phase := 2^47, row := 0, stored := 0 } runF)) with image := some { imgF with frames := [{ channeliser := true, src := 0, dst := 2, binCount := 2, hop := 512 }] } },
    5, (imgF.contexts.getD 0 {}), by decide⟩

-- clause 3
theorem witness_ContextRowsRecordsAndFallback_8 : ∃ (s : State) (c : Nat) (d : ContextDecl) (l : _),
    let x := ctxOf s c
    ctxLoss s d x = some l ∧ ctxDecl s c = some d ∧ functionLive s = true ∧ wf {} s.ctxs = true :=
  ⟨slv 2 (fun v => { v with wcount := 80, readers := [(0, { count := 80, losses := [⟨0, 50, 0⟩] })] }) (ctx5 { stages := [⟨4,1,[],0⟩], resetDue := false, tw := 2^40, phase := 2^47, row := 7, stored := 0 } runF),
    5, (imgF.contexts.getD 0 {}), _, rfl, by decide⟩

-- clause 9
theorem witness_ContextRowsRecordsAndFallback_9 : ∃ (s : State) (c : Nat) (d : ContextDecl) (f : _),
    let x := ctxOf s c
    x.fade = some f ∧ ctxDecl s c = some d ∧ functionLive s = true ∧ wf {} s.ctxs = true ∧ d.xfLen ≤ f.pos :=
  ⟨ctx5 { fade := some ⟨0, 1, 16⟩, heldBank := some 0, heldCoefs := [(0,0,0,5),(1,0,0,6)] } runF, 5,
    (imgF.contexts.getD 0 {}), _, rfl, by decide⟩

-- clause 15
theorem witness_ContextRowsRecordsAndFallback_10 : ∃ (s : State) (c : Nat) (d : ContextDecl) (r : _),
    let x := ctxOf s c
    x.queue.find? (fun r => !r.offered) = some r ∧
    (r.held = true ∨ recordFits s d.dst 256 = false ∨ fits s d.dst 256 = false) ∧ ctxDecl s c = some d ∧
    functionLive s = true ∧ wf {} s.ctxs = true :=
  ⟨ctx5 { queue := [⟨[1], 0, 0, false, false, true⟩, ⟨[2], 0, 0, false, false, false⟩] } { runF with image := some { imgF with sleeves := imgF.sleeves.take 3 ++ [{ base := 0, granules := 0, readers := [{ unit := 0x13, guarded := true }] }] }, sleeves := [] },
    5, (imgF.contexts.getD 0 {}), _, rfl, by decide⟩

-- clause 15
theorem witness_ContextRowsRecordsAndFallback_11 : ∃ (s : State) (c : Nat) (d : ContextDecl) (r : _),
    let x := ctxOf s c
    x.queue.find? (fun r => !r.offered) = some r ∧ r.held = false ∧ ctxDecl s c = some d ∧ functionLive s = true ∧
    wf {} s.ctxs = true ∧ recordFits s d.dst 256 = true ∧ fits s d.dst 256 = true :=
  ⟨ctx5 { queue := [⟨[1], 0, 0, false, false, true⟩, ⟨[2], 0, 0, false, false, false⟩] } runF, 5,
    (imgF.contexts.getD 0 {}), _, rfl, by decide⟩

-- clause 17
theorem witness_ContextRowsRecordsAndFallback_12 : ∃ (s : State) (c : Nat) (d : ContextDecl) (r : _),
    let x := ctxOf s c
    x.queue.head? = some r ∧ ctxDecl s c = some d ∧ functionLive s = true ∧ wf {} s.ctxs = true ∧
    x.fallback = false ∧ r.born + 1280 * d.toleranceUs ≤ s.time.cycle :=
  ⟨ctx5 { queue := [⟨[1], 0, 0, false, false, true⟩, ⟨[2], 0, 0, false, false, false⟩] } runF, 5,
    (imgF.contexts.getD 0 {}), _, rfl, by decide⟩

/-! TriggerGroupsAndCaptures -/

-- clauses 1, 5, 7, 14, 15, 17, 18
theorem witness_TriggerGroupsAndCaptures_1 : ∃ (s : State) (g : Nat) (k : Nat) (d : GroupDecl),
    let x := group s g
    g < 16 ∧ groupDecl s g = some d ∧ running s = true ∧ functionLive s = true ∧ wf {} s.trig.groups = true ∧
    x.state = .disarmed ∧ x.state ≠ .capturing ∧ x.state ≠ .provisional ∧
    (x.state ≠ .holdoff ∨ now s < x.stopTime ∨ 64 ≤ x.notices.length ∨ ∃ c, x.capture = some c ∧
      (now s < c.trig.time / 256 + c.holdoff ∨ x.misses < c.holdoffEvents)) ∧ x.inbox[k]? = none :=
  ⟨runG, 0, 1, (imgG.groups.getD 0 {}), by decide⟩

-- clauses 2, 4, 8
theorem witness_TriggerGroupsAndCaptures_2 : ∃ (s : State) (g : Nat) (d : GroupDecl),
    let x := group s g
    g < 16 ∧ groupDecl s g = some d ∧ running s = true ∧ functionLive s = true ∧ wf {} s.trig.groups = true ∧
    x.state = .armed ∧ x.tArm ≤ now s ∧ d.dest ≠ .none :=
  ⟨grp 0 { state := .armed, tArm := 5 } runG, 0, (imgG.groups.getD 0 {}), by decide⟩

-- clauses 3, 6, 10
theorem witness_TriggerGroupsAndCaptures_3 : ∃ (s : State) (g : Nat) (d : GroupDecl),
    let x := group s g
    g < 16 ∧ groupDecl s g = some d ∧ running s = true ∧ functionLive s = true ∧ wf {} s.trig.groups = true ∧
    x.state ≠ .disarmed ∧ x.state ≠ .armed :=
  ⟨grp 0 { state := .capturing, capture := some (cap0 none) } runG, 0, (imgG.groups.getD 0 {}),
    by decide⟩

-- clauses 9
theorem witness_TriggerGroupsAndCaptures_4 : ∃ (s : State) (g : Nat) (d : GroupDecl),
    let x := group s g
    g < 16 ∧ groupDecl s g = some d ∧ running s = true ∧ functionLive s = true ∧ wf {} s.trig.groups = true ∧
    x.state = .armed ∧ x.tArm ≤ now s ∧ d.dest = .none :=
  ⟨grp 1 { state := .armed, tArm := 5 } runG, 1, (imgG.groups.getD 1 {}), by decide⟩

-- clause 11
theorem witness_TriggerGroupsAndCaptures_5 : ∃ (s : State) (g : Nat) (d : GroupDecl) (c : _) (h : _),
    let x := group s g
    x.capture = some c ∧ c.hem = some h ∧ samplesPast s (c.trig.time / 256 + h) = true ∧ g < 16 ∧
    groupDecl s g = some d ∧ running s = true ∧ functionLive s = true ∧ wf {} s.trig.groups = true ∧
    x.state = .capturing :=
  ⟨grp 0 { state := .capturing, capture := some (cap0 (some 48)) } runG, 0, (imgG.groups.getD 0 {}), _, _, rfl, rfl,
    by decide⟩

-- clause 11
theorem witness_TriggerGroupsAndCaptures_6 : ∃ (s : State) (g : Nat) (d : GroupDecl) (c : _) (h : _),
    let x := group s g
    x.capture = some c ∧ c.hem = some h ∧ g < 16 ∧ groupDecl s g = some d ∧ running s = true ∧
    functionLive s = true ∧ wf {} s.trig.groups = true ∧ x.state = .capturing ∧
    cycleBase s + 16 < c.trig.time / 256 + h :=
  ⟨grp 0 { state := .capturing, capture := some (cap0 (some 100)) } runG, 0, (imgG.groups.getD 0 {}), _, _, rfl,
    rfl, by decide⟩

-- clause 11
theorem witness_TriggerGroupsAndCaptures_7 : ∃ (s : State) (g : Nat) (d : GroupDecl) (c : _),
    let x := group s g
    x.capture = some c ∧ c.hem = none ∧ g < 16 ∧ groupDecl s g = some d ∧ running s = true ∧ functionLive s = true ∧
    wf {} s.trig.groups = true ∧ x.state = .capturing :=
  ⟨grp 0 { state := .capturing, capture := some (cap0 none) } runG, 0, (imgG.groups.getD 0 {}), _, rfl,
    by decide⟩

-- clause 11
theorem witness_TriggerGroupsAndCaptures_8 : ∃ (s : State) (g : Nat) (d : GroupDecl) (c : _) (h : _),
    let x := group s g
    x.capture = some c ∧ c.hem = some h ∧ g < 16 ∧ groupDecl s g = some d ∧ running s = true ∧
    functionLive s = true ∧ wf {} s.trig.groups = true ∧ x.state = .capturing ∧
    c.trig.time / 256 + h ≤ cycleBase s :=
  ⟨grp 0 { state := .capturing, capture := some (cap0 (some 48)) } runG, 0, (imgG.groups.getD 0 {}), _, _, rfl, rfl,
    by decide⟩

-- clause 11
theorem witness_TriggerGroupsAndCaptures_9 : ∃ (s : State) (g : Nat) (d : GroupDecl) (c : _) (h : _),
    let x := group s g
    x.capture = some c ∧ c.hem = some h ∧ g < 16 ∧ groupDecl s g = some d ∧ running s = true ∧
    functionLive s = true ∧ wf {} s.trig.groups = true ∧ x.state = .capturing ∧
    cycleBase s < c.trig.time / 256 + h :=
  ⟨grp 0 { state := .capturing, capture := some (cap0 (some 49)) } runG, 0, (imgG.groups.getD 0 {}), _, _, rfl, rfl,
    by decide⟩

-- clause 12
theorem witness_TriggerGroupsAndCaptures_10 : ∃ (s : State) (g : Nat) (d : GroupDecl) (c : _),
    let x := group s g
    x.capture = some c ∧ g < 16 ∧ groupDecl s g = some d ∧ running s = true ∧ functionLive s = true ∧
    wf {} s.trig.groups = true ∧ x.state = .provisional :=
  ⟨grp 2 { state := .provisional, capture := some (cap0 (some 49)), provisional := some ⟨1, 512000⟩ } runG, 2,
    (imgG.groups.getD 2 {}), _, rfl, by decide⟩

-- clause 16
theorem witness_TriggerGroupsAndCaptures_11 : ∃ (s : State) (g : Nat) (d : GroupDecl) (c : _),
    let x := group s g
    x.capture = some c ∧ g < 16 ∧ groupDecl s g = some d ∧ running s = true ∧ functionLive s = true ∧
    wf {} s.trig.groups = true ∧ x.state = .holdoff ∧ x.stopTime ≤ now s ∧ c.trig.time / 256 + c.holdoff ≤ now s ∧
    c.holdoffEvents ≤ x.misses ∧ x.notices.length < 64 ∧ (d.auto = true ∧
    x.disarmCycle = false ∨ x.pendingArm = true) :=
  ⟨grp 1 { state := .holdoff, capture := some (cap0 (some 49)), misses := 2 } runG, 1, (imgG.groups.getD 1 {}), _,
    rfl, by decide⟩

-- clause 16
theorem witness_TriggerGroupsAndCaptures_12 : ∃ (s : State) (g : Nat) (d : GroupDecl) (c : _),
    let x := group s g
    x.capture = some c ∧ g < 16 ∧ groupDecl s g = some d ∧ running s = true ∧ functionLive s = true ∧
    wf {} s.trig.groups = true ∧ x.state = .holdoff ∧ x.stopTime ≤ now s ∧ c.trig.time / 256 + c.holdoff ≤ now s ∧
    c.holdoffEvents ≤ x.misses ∧ x.notices.length < 64 ∧ (d.auto = false ∨ x.disarmCycle = true) ∧
    x.pendingArm = false :=
  ⟨grp 0 { state := .holdoff, capture := some (cap0 (some 49)), misses := 2 } runG, 0, (imgG.groups.getD 0 {}), _,
    rfl, by decide⟩

-- clause 19
theorem witness_TriggerGroupsAndCaptures_13 : ∃ (s : State) (g : Nat) (k : Nat) (d : GroupDecl) (o : _),
    let x := group s g
    x.inbox[k]? = some o ∧ g < 16 ∧ groupDecl s g = some d ∧ running s = true ∧ functionLive s = true ∧
    wf {} s.trig.groups = true :=
  ⟨grp 0 { state := .armed, tArm := 5, inbox := [⟨1, 512000⟩, ⟨1, 512001⟩] } runG, 0, 1, (imgG.groups.getD 0 {}), _,
    rfl, by decide⟩

-- clause 20
theorem witness_TriggerGroupsAndCaptures_14 : ∃ (s : State) (g : Nat) (d : GroupDecl) (o : _),
    let x := group s g
    earliest (fun _ => true) (x.heldA ++ x.heldB) = some o ∧ expired s g d o = false ∧ g < 16 ∧
    groupDecl s g = some d ∧ running s = true ∧ functionLive s = true ∧ wf {} s.trig.groups = true ∧
    x.state ≠ .provisional :=
  ⟨grp 2 { state := .armed, tArm := 5, inbox := [⟨1, 512000⟩, ⟨1, 512001⟩], heldA := [⟨1, 512000⟩, ⟨1, 511000⟩], heldB := [⟨2, 512000⟩] } runG,
    2, (imgG.groups.getD 2 {}), _, rfl, by decide⟩

-- clause 20
theorem witness_TriggerGroupsAndCaptures_15 : ∃ (s : State) (g : Nat) (d : GroupDecl) (o : _),
    let x := group s g
    earliest (fun _ => true) (x.heldA ++ x.heldB) = some o ∧ expired s g d o = true ∧ g < 16 ∧
    groupDecl s g = some d ∧ running s = true ∧ functionLive s = true ∧ wf {} s.trig.groups = true ∧
    x.state ≠ .provisional :=
  ⟨grp 1 { state := .armed, tArm := 0, heldA := [⟨2, 256⟩] } runG, 1, (imgG.groups.getD 1 {}), _, rfl,
    by decide⟩

-- clause 21
theorem witness_TriggerGroupsAndCaptures_16 : ∃ (s : State) (g : Nat) (k : Nat) (d : GroupDecl) (m : _),
    condDecl s k = some m ∧ m.cls = .mask ∧ recordReady s m.stream (cond s k).readRecords = false ∧ g < 16 ∧
    groupDecl s g = some d ∧ running s = true ∧ functionLive s = true ∧ wf {} s.trig.groups = true :=
  ⟨runG, 0, 1, (imgG.groups.getD 0 {}), _, rfl, by decide⟩

-- clause 21
theorem witness_TriggerGroupsAndCaptures_17 : ∃ (s : State) (g : Nat) (k : Nat) (d : GroupDecl) (m : _),
    condDecl s k = some m ∧ m.cls = .mask ∧ recordReady s m.stream (cond s k).readRecords = true ∧ g < 16 ∧
    groupDecl s g = some d ∧ running s = true ∧ functionLive s = true ∧ wf {} s.trig.groups = true :=
  ⟨recorded 4 0 runG, 2, 1, (imgG.groups.getD 2 {}), _, rfl, by decide⟩

-- clause 13
theorem witness_TriggerGroupsAndCaptures_past : ∃ (s : State) (g h : Nat) (d : GroupDecl), g < 16 ∧
    groupDecl s g = some d ∧
    running s = true ∧ functionLive s = true ∧ wf {} s.trig.groups = true ∧ h ≤ cycleBase s :=
  ⟨runG, 0, 2048, _, by decide, rfl, by decide⟩

/-! EdgesCalibrationGatesAndPulses -/

-- clauses 1, 3, 7, 8, 9, 10, 11, 12, 15, 17, 18, 20
theorem witness_EdgesCalibrationGatesAndPulses_1 : ∃ (s : State) (n : Nat) (o : Nat),
    let x := evt s n
    wf {} s.tiu.inputs = true ∧ wf {} s.tiu.outs = true ∧ x.calibrating = false ∧ functionLive s = false ∧
    x.queued = [] ∧ x.gate = 0 ∧ (functionLive s = false ∨ x.queued = [] ∧ gatesOver x (edgeHorizon s / 256) = 0) ∧
    ((look {} s.tiu.outs o).active = false ∨ s.time.cycle < (look {} s.tiu.outs o).ends) ∧ x.queue = [] :=
  ⟨State.reset, 3, 1, by decide⟩

-- clauses 2, 13
set_option maxRecDepth 20000 in
theorem witness_EdgesCalibrationGatesAndPulses_2 : ∃ (s : State) (n : Nat) (hits : List Nat),
    let x := evt s n
    let used := ((hits.take 512).filter (fun h => h != 0)).length
    wf {} s.tiu.inputs = true ∧ wf {} s.tiu.outs = true ∧ x.calibrating = true ∧ (used < 448 ∨ used = 512) :=
  ⟨inp3 { calibrating := true, lost := 0xFFFFFFFF } runG, 3, (List.replicate 512 1), by dsimp only; decide⟩

-- clauses 14
set_option maxRecDepth 20000 in
theorem witness_EdgesCalibrationGatesAndPulses_3 : ∃ (s : State) (n : Nat) (hits : List Nat),
    let x := evt s n
    let used := ((hits.take 512).filter (fun h => h != 0)).length
    wf {} s.tiu.inputs = true ∧ wf {} s.tiu.outs = true ∧ x.calibrating = true ∧ 448 ≤ used ∧ used ≠ 512 :=
  ⟨inp3 { calibrating := true } runG, 3, (List.replicate 448 1), by dsimp only; decide⟩

-- clauses 4
theorem witness_EdgesCalibrationGatesAndPulses_4 : ∃ (s : State) (n : Nat) (code : Nat) (rising : Bool),
    let x := evt s n
    let T := edgeTime s n code
    let y := x.apply (T / 256)
    wf {} s.tiu.inputs = true ∧ wf {} s.tiu.outs = true ∧ x.calibrating = false ∧ functionLive s = true ∧
    passes y.slope rising = false :=
  ⟨runG, 3, 5, false, by decide⟩

-- clauses 19
theorem witness_EdgesCalibrationGatesAndPulses_5 : ∃ (s : State) (o : Nat),
    wf {} s.tiu.inputs = true ∧ wf {} s.tiu.outs = true ∧ (look {} s.tiu.outs o).active = true ∧
    (look {} s.tiu.outs o).ends ≤ s.time.cycle :=
  ⟨{ runG with tiu := { outs := [(1, { active := true, polarity := 1 })] } }, 1, by decide⟩

-- clause 16
theorem witness_EdgesCalibrationGatesAndPulses_6 : ∃ (s : State) (n : Nat) (m : _),
    let x := evt s n
    gatesOver x (edgeHorizon s / 256) = m + 1 ∧ wf {} s.tiu.inputs = true ∧ wf {} s.tiu.outs = true ∧
    functionLive s = true ∧ x.queued = [] :=
  ⟨inp3 { lastEdge := some 53000, gate := 1, gateFirst := some 7, gateLast := some 70, gateCount := 2, gateLoss := true } runG,
    3, 0, by decide⟩

-- clause 21
theorem witness_EdgesCalibrationGatesAndPulses_7 : ∃ (s : State) (n : Nat) (r : _) (q : _) (i : _),
    let x := evt s n
    x.queue = r :: q ∧ unitSleeve s 0x07 n = some i ∧ (sleeve s i).stopped = false ∧
    recordFits s i r.bytes.length = true ∧ wf {} s.tiu.inputs = true ∧ wf {} s.tiu.outs = true :=
  ⟨inp3 { lastEdge := some 53000, gate := 0, queue := [⟨List.replicate 32 7, 4⟩] } runG, 3, _, _, _, rfl, rfl,
    by decide⟩

/-- Event input 3 saw its last edge at `l`. -/
def lastS (l : Nat) : State := inp3 { lastEdge := some l, tsEn := true } runG

-- clause 5: an edge within 2 ns of the last
theorem witness_EdgesCalibrationGatesAndPulses_close : ∃ (s : State) (n code : Nat) (l : Nat),
    let y := (evt s n).apply (edgeTime s n code / 256)
    wf {} s.tiu.inputs = true ∧ wf {} s.tiu.outs = true ∧ (evt s n).calibrating = false ∧ functionLive s = true ∧
      passes y.slope true = true ∧ y.lastEdge = some l ∧ edgeTime s n code ≤ l + 10485 := by
  refine ⟨lastS 513803, 3, 0, 513803, by decide, by decide, by decide, by decide, rfl, rfl, ?_⟩
  have h : cycleBase (lastS 513803) = 2048 := by decide
  simp only [edgeTime, h]
  omega

-- clause 6: the first edge, and an edge after 2 ns
theorem witness_EdgesCalibrationGatesAndPulses_first : ∃ (s : State) (n code : Nat),
    let y := (evt s n).apply (edgeTime s n code / 256)
    wf {} s.tiu.inputs = true ∧ wf {} s.tiu.outs = true ∧ (evt s n).calibrating = false ∧ functionLive s = true ∧
      passes y.slope true = true ∧ y.lastEdge = none :=
  ⟨runG, 7, 0, by decide, by decide, by decide, by decide, rfl, rfl⟩

theorem witness_EdgesCalibrationGatesAndPulses_later : ∃ (s : State) (n code : Nat) (l : Nat),
    let y := (evt s n).apply (edgeTime s n code / 256)
    wf {} s.tiu.inputs = true ∧ wf {} s.tiu.outs = true ∧ (evt s n).calibrating = false ∧ functionLive s = true ∧
      passes y.slope true = true ∧ y.lastEdge = some l ∧ l + 10485 < edgeTime s n code := by
  refine ⟨lastS 53000, 3, 0, 53000, by decide, by decide, by decide, by decide, rfl, rfl, ?_⟩
  have h : cycleBase (lastS 53000) = 2048 := by decide
  have h' : tapPos (evt (lastS 53000) 3) 0 ≤ 1024 := by decide
  simp only [edgeTime, h]
  omega

/-! DrivesChecksAccessesAndCommands -/

-- clauses 2, 3, 5, 8, 14, 15, 16, 20, 21, 22, 23, 24, 39, 42, 43
theorem witness_DrivesChecksAccessesAndCommands_1 : ∃ (s : State) (d : Nat) (id : Nat) (i : Nat) (speed : Nat) (nvme : Bool),
    let v := drive s d
    let p := (img s).drives
    let used := positionUsed p.modes d
    wf {} s.disk.drives = true ∧ used = true ∧ functionLive s = true ∧ tbit s.pkg.dperst (d / 2) = true ∧
    v.state = .absent ∧ speed ≠ 0 ∧ nvme = true ∧ (v.state ≠ .checking ∨ v.cmds ≠ []) ∧ v.state ≠ .checking ∧
    s.disk.vol.state ≠ .bringup ∧ v.cmds.find? (fun c => c.id == id && !c.aborted) = none ∧ heeded v = false ∧
    (volumeRuns s = false ∨ stopPast s = true ∨ nextData s i = none) :=
  ⟨drv2 {}, 2, 5, 4, 3, true, by decide⟩

-- clauses 4, 6, 7, 9, 13, 17, 30, 36, 37, 41
theorem witness_DrivesChecksAccessesAndCommands_2 : ∃ (s : State) (d : Nat) (id : Nat) (a : Nat) (info : IdentifyInfo) (w : Word) (x : CompletionEntry) (labels : List (Nat × List (List Byte))),
    let v := drive s d
    let p := (img s).drives
    let used := positionUsed p.modes d
    let fits := ¬ (info.mdts ≠ 0 ∧ info.mdts < 5) ∧ 1 ≤ info.queues ∧ info.nn ≠ 0 ∧ info.nn ≤ 1024 ∧
    info.blocks ≤ 2 ^ 48
    let good := (acceptedDrives s).filterMap (fun k =>
      ((labels.find? (fun l => l.1 == k)).bind (fun l => bestLabel l.2)).map (fun b => (k, b)))
    wf {} s.disk.drives = true ∧
    (used = false ∨ functionLive s = false ∨ tbit s.pkg.dperst (d / 2) = false ∨ v.state ≠ .absent) ∧
    (used = false ∨ v.state ≠ .absent) ∧ v.state = .checking ∧ v.cmds = [] ∧ v.waiting = [] ∧ v.qs = [] ∧
    outstanding s + 3 ≤ 8192 ∧ fits ∧ info.lbaBytes = 4096 ∧ info.metadata = 0 ∧ 270532608 ≤ info.blocks * 4096 ∧
    s.disk.vol.state = .bringup ∧ p.volumeMode = 0 ∧ good = [] ∧ v.state ≠ .absent ∧ v.state ≠ .quarantined ∧
    (a % 4 ≠ 0 ∨ pageUse s d a ≠ some (.doorbell w.toNat)) ∧ completes v id x = none ∧ heeded v = true :=
  ⟨vol { state := .bringup } (drv2 { state := .checking }), 2, 5, 5, { blocks := 66048 }, 0, {}, [],
    by decide⟩

-- clauses 25, 26, 27, 28, 29
theorem witness_DrivesChecksAccessesAndCommands_3 : ∃ (s : State) (d : Nat),
    let v := drive s d
    wf {} s.disk.drives = true ∧ v.state = .quarantined :=
  ⟨drv2 { state := .quarantined }, 2, by decide⟩

-- clauses 1
theorem witness_DrivesChecksAccessesAndCommands_4 : ∃ (s : State) (d : Nat) (speed : Nat),
    let v := drive s d
    let p := (img s).drives
    let used := positionUsed p.modes d
    wf {} s.disk.drives = true ∧ used = true ∧ functionLive s = true ∧ tbit s.pkg.dperst (d / 2) = true ∧
    v.state = .absent ∧ speed = 0 :=
  ⟨drv2 {}, 2, 0, by decide⟩

-- clauses 10
theorem witness_DrivesChecksAccessesAndCommands_5 : ∃ (s : State) (d : Nat) (info : IdentifyInfo),
    let v := drive s d
    let fits := ¬ (info.mdts ≠ 0 ∧ info.mdts < 5) ∧ 1 ≤ info.queues ∧ info.nn ≠ 0 ∧ info.nn ≤ 1024 ∧
    info.blocks ≤ 2 ^ 48
    wf {} s.disk.drives = true ∧ v.state = .checking ∧ ¬ fits :=
  ⟨drv2 { state := .checking, nextId := 65535 }, 2, { mdts := 4 }, by decide⟩

-- clauses 11
theorem witness_DrivesChecksAccessesAndCommands_6 : ∃ (s : State) (d : Nat) (info : IdentifyInfo),
    let v := drive s d
    let fits := ¬ (info.mdts ≠ 0 ∧ info.mdts < 5) ∧ 1 ≤ info.queues ∧ info.nn ≠ 0 ∧ info.nn ≤ 1024 ∧
    info.blocks ≤ 2 ^ 48
    wf {} s.disk.drives = true ∧ v.state = .checking ∧ fits ∧ (info.lbaBytes ≠ 4096 ∨ info.metadata ≠ 0) :=
  ⟨drv2 { state := .checking, member := some 0 }, 2, { lbaBytes := 512 }, by decide⟩

-- clauses 12
theorem witness_DrivesChecksAccessesAndCommands_7 : ∃ (s : State) (d : Nat) (info : IdentifyInfo),
    let v := drive s d
    let fits := ¬ (info.mdts ≠ 0 ∧ info.mdts < 5) ∧ 1 ≤ info.queues ∧ info.nn ≠ 0 ∧ info.nn ≤ 1024 ∧
    info.blocks ≤ 2 ^ 48
    wf {} s.disk.drives = true ∧ v.state = .checking ∧ fits ∧ info.lbaBytes = 4096 ∧ info.metadata = 0 ∧
    info.blocks * 4096 < 270532608 :=
  ⟨drv2 { state := .checking }, 2, { blocks := 66047 }, by decide⟩

-- clauses 18
theorem witness_DrivesChecksAccessesAndCommands_8 : ∃ (s : State) (labels : List (Nat × List (List Byte))),
    let p := (img s).drives
    let good := (acceptedDrives s).filterMap (fun k =>
      ((labels.find? (fun l => l.1 == k)).bind (fun l => bestLabel l.2)).map (fun b => (k, b)))
    wf {} s.disk.drives = true ∧ s.disk.vol.state = .bringup ∧ (p.volumeMode = 2 ∨ p.volumeMode = 1 ∧ good = []) :=
  ⟨vol { state := .bringup } (mode 2 (drv2 { state := .accepted, blocks := 66048 })), [],
    by decide⟩

-- clauses 34
theorem witness_DrivesChecksAccessesAndCommands_9 : ∃ (s : State) (d : Nat) (a : Nat) (bs : List Byte),
    let v := drive s d
    wf {} s.disk.drives = true ∧ v.state ≠ .absent ∧ v.state ≠ .quarantined ∧ a % 4096 + bs.length ≤ 4096 ∧
    writeDenied (pageUse s d a) = none :=
  ⟨drv2 { state := .accepted, queues := 2 }, 2, (windowBase 2 + 496 * unitSize + 0x100000), [1,2],
    by decide⟩

-- clauses 35
theorem witness_DrivesChecksAccessesAndCommands_10 : ∃ (s : State) (d : Nat) (a : Nat) (w : Word),
    let v := drive s d
    wf {} s.disk.drives = true ∧ v.state ≠ .absent ∧ v.state ≠ .quarantined ∧
    pageUse s d a = some (.doorbell w.toNat) ∧ a % 4 = 0 :=
  ⟨drv2 { state := .accepted, queues := 4 }, 2, (windowBase 2 + 496 * unitSize + 0x200000 + 12), 3,
    by decide⟩

-- clause 31
theorem witness_DrivesChecksAccessesAndCommands_11 : ∃ (s : State) (d : Nat) (a : Nat) (n : Nat) (r : _),
    let v := drive s d
    readDenied (pageUse s d a) = some r ∧ wf {} s.disk.drives = true ∧ v.state ≠ .absent ∧ v.state ≠ .quarantined ∧
    a % 4096 + n ≤ 4096 :=
  ⟨drv2 { state := .checking, nextId := 65535 }, 2, 5, 6, _, rfl, by decide⟩

-- clause 32
set_option maxRecDepth 20000 in
theorem witness_DrivesChecksAccessesAndCommands_12 : ∃ (s : State) (d : Nat) (a : Nat) (n : Nat) (q : _) (off : _),
    let v := drive s d
    pageUse s d a = some (.submission q off) ∧ wf {} s.disk.drives = true ∧ v.state ≠ .absent ∧
    v.state ≠ .quarantined ∧ 0 < n ∧ a % 4096 + n ≤ 4096 :=
  ⟨drv2 { state := .accepted, queues := 2, entries := [(32, List.replicate 64 7)], qs := [(1, { tail := 1 })] }, 2,
    (windowBase 2 + 496 * unitSize + 4096 + 0), 64, _, _, rfl, by decide⟩

-- clause 33
theorem witness_DrivesChecksAccessesAndCommands_13 : ∃ (s : State) (d : Nat) (a : Nat) (bs : List Byte) (r : _),
    let v := drive s d
    writeDenied (pageUse s d a) = some r ∧ wf {} s.disk.drives = true ∧ v.state ≠ .absent ∧ v.state ≠ .quarantined ∧
    a % 4096 + bs.length ≤ 4096 :=
  ⟨drv2 { state := .checking, nextId := 65535 }, 2, 5, [], _, rfl, by decide⟩

-- clause 44
theorem witness_DrivesChecksAccessesAndCommands_14 : ∃ (s : State) (i : Nat) (stream : _) (k : _),
    nextData s i = some (stream, none, k, none) ∧ passCut s i k = false ∧ wf {} s.disk.drives = true ∧
    volumeRuns s = true ∧ stopPast s = false ∧ (sleeve s i).wcount - k < s.disk.vol.dataUnits * unitSize :=
  ⟨vol { state := .opened, members := 1, map := [some 2], dataStripes := 50 } (drv2 { state := .member, member := some 0, cmds := [cmd0 true], queues := 2 }),
    4, _, _, rfl, by decide⟩

-- clause 44
theorem witness_DrivesChecksAccessesAndCommands_15 : ∃ (s : State) (i : Nat) (stream : _) (k : _) (e : _),
    nextData s i = some (stream, none, k, none) ∧ openFor s stream i = some e ∧ passCut s i k = false ∧
    continues_ e k 0 = true ∧ wf {} s.disk.drives = true ∧ volumeRuns s = true ∧ stopPast s = false ∧
    0 < s.disk.vol.dataUnits ∧ s.disk.vol.dataUnits * unitSize ≤ (sleeve s i).wcount - k :=
  ⟨slv 4 (fun v => { v with wcount := 1048576 }) (vol { state := .opened, members := 1, map := [some 2], dataStripes := 500, extents := [ext0] } (drv2 { state := .member, member := some 0 })),
    4, _, _, _, rfl, rfl, by decide⟩

-- clause 44
theorem witness_DrivesChecksAccessesAndCommands_16 : ∃ (s : State) (i : Nat) (stream : _) (k : _),
    nextData s i = some (stream, none, k, none) ∧ passCut s i k = false ∧ openFor s stream i = none ∧
    wf {} s.disk.drives = true ∧ volumeRuns s = true ∧ stopPast s = false ∧ 0 < s.disk.vol.dataUnits ∧
    s.disk.vol.dataUnits * unitSize ≤ (sleeve s i).wcount - k ∧ takeRun s.disk.vol = none :=
  ⟨slv 4 (fun v => { v with wcount := 1048576 }) (vol { state := .opened, members := 1, map := [some 2], dataStripes := 0, extents := [] } (drv2 { state := .member, member := some 0 })),
    4, _, _, rfl, by decide⟩

theorem leVal_leBytes (n v : Nat) : leVal (leBytes n v) = v % 256 ^ n := by
  induction n generalizing v with
  | zero => simp [leVal, leBytes, Nat.mod_one]
  | succ n ih =>
    simp only [leBytes, leVal, ih, BitVec.toNat_ofNat]
    rw [show 256 ^ (n + 1) = 256 * 256 ^ n from Nat.pow_succ', Nat.mod_mul]

theorem leBytes_length (n v : Nat) : (leBytes n v).length = n := by
  induction n generalizing v with
  | zero => rfl
  | succ n ih => simp [leBytes, ih]

theorem le_append {a b : List Byte} {off n : Nat} (h : off + n ≤ a.length) : le (a ++ b) off n = le a off n := by
  simp only [le, slice]
  rw [List.drop_append_of_le_length (by omega), List.take_append_of_le_length (by simp; omega)]

theorem labelHd_length (gen failed : Nat) : (labelHd gen failed).length = 64 := by simp [labelHd, leBytes_length]

theorem le_label0 {gen failed off n : Nat} (h : off + n ≤ 64) :
    le (label0 gen failed) off n = le (labelHd gen failed) off n := by
  have := labelHd_length gen failed
  simp only [label0, List.append_assoc]
  exact le_append (by omega)

set_option maxRecDepth 100000 in
theorem labelValid_label0 (gen failed : Nat) : labelValid (label0 gen failed) = true := by
  have hb : (labelHd gen failed ++ List.replicate (0xFFC - 0x40) 0).length = 0xFFC := by
    rw [List.length_append, labelHd_length, List.length_replicate]
  have h0 : le (label0 gen failed) 0 4 = 0x56445A53 := by
    rw [le_label0 (by omega)]; simp only [labelHd, List.append_assoc, le, slice, List.drop_zero]
    rw [List.take_append_of_le_length (by simp [leBytes_length])]; decide
  have h1 : (label0 gen failed).length = 4096 := by
    simp only [label0]; rw [List.length_append, hb, leBytes_length]
  simp only [labelValid, h0, h1]
  simp only [label0, le, slice]
  rw [List.drop_left' hb, List.take_left' hb, List.take_of_length_le (by simp [leBytes_length]), leVal_leBytes]
  have hc : ∀ bs, crc32 bs % 256 ^ 4 = crc32 bs := fun bs => Nat.mod_eq_of_lt (by
    have : 256 ^ 4 = 2 ^ 32 := by decide
    rw [this]; exact BitVec.isLt _)
  rw [hc]; simp

/-- The volume is brought up in state OPEN, drive 2 accepted. -/
def bringS : State := vol { state := .bringup } (mode 0 (drv2 { state := .accepted }))

theorem good_label (b : List Byte) (h : labelValid b = true) : (acceptedDrives bringS).filterMap (fun k =>
    (([(2, [b])].find? (fun l => l.1 == k)).bind (fun l => bestLabel l.2)).map (fun b => (k, b))) = [(2, b)] := by
  rw [show acceptedDrives bringS = [2] by decide]; simp [bestLabel, h]

-- clause 19: a member FAILED in the newest label, and none
theorem witness_DrivesChecksAccessesAndCommands_label (failed : Nat) (h : failed = 0 ∨ failed = 1) :
    ∃ (labels : List (Nat × List (List Byte))) (first : Nat × List Byte) (rest : List (Nat × List Byte)),
      (acceptedDrives bringS).filterMap (fun k =>
        ((labels.find? (fun l => l.1 == k)).bind (fun l => bestLabel l.2)).map (fun b => (k, b))) = first :: rest ∧
      (let mine := (first :: rest).filter (fun l => le l.2 0x10 16 == le first.2 0x10 16)
       let top := mine.foldl (fun b l => if le b 0x0C 4 < le l.2 0x0C 4 then l.2 else b) first.2
       let lost := (List.range (le top 7 1)).filter (fun m => !(mine.any (fun l => le l.2 6 1 == m)) || tbit (le top 0x0A 2) m)
       (failed = 1 → le top 8 1 < lost.length) ∧ (failed = 0 → lost.length ≤ le top 8 1)) := by
  refine ⟨[(2, [label0 5 failed])], (2, label0 5 failed), [], good_label _ (labelValid_label0 5 failed), ?_⟩
  simp only [List.filter, beq_self_eq_true, List.foldl, Nat.lt_irrefl, if_false, List.any, Bool.or_false]
  rw [le_label0 (by omega), le_label0 (by omega), le_label0 (by omega), le_label0 (by omega)]
  rcases h with h | h <;> subst h <;> decide

theorem witness_DrivesChecksAccessesAndCommands_bringup :
    wf {} bringS.disk.drives = true ∧ bringS.disk.vol.state = .bringup ∧
    (img bringS).drives.volumeMode < 2 := by decide

-- clause 38: a command completes, fails a first time, fails a second time
theorem witness_DrivesChecksAccessesAndCommands_done : ∃ (s : State) (d id : Nat) (x : CompletionEntry) (c : NvmeCmd),
    wf {} s.disk.drives = true ∧ (drive s d).state ≠ .absent ∧ (drive s d).state ≠ .quarantined ∧
      completes (drive s d) id x = some c ∧ c.aborted = false ∧ (∀ q k, c.op ≠ .abort q k) ∧ x.error = false ∧
      s.disk.vol = {} ∧ (drive s d).waiting = [] ∧ (drive s d).setup = [] :=
  ⟨drv2 { state := .accepted, queues := 2, cmds := [{ cmd0 false with queue := 1 }] }, 2, 5, { queue := 1 }, _,
    by decide, by decide,
    by decide, rfl, rfl, fun _ _ => NvmeOp.noConfusion, rfl, by decide, by decide, by decide⟩

theorem witness_DrivesChecksAccessesAndCommands_retry : ∃ (s : State) (d id : Nat) (x : CompletionEntry) (c : NvmeCmd),
    wf {} s.disk.drives = true ∧ (drive s d).state ≠ .absent ∧ (drive s d).state ≠ .quarantined ∧
      completes (drive s d) id x = some c ∧ c.aborted = false ∧ (∀ q k, c.op ≠ .abort q k) ∧ x.error = true ∧
      c.retried = false ∧ stopPast s = false :=
  ⟨drv2 { state := .accepted, queues := 2, cmds := [{ cmd0 false with queue := 1 }] }, 2, 5,
    { queue := 1, error := true }, _, by decide,
    by decide, by decide, rfl, rfl, fun _ _ => NvmeOp.noConfusion, rfl, rfl, by decide⟩

theorem witness_DrivesChecksAccessesAndCommands_fail : ∃ (s : State) (d id : Nat) (x : CompletionEntry) (c : NvmeCmd),
    wf {} s.disk.drives = true ∧ (drive s d).state ≠ .absent ∧ (drive s d).state ≠ .quarantined ∧
      completes (drive s d) id x = some c ∧ c.aborted = false ∧ (∀ q k, c.op ≠ .abort q k) ∧ x.error = true ∧
      (c.retried = true ∨ stopPast s = true) :=
  ⟨drv2 { state := .accepted, queues := 2, cmds := [{ cmd0 true with queue := 1 }] }, 2, 5,
    { queue := 1, error := true }, _, by decide,
    by decide, by decide, rfl, rfl, fun _ _ => NvmeOp.noConfusion, rfl, .inl rfl⟩

-- clause 40: an Abort, a first attempt, a second one
theorem witness_DrivesChecksAccessesAndCommands_abort : ∃ (s : State) (d id : Nat) (c : NvmeCmd),
    wf {} s.disk.drives = true ∧
    (drive s d).cmds.find? (fun c => c.id == id && !c.aborted) = some c ∧ ∃ q k, c.op = .abort q k :=
  ⟨drv2 { state := .accepted, cmds := [{ cmd0 true with op := .abort 0 5 }] }, 2, 5, _, by decide, rfl, 0, 5, rfl⟩

theorem witness_DrivesChecksAccessesAndCommands_first : ∃ (s : State) (d id : Nat) (c : NvmeCmd),
    wf {} s.disk.drives = true ∧
    (drive s d).cmds.find? (fun c => c.id == id && !c.aborted) = some c ∧ (∀ q k, c.op ≠ .abort q k) ∧
    c.retried = false ∧
      stopPast s = false :=
  ⟨drv2 { state := .accepted, cmds := [cmd0 false] }, 2, 5, _, by decide, rfl, fun _ _ => NvmeOp.noConfusion, rfl,
    by decide⟩

theorem witness_DrivesChecksAccessesAndCommands_second : ∃ (s : State) (d id : Nat) (c : NvmeCmd),
    wf {} s.disk.drives = true ∧
    (drive s d).cmds.find? (fun c => c.id == id && !c.aborted) = some c ∧ (∀ q k, c.op ≠ .abort q k) ∧
      (c.retried = true ∨ stopPast s = true) :=
  ⟨drv2 { state := .accepted, cmds := [cmd0 true] }, 2, 5, _, by decide, rfl, fun _ _ => NvmeOp.noConfusion, .inl rfl⟩

/-! RingsRunTheirDescriptors -/

-- clauses 3, 5, 9, 17, 19, 23, 24, 25, 28, 32, 40, 49, 52, 57, 61, 62
theorem witness_RingsRunTheirDescriptors_1 : ∃ (s : State) (q : Nat) (w : Word) (bs : List Byte) (u : Run),
    let r := ring s q
    let v := fld w.toNat 0 16
    let stays := fun (k : Nat) => r.running = false ∨ r.halt ≠ 0 ∨ r.head = k ∨ r.run ≠ none ∨ r.waiting ≠ [] ∨ r.ask ≠ none
    let canWrite := r.waiting = [] ∧ r.full = false ∧ r.disabling = false
    let d := (parseDesc bs).1
    wf {} s.rings = true ∧ (r.running = false ∨ v < r.size) ∧ stays v ∧ stays r.tail ∧ r.waiting = [] ∧
    r.disabling = false ∧ r.enable = true ∧ tbit w.toNat 0 = true ∧ declared s q = true ∧ r.run = none ∧
    r.running = true ∧ r.head ≠ r.tail ∧ answerable s q .desc = true ∧ r.halt = 0 ∧ r.flushTo = none ∧
    (parseDesc bs).2 = true ∧ descOk s q d = true ∧ d.op = 0 ∧ canWrite ∧ answerable s q .table = false ∧
    (r.run = none ∨ r.run = some u ∧ u.phase ≠ .burstOver) ∧ answerable s q .data = false ∧ r.destWaiting = false ∧
    (ringDecl s q = none ∨ r.run = none) ∧
    (firstNotice s q = none ∨ r.run = none ∨ ringFree s q = false ∨ r.full = true) :=
  ⟨rng 0 { rg with ask := some .desc, asked := 1, tail := 5, head := 15 }, 0, 3, [], rn (dsc 2 64) .moving,
    by decide⟩

-- clauses 14, 20, 21, 34, 35, 38, 48, 50
theorem witness_RingsRunTheirDescriptors_2 : ∃ (s : State) (q : Nat) (i : Nat) (bs : List Byte) (u : Run),
    let r := ring s q
    let canWrite := r.waiting = [] ∧ r.full = false ∧ r.disabling = false
    let u' : Run := { u with table := parseTable u.desc.count bs }
    wf {} s.rings = true ∧ declared s q = true ∧ r.run = some u ∧ u.phase ≠ .bursting ∧ u.phase ≠ .burstOver ∧
    canWrite ∧ (r.running = false ∨ r.head = r.tail) ∧ answerable s q .desc = false ∧ answerable s q .table = true ∧
    u.phase = .needTable ∧ u.desc.op = 2 ∧ u.desc.index = true ∧ u.desc.tableSide = 0 ∧ r.halt = 0 ∧
    0 < u.desc.count ∧ u.moved = 0 ∧ u.elem = 0 ∧ u.elemMoved = 0 ∧ elemOk s q u' 0 = false ∧
    writerSleeve s q = some i :=
  ⟨rng 0 { rg with ask := some .table, asked := 1, run := some { rn (dsc 2 64) .needTable with desc := { dsc 2 0 with index := true, count := 2 } } },
    0, 0, [], { rn (dsc 2 64) .needTable with desc := { dsc 2 0 with index := true, count := 2 } },
    by decide⟩

-- clauses 13, 51, 53, 54, 55
theorem witness_RingsRunTheirDescriptors_3 : ∃ (s : State) (q : Nat) (i : Nat) (u : Run),
    let r := ring s q
    let canWrite := r.waiting = [] ∧ r.full = false ∧ r.disabling = false
    wf {} s.rings = true ∧ declared s q = true ∧ r.run = some u ∧ (u.phase = .bursting ∨ u.phase = .burstOver ∧
    u.desc.op < 3) ∧ answerable s q .data = true ∧ canWrite ∧ writerSleeve s q = some i :=
  ⟨rng 0 { rg with ask := some .data, asked := 1, run := some { rn (dsc 3 64) .bursting with burst := 64 } }, 0, 0,
    { rn (dsc 3 64) .bursting with burst := 64 }, by decide⟩

-- clauses 1, 2, 10, 56
theorem witness_RingsRunTheirDescriptors_4 : ∃ (s : State) (q : Nat) (w : Word),
    let r := ring s q
    let v := fld w.toNat 0 16
    wf {} s.rings = true ∧ r.running = true ∧ r.size ≤ v ∧ r.enable = true ∧ tbit w.toNat 0 = false ∧ r.run = none ∧
    r.head = r.tail ∧ r.waiting = [] ∧ r.flushTo = none ∧ r.ask = none :=
  ⟨rng 0 rg, 0, 16, by decide⟩

-- clauses 8, 11, 12
theorem witness_RingsRunTheirDescriptors_5 : ∃ (s : State) (q : Nat) (w : Word),
    let r := ring s q
    let n := fld w.toNat 5 5
    wf {} s.rings = true ∧ r.enable = false ∧
    (r.running = true ∨ tbit w.toNat 0 = false ∨ ringDecl s q = none ∨ s.store.imageTable = false ∨ n < 4 ∨ 16 < n) ∧
    declared s q = false :=
  ⟨rng 0 {}, 7, 3, by decide⟩

-- clauses 42, 43
theorem witness_RingsRunTheirDescriptors_6 : ∃ (s : State) (q : Nat) (u : Run),
    let r := ring s q
    let canWrite := r.waiting = [] ∧ r.full = false ∧ r.disabling = false
    wf {} s.rings = true ∧ r.run = some u ∧ u.phase = .burstOver ∧ u.aborting = false ∧ u.desc.op = 2 ∧
    u.desc.index = false ∧ ringKind s q = .xfer ∧ r.halt = 0 ∧ 0 < u.burst ∧ u.moved + u.burst = u.desc.length ∧
    canWrite :=
  ⟨rng 0 { rg with run := some { rn (dsc 2 64) .burstOver with burst := 64, bytes := some (List.range 64 |>.map (BitVec.ofNat 8)) } },
    0, { rn (dsc 2 64) .burstOver with burst := 64, bytes := some (List.range 64 |>.map (BitVec.ofNat 8)) },
    by decide⟩

-- clauses 64, 65
theorem witness_RingsRunTheirDescriptors_7 : ∃ (s : State) (q : Nat) (g : Nat) (c : Nat) (bs : List Byte) (u : Run),
    let r := ring s q
    let canWrite := r.waiting = [] ∧ r.full = false ∧ r.disabling = false
    wf {} s.rings = true ∧ firstNotice s q = some (g, c, bs) ∧ r.run = some u ∧ ringFree s q = true ∧ canWrite ∧
    256 ≤ u.desc.length :=
  ⟨ntc (rng 2 { rg with run := some (rn (dsc 1 256) .moving) }), 2, 1, 0, [1,2,3], rn (dsc 1 256) .moving,
    by decide⟩

-- clauses 45, 46
theorem witness_RingsRunTheirDescriptors_8 : ∃ (s : State) (q : Nat) (u : Run),
    let r := ring s q
    let canWrite := r.waiting = [] ∧ r.full = false ∧ r.disabling = false
    wf {} s.rings = true ∧ r.run = some u ∧ u.phase = .burstOver ∧ u.aborting = false ∧ u.desc.op = 1 ∧
    u.desc.index = false ∧ ringKind s q = .stream ∧ 0 < u.burst ∧ u.moved + u.burst = u.desc.length ∧ canWrite :=
  ⟨rng 1 { rg with swap := 3, run := some { rn (dsc 1 64) .burstOver with burst := 64, bytes := some (List.range 64 |>.map (BitVec.ofNat 8)) } },
    1, { rn (dsc 1 64) .burstOver with burst := 64, bytes := some (List.range 64 |>.map (BitVec.ofNat 8)) },
    by decide⟩

-- clauses 4
theorem witness_RingsRunTheirDescriptors_9 : ∃ (s : State) (q : Nat) (w : Word),
    let r := ring s q
    let v := fld w.toNat 0 16
    let goes := fun (k : Nat) => r.running = true ∧ r.halt = 0 ∧ r.head ≠ k ∧ r.run = none ∧ r.waiting = [] ∧
    r.ask = none
    wf {} s.rings = true ∧ (r.running = false ∨ v < r.size) ∧ goes v ∧ r.dbase % 32 = 0 ∧ s.link.reads < 768 :=
  ⟨rng 0 rg, 0, 15, by decide⟩

-- clauses 7
theorem witness_RingsRunTheirDescriptors_10 : ∃ (s : State) (q : Nat) (w : Word),
    let r := ring s q
    let n := fld w.toNat 5 5
    wf {} s.rings = true ∧ r.enable = false ∧ r.running = false ∧ r.disabling = false ∧ tbit w.toNat 0 = true ∧
    (ringDecl s q).isSome = true ∧ s.store.imageTable = true ∧ 4 ≤ n ∧ n ≤ 16 :=
  ⟨rng 1 {}, 1, (0x1 + 0x200 ), by decide⟩

-- clauses 22
theorem witness_RingsRunTheirDescriptors_11 : ∃ (s : State) (q : Nat),
    let r := ring s q
    wf {} s.rings = true ∧ answerable s q .desc = true ∧
    (r.running = false ∨ r.halt ≠ 0 ∨ r.head = r.tail ∨ r.run.isSome = true) :=
  ⟨rng 0 { rg with ask := some .desc, asked := 1, tail := 5, head := 5 }, 0, by decide⟩

-- clauses 27
theorem witness_RingsRunTheirDescriptors_12 : ∃ (s : State) (q : Nat) (bs : List Byte),
    let r := ring s q
    let canWrite := r.waiting = [] ∧ r.full = false ∧ r.disabling = false
    let d := (parseDesc bs).1
    wf {} s.rings = true ∧ answerable s q .desc = true ∧ r.running = true ∧ r.halt = 0 ∧ r.head ≠ r.tail ∧
    r.run = none ∧ r.flushTo = none ∧ canWrite ∧ ((parseDesc bs).2 = false ∨ descOk s q d = false) :=
  ⟨rng 0 { rg with ask := some .desc, asked := 1, tail := 5, head := 3 }, 0, dbytes 0 0x84 0 0 0,
    by decide⟩

-- clauses 30
theorem witness_RingsRunTheirDescriptors_13 : ∃ (s : State) (q : Nat) (bs : List Byte),
    let r := ring s q
    let d := (parseDesc bs).1
    wf {} s.rings = true ∧ answerable s q .desc = true ∧ r.running = true ∧ r.halt = 0 ∧ r.head ≠ r.tail ∧
    r.run = none ∧ r.flushTo = none ∧ (parseDesc bs).2 = true ∧ descOk s q d = true ∧ 2 ≤ d.op ∧ d.index = true :=
  ⟨rng 0 { rg with ask := some .desc, asked := 1, tail := 5, head := 3 }, 0, dbytes 2 5 0 0 2,
    by decide⟩

-- clauses 37
theorem witness_RingsRunTheirDescriptors_14 : ∃ (s : State) (q : Nat) (bs : List Byte) (u : Run),
    let r := ring s q
    let u' : Run := { u with table := parseTable u.desc.count bs }
    wf {} s.rings = true ∧ answerable s q .table = true ∧ r.run = some u ∧ u.phase = .needTable ∧
    sourceBad s q u' = false ∧ u.desc.op = 2 ∧ r.halt ≠ 0 :=
  ⟨rng 0 { rg with ask := some .table, asked := 1, halt := 2, run := some { rn (dsc 2 64) .needTable with desc := { dsc 2 0 with index := true, count := 2 } } },
    0, List.replicate 32 64, { rn (dsc 2 64) .needTable with desc := { dsc 2 0 with index := true, count := 2 } },
    by decide⟩

-- clauses 58
theorem witness_RingsRunTheirDescriptors_15 : ∃ (s : State) (q : Nat) (i : Nat) (u : Run),
    let r := ring s q
    wf {} s.rings = true ∧ r.run = some u ∧ u.phase = .destWait ∧ (u.desc.op = 3 ∨ u.desc.op = 4) ∧
    writerSleeve s q = some i ∧ recordFits s i u.total = true :=
  ⟨rng 0 { rg with run := some { rn (dsc 3 64) .destWait with burst := 0 } }, 0, 0,
    { rn (dsc 3 64) .destWait with burst := 0 }, by decide⟩

-- clauses 29
theorem witness_RingsRunTheirDescriptors_16 : ∃ (s : State) (q : Nat) (bs : List Byte),
    let r := ring s q
    let d := (parseDesc bs).1
    wf {} s.rings = true ∧ answerable s q .desc = true ∧ r.running = true ∧ r.halt = 0 ∧ r.head ≠ r.tail ∧
    r.run = none ∧ r.flushTo = none ∧ (parseDesc bs).2 = true ∧ descOk s q d = true ∧ d.op = 1 ∧
    ringKind s q = .notice :=
  ⟨rng 2 { rg with ask := some .desc, asked := 1, head := 3, tail := 5 }, 2, dbytes 1 4 256 0 0,
    by decide⟩

-- clauses 31
theorem witness_RingsRunTheirDescriptors_17 : ∃ (s : State) (q : Nat) (bs : List Byte),
    let r := ring s q
    let d := (parseDesc bs).1
    wf {} s.rings = true ∧ answerable s q .desc = true ∧ r.running = true ∧ r.halt = 0 ∧ r.head ≠ r.tail ∧
    r.run = none ∧ r.flushTo = none ∧ (parseDesc bs).2 = true ∧ descOk s q d = true ∧ d.op = 2 ∧ d.index = false :=
  ⟨{ rng 0 { rg with ask := some .desc, asked := 1, head := 3, tail := 5 } with image := some { imgD with sleeves := imgS.sleeves.modify 3 (fun d => { d with readers := [{ unit := 0x11, index := 0 }] }) }, sleeves := upd {} 3 (fun v => { v with hwm := 4096 }) runS.sleeves },
    0, dbytes 2 0 64 0x600000 0, by decide⟩

-- clauses 39
theorem witness_RingsRunTheirDescriptors_18 : ∃ (s : State) (q : Nat) (bs : List Byte) (u : Run),
    let r := ring s q
    let u' : Run := { u with table := parseTable u.desc.count bs }
    wf {} s.rings = true ∧ answerable s q .table = true ∧ r.run = some u ∧ u.phase = .needTable ∧ u.desc.op = 2 ∧
    u.desc.index = true ∧ u.desc.tableSide = 0 ∧ r.halt = 0 ∧ 0 < u.desc.count ∧ u.moved = 0 ∧ u.elem = 0 ∧
    u.elemMoved = 0 ∧ elemOk s q u' 0 = true :=
  ⟨{ rng 0 { rg with ask := some .table, asked := 1, run := some { rn (dsc 2 64) .needTable with desc := { dsc 2 0 with index := true, count := 1 } } } with image := some { imgD with sleeves := imgS.sleeves.modify 3 (fun d => { d with readers := [{ unit := 0x11, index := 0 }] }) }, sleeves := upd {} 3 (fun v => { v with hwm := 8192 }) runS.sleeves },
    0, leBytes 8 0x600000 ++ leBytes 4 64 ++ leBytes 4 0,
    { rn (dsc 2 64) .needTable with desc := { dsc 2 0 with index := true, count := 1 } },
    by decide⟩

-- clauses 36
theorem witness_RingsRunTheirDescriptors_19 : ∃ (s : State) (q : Nat) (bs : List Byte) (u : Run),
    let r := ring s q
    let canWrite := r.waiting = [] ∧ r.full = false ∧ r.disabling = false
    let u' : Run := { u with table := parseTable u.desc.count bs }
    wf {} s.rings = true ∧ answerable s q .table = true ∧ r.run = some u ∧ u.phase = .needTable ∧ canWrite ∧
    sourceBad s q u' = true :=
  ⟨rng 0 { rg with ask := some .table, asked := 1, run := some { rn (dsc 2 64) .needTable with desc := { dsc 2 0 with index := true, count := 1, tableSide := 1 } } },
    0, leBytes 8 0x600000 ++ leBytes 4 64 ++ leBytes 4 0,
    { rn (dsc 2 64) .needTable with desc := { dsc 2 0 with index := true, count := 1, tableSide := 1 } },
    by decide⟩

-- clauses 41
theorem witness_RingsRunTheirDescriptors_20 : ∃ (s : State) (q : Nat) (u : Run),
    let r := ring s q
    let canWrite := r.waiting = [] ∧ r.full = false ∧ r.disabling = false
    wf {} s.rings = true ∧ r.run = some u ∧ u.phase = .burstOver ∧ u.aborting = true ∧ canWrite :=
  ⟨rng 0 { rg with run := some { rn (dsc 2 64) .burstOver with aborting := true, burst := 8 } }, 0,
    { rn (dsc 2 64) .burstOver with aborting := true, burst := 8 }, by decide⟩

-- clauses 44
theorem witness_RingsRunTheirDescriptors_21 : ∃ (s : State) (q : Nat) (u : Run),
    let r := ring s q
    wf {} s.rings = true ∧ r.run = some u ∧ u.phase = .burstOver ∧ u.aborting = false ∧ u.desc.op = 2 ∧
    u.desc.index = false ∧ ringKind s q = .xfer ∧ r.halt = 0 ∧ 0 < u.burst ∧ u.moved + u.burst < u.desc.length :=
  ⟨rng 0 { rg with run := some { rn (dsc 2 128) .burstOver with burst := 64 } }, 0,
    { rn (dsc 2 128) .burstOver with burst := 64 }, by decide⟩

-- clauses 63
theorem witness_RingsRunTheirDescriptors_22 : ∃ (s : State) (q : Nat) (g : Nat) (c : Nat) (bs : List Byte) (u : Run),
    let r := ring s q
    let canWrite := r.waiting = [] ∧ r.full = false ∧ r.disabling = false
    wf {} s.rings = true ∧ firstNotice s q = some (g, c, bs) ∧ r.run = some u ∧ ringFree s q = true ∧ canWrite ∧
    u.desc.length < 256 :=
  ⟨ntc (rng 2 { rg with run := some (rn (dsc 1 255) .moving) }), 2, 1, 0, [1,2,3], rn (dsc 1 255) .moving,
    by decide⟩

-- clauses 33
theorem witness_RingsRunTheirDescriptors_23 : ∃ (s : State) (q : Nat) (u : Run),
    let r := ring s q
    wf {} s.rings = true ∧ answerable s q .table = true ∧ r.run = some u ∧ u.phase ≠ .needTable :=
  ⟨rng 0 { rg with ask := some .table, asked := 1, run := some (rn (dsc 2 64) .moving) }, 0, rn (dsc 2 64) .moving,
    by decide⟩

-- clauses 59
theorem witness_RingsRunTheirDescriptors_24 : ∃ (s : State) (q : Nat) (i : Nat) (u : Run),
    let r := ring s q
    wf {} s.rings = true ∧ r.run = some u ∧ u.phase = .destWait ∧ (u.desc.op = 3 ∨ u.desc.op = 4) ∧
    writerSleeve s q = some i ∧ recordFits s i u.total = false :=
  ⟨slv 0 (fun v => { v with wcount := 2097152 }) { rng 0 { rg with run := some (rn (dsc 3 32768) .destWait) } with image := some { imgD with sleeves := imgS.sleeves.modify 0 (fun d => { d with readers := [{ unit := 0x11, guarded := true, index := 1 }] }) } },
    0, 0, rn (dsc 3 32768) .destWait, by decide⟩

-- clauses 16
theorem witness_RingsRunTheirDescriptors_25 : ∃ (s : State) (q : Nat) (u : Run),
    let r := ring s q
    let canWrite := r.waiting = [] ∧ r.full = false ∧ r.disabling = false
    wf {} s.rings = true ∧ declared s q = true ∧ r.run = some u ∧ u.phase = .burstOver ∧ 3 ≤ u.desc.op ∧ canWrite ∧
    u.moved = u.total :=
  ⟨rng 0 { rg with run := some { rn (dsc 3 64) .burstOver with moved := 64 } }, 0,
    { rn (dsc 3 64) .burstOver with moved := 64 }, by decide⟩

-- clauses 15
theorem witness_RingsRunTheirDescriptors_26 : ∃ (s : State) (q : Nat) (u : Run),
    let r := ring s q
    let canWrite := r.waiting = [] ∧ r.full = false ∧ r.disabling = false
    wf {} s.rings = true ∧ declared s q = true ∧ r.run = some u ∧ u.phase = .burstOver ∧ 3 ≤ u.desc.op ∧ canWrite ∧
    u.moved ≠ u.total :=
  ⟨rng 0 { rg with run := some { rn (dsc 3 128) .burstOver with moved := 64 } }, 0,
    { rn (dsc 3 128) .burstOver with moved := 64 }, by decide⟩

-- clause 6
theorem witness_RingsRunTheirDescriptors_27 : ∃ (s : State) (q : Nat) (w : Word) (e : _),
    let r := ring s q
    let v := fld w.toNat 0 16
    r.waiting = [e] ∧ wf {} s.rings = true ∧ (r.running = false ∨ v < r.size) ∧ (r.ctail + 1) % r.size ≠ v :=
  ⟨rng 0 { rg with waiting := [noticeEntry 4 0 1 2 3], ctail := 15, chead := 0 }, 0, 5, _, rfl,
    by decide⟩

-- clause 26
theorem witness_RingsRunTheirDescriptors_28 : ∃ (s : State) (q : Nat) (k : _),
    let r := ring s q
    let canWrite := r.waiting = [] ∧ r.full = false ∧ r.disabling = false
    r.flushTo = some k ∧ wf {} s.rings = true ∧ answerable s q .desc = true ∧ r.running = true ∧ r.halt = 0 ∧
    r.head ≠ r.tail ∧ r.run = none ∧ canWrite :=
  ⟨rng 0 { rg with ask := some .desc, asked := 1, head := 3, tail := 5, flushTo := some 4 }, 0, _, rfl,
    by decide⟩

-- clause 47
theorem witness_RingsRunTheirDescriptors_29 : ∃ (s : State),
    wf {} s.rings = true :=
  ⟨rng 0 rg, by decide⟩

-- clause 60
theorem witness_RingsRunTheirDescriptors_30 : ∃ (s : State) (q : Nat) (u : Run) (k : _),
    let r := ring s q
    let canWrite := r.waiting = [] ∧ r.full = false ∧ r.disabling = false
    ringDecl s q = some k ∧ wf {} s.rings = true ∧ r.run = some u ∧ k.flushUs ≠ 0 ∧ 0 < u.moved ∧
    ringFree s q = true ∧ canWrite :=
  ⟨rng 1 { rg with run := some { rn (dsc 1 64) .moving with moved := 16 } }, 1,
    { rn (dsc 1 64) .moving with moved := 16 }, _, rfl, by decide⟩

-- clause 60
theorem witness_RingsRunTheirDescriptors_31 : ∃ (s : State) (q : Nat) (u : Run) (k : _),
    let r := ring s q
    ringDecl s q = some k ∧ (k.flushUs = 0 ∨ u.moved = 0 ∨ ringFree s q = false) ∧ wf {} s.rings = true ∧
    r.run = some u :=
  ⟨rng 0 { rg with run := some (rn (dsc 2 64) .bursting) }, 0, rn (dsc 2 64) .bursting, _, rfl,
    by decide⟩

-- clause 18
theorem witness_RingsRunTheirDescriptors_late : ∃ (s : State) (q : Nat) (ws : List Entry) (e : Entry),
    wf {} s.rings = true ∧
    declared s q = true ∧ (ring s q).run = none ∧ (ring s q).waiting = ws ++ [e] :=
  ⟨rng 0 { rg with waiting := [⟨1, 1, 2, false, false, false, false, 0, 0, 0, 0⟩, ⟨2, 0, 2, false, false, false, false, 0, 0, 0, 0⟩] },
    0,
    [_], _, by decide, by decide, rfl, rfl⟩

/-! CalibrationTurnSteps -/

-- clauses 1, 2, 3
theorem witness_CalibrationTurnSteps_1 : ∃ (s : State),
    s.cal.run = none :=
  ⟨run0, by decide⟩

-- clauses 4
theorem witness_CalibrationTurnSteps_2 : ∃ (s : State) (u : CalRun),
    s.cal.run = some u ∧ u.step = .dc ∧ u.aborting = false ∧ u.range ≠ 2 :=
  ⟨trn { run1 with step := .dc }, { run1 with step := .dc }, by decide⟩

-- clauses 5
theorem witness_CalibrationTurnSteps_3 : ∃ (s : State) (u : CalRun),
    s.cal.run = some u ∧ u.step = .dc ∧ u.aborting = false ∧ u.range = 2 :=
  ⟨trn { run1 with step := .dc, range := 2, resid := [(1,[2])] },
    { run1 with step := .dc, range := 2, resid := [(1,[2])] }, by decide⟩

-- clauses 6
theorem witness_CalibrationTurnSteps_4 : ∃ (s : State) (u : CalRun),
    s.cal.run = some u ∧ u.step = .compute ∧ u.aborting = false :=
  ⟨trn { run1 with step := .compute, delay := 99, measured := [(49, { offset := 40000 })] },
    { run1 with step := .compute, delay := 99, measured := [(49, { offset := 40000 })] }, by decide⟩

-- clauses 7
theorem witness_CalibrationTurnSteps_5 : ∃ (s : State) (u : CalRun),
    s.cal.run = some u ∧ u.step = .ret ∧ u.awaitSeam = false ∧ (chan s u.channel).liningTransit = none ∧
    u.waiting = 0 ∧ u.aborting = false :=
  ⟨trn { run1 with step := .ret, awaitSeam := false, waiting := 0 },
    { run1 with step := .ret, awaitSeam := false, waiting := 0 }, by decide⟩

-- clauses 8
theorem witness_CalibrationTurnSteps_6 : ∃ (s : State) (u : CalRun),
    s.cal.run = some u ∧ u.step = .ret ∧ u.awaitSeam = false ∧ (chan s u.channel).liningTransit = none ∧
    u.waiting = 0 ∧ u.aborting = true :=
  ⟨trn { run1 with step := .ret, awaitSeam := false, waiting := 0, aborting := true },
    { run1 with step := .ret, awaitSeam := false, waiting := 0, aborting := true }, by decide⟩

-- clauses 9
theorem witness_CalibrationTurnSteps_7 : ∃ (s : State) (u : CalRun),
    s.cal.run = some u ∧ u.step = .ret ∧ u.awaitSeam = false ∧ (chan s u.channel).liningTransit = none ∧
    u.waiting ≠ 0 :=
  ⟨trn { run1 with step := .ret, awaitSeam := false, waiting := 12 },
    { run1 with step := .ret, awaitSeam := false, waiting := 12 }, by decide⟩

/-! TrackerCorrects -/

-- clauses 1
theorem witness_TrackerCorrects_1 : ∃ (s : State) (ch : Nat),
    let turn : Bool := match s.cal.run with
      | some u => u.channel == ch
      | none => false
    (functionLive s = false ∨ calActive s ch = true ∨ turn = true) :=
  ⟨State.reset, 1, by decide⟩

-- clauses 2
theorem witness_TrackerCorrects_2 : ∃ (s : State) (ch : Nat),
    let turn : Bool := match s.cal.run with
      | some u => u.channel == ch
      | none => false
    functionLive s = true ∧ calActive s ch = false ∧ turn = false :=
  ⟨run0, 1, by decide⟩

/-- A running function under the tracker's policy, channel 1's last correction at `t`. -/
def trkS (t : Nat) : State :=
  { run0 with cal := { policy := 1, lastApplied := [(1, t)] }, time := { run0.time with count := 800001954, cycle := 800001954 } }

-- clause 2: a correction is due
theorem witness_TrackerCorrects_due : ∃ (s : State) (ch : Nat) (power : Bool) (ofs : List Int) (est : List Estimate),
    let o : Bool := decide (10 * (chan s ch).flagged ≤ 2 ^ 35)
    functionLive s = true ∧ calActive s ch = false ∧ s.cal.run = none ∧ s.cal.policy = 1 ∧
      (look 0 s.cal.lastApplied ch = 0 ∨ look 0 s.cal.lastApplied ch + 204800000000 ≤ now s + 1) ∧
      (List.range 16).any (fun k => trackDue (trimOf s (trimIndex ch (chan s ch).range k)) (ofs.getD k 0) (est.getD k {}) o (o && power)) = true ∧
      s.cal.updates.all (fun u => u.channel != ch) = true := by
  refine ⟨trkS 0, 1, false,
    List.replicate 16 (16 * ((trimOf (trkS 0) (trimIndex 1 (chan (trkS 0) 1).range 0)).offset + 1)), [],
    by decide, by decide, by decide, by decide, by decide, ?_, by decide⟩
  refine List.any_eq_true.2 ⟨0, by decide, ?_⟩
  rw [show decide (10 * (chan (trkS 0) 1).flagged ≤ 2 ^ 35) = true by decide]
  simp only [trackDue, List.getD_eq_getElem?_getD, List.getElem?_replicate, roundCode]
  simp
  split <;> omega

-- clause 2: no policy
theorem witness_TrackerCorrects_none : ∃ (s : State) (ch : Nat), functionLive s = true ∧ calActive s ch = false ∧
    s.cal.run = none ∧ s.cal.policy ≠ 1 :=
  ⟨run0, 3, by decide⟩

-- clause 2: one fine tick before the 10 s are over
theorem witness_TrackerCorrects_early : ∃ (s : State) (ch : Nat), functionLive s = true ∧ calActive s ch = false ∧
    s.cal.run = none ∧ s.cal.policy = 1 ∧
    ¬ (look 0 s.cal.lastApplied ch = 0 ∨ look 0 s.cal.lastApplied ch + 204800000000 ≤ now s + 1) :=
  ⟨trkS 500225, 1, by decide⟩

/-! RecorderMonitorsRailAndManagement -/

-- clauses 1, 2, 8, 9, 11, 13, 14, 23, 25, 26, 31, 32, 36, 38, 39, 40, 41, 47
theorem witness_RecorderMonitorsRailAndManagement_1 : ∃ (s : State) (p : Nat),
    let r := s.recorder
    let m := s.mon
    wf none s.recorder.mram = true ∧ wf none s.recorder.vring = true ∧
    (s.pwr.osc = false ∨ r.freeze.isSome = true) ∧ (r.vqueue = [] ∨ flashHeld s = true) ∧ s.pwr.osc = false ∧
    s.pwr.analysis = false ∧ (s.pwr.osc = false ∨ m.inPass = true ∧ m.entry < passEntries m) ∧ entryDue s = false ∧
    (s.pwr.osc = false ∨ m.inPass = false ∨ m.started = false) ∧ m.urgent = none ∧ s.pwr.vaux = false ∧
    tbit s.pkg.dperstDue p = false :=
  ⟨State.reset, 3, by decide⟩

-- clauses 3, 6, 12, 15, 21, 27, 29, 34, 42, 43, 44, 46
theorem witness_RecorderMonitorsRailAndManagement_2 : ∃ (s : State) (n : Nat) (slack : Nat) (w : Word),
    let r := s.recorder
    let m := s.mon
    let on := s.pwr.osc = true
    let e := passEntry m m.entry
    wf none s.recorder.mram = true ∧ wf none s.recorder.vring = true ∧ on ∧ r.freeze = none ∧ s.life.stop = none ∧
    s.pwr.staged = false ∧ r.lost = 0 ∧ r.queue = [] ∧ r.lostFrozen = 0 ∧ s.mbox.running ≠ some .logFreeze ∧
    r.degraded = false ∧ s.pwr.analysis = true ∧ (26 ≤ slack ∨ 850 ≤ s.pwr.setpoint ∧ 13 ≤ slack) ∧
    (s.pwr.avsHold = true ∨ slack < 51 ∨ s.pwr.setpoint ≤ 650) ∧ entryDue s = true ∧ e.wait = false ∧
    tbit w.toNat 31 = true ∧ m.urgent = none ∧ s.pwr.vaux = true ∧ s.pwr.testEn = false ∧ n % 256 ≠ 1 ∧
    n % 256 ≠ 0xFF :=
  ⟨mond { inPass := true, entry := 96, passCfg := 1 }, 0x104, 50, 0x80000305, by decide⟩

-- clauses 22, 24, 35, 37, 45
theorem witness_RecorderMonitorsRailAndManagement_3 : ∃ (s : State) (n : Nat) (slack : Nat) (w : Word),
    let m := s.mon
    let on := s.pwr.osc = true
    wf none s.recorder.mram = true ∧ wf none s.recorder.vring = true ∧ s.pwr.analysis = true ∧
    s.pwr.avsHold = false ∧ 51 ≤ slack ∧ 650 < s.pwr.setpoint ∧ on ∧ (m.inPass = false ∨ passEntries m ≤ m.entry) ∧
    tbit w.toNat 31 = true ∧ m.urgent.isSome = true ∧ s.pwr.vaux = true ∧
    (s.pwr.testEn = true ∨ n % 256 = 0xFF ∨ n % 256 = 1) :=
  ⟨mond { urgent := some (1, 2) }, 0x101, 60, 0x80000405, by decide⟩

-- clauses 17, 33, 48
theorem witness_RecorderMonitorsRailAndManagement_4 : ∃ (s : State) (p : Nat) (slack : Nat) (w : Word),
    let on := s.pwr.osc = true
    wf none s.recorder.mram = true ∧ wf none s.recorder.vring = true ∧ s.pwr.analysis = true ∧ slack < 13 ∧
    850 ≤ s.pwr.setpoint ∧ s.life.sys = .running ∧ on ∧ tbit w.toNat 31 = false ∧ tbit s.pkg.dperstDue p = true :=
  ⟨{ run0 with pkg := { run0.pkg with dperstDue := 6, dperst := 1 } }, 1, 5, 0, by decide⟩

-- clauses 7
theorem witness_RecorderMonitorsRailAndManagement_5 : ∃ (s : State),
    let r := s.recorder
    let on := s.pwr.osc = true
    wf none s.recorder.mram = true ∧ wf none s.recorder.vring = true ∧ on ∧ r.freeze = none ∧ r.degraded = true :=
  ⟨recd { queue := [rec0 0x1020], degraded := true, vqueue := [rec0 0x1020] }, by decide⟩

-- clauses 16
theorem witness_RecorderMonitorsRailAndManagement_6 : ∃ (s : State) (slack : Nat),
    wf none s.recorder.mram = true ∧ wf none s.recorder.vring = true ∧ s.pwr.analysis = true ∧ slack < 26 ∧
    s.pwr.setpoint < 850 :=
  ⟨pwd (fun p => { p with setpoint := 848 }), 25, by decide⟩

-- clauses 30
theorem witness_RecorderMonitorsRailAndManagement_7 : ∃ (s : State),
    let m := s.mon
    let on := s.pwr.osc = true
    wf none s.recorder.mram = true ∧ wf none s.recorder.vring = true ∧ on ∧ m.inPass = true ∧ m.started = true :=
  ⟨mond { inPass := true, entry := 97, passCfg := 1, started := true }, by decide⟩

-- clauses 28
theorem witness_RecorderMonitorsRailAndManagement_8 : ∃ (s : State),
    let m := s.mon
    let e := passEntry m m.entry
    wf none s.recorder.mram = true ∧ wf none s.recorder.vring = true ∧ entryDue s = true ∧ e.wait = true :=
  ⟨mond { inPass := true, entry := 96, passCfg := 1, passHost := [(96, { wait := true })] },
    by decide⟩

-- clauses 18
theorem witness_RecorderMonitorsRailAndManagement_9 : ∃ (s : State) (slack : Nat),
    wf none s.recorder.mram = true ∧ wf none s.recorder.vring = true ∧ s.pwr.analysis = true ∧ slack < 13 ∧
    850 ≤ s.pwr.setpoint ∧ (s.life.sys = .restarting ∨ s.life.sys = .loading) ∧ s.life.stopAtStart = .none :=
  ⟨{ pwd (fun p => { p with setpoint := 850 }) with life := { sys := .loading } }, 12, by decide⟩

-- clauses 19
theorem witness_RecorderMonitorsRailAndManagement_10 : ∃ (s : State) (slack : Nat),
    wf none s.recorder.mram = true ∧ wf none s.recorder.vring = true ∧ s.pwr.analysis = true ∧ slack < 13 ∧
    850 ≤ s.pwr.setpoint ∧ (s.life.sys = .restarting ∨ s.life.sys = .loading) ∧ s.life.stopAtStart ≠ .none :=
  ⟨{ pwd (fun p => { p with setpoint := 850 }) with life := { sys := .loading, stopAtStart := .thermal } }, 12,
    by decide⟩

-- clauses 20
theorem witness_RecorderMonitorsRailAndManagement_11 : ∃ (s : State) (slack : Nat),
    wf none s.recorder.mram = true ∧ wf none s.recorder.vring = true ∧ s.pwr.analysis = true ∧ slack < 13 ∧
    850 ≤ s.pwr.setpoint ∧ s.life.sys ≠ .running ∧ s.life.sys ≠ .restarting ∧ s.life.sys ≠ .loading :=
  ⟨{ pwd (fun p => { p with setpoint := 850 }) with life := { sys := .stopped } }, 12, by decide⟩

-- clause 5
theorem witness_RecorderMonitorsRailAndManagement_12 : ∃ (s : State) (x : _) (q : _),
    let r := s.recorder
    let on := s.pwr.osc = true
    r.queue = x :: q ∧ wf none s.recorder.mram = true ∧ wf none s.recorder.vring = true ∧ on ∧ r.freeze = none ∧
    s.life.stop = none ∧ s.pwr.staged = false ∧ r.lost = 0 ∧ (r.lostFrozen = 0 ∨ r.lostAfter ≠ 0) ∧
    r.degraded = true :=
  ⟨recd { queue := [rec0 0x1020], degraded := true, vqueue := [rec0 0x1020] }, _, _, rfl,
    by decide⟩

-- clause 5
theorem witness_RecorderMonitorsRailAndManagement_13 : ∃ (s : State) (x : _) (q : _) (k : _),
    let r := s.recorder
    let on := s.pwr.osc = true
    r.queue = x :: q ∧ r.mergeable x = some k ∧ wf none s.recorder.mram = true ∧ wf none s.recorder.vring = true ∧
    on ∧ r.freeze = none ∧ s.life.stop = none ∧ s.pwr.staged = false ∧ r.lost = 0 ∧
    (r.lostFrozen = 0 ∨ r.lostAfter ≠ 0) ∧ r.degraded = false :=
  ⟨recd { queue := [rec0 1, rec0 2], newestRing := some (64, 0), ringOpen := (64, 1), mram := [(4096, some (rec0 1))], seq := 1 },
    _, _, (64, 0), rfl, rfl, by decide⟩

-- clause 5
theorem witness_RecorderMonitorsRailAndManagement_14 : ∃ (s : State) (x : _) (q : _),
    let r := s.recorder
    let on := s.pwr.osc = true
    r.queue = x :: q ∧ r.mergeable x = none ∧ wf none s.recorder.mram = true ∧ wf none s.recorder.vring = true ∧
    on ∧ r.freeze = none ∧ s.life.stop = none ∧ s.pwr.staged = false ∧ r.lost = 0 ∧
    (r.lostFrozen = 0 ∨ r.lostAfter ≠ 0) ∧ r.degraded = false ∧ (r.placeFor x).2 < 63 :=
  ⟨recd { queue := [rec0 0x1020, rec0 0x1021] }, _, _, rfl, by decide⟩

-- clause 5
theorem witness_RecorderMonitorsRailAndManagement_15 : ∃ (s : State) (x : _) (q : _),
    let r := s.recorder
    let on := s.pwr.osc = true
    r.queue = x :: q ∧ wf none s.recorder.mram = true ∧ wf none s.recorder.vring = true ∧ on ∧ r.freeze = none ∧
    s.life.stop = none ∧ s.pwr.staged = false ∧ r.lost = 0 ∧ (r.lostFrozen = 0 ∨ r.lostAfter ≠ 0) ∧
    r.degraded = false :=
  ⟨recd { queue := [rec0 0x1020, rec0 0x1021] }, _, _, rfl, by decide⟩

-- clause 5
theorem witness_RecorderMonitorsRailAndManagement_16 : ∃ (s : State) (x : _) (q : _),
    let r := s.recorder
    let on := s.pwr.osc = true
    r.queue = x :: q ∧ wf none s.recorder.mram = true ∧ wf none s.recorder.vring = true ∧ on ∧ r.freeze = none ∧
    s.life.stop = none ∧ s.pwr.staged = false ∧ r.lost = 0 ∧ (r.lostFrozen = 0 ∨ r.lostAfter ≠ 0) ∧
    r.degraded = false ∧ r.bad.length < 64 :=
  ⟨recd { queue := [rec0 0x1020, rec0 0x1021] }, _, _, rfl, by decide⟩

-- clause 5
theorem witness_RecorderMonitorsRailAndManagement_17 : ∃ (s : State) (x : _) (q : _),
    let r := s.recorder
    let on := s.pwr.osc = true
    let u := (replaceBlock x { r with queue := q, lostAfter := r.lostAfter - 1 }).1
    r.queue = x :: q ∧ r.goesReserved x = false ∧ r.mergeable x = none ∧ u.mergeable x = none ∧
    wf none s.recorder.mram = true ∧ wf none s.recorder.vring = true ∧ on ∧ r.freeze = none ∧ s.life.stop = none ∧
    s.pwr.staged = false ∧ r.lost = 0 ∧ (r.lostFrozen = 0 ∨ r.lostAfter ≠ 0) ∧ r.degraded = false ∧
    r.bad.length < 64 ∧ x.code ≠ 0x2022 ∧ r.ringOpen.2 < 62 :=
  ⟨recd { queue := [rec0 0x1020, rec0 0x1021] }, _, _, rfl, by decide⟩

-- clause 5
theorem witness_RecorderMonitorsRailAndManagement_18 : ∃ (s : State) (x : _) (q : _),
    let r := s.recorder
    let on := s.pwr.osc = true
    r.queue = x :: q ∧ wf none s.recorder.mram = true ∧ wf none s.recorder.vring = true ∧ on ∧ r.freeze = none ∧
    s.life.stop = none ∧ s.pwr.staged = false ∧ r.lost = 0 ∧ (r.lostFrozen = 0 ∨ r.lostAfter ≠ 0) ∧
    r.degraded = false ∧ 64 ≤ r.bad.length :=
  ⟨recd { queue := [rec0 0x1020], bad := List.range 64 }, _, _, rfl, by decide⟩

-- clause 10
theorem witness_RecorderMonitorsRailAndManagement_19 : ∃ (s : State) (x : _) (q : _),
    let r := s.recorder
    r.vqueue = x :: q ∧ wf none s.recorder.mram = true ∧ wf none s.recorder.vring = true ∧ flashHeld s = false ∧
    r.fbNext < 1024 :=
  ⟨{ recd { vqueue := [rec0 0x1020, rec0 1], fbNext := 1023 } with img := { run0.img with loading := false } }, _,
    _, rfl, by decide⟩

-- clause 10
theorem witness_RecorderMonitorsRailAndManagement_20 : ∃ (s : State) (x : _) (q : _),
    let r := s.recorder
    r.vqueue = x :: q ∧ wf none s.recorder.mram = true ∧ wf none s.recorder.vring = true ∧ flashHeld s = false ∧
    1024 ≤ r.fbNext :=
  ⟨{ recd { vqueue := [rec0 1], fbNext := 1024, fbArea := [(0, some (rec0 2))] } with img := { run0.img with loading := false } },
    _, _, rfl, by decide⟩

-- clause 4: RECORDS_LOST after discards, in DEGRADED and in MRAM, and after a freeze
theorem witness_RecorderMonitorsRailAndManagement_lost : ∃ (s : State) (k : Nat),
    wf none s.recorder.mram = true ∧ wf none s.recorder.vring = true ∧ s.pwr.osc = true ∧ s.recorder.freeze = none ∧
      s.life.stop = none ∧ s.pwr.staged = false ∧ s.recorder.lost = k ∧ k ≠ 0 ∧ s.recorder.degraded = true :=
  ⟨recd { lost := 3, degraded := true }, 3, by decide⟩

theorem witness_RecorderMonitorsRailAndManagement_frozen : ∃ (s : State) (k : Nat),
    wf none s.recorder.mram = true ∧ wf none s.recorder.vring = true ∧ s.pwr.osc = true ∧ s.recorder.freeze = none ∧
      s.life.stop = none ∧ s.pwr.staged = false ∧ s.recorder.lost = 0 ∧ s.recorder.lostFrozen = k ∧ k ≠ 0 ∧
      s.recorder.lostAfter = 0 ∧ s.recorder.degraded = false ∧
      s.recorder.mergeable (recordOf s 0x2025 0xFF [k]) = none ∧
      (s.recorder.placeFor (recordOf s 0x2025 0xFF [k])).2 < 63 :=
  ⟨recd { lostFrozen := 5 }, 5, by decide⟩

end Sys2Proof.Tests
end

section
/-! PROOF. What the recording engine's work leaves alone, and the cycle that passes on an empty queue (log 1). -/

namespace Sys2Proof.Machine

/-! ## The parts of the state that the recording engine's own work can change -/

/-- The state with the parts that the recording engine writes as it goes on taken out: the drives and the volume, the
readers and markers of the sleeves it records, its counters and pulses, and what it sends to the drives. Two states with
the same `outsideDrives` agree in every other part. -/
def outsideDrives (s : State) : State := { s with disk := {}, sleeves := [], snap := {}, stat := {}, outbox := [] }

/-- A repeated change keeps the rest of the state if one does. -/
@[simp] theorem outsideDrives_foldl {α : Type} {f : State → α → State}
    (hf : ∀ s a, outsideDrives (f s a) = outsideDrives s) (l : List α) (s : State) :
    outsideDrives (l.foldl f s) = outsideDrives s := by
  induction l generalizing s with
  | nil => rfl
  | cons a r ih => exact (ih (f s a)).trans (hf s a)

@[simp] theorem outsideDrives_mVol (f : Volume → Volume) (s : State) : outsideDrives (mVol f s) = outsideDrives s := rfl
@[simp] theorem outsideDrives_mDrive (d : Nat) (f : Drive → Drive) (s : State) :
    outsideDrives (mDrive d f s) = outsideDrives s := rfl
@[simp] theorem outsideDrives_mSleeve (i : Nat) (f : Sleeve → Sleeve) (s : State) :
    outsideDrives (mSleeve i f s) = outsideDrives s := rfl
@[simp] theorem outsideDrives_mExtent (seq : Nat) (f : Extent → Extent) (s : State) :
    outsideDrives (mExtent seq f s) = outsideDrives s := rfl
@[simp] theorem outsideDrives_emit (o : Output) (s : State) : outsideDrives (emit o s) = outsideDrives s := rfl
@[simp] theorem outsideDrives_pulse0 (n bit : Nat) (s : State) : outsideDrives (pulse0 n bit s) = outsideDrives s := rfl
@[simp] theorem outsideDrives_bumpBy (n off k : Nat) (s : State) :
    outsideDrives (bumpBy n off k s) = outsideDrives s := by
  unfold bumpBy
  split <;> rfl
@[simp] theorem outsideDrives_bump (n off : Nat) (s : State) : outsideDrives (bump n off s) = outsideDrives s :=
  outsideDrives_bumpBy n off 1 s

/-! ### Commands to the drives -/

@[simp] theorem outsideDrives_issueCmd (d q : Nat) (op : NvmeOp) (retried : Bool) (s : State) :
    outsideDrives (issueCmd d q op retried s) = outsideDrives s := by
  simp [issueCmd]

/-- A command is issued or waits on its drive. -/
@[simp] theorem outsideDrives_submit (d : Nat) (op : NvmeOp) (retried : Bool) (s : State) :
    outsideDrives (submit d op retried s) = outsideDrives s := by
  simp only [submit]
  repeat' split
  all_goals simp

@[simp] theorem outsideDrives_submitLive (op : NvmeOp) (s : State) :
    outsideDrives (submitLive op s) = outsideDrives s := by
  simp [submitLive]

@[simp] theorem outsideDrives_pumpAll (s : State) : outsideDrives (pumpAll s) = outsideDrives s := by
  simp [pumpAll, pumpDrive]

/-! ### Headers, labels and extents -/

@[simp] theorem outsideDrives_putHeader (seq : Nat) (f : Extent → Extent) (s : State) :
    outsideDrives (putHeader seq f s) = outsideDrives s := by
  simp only [putHeader]
  split <;> simp

@[simp] theorem outsideDrives_rewriteHeader (seq : Nat) (f : Extent → Extent) (s : State) :
    outsideDrives (rewriteHeader seq f s) = outsideDrives s := by
  simp [rewriteHeader]

@[simp] theorem outsideDrives_writeLabel (closed : Bool) (s : State) :
    outsideDrives (writeLabel closed s) = outsideDrives s := by
  simp only [writeLabel]
  split <;> simp

@[simp] theorem outsideDrives_closeExtent (seq bits : Nat) (s : State) :
    outsideDrives (closeExtent seq bits s) = outsideDrives s := by
  unfold closeExtent
  repeat' split
  all_goals simp

@[simp] theorem outsideDrives_chainExtent (seq : Nat) (s : State) :
    outsideDrives (chainExtent seq s) = outsideDrives s := by
  unfold chainExtent
  split <;> simp

@[simp] theorem outsideDrives_endRewrite (s : State) (e : Extent) :
    outsideDrives (endRewrite s e) = outsideDrives s := by
  unfold endRewrite
  repeat' split
  all_goals simp

/-- Whatever the phase it is in, an extent moves on by commands, headers and a label. -/
@[simp] theorem outsideDrives_advanceExtent (s : State) (e : Extent) :
    outsideDrives (advanceExtent s e) = outsideDrives s := by
  unfold advanceExtent
  repeat' split
  all_goals simp

@[simp] theorem outsideDrives_advanceLabel (s : State) : outsideDrives (advanceLabel s) = outsideDrives s := by
  simp only [advanceLabel]
  repeat' split
  all_goals simp

@[simp] theorem outsideDrives_labelDue (s : State) : outsideDrives (labelDue s) = outsideDrives s := by
  simp only [labelDue]
  repeat' split
  all_goals simp

@[simp] theorem outsideDrives_endStripes (s : State) : outsideDrives (endStripes s) = outsideDrives s := by
  simp [endStripes]

@[simp] theorem outsideDrives_serveExtent (s : State) (e : Extent) :
    outsideDrives (serveExtent s e) = outsideDrives s := by
  simp only [serveExtent]
  repeat' split
  all_goals simp

@[simp] theorem outsideDrives_serveJobs (s : State) : outsideDrives (serveJobs s) = outsideDrives s := by
  simp [serveJobs]

/-! ### The recording streams' readers -/

@[simp] theorem outsideDrives_tidyLoop (i k : Nat) (s : State) :
    outsideDrives (tidyLoop i k s) = outsideDrives s := by
  induction k generalizing s with
  | zero => rfl
  | succ k ih =>
    unfold tidyLoop
    split
    · rfl
    · split <;> simp [ih]

@[simp] theorem outsideDrives_resumeWriter (i : Nat) (s : State) :
    outsideDrives (resumeWriter i s) = outsideDrives s := by
  unfold resumeWriter
  exact outsideDrives_foldl (fun s j => outsideDrives_mSleeve j _ s) _ _

@[simp] theorem outsideDrives_tidyMarkers (i : Nat) (s : State) :
    outsideDrives (tidyMarkers i s) = outsideDrives s := by
  simp only [tidyMarkers]
  split <;> simp

@[simp] theorem outsideDrives_settleDsk (i : Nat) (s : State) :
    outsideDrives (settleDsk i s) = outsideDrives s := by
  simp only [settleDsk]
  split <;> simp

/-! ### The engine's work as time passes -/

theorem outsideDrives_progress (s : State) : outsideDrives (progress s) = outsideDrives s := by
  simp [progress]

/-- Without a volume at work the engine does nothing (R371). -/
theorem driveWork_of_no_volume {s : State} (h : s.disk.vol.state = .none ∨ s.disk.vol.state = .bringup) :
    driveWork s = s := by
  simp [driveWork, h]

theorem outsideDrives_driveWork (s : State) : outsideDrives (driveWork s) = outsideDrives s := by
  unfold driveWork
  split
  · rfl
  · exact outsideDrives_progress s

@[simp] theorem driveWork_time (s : State) : (driveWork s).time = s.time :=
  (congrArg State.time (outsideDrives_driveWork s) :)
@[simp] theorem driveWork_pending (s : State) : (driveWork s).pending = s.pending :=
  (congrArg State.pending (outsideDrives_driveWork s) :)
@[simp] theorem driveWork_life (s : State) : (driveWork s).life = s.life :=
  (congrArg State.life (outsideDrives_driveWork s) :)
@[simp] theorem driveWork_pwr (s : State) : (driveWork s).pwr = s.pwr :=
  (congrArg State.pwr (outsideDrives_driveWork s) :)
@[simp] theorem driveWork_mbox (s : State) : (driveWork s).mbox = s.mbox :=
  (congrArg State.mbox (outsideDrives_driveWork s) :)
@[simp] theorem driveWork_live (s : State) : (driveWork s).live = s.live :=
  (congrArg State.live (outsideDrives_driveWork s) :)
@[simp] theorem driveWork_img (s : State) : (driveWork s).img = s.img :=
  (congrArg State.img (outsideDrives_driveWork s) :)

/-! ## A cycle of the block's own time -/

/-- The end of a pass of the slot table changes the store alone, and only while an image's table runs (R169). -/
theorem passBoundary_eq (s : State) : ∃ store, passBoundary s = { s with store := store } ∧
    (s.store.imageTable = false → store = s.store) := by
  simp only [passBoundary]
  split
  case isTrue h => exact ⟨_, rfl, fun hoff => by simp [hoff] at h⟩
  case isFalse => exact ⟨s.store, rfl, fun _ => rfl⟩

/-- A cycle that passes moves time on by one, and touches beside it the status tree, the mark of a snapshot taken in the
CK_FAB cycle and the channels' marks of samples that arrived. -/
theorem nextCycle_eq (s : State) : ∃ stat here chans, nextCycle s =
    { s with time := s.time.plus 1, stat := stat, snap := { s.snap with here := here }, chans := chans } := by
  simp only [nextCycle, passCycle]
  split
  case isTrue => exact ⟨_, false, _, rfl⟩
  case isFalse => exact ⟨s.stat, s.snap.here, _, rfl⟩

/-- A stop goes on by itself at its fourth step alone (R76). -/
theorem finishClose_of_not_step_four {s : State} (h : ∀ q, s.life.stop = some q → q.step ≠ 4) : finishClose s = s := by
  unfold finishClose
  split
  case h_1 => rfl
  case h_2 q hq => simp [h q hq]

/-- No event edge is handled while the function's units stand still (R75). -/
theorem settleEdges_of_not_running {s : State} (h : s.eng.running = false) : settleEdges s = s := by
  simp [settleEdges, functionLive, h]

/-- The state in which the recording engine finds a cycle that passes while no engine runs. -/
def idleCycle (s : State) : State := mEng (fun a => { a with issuing := false }) (nextCycle (passBoundary s))

/-- What such a cycle changes: the time, the status tree and the marks of what arrived in it, and the store only while
an image's slot table runs. -/
theorem idleCycle_eq (s : State) : ∃ stat here chans store, idleCycle s =
      { s with
        time := s.time.plus 1, stat := stat, snap := { s.snap with here := here }, chans := chans, store := store
        eng := { s.eng with issuing := false } } ∧
    (s.store.imageTable = false → store = s.store) := by
  obtain ⟨store, hpass, hstore⟩ := passBoundary_eq s
  obtain ⟨stat, here, chans, hnext⟩ := nextCycle_eq { s with store := store }
  exact ⟨stat, here, chans, store, by rw [idleCycle, hpass, hnext]; rfl, hstore⟩

/-- With no engine running and no stop at its fourth step, the block's own time is one cycle and the recording engine's
work in it (log 1). -/
theorem ownTime_of_idle {s : State} (hrun : s.eng.running = false) (hstop : ∀ q, s.life.stop = some q → q.step ≠ 4) :
    ownTime s = driveWork (idleCycle s) := by
  have hedges : settleEdges (idleCycle s) = idleCycle s := by
    obtain ⟨_, _, _, _, hidle, -⟩ := idleCycle_eq s
    exact settleEdges_of_not_running (by rw [hidle]; exact hrun)
  calc ownTime s = endCycle (passBoundary s) := by simp [ownTime, hrun, finishClose_of_not_step_four hstop]
    _ = driveWork (settleEdges (idleCycle s)) := rfl
    _ = driveWork (idleCycle s) := by rw [hedges]

/-- A step on an empty queue is the block's own time, settled (log 1). -/
theorem step_of_no_pending {s : State} (h : s.pending = []) : step s = .next (settle s (ownTime (fresh s))) := by
  simp [step, h, tick, act, fresh]

/-- Settles O2: the block's own time is then one cycle and the recording engine's work in it, which leaves the rest of
the state alone and does nothing without a volume. -/
theorem idleStepPassesOneCycle : Obligations.IdleStepPassesOneCycle := by
  unfold Obligations.IdleStepPassesOneCycle
  intro s hqueue hrun hstop
  have hown : ownTime (fresh s) = driveWork (idleCycle (fresh s)) := ownTime_of_idle hrun hstop
  obtain ⟨stat, here, chans, store, hidle, hstore⟩ := idleCycle_eq (fresh s)
  refine ⟨settle s (driveWork (idleCycle (fresh s))), by rw [step_of_no_pending hqueue, hown], ?_⟩
  refine ⟨?cycle, ?counting, ?count, ?queue, ?life, ?pwr, ?mbox, ?live, ?img, fun hvol => ?noVolume⟩
  case noVolume =>
    have hwork : driveWork (idleCycle (fresh s)) = idleCycle (fresh s) :=
      driveWork_of_no_volume (by simpa [hidle] using hvol)
    rw [hwork, hidle]
    exact ⟨rfl, rfl, rfl, hstore⟩
  all_goals simp [hidle, hqueue, TimeBase.plus]

end Sys2Proof.Machine
end

section
/-! PROOF. Every step keeps the store's memory and the key slots canonical, the counters in their ranges, the programmed
key bits and the order of time (R46, R49, R97, R156). -/

namespace Sys2Proof.Laws
open Sys2Proof.Machine

variable {ko : Sparse KeySlot} {kq : List Instr} {kc : Nat}

/-- Every command keeps the facts, the queue of waiting commands among them. -/
theorem keeps_exec (c : Instr) {s t : State} (h : Keeps ko kq kc s) (ht : exec c s = .next t) : Keeps ko kq kc t := by
  cases c with
  | supplyValid vaux straps testEn => exact keeps_execSupplyValid vaux straps testEn h ht
  | supplyInvalid vaux => exact keeps_execSupplyInvalid vaux h ht
  | stbyHigh => exact keeps_execStbyHigh h ht
  | stbyLow straps testEn => exact keeps_execStbyLow straps testEn h ht
  | standbyRailsOff => exact keeps_execStandbyRailsOff h ht
  | railGroupInRegulation group => exact keeps_execRailGroupInRegulation group h ht
  | railFault group input => exact keeps_execRailFault group input h ht
  | ovenOscillatorRuns mramOk found => exact keeps_execOvenOscillatorRuns mramOk found h ht
  | rootSynthLock => exact keeps_execRootSynthLock h ht
  | storeTrainingDone ok0 ok1 => exact keeps_execStoreTrainingDone ok0 ok1 h ht
  | storeZeroed => exact keeps_execStoreZeroed h ht
  | bootPointerRead flash copy0 copy1 => exact keeps_execBootPointerRead flash copy0 copy1 h ht
  | boardRecordRead data => exact keeps_execBoardRecordRead data h ht
  | imageHeaderRead data => exact keeps_execImageHeaderRead data h ht
  | imageBodyRead data firmwareOk => exact keeps_execImageBodyRead data firmwareOk h ht
  | functionStart info => exact keeps_execFunctionStart info h ht
  | hostLinkReady speed width flit => exact keeps_execHostLinkReady speed width flit h ht
  | configRequest write dword => exact keeps_execConfigRequest write dword h ht
  | perstRelease => exact keeps_execPerstRelease h ht
  | perstAssert => exact keeps_execPerstAssert h ht
  | hotReset => exact keeps_execHotReset h ht
  | functionLevelReset => exact keeps_execFunctionLevelReset h ht
  | linkDown => exact keeps_execLinkDown h ht
  | d3hotEntry => exact keeps_execD3hotEntry h ht
  | unsupportedRequest addr => exact keeps_execUnsupportedRequest addr h ht
  | restartRequest v => exact keeps_execRestartRequest v h ht
  | functionStopAtSeam => exact keeps_execFunctionStopAtSeam h ht
  | nvmeDrainDone => exact keeps_execNvmeDrainDone h ht
  | nvmeDrainTimeout => exact keeps_execNvmeDrainTimeout h ht
  | volumeCloseDone => exact keeps_execVolumeCloseDone h ht
  | rootUnlock => exact keeps_execRootUnlock h ht
  | rootRelock => exact keeps_execRootRelock h ht
  | rootRelockTimeout => exact keeps_execRootRelockTimeout h ht
  | bar0Write off dws poisoned => exact keeps_execBar0Write off dws poisoned h ht
  | statSummaryRead => exact keeps_execStatSummaryRead h ht
  | statGrpRead n => exact keeps_execStatGrpRead n h ht
  | keyUnlockWrite v => exact keeps_execKeyUnlockWrite v h ht
  | placketTimeout => exact keeps_execPlacketTimeout h ht
  | snapTake v => exact keeps_execSnapTake v h ht
  | liveShadowWrite n v => exact keeps_execLiveShadowWrite n v h ht
  | liveCommit v => exact keeps_execLiveCommit v h ht
  | liveRangeCheckDone => exact keeps_execLiveRangeCheckDone h ht
  | seamStart => exact keeps_execSeamStart h ht
  | seamEnd => exact keeps_execSeamEnd h ht
  | nop kg => exact keeps_execNop kg h ht
  | getState kg => exact keeps_execGetState kg h ht
  | flashInfo kg => exact keeps_execFlashInfo kg h ht
  | flashRead kg => exact keeps_execFlashRead kg h ht
  | flashErase kg => exact keeps_execFlashErase kg h ht
  | flashProgram kg => exact keeps_execFlashProgram kg h ht
  | boardRead kg => exact keeps_execBoardRead kg h ht
  | ksWrite kg => exact keeps_execKsWrite kg h ht
  | ksRevoke kg => exact keeps_execKsRevoke kg h ht
  | calRunCalibrate kg => exact keeps_execCalRunCalibrate kg h ht
  | calRunAgeing kg => exact keeps_execCalRunAgeing kg h ht
  | calStore kg => exact keeps_execCalStore kg h ht
  | calAbort kg => exact keeps_execCalAbort kg h ht
  | logFreeze kg => exact keeps_execLogFreeze kg h ht
  | logThaw kg => exact keeps_execLogThaw kg h ht
  | logClear kg => exact keeps_execLogClear kg h ht
  | unknownOpcode kg opcode => exact keeps_execUnknownOpcode kg opcode h ht
  | mailboxComplete ok data mismatch => exact keeps_execMailboxComplete ok data mismatch h ht
  | ovenSample err heater => exact keeps_execOvenSample err heater h ht
  | ageingEvaluation => exact keeps_execAgeingEvaluation h ht
  | tuneSlewStep => exact keeps_execTuneSlewStep h ht
  | synthOffsetStep => exact keeps_execSynthOffsetStep h ht
  | refGateComplete nominal err => exact keeps_execRefGateComplete nominal err h ht
  | refEdgeTimeout => exact keeps_execRefEdgeTimeout h ht
  | lockAchieved => exact keeps_execLockAchieved h ht
  | operatingSecond => exact keeps_execOperatingSecond h ht
  | converterSample ch codes => exact keeps_execConverterSample ch codes h ht
  | sliceClamp ch slice => exact keeps_execSliceClamp ch slice h ht
  | deepTrip ch => exact keeps_execDeepTrip ch h ht
  | overloadWindowEnd ch => exact keeps_execOverloadWindowEnd ch h ht
  | neighbourAdjEnd ch => exact keeps_execNeighbourAdjEnd ch h ht
  | adjWindowEnd ch => exact keeps_execAdjWindowEnd ch h ht
  | relaySenseReached ch relay => exact keeps_execRelaySenseReached ch relay h ht
  | relayRetry ch relay => exact keeps_execRelayRetry ch relay h ht
  | relayFault ch relay sensed => exact keeps_execRelayFault ch relay sensed h ht
  | sleeveBlockWrite sleeve time data => exact keeps_execSleeveBlockWrite sleeve time data h ht
  | writerResume sleeve => exact keeps_execWriterResume sleeve h ht
  | openTransaction borrowed => exact keeps_execOpenTransaction borrowed h ht
  | openReadData ecc => exact keeps_execOpenReadData ecc h ht
  | tagGrant requester => exact keeps_execTagGrant requester h ht
  | bar2Read x len => exact keeps_execBar2Read x len h ht
  | bar2Write x poisoned => exact keeps_execBar2Write x poisoned h ht
  | streamReadLand e stream => exact keeps_execStreamReadLand e stream h ht
  | streamWriteTake e stream => exact keeps_execStreamWriteTake e stream h ht
  | resultLands e => exact keeps_execResultLands e h ht
  | xchDelivery e => exact keeps_execXchDelivery e h ht
  | loopExit e => exact keeps_execLoopExit e h ht
  | stopBundle e => exact keeps_execStopBundle e h ht
  | seamMark e => exact keeps_execSeamMark e h ht
  | illegalEncoding e => exact keeps_execIllegalEncoding e h ht
  | br e g target => exact keeps_execBr e g target h ht
  | brx e g xs => exact keeps_execBrx e g xs h ht
  | loop e g f => exact keeps_execLoop e g f h ht
  | bxclr e g => exact keeps_execBxclr e g h ht
  | bsc e g src xs imm => exact keeps_execBsc e g src xs imm h ht
  | clrf e g => exact keeps_execClrf e g h ht
  | rofset e g imm => exact keeps_execRofset e g imm h ht
  | ldv e g f => exact keeps_execLdv e g f h ht
  | ldc e g f => exact keeps_execLdc e g f h ht
  | ldp12 e g f => exact keeps_execLdp12 e g f h ht
  | ldu16 e g f => exact keeps_execLdu16 e g f h ht
  | ldx e g f => exact keeps_execLdx e g f h ht
  | stv e g f => exact keeps_execStv e g f h ht
  | sth e g f => exact keeps_execSth e g f h ht
  | stq e g f => exact keeps_execStq e g f h ht
  | stx e g f => exact keeps_execStx e g f h ht
  | cmul e g f => exact keeps_execCmul e g f h ht
  | cmla e g f => exact keeps_execCmla e g f h ht
  | cmac e g f => exact keeps_execCmac e g f h ht
  | acrd e g f => exact keeps_execAcrd e g f h ht
  | acrc e g f => exact keeps_execAcrc e g f h ht
  | fcvtp e g f => exact keeps_execFcvtp e g f h ht
  | fcvtl e g f => exact keeps_execFcvtl e g f h ht
  | cadd e g f => exact keeps_execCadd e g f h ht
  | csub e g f => exact keeps_execCsub e g f h ht
  | bfy e g f => exact keeps_execBfy e g f h ht
  | bfyj e g f => exact keeps_execBfyj e g f h ht
  | vmov e g f => exact keeps_execVmov e g f h ht
  | conj e g f => exact keeps_execConj e g f h ht
  | vshr e g f => exact keeps_execVshr e g f h ht
  | norm e g f => exact keeps_execNorm e g f h ht
  | exp e g f => exact keeps_execExp e g f h ht
  | add e g f => exact keeps_execAdd e g f h ht
  | sub e g f => exact keeps_execSub e g f h ht
  | and e g f => exact keeps_execAnd e g f h ht
  | or e g f => exact keeps_execOr e g f h ht
  | xor e g f => exact keeps_execXor e g f h ht
  | shl e g f => exact keeps_execShl e g f h ht
  | shra e g f => exact keeps_execShra e g f h ht
  | shrl e g f => exact keeps_execShrl e g f h ht
  | min e g f => exact keeps_execMin e g f h ht
  | max e g f => exact keeps_execMax e g f h ht
  | movi e g f => exact keeps_execMovi e g f h ht
  | movhi e g f => exact keeps_execMovhi e g f h ht
  | bxget e g f => exact keeps_execBxget e g f h ht
  | movf e g f => exact keeps_execMovf e g f h ht
  | movxv e g f => exact keeps_execMovxv e g f h ht
  | movvx e g f => exact keeps_execMovvx e g f h ht
  | cmpeq e g f => exact keeps_execCmpeq e g f h ht
  | cmplt e g f => exact keeps_execCmplt e g f h ht
  | cmpltu e g f => exact keeps_execCmpltu e g f h ht
  | pand e g f => exact keeps_execPand e g f h ht
  | por e g f => exact keeps_execPor e g f h ht
  | pnot e g f => exact keeps_execPnot e g f h ht
  | send e g f => exact keeps_execSend e g f h ht
  | sendx e g f => exact keeps_execSendx e g f h ht
  | frameStamp stream => exact keeps_execFrameStamp stream h ht
  | traceFrame d => exact keeps_execTraceFrame d h ht
  | traceIntervalClose d => exact keeps_execTraceIntervalClose d h ht
  | densityFrame p => exact keeps_execDensityFrame p h ht
  | exposureClose p => exact keeps_execExposureClose p h ht
  | copyPassStart p => exact keeps_execCopyPassStart p h ht
  | copyPassEnd p => exact keeps_execCopyPassEnd p h ht
  | contextInputRow c => exact keeps_execContextInputRow c h ht
  | contextInputLoss c rows => exact keeps_execContextInputLoss c rows h ht
  | settlingComplete c => exact keeps_execSettlingComplete c h ht
  | crossfadeEnd c => exact keeps_execCrossfadeEnd c h ht
  | detectorIntervalClose c => exact keeps_execDetectorIntervalClose c h ht
  | iqRecordClose c => exact keeps_execIqRecordClose c h ht
  | contextRecordWrite c => exact keeps_execContextRecordWrite c h ht
  | fallbackToleranceExpiry c => exact keeps_execFallbackToleranceExpiry c h ht
  | fallbackExit c => exact keeps_execFallbackExit c h ht
  | maskFrame cond => exact keeps_execMaskFrame cond h ht
  | occurrenceArrival g k => exact keeps_execOccurrenceArrival g k h ht
  | occurrenceExpiry g => exact keeps_execOccurrenceExpiry g h ht
  | hemEnd g => exact keeps_execHemEnd g h ht
  | holdoffEnd g => exact keeps_execHoldoffEnd g h ht
  | trgArm v => exact keeps_execTrgArm v h ht
  | trgDisarm v => exact keeps_execTrgDisarm v h ht
  | trgForce v => exact keeps_execTrgForce v h ht
  | capAbort v => exact keeps_execCapAbort v h ht
  | eventEdge n rising code => exact keeps_execEventEdge n rising code h ht
  | tiuCal v => exact keeps_execTiuCal v h ht
  | tiuCalDone n hits => exact keeps_execTiuCalDone n hits h ht
  | frequencyGateEnd n => exact keeps_execFrequencyGateEnd n h ht
  | thrSettleEnd n => exact keeps_execThrSettleEnd n h ht
  | outputPulseEnd o => exact keeps_execOutputPulseEnd o h ht
  | tiuRecordWrite n => exact keeps_execTiuRecordWrite n h ht
  | driveLinkUp d speed width nvme => exact keeps_execDriveLinkUp d speed width nvme h ht
  | driveLinkTimeout d => exact keeps_execDriveLinkTimeout d h ht
  | driveReady d => exact keeps_execDriveReady d h ht
  | driveReadyTimeout d => exact keeps_execDriveReadyTimeout d h ht
  | identifyDone d info => exact keeps_execIdentifyDone d info h ht
  | labelRead labels entropy => exact keeps_execLabelRead labels entropy h ht
  | driveDmaAccess d access => exact keeps_execDriveDmaAccess d access h ht
  | stripeWrite sleeve => exact keeps_execStripeWrite sleeve h ht
  | nvmeCompletion d id status => exact keeps_execNvmeCompletion d id status h ht
  | nvmeCommandTimeout d id => exact keeps_execNvmeCommandTimeout d id h ht
  | driveLinkLost d => exact keeps_execDriveLinkLost d h ht
  | dmaQTailWrite q v => exact keeps_execDmaQTailWrite q v h ht
  | dmaQCheadWrite q v => exact keeps_execDmaQCheadWrite q v h ht
  | dmaQCtrlWrite q v => exact keeps_execDmaQCtrlWrite q v h ht
  | dmaQAbort q => exact keeps_execDmaQAbort q h ht
  | dmaQFlush q => exact keeps_execDmaQFlush q h ht
  | descriptorFetch q data => exact keeps_execDescriptorFetch q data h ht
  | tableFetch q data => exact keeps_execTableFetch q data h ht
  | burstDone q => exact keeps_execBurstDone q h ht
  | hostReadCompletion q data => exact keeps_execHostReadCompletion q data h ht
  | destWaitEnd q => exact keeps_execDestWaitEnd q h ht
  | streamFlushTimeout q => exact keeps_execStreamFlushTimeout q h ht
  | noticeWrite q => exact keeps_execNoticeWrite q h ht
  | calMeasurementDone m => exact keeps_execCalMeasurementDone m h ht
  | calComputeDone resid => exact keeps_execCalComputeDone resid h ht
  | calTurnEnd => exact keeps_execCalTurnEnd h ht
  | trackerIntervalEnd ch power ofs est => exact keeps_execTrackerIntervalEnd ch power ofs est h ht
  | logRecordWritten verify copyVerify stateVerify => exact keeps_execLogRecordWritten verify copyVerify stateVerify h ht
  | mramTimeout => exact keeps_execMramTimeout h ht
  | freezeTimeout => exact keeps_execFreezeTimeout h ht
  | fallbackProgram => exact keeps_execFallbackProgram h ht
  | inputTrip => exact keeps_execInputTrip h ht
  | pwrInUpdate power => exact keeps_execPwrInUpdate power h ht
  | slackLow slack => exact keeps_execSlackLow slack h ht
  | avsLower slack => exact keeps_execAvsLower slack h ht
  | thermalShutdown => exact keeps_execThermalShutdown h ht
  | monPassStart => exact keeps_execMonPassStart h ht
  | monEntryStart => exact keeps_execMonEntryStart h ht
  | monStartTimeout => exact keeps_execMonStartTimeout h ht
  | monEntryEnd a b => exact keeps_execMonEntryEnd a b h ht
  | monUrgentGo v => exact keeps_execMonUrgentGo v h ht
  | urgentConversionDone a b => exact keeps_execUrgentConversionDone a b h ht
  | smbusSetOffset off => exact keeps_execSmbusSetOffset off h ht
  | smbusRead => exact keeps_execSmbusRead h ht
  | smbusState => exact keeps_execSmbusState h ht
  | completionTimeout q => exact keeps_execCompletionTimeout q h ht
  | flashNoAnswer => exact keeps_execFlashNoAnswer h ht
  | volumeCloseTimeout => exact keeps_execVolumeCloseTimeout h ht
  | railFaultRecordWaitExpiry => exact keeps_execRailFaultRecordWaitExpiry h ht
  | dperstRelease p => exact keeps_execDperstRelease p h ht
  | tapInstruction code => exact keeps_execTapInstruction code h ht

theorem grown_refl (m : Sparse KeySlot) : Grown m m := fun _ => ⟨fun h => ⟨h, rfl⟩, fun h => h⟩

/-- A sound state keeps the facts, measured against itself. -/
theorem keeps_of_sound {s : State} (h : Sound s) : Keeps s.img.keys s.pending s.time.cycle s :=
  { mem := h.mem, ctrs := h.ctrs, slots := h.slots, once := grown_refl _, queue := rfl, time := Nat.le_refl _ }

/-- The facts kept imply that the state is sound. -/
theorem sound_of_keeps {s : State} (h : Keeps ko kq kc s) : Sound s where
  mem := h.mem
  slots := h.slots
  ctrs := h.ctrs

/-- A step keeps the facts, but for the queue: it takes the front command, or the block's own time may fill it. -/
theorem keeps_step {s t : State} (h : Keeps ko kq kc s) (ht : step s = .next t) : ∃ l, Keeps ko l kc t := by
  unfold step at ht
  split at ht
  case h_1 => exact keeps_tick h ht
  case h_2 c rest _ => exact ⟨rest, keeps_exec c (keeps_queue h rest) ht⟩

/-- Settles O5: a sound state meets the facts that every command and every cycle of the block's own time keep. -/
theorem everyStepKeepsSound : Obligations.EveryStepKeepsSound := by
  unfold Obligations.EveryStepKeepsSound
  intro s t hs ht
  obtain ⟨l, hk⟩ := keeps_step (keeps_of_sound hs) ht
  exact ⟨sound_of_keeps hk, hk.once, hk.time⟩

end Sys2Proof.Laws
end

section
/-! PROOF. What a command answers, from its effect, and what a repeated change leaves alone. -/

namespace Sys2Proof.Machine

/-- A command whose effect on the fresh state is `t` answers `t`, settled. -/
theorem act_of_effect {f : State → State} {s t : State} (h : f (fresh s) = t) : act f s = .next (settle s t) :=
  act_next.mpr (congrArg (settle s) h)

/-- What no single step of a repeated change touches, the whole does not touch. -/
theorem foldl_leaves {α β : Type} {p : State → β} {f : State → α → State} (hf : ∀ s a, p (f s a) = p s)
    (l : List α) (s : State) : p (l.foldl f s) = p s :=
  List.foldlRecOn l f (motive := fun t => p t = p s) rfl (fun t ht a _ => (hf t a).trans ht)

end Sys2Proof.Machine
end

section
/-! PROOF. The start of a function (03 R57, R66, R72, 08 R193) and the release of the drive resets (20 R471). -/

namespace Sys2Proof.Machine

/-! ## The parts of the state that a start settles in `configure` -/

/-- The state with the parts taken out that the start of a function works on beside `configure`: the time and the status
tree, the channels with their relays, the clock, the calibration, the armed groups with their sleeves, the recorder and
what leaves the module. Two states with the same `asConfigured` agree in every other part. -/
def asConfigured (s : State) : State :=
  { s with
    time := {}, stat := {}, snap := {}, clk := {}, chans := [], sleeves := [], cal := {}, recorder := {}, outbox := []
    trig := { s.trig with groups := [] } }

@[simp] theorem asConfigured_emit (o : Output) (s : State) : asConfigured (emit o s) = asConfigured s := rfl
@[simp] theorem asConfigured_pulse0 (n bit : Nat) (s : State) : asConfigured (pulse0 n bit s) = asConfigured s := rfl
@[simp] theorem asConfigured_mClk (f : Clk → Clk) (s : State) : asConfigured (mClk f s) = asConfigured s := rfl
@[simp] theorem asConfigured_mCal (f : Cal → Cal) (s : State) : asConfigured (mCal f s) = asConfigured s := rfl
@[simp] theorem asConfigured_mChan (c : Nat) (f : Chan → Chan) (s : State) :
    asConfigured (mChan c f s) = asConfigured s := rfl
@[simp] theorem asConfigured_mSleeve (i : Nat) (f : Sleeve → Sleeve) (s : State) :
    asConfigured (mSleeve i f s) = asConfigured s := rfl
@[simp] theorem asConfigured_mGroup (g : Nat) (f : Group → Group) (s : State) :
    asConfigured (mGroup g f s) = asConfigured s := rfl
@[simp] theorem asConfigured_recorder (r : Recorder) (s : State) :
    asConfigured { s with recorder := r } = asConfigured s := rfl

@[simp] theorem asConfigured_bump (n off : Nat) (s : State) : asConfigured (bump n off s) = asConfigured s := by
  simp only [bump, bumpBy]
  split <;> rfl

@[simp] theorem asConfigured_logEvent (code source : Nat) (params : List Nat) (s : State) :
    asConfigured (logEvent code source params s) = asConfigured s := by
  simp only [logEvent]
  repeat' split
  all_goals simp

@[simp] theorem asConfigured_passCycle (s : State) : asConfigured (passCycle s) = asConfigured s := by
  simp only [passCycle]
  split <;> rfl

theorem asConfigured_waitStart (s : State) : asConfigured (waitStart s) = asConfigured s :=
  foldl_leaves (fun s _ => asConfigured_passCycle s) _ s

theorem asConfigured_startPins (old : Sparse OutPin) (s : State) : asConfigured (startPins old s) = asConfigured s := by
  refine foldl_leaves (fun s o => ?_) _ s
  dsimp only
  split <;> simp

@[simp] theorem asConfigured_takeHeldAge (s : State) : asConfigured (takeHeldAge s) = asConfigured s := by
  simp only [takeHeldAge]
  split <;> simp

theorem asConfigured_releaseReference (s : State) : asConfigured (releaseReference s) = asConfigured s := by
  simp only [releaseReference, passOwner]
  repeat' split
  all_goals simp

theorem asConfigured_applyRefPolicy (lock out : Nat) (s : State) :
    asConfigured (applyRefPolicy lock out s) = asConfigured s := by
  simp only [applyRefPolicy, asConfigured_mClk]
  split
  · exact asConfigured_releaseReference s
  · rfl

@[simp] theorem asConfigured_setAge (a : Int × Int × Nat) (s : State) : asConfigured (setAge a s) = asConfigured s := by
  simp only [setAge, changeModel, underLimit]
  repeat' split
  all_goals simp

theorem asConfigured_calStart (copies : List (Option (List Byte))) (s : State) :
    asConfigured (calStart copies s) = asConfigured s := by
  simp only [calStart, holdRecord, logGeneration]
  repeat' split
  all_goals simp [foldl_leaves (p := asConfigured) (f := fun t ch => trackFrom ch t) (fun _ _ => rfl)]

theorem asConfigured_startRelay (c relay here want sensed : Nat) (retried : Bool) (s : State) :
    asConfigured (startRelay c relay here want sensed retried s).1 = asConfigured s := by
  simp only [startRelay, driveRelay]
  repeat' split
  all_goals simp

theorem asConfigured_startChannel (m : Image) (info : StartInfo) (s : State) (c : Nat) :
    asConfigured (startChannel m info s c) = asConfigured s := by
  simp only [startChannel]
  repeat' split
  all_goals simp [asConfigured_startRelay]

theorem asConfigured_toArmed (g t : Nat) (s : State) : asConfigured (toArmed g t s) = asConfigured s := by
  simp only [toArmed]
  split
  · rfl
  · refine (foldl_leaves (fun s i => ?_) _ _).trans (asConfigured_mGroup ..)
    exact foldl_leaves (fun s j => asConfigured_mSleeve ..) _ s

/-- What `configure` settles stands when the image has started. -/
theorem asConfigured_startImage (m : Image) (info : StartInfo) (s : State) :
    asConfigured (startImage m info s) = asConfigured (configure m (cycleBase (waitStart s)) (waitStart s)) := by
  simp only [startImage, asConfigured_logEvent]
  rw [foldl_leaves (fun s g => asConfigured_toArmed g _ s), foldl_leaves (asConfigured_startChannel m info),
    asConfigured_calStart, asConfigured_applyRefPolicy, asConfigured_startPins]

/-- The wait for the sample count at which the engines start leaves the function's own parts as they were. -/
theorem waitStart_leaves (s : State) : (waitStart s).life = s.life ∧ (waitStart s).loader = s.loader ∧
    (waitStart s).eng = s.eng ∧ (waitStart s).store = s.store := by
  have h := asConfigured_waitStart s
  exact ⟨(congrArg State.life h :), (congrArg State.loader h :), (congrArg State.eng h :), (congrArg State.store h :)⟩

/-- The function's own parts of the state, when the image has started, are those of `configure`. -/
theorem startImage_settled (m : Image) (info : StartInfo) (s : State) :
    let c := configure m (cycleBase (waitStart s)) (waitStart s)
    let t := startImage m info s
    t.life = c.life ∧ t.image = c.image ∧ t.accepted = c.accepted ∧ t.img = c.img ∧ t.live = c.live ∧ t.eng = c.eng ∧
      t.rings = c.rings ∧ t.store = c.store ∧ t.trig.next = c.trig.next ∧ t.loader = c.loader ∧ t.pkg = c.pkg := by
  have h := asConfigured_startImage m info s
  exact ⟨(congrArg State.life h :), (congrArg State.image h :), (congrArg State.accepted h :), (congrArg State.img h :),
    (congrArg State.live h :), (congrArg State.eng h :), (congrArg State.rings h :), (congrArg State.store h :),
    (congrArg (·.trig.next) h :), (congrArg State.loader h :), (congrArg State.pkg h :)⟩

/-! ## The sample count at which the engines start -/

theorem passCycle_time (s : State) : (passCycle s).time = s.time.plus 1 := by
  simp only [passCycle]
  split <;> rfl

theorem timeBase_plus_plus (t : TimeBase) (a b : Nat) : (t.plus a).plus b = t.plus (a + b) := by
  simp only [TimeBase.plus]
  split
  · simp [Nat.add_assoc, BitVec.add_assoc, BitVec.ofNat_add, Nat.mul_add]
  · simp [Nat.add_assoc]

/-- Cycles that pass one after the other move time on by their number. -/
theorem passCycles_time (n : Nat) (s : State) :
    ((List.range n).foldl (fun s _ => passCycle s) s).time = s.time.plus n := by
  induction n with
  | zero => simp [TimeBase.plus]
  | succ n ih =>
    rw [List.range_succ, List.foldl_append, List.foldl_cons, List.foldl_nil, passCycle_time, ih, timeBase_plus_plus]

/-- The wait ends on a multiple of 1,024 samples while sample time counts (R193). -/
theorem cycleBase_waitStart {s : State} (h : s.time.counting = true) : cycleBase (waitStart s) % 1024 = 0 := by
  have htime := passCycles_time ((1024 - cycleBase s % 1024) % 1024 / 16) s
  have hnow : now (waitStart s) = (now s + 16 * ((1024 - cycleBase s % 1024) % 1024 / 16)) % 2 ^ 80 := by
    simp [now, waitStart, htime, TimeBase.plus, h]
  have hlt : now s < 2 ^ 80 := s.time.count.isLt
  unfold cycleBase at *
  omega

/-! ## Live values -/

/-- One more numbered unit takes the next number. -/
theorem numbered_concat {α β : Type} [DecidableEq β] (d : β) (f : α → β) (l : List α) (x : α) :
    numbered d f (l ++ [x]) = put d l.length (f x) (numbered d f l) := by
  simp only [numbered, List.length_append, List.length_singleton, List.range_succ, List.foldl_append, List.foldl_cons,
    List.foldl_nil, List.getElem?_concat_length]
  congr 1
  refine List.foldl_ext _ _ _ fun a k hk => ?_
  rw [List.getElem?_append_left (List.mem_range.mp hk)]

theorem wf_numbered {α β : Type} [DecidableEq β] (d : β) (f : α → β) (l : List α) : wf d (numbered d f l) = true := by
  induction l using List.reverseRecOn with
  | nil => rfl
  | append_singleton l x ih =>
    rw [numbered_concat]
    exact Laws.wf_put ih

/-- A numbered unit reads as its own start. -/
theorem look_numbered {α β : Type} [DecidableEq β] (d : β) (f : α → β) {l : List α} {n : Nat} {x : α}
    (h : l[n]? = some x) : look d (numbered d f l) n = f x := by
  induction l using List.reverseRecOn with
  | nil => simp at h
  | append_singleton l y ih =>
    rw [numbered_concat, Laws.look_put (wf_numbered d f l)]
    split
    case isTrue hn =>
      subst hn
      rw [List.getElem?_concat_length] at h
      rw [Option.some.inj h]
    case isFalse hn =>
      have hlt : n < (l ++ [y]).length := (List.getElem?_eq_some_iff.mp h).1
      rw [List.length_append, List.length_singleton] at hlt
      rw [List.getElem?_append_left (by omega)] at h
      exact ih h

/-! ## FUNCTION_START and DPERST_RELEASE -/

theorem functionStart_of_accepted {s : State} {m : Image} (info : StartInfo) (hm : s.accepted = some m)
    (hsys : s.life.sys = .loading) (hroot : s.pwr.root = true) :
    functionStart info s = if s.life.stopAtStart ≠ .none then endStopped s else startImage m info s := by
  simp [functionStart, hm, hsys, hroot]

/-- A start that is not due does nothing. -/
theorem functionStart_of_not_due {s : State} (info : StartInfo)
    (h : s.accepted = none ∨ s.life.sys ≠ .loading ∨ s.pwr.root = false) : functionStart info s = s := by
  simp only [functionStart]
  split
  case h_1 => rfl
  case h_2 m hm => exact if_pos (by simpa [hm] using h)

/-- The resets that are due are released together (R471). -/
theorem dperstReleased_of_due {s : State} {p : Nat} (h : tbit s.pkg.dperstDue p = true) : dperstReleased p s =
    { s with pkg := { s.pkg with dperst := s.pkg.dperst ||| s.pkg.dperstDue, dperstDue := 0 } } := if_pos h

/-- Settles O20: what `configure` settles stands to the end of the start, and the wait before it ends on a multiple of
1,024 samples. -/
theorem functionStarts : Obligations.FunctionStarts := by
  unfold Obligations.FunctionStarts
  intro s info p
  refine ⟨fun m hm hsys hroot hstop => ?starts, fun m hm hsys hroot hstop => ?stops, fun h => ?notDue,
    fun h => ?released, fun h => ?notReleased⟩
  case starts =>
    have hdue : functionStart info (fresh s) = startImage m info (fresh s) :=
      (functionStart_of_accepted (s := fresh s) info hm hsys hroot).trans (if_neg (not_not.mpr hstop))
    refine ⟨settle s (startImage m info (fresh s)), act_of_effect hdue, ?_⟩
    obtain ⟨hlife, himage, haccepted, himg, hlive, heng, hrings, hstore, hnext, hloader, hpkg⟩ :=
      startImage_settled m info (fresh s)
    obtain ⟨hlife', hloader', heng', hstore'⟩ := waitStart_leaves (fresh s)
    have hbase : s.time.counting = true → cycleBase (waitStart (fresh s)) % 1024 = 0 :=
      cycleBase_waitStart (s := fresh s)
    have hvalues : ∀ n r, m.live[n]? = some r →
        look 0 (numbered 0 (fun r : LiveRec => w32 r.initial) m.live) n = w32 r.initial :=
      fun n r hr => look_numbered 0 _ hr
    generalize waitStart (fresh s) = w at *
    generalize startImage m info (fresh s) = t at *
    simpa [*, configure, startedRegs, startEngines, startPorts] using And.intro hvalues hbase
  case stops =>
    have hdue : functionStart info (fresh s) = endStopped (fresh s) :=
      (functionStart_of_accepted (s := fresh s) info hm hsys hroot).trans (if_pos hstop)
    exact ⟨settle s (endStopped (fresh s)), act_of_effect hdue, by simp [endStopped, abandonLoad]⟩
  case notDue => exact act_of_effect (functionStart_of_not_due (s := fresh s) info h)
  case released => exact act_of_effect (dperstReleased_of_due (s := fresh s) h)
  case notReleased => exact act_of_effect (if_neg (by simpa using h))

end Sys2Proof.Machine
end

section
/-! PROOF. The image slots as the loader reads and checks them (02 R44, R50; 03 R67, R70). -/

namespace Sys2Proof.Machine

/-! ## A slot that fails -/

/-- What a slot that fails with a code leaves: the code shown for it, no image accepted, and slot B to load after slot A,
or the safe state after slot B while no controlled stop is awaited (R67, R70). -/
def SlotFailed (s t : State) (code : Nat) : Prop :=
  (if s.loader.slot = 1 then t.img.codeA else t.img.codeB) = code ∧ t.accepted = none ∧
    (s.loader.slot = 1 → t.life = s.life ∧ t.loader.slot = 2 ∧ t.loader.copy = []) ∧
    (s.loader.slot ≠ 1 → s.life.stopAtStart = .none →
      t.life.sys = .safe ∧ t.img.safe = true ∧ t.img.loading = false ∧ t.pwr.analysis = false ∧ t.loader.slot = 0)

/-- A load that fails leaves the codes of the slots and accepts nothing. -/
theorem loadFailed_codes (s : State) : (loadFailed s).img.codeA = s.img.codeA ∧ (loadFailed s).img.codeB = s.img.codeB ∧
    (loadFailed s).accepted = none := by
  simp only [loadFailed]
  split
  · simp [enterSafe]
  · simp [endStopped, abandonLoad]

/-- A load that fails with no controlled stop awaited ends in the safe state (R70, R452). -/
theorem loadFailed_safe {s : State} (h : s.life.stopAtStart = .none) : loadFailed s = enterSafe s := by
  simp [loadFailed, h]

theorem enterSafe_safe (s : State) : (enterSafe s).life.sys = .safe ∧ (enterSafe s).img.safe = true ∧
    (enterSafe s).img.loading = false ∧ (enterSafe s).pwr.analysis = false ∧ (enterSafe s).loader.slot = 0 := by
  simp [enterSafe]

/-- A slot that is refused fails with its code. -/
theorem slotFailed_refuseSlot {s : State} (o : State) (code : Nat) (hslot : s.loader.slot = 1 ∨ s.loader.slot = 2)
    (hnone : s.accepted = none) : SlotFailed s (settle o (refuseSlot code s)) code := by
  rcases hslot with hA | hB
  · simp [SlotFailed, refuseSlot, hA, hnone]
  · refine ⟨by simp [refuseSlot, hB, loadFailed_codes], by simp [refuseSlot, hB, loadFailed_codes], fun hA => by omega,
      fun _ hstop => ?_⟩
    simp [refuseSlot, hB, loadFailed_safe, hstop, enterSafe_safe]

/-! ## The reads of a slot -/

section
variable {s : State}

theorem accepted_of_slotLoading (h : slotLoading s = true) : s.accepted = none := by
  simp only [slotLoading, Bool.and_eq_true, Option.isNone_iff_eq_none] at h
  exact h.1.2

theorem headerRead_of_loading (hload : slotLoading s = true) (hcopy : s.loader.copy = []) (h : List Byte) :
    headerRead (some h) s =
      if headerCode h = 0 then { s with loader := { s.loader with copy := h.take 4096 } }
      else refuseSlot (headerCode h) s := by
  simp [headerRead, hload, hcopy, mLoader]

theorem headerRead_none_of_loading (hload : slotLoading s = true) (hcopy : s.loader.copy = []) :
    headerRead none s = refuseSlot 0x02 s := by
  simp [headerRead, hload, hcopy]

theorem bodyRead_none_of_loading (hload : slotLoading s = true) (hcopy : s.loader.copy ≠ []) (fw : Bool) :
    bodyRead none fw s = refuseSlot 0x02 s := by
  simp [bodyRead, hload, hcopy]

/-- The bytes of an image that stand held when its body has been read (R50). -/
def wholeImage (s : State) (body : List Byte) : List Byte := (s.loader.copy ++ body).take (le s.loader.copy 0xC 4)

theorem bodyRead_bad_signature {body : List Byte} (hload : slotLoading s = true) (hcopy : s.loader.copy ≠ [])
    (hsig : signatureCode s (wholeImage s body) ≠ 0) (fw : Bool) :
    bodyRead (some body) fw s = refuseSlot (signatureCode s (wholeImage s body)) s := by
  rw [wholeImage] at *
  simp [bodyRead, hload, hcopy, hsig]

theorem bodyRead_bad_section {body : List Byte} {fw : Bool} (hload : slotLoading s = true) (hcopy : s.loader.copy ≠ [])
    (hsig : signatureCode s (wholeImage s body) = 0)
    (hsect : sectionCode s (wholeImage s body) (parseImage (wholeImage s body)) fw ≠ 0) :
    bodyRead (some body) fw s = refuseSlot (sectionCode s (wholeImage s body) (parseImage (wholeImage s body)) fw) s := by
  rw [wholeImage] at *
  simp [bodyRead, hload, hcopy, hsig, hsect]

theorem bodyRead_good {body : List Byte} {fw : Bool} (hload : slotLoading s = true) (hcopy : s.loader.copy ≠ [])
    (hsig : signatureCode s (wholeImage s body) = 0)
    (hsect : sectionCode s (wholeImage s body) (parseImage (wholeImage s body)) fw = 0) :
    bodyRead (some body) fw s = acceptSlot (parseImage (wholeImage s body)) s := by
  rw [wholeImage] at *
  simp [bodyRead, hload, hcopy, hsig, hsect]

/-- A slot that is accepted shows code 0 (R50, R67). -/
theorem acceptSlot_code (m : Image) (hslot : s.loader.slot = 1 ∨ s.loader.slot = 2) :
    (if s.loader.slot = 1 then (acceptSlot m s).img.codeA else (acceptSlot m s).img.codeB) = 0 := by
  rcases hslot with hA | hB
  · simp [acceptSlot, hA]
  · simp [acceptSlot, hB]

/-- A read that the flash does not answer fails the slot being loaded, in its header or in its body (R50). -/
theorem flashSilent_of_loading (hsys : s.life.sys = .loading) (hload : slotLoading s = true) :
    flashSilent s = refuseSlot 0x02 s := by
  by_cases hcopy : s.loader.copy = []
  · simp [flashSilent, hsys, hcopy, headerRead_none_of_loading hload hcopy]
  · simp [flashSilent, hsys, hcopy, bodyRead_none_of_loading hload hcopy]

end

/-- Settles O19: a read either moves the load on or refuses the slot. -/
theorem imageSlotsAreChecked : Obligations.ImageSlotsAreChecked := by
  unfold Obligations.ImageSlotsAreChecked
  intro s h body fw hload slotCode failed hslot
  have hfails : ∀ code, SlotFailed s (settle s (refuseSlot code (fresh s))) code := fun code =>
    slotFailed_refuseSlot (s := fresh s) s code hslot (accepted_of_slotLoading hload)
  refine ⟨fun hcopy => ?header, fun hcopy => ?headerError, fun hsys => ?silent, fun hcopy => ?body⟩
  case header =>
    refine ⟨_, act_of_effect (headerRead_of_loading (s := fresh s) hload hcopy h), fun hok => ?_, fun hbad => ?_⟩
    · rw [if_pos hok]
      rfl
    · rw [if_neg hbad]
      exact hfails _
  case headerError =>
    exact ⟨_, act_of_effect (headerRead_none_of_loading (s := fresh s) hload hcopy), hfails 2⟩
  case silent => exact ⟨_, act_of_effect (flashSilent_of_loading (s := fresh s) hsys hload), hfails 2⟩
  case body =>
    by_cases hsig : signatureCode s (wholeImage s body) = 0
    case neg =>
      exact ⟨_, act_of_effect (bodyRead_bad_signature (s := fresh s) hload hcopy hsig fw),
        fun hgood => absurd hgood hsig, fun hgood => absurd hgood hsig, fun _ => hfails _⟩
    by_cases hsect : sectionCode s (wholeImage s body) (parseImage (wholeImage s body)) fw = 0
    case neg =>
      exact ⟨_, act_of_effect (bodyRead_bad_section (s := fresh s) hload hcopy hsig hsect),
        fun _ hgood => absurd hgood hsect, fun _ _ => hfails _, fun hbad => absurd hsig hbad⟩
    exact ⟨_, act_of_effect (bodyRead_good (s := fresh s) hload hcopy hsig hsect),
      fun _ _ => ⟨rfl, acceptSlot_code (s := fresh s) _ hslot, rfl, rfl, rfl, rfl⟩,
      fun _ hbad => absurd hsect hbad, fun hbad => absurd hsig hbad⟩

end Sys2Proof.Machine
end

section
/-! PROOF. Live parameters: shadow writes, commits and the range check (04 R100 to R104). -/

namespace Sys2Proof.Machine

/-! ## LIVE_SHADOWn and LIVE_COMMIT, case by case -/

section
variable {s : State} {n : Nat} {v : Word}

/-- A shadow write of a function that does not run, or of an index that no parameter has, is ignored (R100, R104). -/
theorem liveWrite_ignored (h : running s = false ∨ liveCount s ≤ n) : liveWrite n v s = s :=
  if_pos (by simpa using h)

/-- A shadow write during a pending commit is dropped (R103). -/
theorem liveWrite_dropped (hrun : running s = true) (hn : n < liveCount s) (hc : s.live.commit.isSome = true) :
    liveWrite n v s = pulse0 4 2 (bump 4 0x00 s) := by
  simp [liveWrite, hrun, hn, hc]

theorem liveWrite_accepted (hrun : running s = true) (hn : n < liveCount s) (hc : s.live.commit = none) :
    liveWrite n v s = { s with live := { s.live with shadow := put 0 n v s.live.shadow } } := by
  simp [liveWrite, hrun, hn, hc, mLive]

/-- A write of LIVE_COMMIT with bit 0 clear asks for nothing (R101). -/
theorem liveCommit_of_bit_clear (hv : tbit v.toNat 0 = false) : liveCommit v s = s := by
  simp [liveCommit, hv]

theorem liveCommit_of_not_running (hv : tbit v.toNat 0 = true) (hrun : running s = false) :
    liveCommit v s = refuseCommit 4 0 s := by
  simp [liveCommit, hv, hrun]

/-- A second commit answers COMMIT_BUSY (R103). -/
theorem liveCommit_busy (hv : tbit v.toNat 0 = true) (hrun : running s = true) (hc : s.live.commit.isSome = true) :
    liveCommit v s = pulse0 4 3 s := by
  simp [liveCommit, hv, hrun, hc]

theorem liveCommit_registered (hv : tbit v.toNat 0 = true) (hrun : running s = true) (hc : s.live.commit = none) :
    liveCommit v s = { s with live := { s.live with
      state := 1, target := targetSeam s % 2 ^ 32, commit := some { target := targetSeam s, checked := false } } } := by
  simp [liveCommit, hv, hrun, hc, mLive]

end

/-! ## The range check -/

theorem firstBad_eq_none {s : State} (h : ∀ k, k < liveCount s → (liveRec s k).admits (look 0 s.live.shadow k) = true) :
    firstBad s = none :=
  List.find?_range_eq_none.mpr fun k hk => by simpa using h k hk

/-- The first offending parameter is the one below which every shadow is admitted. -/
theorem firstBad_eq_some {s : State} {k : Nat} (hk : k < liveCount s)
    (hbad : (liveRec s k).admits (look 0 s.live.shadow k) = false)
    (hbelow : ∀ j, j < k → (liveRec s j).admits (look 0 s.live.shadow j) = true) : firstBad s = some k :=
  List.find?_range_eq_some.mpr ⟨by simpa using hbad, List.mem_range.mpr hk, fun j hj => by simpa using hbelow j hj⟩

theorem rangeChecked_passes {s : State} {c : Commit} (hc : s.live.commit = some c) (hnew : c.checked = false)
    (hbad : firstBad s = none) :
    rangeChecked s = { s with live := { s.live with commit := some { c with checked := true } } } := by
  simp [rangeChecked, hc, hnew, hbad, mLive]

theorem rangeChecked_refuses {s : State} {c : Commit} {n : Nat} (hc : s.live.commit = some c) (hnew : c.checked = false)
    (hbad : firstBad s = some n) : rangeChecked s = refuseCommit 3 n s := by
  simp [rangeChecked, hc, hnew, hbad]

/-! ## The statement -/

/-- Settles O31: each clause is the effect of one case, on the state as the command finds it. -/
theorem liveShadowsAndCommit : Obligations.LiveShadowsAndCommit := by
  unfold Obligations.LiveShadowsAndCommit
  intro s n v next target
  refine ⟨fun hrun => ⟨?notRunning, fun hv => ?refused⟩, fun hv => ?bitClear, fun hrun => ⟨fun hn => ?noIndex,
    fun hn hc => ?written, fun hn hc => ?dropped, fun hv hc => ?registered, fun hv hc => ?busy⟩,
    fun c hc hnew => ⟨fun hall => ?passes, fun k hk hbad hbelow => ?offends⟩⟩
  case notRunning => exact act_of_effect (liveWrite_ignored (s := fresh s) (.inl hrun))
  case refused => exact act_of_effect (liveCommit_of_not_running (s := fresh s) hv hrun)
  case bitClear => exact act_of_effect (liveCommit_of_bit_clear hv)
  case noIndex => exact act_of_effect (liveWrite_ignored (s := fresh s) (.inr hn))
  case written => exact act_of_effect (liveWrite_accepted (s := fresh s) hrun hn hc)
  case dropped => exact act_of_effect (liveWrite_dropped (s := fresh s) hrun hn hc)
  case registered => exact act_of_effect (liveCommit_registered (s := fresh s) hv hrun hc)
  case busy => exact act_of_effect (liveCommit_busy (s := fresh s) hv hrun hc)
  case passes => exact act_of_effect (rangeChecked_passes (s := fresh s) hc hnew (firstBad_eq_none hall))
  case offends =>
    exact act_of_effect (rangeChecked_refuses (s := fresh s) hc hnew (firstBad_eq_some hk hbad hbelow))

end Sys2Proof.Machine
end

section
/-! PROOF. The mailbox commands of the key slots (02 R46 to R49, R478; log 96). -/

namespace Sys2Proof.Machine

/-! ## An accepted doorbell -/

/-- The state in which a command runs that CMD_DOORBELL_KG has taken: the placket closed, opcode and number set (R106). -/
def taken (op : Nat) (s : State) : State :=
  mMbox (fun m => { m with opcode := w32 op, seq := (m.seq + 1) % 65536 }) { s with key := none }

/-- A doorbell within a placket runs its command where none runs and R107 gives no answer at once. -/
theorem doorbell_runs {s : State} {op : Nat} (hfree : s.mbox.running = none) (hopen : placketOpen s = true)
    (hfirst : firstAnswer s op true = 0) : doorbell true op s = runCommand op (taken op s) :=
  calc doorbell true op s = ring_ true op { s with key := none } := guarded_open doorbellKg 1 _ hopen
    _ = if firstAnswer s op true ≠ 0 then finishMailbox (firstAnswer s op true) [] (taken op s)
        else runCommand op (taken op s) := if_neg (by simp [hfree])
    _ = runCommand op (taken op s) := if_neg (not_not.mpr hfirst)

/-! ## The checks of KS_WRITE and KS_REVOKE -/

section
variable {s : State}

theorem ksWriteCmd_of_token (h : argOf s 0 = 1) : ksWriteCmd s =
    if ksTokenCode s (cmdData s 3780) 1 ≠ 0 then finishMailbox (ksTokenCode s (cmdData s 3780) 1) [] s
    else writeSlot (le (cmdData s 3780) 5 1) (digestAt (cmdData s 3780) 8) s := by
  simp [ksWriteCmd, h]

/-- Neither form of the command has these arguments (R47). -/
theorem ksWriteCmd_of_bad_argument (h : 1 < argOf s 0 ∨ (argOf s 0 = 0 ∧ 3 < argOf s 1)) :
    ksWriteCmd s = finishMailbox 3 [] s := by
  have htoken : argOf s 0 ≠ 1 := by omega
  have hbad : argOf s 0 ≠ 0 ∨ 3 < argOf s 1 := by omega
  exact (if_neg htoken).trans (if_pos hbad)

theorem ksWriteCmd_without_token (h0 : argOf s 0 = 0) (h1 : argOf s 1 ≤ 3) : ksWriteCmd s =
    if commissioned s then finishMailbox 7 [] s else writeSlot (argOf s 1) (digestAt (cmdData s 3780) 0) s := by
  simp [ksWriteCmd, h0, h1]

end

/-! ## The end of a slot's programming -/

theorem mailboxEnds_of_ksWrite {s : State} {k : Nat} {d : Digest} (ok : Bool) (data : List Byte) (mis : Option Nat)
    (h : s.mbox.running = some (.ksWrite k d)) : mailboxEnds ok data mis s = slotWritten k d s := by
  simp [mailboxEnds, h]

theorem mailboxEnds_of_ksRevoke {s : State} {k : Nat} (ok : Bool) (data : List Byte) (mis : Option Nat)
    (h : s.mbox.running = some (.ksRevoke k)) : mailboxEnds ok data mis s = slotRevoked k s := by
  simp [mailboxEnds, h]

/-- What a slot's programming leaves when it ends: the key slots changed by `f`, the record of the event at the end of the
queue, and the command answered OK with the slot. -/
theorem slotProgrammed (f : Sparse KeySlot → Sparse KeySlot) (code k : Nat) (o s : State) :
    let t := settle o (finishMailbox 0 (results [w32 k]) (logEvent code 24 [k]
      (mImg (fun r => { r with keys := f r.keys }) s)))
    t.img.keys = f s.img.keys ∧
    (s.recorder.queue.length < 256 → s.recorder.freeze = none →
      ∃ r : Rec, t.recorder.queue = s.recorder.queue ++ [r] ∧ r.code = code ∧ r.params = [k, 0, 0, 0]) ∧
    t.mbox.running = none ∧ t.mbox.resp = 0 ∧ t.mbox.res = results [w32 k] := by
  generalize hv : mImg (fun r => { r with keys := f r.keys }) s = v
  have hkeys : v.img.keys = f s.img.keys := by rw [← hv]; rfl
  have hrec : v.recorder = s.recorder := by rw [← hv]; rfl
  refine ⟨by simp [finishMailbox, hkeys], fun hroom hthawed => ?_, by simp [finishMailbox], by simp [finishMailbox],
    by simp [finishMailbox]⟩
  have hlog := logEvent_room (s := v) code 24 [k] (by rwa [hrec]) (by rwa [hrec])
  exact ⟨recordOf v code 24 [k], by simp [finishMailbox, hlog, hrec], rfl, rfl⟩

/-- Settles O36: the checks in their order on the state that the doorbell leaves, and the end of the programming. -/
theorem mailboxKeySlots : Obligations.MailboxKeySlots := by
  unfold Obligations.MailboxKeySlots
  intro s ok data mis u token goes recorded
  refine ⟨fun hfree hopen hfirst => ?write, fun hfree hopen hfirst => ?revoke, fun k d hrun => ?written,
    fun k hrun => ?revoked⟩
  case write =>
    have hcmd : doorbell true 0x20 (fresh s) = ksWriteCmd (taken 0x20 (fresh s)) :=
      doorbell_runs (s := fresh s) hfree hopen hfirst
    refine ⟨fun h0 h1 hcomm => ?commissioned, fun h0 h1 hcomm hrefused => ?refused, fun h0 h1 hcomm hfits => ?runs,
      fun h0 => ?token, fun hbad => ?badArgument⟩
    all_goals refine act_of_effect (hcmd.trans ?_)
    case commissioned => exact (ksWriteCmd_without_token (s := u 0x20) h0 h1).trans (if_pos hcomm)
    case refused =>
      exact (ksWriteCmd_without_token (s := u 0x20) h0 h1).trans
        ((if_neg (Bool.eq_false_iff.mp hcomm)).trans (if_pos hrefused))
    case runs =>
      exact (ksWriteCmd_without_token (s := u 0x20) h0 h1).trans
        ((if_neg (Bool.eq_false_iff.mp hcomm)).trans (if_neg (Bool.eq_false_iff.mp hfits)))
    case token => exact ksWriteCmd_of_token (s := u 0x20) h0
    case badArgument => exact ksWriteCmd_of_bad_argument (s := u 0x20) hbad
  case revoke => exact act_of_effect (doorbell_runs (s := fresh s) hfree hopen hfirst)
  case written =>
    exact ⟨_, act_of_effect (mailboxEnds_of_ksWrite (s := fresh s) ok data mis hrun),
      slotProgrammed (upd {} k (fun x => x.write d)) 0x100B k s (fresh s)⟩
  case revoked =>
    exact ⟨_, act_of_effect (mailboxEnds_of_ksRevoke (s := fresh s) ok data mis hrun),
      slotProgrammed (upd {} k (fun x => { x with revoked := true })) 0x100C k s (fresh s)⟩

end Sys2Proof.Machine
end

section
/-! PROOF. The effect of a command, from what it answers. -/

namespace Sys2Proof.Machine

/-- What a command answers is its effect on the fresh state, settled. -/
theorem effect_of_act {f : State → State} {s t : State} (h : act f s = .next t) : t = settle s (f (fresh s)) :=
  (act_next.mp h).symm

end Sys2Proof.Machine
end

section
/-! PROOF. The root's loss while the recorder is frozen (05 R126, 18 R428, R430): a refutation. -/

namespace Sys2Proof.Machine

/-- A module in the safe state whose recorder is frozen with the record of one root unlock waiting, and whose root, which
has relocked since, is about to unlock again. -/
def secondUnlockInFreeze : State :=
  { State.reset with
    life := { sys := .safe }
    pwr := { vin48 := true, vaux := true, on := true, osc := true, root := true, hkFromRoot := true }
    recorder := { freeze := some 0, queue := [{ code := 0x3014, source := 6, params := [0, 0, 0, 0] }] } }

/-- The second record merges into the first one, and LOG's counter of merged records counts it (R428). -/
theorem rootLost_counts_merged_record : (rootLost (fresh secondUnlockInFreeze)).snap.ctrs ≠
    (secondUnlockInFreeze.snap.bump (holdKey 6 0x10) 1).ctrs := by decide

/-- Refutes O26: the statement has the counters change by ROOT_UNLOCK_COUNT alone, and in a freeze the record of a second
unlock merges into that of the first, which the recorder counts too. -/
theorem not_rootLossAndRelock : ¬ Obligations.RootLossAndRelock := by
  unfold Obligations.RootLossAndRelock
  intro h
  obtain ⟨-, hlost, -⟩ := h secondUnlockInFreeze
  obtain ⟨t, ht, -, -, hctrs, -⟩ := hlost rfl
  obtain rfl := effect_of_act (f := rootLost) ht
  exact rootLost_counts_merged_record hctrs

end Sys2Proof.Machine
end

section
/-! PROOF. An open slot that is followed by the end of a capture (07 R166, R175, 13 R330): a refutation. -/

namespace Sys2Proof.Machine

theorem settle_counter (o s : State) (n off : Nat) : counter (settle o s) n off = counter s n off := rfl

/-- An image whose group 0 writes its capture records to sleeve 2,058, which a guarded reader keeps full. The loader admits
no sleeve beyond number 2,047, and the statement bounds no image. -/
def straySleeveImage : Image :=
  { slots := { weights := [0, 0, 1] }
    sleeves := List.replicate 2059 { readers := [{ unit := 0x11, index := 0, guarded := true }] }
    groups := [{ group := 0, recordSleeve := some 2058 }] }

/-- A read through BAR2 that waits for its slot. -/
def straySleeveRead : Txn := { addr := 0, len := 64, data := none, purpose := .bar2 0 1, tag := true }

/-- The image's function with a read of HOST waiting, and with a running capture whose sleeve has stopped. -/
def straySleeveState : State :=
  { State.reset with
    image := some straySleeveImage
    sleeves := [(0, { stopped := true })]
    trig := { groups := [(0, { state := .capturing, capture := some {
      number := 1, trig := { cond := 0, time := 0 }, qual := 0, start := 0, cuff := 0, hem := none, clipped := 0, flags := 0
      missed := 0, missedFirst := none, calGen := 0, regions := [(0, 0, 0)], lens := [0], holdoff := 0
      holdoffEvents := 0 } })] }
    store := { table := true, imageTable := true, turn := 2, queues := [(2, [straySleeveRead])] } }

/-- The slot counts at offset 0x80A0, and so does the block that the record sleeve drops: 0x10 for each sleeve number. -/
theorem openTransaction_counts_dropped_block :
    counter (openTransaction false (fresh straySleeveState)) 8 0x80A0 = 2 := by decide +kernel

/-- No ring and no context has anything to ask for before the slot. -/
theorem straySleeve_pumps_nothing :
    pumpContexts (pumpStreams (fresh straySleeveState)) = fresh straySleeveState := rfl

/-- What the slot alone would count. -/
theorem bump_counts_slot : counter (bump 8 0x80A0 (fresh straySleeveState)) 8 0x80A0 = 1 := by decide

/-- Refutes O44: the capture that ends behind the slot drops a block of sleeve 2,058, whose counter stands where the
statement has HOST's slots counted. -/
theorem not_openTrafficServesReads : ¬ Obligations.OpenTrafficServesReads := by
  unfold Obligations.OpenTrafficServesReads
  intro h
  obtain ⟨-, -, -, -, -, hslot, -⟩ := h straySleeveState 0 1 0 false false .clean
  simp only [straySleeve_pumps_nothing] at hslot
  obtain ⟨t, ht, -, -, -, hcounts⟩ := hslot rfl rfl rfl (by decide) straySleeveRead [] rfl rfl (by decide) rfl rfl
    (fun p hp => absurd hp List.not_mem_nil)
  obtain rfl := effect_of_act (f := openTransaction false) ht
  obtain ⟨hserved, -⟩ := hcounts rfl
  rw [settle_counter, openTransaction_counts_dropped_block, bump_counts_slot] at hserved
  exact absurd hserved (by decide)

end Sys2Proof.Machine
end

section
/-! PROOF. A supply that becomes valid, STBY and the rail groups (03 R51 to R55, R79, R80). -/

namespace Sys2Proof.Machine

/-! ## A supply that becomes valid -/

/-- Whether a supply is valid: VAUX3V3 or VIN48. -/
def supplyOf (vaux : Bool) (p : Power) : Bool := if vaux then p.vaux else p.vin48

/-- The power with a supply valid. -/
def withSupply (vaux : Bool) (p : Power) : Power := if vaux then { p with vaux := true } else { p with vin48 := true }

/-- The power once sequencing has begun: the rails on, class and TEST_EN sampled unless they were already (R53, R54). -/
def sequenced (straps : Nat) (testEn : Bool) (p : Power) : Power :=
  { p with on := true, cls := some (p.cls.getD (straps % 8)), testEn := if p.cls.isSome then p.testEn else testEn }

theorem startSequence_eq (straps : Nat) (testEn : Bool) (s : State) : startSequence straps testEn s =
    { s with pwr := sequenced straps testEn s.pwr, life := { s.life with sys := .powerUp } } := rfl

section
variable {s : State} {vaux : Bool} (straps : Nat) (testEn : Bool)

theorem supplyValid_of_valid (h : supplyOf vaux s.pwr = true) : supplyValid vaux straps testEn s = s := if_pos h

theorem supplyValid_first (h : supplyOf vaux s.pwr = false) (hother : supplyOf (!vaux) s.pwr = false) :
    supplyValid vaux straps testEn s = { s with pwr := withSupply vaux s.pwr, life := { s.life with sys := .off } } := by
  cases vaux <;> simp_all [supplyOf, supplyValid, suppliesValid, withSupply, mPwr, mLife]

theorem supplyValid_in_standby (h : supplyOf vaux s.pwr = false) (hother : supplyOf (!vaux) s.pwr = true)
    (hstby : s.pwr.stby = true) : supplyValid vaux straps testEn s =
      { s with pwr := withSupply vaux s.pwr, life := { s.life with sys := .standby } } := by
  cases vaux <;> simp_all [supplyOf, supplyValid, suppliesValid, withSupply, mPwr, mLife]

theorem supplyValid_sequences (h : supplyOf vaux s.pwr = false) (hother : supplyOf (!vaux) s.pwr = true)
    (hstby : s.pwr.stby = false) : supplyValid vaux straps testEn s =
      startSequence straps testEn { s with pwr := withSupply vaux s.pwr } := by
  cases vaux <;> simp_all [supplyOf, supplyValid, suppliesValid, withSupply, mPwr]

end

theorem supplyOf_not (vaux : Bool) (p : Power) : supplyOf (!vaux) p = if vaux then p.vin48 else p.vaux := by
  cases vaux <;> rfl

/-- Settles O10: what follows a supply that becomes valid depends on the other supply and on STBY. -/
theorem supplyBecomesValid : Obligations.SupplyBecomesValid := by
  unfold Obligations.SupplyBecomesValid
  intro s vaux testEn straps before other p
  have hother : ∀ b, other = b → supplyOf (!vaux) s.pwr = b := fun b h => (supplyOf_not vaux s.pwr).trans h
  have hsampled : (withSupply vaux s.pwr).cls = s.pwr.cls ∧ (withSupply vaux s.pwr).testEn = s.pwr.testEn := by
    cases vaux <;> exact ⟨rfl, rfl⟩
  refine ⟨fun h => ?valid, fun h ho => ?first, fun h ho hstby => ?standby, fun h ho hstby => ?sequences⟩
  case valid => exact act_of_effect (supplyValid_of_valid (s := fresh s) straps testEn h)
  case first => exact act_of_effect (supplyValid_first (s := fresh s) straps testEn h (hother _ ho))
  case standby => exact act_of_effect (supplyValid_in_standby (s := fresh s) straps testEn h (hother _ ho) hstby)
  case sequences =>
    refine act_of_effect ((supplyValid_sequences (s := fresh s) straps testEn h (hother _ ho) hstby).trans ?_)
    rw [startSequence_eq, sequenced, fresh_pwr, hsampled.1, hsampled.2]
    rfl

/-! ## STBY -/

section
variable {s : State} (straps : Nat) (testEn : Bool)

theorem stbyHigh_of_high (h : s.pwr.stby = true) : stbyHigh s = s := if_pos h

theorem stbyHigh_of_off (h : s.pwr.stby = false) (hoff : s.pwr.on = false) : stbyHigh s =
    { s with
      pwr := { s.pwr with stby := true }
      life := if s.pwr.vin48 && s.pwr.vaux then { s.life with sys := .standby } else s.life } := by
  cases hboth : s.pwr.vin48 && s.pwr.vaux <;> simp [stbyHigh, h, hoff, suppliesValid, hboth, mPwr, mLife]

theorem stbyLow_of_low (h : s.pwr.stby = false) : stbyLow straps testEn s = s := if_pos (by simp [h])

theorem stbyLow_waits (h : s.pwr.stby = true) (hwait : s.pwr.on = true ∨ s.pwr.vin48 = false ∨ s.pwr.vaux = false) :
    stbyLow straps testEn s = { s with pwr := { s.pwr with stby := false } } := by
  rcases hwait with hon | hvin | hvaux <;> simp [stbyLow, suppliesValid, mPwr, *]

theorem stbyLow_sequences (h : s.pwr.stby = true) (hoff : s.pwr.on = false) (hvin : s.pwr.vin48 = true)
    (hvaux : s.pwr.vaux = true) :
    stbyLow straps testEn s = startSequence straps testEn { s with pwr := { s.pwr with stby := false } } := by
  simp [stbyLow, h, suppliesValid, mPwr, hoff, hvin, hvaux]

theorem standbyOff_of_not_ready (h : standbyReady s = false) : standbyOff s = s := by simp [standbyOff, h]

theorem standbyOff_stays (h : standbyReady s = true) (hstby : s.pwr.stby = true) :
    standbyOff s = powerOff .standby s := by
  simp [standbyOff, h, powerOff, hstby]

theorem standbyOff_sequences (h : standbyReady s = true) (hstby : s.pwr.stby = false) :
    standbyOff s = startSequence 0 false (powerOff .standby s) := by
  simp [standbyOff, h, powerOff, hstby]

end

/-- Settles O12: each edge of STBY, and the rails' turn-off, case by case. -/
theorem standbyPin : Obligations.StandbyPin := by
  unfold Obligations.StandbyPin
  intro s straps testEn
  refine ⟨fun h => ?high, fun h hoff => ?highOff, fun h => ?low, fun h hwait => ?lowWaits,
    fun h hoff hvin hvaux => ?lowSequences,
    fun hready h => ?railsOff, fun hready h => ?railsAgain, fun hready => ?notReady⟩
  case high => exact act_of_effect (stbyHigh_of_high (s := fresh s) h)
  case highOff => exact act_of_effect (stbyHigh_of_off (s := fresh s) h hoff)
  case low => exact act_of_effect (stbyLow_of_low (s := fresh s) straps testEn h)
  case lowWaits => exact act_of_effect (stbyLow_waits (s := fresh s) straps testEn h hwait)
  case lowSequences => exact act_of_effect (stbyLow_sequences (s := fresh s) straps testEn h hoff hvin hvaux)
  case railsOff =>
    exact ⟨_, act_of_effect (standbyOff_stays (s := fresh s) hready h), rfl, rfl, rfl, h, rfl, rfl, rfl⟩
  case railsAgain =>
    exact ⟨_, act_of_effect (standbyOff_sequences (s := fresh s) hready h), rfl, rfl, rfl, rfl, h, rfl, rfl, rfl, rfl⟩
  case notReady => exact act_of_effect (standbyOff_of_not_ready (s := fresh s) hready)

/-! ## The rail groups -/

section
variable {s : State} {g : Nat}

/-- A group that comes into regulation is due when it is the next one of a sequence under way (R55). -/
def groupDue (g : Nat) (s : State) : Prop :=
  s.pwr.on = true ∧ s.pwr.staged = false ∧ g = s.pwr.groups + 1 ∧ g ≤ 3

theorem groupUp_of_not_due (h : ¬ groupDue g s) : groupUp g s = s := by
  refine if_pos (by_contra fun hnot => h ?_)
  obtain ⟨⟨⟨hon, hstaged⟩, hnext⟩, hg⟩ :
      ((s.pwr.on = true ∧ s.pwr.staged = false) ∧ s.pwr.groups + 1 = g) ∧ g ≤ 3 := by simpa using hnot
  exact ⟨hon, hstaged, hnext.symm, hg⟩

theorem groupUp_early (h : groupDue g s) (hg : g < 3) : groupUp g s = { s with pwr := { s.pwr with groups := g } } := by
  obtain ⟨hon, hstaged, rfl, -⟩ := h
  simp [groupUp, hon, hstaged, mPwr, show ¬ 3 < s.pwr.groups + 1 by omega, show s.pwr.groups ≠ 2 by omega]

/-- Group 3 turns the analysis rails on, and outside a test the calibration of every event input begins (R345). -/
theorem groupUp_third (h : groupDue 3 s) : groupUp 3 s =
    if s.pwr.testEn then { s with pwr := { s.pwr with groups := 3, analysis := true } }
    else startCal 0xFF { s with pwr := { s.pwr with groups := 3, analysis := true } } := by
  obtain ⟨hon, hstaged, hgroups, -⟩ := h
  simp [groupUp, hon, hstaged, ← hgroups, mPwr]

end

/-- Settles O14: a group counts when it is due, and the third one brings the analysis rails. -/
theorem railGroupsRiseInOrder : Obligations.RailGroupsRiseInOrder := by
  unfold Obligations.RailGroupsRiseInOrder
  intro s g
  refine ⟨fun hon hstaged hnext hg => ?early, fun hon hstaged hgroups htest => ?test,
    fun hon hstaged hgroups htest => ?third, fun h => ?notDue⟩
  case early => exact act_of_effect (groupUp_early (s := fresh s) ⟨hon, hstaged, hnext, by omega⟩ hg)
  case test =>
    exact act_of_effect ((groupUp_third (s := fresh s) ⟨hon, hstaged, by simp [hgroups], le_rfl⟩).trans (if_pos htest))
  case third =>
    exact act_of_effect ((groupUp_third (s := fresh s) ⟨hon, hstaged, by simp [hgroups], le_rfl⟩).trans
      (if_neg (Bool.eq_false_iff.mp htest)))
  case notDue =>
    refine act_of_effect (groupUp_of_not_due (s := fresh s) fun ⟨hon, hstaged, hnext, hg⟩ => ?_)
    rcases h with h | h | h | h
    · exact Bool.false_ne_true (h.symm.trans hon)
    · exact Bool.false_ne_true (hstaged.symm.trans h)
    · exact h hnext
    · omega

end Sys2Proof.Machine
end

section
/-! PROOF. What the recorder's own work and the output pins' rest leave alone (18 R424 to R436, 14 R352). -/

namespace Sys2Proof.Machine

/-! ## The recorder's work -/

/-- The state with the parts taken out that the recorder works on: its own, the counters and the status tree. Two states
with the same `outsideLog` agree in every other part. -/
def outsideLog (s : State) : State := { s with stat := {}, snap := {}, recorder := {} }

@[simp] theorem outsideLog_recorder (r : Recorder) (s : State) : outsideLog { s with recorder := r } = outsideLog s := rfl
@[simp] theorem outsideLog_pulse0 (n bit : Nat) (s : State) : outsideLog (pulse0 n bit s) = outsideLog s := rfl

@[simp] theorem outsideLog_bumpBy (n off k : Nat) (s : State) : outsideLog (bumpBy n off k s) = outsideLog s := by
  unfold bumpBy
  split <;> rfl

@[simp] theorem outsideLog_bump (n off : Nat) (s : State) : outsideLog (bump n off s) = outsideLog s :=
  outsideLog_bumpBy n off 1 s

@[simp] theorem outsideLog_logEvent (code source : Nat) (params : List Nat) (s : State) :
    outsideLog (logEvent code source params s) = outsideLog s := by
  simp only [logEvent]
  repeat' split
  all_goals simp

@[simp] theorem outsideLog_endFreeze (s : State) : outsideLog (endFreeze s) = outsideLog s := rfl

@[simp] theorem outsideLog_writeVolatile (e : Rec) (s : State) : outsideLog (writeVolatile e s) = outsideLog s := by
  simp [writeVolatile]

@[simp] theorem outsideLog_degrade (reason : Nat) (s : State) : outsideLog (degrade reason s) = outsideLog s := by
  unfold degrade
  split <;> simp

@[simp] theorem outsideLog_placeRec (e : Rec) (s : State) : outsideLog (placeRec e s) = outsideLog s := by
  simp [placeRec]

@[simp] theorem outsideLog_mergeRec (e : Rec) (bp : Nat × Nat) (s : State) :
    outsideLog (mergeRec e bp s) = outsideLog s := by
  simp only [mergeRec]
  split <;> simp

@[simp] theorem outsideLog_putRec (e : Rec) (s : State) : outsideLog (putRec e s) = outsideLog s := by
  unfold putRec
  split <;> simp

@[simp] theorem outsideLog_remapBlock (e : Rec) (s : State) : outsideLog (remapBlock e s) = outsideLog s := by
  simp [remapBlock]

/-- A write whose verify fails goes to the next free block or to the volatile ring. -/
@[simp] theorem outsideLog_failRec (e : Rec) (copyVerify : Bool) (s : State) :
    outsideLog (failRec e copyVerify s) = outsideLog s := by
  simp only [failRec]
  repeat' split
  all_goals simp

theorem outsideLog_takeRec {s t : State} {e : Rec} (h : takeRec s = some (e, t)) : outsideLog t = outsideLog s := by
  simp only [takeRec] at h
  repeat' split at h
  all_goals simp_all
  all_goals (obtain ⟨-, rfl⟩ := h; rfl)

@[simp] theorem outsideLog_writeRecord (verify copyVerify stateVerify : Bool) (s : State) :
    outsideLog (writeRecord verify copyVerify stateVerify s) = outsideLog s := by
  unfold writeRecord
  split
  case h_1 => rfl
  case h_2 e t ht =>
    rw [← outsideLog_takeRec ht]
    dsimp only
    repeat' split
    all_goals simp

theorem outsideLog_drainRecords (s : State) : outsideLog (drainRecords s) = outsideLog s :=
  foldl_leaves (fun s _ => outsideLog_writeRecord true true true s) _ s

@[simp] theorem outsideLog_countUp (kind v : Nat) (set : Nat → Recorder → Recorder) (s : State) :
    outsideLog (countUp kind v set s) = outsideLog s := by
  simp only [countUp]
  split <;> simp

/-- Step 4 of a power-up for the recorder (R425, R436). -/
theorem outsideLog_recorderPowerUp (mramOk : Bool) (found : MramFound) (s : State) :
    outsideLog (recorderPowerUp mramOk found s) = outsideLog s := by
  simp only [recorderPowerUp, outsideLog_logEvent, outsideLog_countUp]
  split <;> simp

/-! ## The output pins at rest -/

/-- The state with the parts taken out that the output pins' rest changes: the event unit and what leaves the module. -/
def outsidePins (s : State) : State := { s with tiu := {}, outbox := [] }

theorem outsidePins_drivePin (o : Nat) (f : OutPin → OutPin) (s : State) :
    outsidePins (drivePin o f s) = outsidePins s := by
  simp only [drivePin]
  split <;> rfl

theorem outsidePins_stopOutputs (s : State) : outsidePins (stopOutputs s) = outsidePins s :=
  foldl_leaves (fun s o => outsidePins_drivePin o _ s) _ s

end Sys2Proof.Machine
end

section
/-! PROOF. The loss of a supply, faults of the rails, and what a power-up starts (03 R56, R57, R81, 19 R439 to R453). -/

namespace Sys2Proof.Machine

/-! ## The link after settling -/

/-- Settling leaves of the link everything but what is held pending. -/
theorem settle_link_but_pending {β : Type} (p : HostLink → β) (hp : ∀ l held, p { l with pending := held } = p l)
    (o s : State) : p (settle o s).link = p s.link := by
  rcases settle_link o s with h | h
  · rw [h]
  · rw [h, hp]

section
variable (o s : State)

@[simp] theorem settle_link_up : (settle o s).link.up = s.link.up :=
  settle_link_but_pending HostLink.up (fun _ _ => rfl) o s
@[simp] theorem settle_link_ready : (settle o s).link.ready = s.link.ready :=
  settle_link_but_pending HostLink.ready (fun _ _ => rfl) o s
@[simp] theorem settle_link_perst : (settle o s).link.perst = s.link.perst :=
  settle_link_but_pending HostLink.perst (fun _ _ => rfl) o s
@[simp] theorem settle_link_speed : (settle o s).link.speed = s.link.speed :=
  settle_link_but_pending HostLink.speed (fun _ _ => rfl) o s
@[simp] theorem settle_link_d3hot : (settle o s).link.d3hot = s.link.d3hot :=
  settle_link_but_pending HostLink.d3hot (fun _ _ => rfl) o s
@[simp] theorem settle_link_bar0 : (settle o s).link.bar0 = s.link.bar0 :=
  settle_link_but_pending HostLink.bar0 (fun _ _ => rfl) o s
@[simp] theorem settle_link_bar2 : (settle o s).link.bar2 = s.link.bar2 :=
  settle_link_but_pending HostLink.bar2 (fun _ _ => rfl) o s
@[simp] theorem settle_link_msix : (settle o s).link.msix = s.link.msix :=
  settle_link_but_pending HostLink.msix (fun _ _ => rfl) o s

end

/-! ## The loss of a supply -/

theorem powerLoss_pwr (s : State) : (powerLoss s).pwr = s.pwr := by
  simp only [powerLoss]
  repeat' split
  · exact (congrArg State.pwr (outsideLog_drainRecords _)).trans (logEvent_pwr ..)
  · rfl
  · rfl

theorem supplyInvalid_of_invalid {s : State} {vaux : Bool} (h : supplyOf vaux s.pwr = false) : supplyInvalid vaux s = s :=
  if_pos ((Bool.not_eq_true' _).mpr h)

/-- The rails off with class and TEST_EN to be sampled anew (R54, R470). -/
def unsampled (s : State) : State := mPwr (fun p => { p with cls := none, testEn := false }) (powerOff .off s)

/-- The loss of VAUX3V3 clears the cause latch (R477). -/
theorem supplyInvalid_vaux {s : State} (h : s.pwr.vaux = true) : supplyInvalid true s =
    mPkg (fun k => { k with smbus := 0 }) (mPwr (fun p => { p with
      vaux := false, cause := .none, causeGroup := 0, causeInput := 0, causeRecorded := false }) (unsampled s)) := by
  simp [supplyInvalid, h, unsampled]

/-- The loss of VIN48 may still be recorded as the rails fall (R81). -/
theorem supplyInvalid_vin48 {s : State} (h : s.pwr.vin48 = true) : supplyInvalid false s =
    mPwr (fun p => { p with vin48 := false }) (unsampled (powerLoss s)) := by
  simp [supplyInvalid, h, unsampled]

/-- Settles O11: the loss of either supply ends in the same powerless state, but for the supplies and the cause latch. -/
theorem supplyBecomesInvalid : Obligations.SupplyBecomesInvalid := by
  unfold Obligations.SupplyBecomesInvalid
  intro s vaux before
  refine ⟨fun h => act_of_effect (supplyInvalid_of_invalid (s := fresh s) h), fun h => ?_⟩
  cases vaux with
  | true =>
    refine ⟨_, act_of_effect (supplyInvalid_vaux (s := fresh s) h), ?_⟩
    simp [unsampled, powerOff]
  | false =>
    refine ⟨_, act_of_effect (supplyInvalid_vin48 (s := fresh s) h), ?_⟩
    simp [unsampled, powerOff, powerLoss_pwr]

/-! ## Faults of the rails, input trips and thermal shutdowns -/

section
variable {s : State} {g inp : Nat}

theorem hardOff_of_off (c : PowerCause) (h : s.pwr.on = false) : hardOff c s = s := if_pos (by simp [h])

theorem hardOff_of_on (c : PowerCause) (h : s.pwr.on = true) :
    hardOff c s = powerOff (faultState s) (latchCause c 0 0 false s) := if_neg (by simp [h])

theorem railFault_of_off (h : s.pwr.on = false) : railFault g inp s = s := if_pos (by simp [h])

theorem railFault_third_staged (h : s.pwr.staged = true) : railFault 3 inp s = s := if_pos (by simp [h])

/-- A pair of group and monitor input that R437's table does not have names no rail. -/
theorem railFault_of_no_rail (h : railGroup inp ≠ some g) : railFault g inp s = s := by
  simp [railFault, h]

theorem railFault_at_once (hon : s.pwr.on = true) (hrail : railGroup inp = some g)
    (hearly : s.pwr.groups < 2 ∨ g = 2 ∨ g = 4) (hnew : ¬ (s.pwr.staged = true ∧ g = 3)) :
    railFault g inp s = powerOff (faultState s) (latchCause .railFault g inp false s) := by
  have hnow : ¬ (2 ≤ s.pwr.groups ∧ g ≠ 2 ∧ g ≠ 4) := by omega
  simp [railFault, hon, hrail, hnow, hnew]

theorem railFault_staged (hon : s.pwr.on = true) (hrail : railGroup inp = some g) (hup : 2 ≤ s.pwr.groups)
    (hg2 : g ≠ 2) (hg4 : g ≠ 4) (hnew : ¬ (s.pwr.staged = true ∧ g = 3)) :
    railFault g inp s = stageOff (latchCause .railFault g inp true s) := by
  simp [railFault, hon, hrail, hup, hg2, hg4, hnew]

@[simp] theorem stopUnits_eng_running (s : State) : (stopUnits s).eng.running = false := rfl

/-- What the beginning of a staged turn-off leaves (R439). -/
theorem stageOff_leaves (s : State) :
    (stageOff s).life = { s.life with sys := faultState s, stop := none, awaitRoot := false } ∧
    (stageOff s).pwr = { s.pwr with staged := true, groups := 2, analysis := false } ∧
    (stageOff s).store = {} ∧ (stageOff s).eng.running = false ∧
    (stageOff s).recorder = (logEvent 0x4006 20 [s.pwr.causeGroup, s.pwr.causeInput] s).recorder := by
  have hrest := outsidePins_stopOutputs (logEvent 0x4006 20 [s.pwr.causeGroup, s.pwr.causeInput] s)
  have hlife := (congrArg State.life hrest :)
  have hpwr := (congrArg State.pwr hrest :)
  have hrec := (congrArg State.recorder hrest :)
  simp only [outsidePins] at hlife hpwr hrec
  simp [stageOff, unpowered, faultState, hlife, hpwr, hrec]

theorem endStaged_of_staged (h : s.pwr.staged = true) : endStaged s = powerOff (faultState s) s := if_pos h

theorem endStaged_of_not_staged (h : s.pwr.staged = false) : endStaged s = s := if_neg (Bool.eq_false_iff.mp h)

end

/-- Settles O17: a fault turns the rails off at once or begins the staged turn-off, which ends in the same state. -/
theorem powerFaults : Obligations.PowerFaults := by
  unfold Obligations.PowerFaults
  intro s g inp off
  refine ⟨fun hon => ⟨?trip, ?thermal, fun hrail hearly hnew => ?atOnce, fun hnone => ?noRail,
    fun hrail hup hg2 hg4 hnew => ?staged, fun hstaged => ?again⟩, fun hoff => ⟨?offTrip, ?offThermal, ?offFault⟩,
    fun hstaged => ?expiry, fun hstaged => ?noExpiry⟩
  case trip =>
    exact ⟨_, act_of_effect (hardOff_of_on (s := fresh s) _ hon), ⟨rfl, rfl, rfl, rfl, rfl, rfl, rfl, rfl⟩, rfl, rfl, rfl⟩
  case thermal =>
    exact ⟨_, act_of_effect (hardOff_of_on (s := fresh s) _ hon), ⟨rfl, rfl, rfl, rfl, rfl, rfl, rfl, rfl⟩, rfl⟩
  case atOnce =>
    exact ⟨_, act_of_effect (railFault_at_once (s := fresh s) hon hrail hearly hnew),
      ⟨rfl, rfl, rfl, rfl, rfl, rfl, rfl, rfl⟩, rfl, rfl, rfl⟩
  case noRail => exact act_of_effect (railFault_of_no_rail hnone)
  case staged =>
    refine ⟨_, act_of_effect (railFault_staged (s := fresh s) hon hrail hup hg2 hg4 hnew), ?_⟩
    obtain ⟨hlife, hpwr, hstore, heng, hrec⟩ := stageOff_leaves (latchCause .railFault g inp true (fresh s))
    simp only [settle_life, settle_pwr, settle_store, settle_eng, settle_recorder, hlife, hpwr, hstore, heng, hrec]
    refine ⟨rfl, rfl, trivial, trivial, fun hroom hthawed => ?_⟩
    rw [logEvent_room (s := latchCause .railFault g inp true (fresh s)) _ _ _ hthawed hroom]
    exact ⟨_, rfl, rfl, rfl⟩
  case again => exact act_of_effect (railFault_third_staged (s := fresh s) hstaged)
  case offTrip => exact act_of_effect (hardOff_of_off (s := fresh s) _ hoff)
  case offThermal => exact act_of_effect (hardOff_of_off (s := fresh s) _ hoff)
  case offFault => exact act_of_effect (railFault_of_off (s := fresh s) hoff)
  case expiry =>
    exact ⟨_, act_of_effect (endStaged_of_staged (s := fresh s) hstaged), ⟨rfl, rfl, rfl, rfl, rfl, rfl, rfl, rfl⟩,
      rfl, rfl, rfl⟩
  case noExpiry => exact act_of_effect (endStaged_of_not_staged (s := fresh s) hstaged)

end Sys2Proof.Machine
end

section
/-! PROOF. The steps of a power-up, and the end of step 5 of a restart (03 R57, R58, R63 to R65, R75, R78, R185). -/

namespace Sys2Proof.Machine

/-! ## The load that begins with the last of its conditions -/

section
variable (s : State)

@[simp] theorem tryLoad_time : (tryLoad s).time = s.time := by unfold tryLoad; split <;> rfl
@[simp] theorem tryLoad_pwr : (tryLoad s).pwr = s.pwr := by unfold tryLoad; split <;> rfl
@[simp] theorem tryLoad_mbox : (tryLoad s).mbox = s.mbox := by unfold tryLoad; split <;> rfl
@[simp] theorem tryLoad_store : (tryLoad s).store = s.store := by unfold tryLoad; split <;> rfl
@[simp] theorem tryLoad_sleeves : (tryLoad s).sleeves = s.sleeves := by unfold tryLoad; split <;> rfl
@[simp] theorem tryLoad_zeroed : (tryLoad s).life.zeroed = s.life.zeroed := by unfold tryLoad; split <;> rfl
@[simp] theorem tryLoad_codeA : (tryLoad s).img.codeA = s.img.codeA := by unfold tryLoad; split <;> rfl
@[simp] theorem tryLoad_flash : (tryLoad s).loader.flash = s.loader.flash := by unfold tryLoad; split <;> rfl
@[simp] theorem tryLoad_pointerRead : (tryLoad s).loader.pointerRead = s.loader.pointerRead := by
  unfold tryLoad; split <;> rfl
@[simp] theorem tryLoad_pointer : (tryLoad s).loader.pointer = s.loader.pointer := by unfold tryLoad; split <;> rfl
@[simp] theorem tryLoad_areas : (tryLoad s).loader.areas = s.loader.areas := by unfold tryLoad; split <;> rfl
@[simp] theorem tryLoad_board : (tryLoad s).loader.board = s.loader.board := by unfold tryLoad; split <;> rfl
@[simp] theorem tryLoad_boardDone : (tryLoad s).loader.boardDone = s.loader.boardDone := by unfold tryLoad; split <;> rfl

end

/-- Once the root is locked, the load begins in a power-up whose other conditions hold (R57, R470). -/
theorem tryLoad_sys {s : State} (hroot : s.pwr.root = true) : (tryLoad s).life.sys =
    if s.life.sys = .powerUp ∧ s.pwr.on = true ∧ s.life.zeroed = true ∧ s.loader.pointerRead = true ∧
      s.loader.boardDone = true ∧ s.pwr.testEn = false ∧ s.pwr.staged = false then .loading else s.life.sys := by
  have hdue : tryLoad s = if s.life.sys = .powerUp ∧ s.pwr.on = true ∧ s.life.zeroed = true ∧
      s.loader.pointerRead = true ∧ s.loader.boardDone = true ∧ s.pwr.testEn = false ∧ s.pwr.staged = false
      then beginLoad s else s := by
    simp [tryLoad, hroot, and_assoc]
  rw [hdue]
  split <;> rfl

/-- A load that begins clears the code shown for slot B (R67). -/
theorem tryLoad_codeB {s : State} (h : s.life.sys = .powerUp) :
    (tryLoad s).img.codeB = if (tryLoad s).life.sys = .powerUp then s.img.codeB else 0 := by
  unfold tryLoad
  split
  · rfl
  · rfl

/-! ## The oscillator and the root -/

/-- What the start of the oscillator settles beside the recorder and the clocks. -/
def ovenParts (s : State) : TimeBase × Life × Store × Package × Bool := (s.time, s.life, s.store, s.pkg, s.pwr.osc)

theorem ovenParts_recorderPowerUp (mramOk : Bool) (found : MramFound) (s : State) :
    ovenParts (recorderPowerUp mramOk found s) = ovenParts s :=
  (congrArg ovenParts (outsideLog_recorderPowerUp mramOk found s) :)

theorem ovenParts_deferredRecord (s : State) : ovenParts (deferredRecord s) = ovenParts s := by
  simp only [deferredRecord]
  repeat' split
  all_goals simp [ovenParts]

theorem ovenParts_firstModel (a0 a1 : Int) (t0 : Nat) (s : State) : ovenParts (firstModel a0 a1 t0 s) = ovenParts s := by
  simp only [firstModel, underLimit]
  split <;> simp [ovenParts]

theorem ovenParts_ovenRuns {s : State} (mramOk : Bool) (found : MramFound) (hon : s.pwr.on = true)
    (hosc : s.pwr.osc = false) (hgroups : 2 ≤ s.pwr.groups) : ovenParts (ovenRuns mramOk found s) =
      (s.time, s.life, s.store, { s.pkg with drefclk := 0xFFFF, xspiReset := true }, true) := by
  have hdue : ¬ (!s.pwr.on || s.pwr.osc || decide (s.pwr.groups < 2)) = true := by
    simp only [hon, hosc, Bool.not_true, Bool.false_or, decide_eq_true_eq]
    omega
  rw [ovenRuns, if_neg hdue]
  simp only [ovenParts_firstModel, ovenParts_deferredRecord, ovenParts_recorderPowerUp]
  rfl

theorem rootLocks_of_due {s : State} (hosc : s.pwr.osc = true) (hcount : s.time.counting = false) : rootLocks s =
    tryLoad { s with
      pwr := { s.pwr with root := true, hkFromRoot := true }, time := { s.time with count := 0, counting := true } } := by
  simp [rootLocks, hosc, hcount, mPwr, mTime]

/-- Settles O15: the oscillator's start, and the root's lock with the load that may follow it. -/
theorem oscillatorAndRootStart : Obligations.OscillatorAndRootStart := by
  unfold Obligations.OscillatorAndRootStart
  intro s mramOk found
  refine ⟨fun hon hosc hgroups => ?oscillator, fun hosc hcount => ?root⟩
  case oscillator =>
    have hparts := ovenParts_ovenRuns (s := fresh s) mramOk found hon hosc hgroups
    simp only [ovenParts, Prod.mk.injEq] at hparts
    obtain ⟨htime, hlife, hstore, hpkg, hrun⟩ := hparts
    refine ⟨settle s (ovenRuns mramOk found (fresh s)), rfl, hrun, ?_, ?_, htime, hlife, hstore⟩
    · rw [settle_pkg, hpkg]
    · rw [settle_pkg, hpkg]
  case root =>
    exact ⟨_, act_of_effect (rootLocks_of_due (s := fresh s) hosc hcount), tryLoad_time _, tryLoad_pwr _, tryLoad_sys rfl⟩

/-! ## The boot pointer and the board record -/

/-- Whether a copy of the boot pointer was read and is valid for the flash (R64). -/
def copyValid (density : Nat) : Option (List Byte) → Bool
  | some bs => pointerValid density bs
  | none => false

/-- The copy in use, 2 for the default (R64). -/
def pointerInUse (density : Nat) (c0 c1 : Option (List Byte)) : Nat :=
  if copyValid density c0 then 0 else if copyValid density c1 then 1 else 2

/-- The areas of the copy in use (R64). -/
def areasInUse (density : Nat) (c0 c1 : Option (List Byte)) : Areas :=
  if copyValid density c0 then parseAreas (c0.getD []) else if copyValid density c1 then parseAreas (c1.getD [])
  else defaultAreas

/-- The areas follow from the number of the copy in use. -/
theorem areasInUse_eq (density : Nat) (c0 c1 : Option (List Byte)) : areasInUse density c0 c1 =
    if pointerInUse density c0 c1 = 0 then parseAreas (c0.getD [])
    else if pointerInUse density c0 c1 = 1 then parseAreas (c1.getD []) else defaultAreas := by
  simp only [areasInUse, pointerInUse]
  split
  · rfl
  · split <;> rfl

/-- The state with the boot pointer held. -/
def pointerHeld (flash : FlashInfo) (c0 c1 : Option (List Byte)) (s : State) : State :=
  mLoader (fun l => { l with
    flash := flash, pointerRead := true, pointer := pointerInUse flash.density c0 c1
    areas := areasInUse flash.density c0 c1 }) s

/-- The records of a slow flash and of a default pointer (R58, R64). -/
def pointerRecorded (octal dflt : Bool) (s : State) : State :=
  let s := if octal then s else logEvent 0x2007 24 [] s
  if dflt then logEvent 0x2008 24 [] s else s

theorem outsideLog_pointerRecorded (octal dflt : Bool) (s : State) :
    outsideLog (pointerRecorded octal dflt s) = outsideLog s := by
  simp only [pointerRecorded]
  repeat' split
  all_goals simp

theorem readPointer_of_due {s : State} (flash : FlashInfo) (c0 c1 : Option (List Byte)) (h : pointerDue s = true) :
    readPointer flash c0 c1 s = tryLoad (pointerRecorded flash.octal (pointerInUse flash.density c0 c1 == 2)
      (pointerHeld flash c0 c1 s)) := by
  simp only [pointerRecorded, beq_iff_eq, pointerHeld, areasInUse_eq]
  exact if_neg (by simp [h])

theorem readPointer_of_not_due {s : State} (flash : FlashInfo) (c0 c1 : Option (List Byte)) (h : pointerDue s = false) :
    readPointer flash c0 c1 s = s := if_pos (by simp [h])

theorem readBoard_of_due {s : State} (data : Option (List Byte)) (hsys : s.life.sys = .powerUp)
    (hptr : s.loader.pointerRead = true) (hnew : s.loader.boardDone = false) : readBoard data s =
      tryLoad { s with loader := { s.loader with
        boardDone := true, board := data.map (fun bs => bs.take (min s.loader.areas.boardLen 4096)) } } := by
  simp [readBoard, hsys, hptr, hnew, mLoader]

theorem readBoard_of_not_due {s : State} (data : Option (List Byte))
    (h : s.life.sys ≠ .powerUp ∨ s.loader.pointerRead = false ∨ s.loader.boardDone = true) : readBoard data s = s :=
  if_pos (by simpa [or_assoc] using h)

theorem powerUp_of_pointerDue {s : State} (h : pointerDue s = true) : s.life.sys = .powerUp := by
  simp only [pointerDue, Bool.and_eq_true, beq_iff_eq] at h
  exact h.1.1.1.1

/-- Settles O18: each reading that is due is held, and may be the last condition of the load. -/
theorem bootPointerAndBoardRecordRead : Obligations.BootPointerAndBoardRecordRead := by
  unfold Obligations.BootPointerAndBoardRecordRead
  intro s flash c0 c1 data valid
  have hvalid : ∀ c, valid c = copyValid flash.density c := fun c => by cases c <;> rfl
  refine ⟨fun h => ?pointer, fun h => ?noPointer, fun hsys hptr hnew => ?board, fun h => ?noBoard⟩
  case pointer =>
    refine ⟨_, act_of_effect (readPointer_of_due (s := fresh s) flash c0 c1 h), ?_⟩
    have hrest := outsideLog_pointerRecorded flash.octal (pointerInUse flash.density c0 c1 == 2)
      (pointerHeld flash c0 c1 (fresh s))
    generalize pointerRecorded flash.octal (pointerInUse flash.density c0 c1 == 2) (pointerHeld flash c0 c1 (fresh s)) = u
      at hrest ⊢
    have hlife := (congrArg State.life hrest :)
    have hloader := (congrArg State.loader hrest :)
    have himg := (congrArg State.img hrest :)
    have hstore := (congrArg State.store hrest :)
    have hpwr := (congrArg State.pwr hrest :)
    have hmbox := (congrArg State.mbox hrest :)
    simp only [outsideLog, pointerHeld, mLoader, fresh_life, fresh_loader, fresh_img, fresh_store, fresh_pwr, fresh_mbox]
      at hlife hloader himg hstore hpwr hmbox
    have hsys : u.life.sys = .powerUp := by rw [hlife]; exact powerUp_of_pointerDue h
    have hcodeB := tryLoad_codeB hsys
    rw [himg] at hcodeB
    refine ⟨?_, ?_, ?_, ?_, ?_, hcodeB, ?_⟩
    all_goals simp [hloader, himg, hstore, hpwr, hmbox, hvalid, pointerInUse, areasInUse]
  case noPointer => exact act_of_effect (readPointer_of_not_due (s := fresh s) flash c0 c1 h)
  case board =>
    refine ⟨_, act_of_effect (readBoard_of_due (s := fresh s) data hsys hptr hnew), ?_⟩
    refine ⟨tryLoad_boardDone _, tryLoad_board _, tryLoad_codeA _, tryLoad_codeB hsys, tryLoad_areas _, tryLoad_store _,
      tryLoad_pwr _, tryLoad_mbox _⟩
  case noBoard => exact act_of_effect (readBoard_of_not_due (s := fresh s) data h)

end Sys2Proof.Machine
end
section
/-! PROOF. The training of the store and the end of its zeroing (03 R57, R75, R78, R163, R185). -/

namespace Sys2Proof.Machine

/-! ## The end of the training -/

section
variable {s : State} {ok0 ok1 : Bool}

/-- The training is awaited once group 3 is up, until the built-in table runs (R57, R185). -/
def trainingDue (s : State) : Prop :=
  s.pwr.on = true ∧ s.pwr.staged = false ∧ s.pwr.testEn = false ∧ s.store.table = false ∧ s.pwr.groups = 3

theorem trainingDone_good (h : trainingDue s) : trainingDone true true s =
    { s with
      store := { s.store with trained0 := true, trained1 := true, table := true }
      pwr := { s.pwr with cause := .none, causeGroup := 0, causeInput := 0, causeRecorded := false } } := by
  obtain ⟨hon, hstaged, htest, htable, hgroups⟩ := h
  simp [trainingDone, hon, hstaged, htest, htable, hgroups, mStore, latchCause, mPwr]

theorem trainingDone_bad (h : trainingDue s) (hbad : (ok0 && ok1) = false) : trainingDone ok0 ok1 s =
    stageOff (latchCause .storeTrain 3 7 true (mStore (fun a => { a with trained0 := ok0, trained1 := ok1 }) s)) := by
  obtain ⟨hon, hstaged, htest, htable, hgroups⟩ := h
  simp [trainingDone, hon, hstaged, htest, htable, hgroups, hbad]

end

/-! ## A load that fails, and the last step of a restart -/

section
variable (s : State)

@[simp] theorem loadFailed_store : (loadFailed s).store = s.store := by
  unfold loadFailed
  split <;> simp [enterSafe, endStopped, abandonLoad]

@[simp] theorem loadFailed_sleeves : (loadFailed s).sleeves = s.sleeves := by
  unfold loadFailed
  split <;> simp [enterSafe, endStopped, abandonLoad]

@[simp] theorem loadFailed_pkg : (loadFailed s).pkg = s.pkg := by
  unfold loadFailed
  split <;> simp [enterSafe, endStopped, abandonLoad]

@[simp] theorem loadFailed_zeroed : (loadFailed s).life.zeroed = s.life.zeroed := by
  unfold loadFailed
  split <;> simp [enterSafe, endStopped, abandonLoad]

end

/-- An event that finds the intake queue empty is queued and counts nowhere. -/
theorem logEvent_empty {s : State} (code source : Nat) (params : List Nat) (h : s.recorder.queue = []) :
    logEvent code source params s =
      { s with recorder := { s.recorder with queue := [recordOf s code source params] } } := by
  simp [logEvent, h, mergeQueue]

/-- With no record waiting, a load that fails moves no counter and latches nothing by itself. -/
theorem loadFailed_counts {s : State} (h : s.recorder.queue = []) :
    (loadFailed s).snap = s.snap ∧ (loadFailed s).stat = s.stat := by
  unfold loadFailed
  split
  · simp [enterSafe, logEvent_empty, h]
  · simp [endStopped, abandonLoad]

theorem queue_empty_of_no_record {s : State} (h : recordWaits s = false) : s.recorder.queue = [] := by
  simp only [recordWaits, Bool.or_eq_false_iff, Bool.not_eq_false', List.isEmpty_iff] at h
  exact h.1.2

/-- What the end of a restart's steps leaves alone, whether it waits, begins a load or gives it up. -/
theorem reload_leaves (s : State) : (reload s).store = s.store ∧ (reload s).sleeves = s.sleeves ∧
    (reload s).pkg = s.pkg ∧ (reload s).snap = s.snap ∧ (reload s).stat = s.stat := by
  unfold reload
  split
  case h_2 => exact ⟨rfl, rfl, rfl, rfl, rfl⟩
  case h_1 q hq =>
    by_cases hwait : q.step ≠ 6 ∨ recordWaits s = true
    · rw [if_pos hwait]
      exact ⟨rfl, rfl, rfl, rfl, rfl⟩
    · rw [if_neg hwait]
      split
      · have hqueue := queue_empty_of_no_record (Bool.eq_false_iff.mpr fun h => hwait (.inr h))
        have hcounts := loadFailed_counts (s := mLife (fun l => { l with stop := none }) s) hqueue
        simpa using hcounts
      · exact ⟨rfl, rfl, rfl, rfl, rfl⟩

theorem reload_waits {s : State} (h : recordWaits s = true) : reload s = s := by
  unfold reload
  split
  · exact if_pos (.inr h)
  · rfl

theorem reload_begins {s : State} {q : StopSeq} (hq : s.life.stop = some q) (hstep : q.step = 6)
    (hwait : recordWaits s = false) (hroot : s.life.rootGone = false) : reload s = beginLoad s := by
  simp [reload, hq, hstep, hwait, hroot]

/-! ## The zeroing ends -/

section
variable {s : State} {q : StopSeq}

/-- At power-up the load may begin, or a root given up ends in the safe state (R57, R126). -/
theorem storeZeroed_at_power_up (hstop : s.life.stop = none) (htable : s.store.table = true)
    (hnew : s.life.zeroed = false) (hsys : s.life.sys = .powerUp) : storeZeroed s =
      let u := mLife (fun l => { l with zeroed := true }) (zeroStore s)
      if s.life.rootGone then loadFailed u else tryLoad u := by
  simp [storeZeroed, hstop, htable, hnew, hsys, zeroStore]

theorem storeZeroed_controlled (hq : s.life.stop = some q) (hstep : q.step = 5) (hkind : q.kind = .controlled) :
    storeZeroed s =
      { s with store := { s.store with mem := [] }, sleeves := [], life := { s.life with stop := none } } := by
  simp [storeZeroed, hq, hstep, hkind, StopKind.restarts, zeroStore, mLife]

/-- The state in which step 6 of a restart finds the module (R75, R78, R474). -/
def restartZeroed (q : StopSeq) (s : State) : State :=
  { s with
    store := { s.store with mem := [] }, sleeves := []
    snap := { s.snap with ctrs := s.snap.ctrs.filter (fun p => continues p.1) }
    stat := { s.stat with summary := 0, summaryFresh := 0, grp := [], grpFresh := [], pulses := [] }
    pkg := { s.pkg with xspiReset := true }
    life := { s.life with stop := some { q with step := 6 } } }

theorem storeZeroed_restart (hq : s.life.stop = some q) (hstep : q.step = 5)
    (hkind : q.kind = .restart ∨ q.kind = .rootUnlock) (hfree : s.mbox.running = none) :
    storeZeroed s = reload (restartZeroed q s) := by
  have hrestarts : q.kind.restarts = true := by rcases hkind with h | h <;> rw [h] <;> rfl
  simp [storeZeroed, hq, hstep, hrestarts, abortMailbox, hfree, restartZeroed, zeroStore, resetCounters, mPkg,
    setStep, mLife]

end

/-- Settles O16: the training's two ends, and the zeroing's end at power-up, in a controlled stop and in a restart. -/
theorem storeTrainsAndIsZeroed : Obligations.StoreTrainsAndIsZeroed := by
  unfold Obligations.StoreTrainsAndIsZeroed
  intro s ok0 ok1
  refine ⟨fun hon hstaged htest htable hgroups => ?training, fun hstop htable hnew hsys => ?powerUp,
    fun q hq hstep hkind => ?controlled, fun q hq hstep hkind hfree => ?restart⟩
  case training =>
    have hdue : trainingDue (fresh s) := ⟨hon, hstaged, htest, htable, hgroups⟩
    refine ⟨?_, fun hbad => ⟨_, act_of_effect (trainingDone_bad hdue hbad), ?_⟩⟩
    · rintro rfl rfl
      exact act_of_effect (trainingDone_good hdue)
    · obtain ⟨-, hpwr, hstore, -⟩ := stageOff_leaves (latchCause .storeTrain 3 7 true
        (mStore (fun a => { a with trained0 := ok0, trained1 := ok1 }) (fresh s)))
      simp only [settle_pwr, settle_store, hpwr, hstore]
      exact ⟨trivial, rfl, rfl, rfl, trivial, trivial⟩
  case powerUp =>
    refine ⟨_, act_of_effect (storeZeroed_at_power_up (s := fresh s) hstop htable hnew hsys), ?_⟩
    dsimp only
    split <;> simp [zeroStore]
  case controlled => exact act_of_effect (storeZeroed_controlled (s := fresh s) hq hstep hkind)
  case restart =>
    obtain ⟨hstore, hsleeves, hpkg, hsnap, hstat⟩ := reload_leaves (restartZeroed q (fresh s))
    refine ⟨_, act_of_effect (storeZeroed_restart (s := fresh s) hq hstep hkind hfree), hstore, hsleeves,
      congrArg Snapshot.ctrs hsnap, congrArg Package.xspiReset hpkg, ⟨_, rfl, hstat⟩, fun hwait => ?_,
      fun hwait hroot => ?_⟩
    · rw [reload_waits (s := restartZeroed q (fresh s)) hwait]
      exact ⟨rfl, rfl⟩
    · rw [reload_begins (s := restartZeroed q (fresh s)) rfl rfl hwait hroot]
      exact ⟨rfl, rfl, rfl, rfl⟩

end Sys2Proof.Machine
end


section
/-! PROOF. STBY with the rails on, and the restart that a host asks for (03 R74, R75, R79, R80, R99). -/

namespace Sys2Proof.Machine

/-! ## What the first step of a stop leaves alone -/

/-- What a snapshot holds outside its own cycle, without the counters that run on: no counter that advances changes it
(R96). -/
def quiet (p : Snapshot) : Snapshot := { p with ctrs := [], held := if p.here then [] else p.held }

theorem quiet_bump (key n : Nat) (p : Snapshot) : quiet (p.bump key n) = quiet p := by
  cases hp : p.here <;> simp [quiet, Snapshot.bump, hp]

theorem holding_of_quiet {p q : Snapshot} (h : quiet p = quiet q) (hq : q.here = false) :
    p.held = q.held ∧ p.time = q.time ∧ p.seq = q.seq := by
  have hp : p.here = false := (congrArg Snapshot.here h).trans hq
  have hheld := congrArg Snapshot.held h
  simp only [quiet, hp, hq] at hheld
  exact ⟨hheld, (congrArg Snapshot.time h :), (congrArg Snapshot.seq h :)⟩

/-- The state with the parts taken out that the first step of a stop works on beside the live parameters: the trigger
groups, the event inputs, the calibration, the channels and what the recorder touches. -/
def beyondStop (s : State) : State :=
  { s with trig := {}, tiu := {}, cal := {}, chans := [], stat := {}, snap := quiet s.snap, recorder := {} }

theorem beyondStop_pulse0 (n bit : Nat) (s : State) : beyondStop (pulse0 n bit s) = beyondStop s := rfl

theorem beyondStop_recorder (r : Recorder) (s : State) : beyondStop { s with recorder := r } = beyondStop s := rfl

theorem beyondStop_mCal (f : Cal → Cal) (s : State) : beyondStop (mCal f s) = beyondStop s := rfl

theorem beyondStop_mCalRun (f : CalRun → CalRun) (s : State) : beyondStop (mCalRun f s) = beyondStop s := rfl

theorem beyondStop_bump (n off : Nat) (s : State) : beyondStop (bump n off s) = beyondStop s :=
  congrArg (fun p : Snapshot => { beyondStop s with snap := p }) (quiet_bump (holdKey n off) 1 s.snap)

theorem beyondStop_logEvent (code source : Nat) (params : List Nat) (s : State) :
    beyondStop (logEvent code source params s) = beyondStop s := by
  simp only [logEvent]
  repeat' split
  all_goals simp only [beyondStop_pulse0, beyondStop_bump, beyondStop_recorder]

theorem beyondStop_disarmGroup (g : Nat) (s : State) : beyondStop (disarmGroup g s) = beyondStop s := by
  unfold disarmGroup
  split
  · rfl
  · split <;> rfl

theorem beyondStop_disarmAll (s : State) : beyondStop (disarmAll s) = beyondStop s := by
  refine foldl_leaves (fun s g => ?_) _ s
  split
  · rfl
  · exact beyondStop_disarmGroup g s

theorem beyondStop_abortTurn (all : Bool) (s : State) : beyondStop (abortTurn all s) = beyondStop s := by
  unfold abortTurn
  split
  · rfl
  · dsimp only
    split
    · rfl
    · simp only [beyondStop_logEvent, beyondStop_pulse0, beyondStop_bump, beyondStop_mCal, beyondStop_mCalRun]

theorem beyondStop_stopStep1 (s : State) : beyondStop (stopStep1 s) = beyondStop (resetLive s) :=
  calc beyondStop (stopStep1 s)
    _ = beyondStop (resetLive (abortTurn true (disarmAll s))) :=
      foldl_leaves (p := beyondStop) (fun s c => (rfl : beyondStop (mChan c _ s) = _)) _ _
    _ = resetLive (beyondStop (abortTurn true (disarmAll s))) := rfl
    _ = resetLive (beyondStop s) := by rw [beyondStop_abortTurn, beyondStop_disarmAll]

theorem beyondStop_startCal (mask : Nat) (s : State) : beyondStop (startCal mask s) = beyondStop s :=
  foldl_leaves (p := beyondStop) (fun s n => (rfl : beyondStop (mInput n _ s) = _)) _ s

/-! ## STBY high with the rails on -/

section
variable {s : State}

/-- The state with STBY high. -/
def withStby (s : State) : State := mPwr (fun p => { p with stby := true }) s

theorem stbyHigh_running (h : s.pwr.stby = false) (hon : s.pwr.on = true) (hstaged : s.pwr.staged = false)
    (hsys : s.life.sys = .running) : stbyHigh s =
      beginStop .standby .standbyEntry (endFreeze (logEvent 0x1004 0 [] (withStby s))) := by
  simp [stbyHigh, h, hon, hstaged, hsys, withStby]

theorem stbyHigh_restarting {q : StopSeq} (h : s.pwr.stby = false) (hon : s.pwr.on = true)
    (hstaged : s.pwr.staged = false) (hsys : s.life.sys = .restarting) (hq : s.life.stop = some q) (hstep : q.step ≤ 4) :
    stbyHigh s = mLife (fun l => { l with stop := some { q with thenStandby := true } }) (withStby s) := by
  simp [stbyHigh, h, hon, hstaged, hsys, hq, hstep, withStby]

/-- No function is left to stop: the module starts, loads, or is past step 4 of every stop. -/
def nothingToStop (l : Life) : Prop :=
  l.sys = .powerUp ∨ l.sys = .loading ∨ l.sys = .safe ∨ l.sys = .stopped ∨
    (l.sys = .restarting ∧ ∀ q, l.stop = some q → 4 < q.step)

theorem stbyHigh_at_once (h : s.pwr.stby = false) (hon : s.pwr.on = true) (hstaged : s.pwr.staged = false)
    (hsys : nothingToStop s.life) : stbyHigh s = standbyNow (withStby s) := by
  rcases hsys with hsys | hsys | hsys | hsys | ⟨hsys, hpast⟩
  case inr.inr.inr.inr =>
    cases hq : s.life.stop with
    | none => simp [stbyHigh, h, hon, hstaged, hsys, hq, withStby]
    | some q => simp [stbyHigh, h, hon, hstaged, hsys, hq, withStby, hpast q hq]
  all_goals simp [stbyHigh, h, hon, hstaged, hsys, withStby]

theorem stbyHigh_only_stby (h : s.pwr.stby = false) (hon : s.pwr.on = true)
    (hsys : s.pwr.staged = true ∨ s.life.sys = .standbyEntry) : stbyHigh s = withStby s := by
  rcases hsys with hstaged | hsys
  · simp [stbyHigh, h, hon, hstaged, withStby]
  · simp [stbyHigh, h, hon, hsys, withStby]

end

/-- The life cycle and the live parameters after step 1 of a stop; the power is as it was. -/
theorem beginStop_leaves (kind : StopKind) (into : SysState) (s : State) :
    (beginStop kind into s).life =
      { s.life with sys := into, stop := some { kind := kind, step := 1, thenStandby := false } } ∧
    (beginStop kind into s).pwr = s.pwr ∧ (beginStop kind into s).live = (resetLive s).live := by
  have h := beyondStop_stopStep1 s
  have hlife : (stopStep1 s).life = s.life := (congrArg State.life h :)
  refine ⟨?_, (congrArg State.pwr h :), (congrArg State.live h :)⟩
  rw [← hlife]
  rfl

/-- Settles O13: the cases of the life cycle in which STBY goes high. -/
theorem standbyStopsTheFunction : Obligations.StandbyStopsTheFunction := by
  unfold Obligations.StandbyStopsTheFunction
  intro s h hon stby
  refine ⟨fun hstaged hsys => ?running, fun q hstaged hsys hq hstep => ?restarting, fun hstaged hsys => ?atOnce,
    fun hsys => ?onlyStby⟩
  case running =>
    obtain ⟨hlife, hpwr, hlive⟩ := beginStop_leaves .standby .standbyEntry
      (endFreeze (logEvent 0x1004 0 [] (withStby (fresh s))))
    refine ⟨_, act_of_effect (stbyHigh_running (s := fresh s) h hon hstaged hsys), ?_⟩
    simp only [settle_life, settle_pwr, settle_live, hlife, hpwr, hlive]
    refine ⟨trivial, trivial, ?_, rfl, rfl, rfl, rfl, rfl⟩
    exact congrArg State.pwr (outsideLog_logEvent 0x1004 0 [] (withStby (fresh s)))
  case restarting => exact act_of_effect (stbyHigh_restarting (s := fresh s) h hon hstaged hsys hq hstep)
  case atOnce =>
    refine ⟨_, act_of_effect (stbyHigh_at_once (s := fresh s) h hon hstaged hsys), ?_⟩
    simp [standbyNow, endFreeze, abandonLoad, withStby]
  case onlyStby => exact act_of_effect (stbyHigh_only_stby (s := fresh s) h hon hsys)

/-! ## A restart that a host asks for -/

/-- What a restart's beginning leaves as its first step has made it: the key, the mailbox, the time, the store's bytes,
the commit and what the snapshot holds. -/
def keptByRestart (s : State) : Option Nat × Mailbox × TimeBase × Sparse Byte × Option Commit × Snapshot :=
  let b := beyondStop s
  (b.key, b.mbox, b.time, b.store.mem, b.live.commit, b.snap)

theorem keptByRestart_of_beyondStop {s t : State} (h : beyondStop t = beyondStop s) :
    keptByRestart t = keptByRestart s := by
  simp only [keptByRestart, h]

/-- The state with the live parameters reset and the holding slots cleared (R75, R99). -/
def restartCleared (s : State) : State :=
  mSnap (fun p => { p with held := [], time := 0, seq := p.seq + 1, here := false }) (resetLive s)

theorem keptByRestart_restartStep1 (why : Nat) (s : State) :
    keptByRestart (restartStep1 why s) = keptByRestart (restartCleared s) := by
  refine (keptByRestart_of_beyondStop (beyondStop_logEvent 0x1002 0 [why] _)).trans ?_
  rfl

theorem keptByRestart_mLife (f : Life → Life) (s : State) : keptByRestart (mLife f s) = keptByRestart s := rfl

theorem keptByRestart_closeStore (s : State) : keptByRestart (closeStore s) = keptByRestart s := rfl

theorem keptByRestart_beginStop {s : State} (kind : StopKind) (into : SysState) (h : s.live.commit = none) :
    keptByRestart (beginStop kind into s) = keptByRestart s := by
  refine (keptByRestart_of_beyondStop (beyondStop_stopStep1 s)).trans ?_
  simp [keptByRestart, beyondStop, resetLive, h]

theorem keptByRestart_startCal (mask : Nat) (s : State) : keptByRestart (startCal mask s) = keptByRestart s :=
  keptByRestart_of_beyondStop (beyondStop_startCal mask s)

/-- A restart after its first step, before it takes its place in a stop sequence. -/
def restartOpened (kind : StopKind) (s : State) : State :=
  mLife (fun l => { l with stopReason := .none, stopAtStart := .none })
    (restartStep1 (if kind == .rootUnlock then 1 else 0) s)

@[simp] theorem restartStep1_life (why : Nat) (s : State) : (restartStep1 why s).life = s.life := by
  simp [restartStep1, endFreeze, resetLive]

theorem restartOpened_life (kind : StopKind) (s : State) :
    (restartOpened kind s).life = { s.life with stopReason := .none, stopAtStart := .none } := by
  rw [restartOpened, mLife_life, restartStep1_life]

theorem keptByRestart_restartOpened (kind : StopKind) (s : State) :
    keptByRestart (restartOpened kind s) = keptByRestart (restartCleared s) := keptByRestart_restartStep1 _ s

theorem restartOpened_commit (kind : StopKind) (s : State) : (restartOpened kind s).live.commit = none :=
  congrArg (fun k => k.2.2.2.2.1) (keptByRestart_restartOpened kind s)

section
variable {s : State} {q : StopSeq} (kind : StopKind)

theorem startRestart_running (hsys : s.life.sys = .running) :
    startRestart kind s = beginStop kind .restarting (restartOpened kind s) := by
  simp [startRestart, restartOpened, hsys]

theorem startRestart_under_way (hsys : s.life.sys ≠ .running) (hq : s.life.stop = some q) :
    startRestart kind s = mLife (fun l => { l with sys := .restarting, stop := some { q with kind := kind } })
      (if q.step = 1 then restartOpened kind s else startCal 0xFF (restartOpened kind s)) := by
  simp [startRestart, restartOpened, hq]

theorem startRestart_idle (hsys : s.life.sys ≠ .running) (hq : s.life.stop = none) :
    startRestart kind s = restartIdle kind (restartOpened kind s) := by
  simp [startRestart, restartOpened, hq]

end

theorem startCal_life (mask : Nat) (s : State) : (startCal mask s).life = s.life :=
  (congrArg State.life (beyondStop_startCal mask s) :)

theorem restartIdle_life (kind : StopKind) (s : State) : (restartIdle kind s).life =
    { s.life with sys := .restarting, stop := some { kind := kind, step := 5, thenStandby := false } } := by
  have hclose (t : State) : (closeStore t).life = t.life := rfl
  rw [restartIdle, hclose, startCal_life, mLife_life]

/-- The parts of the life cycle that a restart begins with, and what it keeps, in each of its three cases. -/
theorem startRestart_leaves (kind : StopKind) (s : State) :
    keptByRestart (startRestart kind s) = keptByRestart (restartCleared s) ∧
    (startRestart kind s).life.sys = .restarting ∧ (startRestart kind s).life.stopReason = .none ∧
    (startRestart kind s).life.stopAtStart = .none := by
  by_cases hsys : s.life.sys = .running
  case pos =>
    rw [startRestart_running kind hsys, keptByRestart_beginStop _ _ (restartOpened_commit kind s),
      (beginStop_leaves _ _ _).1, restartOpened_life]
    exact ⟨keptByRestart_restartOpened kind s, rfl, rfl, rfl⟩
  case neg =>
    cases hq : s.life.stop with
    | none =>
      rw [startRestart_idle kind hsys hq]
      rw [restartIdle_life, restartOpened_life]
      refine ⟨?_, rfl, rfl, rfl⟩
      rw [restartIdle, keptByRestart_closeStore, keptByRestart_startCal, keptByRestart_mLife]
      exact keptByRestart_restartOpened kind s
    | some q =>
      rw [startRestart_under_way kind hsys hq, keptByRestart_mLife, mLife_life]
      split
      · rw [restartOpened_life]
        exact ⟨keptByRestart_restartOpened kind s, rfl, rfl, rfl⟩
      · rw [startCal_life, restartOpened_life, keptByRestart_startCal]
        exact ⟨keptByRestart_restartOpened kind s, rfl, rfl, rfl⟩

section
variable {s : State} {v : Word}

theorem restartAsked_no_go (hgo : tbit v.toNat 0 = false) : restartAsked v s = s := if_pos (by simp [hgo])

/-- The state in which a restart that is asked for has its answer: `ok` is whether it is allowed (R111, R452). -/
def restartAnswered (ok : Bool) (s : State) : State :=
  pulse0 5 3 (mMbox (fun m => { m with restartSeq := (m.restartSeq + 1) % 65536, restartResp := b2n (!ok) }) s)

theorem restartAsked_busy (hgo : tbit v.toNat 0 = true) (hno : restartAllowed s = false) :
    restartAsked v s = restartAnswered false s := by
  simp [restartAsked, hgo, hno, restartAnswered]

theorem restartAsked_allowed (hgo : tbit v.toNat 0 = true) (hyes : restartAllowed s = true) :
    restartAsked v s = startRestart .restart (restartAnswered true s) := by
  simp [restartAsked, hgo, hyes, restartAnswered]

end

/-- The state in which a write that a placket admits acts: a new step, the placket closed (R88, R89). -/
def admitted (s : State) : State := { fresh s with key := none }

/-- Settles O24: the guard, and a restart's first state from its three cases. -/
theorem restartIsGuarded : Obligations.RestartIsGuarded := by
  unfold Obligations.RestartIsGuarded
  intro s v asked
  have hopen (h : placketOpen s = true) :
      guarded (blockBase 5 + 0x010) v (restartAsked v) (fresh s) = restartAsked v (admitted s) :=
    guarded_open _ v _ h
  have hasked (ok : Bool) (h : restartAllowed s = ok) : asked = restartAnswered ok (admitted s) := by
    subst h
    rfl
  refine ⟨fun h => ?shut, fun h hgo => ?noGo, fun h hgo hno => ?busy, fun h hgo hyes => ?ok⟩
  case shut => exact act_of_effect (guarded_shut (s := fresh s) _ v (restartAsked v) h)
  case noGo => exact act_of_effect ((hopen h).trans (restartAsked_no_go hgo))
  case busy =>
    rw [hasked false hno]
    exact act_of_effect ((hopen h).trans (restartAsked_busy (s := admitted s) hgo hno))
  case ok =>
    rw [hasked true hyes]
    refine ⟨_, act_of_effect ((hopen h).trans (restartAsked_allowed (s := admitted s) hgo hyes)), rfl, ?_⟩
    obtain ⟨hkept, hsys, hreason, hatStart⟩ := startRestart_leaves .restart (restartAnswered true (admitted s))
    simp only [keptByRestart, Prod.mk.injEq] at hkept
    obtain ⟨hkey, hmbox, htime, hmem, hcommit, hsnap⟩ := hkept
    obtain ⟨hheld, hsnapTime, hseq⟩ := holding_of_quiet hsnap rfl
    simp only [settle_key, settle_mbox, settle_life, settle_snap, settle_live, settle_time, settle_store]
    refine ⟨hkey, congrArg Mailbox.restartSeq hmbox, congrArg Mailbox.restartResp hmbox, hsys, hreason, hatStart, hheld,
      hsnapTime, hseq, hcommit, htime, hmem, fun hrun => ?running, fun hrun hq => ?idle, fun q hrun hq => ?underWay⟩
    case running =>
      rw [startRestart_running .restart (s := restartAnswered true (admitted s)) hrun, (beginStop_leaves _ _ _).1]
    case idle =>
      rw [startRestart_idle .restart (s := restartAnswered true (admitted s)) hrun hq, restartIdle_life]
    case underWay =>
      rw [startRestart_under_way .restart (s := restartAnswered true (admitted s)) hrun hq, mLife_life]

end Sys2Proof.Machine
end

section
/-! PROOF. The host link: readiness, configuration requests and the events that disable the rings (03 R59 to R61,
16 R380 to R385). -/

namespace Sys2Proof.Machine

/-! ## Readiness -/

section
variable {s : State}

theorem linkPowered_eq_false : linkPowered s = false ↔ s.pwr.on = false ∨ s.pwr.testEn = true ∨ s.pwr.groups = 0 := by
  cases hon : s.pwr.on
  · simp [linkPowered, hon]
  · cases htest : s.pwr.testEn <;> simp [linkPowered, hon, htest]

theorem linkReady_up (speed width : Nat) (flit : Bool) (h : linkPowered s = true) (hperst : s.link.perst = true) :
    linkReady speed width flit s = releasePending { s with
      link := { s.link with speed := speed, width := width, flit := flit, up := true, ready := true } } :=
  if_pos (by simp [h, hperst])

theorem linkReady_not (speed width : Nat) (flit : Bool) (h : linkPowered s = false ∨ s.link.perst = false) :
    linkReady speed width flit s = s :=
  if_neg (by rcases h with h | h <;> simp [h])

end

/-- Settles O21: the link trains when it is powered and PERST_N released, and a ready one answers what lies outside. -/
theorem hostLinkComesUp : Obligations.HostLinkComesUp := by
  unfold Obligations.HostLinkComesUp
  intro s speed width addr flit
  refine ⟨act_next.mpr rfl, fun hon htest hgroups hperst => ?up, fun h => ?notPowered, fun h => ?ready,
    fun h => ?notReady⟩
  case up =>
    have hpowered : linkPowered (fresh s) = true := by simp [linkPowered, hon, htest, hgroups]
    exact act_of_effect (linkReady_up (s := fresh s) speed width flit hpowered hperst)
  case notPowered =>
    refine act_of_effect (linkReady_not (s := fresh s) speed width flit ?_)
    simpa [linkPowered_eq_false, or_assoc] using h
  case ready => exact act_of_effect (f := unsupported) (if_pos h)
  case notReady => exact act_of_effect (f := unsupported) (if_neg (Bool.eq_false_iff.mp h))

/-! ## The events -/

/-- A host-link event has disabled the rings and spared the function, the store's bytes and the engines (R383). -/
def Spared (s t : State) : Prop :=
  t.rings = [] ∧ t.life = s.life ∧ t.image = s.image ∧ t.eng = s.eng ∧ t.sleeves = s.sleeves ∧
    t.store.mem = s.store.mem ∧ t.pwr = s.pwr ∧ t.live = s.live ∧ t.mbox = s.mbox

@[simp] theorem linkEvent_link (s : State) : (linkEvent s).link = { s.link with reads := 0, asks := [] } := by
  simp [linkEvent, resetRings]

/-- A change of the link followed by the event spares what every event spares. -/
theorem spared_linkEvent (g : HostLink → HostLink) (s : State) :
    Spared s (settle s (linkEvent (mLink g (fresh s)))) := by
  simp [Spared, linkEvent, resetRings]

section
variable {s : State}

theorem hotReset_ready (h : s.link.ready = true) : hotReset s = linkEvent (mLink (fun l => l.down.cleared) s) := if_pos h

theorem functionReset_ready (h : s.link.ready = true) : functionReset s = linkEvent (mLink HostLink.cleared s) := if_pos h

theorem enterD3_ready (h : s.link.ready = true) (hd3 : s.link.d3hot = false) :
    enterD3 s = linkEvent (mLink (fun l => { l with d3hot := true }) s) :=
  if_neg (by simp [h, hd3])

theorem hostLinkLost_up (h : s.link.up = true) : hostLinkLost s = linkEvent (mLink HostLink.down s) := if_pos h

/-- The link at the assertion of PERST_N: down, its configuration and its AER status cleared (R383). -/
def underPerst (l : HostLink) : HostLink :=
  { l.down.cleared with perst := false, aerUnc := 0, aerCor := 0, aerFirst := 0, aerHeader := [] }

theorem perstAsserted_powered (h : s.link.perst = true) (hpowered : linkPowered s = true) :
    perstAsserted s = linkEvent (mLink underPerst s) := by
  have hstill : linkPowered (mLink underPerst s) = true := hpowered
  simp only [perstAsserted, h]
  exact if_pos hstill

end

/-- Settles O22: each event changes the link in its own way and then disables the rings. -/
theorem hostLinkEventsSpareTheFunction : Obligations.HostLinkEventsSpareTheFunction := by
  unfold Obligations.HostLinkEventsSpareTheFunction
  intro s spared
  refine ⟨fun h => ⟨?hot, ?flr, fun hd3 => ?d3⟩, fun h => ?down, fun h hpowered => ?perst⟩
  case hot =>
    refine ⟨_, act_of_effect (hotReset_ready (s := fresh s) h), spared_linkEvent _ s, ?_⟩
    simp [HostLink.cleared, HostLink.down]
  case flr =>
    refine ⟨_, act_of_effect (functionReset_ready (s := fresh s) h), spared_linkEvent _ s, ?_⟩
    simp [HostLink.cleared]
  case d3 =>
    refine ⟨_, act_of_effect (enterD3_ready (s := fresh s) h hd3), spared_linkEvent _ s, ?_⟩
    simp
  case down =>
    refine ⟨_, act_of_effect (hostLinkLost_up (s := fresh s) h), spared_linkEvent _ s, ?_⟩
    simp [HostLink.down]
  case perst =>
    refine ⟨_, act_of_effect (perstAsserted_powered (s := fresh s) h hpowered), spared_linkEvent _ s, ?_⟩
    simp [underPerst, HostLink.cleared, HostLink.down]

/-! ## Configuration requests -/

section
variable {s : State} (write : Option Word) (d : Nat)

theorem configRequest_not_powered (h : linkPowered s = false ∨ s.link.perst = false) : configRequest write d s = s :=
  if_pos (by rcases h with h | h <;> simp [h])

theorem configRequest_retry (h : linkPowered s = true) (hperst : s.link.perst = true) (hready : s.link.ready = false) :
    configRequest write d s = emit .cfgRetry s := by
  simp [configRequest, h, hperst, hready]

theorem configRequest_read (h : linkPowered s = true) (hperst : s.link.perst = true) (hready : s.link.ready = true) :
    configRequest none d s = emit (.word (cfgRead s d)) s := by
  simp [configRequest, h, hperst, hready]

theorem configRequest_write (w : Word) (h : linkPowered s = true) (hperst : s.link.perst = true)
    (hready : s.link.ready = true) : configRequest (some w) d s = emit .cfgDone (cfgWrite d w s) := by
  simp [configRequest, h, hperst, hready]

end

theorem cfgWrite_bar0 (v : Word) (s : State) :
    cfgWrite 4 v s = mLink (fun l => { l with bar0 := v.toNat / 2 ^ 24 % 2 ^ 8 }) s := by
  rw [← Nat.shiftRight_eq_div_pow]
  rfl

/-- Settles O23: the answers before readiness, the identities, and BAR0's base written and read. -/
theorem configurationSpace : Obligations.ConfigurationSpace := by
  unfold Obligations.ConfigurationSpace
  intro s d v write
  refine ⟨fun h hperst hready => ?retry, fun h => ?notPowered, fun h hperst hready =>
    ⟨?vendor, ?subsystem, ?discarded, ?bar0, ?base⟩⟩
  case retry => exact act_of_effect (configRequest_retry (s := fresh s) write d h hperst hready)
  case notPowered => exact act_of_effect (configRequest_not_powered (s := fresh s) write d h)
  case vendor => exact act_of_effect (configRequest_read (s := fresh s) 0 h hperst hready)
  case subsystem => exact act_of_effect (configRequest_read (s := fresh s) 0xB h hperst hready)
  case discarded => exact act_of_effect (configRequest_write (s := fresh s) 0 v h hperst hready)
  case bar0 =>
    refine act_of_effect ((configRequest_write (s := fresh s) 4 v h hperst hready).trans ?_)
    rw [cfgWrite_bar0]
    rfl
  case base => exact act_of_effect (configRequest_read (s := fresh s) 4 h hperst hready)

end Sys2Proof.Machine
end

section
/-! PROOF. The mailbox commands that read, and those of the flash (03 R62, R65, R106 to R110). -/

namespace Sys2Proof.Machine

/-! ## An accepted doorbell on either register -/

/-- The state in which a command runs that either doorbell has taken: opcode and number set, and for CMD_DOORBELL_KG the
placket closed (R106). -/
def takenBy (kg : Bool) (op : Nat) (s : State) : State :=
  { s with
    key := if kg then none else s.key
    mbox := { s.mbox with opcode := w32 op, seq := (s.mbox.seq + 1) % 65536 } }

theorem takenBy_eq (kg : Bool) (op : Nat) (s : State) : takenBy kg op s =
    mMbox (fun m => { m with opcode := w32 op, seq := (m.seq + 1) % 65536 })
      (if kg then { s with key := none } else s) := by
  cases kg <;> rfl

theorem ring_runs {s : State} {kg : Bool} {op : Nat} (hfree : s.mbox.running = none) (hfirst : firstAnswer s op kg = 0) :
    ring_ kg op s = runCommand op (mMbox (fun m => { m with opcode := w32 op, seq := (m.seq + 1) % 65536 }) s) :=
  (if_neg (by simp [hfree])).trans (if_neg (not_not.mpr hfirst))

/-- A doorbell runs its command where none runs, R107 gives no answer at once and a guarded write is within a placket. -/
theorem doorbell_accepted {s : State} {kg : Bool} {op : Nat} (hfree : s.mbox.running = none)
    (hopen : kg = true → placketOpen s = true) (hfirst : firstAnswer s op kg = 0) :
    doorbell kg op s = runCommand op (takenBy kg op s) := by
  cases kg with
  | true => exact doorbell_runs hfree (hopen rfl) hfirst
  | false => exact ring_runs hfree hfirst

/-- Every state serves NOP and GET_STATE (R109). -/
theorem firstAnswer_of_always_served (s : State) (kg : Bool) {op : Nat} (hop : op = 1 ∨ op = 2) :
    firstAnswer s op kg = 0 := by
  have hstate : stateAnswer s.life.sys op = 0 := by
    rcases hop with rfl | rfl <;> cases s.life.sys <;> rfl
  rcases hop with rfl | rfl <;> simp [firstAnswer, hstate, knownOps, guardedOps]

/-! ## FLASH_INFO and BOARD_READ -/

theorem flashInfoCmd_eq (s : State) : flashInfoCmd s = finishMailbox 0
    (results [w32 s.loader.flash.density, if s.loader.flash.octal then 0 else 1, w32 s.loader.pointer,
      w32 s.loader.flash.page]) s := by
  cases hoctal : s.loader.flash.octal <;> simp only [flashInfoCmd, hoctal] <;> rfl

section
variable {s : State}

theorem boardReadCmd_beyond (h : 4096 < argOf s 0 + argOf s 1) : boardReadCmd s = finishMailbox 3 [] s := if_pos h

theorem boardReadCmd_not_held (h : argOf s 0 + argOf s 1 ≤ 4096) (hboard : s.loader.board = none) :
    boardReadCmd s = finishMailbox 0xA [] s := by
  simp [boardReadCmd, hboard, Nat.not_lt.mpr h]

theorem boardReadCmd_held {bs : List Byte} (h : argOf s 0 + argOf s 1 ≤ 4096) (hboard : s.loader.board = some bs) :
    boardReadCmd s = finishMailbox 0 (results [w32 s.loader.areas.boardLen])
      (returnData (slice (bs.take s.loader.areas.boardLen ++ List.replicate 4096 0) (argOf s 0) (argOf s 1)) s) := by
  refine (if_neg (Nat.not_lt.mpr h)).trans ?_
  rw [hboard]

end

/-- Settles O34: the five commands that end in the doorbell's step, each on the state that the doorbell leaves. -/
theorem mailboxReads : Obligations.MailboxReads := by
  unfold Obligations.MailboxReads
  intro s kg hfree hopen u
  have hu (op : Nat) : u op = takenBy kg op (fresh s) := (takenBy_eq kg op (fresh s)).symm
  have hruns (op : Nat) (hfirst : firstAnswer s op kg = 0) :
      doorbell kg op (fresh s) = runCommand op (takenBy kg op (fresh s)) :=
    doorbell_accepted (s := fresh s) hfree hopen hfirst
  simp only [hu]
  clear_value u
  refine ⟨?nop, ?getState, fun hfirst => ?flashInfo, fun hfirst => ⟨fun hlen => ?beyond, fun hlen hboard => ?notHeld,
    fun bs hlen hboard => ?held⟩, fun hfirst => ?logThaw⟩
  case nop => exact act_of_effect (hruns 1 (firstAnswer_of_always_served s kg (.inl rfl)))
  case getState => exact act_of_effect (hruns 2 (firstAnswer_of_always_served s kg (.inr rfl)))
  case flashInfo => exact act_of_effect ((hruns 0x10 hfirst).trans (flashInfoCmd_eq (takenBy kg 0x10 (fresh s))))
  case beyond =>
    exact act_of_effect ((hruns 0x14 hfirst).trans (boardReadCmd_beyond (s := takenBy kg 0x14 (fresh s)) hlen))
  case notHeld =>
    exact act_of_effect ((hruns 0x14 hfirst).trans (boardReadCmd_not_held (s := takenBy kg 0x14 (fresh s)) hlen hboard))
  case held =>
    refine ⟨_, act_of_effect ((hruns 0x14 hfirst).trans
      (boardReadCmd_held (s := takenBy kg 0x14 (fresh s)) hlen hboard)), ?_⟩
    simp only [settle_mbox, settle_loader, settle_life]
    exact ⟨rfl, rfl, rfl, rfl, rfl, rfl⟩
  case logThaw => exact act_of_effect (hruns 0x41 hfirst)

/-! ## The flash commands -/

section
variable {s : State}

theorem flashReadCmd_bad_length (h : argOf s 1 = 0 ∨ 16384 < argOf s 1) : flashReadCmd s = finishMailbox 3 [] s := if_pos h

theorem flashReadCmd_out_of_range (h0 : 0 < argOf s 1) (hlen : argOf s 1 ≤ 16384)
    (h : s.loader.flash.density < argOf s 0 + argOf s 1) : flashReadCmd s = finishMailbox 4 [] s :=
  (if_neg (by omega)).trans (if_pos h)

theorem flashReadCmd_goes (h0 : 0 < argOf s 1) (hlen : argOf s 1 ≤ 16384)
    (h : argOf s 0 + argOf s 1 ≤ s.loader.flash.density) : flashReadCmd s =
      emit (.flashRead (argOf s 0) (argOf s 1)) (goOn (.flashRead (argOf s 0) (argOf s 1)) s) :=
  (if_neg (by omega)).trans (if_neg (Nat.not_lt.mpr h))

theorem flashEraseCmd_off_unit (h : argOf s 0 % 65536 ≠ 0) : flashEraseCmd s = finishMailbox 3 [] s := if_pos h

theorem flashEraseCmd_out_of_range (h : argOf s 0 % 65536 = 0) (hrange : flashRangeOk s (argOf s 0) 65536 = false) :
    flashEraseCmd s = finishMailbox 4 [] s :=
  (if_neg (not_not.mpr h)).trans (if_pos (by simp [hrange]))

theorem flashEraseCmd_goes (h : argOf s 0 % 65536 = 0) (hrange : flashRangeOk s (argOf s 0) 65536 = true) :
    flashEraseCmd s = emit (.flashErase (argOf s 0) (eraseSize s.loader.flash) (65536 / eraseSize s.loader.flash))
      (goOn (.flashErase (argOf s 0)) s) :=
  (if_neg (not_not.mpr h)).trans (if_neg (by simp [hrange]))

/-- What FLASH_PROGRAM asks of its offset and length: neither empty nor too long, and both on a page's bounds. -/
def programAligned (s : State) : Prop :=
  0 < argOf s 1 ∧ argOf s 1 ≤ 16384 ∧ s.loader.flash.page ≠ 0 ∧ argOf s 0 % s.loader.flash.page = 0 ∧
    argOf s 1 % s.loader.flash.page = 0

theorem flashProgramCmd_bad_argument (h : argOf s 1 = 0 ∨ 16384 < argOf s 1 ∨ argOf s 0 % s.loader.flash.page ≠ 0 ∨
    argOf s 1 % s.loader.flash.page ≠ 0) : flashProgramCmd s = finishMailbox 3 [] s :=
  if_pos (by rcases h with h | h | h | h <;> simp [h])

theorem flashProgramCmd_out_of_range (h : programAligned s) (hrange : flashRangeOk s (argOf s 0) (argOf s 1) = false) :
    flashProgramCmd s = finishMailbox 4 [] s := by
  obtain ⟨h0, hlen, hpage, hoff, hmul⟩ := h
  exact (if_neg (by simp [hpage, hoff, hmul]; omega)).trans (if_pos (by simp [hrange]))

theorem flashProgramCmd_goes (h : programAligned s) (hrange : flashRangeOk s (argOf s 0) (argOf s 1) = true) :
    flashProgramCmd s = emit (.flashProgram (argOf s 0) (cmdData s (argOf s 1)))
      (goOn (.flashProgram (argOf s 0) (argOf s 1)) s) := by
  obtain ⟨h0, hlen, hpage, hoff, hmul⟩ := h
  exact (if_neg (by simp [hpage, hoff, hmul]; omega)).trans (if_neg (by simp [hrange]))

end

/-! ## Their ends -/

section
variable {s : State} {off len : Nat} (ok : Bool) (data : List Byte) (mis : Option Nat)

theorem mailboxEnds_of_none (h : s.mbox.running = none) : mailboxEnds ok data mis s = s := by
  simp [mailboxEnds, h]

theorem mailboxEnds_of_flashRead (h : s.mbox.running = some (.flashRead off len)) : mailboxEnds ok data mis s =
    if ok then finishMailbox 0 (results [w32 len]) (returnData (data.take len) s) else finishMailbox 0xA [] s := by
  simp [mailboxEnds, h]

theorem mailboxEnds_of_flashErase (h : s.mbox.running = some (.flashErase off)) :
    mailboxEnds ok data mis s = finishMailbox (if ok then 0 else 0xA) [] s := by
  simp [mailboxEnds, h]

theorem mailboxEnds_of_flashProgram (h : s.mbox.running = some (.flashProgram off len)) :
    mailboxEnds ok data mis s = programEnd ok mis s := by
  simp [mailboxEnds, h]

end

/-- Settles O35: the checks in their order on the state that the doorbell leaves, and the ends of the three accesses. -/
theorem mailboxFlash : Obligations.MailboxFlash := by
  unfold Obligations.MailboxFlash
  intro s kg ok data mis u out off len f
  have hu (op : Nat) : u op = takenBy kg op (fresh s) := (takenBy_eq kg op (fresh s)).symm
  simp only [hu]
  clear_value u
  refine ⟨fun hfree hopen => ?commands, fun hrun hok => ?readEnds, fun hrun hok => ?readFails, fun hrun => ?eraseEnds,
    fun hrun => ?programEnds, fun hrun => ?nothingRuns⟩
  case commands =>
    have hruns (op : Nat) (hfirst : firstAnswer s op kg = 0) :
        doorbell kg op (fresh s) = runCommand op (takenBy kg op (fresh s)) :=
      doorbell_accepted (s := fresh s) hfree hopen hfirst
    refine ⟨fun hfirst => ⟨fun h => ?readLength, fun h0 hlen h => ?readRange, fun h0 hlen h => ?readGoes⟩,
      fun hfirst => ⟨fun h => ?eraseUnit, fun h hrange => ?eraseRange, fun h hrange => ?eraseGoes⟩,
      fun hfirst => ⟨fun h => ?programArgs, fun h0 hlen hpage hoff hmul hrange => ?programRange,
        fun h0 hlen hpage hoff hmul hrange => ?programGoes⟩⟩
    all_goals refine act_of_effect ((hruns _ hfirst).trans ?_)
    case readLength => exact flashReadCmd_bad_length (s := takenBy kg 0x11 (fresh s)) h
    case readRange => exact flashReadCmd_out_of_range (s := takenBy kg 0x11 (fresh s)) h0 hlen h
    case readGoes => exact flashReadCmd_goes (s := takenBy kg 0x11 (fresh s)) h0 hlen h
    case eraseUnit => exact flashEraseCmd_off_unit (s := takenBy kg 0x12 (fresh s)) h
    case eraseRange => exact flashEraseCmd_out_of_range (s := takenBy kg 0x12 (fresh s)) h hrange
    case eraseGoes => exact flashEraseCmd_goes (s := takenBy kg 0x12 (fresh s)) h hrange
    case programArgs => exact flashProgramCmd_bad_argument (s := takenBy kg 0x13 (fresh s)) h
    case programRange =>
      exact flashProgramCmd_out_of_range (s := takenBy kg 0x13 (fresh s)) ⟨h0, hlen, hpage, hoff, hmul⟩ hrange
    case programGoes =>
      exact flashProgramCmd_goes (s := takenBy kg 0x13 (fresh s)) ⟨h0, hlen, hpage, hoff, hmul⟩ hrange
  case readEnds => exact act_of_effect ((mailboxEnds_of_flashRead (s := fresh s) ok data mis hrun).trans (if_pos hok))
  case readFails =>
    exact act_of_effect ((mailboxEnds_of_flashRead (s := fresh s) ok data mis hrun).trans
      (if_neg (Bool.eq_false_iff.mp hok)))
  case eraseEnds => exact act_of_effect (mailboxEnds_of_flashErase (s := fresh s) ok data mis hrun)
  case programEnds =>
    refine act_of_effect ((mailboxEnds_of_flashProgram (s := fresh s) ok data mis hrun).trans ?_)
    cases mis <;> rfl
  case nothingRuns => exact act_of_effect (mailboxEnds_of_none (s := fresh s) ok data mis hrun)

end Sys2Proof.Machine
end

section
/-! PROOF. The mailbox commands of the calibration and of the recorder (17 R409 to R420, 18 R430 to R433). -/

namespace Sys2Proof.Machine

/-! ## CAL_RUN -/

section
variable {s : State}

theorem calRunCmd_bad_arguments (h : calArgsOk s = false) : calRunCmd s = finishMailbox 3 [] s :=
  if_pos (by simp [h])

theorem calRunCmd_busy (h : calArgsOk s = true) (hrun : s.cal.run.isSome = true) :
    calRunCmd s = finishMailbox 1 [] s :=
  (if_neg (by simp [h])).trans (if_pos hrun)

theorem calRunCmd_calibrate (h : calArgsOk s = true) (hrun : s.cal.run = none) (h1 : argOf s 1 = 0) :
    calRunCmd s = finishMailbox 0 [] (startCalRun (argOf s 0) s) :=
  (if_neg (by simp [h])).trans ((if_neg (by simp [hrun])).trans (if_pos h1))

theorem calRunCmd_ageing (h : calArgsOk s = true) (hrun : s.cal.run = none) (h1 : argOf s 1 = 1) :
    calRunCmd s = ageCmd s :=
  (if_neg (by simp [h])).trans ((if_neg (by simp [hrun])).trans (if_neg (by simp [h1])))

end

/-- A generation that is issued counts on from the highest one, and keeps the ageing model (R413). -/
theorem issueGen_leaves (kind channels n : Nat) (limited track : Bool) (temps : List Int) (resid : List Byte)
    (s : State) :
    let t := issueGen kind channels n limited track temps resid s
    t.cal.gen = (s.recorder.highestGen + 1) % 2 ^ 32 ∧ t.cal.heldAge = s.cal.heldAge ∧ t.clk = s.clk := by
  simp [issueGen, logGeneration, holdRecord, mRec]

@[simp] theorem logEvent_highestGen (code source : Nat) (params : List Nat) (s : State) :
    (logEvent code source params s).recorder.highestGen = s.recorder.highestGen := by
  simp only [logEvent]
  repeat' split
  all_goals simp

@[simp] theorem underLimit_clk (f : Clk → Clk) (s : State) : (underLimit f s).clk = f s.clk := by
  simp only [underLimit]
  split <;> simp

@[simp] theorem underLimit_cal (f : Clk → Clk) (s : State) : (underLimit f s).cal = s.cal := by
  simp only [underLimit]
  split <;> simp

@[simp] theorem underLimit_highestGen (f : Clk → Clk) (s : State) :
    (underLimit f s).recorder.highestGen = s.recorder.highestGen := by
  simp only [underLimit]
  split <;> simp

theorem withModel_model (c : Clk) (a0 a1 : Int) (t0 sec : Nat) :
    (c.withModel a0 a1 t0 sec).a0 = a0 ∧ (c.withModel a0 a1 t0 sec).a1 = a1 ∧ (c.withModel a0 a1 t0 sec).t0 = t0 := by
  simp only [Clk.withModel]
  split <;> exact ⟨rfl, rfl, rfl⟩

section
variable {s : State} (a : Int × Int × Nat)

/-- While LOCKED the new model is held (R420). -/
theorem setAge_locked (h : s.clk.lock = .locked) : setAge a s = mCal (fun k => { k with heldAge := some a }) s :=
  if_pos (by simp [h])

theorem setAge_unlocked (h : s.clk.lock ≠ .locked) :
    setAge a s = changeModel a.1 a.2.1 a.2.2 (mCal (fun k => { k with heldAge := none }) s) :=
  if_neg (by simpa using h)

@[simp] theorem setAge_highestGen : (setAge a s).recorder.highestGen = s.recorder.highestGen := by
  by_cases h : s.clk.lock = .locked
  · rw [setAge_locked a h]
    rfl
  · rw [setAge_unlocked a h, changeModel, underLimit_highestGen]
    rfl

end

section
variable (resp : Nat) (res : Sparse Word) (s : State)

@[simp] theorem finishMailbox_mbox :
    (finishMailbox resp res s).mbox = { s.mbox with running := none, resp := resp, res := res } := by
  simp [finishMailbox]

@[simp] theorem finishMailbox_cal : (finishMailbox resp res s).cal = s.cal := by simp [finishMailbox]

@[simp] theorem finishMailbox_clk : (finishMailbox resp res s).clk = s.clk := by simp [finishMailbox]

@[simp] theorem finishMailbox_recorder : (finishMailbox resp res s).recorder = s.recorder := by simp [finishMailbox]

end

/-- The ageing model that CAL_RUN's arguments give (R409). -/
def askedModel (s : State) : Int × Int × Nat := (sgn 32 (argOf s 2), sgn 32 (argOf s 3), argOf s 4)

/-- The AGEING command answers OK and issues a generation with the model asked for. -/
theorem ageCmd_leaves (s : State) :
    (ageCmd s).mbox.running = none ∧ (ageCmd s).mbox.resp = 0 ∧
    (ageCmd s).cal.gen = (s.recorder.highestGen + 1) % 2 ^ 32 ∧
    (ageCmd s).cal.heldAge = (setAge (askedModel s) s).cal.heldAge ∧ (ageCmd s).clk = (setAge (askedModel s) s).clk := by
  generalize hv : setAge (askedModel s) s = v
  have ht : ageCmd s = finishMailbox 0 [] (issueGen 3 0 (now v) false false (chipTemps v) (residBytes v 3 0 []) v) := by
    rw [← hv]
    rfl
  obtain ⟨hgen, hheld, hclk⟩ := issueGen_leaves 3 0 (now v) false false (chipTemps v) (residBytes v 3 0 []) v
  have hhighest : v.recorder.highestGen = s.recorder.highestGen := by rw [← hv, setAge_highestGen]
  rw [ht, finishMailbox_mbox, finishMailbox_cal, finishMailbox_clk]
  exact ⟨rfl, rfl, hhighest ▸ hgen, hheld, hclk⟩

theorem setAge_model_locked {s : State} (a : Int × Int × Nat) (h : s.clk.lock = .locked) :
    (setAge a s).cal.heldAge = some a ∧ (setAge a s).clk = s.clk := by
  rw [setAge_locked a h]
  exact ⟨rfl, rfl⟩

theorem setAge_model_unlocked {s : State} (a : Int × Int × Nat) (h : s.clk.lock ≠ .locked) :
    (setAge a s).clk.a0 = a.1 ∧ (setAge a s).clk.a1 = a.2.1 ∧ (setAge a s).clk.t0 = a.2.2 ∧
      (setAge a s).cal.heldAge = none := by
  rw [setAge_unlocked a h, changeModel, underLimit_clk, underLimit_cal]
  obtain ⟨h0, h1, ht⟩ := withModel_model s.clk a.1 a.2.1 a.2.2 s.recorder.seconds
  exact ⟨h0, h1, ht, rfl⟩

/-! ## CAL_STORE and CAL_ABORT -/

theorem calStoreCmd_goes {s : State} (h : s.cal.run = none) :
    (calStoreCmd s).mbox.running = some (.calStore (if s.cal.inUse = 0 then 1 else 0) s.cal.gen) ∧
      (calStoreCmd s).cal = s.cal := by
  simp [calStoreCmd, h, goOn]

theorem calAbortCmd_idle {s : State} (h : s.cal.run = none) :
    calAbortCmd s = finishMailbox 0 (results [0]) s := by
  simp only [calAbortCmd, abortTurn, h]
  rfl

/-- The abort of a run that goes on marks it, drops the turns not begun, and changes neither trims nor generation (R411). -/
theorem calAbortCmd_aborts {s : State} {r : CalRun} (h : s.cal.run = some r) (hon : r.aborting = false) :
    (calAbortCmd s).mbox.running = none ∧ (calAbortCmd s).mbox.resp = 0 ∧ (calAbortCmd s).mbox.res = results [1] ∧
    (∃ r', (calAbortCmd s).cal.run = some r' ∧ r'.aborting = true ∧ r'.waiting = 0 ∧ r'.channel = r.channel) ∧
    (calAbortCmd s).cal.trims = s.cal.trims ∧ (calAbortCmd s).cal.gen = s.cal.gen := by
  simp [calAbortCmd, abortTurn, h, hon, mCalRun, b2n, w32]

/-! ## LOG_FREEZE and LOG_CLEAR -/

section
variable {s : State}

theorem logFreezeCmd_at_once (h : recordWaits s = false) : logFreezeCmd s = finishMailbox 0 [] (beginFreeze s) :=
  if_neg (by simp [h])

theorem logFreezeCmd_waits (h : recordWaits s = true) (hthawed : s.recorder.freeze = none)
    (hgood : s.recorder.degraded = false) : logFreezeCmd s = goOn .logFreeze s :=
  if_pos (by simp [h, frozen, hthawed, hgood])

theorem logClearCmd_bad_length (h : argOf s 0 ≠ 3780) : logClearCmd s = finishMailbox 3 [] s := if_pos h

/-- A LOG_CLEAR token whose form is right and whose SEQ is that of the newest record (R478). -/
structure ClearToken (s : State) (t : List Byte) : Prop where
  magic : le t 0 4 = 0x434C5A53
  zero4 : zeroAt t 4 4 = true
  zero17 : zeroAt t 0x11 31 = true
  signer : le t 0x10 1 ≤ 3
  seq : le t 8 8 = s.recorder.seq

theorem logClearCmd_of_token (h : argOf s 0 = 3780) (ht : ClearToken s (cmdData s 3780)) : logClearCmd s =
    if tokenSigned s (cmdData s 3780) (le (cmdData s 3780) 0x10 1) ≠ 0 then
      finishMailbox (tokenSigned s (cmdData s 3780) (le (cmdData s 3780) 0x10 1)) [] s
    else goOn (.logClear (le (cmdData s 3780) 0x10 1) s.recorder.seq (sha3 ((cmdData s 3780).take 0x30))) s := by
  obtain ⟨hmagic, hzero4, hzero17, hsigner, hseq⟩ := ht
  refine (if_neg (not_not.mpr h)).trans ((if_neg ?_).trans ((if_neg (Nat.not_lt.mpr hsigner)).trans ?_))
  · simp [hmagic, hzero4, hzero17]
  · rw [← hseq]
    simp only [hseq, ne_eq, not_true_eq_false, if_false]

end

/-! ## The ends of CAL_STORE and LOG_CLEAR -/

theorem mailboxEnds_of_calStore {s : State} {k gen : Nat} (ok : Bool) (data : List Byte) (mis : Option Nat)
    (h : s.mbox.running = some (.calStore k gen)) : mailboxEnds ok data mis s = calStored k gen ok s := by
  simp [mailboxEnds, h]

theorem mailboxEnds_of_logClear {s : State} {k seq : Nat} {d : Digest} (ok : Bool) (data : List Byte) (mis : Option Nat)
    (h : s.mbox.running = some (.logClear k seq d)) : mailboxEnds ok data mis s = logCleared k seq d s := by
  simp [mailboxEnds, h]

/-- The LOG_CLEAR record as a clear numbers it: the first one past CLEAR_SEQ (R433). -/
def clearRec (k : Nat) (s : State) : Rec :=
  { recordOf s 0x1024 0xFF [k, s.recorder.seq % 2 ^ 32, s.recorder.seq / 2 ^ 32] with seq := s.recorder.seq + 1 }

/-- Past the last block the search goes on with the first. -/
theorem nextBlock_from_last {lo n k b : Nat} {ok : Nat → Bool} (hb : lo + n ≤ b + 1) (h : ok lo = true) :
    nextBlock lo n ok (k + 1) b = some lo := by
  simp [nextBlock, hb, h]

/-- A cleared recorder opens reserved block 0 while that block is good. -/
theorem cleared_resOpen {r : Recorder} (d : Digest) (h : r.bad.contains 0 = false) :
    (r.cleared d).resOpen = some (0, 0) := by
  have hblock : r.resBlock 0 = true := by simpa [Recorder.resBlock] using h
  have hnext : nextBlock 0 2031 r.resBlock 2031 2030 = some 0 := nextBlock_from_last (k := 2030) le_rfl hblock
  exact congrArg (fun o : Option Nat => some (o.getD 0, 0)) hnext

/-- A reserved record that does not fill its block takes the open block's next place and moves nothing else (R427). -/
theorem storeRec_reserved {e : Rec} {r : Recorder} {bp : Nat × Nat} (he : reservedCode e.code = true)
    (hopen : r.resOpen = some bp) (hfits : bp.2 + 1 < 64) : storeRec e r =
      ({ r with
        mram := put none (64 * bp.1 + bp.2) (some e) r.mram, newest := bp, resOpen := some (bp.1, bp.2 + 1) }, 0) := by
  simp [storeRec, Recorder.placeFor, Recorder.goesReserved, he, hopen, hfits]

theorem placeRec_recorder (e : Rec) (r : Recorder) (s : State) : (placeRec e { s with recorder := r }).recorder =
    (storeRec e { r with seq := e.seq, reservedFull := r.reservedFull || e.reservedFull }).1 := by
  simp [placeRec]

/-- The recorder after a clear in MRAM: its one record is the LOG_CLEAR record, in the reserved block that is open. -/
theorem clearLog_in_mram {s : State} {b : Nat} (k : Nat) (d : Digest) (h : s.recorder.degraded = false)
    (hopen : (s.recorder.cleared d).resOpen = some (b, 0)) : (clearLog k d s).recorder =
      { s.recorder.cleared d with
        seq := s.recorder.seq + 1, mram := [(64 * b, some (clearRec k s))], newest := (b, 0)
        resOpen := some (b, 1) } := by
  have hnumbered : numberRec (s.recorder.cleared d)
      (recordOf s 0x1024 0xFF [k, s.recorder.seq % 2 ^ 32, s.recorder.seq / 2 ^ 32]) = clearRec k s := by
    simp only [numberRec, hopen]
    rfl
  have hrecorder :
      (clearLog k d s).recorder = (placeRec (clearRec k s) { s with recorder := s.recorder.cleared d }).recorder := by
    simp only [clearLog, h, hnumbered]
    rfl
  have hplaced := placeRec_recorder (clearRec k s) (s.recorder.cleared d) s
  rw [storeRec_reserved (bp := (b, 0)) (by rfl) (by exact hopen) (show 0 + 1 < 64 by decide)] at hplaced
  exact hrecorder.trans hplaced

theorem writeVolatile_recorder (e : Rec) (s : State) : (writeVolatile e s).recorder =
    { s.recorder with
      seq := s.recorder.seq + 1
      vring := put none s.recorder.vnext (some { e with seq := s.recorder.seq + 1, fallback := true }) s.recorder.vring
      vnext := (s.recorder.vnext + 1) % 512
      vqueue := s.recorder.vqueue ++ [{ e with seq := s.recorder.seq + 1, fallback := true }]
      newest := (2048 + s.recorder.vnext / 64, s.recorder.vnext % 64) } := by
  simp [writeVolatile]

/-- The recorder after a clear in DEGRADED: the LOG_CLEAR record goes to the volatile ring (R435). -/
theorem clearLog_degraded {s : State} (k : Nat) (d : Digest) (h : s.recorder.degraded = true) :
    (clearLog k d s).recorder =
      { s.recorder.cleared d with
        seq := s.recorder.seq + 1
        vring := put none s.recorder.vnext (some { clearRec k s with fallback := true }) s.recorder.vring
        vnext := (s.recorder.vnext + 1) % 512
        vqueue := s.recorder.vqueue ++ [{ clearRec k s with fallback := true }]
        newest := (2048 + s.recorder.vnext / 64, s.recorder.vnext % 64) } := by
  simp only [clearLog, h, if_true, pulse0_recorder, writeVolatile_recorder]
  rfl

/-- What every clear leaves: one record more, CLEAR_SEQ past the newest one, and segments and fallback view empty. -/
theorem clearLog_empties (k : Nat) (d : Digest) (s : State) :
    (clearLog k d s).recorder.seq = s.recorder.seq + 1 ∧ (clearLog k d s).recorder.clearSeq = s.recorder.seq + 1 ∧
    (clearLog k d s).recorder.prevSeal = d ∧ (clearLog k d s).recorder.ringUsed = [] ∧
    (clearLog k d s).recorder.fbView = [] := by
  cases h : s.recorder.degraded with
  | true => rw [clearLog_degraded k d h]; exact ⟨rfl, rfl, rfl, rfl, rfl⟩
  | false => rw [clearLog_in_mram k d h rfl]; exact ⟨rfl, rfl, rfl, rfl, rfl⟩

theorem logCleared_stale {s : State} {seq : Nat} (k : Nat) (d : Digest) (h : s.recorder.seq ≠ seq) :
    logCleared k seq d s = finishMailbox 0xC [] s := if_pos h

theorem logCleared_carried_out (k : Nat) (d : Digest) (s : State) : logCleared k s.recorder.seq d s =
    finishMailbox 0 (results [w32 (s.recorder.seq + 1)]) (clearLog k d s) := by
  simp [logCleared, (clearLog_empties k d s).1]

theorem calStored_fails (k gen : Nat) (s : State) : calStored k gen false s = finishMailbox 0xA [] s := rfl

/-- A store that succeeds: the copy is in use and valid, the other as it was (R416). -/
theorem calStored_succeeds (k gen : Nat) (s : State) :
    (calStored k gen true s).cal =
      { s.cal with inUse := k, valid0 := s.cal.valid0 || k == 0, valid1 := s.cal.valid1 || k == 1 } ∧
    (calStored k gen true s).mbox = { s.mbox with running := none, resp := 0, res := results [w32 gen] } := by
  simp [calStored]

/-! ## The statement -/

/-- Settles O37: the seven commands on the state that the doorbell leaves, and the ends of the two that go on. -/
theorem mailboxCalibrationAndRecorder : Obligations.MailboxCalibrationAndRecorder := by
  unfold Obligations.MailboxCalibrationAndRecorder
  intro s kg ok data mis u
  have hu (op : Nat) : u op = takenBy kg op (fresh s) := (takenBy_eq kg op (fresh s)).symm
  simp only [hu]
  clear_value u
  refine ⟨fun hfree hopen => ?commands, fun k gen hrun => ⟨fun hok => ?stored, fun hok => ?notStored⟩,
    fun k seq d hrun => ⟨fun hseq => ?stale, fun hseq => ?cleared⟩⟩
  case commands =>
    have hruns (op : Nat) (hfirst : firstAnswer s op kg = 0) :
        doorbell kg op (fresh s) = runCommand op (takenBy kg op (fresh s)) :=
      doorbell_accepted (s := fresh s) hfree hopen hfirst
    refine ⟨fun hfirst c hc => ?calRun, fun hfirst hidle => ?calStore, fun hfirst r hr hon => ?calAbort,
      fun hfirst hidle => ?calAbortIdle, fun hfirst h => ?freeze, fun hfirst h hthawed hgood => ?freezeWaits,
      fun hfirst h => ?clearLength, fun hfirst h hmagic hzero4 hzero17 hsigner hseq => ?clearToken⟩
    case calRun =>
      have hexec : exec c s = act (doorbell kg 0x30) s := by rcases hc with rfl | rfl <;> rfl
      rw [hexec]
      refine ⟨fun hargs => ?badArguments, fun hargs hrun => ?busy, fun hargs hrun h1 => ?calibrate,
        fun hargs hrun h1 => ?ageing⟩
      case badArguments =>
        exact act_of_effect ((hruns 0x30 hfirst).trans (calRunCmd_bad_arguments (s := takenBy kg 0x30 (fresh s)) hargs))
      case busy =>
        exact act_of_effect ((hruns 0x30 hfirst).trans (calRunCmd_busy (s := takenBy kg 0x30 (fresh s)) hargs hrun))
      case calibrate =>
        exact act_of_effect
          ((hruns 0x30 hfirst).trans (calRunCmd_calibrate (s := takenBy kg 0x30 (fresh s)) hargs hrun h1))
      case ageing =>
        obtain ⟨hfreed, hresp, hgen, hheld, hclk⟩ := ageCmd_leaves (takenBy kg 0x30 (fresh s))
        refine ⟨_, act_of_effect
          ((hruns 0x30 hfirst).trans (calRunCmd_ageing (s := takenBy kg 0x30 (fresh s)) hargs hrun h1)), ?_⟩
        simp only [settle_mbox, settle_cal, settle_clk, hfreed, hresp, hgen, hheld, hclk]
        exact ⟨trivial, trivial, rfl, fun h => setAge_model_locked (s := takenBy kg 0x30 (fresh s)) _ h,
          fun h => setAge_model_unlocked (s := takenBy kg 0x30 (fresh s)) _ h⟩
    case calStore =>
      exact ⟨_, act_of_effect (hruns 0x31 hfirst), calStoreCmd_goes (s := takenBy kg 0x31 (fresh s)) hidle⟩
    case calAbort =>
      exact ⟨_, act_of_effect (hruns 0x32 hfirst), calAbortCmd_aborts (s := takenBy kg 0x32 (fresh s)) hr hon⟩
    case calAbortIdle =>
      refine ⟨_, act_of_effect ((hruns 0x32 hfirst).trans (calAbortCmd_idle (s := takenBy kg 0x32 (fresh s)) hidle)), ?_⟩
      simp only [settle_mbox, settle_cal, finishMailbox_mbox, finishMailbox_cal]
      exact ⟨trivial, trivial, trivial, rfl⟩
    case freeze =>
      exact act_of_effect ((hruns 0x40 hfirst).trans (logFreezeCmd_at_once (s := takenBy kg 0x40 (fresh s)) h))
    case freezeWaits =>
      exact act_of_effect
        ((hruns 0x40 hfirst).trans (logFreezeCmd_waits (s := takenBy kg 0x40 (fresh s)) h hthawed hgood))
    case clearLength =>
      exact act_of_effect ((hruns 0x42 hfirst).trans (logClearCmd_bad_length (s := takenBy kg 0x42 (fresh s)) h))
    case clearToken =>
      exact act_of_effect ((hruns 0x42 hfirst).trans (logClearCmd_of_token (s := takenBy kg 0x42 (fresh s)) h
        ⟨hmagic, hzero4, hzero17, hsigner, hseq⟩))
  case stored =>
    subst hok
    obtain ⟨hcal, hmbox⟩ := calStored_succeeds k gen (fresh s)
    refine ⟨_, act_of_effect (mailboxEnds_of_calStore (s := fresh s) true data mis hrun), ?_⟩
    simp only [settle_cal, settle_mbox, hcal, hmbox]
    exact ⟨rfl, trivial, trivial, trivial⟩
  case notStored =>
    subst hok
    exact act_of_effect (mailboxEnds_of_calStore (s := fresh s) false data mis hrun)
  case stale =>
    exact act_of_effect ((mailboxEnds_of_logClear (s := fresh s) ok data mis hrun).trans
      (logCleared_stale (s := fresh s) k d hseq))
  case cleared =>
    subst hseq
    obtain ⟨hseq, hclear, hseal, hring, hview⟩ := clearLog_empties k d (fresh s)
    refine ⟨_, act_of_effect ((mailboxEnds_of_logClear (s := fresh s) ok data mis hrun).trans
      (logCleared_carried_out k d (fresh s))), ?_⟩
    simp only [settle_mbox, settle_recorder, finishMailbox_mbox, finishMailbox_recorder]
    refine ⟨trivial, hseq, hclear, hseal, rfl, hring, hview, fun hgood hblock => ?inMram, fun hdegraded => ?degraded⟩
    case inMram =>
      rw [clearLog_in_mram (s := fresh s) k d hgood (cleared_resOpen d hblock)]
      exact ⟨clearRec k (fresh s), rfl, rfl, rfl, rfl, rfl, rfl⟩
    case degraded =>
      rw [clearLog_degraded (s := fresh s) k d hdegraded]
      exact ⟨rfl, { clearRec k (fresh s) with fallback := true }, rfl, rfl, rfl, rfl⟩

end Sys2Proof.Machine
end

section
/-! PROOF. What a step of the block answers (04 R84, R92, 05 R130). -/

namespace Sys2Proof.Machine

/-- Settles O1: the queue's front command is taken off and acts on the state with the rest of the queue. -/
theorem stepRunsTheFrontCommand : Obligations.StepRunsTheFrontCommand := by
  unfold Obligations.StepRunsTheFrontCommand
  intro c rest s
  rfl

/-- No command faults or is refused: the meaning of each is an effect in the frame `act`, which answers a next state. -/
theorem exec_answers (c : Instr) (s : State) : ∃ t, exec c s = .next t := by
  cases c <;> exact ⟨_, rfl⟩

/-- Settles O6: every command acts, and what every command keeps holds the queue and the order of time. -/
theorem everyCommandAnswersAndLeavesTheQueue : Obligations.EveryCommandAnswersAndLeavesTheQueue := by
  unfold Obligations.EveryCommandAnswersAndLeavesTheQueue
  intro c s
  obtain ⟨t, ht⟩ := exec_answers c s
  refine ⟨t, ht, fun hs => ?_⟩
  have hkept := Laws.keeps_exec c (Laws.keeps_of_sound hs) ht
  exact ⟨hkept.queue, hkept.time⟩

end Sys2Proof.Machine
end

section
/-! PROOF. The status tree: what latches, what settling touches, vector 0 and the reads that clear (04 R86, R92 to R94,
16 R385). -/

namespace Sys2Proof.Machine

/-! ## Bits of a register -/

theorem tbit_toNat {n : Nat} (w : BitVec n) (i : Nat) : tbit w.toNat i = w.getLsbD i := by
  rw [tbit, BitVec.getLsbD, Nat.testBit_eq_decide_div_mod_eq, Nat.shiftRight_eq_div_pow]

theorem getLsbD_single {k i : Nat} (hi : i < 32) : (w32 (2 ^ k)).getLsbD i = decide (k = i) := by
  rw [w32, BitVec.getLsbD_ofNat, Nat.testBit_two_pow, decide_eq_true hi, Bool.true_and]

/-- A register and one of its bits have nothing in common just when the bit is clear. -/
theorem and_single_eq_zero {w : Word} {k : Nat} (hk : k < 32) : w &&& w32 (2 ^ k) = 0 ↔ w.getLsbD k = false := by
  constructor
  · intro h
    have hbit := congrArg (BitVec.getLsbD · k) h
    simpa [getLsbD_single hk] using hbit
  · intro h
    refine BitVec.eq_of_getLsbD_eq fun i hi => ?_
    by_cases hik : k = i
    · simp [← hik, h]
    · simp [getLsbD_single hi, hik]

theorem single_ne_zero {k : Nat} (hk : k < 32) (w : Word) : w ||| w32 (2 ^ k) ≠ 0 := by
  intro h
  have hbit := congrArg (BitVec.getLsbD · k) h
  simp [getLsbD_single hk] at hbit

/-! ## Storage without its canonical form -/

/-- A key written with a value that is no default reads as that value, whatever form the storage has. -/
theorem look_put_of_ne_default {α : Type} [DecidableEq α] {d v : α} (hv : v ≠ d) (j k : Nat) (m : Sparse α) :
    look d (put d k v m) j = if j = k then v else look d m j := by
  by_cases hjk : j = k
  case neg => rw [if_neg hjk, Laws.look_put_other hjk]
  case pos =>
    subst hjk
    rw [if_pos rfl]
    induction m with
    | nil => simp [put, hv, look]
    | cons p r ih =>
      unfold put
      split
      · simp [look]
      · split
        · simp [look]
        · next hne => rw [look, if_neg (Ne.symm hne)]; exact ih

/-! ## Latching -/

/-- One rise latches its own bit of its own group and no other. -/
theorem getLsbD_group_latch {t : StatusTree} {p : Nat × Nat} (hp : p.2 < 32) {n k : Nat} (hk : k < 32) :
    ((t.latch p).group n).getLsbD k = ((t.group n).getLsbD k || decide ((n, k) = p)) := by
  obtain ⟨m, j⟩ := p
  have hgroup : (t.latch (m, j)).group n =
      look 0 t.grp n ||| if n = m then look 0 t.grpFresh m ||| w32 (2 ^ j) else look 0 t.grpFresh n :=
    congrArg (look 0 t.grp n ||| ·) (look_put_of_ne_default (single_ne_zero hp _) n m t.grpFresh)
  rw [hgroup, StatusTree.group]
  by_cases hnm : n = m
  · subst hnm
    simp [getLsbD_single hk, Bool.or_assoc, eq_comm]
  · simp [hnm]

/-- One rise latches its block's bit of STAT_SUMMARY when its group bit was clear. -/
theorem getLsbD_top_latch {t : StatusTree} {p : Nat × Nat} (hp : p.2 < 32) {n : Nat} (hn : n < 32) :
    (t.latch p).top.getLsbD n = (t.top.getLsbD n || (decide (p.1 = n) && !(t.group n).getLsbD p.2)) := by
  have htop : (t.latch p).top = t.summary |||
      if t.group p.1 &&& w32 (2 ^ p.2) = 0 then t.summaryFresh ||| w32 (2 ^ p.1) else t.summaryFresh := rfl
  rw [htop, StatusTree.top]
  simp only [and_single_eq_zero hp]
  by_cases hnp : p.1 = n
  · subst hnp
    cases hbit : (t.group p.1).getLsbD p.2 <;> simp [getLsbD_single hn]
  · split <;> simp [getLsbD_single hn, hnp]

/-- Bit k of group n after the rises of a list. -/
theorem getLsbD_group_latched (l : List (Nat × Nat)) (hl : ∀ p ∈ l, p.2 < 32) (t : StatusTree) {n k : Nat} (hk : k < 32) :
    ((l.foldl StatusTree.latch t).group n).getLsbD k = true ↔ (t.group n).getLsbD k = true ∨ (n, k) ∈ l := by
  induction l generalizing t with
  | nil => simp
  | cons p l ih =>
    have hp := hl p List.mem_cons_self
    rw [List.foldl_cons, ih (fun q hq => hl q (List.mem_cons_of_mem p hq)), getLsbD_group_latch hp hk]
    simp [or_assoc]

/-- Bit n of STAT_SUMMARY after the rises of a list in which none stands twice: a group bit that was clear before the list
is clear until its own rise. -/
theorem getLsbD_top_latched (l : List (Nat × Nat)) (hl : ∀ p ∈ l, p.2 < 32) (hnodup : l.Nodup) (t : StatusTree) {n : Nat}
    (hn : n < 32) : (l.foldl StatusTree.latch t).top.getLsbD n = true ↔
      t.top.getLsbD n = true ∨ ∃ k, (n, k) ∈ l ∧ (t.group n).getLsbD k = false := by
  induction l generalizing t with
  | nil => simp
  | cons p l ih =>
    obtain ⟨m, j⟩ := p
    have hj : j < 32 := hl (m, j) List.mem_cons_self
    obtain ⟨hfirst, hrest⟩ := List.nodup_cons.mp hnodup
    have hl' : ∀ q ∈ l, q.2 < 32 := fun q hq => hl q (List.mem_cons_of_mem _ hq)
    have hclear (k : Nat) (hk : (n, k) ∈ l) :
        ((t.latch (m, j)).group n).getLsbD k = (t.group n).getLsbD k := by
      have hne : (n, k) ≠ (m, j) := fun h => hfirst (h ▸ hk)
      rw [getLsbD_group_latch hj (hl' _ hk), decide_eq_false hne, Bool.or_false]
    rw [List.foldl_cons, ih hl' hrest, getLsbD_top_latch hj hn, Bool.or_eq_true, or_assoc]
    refine or_congr_right ⟨?_, ?_⟩
    · rintro (h | ⟨k, hk, hbit⟩)
      · obtain ⟨rfl, hbit⟩ : m = n ∧ (t.group n).getLsbD j = false := by simpa using h
        exact ⟨j, List.mem_cons_self, hbit⟩
      · exact ⟨k, List.mem_cons_of_mem _ hk, (hclear k hk).symm.trans hbit⟩
    · rintro ⟨k, hk, hbit⟩
      rcases List.mem_cons.mp hk with heq | hk
      · obtain ⟨rfl, rfl⟩ := Prod.mk.inj heq
        exact .inl (by simp [hbit])
      · exact .inr ⟨k, hk, (hclear k hk).trans hbit⟩

theorem latched_keeps (l : List (Nat × Nat)) (t : StatusTree) :
    (l.foldl StatusTree.latch t).vec0En = t.vec0En ∧ (l.foldl StatusTree.latch t).pulses = t.pulses := by
  induction l generalizing t with
  | nil => exact ⟨rfl, rfl⟩
  | cons p l ih => exact ih (t.latch p)

theorem mem_rises {o s : State} {n k : Nat} :
    (n, k) ∈ rises o s ↔ (n, k) ∈ leafRegs ∧ leaf s n k &&& ~~~ leaf o n k ≠ 0 := by
  simp [rises]

theorem leafRegs_lt : ∀ p ∈ leafRegs, p.2 < 32 := by decide

theorem rises_lt (o s : State) : ∀ p ∈ rises o s, p.2 < 32 :=
  fun p hp => leafRegs_lt p (List.mem_filter.mp hp).1

theorem rises_nodup (o s : State) : (rises o s).Nodup :=
  List.Nodup.filter _ (by decide : leafRegs.Nodup)

/-- Settles O7: the tree after a command is the one before it with every rise latched, each once. -/
theorem risesLatch : Obligations.RisesLatch := by
  unfold Obligations.RisesLatch
  intro s u
  have htree : (settle s u).stat = (rises s u).foldl StatusTree.latch u.stat := rfl
  obtain ⟨hvec, hpulses⟩ := latched_keeps (rises s u) u.stat
  simp only [htree, tbit_toNat, ← mem_rises]
  refine ⟨fun n k hk => getLsbD_group_latched _ (rises_lt s u) u.stat hk, fun n hn => ?_, hvec, hpulses⟩
  rw [getLsbD_top_latched _ (rises_lt s u) (rises_nodup s u) u.stat (by omega)]
  simp only [mem_rises, and_assoc]

end Sys2Proof.Machine
end

section
/-! PROOF. What settling touches, vector 0's message, and the reads that clear (04 R86, R92 to R94, 16 R385). -/

namespace Sys2Proof.Machine

/-! ## Messages -/

/-- Whether a vector's message can leave: unmasked, over a link that is up with MSI-X enabled (R94, R385; log 80). -/
def Leaves (l : HostLink) (v : Nat) : Prop :=
  (look {} l.msix v).masked = false ∧ tbit (msixControl l) 14 = false ∧ tbit (msixControl l) 15 = true ∧ l.up = true ∧
    l.d3hot = false

/-- A vector's message with the address and the data of its entry in the table. -/
def messageOf (l : HostLink) (v : Nat) : Output := .msi v (look {} l.msix v).addr (look {} l.msix v).data

theorem message_of_leaves {l : HostLink} {v : Nat} (h : Leaves l v) (out : List Output) :
    message v l out = (l, out ++ [messageOf l v]) := by
  obtain ⟨hmask, hfunction, henable, hup, hd3⟩ := h
  exact if_pos (by rw [hmask, hfunction, henable, hup, hd3]; rfl)

theorem message_held {l : HostLink} {v : Nat} (h : ¬ Leaves l v) (out : List Output) :
    message v l out = ({ l with pending := put false v true l.pending }, out) :=
  if_neg (by simpa only [Leaves, Bool.and_eq_true, Bool.not_eq_true', and_assoc] using h)

/-- Settling leaves of the outbox what stood there, and adds one message at most. -/
theorem settle_outbox (o s : State) : (settle o s).outbox = s.outbox ∨
    ∃ a d, (settle o s).outbox = s.outbox ++ [.msi 0 a d] := by
  simp only [settle, settledLink]
  split
  · exact message_out 0 s.link s.outbox
  · exact .inl rfl

/-- Settles O8: settling sets the tree, and of the link and the outbox what one message of vector 0 may change. -/
theorem settleTouchesOnlyTheTree : Obligations.SettleTouchesOnlyTheTree := by
  unfold Obligations.SettleTouchesOnlyTheTree
  intro s u
  exact ⟨_, _, _, rfl, settle_link s u, settle_outbox s u⟩

/-! ## Vector 0 when a command is settled -/

theorem settledLink_due {o s : State} (h : vectorZeroDue o (settle o s).stat = true) :
    settledLink o s = message 0 s.link s.outbox := if_pos h

theorem settledLink_not_due {o s : State} (h : vectorZeroDue o (settle o s).stat = false) :
    settledLink o s = (s.link, s.outbox) := if_neg (Bool.eq_false_iff.mp h)

/-- Where vector 0's message can leave, settling holds nothing and takes nothing from the outbox. -/
theorem settle_of_leaves {u : State} (h : Leaves u.link 0) (s : State) :
    (settle s u).link = u.link ∧ ∀ m ∈ u.outbox, m ∈ (settle s u).outbox := by
  refine ⟨?_, fun m hm => ?_⟩
  · show (settledLink s u).1 = u.link
    rw [settledLink, message_of_leaves h]
    split <;> rfl
  · rcases settle_outbox s u with hout | ⟨a, d, hout⟩ <;> simp [hout, hm]

/-! ## Held messages -/

/-- A vector's held message is sent. -/
def sendHeld (s : State) (v : Nat) : State :=
  sendVector v (mLink (fun l => { l with pending := put false v false l.pending }) s)

/-- Pending bits with those of some vectors cleared. -/
def withoutHeld (vs : List Nat) (p : Sparse Bool) : Sparse Bool := vs.foldl (fun p v => put false v false p) p

/-- The state with the held messages of some vectors sent. -/
def withSent (vs : List Nat) (s : State) : State :=
  { s with
    link := { s.link with pending := withoutHeld vs s.link.pending }
    outbox := s.outbox ++ vs.map (messageOf s.link) }

theorem sendHeld_of_leaves {s : State} {v : Nat} (h : Leaves s.link v) : sendHeld s v = withSent [v] s := by
  have hsame : Leaves { s.link with pending := put false v false s.link.pending } v := h
  simp only [sendHeld, sendVector, mLink, message_of_leaves hsame]
  rfl

theorem withSent_cons (v : Nat) (vs : List Nat) (s : State) : withSent vs (withSent [v] s) = withSent (v :: vs) s := by
  have hout : (withSent [v] s).outbox ++ vs.map (messageOf s.link) = s.outbox ++ (v :: vs).map (messageOf s.link) :=
    List.append_assoc ..
  exact congrArg (fun out => { withSent (v :: vs) s with outbox := out }) hout

theorem sendHeld_all (vs : List Nat) (s : State) (h : ∀ v ∈ vs, Leaves s.link v) :
    vs.foldl sendHeld s = withSent vs s := by
  induction vs generalizing s with
  | nil => exact congrArg (fun out => { s with outbox := out }) (List.append_nil s.outbox).symm
  | cons v vs ih =>
    rw [List.foldl_cons, sendHeld_of_leaves (h v List.mem_cons_self),
      ih (withSent [v] s) (fun x hx => h x (List.mem_cons_of_mem v hx)), withSent_cons]

/-- What can be released can leave. -/
theorem leaves_of_releasable {l : HostLink} {v : Nat} (h : v ∈ releasable l) : Leaves l v := by
  unfold releasable at h
  split at h
  case isTrue hopen =>
    obtain ⟨⟨⟨henable, hfunction⟩, hup⟩, hd3⟩ : ((tbit (msixControl l) 15 = true ∧ tbit (msixControl l) 14 = false) ∧
        l.up = true) ∧ l.d3hot = false := by simpa using hopen
    obtain ⟨p, hp, rfl⟩ := List.mem_map.mp h
    have hmask := (List.mem_filter.mp hp).2
    exact ⟨by simpa using hmask, hfunction, henable, hup, hd3⟩
  case isFalse => simp at h

theorem mem_of_look {α : Type} [DecidableEq α] {d : α} {k : Nat} {m : Sparse α} (h : look d m k ≠ d) :
    (k, look d m k) ∈ m := by
  induction m with
  | nil => simp [look] at h
  | cons p r ih =>
    unfold look at h ⊢
    split at h
    case isTrue hk => rw [if_pos hk, ← hk]; exact List.mem_cons_self
    case isFalse hk => rw [if_neg hk]; exact List.mem_cons_of_mem _ (ih h)

theorem mem_releasable {l : HostLink} {v : Nat} (h : Leaves l v) (hheld : look false l.pending v = true) :
    v ∈ releasable l := by
  obtain ⟨hmask, hfunction, henable, hup, hd3⟩ := h
  have hmem : (v, true) ∈ l.pending := by
    have := mem_of_look (d := false) (k := v) (m := l.pending) (by simp [hheld])
    rwa [hheld] at this
  rw [releasable, if_pos (by simp [hfunction, henable, hup, hd3])]
  exact List.mem_map.mpr ⟨(v, true), List.mem_filter.mpr ⟨hmem, by rw [hmask]; rfl⟩, rfl⟩

theorem releasePending_eq (s : State) : releasePending s = withSent (releasable s.link) s :=
  sendHeld_all (releasable s.link) s fun _ hv => leaves_of_releasable hv

theorem look_withoutHeld {vs : List Nat} {p : Sparse Bool} {v : Nat} (hwf : wf false p = true) (hv : v ∈ vs) :
    look false (withoutHeld vs p) v = false := by
  have hclear : ∀ (vs : List Nat) (p : Sparse Bool), wf false p = true →
      look false (withoutHeld vs p) v = if v ∈ vs then false else look false p v := by
    intro vs
    induction vs with
    | nil => intro p _; rfl
    | cons x vs ih =>
      intro p hp
      refine (ih (put false x false p) (Laws.wf_put hp)).trans ?_
      rw [Laws.look_put hp]
      by_cases hx : v = x <;> simp [hx]
  rw [hclear vs p hwf, if_pos hv]

/-- Vector 0's held message has left: its pending bit is clear, and the message stands in the outbox. -/
def ZeroSent (l : HostLink) (t : State) : Prop := look false t.link.pending 0 = false ∧ messageOf l 0 ∈ t.outbox

/-- Vector 0's held message leaves when held messages are released over an open path, whatever settling does then. -/
theorem zeroSent_releasePending {u : State} (o : State) (h : Leaves u.link 0) (hwf : wf false u.link.pending = true)
    (hheld : look false u.link.pending 0 = true) : ZeroSent u.link (settle o (releasePending u)) := by
  have hmem : 0 ∈ releasable u.link := mem_releasable h hheld
  have hleaves : Leaves (releasePending u).link 0 := by rw [releasePending_eq]; exact h
  obtain ⟨hlink, hout⟩ := settle_of_leaves hleaves o
  refine ⟨?_, hout _ ?_⟩
  · rw [hlink, releasePending_eq]
    exact look_withoutHeld hwf hmem
  · rw [releasePending_eq]
    exact List.mem_append_right _ (List.mem_map.mpr ⟨0, hmem, rfl⟩)

/-- The link with the control word of vector 0's entry in the table written with `w`. -/
def withControl (w : Word) (l : HostLink) : HostLink :=
  { l with msix := upd {} 0 (fun e => { e with masked := tbit w.toNat 0 }) l.msix }

theorem bar0Write_control (w : Word) (s : State) :
    bar0Write 0x0E800C [(w, 15)] false s = releasePending (mLink (withControl w) s) := rfl

theorem look_withControl (w : Word) {l : HostLink} (h : wf {} l.msix = true) :
    look {} (withControl w l).msix 0 = { look {} l.msix 0 with masked := tbit w.toNat 0 } := by
  rw [withControl, Laws.look_upd h, if_pos rfl]

/-- Settles O9: vector 0 is sent or held when its value leaves zero, and its held message goes with the release of what
can leave. -/
theorem vectorZeroOnRise : Obligations.VectorZeroOnRise := by
  unfold Obligations.VectorZeroOnRise
  intro s u
  refine ⟨fun hzero hrose => ?due, fun hnot => ?notDue, fun w speed width flit hwf hmsix hheld henable hfunction hd3 =>
    ⟨fun hup hw => ?unmasked, fun hmask hpowered hperst => ?linkUp⟩⟩
  case due =>
    have hdue : settledLink s u = message 0 u.link u.outbox :=
      settledLink_due (by simpa [vectorZeroDue, hzero] using hrose)
    have hlink : (settle s u).link = (message 0 u.link u.outbox).1 := congrArg Prod.fst hdue
    have hout : (settle s u).outbox = (message 0 u.link u.outbox).2 := congrArg Prod.snd hdue
    rw [hlink, hout]
    refine ⟨fun hshut => ?_, fun hmask hfunction henable hup hd3 => ?_⟩
    · have hheld : ¬ Leaves u.link 0 := by
        rintro ⟨hmask, hfunction, henable, hup, hd3⟩
        simp only [hmask, hfunction, henable, hup, hd3] at hshut
        simp at hshut
      rw [message_held hheld]
      exact ⟨rfl, rfl⟩
    · rw [message_of_leaves ⟨hmask, hfunction, henable, hup, hd3⟩]
      exact ⟨rfl, rfl⟩
  case notDue =>
    have hquiet : settledLink s u = (u.link, u.outbox) := by
      refine settledLink_not_due ?_
      rcases hnot with h | h
      · simp only [vectorZeroDue, beq_eq_false_iff_ne.mpr h, Bool.false_and]
      · simp only [vectorZeroDue, h, bne_self_eq_false, Bool.and_false]
    exact ⟨congrArg Prod.snd hquiet, congrArg Prod.fst hquiet⟩
  case unmasked =>
    refine ⟨_, act_of_effect (bar0Write_control w (fresh s)), ?_⟩
    have hentry := look_withControl w hmsix
    have hleaves : Leaves (withControl w s.link) 0 := ⟨by rw [hentry]; exact hw, hfunction, henable, hup, hd3⟩
    have hsent := zeroSent_releasePending (u := mLink (withControl w) (fresh s)) s hleaves hwf hheld
    have hmessage : messageOf (withControl w s.link) 0 = messageOf s.link 0 := by rw [messageOf, hentry]; rfl
    obtain ⟨hclear, hout⟩ := hsent
    exact ⟨hclear, (congrArg (· ∈ _) hmessage).mp hout⟩
  case linkUp =>
    refine ⟨_, act_of_effect (linkReady_up (s := fresh s) speed width flit hpowered hperst), ?_⟩
    exact zeroSent_releasePending s ⟨hmask, hfunction, henable, rfl, hd3⟩ hwf hheld

/-! ## Reads that clear -/

/-- What neither rises nor takes the summary out of zero is settled already. -/
theorem settle_quiet {s u : State} (hleaf : ∀ n k, leaf u n k = leaf s n k)
    (htop : (s.stat.top &&& s.stat.vec0En) = 0 → (u.stat.top &&& u.stat.vec0En) = 0) : settle s u = u := by
  have hrises : rises s u = [] := by simp [rises, hleaf]
  have htree : settledTree s u = u.stat := by rw [settledTree, hrises]; rfl
  have hdue : vectorZeroDue s u.stat = false := by
    rw [vectorZeroDue, Bool.and_eq_false_iff, beq_eq_false_iff_ne, bne_eq_false_iff_eq]
    exact or_iff_not_imp_left.mpr fun h => htop (not_not.mp h)
  rw [settle, settledLink, htree, hdue]
  rfl

/-- A tree that latches less does not take the summary out of zero. -/
theorem and_eq_zero_of_or {a b e : Word} (h : (a ||| b) &&& e = 0) : ((0 : Word) ||| b) &&& e = 0 := by
  refine BitVec.eq_of_getLsbD_eq fun i hi => ?_
  have hbit := congrArg (BitVec.getLsbD · i) h
  simp only [BitVec.getLsbD_and, BitVec.getLsbD_or] at hbit ⊢
  cases ha : a.getLsbD i <;> simp_all

/-- Storage with every entry of another merged into it by OR, as a CK_FAB boundary does with the fresh latches (R86). -/
def merged (f m : Sparse Word) : Sparse Word := f.foldl (fun m p => upd 0 p.1 (fun w => w ||| p.2) m) m

theorem look_merged {f m : Sparse Word} {lo : Nat} (hm : wf 0 m = true) (hf : wfFrom 0 lo f = true) (n : Nat) :
    look 0 (merged f m) n = look 0 m n ||| look 0 f n := by
  induction f generalizing m lo with
  | nil => simp [merged, look]
  | cons p f ih =>
    obtain ⟨k, v⟩ := p
    obtain ⟨-, -, hrest⟩ : lo ≤ k ∧ v ≠ 0 ∧ wfFrom 0 (k + 1) f = true := by simpa [wfFrom, and_assoc] using hf
    refine (ih (Laws.wf_upd hm) hrest).trans ?_
    rw [Laws.look_upd hm, look]
    by_cases hnk : n = k
    · subst hnk
      rw [if_pos rfl, if_pos rfl, Laws.look_below hrest (Nat.lt_succ_self n)]
      exact BitVec.or_zero
    · simp [hnk, Ne.symm hnk]

/-- Settles O27: a read changes no leaf and takes no bit into the summary, so nothing follows from it. -/
theorem readClearsAndKeepsNewAssertions : Obligations.ReadClearsAndKeepsNewAssertions := by
  unfold Obligations.ReadClearsAndKeepsNewAssertions
  intro s n
  refine ⟨?summary, ?group, rfl, rfl, fun hgrp hfresh => look_merged hgrp hfresh n, rfl⟩
  case summary =>
    exact congrArg Host.Outcome.next (settle_quiet (u := summaryRead (fresh s)) (fun _ _ => rfl) and_eq_zero_of_or)
  case group => exact congrArg Host.Outcome.next (settle_quiet (u := groupRead n (fresh s)) (fun _ _ => rfl) id)

end Sys2Proof.Machine
end

section
/-! PROOF. The key, the placket and the snapshot (04 R88 to R90, R96 to R98). -/

namespace Sys2Proof.Machine

section
variable {s : State} {v : Word}

theorem keyUnlock_of_key : keyUnlock 0x6B3D s = { s with key := some s.time.cycle } := if_pos rfl

theorem keyUnlock_of_other (hv : v ≠ 0x6B3D) : keyUnlock v s = keyFail 0x20000 v { s with key := none } := if_neg hv

/-- An attempt at KEY_UNLOCK is recorded under its own block (log 20). -/
theorem keyFail_keyUnlock : keyFail 0x20000 v s = logEvent 0x200E 2 [0x20000, v.toNat] (bump 2 0 (pulse0 2 0 s)) := rfl

/-- A placket is open for 160,000 CK_HK cycles, 8 CK_ENG cycles each, from its opening (R89). -/
theorem placketOpen_iff {c : Nat} (h : s.key = some c) : placketOpen s = true ↔ s.time.cycle - c < 8 * 160000 := by
  simp [placketOpen, h]

theorem placketOpen_of_no_key (h : s.key = none) : placketOpen s = false := by simp [placketOpen, h]

theorem placketOver_closed (h : placketOpen s = false) : placketOver s = { s with key := none } := by
  simp [placketOver, h]

/-- Settles O28: the writes of KEY_UNLOCK, the placket's time, and the two cases of a guarded write. -/
theorem keyUnlockAndPlacket : Obligations.KeyUnlockAndPlacket := by
  unfold Obligations.KeyUnlockAndPlacket
  intro s v
  refine ⟨act_of_effect keyUnlock_of_key, fun hv => ?other, fun c hc => placketOpen_iff hc, placketOpen_of_no_key,
    fun h => ?ends, fun h => ?stays, fun off f h => guarded_open off v f h, fun off f h => guarded_shut off v f h⟩
  case other => exact act_of_effect ((keyUnlock_of_other (s := fresh s) hv).trans keyFail_keyUnlock)
  case ends => exact act_of_effect (placketOver_closed (s := fresh s) h)
  case stays => exact act_of_effect (placketOver_open (s := fresh s) h)

theorem snapTake_taken (h : tbit v.toNat 0 = true) :
    snapTake v s = { s with snap := s.snap.take s.time.count } := if_pos h

theorem snapTake_not (h : tbit v.toNat 0 = false) : snapTake v s = s := if_neg (Bool.eq_false_iff.mp h)

end

/-- An increment in the CK_FAB cycle of a snapshot reaches the holding slot, whose WRAP flag it can only set (R96). -/
theorem held_bump_of_here {p : Snapshot} (h : p.here = true) (key n : Nat) : (p.bump key n).held =
    put {} key { ((look {} p.ctrs key).plus (saturates key) n).hold (saturates key) with
      wrap := ((look {} p.ctrs key).plus (saturates key) n).wrap || (look {} p.held key).wrap } p.held := by
  simp only [Snapshot.bump, h]
  rfl

theorem held_bump_of_not_here {p : Snapshot} (h : p.here = false) (key n : Nat) : (p.bump key n).held = p.held := by
  simp only [Snapshot.bump, h]
  rfl

/-- Settles O30: a write of TAKE 1 is the copy of every counter, and an increment follows into the slot in its cycle. -/
theorem snapshotCopiesEveryCounter : Obligations.SnapshotCopiesEveryCounter := by
  unfold Obligations.SnapshotCopiesEveryCounter
  intro s v
  exact ⟨fun h => act_of_effect (snapTake_taken (s := fresh s) h), fun h => act_of_effect (snapTake_not (s := fresh s) h),
    fun key n h => held_bump_of_here h key n, fun key n h => held_bump_of_not_here h key n⟩

end Sys2Proof.Machine
end

section
/-! PROOF. What a doorbell is answered at once (04 R88, R106 to R109; log 20, 84, 144). -/

namespace Sys2Proof.Machine

/-! ## The answers of R107, in their order -/

section
variable {s : State} {op : Nat}

theorem firstAnswer_unknown (h : knownOps.contains op = false) (kg : Bool) : firstAnswer s op kg = 2 :=
  if_pos (by rw [h]; rfl)

theorem firstAnswer_known (h : knownOps.contains op = true) (kg : Bool) : firstAnswer s op kg =
    if stateAnswer s.life.sys op ≠ 0 then stateAnswer s.life.sys op
    else if guardedOps.contains op && !kg then 6 else 0 :=
  if_neg (by rw [h]; decide)

/-- A known command that the present state does not serve has the state's answer (R109). -/
theorem firstAnswer_of_state {n : Nat} (h : knownOps.contains op = true) (hstate : stateAnswer s.life.sys op = n)
    (hn : n ≠ 0) (kg : Bool) : firstAnswer s op kg = n := by
  rw [firstAnswer_known h, hstate, if_pos hn]

/-- A known command that the present state serves lacks a placket at most (R107). -/
theorem firstAnswer_of_served (h : knownOps.contains op = true) (hstate : stateAnswer s.life.sys op = 0) (kg : Bool) :
    firstAnswer s op kg = if guardedOps.contains op = true ∧ kg = false then 6 else 0 := by
  rw [firstAnswer_known h, hstate, if_neg (not_not.mpr rfl)]
  simp

theorem stateAnswer_starting {sys : SysState}
    (h : sys = .powerUp ∨ sys = .loading ∨ sys = .restarting ∨ sys = .standbyEntry) (h1 : op ≠ 1) (h2 : op ≠ 2) :
    stateAnswer sys op = 1 := by
  rcases h with rfl | rfl | rfl | rfl <;> simp [stateAnswer, h1, h2]

theorem stateAnswer_standing {sys : SysState} (h : sys = .safe ∨ sys = .stopped) (hop : safeOps.contains op = false)
    (hstore : op ≠ 0x31) : stateAnswer sys op = 5 := by
  rcases h with rfl | rfl
  · exact if_neg (Bool.eq_false_iff.mp hop)
  · exact if_neg (by simp only [hop, Bool.false_or, beq_iff_eq]; exact hstore)

end

/-! ## A doorbell that runs nothing -/

section
variable {s : State} {kg : Bool} {op : Nat}

theorem ring_overrun (h : s.mbox.running.isSome = true) : ring_ kg op s = pulse0 5 1 s := if_pos h

theorem ring_answered (hfree : s.mbox.running = none) (hfirst : firstAnswer s op kg ≠ 0) :
    ring_ kg op s = finishMailbox (firstAnswer s op kg) [] (takenBy false op s) :=
  (if_neg (by simp [hfree])).trans (if_pos hfirst)

end

/-- What either doorbell of a command answers when the command itself does not run: OVERRUN, the first answer of R107, or
the failure of a write outside a placket (R88, R106, R107). -/
theorem rung_of_doorbell {c : Bool → Instr} {s : State} {op : Nat}
    (hc : ∀ kg, exec (c kg) s = act (doorbell kg op) s) :
    (s.mbox.running.isSome = true → exec (c false) s = .next (settle s (pulse0 5 1 (fresh s)))) ∧
    (s.mbox.running = none → firstAnswer s op false ≠ 0 →
      exec (c false) s = .next (settle s (finishMailbox (firstAnswer s op false) [] (takenBy false op (fresh s))))) ∧
    (placketOpen s = false → exec (c true) s = .next (settle s (keyFail 0x050008 1 { fresh s with key := none }))) ∧
    (placketOpen s = true →
      (s.mbox.running.isSome = true → exec (c true) s = .next (settle s (pulse0 5 1 { fresh s with key := none }))) ∧
      (s.mbox.running = none → firstAnswer s op true ≠ 0 → exec (c true) s =
        .next (settle s (finishMailbox (firstAnswer s op true) [] (takenBy true op (fresh s)))))) := by
  have hguard (h : placketOpen s = true) : doorbell true op (fresh s) = ring_ true op (admitted s) :=
    guarded_open (s := fresh s) doorbellKg 1 _ h
  refine ⟨fun hrun => ?overrun, fun hfree hfirst => ?answered, fun h => ?shut, fun h => ⟨fun hrun => ?overrunKg,
    fun hfree hfirst => ?answeredKg⟩⟩
  case overrun => exact (hc false).trans (act_of_effect (ring_overrun (s := fresh s) hrun))
  case answered => exact (hc false).trans (act_of_effect (ring_answered (s := fresh s) hfree hfirst))
  case shut => exact (hc true).trans (act_of_effect (guarded_shut (s := fresh s) doorbellKg 1 _ h))
  case overrunKg => exact (hc true).trans (act_of_effect ((hguard h).trans (ring_overrun (s := admitted s) hrun)))
  case answeredKg =>
    exact (hc true).trans (act_of_effect ((hguard h).trans (ring_answered (s := admitted s) hfree hfirst)))

/-- The commands that a doorbell rings, each with its opcode (R110; log 84). -/
def commandTable : List ((Bool → Instr) × Nat) :=
  [(.nop, 0x01), (.getState, 0x02), (.flashInfo, 0x10), (.flashRead, 0x11), (.flashErase, 0x12), (.flashProgram, 0x13),
    (.boardRead, 0x14), (.ksWrite, 0x20), (.ksRevoke, 0x21), (.calRunCalibrate, 0x30), (.calRunAgeing, 0x30),
    (.calStore, 0x31), (.calAbort, 0x32), (.logFreeze, 0x40), (.logThaw, 0x41), (.logClear, 0x42)]

theorem exec_commandTable {p : (Bool → Instr) × Nat} (hp : p ∈ commandTable) (kg : Bool) (s : State) :
    exec (p.1 kg) s = act (doorbell kg p.2) s := by
  unfold commandTable at hp
  fin_cases hp <;> rfl

/-- Settles O33: each command's doorbells, and R107's answers over the states of the life cycle. -/
theorem mailboxDoorbellAnswers : Obligations.MailboxDoorbellAnswers := by
  unfold Obligations.MailboxDoorbellAnswers
  intro s u table rung
  refine ⟨fun p hp => ?table, fun w kg hop => ⟨?unknown, firstAnswer_unknown hop kg⟩, fun hsys kg => ?safeStore,
    fun hsys => ⟨?stoppedStore, ?stoppedUnkeyed⟩, fun op kg hop => ⟨fun hsys => ?running,
      fun hsys hserved hstore => ?standing, fun hsys h1 h2 => ?starting⟩⟩
  case table => exact rung_of_doorbell fun kg => exec_commandTable hp kg s
  case unknown => exact rung_of_doorbell (c := fun kg => .unknownOpcode kg w) fun _ => rfl
  case safeStore => exact firstAnswer_of_state rfl (by rw [hsys]; rfl) (by decide) kg
  case stoppedStore => exact firstAnswer_of_served rfl (by rw [hsys]; rfl) true
  case stoppedUnkeyed => exact firstAnswer_of_served rfl (by rw [hsys]; rfl) false
  case running => exact firstAnswer_of_served hop (by rw [hsys]; rfl) kg
  case standing => exact firstAnswer_of_state hop (stateAnswer_standing hsys hserved hstore) (by decide) kg
  case starting => exact firstAnswer_of_state hop (stateAnswer_starting hsys h1 h2) (by decide) kg

end Sys2Proof.Machine
end

section
/-! PROOF. What the beginning and the end of a seam change and what they keep (04 R102, R103, 08 R193 to R198; log 64). -/

namespace Sys2Proof.Machine

/-! ## Storage whose keys rise -/

section
variable {α : Type} {d : α}

/-- Keys strictly rising, as in the canonical form, which keeps default entries out beside. -/
def Rising (m : Sparse α) : Prop := m.Pairwise fun p q => p.1 < q.1

theorem rising_of_wfFrom [DecidableEq α] {m : Sparse α} {lo : Nat} (h : wfFrom d lo m = true) : Rising m ∧ ∀ p ∈ m, lo ≤ p.1 := by
  induction m generalizing lo with
  | nil => simp [Rising]
  | cons p r ih =>
    obtain ⟨hlo, -, hrest⟩ : lo ≤ p.1 ∧ p.2 ≠ d ∧ wfFrom d (p.1 + 1) r = true := by simpa [wfFrom, and_assoc] using h
    obtain ⟨hrise, hbound⟩ := ih hrest
    exact ⟨List.pairwise_cons.mpr ⟨hbound, hrise⟩,
      List.forall_mem_cons.mpr ⟨hlo, fun q hq => Nat.le_of_lt (Nat.lt_of_le_of_lt hlo (hbound q hq))⟩⟩

theorem rising_map {m : Sparse α} (h : Rising m) (f : α → α) : Rising (m.map fun p => (p.1, f p.2)) :=
  List.pairwise_map.mpr h

theorem rising_put [DecidableEq α] {m : Sparse α} (h : Rising m) (k : Nat) (v : α) : Rising (put d k v m) := by
  induction m with
  | nil => unfold put; split <;> simp [Rising]
  | cons p r ih =>
    obtain ⟨hfirst, hrest⟩ := List.pairwise_cons.mp h
    unfold put
    split
    case isTrue hk =>
      split
      · exact h
      · refine List.pairwise_cons.mpr ⟨List.forall_mem_cons.mpr ⟨hk, fun q hq => ?_⟩, h⟩
        exact Nat.lt_trans hk (hfirst q hq)
    case isFalse =>
      split
      case isTrue hk =>
        subst hk
        split
        · exact hrest
        · exact List.pairwise_cons.mpr ⟨hfirst, hrest⟩
      case isFalse hlt hne =>
        refine List.pairwise_cons.mpr ⟨fun q hq => ?_, ih hrest⟩
        rcases Laws.mem_put hq with rfl | hq
        · show p.1 < k
          omega
        · exact hfirst q hq

theorem look_of_absent {m : Sparse α} {k : Nat} (h : ∀ p ∈ m, p.1 ≠ k) : look d m k = d := by
  induction m with
  | nil => rfl
  | cons p r ih =>
    obtain ⟨hp, hr⟩ := List.forall_mem_cons.mp h
    rw [look, if_neg hp, ih hr]

theorem look_put_of_rising [DecidableEq α] {m : Sparse α} (h : Rising m) (j k : Nat) (v : α) :
    look d (put d k v m) j = if j = k then v else look d m j := by
  by_cases hv : v = d
  case neg => exact look_put_of_ne_default hv j k m
  case pos =>
    by_cases hjk : j = k
    case neg => rw [if_neg hjk, Laws.look_put_other hjk]
    case pos =>
      subst hjk hv
      rw [if_pos rfl]
      induction m with
      | nil => simp [put, look]
      | cons p r ih =>
        obtain ⟨hfirst, hrest⟩ := List.pairwise_cons.mp h
        unfold put
        split
        case isTrue hk =>
          rw [if_pos rfl]
          refine look_of_absent (List.forall_mem_cons.mpr ⟨by omega, fun q hq => ?_⟩)
          exact (Nat.lt_trans hk (hfirst q hq)).ne'
        case isFalse =>
          split
          case isTrue hk =>
            subst hk
            rw [if_pos rfl]
            exact look_of_absent fun q hq => (hfirst q hq).ne'
          case isFalse hne => rw [look, if_neg (Ne.symm hne)]; exact ih hrest

theorem look_map_values {m : Sparse α} {k : Nat} (h : k ∈ m.map Prod.fst) (f : α → α) :
    look d (m.map fun p => (p.1, f p.2)) k = f (look d m k) := by
  induction m with
  | nil => simp at h
  | cons p r ih =>
    simp only [List.map_cons, look]
    by_cases hk : p.1 = k
    · rw [if_pos hk, if_pos hk]
    · rw [if_neg hk, if_neg hk]
      exact ih ((List.mem_cons.mp h).resolve_left (Ne.symm hk))

end

/-! ## The units outside the engine array -/

/-- The state with the parts taken out in which a seam's values, relays and updates work: the status tree, the channels,
the sleeves, the contexts, the triggers, the time-interval unit, the calibration, the recorder, the free values taken and
what leaves the module. Two states with the same `besideUnits` agree in every other part, the engine array among them. -/
def besideUnits (s : State) : State :=
  { s with
    stat := {}, snap := {}, chans := [], sleeves := [], ctxs := [], trig := {}, tiu := {}, cal := {}, recorder := {}
    free := 0, outbox := [] }

@[simp] theorem besideUnits_mChan (c : Nat) (f : Chan → Chan) (s : State) :
    besideUnits (mChan c f s) = besideUnits s := rfl
@[simp] theorem besideUnits_mSleeve (i : Nat) (f : Sleeve → Sleeve) (s : State) :
    besideUnits (mSleeve i f s) = besideUnits s := rfl
@[simp] theorem besideUnits_mCtx (c : Nat) (f : Context → Context) (s : State) :
    besideUnits (mCtx c f s) = besideUnits s := rfl
@[simp] theorem besideUnits_mGroup (g : Nat) (f : Group → Group) (s : State) :
    besideUnits (mGroup g f s) = besideUnits s := rfl
@[simp] theorem besideUnits_mCond (c : Nat) (f : Cond → Cond) (s : State) :
    besideUnits (mCond c f s) = besideUnits s := rfl
@[simp] theorem besideUnits_mInput (n : Nat) (f : EvtInput → EvtInput) (s : State) :
    besideUnits (mInput n f s) = besideUnits s := rfl
@[simp] theorem besideUnits_mUnit (n : Nat) (f : IntervalUnit → IntervalUnit) (s : State) :
    besideUnits (mUnit n f s) = besideUnits s := rfl
@[simp] theorem besideUnits_mOut (o : Nat) (f : OutPin → OutPin) (s : State) :
    besideUnits (mOut o f s) = besideUnits s := rfl
@[simp] theorem besideUnits_mCal (f : Cal → Cal) (s : State) : besideUnits (mCal f s) = besideUnits s := rfl
@[simp] theorem besideUnits_mCalRun (f : CalRun → CalRun) (s : State) : besideUnits (mCalRun f s) = besideUnits s := rfl
@[simp] theorem besideUnits_mRec (f : Recorder → Recorder) (s : State) : besideUnits (mRec f s) = besideUnits s := rfl
@[simp] theorem besideUnits_recorder (r : Recorder) (s : State) :
    besideUnits { s with recorder := r } = besideUnits s := rfl
@[simp] theorem besideUnits_emit (o : Output) (s : State) : besideUnits (emit o s) = besideUnits s := rfl
@[simp] theorem besideUnits_pulse0 (n bit : Nat) (s : State) : besideUnits (pulse0 n bit s) = besideUnits s := rfl

@[simp] theorem besideUnits_bumpBy (n off k : Nat) (s : State) : besideUnits (bumpBy n off k s) = besideUnits s := by
  unfold bumpBy
  split <;> rfl

@[simp] theorem besideUnits_bump (n off : Nat) (s : State) : besideUnits (bump n off s) = besideUnits s :=
  besideUnits_bumpBy n off 1 s

@[simp] theorem besideUnits_logEvent (code source : Nat) (params : List Nat) (s : State) :
    besideUnits (logEvent code source params s) = besideUnits s := by
  simp only [logEvent]
  repeat' split
  all_goals simp

/-! ### Ranges, relays and updates of the calibration -/

@[simp] theorem besideUnits_switchRange (c r n : Nat) (s : State) : besideUnits (switchRange c r n s) = besideUnits s := by
  unfold switchRange
  split <;> simp [markAdj]

@[simp] theorem besideUnits_applyRange (c r n : Nat) (s : State) : besideUnits (applyRange c r n s) = besideUnits s := by
  unfold applyRange
  split <;> simp

@[simp] theorem besideUnits_applyCoupling (c v : Nat) (s : State) :
    besideUnits (applyCoupling c v s) = besideUnits s := by
  simp only [applyCoupling, setCoupling]
  repeat' split
  all_goals simp [startCoupling, driveRelay]

@[simp] theorem besideUnits_seamRelays (n : Nat) (s : State) (c : Nat) :
    besideUnits (seamRelays n s c) = besideUnits s := by
  simp only [seamRelays]
  repeat' split
  all_goals simp

@[simp] theorem besideUnits_startLining (c pos : Nat) (s : State) :
    besideUnits (startLining c pos s) = besideUnits s := by
  simp [startLining, driveRelay]

@[simp] theorem besideUnits_issueGen (kind channels n : Nat) (limited track : Bool) (temps : List Int) (resid : List Byte)
    (s : State) : besideUnits (issueGen kind channels n limited track temps resid s) = besideUnits s := by
  simp [issueGen, logGeneration, holdRecord]

theorem besideUnits_applyUpdate (n : Nat) (s : State) (u : TrimUpdate) :
    besideUnits (applyUpdate n s u) = besideUnits s := by
  simp only [applyUpdate]
  repeat' split
  all_goals simp

@[simp] theorem besideUnits_applyUpdates (n : Nat) (s : State) : besideUnits (applyUpdates n s) = besideUnits s :=
  foldl_leaves (besideUnits_applyUpdate n) _ _

@[simp] theorem besideUnits_calSeam (n : Nat) (s : State) : besideUnits (calSeam n s) = besideUnits s := by
  simp only [calSeam]
  repeat' split
  all_goals simp

/-! ### Values of live parameters -/

@[simp] theorem besideUnits_drivePin (o : Nat) (f : OutPin → OutPin) (s : State) :
    besideUnits (drivePin o f s) = besideUnits s := by
  simp only [drivePin]
  split <;> simp

@[simp] theorem besideUnits_applyTiu (a t : Nat) (v : Word) (s : State) :
    besideUnits (applyTiu a t v s) = besideUnits s := by
  simp only [applyTiu]
  repeat' split
  all_goals simp

@[simp] theorem besideUnits_applyTrigger (a t : Nat) (v : Word) (s : State) :
    besideUnits (applyTrigger a t v s) = besideUnits s := by
  unfold applyTrigger
  split <;> simp

@[simp] theorem besideUnits_contextApply (c field t : Nat) (v : Word) (s : State) :
    besideUnits (contextApply c field t v s) = besideUnits s := by
  unfold contextApply
  split <;> simp

@[simp] theorem besideUnits_applyLength (i : Nat) (v : Word) (s : State) :
    besideUnits (applyLength i v s) = besideUnits s :=
  foldl_leaves (fun s j => besideUnits_mSleeve j _ s) _ s

/-- Whatever unit a live parameter targets, its value is at work there alone. -/
theorem besideUnits_applyValue (t target : Nat) (v : Word) (s : State) :
    besideUnits (applyValue t target v s) = besideUnits s := by
  simp only [applyValue]
  repeat' split
  all_goals simp

/-! ## The seam port of the engines -/

/-- The registers of an engine that a seam latches (R194). -/
def seamRegs (g : Engine) : Nat × Nat := (g.seamPc, g.seamBexp)

/-- What the work of a seam keeps once its registers are latched and its commit is checked: the live parameters, the life
cycle, the image, the seam itself and what every engine's seam registers show. -/
structure SeamKeeps (s t : State) : Prop where
  live : t.live = s.live
  life : t.life = s.life
  image : t.image = s.image
  inSeam : t.eng.inSeam = s.eng.inSeam
  running : t.eng.running = s.eng.running
  latches : Rising s.eng.engines → Rising t.eng.engines ∧ ∀ e, seamRegs (engine t e) = seamRegs (engine s e)

theorem SeamKeeps.refl (s : State) : SeamKeeps s s := ⟨rfl, rfl, rfl, rfl, rfl, fun h => ⟨h, fun _ => rfl⟩⟩

theorem SeamKeeps.trans {s t u : State} (h : SeamKeeps s t) (h' : SeamKeeps t u) : SeamKeeps s u where
  live := h'.live.trans h.live
  life := h'.life.trans h.life
  image := h'.image.trans h.image
  inSeam := h'.inSeam.trans h.inSeam
  running := h'.running.trans h.running
  latches hs :=
    have ⟨ht, hregs⟩ := h.latches hs
    have ⟨hu, hregs'⟩ := h'.latches ht
    ⟨hu, fun e => (hregs' e).trans (hregs e)⟩

theorem SeamKeeps.foldl {α : Type} {f : State → α → State} (hf : ∀ s a, SeamKeeps s (f s a)) (l : List α) (s : State) :
    SeamKeeps s (l.foldl f s) :=
  List.foldlRecOn l f (motive := SeamKeeps s) (.refl s) fun t ht a _ => ht.trans (hf t a)

/-- The work of the units outside the engine array is of this kind. -/
theorem seamKeeps_of_besideUnits {s t : State} (h : besideUnits t = besideUnits s) : SeamKeeps s t := by
  have heng : t.eng = s.eng := (congrArg State.eng h :)
  exact ⟨(congrArg State.live h :), (congrArg State.life h :), (congrArg State.image h :), by rw [heng], by rw [heng],
    fun hs => ⟨by rwa [heng], fun e => by simp only [engine, heng]⟩⟩

/-- A change of an engine that leaves its seam registers is of this kind. -/
theorem seamKeeps_mEngine (e : Nat) {f : Engine → Engine} (hf : ∀ g, seamRegs (f g) = seamRegs g) (s : State) :
    SeamKeeps s (mEngine e f s) := by
  refine ⟨rfl, rfl, rfl, rfl, rfl, fun hs => ⟨rising_put hs e _, fun j => ?_⟩⟩
  have hlook : engine (mEngine e f s) j = if j = e then f (engine s e) else engine s j := look_put_of_rising hs j e _
  rw [hlook]
  split
  case isTrue hj => rw [hf, hj]
  case isFalse => rfl

theorem seamKeeps_portWrite (e addr : Nat) (w : Word) (k : Nat) (s : State) : SeamKeeps s (portWrite e addr w k s) := by
  simp only [portWrite]
  refine seamKeeps_mEngine e ?_ s
  exact fun _ => rfl

theorem seamKeeps_coreWords (e : Nat) (s : State) : SeamKeeps s (coreWords e s) := by
  simp only [coreWords]
  refine .trans (seamKeeps_mEngine e ?_ s) (seamKeeps_of_besideUnits rfl)
  exact fun _ => rfl

/-- The words of the port that find no cycle are counted (R198). -/
theorem seamKeeps_portQueued (s : State) (e k : Nat) : SeamKeeps s (portQueued s e k) := by
  have hcounted (s : State) (late : Nat) :
      SeamKeeps s (if 0 < late then pulse0 9 2 (bumpBy 9 0x30 late s) else s) := by
    split
    · exact seamKeeps_of_besideUnits (by simp)
    · exact .refl s
  simp only [portQueued]
  refine .trans (.trans (.foldl (fun s i => seamKeeps_portWrite e _ _ _ s) _ s) (seamKeeps_mEngine e ?_ _)) (hcounted _ _)
  exact fun _ => rfl

theorem seamKeeps_seamPort (ns : List Nat) (s : State) (e : Nat) : SeamKeeps s (seamPort ns s e) := by
  simp only [seamPort]
  exact .trans (.trans (.foldl (fun s k => seamKeeps_portWrite e _ _ k s) _ s) (seamKeeps_coreWords e _))
    (seamKeeps_portQueued _ e _)

/-! ## The values of a seam -/

theorem seamKeeps_applyInitial (t : Nat) (s : State) : SeamKeeps s (applyInitial t s) :=
  .foldl (fun s _ => seamKeeps_of_besideUnits (besideUnits_applyValue t _ _ s)) _ s

/-- The end of a seam's beginning: relays and updates of the calibration (R136, R143). -/
theorem seamKeeps_relays (t : Nat) (s : State) : SeamKeeps s (calSeam t ((List.range 4).foldl (seamRelays t) s)) :=
  .trans (.foldl (fun s c => seamKeeps_of_besideUnits (besideUnits_seamRelays t s c)) _ s)
    (seamKeeps_of_besideUnits (besideUnits_calSeam t _))

/-- The active values become the shadows. -/
def activated (s : State) : State := mLive (fun l => { l with active := l.shadow }) s

theorem seamKeeps_activated {s t : State} (h : SeamKeeps s t) : SeamKeeps (activated s) (activated t) :=
  ⟨congrArg (fun l : LiveBank => { l with active := l.shadow }) h.live, h.life, h.image, h.inSeam, h.running, h.latches⟩

/-- A commit applies its values in their units and makes the shadows active (R102). -/
theorem seamKeeps_applyCommit (t : Nat) (ns : List Nat) (s : State) : SeamKeeps (activated s) (applyCommit t ns s) :=
  seamKeeps_activated (.foldl (fun s _ => seamKeeps_of_besideUnits (besideUnits_applyValue t _ _ s)) ns s)

/-! ## The beginning of a seam -/

theorem commitDue_of_commit {s t : State} (h : t.live.commit = s.live.commit) (k : Nat) :
    commitDue t k = commitDue s k := by
  simp only [commitDue, h]

/-- The state of a seam with the registers of its engines latched (R194). -/
def seamLatched (s : State) : State :=
  mEng (fun a => { a with
    inSeam := true, engines := a.engines.map (fun p => (p.1, latchSeam p.2 s.time.cycle)) }) s

/-- The state in which a seam has begun: latched, and counted and shown while the function runs (R197). -/
def seamBegun (s : State) : State :=
  bump 9 0x000 (if running s then mLive (fun l => { l with seam := seamsBegun s % 2 ^ 32 }) (seamLatched s)
    else seamLatched s)

/-- The state in which a commit that is due has had its range check (R101; log 64). -/
def seamChecked (s : State) : State :=
  if commitDue (seamBegun s) (seamsBegun s) then rangeChecked (seamBegun s) else seamBegun s

/-- The live parameters that change at seam `k`. -/
def seamChanges (a : State) (k : Nat) : List Nat := if commitDue a k then changed a else []

/-- The state in which the engines' ports have their words, and the units their INITIAL values at the first seam (R137,
R198). -/
def seamPorted (t : Nat) (a : State) (k : Nat) : State :=
  let p := ((img a).engines.map EngineDecl.engine).foldl (seamPort (seamChanges a k)) a
  if k = 0 then applyInitial t p else p

theorem seamKeeps_seamPorted (t : Nat) (a : State) (k : Nat) : SeamKeeps a (seamPorted t a k) := by
  have hports (l : List Nat) : SeamKeeps a (l.foldl (seamPort (seamChanges a k)) a) := .foldl (seamKeeps_seamPort _) l a
  simp only [seamPorted]
  split
  · exact (hports _).trans (seamKeeps_applyInitial t _)
  · exact hports _

/-- The state in which a due commit has its values in the units. -/
def seamCommitted (t : Nat) (a : State) (k : Nat) : State :=
  if commitDue (seamPorted t a k) k then applyCommit t (seamChanges a k) (seamPorted t a k) else seamPorted t a k

theorem seamKeeps_seamCommitted (t : Nat) (a : State) (k : Nat) :
    SeamKeeps (if commitDue a k then activated a else a) (seamCommitted t a k) := by
  have hported := seamKeeps_seamPorted t a k
  rw [seamCommitted, commitDue_of_commit (congrArg LiveBank.commit hported.live)]
  split
  · exact (seamKeeps_activated hported).trans (seamKeeps_applyCommit t _ _)
  · exact hported

theorem seamStart_eq {s : State} (hrun : s.eng.running = true) (hseam : s.eng.inSeam = false) : seamStart s =
    calSeam (cycleBase s) ((List.range 4).foldl (seamRelays (cycleBase s))
      (seamCommitted (cycleBase s) (seamChecked s) (seamsBegun s))) :=
  if_neg (by rw [hrun, hseam]; decide)

/-- The state of a seam with the shadows of a commit that is still due made active (R102). -/
def seamActive (s : State) : State :=
  if commitDue (seamChecked s) (seamsBegun s) then activated (seamChecked s) else seamChecked s

/-- Beside the active values the work of a seam keeps what the range check has left. -/
theorem seamKeeps_seamStart {s : State} (hrun : s.eng.running = true) (hseam : s.eng.inSeam = false) :
    SeamKeeps (seamActive s) (seamStart s) := by
  rw [seamStart_eq hrun hseam]
  exact (seamKeeps_seamCommitted _ _ _).trans (seamKeeps_relays _ _)

/-! ## The parts that the statement names -/

/-- What the range check of a commit leaves alone. -/
theorem rangeChecked_leaves (s : State) : (rangeChecked s).eng = s.eng ∧ (rangeChecked s).life = s.life ∧
    (rangeChecked s).image = s.image ∧ (rangeChecked s).live.shadow = s.live.shadow ∧
    (rangeChecked s).live.active = s.live.active ∧ (rangeChecked s).live.seam = s.live.seam := by
  unfold rangeChecked
  repeat' split
  all_goals simp [refuseCommit]

theorem seamBegun_live (s : State) :
    (seamBegun s).live = if running s then { s.live with seam := seamsBegun s % 2 ^ 32 } else s.live := by
  rw [seamBegun, bump_live]
  split <;> rfl

theorem seamBegun_leaves (s : State) : (seamBegun s).eng = (seamLatched s).eng ∧ (seamBegun s).life = s.life ∧
    (seamBegun s).image = s.image ∧ (seamBegun s).live.shadow = s.live.shadow ∧
    (seamBegun s).live.active = s.live.active ∧ (seamBegun s).live.commit = s.live.commit := by
  unfold seamBegun
  split <;> simp [seamLatched]

/-- Whatever the range check answers, a seam's state has these parts after it. -/
theorem seamChecked_leaves (s : State) : (seamChecked s).eng = (seamLatched s).eng ∧ (seamChecked s).life = s.life ∧
    (seamChecked s).image = s.image ∧ (seamChecked s).live.shadow = s.live.shadow ∧
    (seamChecked s).live.active = s.live.active ∧
    (running s = true → (seamChecked s).live.seam = seamsBegun s % 2 ^ 32) := by
  obtain ⟨heng, hlife, himage, hshadow, hactive, -⟩ := seamBegun_leaves s
  have hseam (hrun : running s = true) : (seamBegun s).live.seam = seamsBegun s % 2 ^ 32 := by
    rw [seamBegun_live, if_pos hrun]
  unfold seamChecked
  split
  · obtain ⟨heng', hlife', himage', hshadow', hactive', hseam'⟩ := rangeChecked_leaves (seamBegun s)
    exact ⟨heng'.trans heng, hlife'.trans hlife, himage'.trans himage, hshadow'.trans hshadow, hactive'.trans hactive,
      fun hrun => hseam'.trans (hseam hrun)⟩
  · exact ⟨heng, hlife, himage, hshadow, hactive, hseam⟩

theorem seamActive_leaves (s : State) : (seamActive s).eng = (seamLatched s).eng ∧ (seamActive s).life = s.life ∧
    (seamActive s).image = s.image ∧ (seamActive s).live.shadow = s.live.shadow ∧
    (running s = true → (seamActive s).live.seam = seamsBegun s % 2 ^ 32) := by
  obtain ⟨heng, hlife, himage, hshadow, -, hseam⟩ := seamChecked_leaves s
  unfold seamActive
  split <;> exact ⟨heng, hlife, himage, hshadow, hseam⟩

/-- No commit is due: the range check is not called for. -/
theorem seamChecked_of_not_due {s : State} (h : commitDue s (seamsBegun s) = false) : seamChecked s = seamBegun s := by
  obtain ⟨-, -, -, -, -, hcommit⟩ := seamBegun_leaves s
  rw [seamChecked, if_neg (by rw [commitDue_of_commit hcommit, h]; decide)]

theorem seamChecked_of_due {s : State} (h : commitDue s (seamsBegun s) = true) :
    seamChecked s = rangeChecked (seamBegun s) := by
  obtain ⟨-, -, -, -, -, hcommit⟩ := seamBegun_leaves s
  rw [seamChecked, if_pos (by rw [commitDue_of_commit hcommit, h])]

/-- What a range check at a seam reads is as the command found it. -/
theorem firstBad_seamBegun (s : State) : firstBad (seamBegun s) = firstBad s := by
  obtain ⟨-, -, himage, hshadow, -, -⟩ := seamBegun_leaves s
  have himg : img (seamBegun s) = img s := congrArg (·.getD {}) himage
  simp only [firstBad, liveCount, liveRec, himg, hshadow]

theorem commitDue_of_target {s : State} {c : Commit} {k : Nat} (hc : s.live.commit = some c) (hk : c.target ≤ k) :
    commitDue s k = true := by
  simp [commitDue, hc, hk]

/-- A due commit whose shadows are all in range stays due past the range check (R101). -/
theorem commitDue_seamChecked {s : State} (h : commitDue s (seamsBegun s) = true) (hbad : firstBad s = none) :
    commitDue (seamChecked s) (seamsBegun s) = true := by
  obtain ⟨-, -, -, -, -, hcommit⟩ := seamBegun_leaves s
  cases hc : s.live.commit with
  | none => simp [commitDue, hc] at h
  | some c =>
    have hk : c.target ≤ seamsBegun s := by simpa [commitDue, hc] using h
    have hbegun : (seamBegun s).live.commit = some c := hcommit.trans hc
    rw [seamChecked_of_due h]
    by_cases hchecked : c.checked = true
    · refine commitDue_of_target (c := c) ?_ hk
      simp [rangeChecked, hbegun, hchecked]
    · rw [rangeChecked_passes hbegun (by simpa using hchecked) ((firstBad_seamBegun s).trans hbad)]
      exact commitDue_of_target (c := { c with checked := true }) rfl hk

/-- What the registers of an engine show that a seam has latched (R194). -/
theorem engine_seamLatched {s : State} {e : Nat} (h : e ∈ s.eng.engines.map Prod.fst) :
    engine (seamLatched s) e = latchSeam (engine s e) s.time.cycle :=
  look_map_values h (latchSeam · s.time.cycle)

/-! ## A seam's beginning, clause by clause -/

section
variable {s : State} (hrun : s.eng.running = true) (hseam : s.eng.inSeam = false)
include hrun hseam

theorem seamStart_leaves : (seamStart s).eng.inSeam = true ∧ (seamStart s).eng.running = true ∧
    (running s = true → (seamStart s).live.seam = seamsBegun s % 2 ^ 32) ∧ (seamStart s).life = s.life ∧
    (seamStart s).image = s.image ∧ (seamStart s).live.shadow = s.live.shadow := by
  have hkeeps := seamKeeps_seamStart hrun hseam
  obtain ⟨heng, hlife, himage, hshadow, hshown⟩ := seamActive_leaves s
  refine ⟨hkeeps.inSeam.trans (by rw [heng]; rfl), hkeeps.running.trans (by rw [heng]; exact hrun), fun h => ?_,
    hkeeps.life.trans hlife, hkeeps.image.trans himage, ?_⟩
  · rw [hkeeps.live, hshown h]
  · rw [hkeeps.live, hshadow]

/-- The seam registers of every engine show its state at the seam's first cycle (R194). -/
theorem seamStart_latches (hwf : wf {} s.eng.engines = true) {e : Nat} (he : e ∈ s.eng.engines.map Prod.fst) :
    seamRegs (engine (seamStart s) e) = seamRegs (latchSeam (engine s e) s.time.cycle) := by
  obtain ⟨heng, -⟩ := seamActive_leaves s
  have hrising : Rising (seamActive s).eng.engines := by
    rw [heng]
    exact rising_map (rising_of_wfFrom hwf).1 (latchSeam · s.time.cycle)
  obtain ⟨-, hregs⟩ := (seamKeeps_seamStart hrun hseam).latches hrising
  rw [hregs e, engine, heng]
  exact congrArg seamRegs (engine_seamLatched he)

/-- A due commit that a shadow is out of range for is refused at its seam and applies nothing (R101; log 64). -/
theorem seamStart_refuses {c : Commit} {k : Nat} (hc : s.live.commit = some c) (hdue : c.target ≤ seamsBegun s)
    (hnew : c.checked = false) (hbad : firstBad s = some k) : (seamStart s).live.active = s.live.active ∧
    (seamStart s).live.commit = none ∧ (seamStart s).live.state = 3 ∧ (seamStart s).live.firstBad = k := by
  obtain ⟨-, -, -, -, hactive, hcommit⟩ := seamBegun_leaves s
  have hchecked : seamChecked s = refuseCommit 3 k (seamBegun s) :=
    (seamChecked_of_due (commitDue_of_target hc hdue)).trans
      (rangeChecked_refuses (hcommit.trans hc) hnew ((firstBad_seamBegun s).trans hbad))
  have hlive : (seamChecked s).live = { (seamBegun s).live with state := 3, firstBad := k, commit := none } := by
    rw [hchecked]
    simp [refuseCommit]
  have hover : commitDue (seamChecked s) (seamsBegun s) = false := by simp only [commitDue, hlive]
  have hstart : (seamStart s).live = (seamChecked s).live := by
    rw [(seamKeeps_seamStart hrun hseam).live, seamActive, hover]
    rfl
  rw [hstart, hlive]
  exact ⟨hactive, rfl, rfl, rfl⟩

/-- A due commit whose shadows are all in range applies at its seam (R102). -/
theorem seamStart_applies (hdue : commitDue s (seamsBegun s) = true) (hbad : firstBad s = none) :
    (seamStart s).live.active = s.live.shadow := by
  obtain ⟨-, -, -, hshadow, -⟩ := seamChecked_leaves s
  rw [(seamKeeps_seamStart hrun hseam).live, seamActive, if_pos (commitDue_seamChecked hdue hbad)]
  exact hshadow

theorem seamStart_not_due (hdue : commitDue s (seamsBegun s) = false) :
    (seamStart s).live.active = s.live.active ∧ (seamStart s).live.commit = s.live.commit := by
  obtain ⟨-, -, -, -, hactive, hcommit⟩ := seamBegun_leaves s
  have hidle : commitDue (seamBegun s) (seamsBegun s) = false := (commitDue_of_commit hcommit _).trans hdue
  rw [(seamKeeps_seamStart hrun hseam).live, seamActive, seamChecked_of_not_due hdue, hidle]
  exact ⟨hactive, hcommit⟩

end

/-! ## The end of a seam -/

theorem seamStart_ignored {s : State} (h : s.eng.running = false ∨ s.eng.inSeam = true) : seamStart s = s :=
  if_pos (by rcases h with h | h <;> simp [h])

theorem seamEnd_ignored {s : State} (h : s.eng.inSeam = false) : seamEnd s = s := if_pos (by simp [h])

/-- The engine array outside a seam, no engine parked (R195, R196). -/
def unparked (a : EngineArray) : EngineArray :=
  { a with inSeam := false, engines := a.engines.map (fun p => (p.1, { p.2 with parked := false })) }

theorem seamEnd_released {s : State} (h : s.eng.inSeam = true) : seamEnd s =
    if commitDue s (seamsBegun s - 1) then
      pulse0 4 0 (bump 4 0x10 { s with
        eng := unparked s.eng, live := { s.live with commit := none, state := 2, applied := s.live.target } })
    else { s with eng := unparked s.eng } :=
  if_neg (by simp [h])

/-- Settles O32: the work of a seam keeps what its beginning and the range check have left, and a commit still due makes
the shadows active. -/
theorem seamsBeginAndEnd : Obligations.SeamsBeginAndEnd := by
  unfold Obligations.SeamsBeginAndEnd
  intro s
  refine ⟨fun h => ?ignored, fun hrun hseam => ?begins, fun h => ?outside, fun h => ?ends⟩
  case ignored => exact act_of_effect (seamStart_ignored (s := fresh s) h)
  case outside => exact act_of_effect (seamEnd_ignored (s := fresh s) h)
  case ends => exact act_of_effect (seamEnd_released (s := fresh s) h)
  case begins =>
    obtain ⟨hin, hon, hshown, hlife, himage, hshadow⟩ := seamStart_leaves (s := fresh s) hrun hseam
    refine ⟨_, act_of_effect rfl, hin, hon, hshown, hlife, himage, hshadow, fun hwf e he => ?_, fun c k hc hdue hnew hk
      hbad hbelow => ?_, fun hdue hall => ?_, fun hdue => ?_⟩
    · exact Prod.mk.inj (seamStart_latches (s := fresh s) hrun hseam hwf he)
    · exact seamStart_refuses (s := fresh s) hrun hseam hc hdue hnew (firstBad_eq_some hk hbad hbelow)
    · exact seamStart_applies (s := fresh s) hrun hseam hdue (firstBad_eq_none hall)
    · exact seamStart_not_due (s := fresh s) hrun hseam hdue

end Sys2Proof.Machine
end

section
/-! PROOF. Writes of BAR0 registers (04 R83, R84, R106, 16 R384, R389, 19 R456; log 5, 139). -/

namespace Sys2Proof.Machine

/-! ## The block of an offset -/

theorem blocks_apart : ∀ n < 25, ∀ j < n,
    blockBase j + blockSize j ≤ blockBase n ∨ blockBase n + blockSize n ≤ blockBase j := by decide

/-- An offset within a block lies in that block alone (R82). -/
theorem blockAt_base {n o : Nat} (hn : n < 25) (ho : o < blockSize n) : blockAt (blockBase n + o) = some (n, o) := by
  have hfind : (List.range 25).find? (fun j => decide (blockBase j ≤ blockBase n + o) &&
      decide (blockBase n + o < blockBase j + blockSize j)) = some n := by
    refine List.find?_range_eq_some.mpr ⟨by simp [ho], List.mem_range.mpr hn, fun j hj => ?_⟩
    rw [Bool.not_eq_true', Bool.and_eq_false_iff, decide_eq_false_iff_not, decide_eq_false_iff_not]
    rcases blocks_apart n hn j hj with h | h <;> omega
  rw [blockAt, hfind]
  simp

theorem writeReg_base {n o : Nat} (w : Word) (s : State) (hn : n < 25) (ho : o < blockSize n) :
    writeReg (blockBase n + o) w s = writeBlock n o w s := by
  rw [writeReg, blockAt_base hn ho]

theorem writeReg_unassigned {off : Nat} (w : Word) (s : State) (h : blockAt off = none) : writeReg off w s = s := by
  rw [writeReg, h]

/-! ## The registers that can be written -/

/-- Whether a register of block `n` at offset `o` takes a write (R83 and the register tables). -/
def writable (n o : Nat) : Bool :=
  match n with
  | 1 => o == 4
  | 2 | 3 => o == 0
  | 4 => o == 0 || (decide (0x4000 ≤ o) && decide (o < 0x8000))
  | 5 => [0, 4, 8, 0x10].contains o || (decide (0x20 ≤ o) && decide (o < 0x40)) ||
      (decide (0x4000 ≤ o) && decide (o < 0x8000))
  | 8 | 9 | 10 | 11 | 12 | 13 | 17 | 22 => o == 0x100
  | 14 => [0, 4, 8, 0x100].contains o
  | 15 => [0, 0x100].contains o
  | 16 => [4, 0x100, 0x300].contains o
  | 18 => decide (0x8000 ≤ o) && decide (o < 0x10000)
  | 19 => decide (o < 0x80000) && [0, 4, 8, 0xC, 0x10, 0x14, 0x1C, 0x28].contains (o % 0x40)
  | 21 => [4, 8, 0x10].contains o || (decide (0x700 ≤ o) && decide (o < 0x800))
  | 23 => o == 0x28
  | 24 => o == 0x54
  | _ => false

section
variable {o : Nat} (w : Word) (s : State)

theorem writeCmd_not_writable (h : writable 5 o = false) : writeCmd o w s = s := by
  obtain ⟨⟨⟨h0, h4, h8, h10⟩, harg⟩, hdata⟩ :
      ((o ≠ 0 ∧ o ≠ 4 ∧ o ≠ 8 ∧ o ≠ 0x10) ∧ ¬ (0x20 ≤ o ∧ o < 0x40)) ∧ ¬ (0x4000 ≤ o ∧ o < 0x8000) := by
    simpa [writable] using h
  rw [writeCmd, if_neg h0, if_neg h4, if_neg h8, if_neg h10, if_neg harg, if_neg hdata]

theorem writeTrg_not_writable (h : writable 14 o = false) : writeTrg o w s = s := by
  unfold writeTrg
  split
  case h_5 => rfl
  all_goals exact absurd h (by decide)

theorem writeCap_not_writable (h : writable 15 o = false) : writeCap o w s = s := by
  unfold writeCap
  split
  case h_3 => rfl
  all_goals exact absurd h (by decide)

theorem writeTiu_not_writable (h : writable 16 o = false) : writeTiu o w s = s := by
  unfold writeTiu
  split
  case h_4 => rfl
  all_goals exact absurd h (by decide)

theorem writeHost_not_writable (h : writable 18 o = false) : writeHost o w s = s :=
  if_neg (by simpa [writable] using h)

/-- A ring has no register at this offset that takes a write (R389, R401). -/
theorem writeRing_not_writable (q : Nat) (h : [0, 4, 8, 0xC, 0x10, 0x14, 0x1C, 0x28].contains o = false) :
    writeRing q o w s = s := by
  unfold writeRing
  split
  case h_9 => rfl
  all_goals exact absurd h (by decide)

theorem writeMon_not_writable (h : writable 21 o = false) : writeMon o w s = s := by
  obtain ⟨⟨h4, h8, h10⟩, hseq⟩ : (o ≠ 4 ∧ o ≠ 8 ∧ o ≠ 0x10) ∧ ¬ (0x700 ≤ o ∧ o < 0x800) := by
    simpa [writable] using h
  rw [writeMon, if_neg h4, if_neg h8, if_neg h10, if_neg hseq]

/-- A write of any other register is discarded (R83). -/
theorem writeBlock_not_writable {n : Nat} (h : writable n o = false) : writeBlock n o w s = s := by
  unfold writeBlock
  split
  case h_5 => exact if_neg (by simp [writable] at h; omega)
  case h_6 => exact writeCmd_not_writable w s h
  case h_13 => exact writeTrg_not_writable w s h
  case h_14 => exact writeCap_not_writable w s h
  case h_15 => exact writeTiu_not_writable w s h
  case h_17 => exact writeHost_not_writable w s h
  case h_18 =>
    split
    case isTrue ho => exact writeRing_not_writable w s _ (by simpa only [writable, ho, decide_true, Bool.true_and] using h)
    case isFalse => rfl
  case h_19 => exact writeMon_not_writable w s h
  case h_23 => rfl
  all_goals exact absurd h (by decide)

end

/-! ## The registers with more than one place -/

section
variable {s : State} {w : Word}

/-- Within a block at a base, an offset that the block's size admits reaches that block's write. -/
theorem writeReg_at {a n o : Nat} (ha : a = blockBase n + o) (hn : n < 25) (ho : o < blockSize n) :
    writeReg a w s = writeBlock n o w s := by
  rw [ha, writeReg_base w s hn ho]

theorem writeReg_arg {k : Nat} (hk : k < 8) : writeReg (0x050020 + 4 * k) w s =
    mailboxInput (fun m => { m with arg := put 0 k w m.arg }) s := by
  have hplace : (0x20 + 4 * k - 0x20) / 4 = k := by omega
  have hblock : writeReg (0x050020 + 4 * k) w s = writeCmd (0x20 + 4 * k) w s :=
    writeReg_at (n := 5) (Nat.add_assoc 0x050000 0x20 (4 * k)) (by decide) (by show 0x20 + 4 * k < 0x10000; omega)
  rw [hblock, writeCmd, if_neg (by omega), if_neg (by omega), if_neg (by omega), if_neg (by omega), if_pos (by omega),
    hplace]

theorem writeReg_data {k : Nat} (hk : k < 0x1000) : writeReg (0x054000 + 4 * k) w s =
    mailboxInput (fun m => { m with data := putBytes (4 * k) (leBytes 4 w.toNat) m.data }) s := by
  have hplace : 0x4000 + 4 * k - 0x4000 = 4 * k := by omega
  have hblock : writeReg (0x054000 + 4 * k) w s = writeCmd (0x4000 + 4 * k) w s :=
    writeReg_at (n := 5) (Nat.add_assoc 0x050000 0x4000 (4 * k)) (by decide) (by show 0x4000 + 4 * k < 0x10000; omega)
  rw [hblock, writeCmd, if_neg (by omega), if_neg (by omega), if_neg (by omega), if_neg (by omega), if_neg (by omega),
    if_pos (by omega), hplace]

theorem writeBlock_live {o : Nat} (ho : o ≠ 0) : writeBlock 4 o w s =
    if 0x4000 ≤ o ∧ o < 0x8000 then liveWrite ((o - 0x4000) / 4) w s else s := by
  cases o with
  | zero => exact absurd rfl ho
  | succ o => rfl

theorem writeReg_shadow {k : Nat} (hk : k < 0x1000) : writeReg (0x044000 + 4 * k) w s = liveWrite k w s := by
  have hplace : (0x4000 + 4 * k - 0x4000) / 4 = k := by omega
  have hblock : writeReg (0x044000 + 4 * k) w s = writeBlock 4 (0x4000 + 4 * k) w s :=
    writeReg_at (n := 4) (Nat.add_assoc 0x040000 0x4000 (4 * k)) (by decide) (by show 0x4000 + 4 * k < 0x10000; omega)
  rw [hblock, writeBlock_live (by omega), if_pos (by omega), hplace]

/-- The registers of ring `q` stand 64 bytes apart (R389). -/
theorem writeReg_ring {a q o : Nat} (ha : a = 0x400000 + 0x40 * q + o) (hq : q < 0x2000) (ho : o < 0x40) :
    writeReg a w s = writeRing q o w s := by
  have hring : (0x40 * q + o) / 0x40 = q := by omega
  have hreg : (0x40 * q + o) % 0x40 = o := by omega
  have hblock : writeReg a w s = writeBlock 19 (0x40 * q + o) w s :=
    writeReg_at (n := 19) (ha.trans (Nat.add_assoc 0x400000 (0x40 * q) o)) (by decide)
      (by show 0x40 * q + o < 0x100000; omega)
  rw [hblock]
  refine (if_pos (by omega)).trans ?_
  rw [hring, hreg]

end

/-! ## The addresses of a ring -/

theorem ringBase_low (a : Nat) (w : Word) : ringBase a false w = a / 2 ^ 32 * 2 ^ 32 + w.toNat / 4096 * 4096 :=
  if_neg (by decide)

theorem ringBase_high (a : Nat) (w : Word) : ringBase a true w = a % 2 ^ 32 + w.toNat * 2 ^ 32 := if_pos rfl

/-- A ring after a write of one of its addresses: as before while ENABLE is 1 (R389). -/
def based (q : Nat) (r : Ring) (s : State) : State := if (ring s q).enable then s else mRing q (fun _ => r) s

section
variable (q : Nat) (w : Word) (s : State)

theorem writeBase_eq (f : Ring → Ring) : writeBase q f s = based q (f (ring s q)) s := rfl

theorem writeRing_dbase_low : writeRing q 0x00 w s =
    based q { ring s q with dbase := (ring s q).dbase / 2 ^ 32 * 2 ^ 32 + w.toNat / 4096 * 4096 } s := by
  rw [← ringBase_low]
  exact writeBase_eq q s (fun r => { r with dbase := ringBase r.dbase false w })

theorem writeRing_dbase_high : writeRing q 0x04 w s =
    based q { ring s q with dbase := (ring s q).dbase % 2 ^ 32 + w.toNat * 2 ^ 32 } s := by
  rw [← ringBase_high]
  exact writeBase_eq q s (fun r => { r with dbase := ringBase r.dbase true w })

theorem writeRing_cbase_low : writeRing q 0x08 w s =
    based q { ring s q with cbase := (ring s q).cbase / 2 ^ 32 * 2 ^ 32 + w.toNat / 4096 * 4096 } s := by
  rw [← ringBase_low]
  exact writeBase_eq q s (fun r => { r with cbase := ringBase r.cbase false w })

theorem writeRing_cbase_high : writeRing q 0x0C w s =
    based q { ring s q with cbase := (ring s q).cbase % 2 ^ 32 + w.toNat * 2 ^ 32 } s := by
  rw [← ringBase_high]
  exact writeBase_eq q s (fun r => { r with cbase := ringBase r.cbase true w })

end

/-- A write of one whole register is that register's effect, settled. -/
theorem bar0Write_reg {a : Nat} {w : Word} {s t : State} (h : writeReg a w (fresh s) = t) :
    exec (.bar0Write a [(w, 15)] false) s = .next (settle s t) :=
  act_of_effect (f := bar0Write a [(w, 15)] false) h

/-- Settles O29: the rules of a request first, then the registers one by one, each by what its block's write does. -/
theorem bar0WriteRules : Obligations.Bar0WriteRules := by
  unfold Obligations.Bar0WriteRules
  intro s off n o q k d ds w one input based writable'
  refine ⟨rfl, rfl, ⟨writeDword off d (fresh s), rfl, rfl, fun h => if_neg h, fun h hoff => ?unassigned⟩,
    fun hn ho h => ?notWritable, ?vec0En, ?slsel, ?esel, ?ssel, ?dselTrace, ?psel, ?ctxSel, ?gsel, ?csel, ?isel, ?osel,
    ?dsel, ?tsel, ?win, ?ksSel, ?monCfg, ?monTimer, ?opcode, fun hk => ?arg, fun hk => ?data, ?keyUnlock, ?snapTake,
    ?liveCommit, fun hk => ?shadow, ?restart, ?trgArm, ?trgDisarm, ?trgForce, ?capAbort, ?tiuCal, ?monUrgent,
    fun hq => ?ring⟩
  case unassigned => exact (if_pos h).trans (writeReg_unassigned _ _ hoff)
  case notWritable => exact bar0Write_reg ((writeReg_base w _ hn ho).trans (writeBlock_not_writable w _ h))
  case arg => exact bar0Write_reg (writeReg_arg hk)
  case data => exact bar0Write_reg (writeReg_data hk)
  case shadow => exact bar0Write_reg (writeReg_shadow hk)
  case ring =>
    refine ⟨bar0Write_reg ((writeReg_ring (o := 0x00) rfl hq (by decide)).trans (writeRing_dbase_low q w _)),
      bar0Write_reg ((writeReg_ring (o := 0x04) (by omega) hq (by decide)).trans (writeRing_dbase_high q w _)),
      bar0Write_reg ((writeReg_ring (o := 0x08) (by omega) hq (by decide)).trans (writeRing_cbase_low q w _)),
      bar0Write_reg ((writeReg_ring (o := 0x0C) (by omega) hq (by decide)).trans (writeRing_cbase_high q w _)),
      bar0Write_reg (writeReg_ring (o := 0x10) (by omega) hq (by decide)),
      bar0Write_reg (writeReg_ring (o := 0x14) (by omega) hq (by decide)),
      bar0Write_reg (writeReg_ring (o := 0x1C) (by omega) hq (by decide)),
      bar0Write_reg (writeReg_ring (o := 0x28) (by omega) hq (by decide)),
      bar0Write_reg (writeReg_ring (o := 0x28) (by omega) hq (by decide))⟩
  all_goals exact bar0Write_reg rfl

end Sys2Proof.Machine
end

section
/-! PROOF. The oven (05 R117, 18 R424; log 20). -/

namespace Sys2Proof.Machine

section
variable {s : State} {err : Int} {heater : Nat}

theorem ovenSample_inside (hlo : -10 ≤ err) (hhi : err ≤ 10) : ovenSample err heater s = { s with clk := { s.clk with
    ovenErr := err, heater := heater, runIn := min (s.clk.runIn + 1) 1001, runOut := 0
    settled := s.clk.settled || decide (1000 ≤ s.clk.runIn) } } := by
  cases hsettled : s.clk.settled <;> simp [ovenSample, mClk, hlo, hhi, hsettled]

theorem ovenSample_outside (herr : err < -10 ∨ 10 < err) (hstays : s.clk.settled = false ∨ s.clk.runOut < 101) :
    ovenSample err heater s = { s with clk := { s.clk with
      ovenErr := err, heater := heater, runIn := 0, runOut := min (s.clk.runOut + 1) 102 } } := by
  have houtside : (decide (-10 ≤ err) && decide (err ≤ 10)) = false := by simp; omega
  cases hsettled : s.clk.settled with
  | false => simp [ovenSample, mClk, houtside, hsettled]
  | true =>
    have hshort : s.clk.runOut < 101 := hstays.resolve_left (by simp [hsettled])
    have hrun : min (s.clk.runOut + 1) 102 < 102 := by omega
    simp [ovenSample, mClk, houtside, hsettled, hrun]

theorem ovenSample_unsettles (herr : err < -10 ∨ 10 < err) (hsettled : s.clk.settled = true) (hlong : 101 ≤ s.clk.runOut) :
    ovenSample err heater s = logEvent 0x2013 6 [] { s with clk := { s.clk with
      ovenErr := err, heater := heater, runIn := 0, runOut := min (s.clk.runOut + 1) 102, settled := false } } := by
  have houtside : (decide (-10 ≤ err) && decide (err ≤ 10)) = false := by simp; omega
  have hrun : ¬ min (s.clk.runOut + 1) 102 < 102 := by omega
  simp [ovenSample, mClk, houtside, hsettled, hrun]

end

/-- Settles O38: a sample inside, one outside that leaves the oven as it was, and one that unsettles it. -/
theorem ovenSettlesAndUnsettles : Obligations.OvenSettlesAndUnsettles := by
  unfold Obligations.OvenSettlesAndUnsettles
  intro s err heater c
  exact ⟨fun hlo hhi => act_of_effect (ovenSample_inside hlo hhi),
    fun herr hstays => act_of_effect (ovenSample_outside herr hstays),
    fun herr hsettled hlong => act_of_effect (ovenSample_unsettles herr hsettled hlong)⟩

end Sys2Proof.Machine
end

section
/-! PROOF. The reference, its detection and its loss (05 R118 to R122; log 20, 44, 118, 142, 143). -/

namespace Sys2Proof.Machine

/-! ## A gate that sees the reference -/

/-- The state with what the newest gate has measured: the nominal frequency and the error, or neither (R118). -/
def measured (nominal : Nat) (err : Int) (s : State) : State :=
  mClk (fun c => { c with refDetect := nominal, refErr := err }) s

section
variable {s : State} {nominal : Nat} {err : Int}

theorem gateDetected_ignored (h : s.clk.refLock = 0) : gateDetected nominal err s = measured nominal err s := if_pos h

theorem gateDetected_acquiring (h : s.clk.lock = .acquiring) : gateDetected nominal err s = measured nominal err s := by
  simp [gateDetected, measured, h]

theorem gateDetected_locked (hpol : s.clk.refLock ≠ 0) (h : s.clk.lock = .locked) : gateDetected nominal err s =
    mClk (fun c =>
      let code := sgn 24 (Config.freeValue s.free)
      { c with code := code, target := code, base := code, history := (code :: c.history).take 1000 })
      (nextFree (measured nominal err s)) := by
  simp [gateDetected, measured, h, hpol]

/-- While the ageing model owns the converter, the gate begins an acquisition or finds the reference too far (R119). -/
theorem gateDetected_modelOwns (hpol : s.clk.refLock ≠ 0) (ha : s.clk.lock ≠ .acquiring) (hl : s.clk.lock ≠ .locked) :
    gateDetected nominal err s =
      let taken := passOwner (measured nominal err s)
      let need := taken.clk.code + stepsOf err
      if clampCode need ≠ need then mClk (fun c => { c with lock := .refFar }) (measured nominal err s)
      else mClk (fun c => { c with
        lock := .acquiring, engaged := true, epsTarget := clampEps err, unwinding := false, target := need, base := c.code })
        taken := by
  cases h : s.clk.lock with
  | acquiring => exact absurd h ha
  | locked => exact absurd h hl
  | internal | holdover | refFar => simp only [gateDetected, mClk_clk, hpol, h, if_false] <;> rfl

/-- The code in force without a step that the model took in this CK_HK cycle (R113). -/
def unsteppedCode (s : State) : Int :=
  match s.clk.stepped with
  | some (k, b) => if k = hkCycle s then clampCode (s.clk.code + (b - s.clk.base)) else s.clk.code
  | none => s.clk.code

/-- A step that the model took in this CK_HK cycle is taken back, and beside the converter's code, its base and the marks
of the two owners the hand-over changes nothing of the clocks (R113). -/
theorem passOwner_clk (s : State) : ∃ base, (passOwner s).clk = { s.clk with
    code := unsteppedCode s, base := base, handed := some (hkCycle s), stepped := none } := by
  simp only [passOwner, unsteppedCode, mClk_clk]
  cases s.clk.stepped with
  | none => exact ⟨_, rfl⟩
  | some p =>
    obtain ⟨k, b⟩ := p
    by_cases hnow : k = hkCycle s
    · simp only [if_pos hnow, moveBase]; exact ⟨_, rfl⟩
    · simp only [if_neg hnow]; exact ⟨_, rfl⟩

theorem clampEps_of_within (hlo : -2000000 ≤ err) (hhi : err ≤ 2000000) : clampEps err = err := by
  simp only [clampEps, clampI]
  split <;> omega

/-! ## The loss of the reference -/

theorem gateComplete_inside (h : 1 ≤ nominal ∧ nominal ≤ 3 ∧ -5000000 ≤ err ∧ err ≤ 5000000) :
    gateComplete nominal err s = gateDetected nominal err s := if_pos h

theorem gateComplete_outside (h : ¬ (1 ≤ nominal ∧ nominal ≤ 3 ∧ -5000000 ≤ err ∧ err ≤ 5000000)) :
    gateComplete nominal err s = if s.clk.refDetect ≠ 0 then loseReference s else s := if_neg h

end

/-- The pulse, the count and the record of a loss (R118). -/
def lossNoted (s : State) : State := logEvent 0x2012 6 [] (bump 6 0 (pulse0 6 2 s))

@[simp] theorem logEvent_seconds (code source : Nat) (params : List Nat) (s : State) :
    (logEvent code source params s).recorder.seconds = s.recorder.seconds := by
  simp only [logEvent]
  repeat' split
  all_goals simp

@[simp] theorem lossNoted_clk (s : State) : (lossNoted s).clk = s.clk := by simp [lossNoted]

@[simp] theorem lossNoted_seconds (s : State) : (lossNoted s).recorder.seconds = s.recorder.seconds := by
  simp [lossNoted]

/-- A held ageing model touches neither the converter nor what a loss has noted (R420). -/
theorem takeHeldAge_eq (s : State) : ∃ cal a0 a1 t0,
    takeHeldAge s = { s with cal := cal, clk := { s.clk with a0 := a0, a1 := a1, t0 := t0 } } := by
  unfold takeHeldAge
  split <;> exact ⟨_, _, _, _, rfl⟩

/-- The clocks as the loss of a followed reference leaves them at `sec` operating seconds: the mean code is held, with
the offset still to be unwound (R122). -/
def Clk.heldOver (sec : Nat) (c : Clk) : Clk :=
  let code := clampCode (meanCode c)
  let all := code + stepsOf c.eps
  { c with
    lock := .holdover, code := code, target := all, base := all, unwinding := c.eps != 0, epsTarget := c.eps
    held := some (all, sec), history := [], stepped := none }

/-- What follows a loss, by the state of LOCK (R119, R120, R122; log 142). -/
theorem releaseReference_eq (s : State) : releaseReference s =
    if s.clk.lock == .acquiring || s.clk.lock == .locked then
      passOwner (mClk (Clk.heldOver (lossNoted s).recorder.seconds) (takeHeldAge (lossNoted s)))
    else if (lossNoted s).clk.lock == .refFar then
      mClk (fun c => { c with lock := if c.engaged then .holdover else .internal }) (lossNoted s)
    else lossNoted s := rfl

section
variable {s : State}

theorem releaseReference_free (h : s.clk.lock = .internal ∨ s.clk.lock = .holdover) :
    releaseReference s = lossNoted s := by
  rcases h with h | h <;> simp [releaseReference_eq, h]

theorem releaseReference_far (h : s.clk.lock = .refFar) : releaseReference s =
    { lossNoted s with clk := { (lossNoted s).clk with lock := if s.clk.engaged then .holdover else .internal } } := by
  simp [releaseReference_eq, mClk, h]

theorem releaseReference_followed (h : s.clk.lock = .acquiring ∨ s.clk.lock = .locked) : releaseReference s =
    passOwner (mClk (Clk.heldOver s.recorder.seconds) (takeHeldAge (lossNoted s))) := by
  rcases h with h | h <;> simp [releaseReference_eq, h]

/-- After the loss of a followed reference the clocks are held over, with some ageing model. -/
theorem releaseReference_followed_leaves (h : s.clk.lock = .acquiring ∨ s.clk.lock = .locked) :
    (∃ a0 a1 t0, (releaseReference s).clk = { Clk.heldOver s.recorder.seconds s.clk with
      a0 := a0, a1 := a1, t0 := t0, handed := some (hkCycle s) }) ∧
    (releaseReference s).snap = (lossNoted s).snap ∧ (releaseReference s).recorder = (lossNoted s).recorder := by
  obtain ⟨cal, a0, a1, t0, hage⟩ := takeHeldAge_eq (lossNoted s)
  have hcycle : hkCycle (lossNoted s) = hkCycle s := by simp [hkCycle, lossNoted]
  rw [releaseReference_followed h, hage, ← hcycle]
  refine ⟨⟨a0, a1, t0, ?_⟩, rfl, rfl⟩
  rw [← lossNoted_clk s]
  rfl

theorem achieveLock_of_reached (hlock : s.clk.lock = .acquiring) (heps : s.clk.eps = 0) : achieveLock s =
    bump 6 0x20 (mClk (fun c => { c with lock := .locked, unwinding := false, history := [] }) s) := by
  simp [achieveLock, hlock, heps]

theorem achieveLock_of_not_reached (h : s.clk.lock ≠ .acquiring ∨ s.clk.eps ≠ 0) : achieveLock s = s :=
  if_neg (by simpa [imp_iff_not_or] using h)

end

/-- Settles O39: what a gate does under each policy and in each state of LOCK, then the loss, then the lock. -/
theorem referenceDetectedAndLost : Obligations.ReferenceDetectedAndLost := by
  unfold Obligations.ReferenceDetectedAndLost
  intro s nominal err c seen code lost inside
  have hgate : inside → ∀ {t}, gateDetected nominal err (fresh s) = t →
      exec (.refGateComplete nominal err) s = .next (settle s t) :=
    fun hin _ ht => act_of_effect (f := gateComplete nominal err) ((gateComplete_inside hin).trans ht)
  have hlose : c.refDetect ≠ 0 → ∀ {t}, releaseReference (measured 0 0 (fresh s)) = t →
      exec .refEdgeTimeout s = .next (settle s t) := fun hdet _ ht => act_of_effect ((if_pos hdet).trans ht)
  refine ⟨fun hin hpol => hgate hin (gateDetected_ignored hpol), fun hin hpol ha hl => ?reach,
    fun hin _ ha => hgate hin (gateDetected_acquiring ha), fun hin hpol hl => hgate hin (gateDetected_locked hpol hl),
    fun hout => act_of_effect (f := gateComplete nominal err) (gateComplete_outside hout),
    fun hdet => act_of_effect (if_neg (not_not.mpr hdet)), fun hdet h => hlose hdet (releaseReference_free h),
    fun hdet h => hlose hdet (releaseReference_far h), fun hdet h => ?followed,
    fun ha heps => act_of_effect (achieveLock_of_reached ha heps),
    fun h => act_of_effect (achieveLock_of_not_reached h)⟩
  case reach =>
    obtain ⟨base, htaken⟩ := passOwner_clk (measured nominal err (fresh s))
    have hcode : (passOwner (measured nominal err (fresh s))).clk.code = code := congrArg Clk.code htaken
    have hreach := gateDetected_modelOwns (s := fresh s) (nominal := nominal) (err := err) hpol ha hl
    simp only [hcode] at hreach
    refine ⟨fun hfar => hgate hin (hreach.trans (if_pos hfar)), fun hnear =>
      ⟨_, hgate hin (hreach.trans (if_neg (not_not.mpr hnear))), ?_⟩⟩
    rw [settle_clk, mClk_clk, htaken]
    exact ⟨rfl, fun hlo hhi => clampEps_of_within hlo hhi, rfl, rfl, rfl, rfl, rfl, rfl, rfl⟩
  case followed =>
    obtain ⟨⟨a0, a1, t0, hclk⟩, hsnap, hrec⟩ := releaseReference_followed_leaves (s := measured 0 0 (fresh s)) h
    refine ⟨_, hlose hdet rfl, ?_⟩
    simp only [settle_clk, settle_snap, settle_recorder, hclk, hsnap, hrec]
    exact ⟨rfl, rfl, rfl, rfl, rfl, rfl, rfl, rfl, rfl⟩

end Sys2Proof.Machine
end

section
/-! PROOF. The slew that ends at the converter's limit (05 R115, R116, 18 R428, R430): a refutation. -/

namespace Sys2Proof.Machine

/-- A module in a freeze in which the record of an earlier limit waits, and whose converter stands one step below its
upper end while the ageing model asks for a code beyond it. -/
def limitAgainInFreeze : State :=
  { State.reset with
    clk := { target := 9000000, base := 8388606, code := 8388606 }
    recorder := { freeze := some 0, queue := [{ code := 0x2011, source := 6, params := [8388607, 0, 0, 0] }] } }

/-- The converter reaches its limit, the second record merges into the first one, and LOG's counter of merged records
counts it (R428). -/
theorem slewStep_counts_merged_record : (slewStep (fresh limitAgainInFreeze)).snap ≠ limitAgainInFreeze.snap := by decide

/-- Refutes O40: the statement has a slew step leave every counter alone, and in a freeze the record of TUNE_LIMIT merges
into the earlier one, which the recorder counts. -/
theorem not_tuningConverterSlews : ¬ Obligations.TuningConverterSlews := by
  unfold Obligations.TuningConverterSlews
  intro h
  obtain ⟨-, -, -, ⟨t, ht, -, -, hsnap, -⟩, -⟩ := h limitAgainInFreeze
  obtain rfl := effect_of_act (f := slewStep) ht
  exact slewStep_counts_merged_record hsnap

end Sys2Proof.Machine
end

section
/-! PROOF. A deep trip in the cycle in which a clamp touches a window that has ended (06 R146): a refutation. -/

namespace Sys2Proof.Machine

/-- CH0 clamped at sample 14, so that its window marks OVR up to sample 47; in the cycle that begins with sample 48 the
deep comparator trips, and no sample of the window's marking is left for the trip to fall in. -/
def deepTripPastWindow : State :=
  tripDeep 0 { State.reset with
    time := { cycle := 3, count := 48, counting := true }
    chans := [(0, { lastClamp := some 14, window := true, ovrRuns := [(14, 47)] })] }

/-- A clamp at sample 48 touches the marking and joins the window, which was not deep before. -/
theorem clamp_joins_shallow_window : joinsWindow (chan deepTripPastWindow 0) (cycleBase deepTripPastWindow + 0) = true ∧
    (chan deepTripPastWindow 0).deep = false := by decide

/-- The window that it joins is deep from here on, since the comparator has tripped in this cycle (R146). -/
theorem takeClamp_deepens_joined_window : (chan (takeClamp 0 0 (fresh deepTripPastWindow)) 0).deep = true := by decide

/-- Refutes O41: the statement has a clamp that joins a window leave the window as deep as it was, and here it joins one
that the trip of this cycle makes deep. -/
theorem not_samplesMarksAndOverload : ¬ Obligations.SamplesMarksAndOverload := by
  unfold Obligations.SamplesMarksAndOverload
  intro h
  obtain ⟨-, -, ⟨t, ht, -, -, hdeep, -⟩, -⟩ := h deepTripPastWindow 0 0 [] (by decide) (by decide)
  obtain ⟨hjoins, hshallow⟩ := clamp_joins_shallow_window
  rw [if_pos hjoins, hshallow] at hdeep
  obtain rfl := effect_of_act (f := takeClamp 0 0) ht
  exact absurd (takeClamp_deepens_joined_window.symm.trans hdeep) (by decide)

end Sys2Proof.Machine
end

section
/-! PROOF. The end of the lining relay's transit back (06 R137): a refutation. -/

namespace Sys2Proof.Machine

/-- The lining relay of CH0 has gone to the lining for a calibration and, with no turn under way any more, is on its way
back to INn. -/
def liningOnItsWayBack : State := startLining 0 0 (relayReached 0 0 (startLining 0 1 State.reset))

/-- When INn is reached the channel no longer counts as out for a calibration, as it did on the way back (R137). -/
theorem relaySensed_ends_absence :
    (chan (relaySensed 0 0 (fresh liningOnItsWayBack)) 0).liningOut ≠ (chan liningOnItsWayBack 0).liningOut := by decide

/-- Refutes O42: the statement has the end of a lining relay's transit change the relay's position and its transit alone,
and the end of the transit back also ends the channel's absence, with CAL_ACTIVE. -/
theorem not_windowsAndRelaysEnd : ¬ Obligations.WindowsAndRelaysEnd := by
  unfold Obligations.WindowsAndRelaysEnd
  intro h
  obtain ⟨-, -, -, -, htransit, -⟩ := h liningOnItsWayBack 0 0 0
  obtain ⟨hreached, -⟩ := htransit ⟨0, false⟩ (by decide)
  have hout := congrArg (fun t => (chan t 0).liningOut) (effect_of_act (f := relaySensed 0 0) (hreached (by decide)))
  exact relaySensed_ends_absence (hout.symm.trans rfl)

end Sys2Proof.Machine
end

section
/-! PROOF. The state right after reset is sound (02 R46, 04 R97, 07 R156). -/

namespace Sys2Proof.Machine

/-- Settles O4: the store has no byte, no key slot has an entry and no counter has moved. -/
theorem soundAtReset : Obligations.SoundAtReset where
  mem := rfl
  slots := rfl
  ctrs _ hp := absurd hp List.not_mem_nil

end Sys2Proof.Machine
end

section
/-! PROOF. The writer of a sleeve: what it does at the start of a block, with the bytes of a block, and when it resumes
(07 R172, R174 to R176). -/

namespace Sys2Proof.Machine

/-! ## Reading a sleeve after a change -/

theorem sleeve_mSleeve_self {i : Nat} {f : Sleeve → Sleeve} {s : State} (hf : f (sleeve s i) ≠ {}) :
    sleeve (mSleeve i f s) i = f (sleeve s i) :=
  (look_put_of_ne_default hf i i s.sleeves).trans (if_pos rfl)

theorem sleeve_mSleeve_other {i j : Nat} (hj : j ≠ i) (f : Sleeve → Sleeve) (s : State) :
    sleeve (mSleeve i f s) j = sleeve s j :=
  Laws.look_put_other hj

@[simp] theorem sleeve_bumpBy (n off k i : Nat) (s : State) : sleeve (bumpBy n off k s) i = sleeve s i := by
  simp [sleeve]

@[simp] theorem sleeve_bump (n off i : Nat) (s : State) : sleeve (bump n off s) i = sleeve s i :=
  sleeve_bumpBy n off 1 i s

@[simp] theorem sleeve_pulse (n k : Nat) (b : Word) (i : Nat) (s : State) : sleeve (pulse n k b s) i = sleeve s i := rfl

/-- What the writer of a sleeve goes by: all but its readers, its markers and the dates of what it has stored. -/
def writing (v : Sleeve) : Sleeve :=
  { v with readers := [], markers := [], markersGone := 0, results := [], written := [] }

theorem writing_ne_of_stopped {v : Sleeve} (h : v.stopped = true) : writing v ≠ {} :=
  fun hd => Bool.noConfusion (h.symm.trans (congrArg Sleeve.stopped hd :))

theorem writing_ne_of_dropping {v : Sleeve} (h : v.dropping = true) : writing v ≠ {} :=
  fun hd => Bool.noConfusion (h.symm.trans (congrArg Sleeve.dropping hd :))

theorem writing_ne_of_wcount {v : Sleeve} (h : 0 < v.wcount) : writing v ≠ {} :=
  fun hd => Nat.ne_of_gt h (congrArg Sleeve.wcount hd)

theorem ne_default_of_writing {v : Sleeve} (h : writing v ≠ {}) : v ≠ {} := fun hv => h (congrArg writing hv)

theorem writing_mSleeve {i : Nat} {f : Sleeve → Sleeve} {s : State} (hf : ∀ v, writing (f v) = writing v)
    (h : writing (sleeve s i) ≠ {}) : writing (sleeve (mSleeve i f s) i) = writing (sleeve s i) := by
  have hne : f (sleeve s i) ≠ {} := ne_default_of_writing ((hf _).symm ▸ h)
  rw [sleeve_mSleeve_self hne, hf]

/-! ## A writer that resumes -/

/-- Whether the marker lists of a writer and of its companion have room for it to resume. -/
def resumeRoom (s : State) (i : Nat) : Bool := (pair s i).all (fun j => decide ((sleeve s j).markers.length ≤ 63))

/-- A sleeve whose writer is told to resume, as there is room or not. -/
def resumed (room : Bool) (v : Sleeve) : Sleeve :=
  if !v.stopped then v
  else if room then { v with stopped := false, resumeHeld := false, awaitBlock := true }
  else { v with resumeHeld := true }

theorem resumeWriter_eq (i : Nat) (s : State) :
    resumeWriter i s = (pair s i).foldl (fun t j => mSleeve j (resumed (resumeRoom s i)) t) s := rfl

theorem resumed_of_running {v : Sleeve} (room : Bool) (h : v.stopped = false) : resumed room v = v := by
  simp [resumed, h]

theorem resumed_of_room {v : Sleeve} (h : v.stopped = true) :
    resumed true v = { v with stopped := false, resumeHeld := false, awaitBlock := true } := by
  simp [resumed, h]

theorem resumed_of_no_room {v : Sleeve} (h : v.stopped = true) : resumed false v = { v with resumeHeld := true } := by
  simp [resumed, h]

@[simp] theorem resumed_wcount (room : Bool) (v : Sleeve) : (resumed room v).wcount = v.wcount := by
  unfold resumed
  split
  · rfl
  · split <;> rfl

@[simp] theorem resumed_resumed (room : Bool) (v : Sleeve) : resumed room (resumed room v) = resumed room v := by
  cases hs : v.stopped
  case false => simp [resumed_of_running room hs]
  case true =>
    cases room
    · rw [resumed_of_no_room hs]
      exact resumed_of_no_room hs
    · rw [resumed_of_room hs, resumed_of_running true rfl]

theorem resumed_ne_default {v : Sleeve} (room : Bool) (h : v ≠ {}) : resumed room v ≠ {} := by
  cases hs : v.stopped
  case false => rwa [resumed_of_running room hs]
  case true =>
    cases room
    · rw [resumed_of_no_room hs]
      exact fun hd => Bool.noConfusion (congrArg Sleeve.resumeHeld hd)
    · rw [resumed_of_room hs]
      exact fun hd => Bool.noConfusion (congrArg Sleeve.awaitBlock hd)

/-- A sleeve named more than once resumes once. -/
theorem sleeve_foldl_resumed (room : Bool) (l : List Nat) {j : Nat} {s : State} (h : sleeve s j ≠ {}) :
    sleeve (l.foldl (fun t k => mSleeve k (resumed room) t) s) j =
      if j ∈ l then resumed room (sleeve s j) else sleeve s j := by
  induction l generalizing s with
  | nil => simp
  | cons k r ih =>
    rw [List.foldl_cons]
    by_cases hjk : j = k
    · subst hjk
      have hne := resumed_ne_default room h
      have hself : sleeve (mSleeve j (resumed room) s) j = resumed room (sleeve s j) := sleeve_mSleeve_self hne
      rw [ih (hself ▸ hne), hself, resumed_resumed]
      simp
    · have hother := sleeve_mSleeve_other hjk (resumed room) s
      rw [ih (hother ▸ h), hother]
      simp [hjk]

theorem sleeve_resumeWriter {i j : Nat} {s : State} (h : sleeve s j ≠ {}) :
    sleeve (resumeWriter i s) j =
      if j ∈ pair s i then resumed (resumeRoom s i) (sleeve s j) else sleeve s j :=
  sleeve_foldl_resumed (resumeRoom s i) (pair s i) h

/-- The writer itself is the first to resume. -/
theorem sleeve_resumeWriter_self {i : Nat} {s : State} (h : sleeve s i ≠ {}) :
    sleeve (resumeWriter i s) i = resumed (resumeRoom s i) (sleeve s i) :=
  (sleeve_resumeWriter h).trans (if_pos List.mem_cons_self)

@[simp] theorem resumeWriter_snap (i : Nat) (s : State) : (resumeWriter i s).snap = s.snap := by
  rw [resumeWriter_eq]
  exact foldl_leaves (p := State.snap) (f := fun t j => mSleeve j (resumed (resumeRoom s i)) t) (fun _ _ => rfl) _ s

/-! ## Markers that every reader has passed -/

theorem writing_tidyLoop {i : Nat} (k : Nat) {s : State} (h : writing (sleeve s i) ≠ {}) :
    writing (sleeve (tidyLoop i k s) i) = writing (sleeve s i) := by
  induction k generalizing s with
  | zero => rfl
  | succ k ih =>
    unfold tidyLoop
    split
    · rfl
    · next m rest _ =>
      split
      · have hstep := writing_mSleeve (i := i) (s := s)
          (f := fun v => { v with markers := rest, markersGone := v.markersGone + 1 }) (fun _ => rfl) h
        exact (ih (hstep ▸ h)).trans hstep
      · rfl

@[simp] theorem tidyLoop_snap (i k : Nat) (s : State) : (tidyLoop i k s).snap = s.snap := by
  induction k generalizing s with
  | zero => rfl
  | succ k ih =>
    unfold tidyLoop
    split
    · rfl
    · split
      · exact ih _
      · rfl

@[simp] theorem tidyMarkers_snap (i : Nat) (s : State) : (tidyMarkers i s).snap = s.snap := by
  simp only [tidyMarkers]
  split <;> simp

@[simp] theorem tidyMarkers_store (i : Nat) (s : State) : (tidyMarkers i s).store = s.store :=
  (congrArg State.store (outsideDrives_tidyMarkers i s) :)

/-- A writer that is not stopped, or that no arm waits for, goes on as it was. -/
theorem writing_tidyMarkers {i : Nat} {s : State} (h : writing (sleeve s i) ≠ {})
    (hstays : (sleeve s i).stopped = false ∨ (sleeve s i).resumeHeld = false) :
    writing (sleeve (tidyMarkers i s) i) = writing (sleeve s i) := by
  have hloop := writing_tidyLoop 64 h
  simp only [tidyMarkers]
  split
  case isFalse => exact hloop
  case isTrue hheld =>
    have hrunning : (sleeve (tidyLoop i 64 s) i).stopped = false := by
      have hstopped : (sleeve (tidyLoop i 64 s) i).stopped = (sleeve s i).stopped := (congrArg Sleeve.stopped hloop :)
      have harm : (sleeve (tidyLoop i 64 s) i).resumeHeld = (sleeve s i).resumeHeld :=
        (congrArg Sleeve.resumeHeld hloop :)
      rw [hstopped]
      exact hstays.resolve_right (by simp [← harm, hheld])
    rw [sleeve_resumeWriter_self (ne_default_of_writing (hloop ▸ h)), resumed_of_running _ hrunning, hloop]

theorem tidyMarkers_wcount {i : Nat} {s : State} (h : writing (sleeve s i) ≠ {}) :
    (sleeve (tidyMarkers i s) i).wcount = (sleeve s i).wcount := by
  have hloop := writing_tidyLoop 64 h
  have hcount : (sleeve (tidyLoop i 64 s) i).wcount = (sleeve s i).wcount := (congrArg Sleeve.wcount hloop :)
  simp only [tidyMarkers]
  split
  · rw [sleeve_resumeWriter_self (ne_default_of_writing (hloop ▸ h)), resumed_wcount, hcount]
  · exact hcount

/-! ## A block that is dropped, and one that stops the writer -/

theorem sleeve_dropBlock (i time : Nat) (s : State) : sleeve (dropBlock i time s) i =
    { sleeve s i with
      dropping := true, storing := false, dropBlocks := (sleeve s i).dropBlocks + 1
      dropTime := if (sleeve s i).dropping then (sleeve s i).dropTime else time } :=
  (sleeve_bump 8 (0x10 * i) i _).trans
    (sleeve_mSleeve_self fun hd => Bool.noConfusion (congrArg Sleeve.dropping hd))

theorem dropBlock_snap (i time : Nat) (s : State) : (dropBlock i time s).snap = (bump 8 (0x10 * i) s).snap := rfl

@[simp] theorem dropBlock_store (i time : Nat) (s : State) : (dropBlock i time s).store = s.store := bump_store _ _ _

@[simp] theorem dropBlock_frames (i time : Nat) (s : State) : (dropBlock i time s).frames = s.frames := bump_frames _ _ _

theorem sleeve_stopWriter (i time : Nat) (s : State) : sleeve (stopWriter i time s) i =
    { sleeve s i with
      stopped := true, storing := false
      markers := (sleeve s i).markers ++
        [{ overflow := true, blocks := 0, time := time, position := (sleeve s i).wcount }] } := by
  have hplaced : sleeve (placeMarker i true 0 time s) i = { sleeve s i with
      markers := (sleeve s i).markers ++
        [{ overflow := true, blocks := 0, time := time, position := (sleeve s i).wcount }] } :=
    sleeve_mSleeve_self fun hd =>
      List.append_ne_nil_of_right_ne_nil _ (List.cons_ne_nil _ _) (congrArg Sleeve.markers hd)
  have hstopped := sleeve_mSleeve_self (i := i) (s := placeMarker i true 0 time s)
    (f := fun v => { v with stopped := true, storing := false })
    fun hd => Bool.noConfusion (congrArg Sleeve.stopped hd)
  rw [hplaced] at hstopped
  exact hstopped

@[simp] theorem stopWriter_snap (i time : Nat) (s : State) : (stopWriter i time s).snap = s.snap := rfl

@[simp] theorem stopWriter_store (i time : Nat) (s : State) : (stopWriter i time s).store = s.store := rfl

@[simp] theorem stopWriter_frames (i time : Nat) (s : State) : (stopWriter i time s).frames = s.frames := rfl

end Sys2Proof.Machine
end

section
/-! PROOF. The bytes that a sleeve's writer appends, by blocks (07 R174, R175). -/

namespace Sys2Proof.Machine

/-! ## Bytes within a pass -/

/-- A reader is left where it is, or its place and notices change, with a pulse and perhaps a count (R178). -/
theorem lapReader_cases (i j : Nat) (s : State) : lapReader i s j = s ∨ ∃ off k f, lapReader i s j =
    pulse 8 1 8 (mSleeve i (fun v => { v with readers := upd {} j f v.readers }) (bumpBy 19 off k s)) := by
  simp only [lapReader]
  split
  case isFalse => exact .inl rfl
  case isTrue =>
    refine .inr ?_
    by_cases hdma : ((sleeveDecl s i).readers.getD j {}).unit = 0x11
    · simp only [if_pos hdma]
      exact ⟨_, _, _, rfl⟩
    · simp only [if_neg hdma]
      exact ⟨0, 0, _, rfl⟩

@[simp] theorem outsideDrives_lapReader (i : Nat) (s : State) (j : Nat) :
    outsideDrives (lapReader i s j) = outsideDrives s := by
  rcases lapReader_cases i j s with h | ⟨off, k, f, h⟩
  · rw [h]
  · rw [h]
    exact outsideDrives_bumpBy 19 off k s

/-- A reader that is overtaken changes nothing that the writer goes by. -/
theorem writing_lapReader {i : Nat} (j : Nat) {s : State} (h : writing (sleeve s i) ≠ {}) :
    writing (sleeve (lapReader i s j) i) = writing (sleeve s i) := by
  rcases lapReader_cases i j s with hlap | ⟨off, k, f, hlap⟩
  · rw [hlap]
  · rw [hlap, sleeve_pulse, writing_mSleeve, sleeve_bumpBy]
    · exact fun _ => rfl
    · rwa [sleeve_bumpBy]

theorem writing_lapReaders {i : Nat} (l : List Nat) {s : State} (h : writing (sleeve s i) ≠ {}) :
    writing (sleeve (l.foldl (lapReader i) s) i) = writing (sleeve s i) :=
  List.foldlRecOn l (lapReader i) (motive := fun t => writing (sleeve t i) = writing (sleeve s i)) rfl
    fun _ ht j _ => (writing_lapReader j (ht ▸ h)).trans ht

/-- The state with bytes stored at the write count, before any reader is looked at. -/
def placed (i : Nat) (data : List Byte) (s : State) : State :=
  let v := sleeve s i
  mSleeve i (fun v => { v with
      wcount := v.wcount + data.length, hwm := max v.hwm (v.wcount - v.passStart + data.length) })
    { s with store := { s.store with
        mem := putBytes ((sleeveDecl s i).base + (v.wcount - v.passStart)) data s.store.mem } }

/-- Bytes stored at the write count, with the readers that they overtake moved on, before any wrap. -/
def overtaken (i : Nat) (data : List Byte) (s : State) : State :=
  (openReaders (placed i data s) i).foldl (lapReader i) (placed i data s)

theorem sleeveDecl_congr {s t : State} (h : t.image = s.image) (i : Nat) : sleeveDecl t i = sleeveDecl s i := by
  simp only [sleeveDecl, img, h]

theorem lenBytes_congr {i : Nat} {s t : State} (himage : t.image = s.image)
    (hforce : (sleeve t i).inForce = (sleeve s i).inForce) : lenBytes t i = lenBytes s i := by
  rw [lenBytes, lenBytes, hforce, sleeveDecl_congr himage]

theorem overtaken_store (i : Nat) (data : List Byte) (s : State) :
    (overtaken i data s).store = (placed i data s).store :=
  (congrArg State.store (outsideDrives_foldl (outsideDrives_lapReader i) _ (placed i data s)) :)

theorem overtaken_image (i : Nat) (data : List Byte) (s : State) : (overtaken i data s).image = s.image :=
  (congrArg State.image (outsideDrives_foldl (outsideDrives_lapReader i) _ (placed i data s)) :)

/-- What a sleeve's writer has done when it has stored bytes that end within its pass: they stand from its offset on, its
write count is past them, and it goes on. -/
structure Stored (i : Nat) (data : List Byte) (s t : State) : Prop where
  mem : t.store.mem =
    putBytes ((sleeveDecl s i).base + ((sleeve s i).wcount - (sleeve s i).passStart)) data s.store.mem
  wcount : (sleeve t i).wcount = (sleeve s i).wcount + data.length
  stopped : (sleeve t i).stopped = (sleeve s i).stopped

section
variable {i : Nat} {data : List Byte} {s : State} (hdata : 0 < data.length)
include hdata

theorem writing_overtaken : writing (sleeve (overtaken i data s) i) = writing { sleeve s i with
      wcount := (sleeve s i).wcount + data.length
      hwm := max (sleeve s i).hwm ((sleeve s i).wcount - (sleeve s i).passStart + data.length) } := by
  have hpast : 0 < (sleeve s i).wcount + data.length := Nat.add_pos_right _ hdata
  have hplaced : sleeve (placed i data s) i = { sleeve s i with
      wcount := (sleeve s i).wcount + data.length
      hwm := max (sleeve s i).hwm ((sleeve s i).wcount - (sleeve s i).passStart + data.length) } :=
    sleeve_mSleeve_self fun hd => Nat.ne_of_gt hpast (congrArg Sleeve.wcount hd)
  rw [overtaken, writing_lapReaders _ (writing_ne_of_wcount (hplaced ▸ hpast)), hplaced]

theorem overtaken_stored : Stored i data s (overtaken i data s) where
  mem := by rw [overtaken_store]; rfl
  wcount := (congrArg Sleeve.wcount (writing_overtaken hdata) :)
  stopped := (congrArg Sleeve.stopped (writing_overtaken hdata) :)

variable (hroom : (sleeve s i).wcount - (sleeve s i).passStart + data.length < lenBytes s i)
include hroom

/-- Bytes that end within the pass are stored in one chunk, with no wrap. -/
theorem storeChunk_within : storeChunk i data s = overtaken i data s := by
  have hlen : lenBytes (overtaken i data s) i = lenBytes s i :=
    lenBytes_congr (overtaken_image i data s) (congrArg Sleeve.inForce (writing_overtaken hdata) :)
  refine if_neg fun hwraps => ?_
  simp only [Bool.and_eq_true, decide_eq_true_eq] at hwraps
  obtain ⟨hpast, -⟩ := hwraps
  exact Nat.not_le_of_lt hroom (hlen ▸ hpast)

theorem storeBytes_within (k : Nat) : storeBytes i (k + 1) data s = overtaken i data s := by
  have hall : data.length ≤ lenBytes s i - ((sleeve s i).wcount - (sleeve s i).passStart) := by omega
  have hempty (t : State) : storeBytes i k [] t = t := by cases k <;> rfl
  rw [storeBytes]
  simp only [List.drop_of_length_le hall, List.take_of_length_le hall, hempty, storeChunk_within hdata hroom]
  rw [if_neg (by simpa using List.ne_nil_of_length_pos hdata), if_neg (by omega)]

theorem storeAll_stored : Stored i data s (storeAll i data s) := by
  obtain ⟨hmem, hcount, hstopped⟩ := overtaken_stored hdata (i := i) (s := s)
  simp only [storeAll, storeBytes_within hdata hroom]
  split
  · have hdated : sleeve (mSleeve i
        (fun v => { v with written := (v.wcount, (overtaken i data s).time.cycle) :: v.written })
        (overtaken i data s)) i = _ :=
      sleeve_mSleeve_self fun hd => List.cons_ne_nil _ _ (congrArg Sleeve.written hd)
    exact ⟨hmem, by rw [hdated, ← hcount], by rw [hdated, ← hstopped]⟩
  · exact ⟨hmem, hcount, hstopped⟩

end

/-! ## The dates of results -/

theorem writing_noteResult (i t : Nat) (s : State) : writing (sleeve (noteResult i t s) i) = writing (sleeve s i) := by
  unfold noteResult
  split
  · rw [sleeve_mSleeve_self fun hd => List.cons_ne_nil _ _ (congrArg Sleeve.results hd)]
    rfl
  · rfl

theorem outsideDrives_noteResult (i t : Nat) (s : State) : outsideDrives (noteResult i t s) = outsideDrives s := by
  unfold noteResult
  split <;> rfl

theorem noteResult_image (i t : Nat) (s : State) : (noteResult i t s).image = s.image :=
  (congrArg State.image (outsideDrives_noteResult i t s) :)

/-- A result is dated first and then stored. -/
theorem storeAll_noteResult_stored {i : Nat} {data : List Byte} {s : State} (hdata : 0 < data.length)
    (hroom : (sleeve s i).wcount - (sleeve s i).passStart + data.length < lenBytes s i) (t : Nat) :
    Stored i data s (storeAll i data (noteResult i t s)) := by
  have hwriter := writing_noteResult i t s
  have himage := noteResult_image i t s
  have hcount : (sleeve (noteResult i t s) i).wcount = (sleeve s i).wcount := (congrArg Sleeve.wcount hwriter :)
  have hpass : (sleeve (noteResult i t s) i).passStart = (sleeve s i).passStart := (congrArg Sleeve.passStart hwriter :)
  have hstopped : (sleeve (noteResult i t s) i).stopped = (sleeve s i).stopped := (congrArg Sleeve.stopped hwriter :)
  have hstore : (noteResult i t s).store = s.store := (congrArg State.store (outsideDrives_noteResult i t s) :)
  obtain ⟨hm, hc, hs⟩ := storeAll_stored (s := noteResult i t s) hdata
    (by rwa [hcount, hpass, lenBytes_congr himage (congrArg Sleeve.inForce hwriter :)])
  rw [hcount, hpass, sleeveDecl_congr himage, hstore] at hm
  exact ⟨hm, hc.trans (by rw [hcount]), hs.trans hstopped⟩

/-! ## The decision at the start of a block -/

theorem block_pos (f : SleeveFormat) : 0 < f.block := by cases f <;> decide

section
variable {i : Nat} {data : List Byte} {s : State} {tm : Nat → Nat}

theorem appendLoop_of_stopped (h : (sleeve s i).stopped = true) (k o : Nat) : appendLoop i tm k o data s = s := by
  cases k with
  | zero => rfl
  | succ k => simp [appendLoop, h]

theorem appendLoop_nil (k o : Nat) (s : State) : appendLoop i tm k o [] s = s := by
  cases k <;> simp [appendLoop]

variable (hruns : (sleeve s i).stopped = false) (hskip : (sleeve s i).skip = 0) (hdata : 0 < data.length)
include hruns hskip hdata

/-- Bytes of one block that goes on, or that begins and fits with no dropped run before it. -/
theorem appendLoop_of_fits
    (hblock : data.length ≤ (sleeveDecl s i).format.block - (sleeve s i).wcount % (sleeveDecl s i).format.block)
    (hfits : (sleeve s i).wcount % (sleeveDecl s i).format.block ≠ 0 ∨
      (fits s i (sleeveDecl s i).format.block = true ∧ (sleeve s i).dropping = false)) (k o : Nat) :
    appendLoop i tm (k + 1) o data s = storeAll i data (noteResult i (tm o) s) := by
  have hne : data ≠ [] := List.ne_nil_of_length_pos hdata
  rw [appendLoop]
  simp only [List.drop_of_length_le hblock, List.take_of_length_le hblock, appendLoop_nil]
  rcases hfits with hinside | ⟨hroom, hend⟩
  · simp [hne, hruns, hskip, hinside]
  · simp [hne, hruns, hskip, hroom, endDrop, hend]

omit hskip in
/-- The bytes that end within a dropped block are passed over. -/
theorem appendLoop_of_skip (hdropped : data.length ≤ (sleeve s i).skip) (k o : Nat) :
    appendLoop i tm (k + 1) o data s = mSleeve i (fun v => { v with skip := v.skip - data.length }) s := by
  have hne : data ≠ [] := List.ne_nil_of_length_pos hdata
  have hpos : 0 < (sleeve s i).skip := Nat.lt_of_lt_of_le hdata hdropped
  rw [appendLoop]
  simp only [List.drop_of_length_le hdropped, appendLoop_nil]
  simp [hne, hruns, hpos]

variable (hstart : (sleeve s i).wcount % (sleeveDecl s i).format.block = 0)
  (hfull : fits s i (sleeveDecl s i).format.block = false)
include hstart hfull

/-- A block that does not fit is dropped from a CONTINUOUS sleeve. -/
theorem appendLoop_of_drop (hkind : (sleeveDecl s i).kind = .continuous) (k o : Nat) :
    appendLoop i tm (k + 1) o data s = appendLoop i tm k o data
      (mSleeve i (fun v => { v with skip := (sleeveDecl s i).format.block }) (dropBlock i (tm o) s)) := by
  have hne : data ≠ [] := List.ne_nil_of_length_pos hdata
  simp [appendLoop, hne, hruns, hskip, hstart, hfull, hkind]

/-- A block that does not fit stops the writer of a CAPTURE or STREAM sleeve. -/
theorem appendLoop_of_stop (hkind : (sleeveDecl s i).kind ≠ .continuous) (k o : Nat) :
    appendLoop i tm (k + 1) o data s = stopWriter i (tm o) s := by
  have hne : data ≠ [] := List.ne_nil_of_length_pos hdata
  simp [appendLoop, hne, hruns, hskip, hstart, hfull, hkind]

end

/-! ## Bytes appended -/

section
variable {i : Nat} {data : List Byte} {s : State}

/-- A stopped writer stores nothing; an arm that waits may let it resume for the bytes that follow. -/
theorem appendBytes_of_stopped (h : (sleeve s i).stopped = true) (time : Nat) :
    (appendBytes i time data s).store.mem = s.store.mem ∧
      (sleeve (appendBytes i time data s) i).wcount = (sleeve s i).wcount := by
  rw [appendBytes, appendTimed, appendLoop_of_stopped h, tidyMarkers_store]
  exact ⟨rfl, tidyMarkers_wcount (writing_ne_of_stopped h)⟩

variable (hruns : (sleeve s i).stopped = false) (hskip : (sleeve s i).skip = 0) (hdata : 0 < data.length)
include hruns hskip hdata

theorem appendBytes_of_fits
    (hblock : data.length ≤ (sleeveDecl s i).format.block - (sleeve s i).wcount % (sleeveDecl s i).format.block)
    (hfits : (sleeve s i).wcount % (sleeveDecl s i).format.block ≠ 0 ∨
      (fits s i (sleeveDecl s i).format.block = true ∧ (sleeve s i).dropping = false))
    (hroom : (sleeve s i).wcount - (sleeve s i).passStart + data.length < lenBytes s i) (time : Nat) :
    Stored i data s (appendBytes i time data s) := by
  obtain ⟨hmem, hcount, hstopped⟩ := storeAll_noteResult_stored hdata hroom time
  rw [appendBytes, appendTimed, appendLoop_of_fits hruns hskip hdata hblock hfits]
  have hbusy : writing (sleeve (storeAll i data (noteResult i time s)) i) ≠ {} :=
    writing_ne_of_wcount (by rw [hcount]; exact Nat.add_pos_right _ hdata)
  have htidy := writing_tidyMarkers hbusy (.inl (hstopped.trans hruns))
  exact ⟨(congrArg Store.mem (tidyMarkers_store i _)).trans hmem, (congrArg Sleeve.wcount htidy :).trans hcount,
    (congrArg Sleeve.stopped htidy :).trans hstopped⟩

variable (hstart : (sleeve s i).wcount % (sleeveDecl s i).format.block = 0)
  (hfull : fits s i (sleeveDecl s i).format.block = false)
include hstart hfull

theorem appendBytes_of_drop (hblock : data.length ≤ (sleeveDecl s i).format.block)
    (hkind : (sleeveDecl s i).kind = .continuous) (time : Nat) :
    let u := appendBytes i time data s
    u.store.mem = s.store.mem ∧ (sleeve u i).wcount = (sleeve s i).wcount ∧ (sleeve u i).dropping = true ∧
      (sleeve u i).dropBlocks = (sleeve s i).dropBlocks + 1 ∧ u.snap = (bump 8 (0x10 * i) s).snap := by
  have hdropped := sleeve_dropBlock i time s
  have hpassing : sleeve (mSleeve i (fun v => { v with skip := (sleeveDecl s i).format.block }) (dropBlock i time s)) i =
      { sleeve (dropBlock i time s) i with skip := (sleeveDecl s i).format.block } :=
    sleeve_mSleeve_self fun hd => Nat.ne_of_gt (block_pos _) (congrArg Sleeve.skip hd)
  rw [hdropped] at hpassing
  have hpassed := sleeve_mSleeve_self (i := i)
    (s := mSleeve i (fun v => { v with skip := (sleeveDecl s i).format.block }) (dropBlock i time s))
    (f := fun v => { v with skip := v.skip - data.length })
    (by rw [hpassing]; exact fun hd => Bool.noConfusion (congrArg Sleeve.dropping hd))
  rw [hpassing] at hpassed
  dsimp only
  rw [appendBytes, appendTimed, appendLoop_of_drop hruns hskip hdata hstart hfull hkind,
    appendLoop_of_skip (by rw [hpassing]; exact hruns) hdata (by rw [hpassing]; exact hblock)]
  have htidy := writing_tidyMarkers (writing_ne_of_dropping (by rw [hpassed])) (.inl (by rw [hpassed]; exact hruns))
  rw [hpassed] at htidy
  refine ⟨?_, (congrArg Sleeve.wcount htidy :), (congrArg Sleeve.dropping htidy :),
    (congrArg Sleeve.dropBlocks htidy :), ?_⟩
  · rw [tidyMarkers_store]
    exact congrArg Store.mem (dropBlock_store i time s)
  · rw [tidyMarkers_snap]
    exact dropBlock_snap i time s

theorem appendBytes_of_stop (hkind : (sleeveDecl s i).kind ≠ .continuous) (harm : (sleeve s i).resumeHeld = false)
    (time : Nat) :
    let u := appendBytes i time data s
    u.store.mem = s.store.mem ∧ (sleeve u i).wcount = (sleeve s i).wcount ∧ (sleeve u i).stopped = true := by
  have hstopped := sleeve_stopWriter i time s
  dsimp only
  rw [appendBytes, appendTimed, appendLoop_of_stop hruns hskip hdata hstart hfull hkind, tidyMarkers_store,
    stopWriter_store]
  have htidy := writing_tidyMarkers (writing_ne_of_stopped (by rw [hstopped])) (.inr (by rw [hstopped]; exact harm))
  rw [hstopped] at htidy
  exact ⟨rfl, (congrArg Sleeve.wcount htidy :), (congrArg Sleeve.stopped htidy :)⟩

end

end Sys2Proof.Machine
end

section
/-! PROOF. The records of a frame stream at its sleeve, and the statement (07 R172 to R176, 10 R250, R261). -/

namespace Sys2Proof.Machine

/-! ## The stamper's decision -/

theorem frameStream_mFrame_self {k : Nat} {f : FrameStream → FrameStream} {s : State}
    (hf : f (frameStream s k) ≠ {}) :
    frameStream (mFrame k f s) k = f (frameStream s k) :=
  (look_put_of_ne_default hf k k s.frames).trans (if_pos rfl)

@[simp] theorem sleeve_mFrame (k i : Nat) (f : FrameStream → FrameStream) (s : State) :
    sleeve (mFrame k f s) i = sleeve s i := rfl

theorem dst_of_frameStreamOf {s : State} {i k : Nat} (h : frameStreamOf s i = some k) : (frameDecl s k).dst = i := by
  have hfound := List.find?_some h
  simp only [Bool.and_eq_true, beq_iff_eq] at hfound
  obtain ⟨-, hdst⟩ := hfound
  exact hdst

section
variable {s : State} {k : Nat}

/-- A record that is not stored: the next one stored tells of it, and the stream of a CONTINUOUS sleeve counts it. -/
def recordLost (k i : Nat) (s : State) : State :=
  let s := mFrame k (fun f => { f with fate := some false, before := true }) s
  if (sleeveDecl s i).kind == .continuous then pulse0 10 0 (bump 10 (0x40 * k + 0x10) s) else s

theorem frameStream_recordLost (k i : Nat) (s : State) :
    frameStream (recordLost k i s) k = { frameStream s k with fate := some false, before := true } := by
  have hlost : frameStream (mFrame k (fun f => { f with fate := some false, before := true }) s) k =
      { frameStream s k with fate := some false, before := true } :=
    frameStream_mFrame_self fun hd => Option.some_ne_none _ (congrArg FrameStream.fate hd)
  simp only [recordLost]
  split <;> exact hlost

@[simp] theorem recordLost_store (k i : Nat) (s : State) : (recordLost k i s).store = s.store := by
  simp only [recordLost]
  split <;> simp

@[simp] theorem recordLost_sleeves (k i : Nat) (s : State) : (recordLost k i s).sleeves = s.sleeves := by
  simp only [recordLost]
  split <;> simp

theorem recordLost_snap_of_continuous {i : Nat} (h : (sleeveDecl s i).kind = .continuous) :
    (recordLost k i s).snap = (bump 10 (0x40 * k + 0x10) s).snap :=
  (congrArg State.snap (if_pos (beq_iff_eq.mpr h)) :)

theorem recordLost_snap_of_not_continuous {i : Nat} (h : (sleeveDecl s i).kind ≠ .continuous) :
    (recordLost k i s).snap = s.snap :=
  (congrArg State.snap (if_neg (mt beq_iff_eq.mp h)) :)

theorem refuseRecord_of_continuous {i : Nat} (h : (sleeveDecl s i).kind = .continuous) (time : Nat) :
    refuseRecord i time s = dropBlock i time s :=
  if_pos (beq_iff_eq.mpr h)

theorem refuseRecord_of_not_continuous {i : Nat} (h : (sleeveDecl s i).kind ≠ .continuous) (time : Nat) :
    refuseRecord i time s = stopWriter i time s :=
  if_neg (mt beq_iff_eq.mp h)

theorem decideFrame_of_fits {i : Nat} (hdst : (frameDecl s k).dst = i) (hruns : (sleeve s i).stopped = false)
    (hfits : fits s i (frameDecl s k).recordBytes = true) :
    decideFrame k s = mFrame k (fun f => { f with fate := some true }) s :=
  if_pos (by rw [hdst, hruns, hfits]; rfl)

theorem decideFrame_of_stopped {i : Nat} (hdst : (frameDecl s k).dst = i) (hstopped : (sleeve s i).stopped = true) :
    decideFrame k s = recordLost k i s := by
  simp only [decideFrame, hdst, hstopped]
  rfl

theorem decideFrame_of_full {i : Nat} (hdst : (frameDecl s k).dst = i) (hruns : (sleeve s i).stopped = false)
    (hfull : fits s i (frameDecl s k).recordBytes = false) :
    decideFrame k s = recordLost k i (refuseRecord i (timeAt s (frameDecl s k).src
      ((frameDecl s k).start (frameStream s k).next)) s) := by
  simp only [decideFrame, hdst, hruns, hfull]
  rfl

end

@[simp] theorem sleeve_recordLost (k j i : Nat) (s : State) : sleeve (recordLost k j s) i = sleeve s i :=
  congrArg (look ({} : Sleeve) · i) (recordLost_sleeves k j s)

theorem frameStream_dropBlock (k i time : Nat) (s : State) : frameStream (dropBlock i time s) k = frameStream s k :=
  congrArg (look ({} : FrameStream) · k) (dropBlock_frames i time s)

theorem sleeveDecl_dropBlock (i time : Nat) (s : State) : sleeveDecl (dropBlock i time s) i = sleeveDecl s i :=
  sleeveDecl_congr (bump_image _ _ _) i

/-- At its first byte a record finds its sleeve's writer with room, stopped already, or without room (R250). -/
theorem decideFrame_decides {s : State} {i k : Nat} (hdst : (frameDecl s k).dst = i) :
    let v := sleeve s i
    let d := frameDecl s k
    let t := decideFrame k s
    t.store = s.store ∧ (frameStream t k).fate = some (!v.stopped && fits s i d.recordBytes) ∧
    (v.stopped = false → fits s i d.recordBytes = true → t.sleeves = s.sleeves ∧ t.snap = s.snap) ∧
    (v.stopped = true → t.sleeves = s.sleeves ∧ (frameStream t k).before = true) ∧
    (v.stopped = false → fits s i d.recordBytes = false → (frameStream t k).before = true ∧
      ((sleeveDecl s i).kind = .continuous → (sleeve t i).dropBlocks = v.dropBlocks + 1 ∧ (sleeve t i).stopped = false ∧
        t.snap = (bump 10 (0x40 * k + 0x10) (bump 8 (0x10 * i) s)).snap) ∧
      ((sleeveDecl s i).kind ≠ .continuous → (sleeve t i).stopped = true ∧ t.snap = s.snap)) := by
  dsimp only
  cases hstopped : (sleeve s i).stopped
  case true =>
    rw [decideFrame_of_stopped hdst hstopped, frameStream_recordLost]
    simp
  case false =>
    cases hfits : fits s i (frameDecl s k).recordBytes
    case true =>
      rw [decideFrame_of_fits hdst hstopped hfits,
        frameStream_mFrame_self fun hd => Option.some_ne_none _ (congrArg FrameStream.fate hd)]
      simp
    case false =>
      rw [decideFrame_of_full hdst hstopped hfits, frameStream_recordLost]
      by_cases hkind : (sleeveDecl s i).kind = .continuous
      · rw [refuseRecord_of_continuous hkind,
          recordLost_snap_of_continuous ((congrArg SleeveDecl.kind (sleeveDecl_dropBlock i _ s)).trans hkind)]
        have hcounted (time : Nat) : (bump 10 (0x40 * k + 0x10) (dropBlock i time s)).snap =
            (bump 10 (0x40 * k + 0x10) (bump 8 (0x10 * i) s)).snap := rfl
        simp [sleeve_dropBlock, hkind, hstopped, hcounted]
      · rw [refuseRecord_of_not_continuous hkind,
          recordLost_snap_of_not_continuous (show (sleeveDecl (stopWriter i _ s) i).kind ≠ .continuous from hkind)]
        simp [sleeve_stopWriter, hkind]

/-! ## Bytes of a record that come between records -/

theorem passFrame_between_records {s : State} {k : Nat} {data : List Byte} (hleft : (frameStream s k).left = 0) :
    passFrame k data s =
      if (frameStream s k).buf.isEmpty && decide (0 < data.length) then
        decideFrame k (mFrame k (fun f => { f with buf := f.buf ++ data }) s)
      else mFrame k (fun f => { f with buf := f.buf ++ data }) s := by
  simp only [passFrame, hleft, Nat.zero_min, List.drop_zero, Nat.sub_zero]
  rfl

theorem passFrame_gathers {s : State} {k : Nat} {data : List Byte} (hleft : (frameStream s k).left = 0)
    (h : (frameStream s k).buf ≠ [] ∨ data = []) :
    passFrame k data s = mFrame k (fun f => { f with buf := f.buf ++ data }) s :=
  (passFrame_between_records hleft).trans (if_neg (by simpa [or_iff_not_imp_left] using h))

theorem passFrame_begins {s : State} {k : Nat} {data : List Byte} (hleft : (frameStream s k).left = 0)
    (hbuf : (frameStream s k).buf = []) (hne : data ≠ []) :
    passFrame k data s = decideFrame k (mFrame k (fun f => { f with buf := f.buf ++ data }) s) :=
  (passFrame_between_records hleft).trans (if_pos (by simp [hbuf, List.length_pos_iff.mpr hne]))

/-! ## SLEEVE_BLOCK_WRITE -/

section
variable {s : State} {i : Nat} (hlive : functionLive s = true) (hdecl : i < (img s).sleeves.length) (time : Nat)
  (data : List Byte)

theorem blockWrite_of_idle (h : functionLive s = false ∨ (img s).sleeves.length ≤ i) : blockWrite i time data s = s :=
  if_pos (by simpa using h)

theorem exec_sleeveBlockWrite {t : State} (h : blockWrite i time data (fresh s) = t) :
    exec (.sleeveBlockWrite i time data) s = .next (settle s t) :=
  act_of_effect h

include hlive hdecl

theorem blockWrite_of_frames {k : Nat} (hk : frameStreamOf s i = some k) :
    blockWrite i time data s = afterWrite (passFrame k data s) := by
  simp [blockWrite, hlive, hdecl, hk]

theorem blockWrite_of_channeliser {k : Nat} (hnone : frameStreamOf s i = none) (hk : channeliserOf s i = some k) :
    blockWrite i time data s = afterWrite (channeliserWrite k i data s) := by
  simp [blockWrite, hlive, hdecl, hnone, hk]

theorem blockWrite_of_other (hnone : frameStreamOf s i = none) (hother : channeliserOf s i = none) :
    blockWrite i time data s = afterWrite (appendBytes i time data s) := by
  simp [blockWrite, hlive, hdecl, hnone, hother]

end

/-! ## WRITER_RESUME -/

theorem resumeWriter_alone {s : State} {i : Nat} (hstopped : (sleeve s i).stopped = true)
    (hroom : (sleeve s i).markers.length ≤ 63) (halone : companion s i = []) :
    resumeWriter i s =
      mSleeve i (fun x => { x with stopped := false, resumeHeld := false, awaitBlock := true }) s := by
  have hpair : pair s i = [i] := congrArg (i :: ·) halone
  have hall : resumeRoom s i = true := by simp [resumeRoom, hpair, hroom]
  rw [resumeWriter_eq, hpair, hall]
  exact congrArg (fun v => { s with sleeves := put {} i v s.sleeves }) (resumed_of_room hstopped)

theorem resumeWriter_pair {s : State} {i j : Nat} (hroom : ∀ j ∈ pair s i, (sleeve s j).markers.length ≤ 63)
    (hj : j ∈ pair s i) (hstopped : (sleeve s j).stopped = true) :
    sleeve (resumeWriter i s) j = { sleeve s j with stopped := false, resumeHeld := false, awaitBlock := true } := by
  have hall : resumeRoom s i = true := List.all_eq_true.mpr fun k hk => decide_eq_true (hroom k hk)
  rw [sleeve_resumeWriter (ne_default_of_writing (writing_ne_of_stopped hstopped)), if_pos hj, hall,
    resumed_of_room hstopped]

theorem resumeWriter_no_room {s : State} {i : Nat} (hstopped : (sleeve s i).stopped = true)
    (harm : (sleeve s i).resumeHeld = true) (hfull : 63 < (sleeve s i).markers.length) :
    sleeve (resumeWriter i s) i = sleeve s i := by
  have hnone : resumeRoom s i = false := by simp [resumeRoom, pair, hfull]
  rw [sleeve_resumeWriter_self (ne_default_of_writing (writing_ne_of_stopped hstopped)), hnone,
    resumed_of_no_room hstopped, ← harm]

@[simp] theorem resumeWriter_store (i : Nat) (s : State) : (resumeWriter i s).store = s.store :=
  (congrArg State.store (outsideDrives_resumeWriter i s) :)

theorem exec_writerResume_of_no_arm {s : State} {i : Nat} (h : (sleeve s i).resumeHeld = false) :
    exec (.writerResume i) s = .next (settle s (fresh s)) :=
  act_of_effect (if_neg (ne_true_of_eq_false h))

theorem exec_writerResume_of_arm {s : State} {i : Nat} (h : (sleeve s i).resumeHeld = true) :
    exec (.writerResume i) s = .next (settle s (resumeWriter i (fresh s))) :=
  act_of_effect (if_pos h)

/-- Settles O43: a block fits, is dropped or stops the writer at its start, and a record at its first byte. -/
theorem sleeveWriterStoresDropsOrStops : Obligations.SleeveWriterStoresDropsOrStops := by
  unfold Obligations.SleeveWriterStoresDropsOrStops
  intro s i time data
  refine ⟨fun h => exec_sleeveBlockWrite time data (blockWrite_of_idle (s := fresh s) time data h),
    fun hlive hdecl => ⟨?frames, ?gathers, ?begins, ?decision, ?rows, ?others⟩,
    fun h => appendBytes_of_stopped h time, fun hruns hskip hdata hblock => ⟨?fits, ?drops, ?stops⟩,
    exec_writerResume_of_no_arm, fun harm hstopped => ⟨?alone, ?both, ?full⟩⟩
  case frames =>
    exact fun k hk => exec_sleeveBlockWrite time data (blockWrite_of_frames (s := fresh s) hlive hdecl time data hk)
  case gathers =>
    intro k hk hleft hbuf
    exact exec_sleeveBlockWrite time data ((blockWrite_of_frames (s := fresh s) hlive hdecl time data hk).trans
      (congrArg afterWrite (passFrame_gathers (s := fresh s) hleft hbuf)))
  case begins =>
    intro k hk hleft hbuf hne
    exact exec_sleeveBlockWrite time data ((blockWrite_of_frames (s := fresh s) hlive hdecl time data hk).trans
      (congrArg afterWrite (passFrame_begins (s := fresh s) hleft hbuf hne)))
  case decision => exact fun k hk _ _ => decideFrame_decides (dst_of_frameStreamOf hk)
  case rows =>
    exact fun k hnone hk => exec_sleeveBlockWrite time data
      (blockWrite_of_channeliser (s := fresh s) hlive hdecl time data hnone hk)
  case others =>
    exact fun hnone hother => exec_sleeveBlockWrite time data
      (blockWrite_of_other (s := fresh s) hlive hdecl time data hnone hother)
  case fits =>
    intro hfits hroom
    obtain ⟨hmem, hcount, hgoes⟩ := appendBytes_of_fits hruns hskip hdata hblock hfits hroom time
    exact ⟨hmem, hcount, hgoes.trans hruns⟩
  case drops =>
    exact fun hstart hfull hkind =>
      appendBytes_of_drop hruns hskip hdata hstart hfull (hblock.trans (Nat.sub_le _ _)) hkind time
  case stops => exact fun hstart hfull hkind harm => appendBytes_of_stop hruns hskip hdata hstart hfull hkind harm time
  case alone =>
    intro hroom halone
    rw [exec_writerResume_of_arm harm, resumeWriter_alone (s := fresh s) hstopped hroom halone]
    rfl
  case both =>
    intro hroom
    refine ⟨_, exec_writerResume_of_arm harm, fun j hj hstops => ?_⟩
    have hresumed := resumeWriter_pair (s := fresh s) hroom hj hstops
    exact ⟨(congrArg Sleeve.stopped hresumed :), (congrArg Sleeve.resumeHeld hresumed :),
      (congrArg Sleeve.awaitBlock hresumed :)⟩
  case full =>
    intro hfull
    exact ⟨_, exec_writerResume_of_arm harm, resumeWriter_no_room (s := fresh s) hstopped harm hfull,
      resumeWriter_store i (fresh s)⟩

end Sys2Proof.Machine
end

section
/-! PROOF. An open slot of a programmed engine, and an engine's registers once it has changed (08 R192; 09 R221). -/

namespace Sys2Proof.Machine

/-! ## An open slot -/

section
variable {s : State} {e : Nat} {q : Gate} (hprog : (engine s e).programmed = true)
  (hgate : gateOpen (engine s e) q = true)
include hprog hgate

/-- An open slot of a programmed engine acts on the registers as they stand at issue (R192, R221). -/
theorem slot_of_open (body : Engine → State → State) : slot e q body s = body (engine s e) s :=
  if_pos (Bool.and_eq_true_iff.mpr ⟨hprog, hgate⟩)

theorem act_slot_of_open {body : Engine → State → State} {t : State} (h : body (engine s e) (fresh s) = t) :
    act (slot e q body) s = .next (settle s t) :=
  act_of_effect ((slot_of_open (s := fresh s) hprog hgate body).trans h)

end

/-! ## A changed engine -/

/-- A change of an engine shows in its registers. -/
theorem engine_mEngine {s : State} (hwf : wf {} s.eng.engines = true) (e : Nat) (f : Engine → Engine) :
    engine (mEngine e f s) e = f (engine s e) :=
  (Laws.look_upd hwf).trans (if_pos rfl)

/-- A change to other than an unprogrammed engine at rest shows, whatever form the array's storage has. -/
theorem engine_mEngine_of_ne {s : State} {e : Nat} {f : Engine → Engine} (h : f (engine s e) ≠ {}) :
    engine (mEngine e f s) e = f (engine s e) :=
  (look_put_of_ne_default h e e s.eng.engines).trans (if_pos rfl)

end Sys2Proof.Machine
end

section
/-! PROOF. The vector results of the ALU slot (09 R216, R221, R236 to R238; log 147 to 150). -/

namespace Sys2Proof.Machine

/-! ## The fields that are admitted -/

@[simp] theorem formB_true (f : AluForm) : formB true f = !(f.i && f.xb) := by simp [formB]

@[simp] theorem formB_false (f : AluForm) : formB false f = (!f.i && !f.xb) := by
  cases hi : f.i <;> simp [formB, hi]

/-- A vector operation of the ALU slot acts when its fields are admitted, and is a NOP that sets ILL otherwise (R216). -/
theorem act_aluVecOp_of_open {s : State} {e : Nat} {q : Gate} (hprog : (engine s e).programmed = true)
    (hgate : gateOpen (engine s e) q = true) {f : AluForm} {takesB ok admitted : Bool} {body : Engine → State → State}
    {t : State} (hok : (formB takesB f && ok) = admitted) (h : body (engine s e) (fresh s) = t) :
    act (aluVecOp e q f takesB ok body) s = .next (settle s (if admitted then t else setFlags e 4 (fresh s))) := by
  subst hok h
  exact act_slot_of_open hprog hgate rfl

/-! ## The components -/

theorem add_timesJ (x : Int) (v : BitVec 192) (i : Nat) :
    x + timesJ v i = if i % 2 = 0 then x - vcomp v (i + 1) else x + vcomp v (i - 1) := by
  unfold timesJ
  split
  · exact (Int.sub_eq_add_neg).symm
  · rfl

theorem sub_timesJ (x : Int) (v : BitVec 192) (i : Nat) :
    x - timesJ v i = if i % 2 = 0 then x + vcomp v (i + 1) else x - vcomp v (i - 1) := by
  unfold timesJ
  split
  · exact Int.sub_neg _ _
  · rfl

/-- A component is a 24-bit signed integer (R231). -/
theorem vcomp_bounds (v : BitVec 192) (i : Nat) : -8388608 ≤ vcomp v i ∧ vcomp v i < 8388608 := by
  simp only [vcomp, sgn]
  split <;> omega

theorem satChanges_iff (x : Int) : satChanges x = true ↔ x < -8388608 ∨ 8388607 < x := by
  simp only [satChanges, satc, clampI, bne_iff_ne]
  (repeat' split) <;> omega

/-- A component has fewer redundant signs than `k` where it lies outside 24 − k bits (R238). -/
theorem signCount_lt_iff {x : Int} (hlo : -8388608 ≤ x) (hhi : x < 8388608) {k : Nat} (hk : k ≤ 23) :
    signCount x < k ↔ x < -(2 ^ (23 - k) : Nat) ∨ ((2 ^ (23 - k) : Nat) : Int) ≤ x := by
  have hpos : 0 < 2 ^ (23 - k) := Nat.two_pow_pos _
  generalize hm : (if x < 0 then (-x - 1).toNat else x.toNat) = m
  have hcount : signCount x = if m = 0 then 23 else 22 - m.log2 := by rw [← hm]; rfl
  have hm' : (x < 0 ∧ (m : Int) = -x - 1) ∨ (0 ≤ x ∧ (m : Int) = x) := by split at hm <;> omega
  have hout : (x < -(2 ^ (23 - k) : Nat) ∨ ((2 ^ (23 - k) : Nat) : Int) ≤ x) ↔ 2 ^ (23 - k) ≤ m := by omega
  rw [hcount, hout]
  by_cases hzero : m = 0
  · rw [if_pos hzero]; omega
  · rw [if_neg hzero, ← Nat.le_log2 hzero]
    have hlog : m.log2 < 23 := (Nat.log2_lt hzero).mpr (by omega)
    omega

/-- A shift to the left saturates a component that has fewer redundant signs than the shift's count (R238). -/
theorem satChanges_shift_iff {x : Int} (hlo : -8388608 ≤ x) (hhi : x < 8388608) {k : Nat} (hk : k ≤ 23) :
    satChanges (x * 2 ^ k) = true ↔ signCount x < k := by
  have hpos : (0 : Int) < 2 ^ k := Int.pow_pos (by decide)
  have hscale : ((2 ^ (23 - k) : Nat) : Int) * 2 ^ k = 8388608 := by
    rw [Nat.cast_pow, Nat.cast_ofNat, ← pow_add, Nat.sub_add_cancel hk]; rfl
  calc satChanges (x * 2 ^ k) = true
      ↔ x * 2 ^ k < -(8388608 : Int) ∨ 8388608 ≤ x * 2 ^ k := satChanges_iff _
    _ ↔ x * 2 ^ k < -((2 ^ (23 - k) : Nat) : Int) * 2 ^ k ∨ ((2 ^ (23 - k) : Nat) : Int) * 2 ^ k ≤ x * 2 ^ k := by
        rw [Int.neg_mul, hscale]
    _ ↔ x < -(2 ^ (23 - k) : Nat) ∨ ((2 ^ (23 - k) : Nat) : Int) ≤ x := by
        rw [mul_lt_mul_iff_left₀ hpos, mul_le_mul_iff_left₀ hpos]
    _ ↔ signCount x < k := (signCount_lt_iff hlo hhi hk).symm

/-- Settles O46: each operation's body, behind the check of its fields; NORM saturates by the count of redundant signs. -/
theorem vectorAluResults : Obligations.VectorAluResults := by
  unfold Obligations.VectorAluResults
  intro s e q f hprog hgate g a b out does b2 b0 n
  have hb2 : (formB true f && true) = b2 := (Bool.and_true _).trans (formB_true f)
  have hb0 : (formB false f && true) = b0 := (Bool.and_true _).trans (formB_false f)
  have hwith : ∀ ok, (formB true f && ok) = (b2 && ok) := fun ok => congrArg (· && ok) (formB_true f)
  have hwithout : ∀ ok, (formB false f && ok) = (b0 && ok) := fun ok => congrArg (· && ok) (formB_false f)
  refine ⟨act_aluVecOp_of_open hprog hgate hb2 rfl, act_aluVecOp_of_open hprog hgate hb2 rfl,
    act_aluVecOp_of_open hprog hgate hb2 rfl, act_aluVecOp_of_open hprog hgate hb0 rfl,
    act_aluVecOp_of_open hprog hgate (hwith _) rfl, act_aluVecOp_of_open hprog hgate (hwith _) rfl, ?bfyj,
    act_aluVecOp_of_open hprog hgate (hwithout _) rfl, act_aluVecOp_of_open hprog hgate (hwith _) rfl,
    fun i hh => ?saturates⟩
  case bfyj => exact act_aluVecOp_of_open hprog hgate (hwith _) (by simp only [add_timesJ, sub_timesJ]; rfl)
  case saturates =>
    obtain ⟨hlo, hhi⟩ := vcomp_bounds (readV g f.a) i
    have hfull : halve f (a i * 2 ^ min 23 n) = a i * 2 ^ min 23 n := if_neg (ne_true_of_eq_false hh)
    rw [hfull]
    exact satChanges_shift_iff hlo hhi (Nat.min_le_left 23 n)

end Sys2Proof.Machine
end

section
/-! PROOF. The MAC slot: products, accumulators, their rounding and the conversions (08 R187; 09 R232 to R235; log 12,
148, 150). -/

namespace Sys2Proof.Machine

/-! ## The product -/

/-- Component `i` of the operand B as the product takes it: conjugated with C (R232). -/
def operandB (f : MacForm) (v : BitVec 192) (i : Nat) : Int := if f.conj ∧ i % 2 = 1 then -(vcomp v i) else vcomp v i

/-- Component `i` of the signed complex product of two vectors (R187, R232). -/
def signedProduct (f : MacForm) (a b : BitVec 192) (i : Nat) : Int :=
  (if f.neg then -1 else 1) *
    (if i % 2 = 0 then vcomp a i * operandB f b i - vcomp a (i + 1) * operandB f b (i + 1)
     else vcomp a (i - 1) * operandB f b i + vcomp a i * operandB f b (i - 1))

theorem operandB_even (f : MacForm) (v : BitVec 192) (l : Nat) : operandB f v (2 * l) = vcomp v (2 * l) :=
  if_neg (by omega)

theorem operandB_odd (f : MacForm) (v : BitVec 192) (l : Nat) :
    operandB f v (2 * l + 1) = if f.conj then -(vcomp v (2 * l + 1)) else vcomp v (2 * l + 1) := by
  have hodd : (2 * l + 1) % 2 = 1 := by omega
  simp only [operandB, hodd, and_true]

theorem sign_mul (neg : Bool) (x : Int) : (if neg then -1 else 1) * x = if neg then -x else x := by
  cases neg
  · exact Int.one_mul x
  · exact Int.neg_one_mul x

/-- The model's product by lane and part, with the components counted through. -/
theorem product_eq (f : MacForm) (a b : BitVec 192) (i : Nat) : product f a b (i / 2) (i % 2) = signedProduct f a b i := by
  rw [signedProduct, sign_mul]
  obtain hpart | hpart := Nat.mod_two_eq_zero_or_one i
  · obtain ⟨l, rfl⟩ : ∃ l, i = 2 * l := ⟨i / 2, by omega⟩
    have hlane : 2 * l / 2 = l := by omega
    simp only [product, hpart, hlane, operandB_even, operandB_odd, if_true]
  · obtain ⟨l, rfl⟩ : ∃ l, i = 2 * l + 1 := ⟨i / 2, by omega⟩
    have hlane : (2 * l + 1) / 2 = l := by omega
    simp only [product, hpart, hlane, Nat.add_sub_cancel, operandB_even, operandB_odd, one_ne_zero, if_false]

/-! ## The L16 code -/

theorem l16Search_lt (m : Nat) (e : Int) (k c : Nat) : l16Search m e k c < c + 2 ^ k := by
  induction k generalizing c with
  | zero => exact Nat.lt_succ_self c
  | succ k ih =>
    have hpos : 0 < 2 ^ k := Nat.two_pow_pos k
    rw [Nat.pow_succ]
    simp only [l16Search]
    split
    · have := ih (c + 2 ^ k); omega
    · have := ih c; omega

/-- The exact code has 16 bits (R10). -/
theorem l16Exact_le (m : Nat) (e : Int) : l16Exact m e ≤ 65535 := by
  have hlt : l16Exact m e < 0 + 2 ^ 16 := l16Search_lt m e 16 0
  omega

theorem clampI_bounds {lo hi : Int} (h : lo ≤ hi) (x : Int) : lo ≤ clampI lo hi x ∧ clampI lo hi x ≤ hi := by
  unfold clampI
  (repeat' split) <;> omega

/-- A code moved by at most one and brought back into 16 bits lies within one of where it was (log 12). -/
theorem clamped_step_near {n : Nat} (hn : n ≤ 65535) {d : Int} (hlo : -1 ≤ d) (hhi : d ≤ 1) :
    let c := (clampI 0 65535 (n + d)).toNat
    c ≤ 65535 ∧ c ≤ n + 1 ∧ n ≤ c + 1 := by
  simp only [clampI]
  (repeat' split) <;> omega

theorem l16Code_of_normal {w : Nat} (hneg : f32.negative w = false) (hspecial : f32.special w = false)
    (hexp : fld w 23 8 ≠ 0) : l16Code w = ((clampI 0 65535 ((l16Exact (f32.unpack w).1 (f32.unpack w).2 : Int) +
      clampI (-1) 1 (Config.l16Error w))).toNat, false) :=
  (if_neg (by simp [hneg, hspecial])).trans (if_neg hexp)

theorem l16Code_of_domain {w : Nat} (h : f32.negative w = true ∧ w ≠ 2 ^ 31 ∨ f32.special w = true) :
    l16Code w = (0, true) := by
  have hzero : f32.special (2 ^ 31) = false := by decide
  have hne : w ≠ 2 ^ 31 := by
    rintro rfl
    obtain ⟨-, hne⟩ | hspecial := h
    · exact hne rfl
    · exact absurd (hzero.symm.trans hspecial) Bool.false_ne_true
  have hout : f32.negative w = true ∨ f32.special w = true := h.imp_left And.left
  exact (if_pos hout).trans (by simpa using hne)

theorem l16Code_of_subnormal {w : Nat} (hneg : f32.negative w = false) (hexp : fld w 23 8 = 0) :
    l16Code w = (0, false) := by
  have hspecial : f32.special w = false := congrArg (· == 255) hexp
  exact (if_neg (by simp [hneg, hspecial])).trans (if_pos hexp)

/-- Settles O48: each operation's body with the product by component, and the four ranges of a binary32 pattern. -/
theorem multiplyAccumulate : Obligations.MultiplyAccumulate := by
  unfold Obligations.MultiplyAccumulate
  intro s e q f hprog hgate g a b prod acc out setAc wraps total accumulates
  have hprod : ∀ i, product f (readV g f.va) (readV g f.vb) (i / 2) (i % 2) = prod i := product_eq f _ _
  have hsum : ∀ base, accumulate e f base g (fresh s) = if wraps (total base) then
      sendResult e 5 3 .flags 0 2 (setAc (total base) (fresh s)) else setAc (total base) (fresh s) := by
    intro base
    simp only [accumulate, hprod]
    rfl
  refine ⟨?cmul, ?cmla, ?cmac, ?acrd, ?acrc, fun hx => ?power, fun hx => ?illegal, ?log,
    fun w hneg hspecial hexp => ?near, fun w hout => l16Code_of_domain hout,
    fun w hneg hexp => l16Code_of_subnormal hneg hexp⟩
  case cmul => exact act_slot_of_open hprog hgate (by simp only [macResult, g, hprod]; rfl)
  case cmla => exact act_slot_of_open hprog hgate (hsum _)
  case cmac => exact act_slot_of_open hprog hgate (hsum _)
  case acrd => exact act_slot_of_open hprog hgate rfl
  case acrc => exact act_slot_of_open hprog hgate rfl
  case power => exact act_slot_of_open hprog hgate (if_pos hx)
  case illegal => exact act_slot_of_open hprog hgate (if_neg (Nat.not_lt.mpr hx))
  case log => exact act_slot_of_open hprog hgate rfl
  case near =>
    obtain ⟨hlo, hhi⟩ := clampI_bounds (lo := -1) (hi := 1) (by decide) (Config.l16Error w)
    obtain ⟨hrange, habove, hbelow⟩ := clamped_step_near (l16Exact_le (f32.unpack w).1 (f32.unpack w).2) hlo hhi
    rw [l16Code_of_normal hneg hspecial hexp]
    exact ⟨hrange, habove, hbelow, rfl⟩

end Sys2Proof.Machine
end

section
/-! PROOF. The LS slots and the streams of an engine (08 R190, R200 to R202; 09 R222, R230, R231, R239, R240; log 129,
150). -/

namespace Sys2Proof.Machine

/-! ## Local memory -/

theorem length_leBytes (n v : Nat) : (leBytes n v).length = n := by
  induction n generalizing v with
  | zero => rfl
  | succ n ih => exact congrArg (· + 1) (ih (v / 256))

/-- Whether an access reaches into the code depends on the code's length alone (R190). -/
theorem inCode_congr {g h : Engine} (hcode : g.codeBytes = h.codeBytes) (a n : Nat) : inCode g a n = inCode h a n := by
  simp only [inCode, hcode]

theorem flushStores_of_none_due {g : Engine} {u : Nat} (h : ∀ x ∈ g.stores, u < x.cycle) :
    (flushStores u g).mem = g.mem := by
  have hnone : g.stores.filter (fun x => decide (x.cycle ≤ u)) = [] :=
    List.filter_eq_nil_iff.mpr (fun x hx => by simpa using h x hx)
  simp only [flushStores, hnone, List.foldl_nil]

/-- A load sees no store issued less than two cycles before it (R222). -/
theorem loadLocal_of_recent_stores {g : Engine} {u : Nat} (h : ∀ x ∈ g.stores, u < x.cycle + 2) (a n : Nat) :
    loadLocal g u a n = getLocal g.mem a n := by
  unfold loadLocal
  split
  · rfl
  · rw [flushStores_of_none_due (fun x hx => by have := h x hx; omega)]

/-- A store counted for BEXP leaves the code's length (R239): the engine then has a tracked store. -/
theorem codeBytes_trackStore (e n : Nat) (s : State) :
    (engine (trackStore e n s) e).codeBytes = (engine s e).codeBytes := by
  unfold trackStore
  rw [engine_mEngine_of_ne]
  exact fun h => List.append_ne_nil_of_right_ne_nil _ (List.cons_ne_nil _ _) (congrArg Engine.tracked h)

/-! ## The slots -/

section
variable {s : State} {e : Nat} {q : Gate} (hprog : (engine s e).programmed = true)
  (hgate : gateOpen (engine s e) q = true)
include hprog hgate

/-- A form whose F field must be zero is a NOP that sets ILL with it, and so is one whose register does not exist
(R230). -/
theorem act_plainLs_of_open {f : LsForm} {body : Engine → State → State} {t : State} {ok : Bool}
    (h : body (engine s e) (fresh s) = if ok then t else setFlags e 4 (fresh s)) :
    act (slot e q (plainLs e f body)) s = .next (settle s (if !f.f && ok then t else setFlags e 4 (fresh s))) := by
  refine act_slot_of_open hprog hgate ?_
  cases hf : f.f with
  | true => exact if_pos hf
  | false => exact (if_neg (ne_true_of_eq_false hf)).trans h

theorem act_plainLs {f : LsForm} {body : Engine → State → State} {t : State} (h : body (engine s e) (fresh s) = t) :
    act (slot e q (plainLs e f body)) s = .next (settle s (if !f.f then t else setFlags e 4 (fresh s))) := by
  simpa only [Bool.and_true] using act_plainLs_of_open hprog hgate (f := f) (ok := true) (h.trans (if_pos rfl).symm)

end

/-- The engine with a store issued in cycle `u` in flight, and those of cycle u − 2 and before in its memory (R222). -/
def withStore (u rank a n v : Nat) (g : Engine) : Engine :=
  let x := if u < 2 then g else flushStores (u - 2) g
  { x with stores := insertStore { cycle := u, rank := rank, addr := a, bytes := leBytes n v } x.stores }

/-- A store of a value, refused where it would reach into the code (R190, R231). -/
theorem storeValue_eq {g : Engine} {t : State} {e : Nat} (hcode : (engine t e).codeBytes = g.codeBytes) (f : LsForm)
    (align n v : Nat) : storeValue e f align n v g t = lsUpdate e f g
      (if inCode g (lsAddr g f align) n then pulse0 9 0 (bump 9 0x10 t)
       else mEngine e (withStore t.time.cycle (2 + f.slot) (lsAddr g f align) n v) t) := by
  simp only [storeValue, storeLocal, length_leBytes, inCode_congr hcode]
  rfl

/-! ## The streams -/

theorem streamReadLand_of_block {s : State} {e st : Nat} {b : StreamBlock}
    (h : (engine s e).incoming.find? (fun b => b.stream == st) = some b) :
    streamReadLand e st s = eccEvent b.ecc (storeLocal e 0 b.addr b.bytes
      (mEngine e (fun g => { g with incoming := g.incoming.erase b }) s)) := by
  have hany : (engine s e).incoming.any (fun b => b.stream == st) = true :=
    List.any_eq_true.mpr ⟨b, List.mem_of_find?_eq_some h, List.find?_some (p := fun b : StreamBlock => b.stream == st) h⟩
  simp only [streamReadLand, hany, if_true, landBlock, h]

theorem takeBlock_of_none {s : State} {e st : Nat} (h : nextEntry s e st = none) (due : Nat) :
    takeBlock e st due s = s := by
  simp only [takeBlock, h]

theorem takeBlock_of_entry {s : State} {e st : Nat} {x : SchedEntry} (h : nextEntry s e st = some x) (due : Nat) :
    takeBlock e st due s = mEngine e (fun g => { g with
      pos := upd 0 st (· + x.step) g.pos, used := upd 0 st (· + 1) g.used
      outgoing := g.outgoing ++ [{ stream := st, due := due, addr := x.addr
                                   bytes := loadLocal (engine s e) s.time.cycle x.addr x.bytes }] }) s := by
  simp only [takeBlock, h]

/-- Settles O49: each form's body, with what a store into the code does, and the two ends of a stream. -/
theorem loadsStoresAndStreams : Obligations.LoadsStoresAndStreams := by
  unfold Obligations.LoadsStoresAndStreams
  intro s e st q f hprog hgate g u xa addr step bytes store vd does v
  have hstore : ∀ align n w, storeValue e f align n w g u = store align n w u := storeValue_eq (t := u) rfl f
  have hreg : ∀ t t' : State, (if f.reg < 16 then t else t') = if decide (f.reg < 16) then t else t' :=
    fun t t' => by simp only [decide_eq_true_eq]
  refine ⟨act_slot_of_open hprog hgate rfl, fun hf b => if_neg (ne_true_of_eq_false hf), act_plainLs hprog hgate rfl,
    act_plainLs hprog hgate rfl, act_plainLs hprog hgate rfl, act_plainLs_of_open hprog hgate (hreg _ _), ?stv,
    act_plainLs hprog hgate (hstore _ _ _), act_plainLs hprog hgate (hstore _ _ _), ?stx,
    fun a n hrecent => loadLocal_of_recent_stores hrecent a n,
    fun b hb => act_of_effect (streamReadLand_of_block (s := fresh s) hb),
    fun hnone => act_of_effect (takeBlock_of_none (s := fresh s) hnone _),
    fun x hx => act_of_effect (takeBlock_of_entry (s := fresh s) hx _)⟩
  case stv =>
    refine act_slot_of_open hprog hgate ?_
    cases hf : f.f with
    | false => exact hstore _ _ _
    | true => exact storeValue_eq (t := trackStore e (vecCount v) u) (codeBytes_trackStore e _ u) f 8 24 _
  case stx =>
    refine act_plainLs_of_open hprog hgate ?_
    rw [← hstore]
    exact hreg _ _

end Sys2Proof.Machine
end

section
/-! PROOF. What lands in an engine, what it sends, and how its loops and its issue end (08 R192, R196, R205, R206; 09 R218,
R219, R223, R227 to R229, R241). -/

namespace Sys2Proof.Machine

/-! ## What is due first -/

/-- The least due time, as the model finds it by one pass over a list. -/
theorem foldl_least_eq_min? {α : Type} {f : Option Nat → α → Option Nat} (due : α → Nat)
    (hfirst : ∀ x, f none x = some (due x)) (hnext : ∀ d x, f (some d) x = some (min d (due x))) (l : List α) :
    l.foldl f none = (l.map due).min? := by
  have hrest : ∀ (l : List α) (d : Nat), l.foldl f (some d) = some ((l.map due).foldl min d) := by
    intro l
    induction l with
    | nil => exact fun d => rfl
    | cons x r ih => exact fun d => (congrArg (r.foldl f) (hnext d x)).trans (ih _)
  cases l with
  | nil => rfl
  | cons x r => exact (congrArg (r.foldl f) (hfirst x)).trans (hrest r _)

/-! ## Results -/

theorem landDue_of_none {g : Engine} (h : g.landings = []) (free : Nat) : landDue free g = (g, false) := by
  simp only [landDue, h, List.foldl_nil]

/-- One result has its place among the landings of its cycle whatever its slot (R219). -/
theorem landOrder_single {l : Landing} (h : l.dest ≠ .clearFlags) : landOrder [l] = [l] := by
  obtain ⟨due, rank, dest, value, flags⟩ := l
  have hdest : dest ≠ .clearFlags := h
  match rank with
  | 0 | 1 | 2 | 3 => rfl
  | n + 4 => simp [landOrder, hdest]

theorem landDue_of_single {g : Engine} {l : Landing} (h : g.landings = [l]) (hdest : l.dest ≠ .clearFlags) (free : Nat) :
    landDue free g = (landOne { g with landings := [] } l, false) := by
  have hdest' : (l.dest == .clearFlags) = false := beq_eq_false_iff_ne.mpr hdest
  simp [landDue, h, landOrder_single hdest, hdest']

theorem landResults_of_landDue {s : State} {e : Nat} {g : Engine} (h : landDue s.free (engine s e) = (g, false)) :
    landResults e s = mEngine e (fun _ => g) s := by
  simp only [landResults, h, Bool.false_eq_true, if_false]

/-! ## Exchange words -/

/-- The words of engine `e` that are due in cycle `d`. -/
def dueWords (e d : Nat) (s : State) : List XchWord := s.eng.words.filter (fun w => w.engine == e && w.due == d)

/-- A word written into its receive buffer (R205). -/
def received (w : XchWord) (g : Engine) : Engine := { g with xr := put 0 w.buffer w.word g.xr }

/-- The words that are due first are received and leave the network (R205). -/
theorem deliverWord_of_first {s : State} {e d : Nat} (hdue : ∃ v ∈ s.eng.words, v.engine = e ∧ v.due = d)
    (hfirst : ∀ v ∈ s.eng.words, v.engine = e → d ≤ v.due) :
    deliverWord e s = mEng (fun a => { a with words := a.words.filter (fun w => !(w.engine == e && w.due == d)) })
      ((dueWords e d s).foldl (fun t w => mEngine e (received w) t) s) := by
  have hmin : ((s.eng.words.filter (fun w => w.engine == e)).map XchWord.due).min? = some d := by
    obtain ⟨v, hv, he, hd⟩ := hdue
    refine List.min?_eq_some_iff.mpr ⟨List.mem_map.mpr ⟨v, by simp [hv, he], hd⟩, ?_⟩
    intro b hb
    obtain ⟨w, hw, rfl⟩ := List.mem_map.mp hb
    obtain ⟨hmem, hengine⟩ := List.mem_filter.mp hw
    exact hfirst w hmem (beq_iff_eq.mp hengine)
  have hmine : (s.eng.words.filter (fun w => w.engine == e)).filter (fun w => w.due == d) = dueWords e d s := by
    simp only [List.filter_filter, dueWords, Bool.and_comm]
  unfold deliverWord
  dsimp only
  rw [foldl_least_eq_min? XchWord.due (fun _ => rfl) (fun _ _ => rfl), hmin]
  simp only [hmine]
  rfl

theorem deliverWord_of_none {s : State} (h : s.eng.words = []) (e : Nat) : deliverWord e s = s := by
  simp only [deliverWord, h, List.filter_nil, List.foldl_nil]

theorem engine_after_received {s : State} (hwf : wf {} s.eng.engines = true) (e : Nat) (ws : List XchWord) :
    engine (ws.foldl (fun t w => mEngine e (received w) t) s) e =
      { engine s e with xr := ws.foldl (fun m w => put 0 w.buffer w.word m) (engine s e).xr } := by
  induction ws generalizing s with
  | nil => rfl
  | cons w r ih =>
    rw [List.foldl_cons, ih (s := mEngine e (received w) s) (Laws.wf_upd hwf), engine_mEngine hwf]
    rfl

theorem words_after_received (s : State) (e : Nat) (ws : List XchWord) :
    (ws.foldl (fun t w => mEngine e (received w) t) s).eng.words = s.eng.words :=
  foldl_leaves (p := fun t => t.eng.words) (f := fun t w => mEngine e (received w) t) (fun _ _ => rfl) ws s

/-! ## Sends -/

theorem sendWord_of_none {s : State} {route : Nat} (h : routeDecl s route = none) (e : Nat) (w : BitVec 192) :
    sendWord e route w s = pulse0 9 1 (bump 9 0x20 s) := by
  simp only [sendWord, h]

theorem sendWord_of_route {s : State} {route : Nat} {r : RouteDecl} (h : routeDecl s route = some r) (e : Nat)
    (w : BitVec 192) : sendWord e route w s =
      if r.src = e ∧ engineCycle s % 2 ^ r.intervalLog2 = r.phase then
        mEng (fun a => { a with words := a.words ++
          [{ due := s.time.cycle + 8 + 2 * (r.hops - 1), engine := r.dst, buffer := r.buffer, word := w }] }) s
      else pulse0 9 1 (bump 9 0x20 s) := by
  simp only [sendWord, h]

/-! ## The ends of loops -/

/-- The end of a staged loop's pass changes that loop's own record alone. -/
theorem dropLoop_endPass (l : LoopRec) (g : Engine) : dropLoop l.lc (endPass l g).loops = dropLoop l.lc g.loops := by
  cases hstaged : l.staged with
  | none => simp only [endPass, hstaged]
  | some p =>
    simp only [endPass, hstaged, dropLoop]
    induction g.loops with
    | nil => rfl
    | cons x r ih =>
      by_cases hx : x.lc = l.lc
      · simpa [hx] using ih
      · simpa [hx] using ih

/-- An engine that has left a loop at the end of its last pass (R228, R229). -/
def leftLoop (b : Nat) (r : LoopRec) (g : Engine) : Engine :=
  { g with
    lc := put 0 r.lc 0 g.lc, loops := dropLoop r.lc g.loops, pc := b + 1
    rofs := if r.staged.isSome then (g.rofs + 1) % 32 else g.rofs }

section
variable {g : Engine} {b : Nat} {r : LoopRec} {rest : List LoopRec}

theorem exitDue_of_last (hissued : g.issued = some b) (hloops : loopsAt g b = r :: rest) (hlast : look 0 g.lc r.lc ≤ 1) :
    exitDue g = true := by
  simpa only [exitDue, hissued, hloops, decide_eq_true_eq] using hlast

theorem exitLoop_of_last (hissued : g.issued = some b) (hloops : loopsAt g b = r :: rest) (hlast : look 0 g.lc r.lc ≤ 1) :
    exitLoop g = leftLoop b r g := by
  simp only [exitLoop, hissued, hloops, hlast, if_true, dropLoop_endPass]
  cases hstaged : r.staged <;> simp [endPass, leftLoop, hstaged, hissued]

theorem exitLoop_of_not_due (h : exitDue g = false) : exitLoop g = g := by
  unfold exitLoop
  split
  · rfl
  next b hissued =>
    split
    next l rest hloops =>
      exact if_neg (fun hlast => Bool.false_ne_true (h.symm.trans (exitDue_of_last hissued hloops hlast)))
    · rfl

theorem exitLoops_of_not_due (h : exitDue g = false) (n : Nat) : exitLoops n g = g := by
  cases n with
  | zero => rfl
  | succ n => exact if_neg (ne_true_of_eq_false h)

/-- Where the loop left was the only one at its last pass, the engine leaves no other (R228). -/
theorem exitLoops_of_one (hissued : g.issued = some b) (hloops : loopsAt g b = r :: rest) (hlast : look 0 g.lc r.lc ≤ 1)
    (hnext : exitDue (leftLoop b r g) = false) : exitLoops g.loops.length g = leftLoop b r g := by
  have hmem : r ∈ g.loops := (List.mem_filter.mp (hloops ▸ List.mem_cons_self : r ∈ loopsAt g b)).1
  obtain ⟨n, hn⟩ := Nat.exists_eq_succ_of_ne_zero (List.length_pos_of_mem hmem).ne'
  calc exitLoops g.loops.length g
      = exitLoops n (exitLoop g) := by rw [hn]; exact if_pos (exitDue_of_last hissued hloops hlast)
    _ = exitLoops n (leftLoop b r g) := by rw [exitLoop_of_last hissued hloops hlast]
    _ = leftLoop b r g := exitLoops_of_not_due hnext n

end

theorem engine_stopEngine {s : State} (hwf : wf {} s.eng.engines = true) (e : Nat) : engine (stopEngine e s) e =
    { settleIssue (exitLoops (engine s e).loops.length (engine s e)) with stopped := true } :=
  engine_mEngine hwf e _

/-- Settles O51: results and words that are due first, sends by their route, and the ends of loops and of issue. -/
theorem resultsWordsAndIssue : Obligations.ResultsWordsAndIssue := by
  unfold Obligations.ResultsWordsAndIssue
  intro s e q x l w g u upE discard opened mine sent
  refine ⟨fun hnone => ?noResult, fun hone hdest => ?oneResult, fun v d f => ⟨?vector, ?scalar⟩, fun hnone => ?noWord,
    fun hone hmine => ?oneWord, fun ⟨hprog, hgate⟩ => ⟨fun hroute => ?noRoute,
      fun r hroute => ⟨fun hphase => ?inPhase, fun hphase => ?outOfPhase⟩, fun hreg => ?noRegister⟩,
    fun hdue => ?noExit, fun b r rest hissued hloops hlast => ⟨?exits, fun hnext => ?exitsAndStops⟩, fun hdue => ?stops,
    fun d hdue hfirst => ?firstWords, ?parks⟩
  case noResult => exact act_of_effect (landResults_of_landDue (s := fresh s) (landDue_of_none hnone _))
  case oneResult => exact act_of_effect (landResults_of_landDue (s := fresh s) (landDue_of_single hone hdest _))
  case vector => intro hl; rw [hl]; rfl
  case scalar => intro hl; rw [hl]; rfl
  case noWord => exact act_of_effect (deliverWord_of_none (s := fresh s) hnone e)
  case oneWord =>
    have hdue : ∃ v ∈ s.eng.words, v.engine = e ∧ v.due = w.due := ⟨w, by simp [hone], hmine, rfl⟩
    have hfirst : ∀ v ∈ s.eng.words, v.engine = e → w.due ≤ v.due := by simp [hone]
    have hwords : dueWords e w.due u = [w] := by simp [dueWords, u, hone, hmine]
    have hleft : s.eng.words.filter (fun v => !(v.engine == e && v.due == w.due)) = [] := by simp [hone, hmine]
    refine act_of_effect ((deliverWord_of_first (s := u) hdue hfirst).trans ?_)
    rw [hwords]
    exact congrArg (fun ws => mEng (fun a => { a with words := ws }) (mEngine e (received w) u)) hleft
  case noRoute =>
    exact act_slot_of_open hprog hgate (sendWord_of_none (s := fresh s) hroute e _)
  case inPhase =>
    have hsend : ∀ v, sendWord e x.route v (fresh s) = sent r v := fun v =>
      (sendWord_of_route (s := fresh s) hroute e v).trans (if_pos hphase)
    exact ⟨act_slot_of_open hprog hgate (hsend _), fun hreg => act_slot_of_open hprog hgate ((if_pos hreg).trans (hsend _))⟩
  case outOfPhase =>
    exact act_slot_of_open hprog hgate ((sendWord_of_route (s := fresh s) hroute e _).trans (if_neg hphase))
  case noRegister =>
    exact act_slot_of_open hprog hgate (if_neg (Nat.not_lt.mpr hreg))
  case noExit =>
    exact ⟨_, rfl, fun hwf => (engine_mEngine (s := fresh s) hwf e exitLoop).trans (exitLoop_of_not_due hdue)⟩
  case exits =>
    exact ⟨_, rfl, fun hwf => (engine_mEngine (s := fresh s) hwf e exitLoop).trans
      (exitLoop_of_last hissued hloops hlast)⟩
  case exitsAndStops =>
    refine ⟨_, rfl, fun hwf => (engine_stopEngine (s := fresh s) hwf e).trans ?_⟩
    exact congrArg (fun y => { settleIssue y with stopped := true }) (exitLoops_of_one hissued hloops hlast hnext)
  case stops =>
    refine act_of_effect (congrArg (fun y => pulse0 9 3 (mEngine e (fun _ => y) u)) ?_)
    exact congrArg (fun y => { settleIssue y with stopped := true }) (exitLoops_of_not_due hdue _)
  case firstWords =>
    refine ⟨_, act_of_effect (deliverWord_of_first (s := u) hdue hfirst), ?_, fun hwf => ?_⟩
    · exact congrArg (List.filter _) (words_after_received u e _)
    · exact engine_after_received (s := u) hwf e _
  case parks => exact act_of_effect rfl

end Sys2Proof.Machine
end

section
/-! PROOF. A slot that is gated off, or of an engine without a programme (08 R192; 09 R221). -/

namespace Sys2Proof.Machine

theorem slot_of_shut {s : State} {e : Nat} {q : Gate}
    (hshut : (engine s e).programmed = false ∨ gateOpen (engine s e) q = false) (body : Engine → State → State) :
    slot e q body s = s :=
  if_neg (ne_true_of_eq_false (Bool.and_eq_false_iff.mpr hshut))

/-- Whatever a slot would do, a command that is that slot does nothing when its gate is shut (R192, R221). -/
theorem exec_of_shut_slot {s : State} {e : Nat} {q : Gate} {c : Instr}
    (hshut : (engine s e).programmed = false ∨ gateOpen (engine s e) q = false) (body : Engine → State → State)
    (hslot : exec c s = .next (settle s (slot e q body (fresh s)))) : exec c s = .next (settle s (fresh s)) :=
  hslot.trans (congrArg (fun t => Host.Outcome.next (settle s t)) (slot_of_shut (s := fresh s) hshut body))

/-- Settles O45: every command of the list acts as a slot of engine `e` behind the gate `q`. -/
theorem gatedSlotsHaveNoEffect : Obligations.GatedSlotsHaveNoEffect := by
  unfold Obligations.GatedSlotsHaveNoEffect
  intro s e n m q b lp l k f x hshut
  rw [← List.forall_iff_forall_mem]
  and_intros
  all_goals exact exec_of_shut_slot hshut _ rfl

end Sys2Proof.Machine
end

section
/-! PROOF. The CTL slot: branches, loops and the registers that its operations set (09 R216, R223, R225 to R227, R229,
R239, R240; log 150). -/

namespace Sys2Proof.Machine

/-! ## Branches and the start of a loop -/

section
variable {g : Engine} {s : State} {e : Nat} {f : LoopForm}

theorem takeBranch_in_delay (h : g.inDelay = true) (target : Nat) : takeBranch e target g s = setFlags e 4 s :=
  if_pos h

theorem takeBranch_of_no_delay (h : g.inDelay = false) (target : Nat) :
    takeBranch e target g s = mEngine e (fun x => { x with branch := some (3, target % 16384) }) s :=
  if_neg (ne_true_of_eq_false h)

theorem startLoop_in_delay (h : g.inDelay = true) : startLoop e f g s = setFlags e 4 s := if_pos h

theorem startLoop_of_no_end (h : g.inDelay = false) (hend : f.last = 0) : startLoop e f g s = setFlags e 4 s :=
  (if_neg (ne_true_of_eq_false h)).trans (if_pos hend)

/-- The count of a LOOP: Xs, or the immediate (R227). -/
def loopCount (g : Engine) (f : LoopForm) : Nat := if f.cs then (readX g (f.xs % 16)).toNat else f.imm

theorem startLoop_of_count_zero (h : g.inDelay = false) (hend : f.last ≠ 0) (hcount : loopCount g f = 0) :
    startLoop e f g s = mEngine e (fun x => { x with
      lc := put 0 f.lc 0 x.lc, loops := dropLoop f.lc x.loops
      branch := some (1, (g.issued.getD g.pc + f.last + 1) % 16384) }) s :=
  (if_neg (ne_true_of_eq_false h)).trans ((if_neg hend).trans (if_pos hcount))

theorem startLoop_of_count (h : g.inDelay = false) (hend : f.last ≠ 0) (hcount : loopCount g f ≠ 0) :
    startLoop e f g s = mEngine e (fun x => { x with
      lc := put 0 f.lc (if f.rot then loopCount g f + f.drain else loopCount g f) x.lc
      loops := { lc := f.lc, start := g.issued.getD g.pc, last := (g.issued.getD g.pc + f.last) % 16384
                 staged := if f.rot then some (loopCount g f, 1) else none } :: dropLoop f.lc x.loops
      p := if f.rot then x.p.filter (fun q => decide (q.1 < 4)) else x.p }) s :=
  (if_neg (ne_true_of_eq_false h)).trans ((if_neg hend).trans (if_neg hcount))

end

/-- Settles O50: each CTL operation's body; a branch and a loop by whether they stand in a delay slot. -/
theorem controlSlots : Obligations.ControlSlots := by
  unfold Obligations.ControlSlots
  intro s e n m q b f hprog hgate g u does ill k a others
  refine ⟨fun hdelay => ⟨?brDelay, ?brxDelay, ?loopDelay⟩,
    fun hdelay => ⟨?br, ?brx, fun hend => ?noEnd, fun hend hk => ?countZero, fun hend hk hrot => ?plain,
      fun hend hk hrot => ?staged⟩,
    ?bxclr, ?bsc, ?clrf, ?rofset, ?illegal⟩
  case brDelay => exact act_slot_of_open hprog hgate (takeBranch_in_delay hdelay n)
  case brxDelay => exact act_slot_of_open hprog hgate (takeBranch_in_delay hdelay _)
  case loopDelay => exact act_slot_of_open hprog hgate (startLoop_in_delay hdelay)
  case br => exact act_slot_of_open hprog hgate (takeBranch_of_no_delay hdelay n)
  case brx =>
    refine act_slot_of_open hprog hgate ((takeBranch_of_no_delay hdelay _).trans ?_)
    rw [Nat.mod_mod]
    rfl
  case noEnd => exact act_slot_of_open hprog hgate (startLoop_of_no_end hdelay hend)
  case countZero => exact act_slot_of_open hprog hgate (startLoop_of_count_zero hdelay hend hk)
  case plain =>
    refine act_slot_of_open hprog hgate ((startLoop_of_count hdelay hend hk).trans ?_)
    simp only [hrot, Bool.false_eq_true, if_false]
    rfl
  case staged =>
    refine act_slot_of_open hprog hgate ((startLoop_of_count hdelay hend hk).trans ?_)
    simp only [hrot, if_true]
    rfl
  case bxclr => exact act_slot_of_open hprog hgate rfl
  case bsc => exact act_slot_of_open hprog hgate rfl
  case clrf => exact act_slot_of_open hprog hgate rfl
  case rofset => exact act_slot_of_open hprog hgate rfl
  case illegal => exact act_of_effect rfl

end Sys2Proof.Machine
end

section
/-! PROOF. The scalar and predicate results of the ALU slot (09 R215, R216, R229, R236 to R239; log 148 to 150). -/

namespace Sys2Proof.Machine

section
variable {s : State} {e : Nat} {q : Gate} (hprog : (engine s e).programmed = true)
  (hgate : gateOpen (engine s e) q = true)
include hprog hgate

/-- A scalar operation sends its result to Xd when its fields are admitted, and is a NOP that sets ILL otherwise (R216,
R237). -/
theorem aluScalar_of_open {f : AluForm} {takesB usesA admitted : Bool} {lat : Nat} {val : Engine → Word}
    (hok : (formB takesB f && (!usesA || decide (f.a < 16)) && (!takesB || scalarOk f)) = admitted) :
    aluScalar e q f takesB usesA lat val s = if admitted && decide (f.d < 16) then
      sendResult e lat 2 (.x f.d) ((val (engine s e)).setWidth 192) 0 s else setFlags e 4 s := by
  subst hok
  refine (slot_of_open hprog hgate _).trans ?_
  rw [Bool.and_right_comm _ (decide (f.d < 16)), Bool.and_right_comm _ (decide (f.d < 16))]
  rfl

theorem act_aluScalar_of_open {f : AluForm} {takesB usesA admitted : Bool} {lat : Nat} {val : Engine → Word}
    (hok : (formB takesB f && (!usesA || decide (f.a < 16)) && (!takesB || scalarOk f)) = admitted) :
    act (aluScalar e q f takesB usesA lat val) s = .next (settle s (if admitted && decide (f.d < 16) then
      sendResult e lat 2 (.x f.d) ((val (engine s e)).setWidth 192) 0 (fresh s) else setFlags e 4 (fresh s))) :=
  act_of_effect (aluScalar_of_open (s := fresh s) hprog hgate hok)

/-- An operation with a predicate result sends its bit to Pd when its fields are admitted, and is a NOP that sets ILL
otherwise; P0, and P4 to P7 inside a staged loop, discard it (R215, R216, R229, R237). -/
theorem act_aluPred_of_open {f : AluForm} {takesB ok admitted : Bool} {val : Engine → Bool}
    (hok : (formB takesB f && ok) = admitted) :
    act (aluPred e q f takesB ok val) s = .next (settle s
      (if admitted && decide (f.d < 8) then
        if f.d = 0 ∨ (4 ≤ f.d ∧ (stagedLoop (engine s e)).isSome) then fresh s
        else sendResult e 2 2 (.p f.d) (if val (engine s e) then 1 else 0) 0 (fresh s)
       else setFlags e 4 (fresh s))) := by
  subst hok
  have hbit : BitVec.ofNat 192 (b2n (val (engine s e))) = if val (engine s e) then 1 else 0 := by
    cases val (engine s e) <;> rfl
  refine act_slot_of_open hprog hgate ?_
  rw [Bool.and_right_comm, hbit]
  rfl

end

/-- BXGET reads BEXP in the cycle of its issue (R239). -/
theorem exec_bxget {e : Nat} {q : Gate} {f : AluForm} {s t : State}
    (h : aluScalar e q f false false 2 (fun g => w32 (bexpAt g s.time.cycle)) (fresh s) = t) :
    exec (.bxget e q f) s = .next (settle s t) :=
  act_of_effect (f := fun u => aluScalar e q f false false 2 (fun g => w32 (bexpAt g u.time.cycle)) u) h

/-- Settles O47: each operation's value, behind the check of its fields. -/
theorem scalarAndPredicateAluResults : Obligations.ScalarAndPredicateAluResults := by
  unfold Obligations.ScalarAndPredicateAluResults
  intro s e q f hprog hgate g a b n does x p b0 ab pb
  have hab : (formB true f && decide (f.a < 16) && scalarOk f) = ab := by rw [formB_true]
  have hcmp : (formB true f && (decide (f.a < 16) && scalarOk f)) = ab := by rw [← Bool.and_assoc, hab]
  have hpb : (formB true f && (decide (f.a < 8) && predOk f)) = pb := by rw [formB_true, ← Bool.and_assoc]
  have hb0 : (formB false f && true && true) = b0 := by simp only [Bool.and_true, formB_false, b0]
  have hmovi : (formB true f && true && scalarOk f) = (!(f.i && f.xb) && scalarOk f) := by
    rw [formB_true, Bool.and_true]
  have hmovhi : (formB false f && decide (f.a < 16) && true) = (b0 && decide (f.a < 16)) := by
    rw [formB_false, Bool.and_true]
  have hnot : (formB false f && decide (f.a < 8)) = (b0 && decide (f.a < 8)) := by rw [formB_false]
  exact ⟨act_aluScalar_of_open hprog hgate hab, act_aluScalar_of_open hprog hgate hab,
    act_aluScalar_of_open hprog hgate hab, act_aluScalar_of_open hprog hgate hab,
    act_aluScalar_of_open hprog hgate hab, act_aluScalar_of_open hprog hgate hab,
    act_aluScalar_of_open hprog hgate hab, act_aluScalar_of_open hprog hgate hab,
    act_aluScalar_of_open hprog hgate hab, act_aluScalar_of_open hprog hgate hab,
    act_aluScalar_of_open hprog hgate hmovi, act_aluScalar_of_open hprog hgate hmovhi,
    act_aluScalar_of_open hprog hgate hb0, exec_bxget (aluScalar_of_open (s := fresh s) hprog hgate hb0),
    act_aluScalar_of_open hprog hgate hb0, act_aluScalar_of_open hprog hgate hb0,
    act_aluPred_of_open hprog hgate hcmp, act_aluPred_of_open hprog hgate hcmp,
    act_aluPred_of_open hprog hgate hcmp, act_aluPred_of_open hprog hgate hpb,
    act_aluPred_of_open hprog hgate hpb, act_aluPred_of_open hprog hgate hnot⟩

end Sys2Proof.Machine
end

section
/-! PROOF. What the store's writers, the captures and the recorder leave of the frame streams, the detectors and the
planes (07 R174 to R176, 10 R250, 13 R330). -/

namespace Sys2Proof.Machine

/-- What the frame streams, the detectors and the planes hold, with the image that declares them. -/
def spectra (s : State) : Option Image × Sparse FrameStream × Sparse Trace × Sparse Plane :=
  (s.image, s.frames, s.traces, s.planes)

theorem image_of_spectra {s t : State} (h : spectra t = spectra s) : t.image = s.image := congrArg (·.1) h
theorem frames_of_spectra {s t : State} (h : spectra t = spectra s) : t.frames = s.frames := congrArg (·.2.1) h
theorem traces_of_spectra {s t : State} (h : spectra t = spectra s) : t.traces = s.traces := congrArg (·.2.2.1) h
theorem planes_of_spectra {s t : State} (h : spectra t = spectra s) : t.planes = s.planes := congrArg (·.2.2.2) h

theorem traceOf_of_spectra {s t : State} (h : spectra t = spectra s) (k : Nat) : traceOf t k = traceOf s k :=
  congrArg (look ({} : Trace) · k) (traces_of_spectra h)

theorem planeOf_of_spectra {s t : State} (h : spectra t = spectra s) (p : Nat) : planeOf t p = planeOf s p :=
  congrArg (look ({} : Plane) · p) (planes_of_spectra h)

/-- The recording engine's work is on none of them. -/
theorem spectra_of_outsideDrives {s t : State} (h : outsideDrives t = outsideDrives s) : spectra t = spectra s :=
  (congrArg spectra h :)

@[simp] theorem spectra_mSleeve (i : Nat) (f : Sleeve → Sleeve) (s : State) : spectra (mSleeve i f s) = spectra s := rfl
@[simp] theorem spectra_mStore (f : Store → Store) (s : State) : spectra (mStore f s) = spectra s := rfl
@[simp] theorem spectra_mDisk (f : Disk → Disk) (s : State) : spectra (mDisk f s) = spectra s := rfl
@[simp] theorem spectra_mGroup (g : Nat) (f : Group → Group) (s : State) : spectra (mGroup g f s) = spectra s := rfl
@[simp] theorem spectra_pulse0 (n bit : Nat) (s : State) : spectra (pulse0 n bit s) = spectra s := rfl
@[simp] theorem spectra_bumpBy (n off k : Nat) (s : State) : spectra (bumpBy n off k s) = spectra s :=
  spectra_of_outsideDrives (outsideDrives_bumpBy n off k s)
@[simp] theorem spectra_bump (n off : Nat) (s : State) : spectra (bump n off s) = spectra s := spectra_bumpBy n off 1 s
@[simp] theorem spectra_settle (o s : State) : spectra (settle o s) = spectra s := rfl
@[simp] theorem spectra_fresh (s : State) : spectra (fresh s) = spectra s := rfl

@[simp] theorem spectra_logEvent (code source : Nat) (params : List Nat) (s : State) :
    spectra (logEvent code source params s) = spectra s :=
  (congrArg spectra (outsideLog_logEvent code source params s) :)

@[simp] theorem spectra_eccEvent (x : Ecc) (s : State) : spectra (eccEvent x s) = spectra s := by
  cases x with
  | clean => rfl
  | corrected a => simp [eccEvent]
  | bad a =>
    simp only [eccEvent]
    split <;> simp

@[simp] theorem spectra_measure (cls index cycles : Nat) (s : State) :
    spectra (measure cls index cycles s) = spectra s := by
  simp only [measure]
  repeat' split
  · rfl
  · rfl
  · exact spectra_bump ..
  · exact spectra_logEvent ..

/-! ## Bytes that a writer stores -/

@[simp] theorem spectra_tidyMarkers (i : Nat) (s : State) : spectra (tidyMarkers i s) = spectra s :=
  spectra_of_outsideDrives (outsideDrives_tidyMarkers i s)

@[simp] theorem spectra_placeMarker (i : Nat) (overflow : Bool) (blocks time : Nat) (s : State) :
    spectra (placeMarker i overflow blocks time s) = spectra s := by
  simp only [placeMarker]
  split <;> simp

@[simp] theorem spectra_endDrop (i : Nat) (s : State) : spectra (endDrop i s) = spectra s := by
  simp only [endDrop]
  split <;> simp

@[simp] theorem spectra_noteResult (i t : Nat) (s : State) : spectra (noteResult i t s) = spectra s :=
  spectra_of_outsideDrives (outsideDrives_noteResult i t s)

@[simp] theorem spectra_dropBlock (i time : Nat) (s : State) : spectra (dropBlock i time s) = spectra s :=
  spectra_bump ..

@[simp] theorem spectra_stopWriter (i time : Nat) (s : State) : spectra (stopWriter i time s) = spectra s :=
  spectra_placeMarker i true 0 time s

@[simp] theorem spectra_refuseRecord (i time : Nat) (s : State) : spectra (refuseRecord i time s) = spectra s := by
  unfold refuseRecord
  split <;> simp

@[simp] theorem spectra_wrapSleeve (i : Nat) (s : State) : spectra (wrapSleeve i s) = spectra s := by
  refine foldl_leaves (fun s j => ?_) _ _
  simp only [settleReader]
  repeat' split
  all_goals rfl

theorem spectra_storeChunk (i : Nat) (data : List Byte) (s : State) : spectra (storeChunk i data s) = spectra s := by
  have hread : spectra (overtaken i data s) = spectra s :=
    foldl_leaves (fun s j => spectra_of_outsideDrives (outsideDrives_lapReader i s j)) _ _
  simp only [storeChunk]
  split
  · exact (spectra_wrapSleeve i _).trans hread
  · exact hread

theorem spectra_storeBytes (i k : Nat) (data : List Byte) (s : State) : spectra (storeBytes i k data s) = spectra s := by
  induction k generalizing data s with
  | zero => rfl
  | succ k ih =>
    simp only [storeBytes]
    repeat' split
    · rfl
    · rfl
    · exact (ih _ _).trans (spectra_storeChunk i _ s)

@[simp] theorem spectra_storeAll (i : Nat) (data : List Byte) (s : State) : spectra (storeAll i data s) = spectra s := by
  simp only [storeAll]
  split <;> exact spectra_storeBytes i _ data s

theorem spectra_appendLoop (i : Nat) (tm : Nat → Nat) (k o : Nat) (data : List Byte) (s : State) :
    spectra (appendLoop i tm k o data s) = spectra s := by
  induction k generalizing o data s with
  | zero => rfl
  | succ k ih =>
    simp only [appendLoop]
    repeat' split
    all_goals simp [ih]

@[simp] theorem spectra_appendBytes (i time : Nat) (data : List Byte) (s : State) :
    spectra (appendBytes i time data s) = spectra s :=
  (spectra_tidyMarkers ..).trans (spectra_appendLoop ..)

@[simp] theorem spectra_appendRecord (i time : Nat) (data : List Byte) (s : State) :
    spectra (appendRecord i time data s).1 = spectra s := by
  unfold appendRecord
  repeat' split
  all_goals simp

/-! ## What follows a write -/

@[simp] theorem spectra_sendNotice (g notice : Nat) (c : Capture) (stop : Option Nat) (s : State) :
    spectra (sendNotice g notice c stop s) = spectra s := by
  unfold sendNotice
  split
  · rfl
  · dsimp only
    split <;> simp

@[simp] theorem spectra_sleeveRecord (g notice : Nat) (c : Capture) (stop : Option Nat) (s : State) :
    spectra (sleeveRecord g notice c stop s) = spectra s := by
  unfold sleeveRecord
  split
  · exact spectra_appendBytes ..
  · rfl

@[simp] theorem spectra_drivePin (o : Nat) (f : OutPin → OutPin) (s : State) : spectra (drivePin o f s) = spectra s :=
  (congrArg spectra (outsidePins_drivePin o f s) :)

@[simp] theorem spectra_requestPulse (o : Nat) (s : State) : spectra (requestPulse o s) = spectra s := by
  simp only [requestPulse]
  repeat' split
  all_goals simp

@[simp] theorem spectra_closeCapture (g stop flags : Nat) (s : State) :
    spectra (closeCapture g stop flags s) = spectra s := by
  have hpulses (l : List Nat) (s : State) : spectra (l.foldl (fun s o => requestPulse o s) s) = spectra s :=
    foldl_leaves (fun s o => spectra_requestPulse o s) l s
  unfold closeCapture
  split
  · rfl
  · dsimp only
    repeat' split
    all_goals simp [mJob, hpulses]

@[simp] theorem spectra_closeAt (g t flags : Nat) (c : Capture) (s : State) :
    spectra (closeAt g t flags c s) = spectra s := by
  unfold closeAt
  repeat' split
  all_goals exact spectra_closeCapture ..

theorem spectra_captureCheck (s : State) (g : Nat) : spectra (captureCheck s g) = spectra s := by
  simp only [captureCheck]
  repeat' split
  all_goals simp

/-- Captures that end and the recording that goes on after a write change none of them. -/
@[simp] theorem spectra_afterWrite (s : State) : spectra (afterWrite s) = spectra s :=
  (spectra_of_outsideDrives (outsideDrives_progress _)).trans (foldl_leaves spectra_captureCheck _ s)

end Sys2Proof.Machine
end

section
/-! PROOF. The stamper: what becomes of a frame stream when a record's header leaves its engine (10 R249 to R253). -/

namespace Sys2Proof.Machine

/-! ## A frame stream in a state -/

/-- Storage in canonical form whose entry `k` is `x`. -/
structure Holds {α : Type} [DecidableEq α] (d : α) (k : Nat) (x : α) (m : Sparse α) : Prop where
  canonical : wf d m = true
  entry : look d m k = x

theorem Holds.upd {α : Type} [DecidableEq α] {d : α} {k : Nat} {x y : α} {m : Sparse α} {f : α → α} (h : Holds d k x m)
    (hf : f x = y) : Holds d k y (upd d k f m) where
  canonical := Laws.wf_upd h.canonical
  entry := by
    rw [← hf, ← h.entry]
    exact (Laws.look_upd h.canonical).trans (if_pos rfl)

/-- Frame stream `k` of a state stands at `x`, declared as `d`. -/
structure HasFrame (k : Nat) (d : FrameDecl) (x : FrameStream) (s : State) : Prop where
  held : Holds {} k x s.frames
  decl : frameDecl s k = d

section
variable {k : Nat} {d : FrameDecl} {x y : FrameStream} {s t : State}

theorem HasFrame.stream (h : HasFrame k d x s) : frameStream s k = x := h.held.entry

theorem HasFrame.of_spectra (h : HasFrame k d x s) (ht : spectra t = spectra s) : HasFrame k d x t where
  held := by rw [frames_of_spectra ht]; exact h.held
  decl := by rw [frameDecl, img, image_of_spectra ht, ← img, ← frameDecl, h.decl]

theorem HasFrame.mFrame {f : FrameStream → FrameStream} (h : HasFrame k d x s) (hf : f x = y) :
    HasFrame k d y (mFrame k f s) where
  held := h.held.upd hf
  decl := h.decl

/-! ## The decision at a record's first byte -/

/-- A frame stream whose next record is decided to be stored or not (R250, R252). -/
def FrameStream.decided (go : Bool) (x : FrameStream) : FrameStream :=
  { x with fate := some go, before := x.before || !go }

/-- A record is stored when its sleeve's writer goes on and the record fits (R250). -/
def stores (d : FrameDecl) (s : State) : Bool := !(sleeve s d.dst).stopped && fits s d.dst d.recordBytes

theorem HasFrame.recordLost (h : HasFrame k d x s) (i : Nat) : HasFrame k d (x.decided false) (recordLost k i s) := by
  have hlost : HasFrame k d (x.decided false)
      (Machine.mFrame k (fun f => { f with fate := some false, before := true }) s) :=
    h.mFrame (by simp [FrameStream.decided])
  simp only [Machine.recordLost]
  split
  · exact hlost.of_spectra (by simp)
  · exact hlost

theorem HasFrame.decideFrame (h : HasFrame k d x s) : HasFrame k d (x.decided (stores d s)) (decideFrame k s) := by
  have hdst : (frameDecl s k).dst = d.dst := congrArg FrameDecl.dst h.decl
  cases hstopped : (sleeve s d.dst).stopped
  case true =>
    rw [decideFrame_of_stopped hdst hstopped, stores, hstopped]
    exact h.recordLost d.dst
  case false =>
    cases hfits : fits s d.dst d.recordBytes
    case true =>
      rw [decideFrame_of_fits hdst hstopped (by rw [h.decl, hfits]), stores, hstopped, hfits]
      exact h.mFrame (by simp [FrameStream.decided])
    case false =>
      rw [decideFrame_of_full hdst hstopped (by rw [h.decl, hfits]), stores, hstopped, hfits]
      exact (h.of_spectra (spectra_refuseRecord ..)).recordLost d.dst

/-! ## A record's header -/

/-- A frame stream whose record's header leaves: the record is stored with what `c` tells of it, or it is not (R250,
R252). -/
def FrameStream.begun (go : Bool) (c : Nat × Nat × Nat) (x : FrameStream) : FrameStream :=
  if go then { x with cur := some c, before := false, fate := none }
  else { x with cur := none, before := x.before || x.fate.isNone, fate := none }

theorem spectra_spectraAnchor (d : FrameDecl) (t : Nat) (s : State) : spectra (spectraAnchor d t s) = spectra s := by
  simp only [spectraAnchor]
  split <;> simp

theorem HasFrame.storeHeader (h : HasFrame k d x s) (n flags : Nat) (bs : List Byte) :
    HasFrame k d { x with cur := some (n, flags, le bs 0x3C 2), before := false, fate := none }
      (storeHeader k n flags d bs s) :=
  (h.of_spectra (by simp [spectra_spectraAnchor])).mFrame rfl

theorem HasFrame.beginFrame (h : HasFrame k d x s) (n flags : Nat) (bs : List Byte) :
    HasFrame k d (x.begun (x.fate.getD (stores d s)) (n, flags, le bs 0x3C 2)) (beginFrame k n flags d bs s) := by
  have hdecided : ∃ y, HasFrame k d y (if x.fate.isNone then Machine.decideFrame k s else s) ∧
      y = { x with fate := some (x.fate.getD (stores d s)), before := y.before } ∧
      (x.fate.getD (stores d s) = false → y.before = (x.before || x.fate.isNone)) := by
    cases hfate : x.fate with
    | none =>
      refine ⟨_, h.decideFrame, rfl, fun hgo => ?_⟩
      rw [Option.getD_none] at hgo
      rw [FrameStream.decided, hgo]
      rfl
    | some go => exact ⟨x, h, by rw [Option.getD_some, ← hfate], by simp⟩
  obtain ⟨y, hy, heq, hbefore⟩ := hdecided
  have hfate : y.fate = some (x.fate.getD (stores d s)) := by rw [heq]
  simp only [Machine.beginFrame, h.stream, hy.stream, hfate]
  cases hgo : x.fate.getD (stores d s)
  case true =>
    have hstored := hy.storeHeader n flags bs
    rw [heq] at hstored
    exact hstored
  case false =>
    exact hy.mFrame (by rw [heq, hbefore hgo]; rfl)

/-! ## The bytes of a record whose header has been stamped -/

/-- A frame stream whose record, if one is being stored, has landed to its last byte (R252, R253). -/
def FrameStream.landed (x : FrameStream) : FrameStream :=
  match x.cur with
  | none => x
  | some (n, flags, _) => { x with frame := n, flags := flags, unsettled := tbit flags 2, cur := none }

/-- A frame stream when bytes leave its engine: those left of the record, and those of the next one (R250). -/
def FrameStream.moved (data : List Byte) (x : FrameStream) : FrameStream :=
  { x with left := x.left - min x.left data.length, buf := x.buf ++ data.drop (min x.left data.length) }

/-- A frame stream that bytes have passed: the record lands with the last of them (R250). -/
def FrameStream.passed (data : List Byte) (x : FrameStream) : FrameStream :=
  if 0 < x.left ∧ x.left ≤ data.length then (x.moved data).landed else x.moved data

theorem HasFrame.frameStored (h : HasFrame k d x s) (n flags spurs : Nat) :
    HasFrame k d { x with frame := n, flags := flags, unsettled := tbit flags 2, cur := none }
      (frameStored k n flags spurs d s) := by
  have hstored := h.mFrame
    (f := fun f => { f with frame := n, flags := flags, unsettled := tbit flags 2, cur := none }) rfl
  refine hstored.of_spectra ?_
  simp only [Machine.frameStored]
  repeat' split
  all_goals simp

theorem HasFrame.passFrame (h : HasFrame k d x s) (data : List Byte) :
    ∃ go, HasFrame k d (if x.buf = [] ∧ x.left < data.length then (x.passed data).decided go else x.passed data)
      (passFrame k data s) := by
  have hnext {u : State} (hu : HasFrame k d (x.passed data) u) :
      ∃ go, HasFrame k d (if x.buf = [] ∧ x.left < data.length then (x.passed data).decided go else x.passed data)
        (if x.buf.isEmpty && decide (min x.left data.length < data.length) then Machine.decideFrame k u else u) := by
    simp only [Bool.and_eq_true, List.isEmpty_iff, decide_eq_true_eq, min_lt_iff, lt_irrefl, or_false]
    split
    · exact ⟨_, hu.decideFrame⟩
    · exact ⟨false, hu⟩
  have hmoved : HasFrame k d (x.moved data) (Machine.mFrame k (fun f => { f with
      left := f.left - min x.left data.length, buf := f.buf ++ data.drop (min x.left data.length) }) s) :=
    h.mFrame rfl
  have hcur : (x.moved data).cur = x.cur := rfl
  simp only [Machine.passFrame, h.stream, h.decl]
  generalize Machine.mFrame k _ s = u at hmoved ⊢
  refine hnext ?_
  by_cases hnone : min x.left data.length = 0
  · rwa [if_pos hnone, FrameStream.passed, if_neg (by omega)]
  have hstored : HasFrame k d (x.moved data)
      (tidyMarkers d.dst (storeAll d.dst (data.take (min x.left data.length)) u)) :=
    hmoved.of_spectra (by simp)
  rw [if_neg hnone, FrameStream.passed, FrameStream.landed, hcur]
  cases x.cur with
  | none => rwa [ite_self]
  | some c =>
    by_cases hlast : min x.left data.length = x.left
    · rw [if_pos (by omega)]
      simp only [if_pos hlast]
      exact hstored.frameStored ..
    · rw [if_neg (by omega)]
      simp only [if_neg hlast]
      exact hstored

/-! ## FRAME_STAMP -/

/-- A frame stream whose next record's header has left with `flags`, and `left` bytes behind it are due (R250, R252). -/
def FrameStream.stamped (d : FrameDecl) (flags left : Nat) (x : FrameStream) : FrameStream :=
  { x with
    next := x.next + 1, buf := [], left := left, settle := if tbit flags 4 then d.settle else x.settle - 1 }

theorem FrameStream.stamped_left (d : FrameDecl) (flags left : Nat) (x : FrameStream) :
    (x.stamped d flags left).left = left := rfl

theorem stampFrame_of_idle (h : (frameDecl s k).channeliser = true ∨ (frameDecl s k).recordBytes < 128 ∨
    (frameStream s k).left ≠ 0 ∨ (frameStream s k).buf.length < 128) : stampFrame k s = s :=
  if_pos (by simp only [Bool.or_eq_true, decide_eq_true_eq, bne_iff_ne]; tauto)

/-- The stamper's work on a frame stream: the header, stored or not, and the bytes that have left behind it. -/
def FrameStream.header (d : FrameDecl) (go : Bool) (flags spurs left : Nat) (data : List Byte) (x : FrameStream) :
    FrameStream :=
  ((x.begun go (x.next, flags, spurs)).stamped d flags left).passed data

end

/-! ## What the stamper leaves -/

section
variable {d : FrameDecl} {x y : FrameStream} {data : List Byte} {go : Bool} {flags spurs left n : Nat}

/-- Whether it is stored or not, the record is counted, and its bytes leave the engine (R242, R250). -/
theorem FrameStream.header_passes : (x.header d go flags spurs left data).next = x.next + 1 ∧
    (x.header d go flags spurs left data).buf = data.drop left ∧
    (x.header d go flags spurs left data).left = left - data.length := by
  have hdrop : data.drop (min left data.length) = data.drop left := by
    rcases Nat.le_total left data.length with hle | hle
    · rw [min_eq_left hle]
    · rw [min_eq_right hle, List.drop_length, List.drop_of_length_le hle]
  have hleft : left - min left data.length = left - data.length := by omega
  rw [← hdrop, ← hleft]
  simp only [FrameStream.header, FrameStream.passed, FrameStream.landed]
  cases go
  all_goals
    repeat' split
    all_goals exact ⟨rfl, rfl, rfl⟩

/-- The record stored as a whole tells of the drops before it (R252). -/
theorem FrameStream.header_stored : (x.header d true flags spurs left data).before = false := by
  simp only [FrameStream.header, FrameStream.passed]
  split <;> rfl

/-- A dropped record shows nothing; refused just now, it is told of by the next one stored (R250, R252). -/
theorem FrameStream.header_dropped :
    (x.header d false flags spurs left data).cur = none ∧ (x.header d false flags spurs left data).frame = x.frame ∧
      (x.header d false flags spurs left data).before = (x.before || x.fate.isNone) := by
  simp only [FrameStream.header, FrameStream.passed]
  split <;> exact ⟨rfl, rfl, rfl⟩

theorem FrameStream.header_landed (hpos : 0 < left) (h : left ≤ data.length) :
    (x.header d true flags spurs left data).frame = x.next ∧ (x.header d true flags spurs left data).flags = flags := by
  have hall : x.header d true flags spurs left data = _ := if_pos ⟨hpos, h⟩
  rw [hall]
  exact ⟨rfl, rfl⟩

theorem FrameStream.header_lands (h : data.length < left) :
    (x.header d true flags spurs left data).cur = some (x.next, flags, spurs) := by
  have hpart : x.header d true flags spurs left data = _ := if_neg fun hall => Nat.not_lt.mpr hall.2 h
  rw [hpart]
  rfl

/-- What the stamper makes of a frame stream with a record of `n` bytes, whose header has left its engine: the record has
the stream's next number, and it shows its flags, is being stored, or is dropped (R242, R250 to R252). -/
structure FrameStream.Stamps (n : Nat) (go : Bool) (flags spurs : Nat) (x y : FrameStream) : Prop where
  next : y.next = x.next + 1
  buf : y.buf = x.buf.drop n
  left : y.left = n - x.buf.length
  told : go = true → x.buf.length ≤ n → y.before = false
  shown : go = true → n ≤ x.buf.length → y.frame = x.next ∧ y.flags = flags
  storing : go = true → x.buf.length < n → y.cur = some (x.next, flags, spurs)
  dropped : go = false → y.cur = none ∧ y.frame = x.frame ∧ (x.fate = none → y.before = true)

theorem FrameStream.stamps_header {m : Nat} (hm : m < n) (hbuf : m ≤ x.buf.length) :
    Stamps n go flags spurs x (x.header d go flags spurs (n - m) (x.buf.drop m)) := by
  obtain ⟨hnext, hrest, hleft⟩ :=
    header_passes (d := d) (x := x) (data := x.buf.drop m) (go := go) (flags := flags) (spurs := spurs) (left := n - m)
  exact
    { next := hnext
      buf := by rw [hrest, List.drop_drop, Nat.add_sub_cancel' hm.le]
      left := by rw [hleft, List.length_drop]; omega
      told := fun hgo _ => hgo ▸ header_stored
      shown := fun hgo hall => hgo ▸ header_landed (by omega) (by rw [List.length_drop]; omega)
      storing := fun hgo hpart => hgo ▸ header_lands (by rw [List.length_drop]; omega)
      dropped := fun hgo => by
        obtain ⟨hcur, hframe, hbefore⟩ := header_dropped (d := d) (x := x) (data := x.buf.drop m) (flags := flags)
          (spurs := spurs) (left := n - m)
        subst hgo
        exact ⟨hcur, hframe, fun hfate => by rw [hbefore, hfate]; exact Bool.or_true _⟩ }

/-- A decision on the record behind it leaves what the stamper has made of this one (R250). -/
theorem FrameStream.Stamps.decided (h : Stamps n go flags spurs x y) (hlonger : n < x.buf.length) (more : Bool) :
    Stamps n go flags spurs x (y.decided more) where
  next := h.next
  buf := h.buf
  left := h.left
  told := fun _ hle => absurd hlonger (Nat.not_lt.mpr hle)
  shown := h.shown
  storing := h.storing
  dropped := fun hgo => by
    obtain ⟨hcur, hframe, hbefore⟩ := h.dropped hgo
    exact ⟨hcur, hframe, fun hfate => by rw [FrameStream.decided, hbefore hfate]; rfl⟩

end

section
variable {s : State} {k : Nat}

theorem HasFrame.stampFrame {d : FrameDecl} {x : FrameStream} (h : HasFrame k d x s) (hlive : functionLive s = true)
    (hrows : d.channeliser = false) (hbytes : 128 < d.recordBytes) (hleft : x.left = 0) (hbuf : 128 ≤ x.buf.length) :
    ∃ y, HasFrame k d y (stampFrame k s) ∧
      x.Stamps d.recordBytes (x.fate.getD (stores d s)) (frameFlags s x d x.next) (le x.buf 0x3C 2) y := by
  have hspurs : le (x.buf.take 128) 0x3C 2 = le x.buf 0x3C 2 := by
    simp [le, slice, List.drop_take, List.take_take]
  have hbegun := h.beginFrame x.next (frameFlags s x d x.next) (x.buf.take 128)
  rw [hspurs] at hbegun
  have hstamped := hbegun.mFrame (f := FrameStream.stamped d (frameFlags s x d x.next) (d.recordBytes - 128)) rfl
  obtain ⟨go, hpassed⟩ := hstamped.passFrame (x.buf.drop 128)
  have hheader := FrameStream.stamps_header (d := d) (go := x.fate.getD (stores d s)) (flags := frameFlags s x d x.next)
    (spurs := le x.buf 0x3C 2) hbytes hbuf
  simp only [Machine.stampFrame, h.stream, h.decl]
  rw [if_neg (by simp [hrows, hlive, hleft]; omega)]
  refine ⟨_, hpassed, ?_⟩
  split
  case isTrue hmore =>
    obtain ⟨-, hmore⟩ := hmore
    rw [FrameStream.stamped_left, List.length_drop] at hmore
    exact hheader.decided (by omega) go
  case isFalse => exact hheader

theorem exec_frameStamp {t : State} (h : stampFrame k (fresh s) = t) :
    exec (.frameStamp k) s = .next (settle s (afterWrite t)) :=
  act_of_effect (f := fun u => afterWrite (stampFrame k u)) (congrArg afterWrite h)

theorem exec_frameStamp_of_idle (h : (frameDecl s k).channeliser = true ∨ (frameDecl s k).recordBytes < 128 ∨
    (frameStream s k).left ≠ 0 ∨ (frameStream s k).buf.length < 128) :
    exec (.frameStamp k) s = .next (settle s (afterWrite (fresh s))) :=
  exec_frameStamp (stampFrame_of_idle (s := fresh s) h)

/-- The header of a record takes the next number, and the record is stored or dropped as was decided (R249 to R252). -/
theorem exec_frameStamp_of_header (hwf : wf {} s.frames = true) (hlive : functionLive s = true)
    (hrows : (frameDecl s k).channeliser = false) (hbytes : 128 < (frameDecl s k).recordBytes)
    (hleft : (frameStream s k).left = 0) (hbuf : 128 ≤ (frameStream s k).buf.length) :
    ∃ t, exec (.frameStamp k) s = .next t ∧
      (frameStream s k).Stamps (frameDecl s k).recordBytes
        ((frameStream s k).fate.getD (stores (frameDecl s k) s))
        (frameFlags s (frameStream s k) (frameDecl s k) (frameStream s k).next) (le (frameStream s k).buf 0x3C 2)
        (frameStream t k) := by
  obtain ⟨y, hy, hstamps⟩ := HasFrame.stampFrame (s := fresh s) ⟨⟨hwf, rfl⟩, rfl⟩ hlive hrows hbytes hleft hbuf
  have hsettled := (hy.of_spectra (t := settle s (afterWrite (stampFrame k (fresh s)))) (by simp)).stream
  refine ⟨_, exec_frameStamp rfl, ?_⟩
  rw [hsettled]
  exact hstamps

end
end Sys2Proof.Machine
end

section
/-! PROOF. The shared read of a record, and what a trace detector makes of its stream's next one (07 R183, 11 R265, R268
to R272; log 25, 27, 129). -/

namespace Sys2Proof.Machine

/-! ## The shared read of a record -/

section
variable {k j : Nat} {s : State}

/-- A record that no unit has read is read now, and what its check codes show acts (R183, R184; log 129). -/
theorem sharedRead_first (h : (frameStream s k).readTo ≤ j) : sharedRead k j s =
    eccEvent (freeEcc s (fun n => (sleeveDecl s (frameDecl s k).dst).base +
        byteOffset s (frameDecl s k).dst (j * (frameDecl s k).recordBytes + n)) (frameDecl s k).recordBytes)
      { s with free := s.free + 2, frames := upd {} k (fun f => { f with readTo := j + 1 }) s.frames } :=
  if_pos h

/-- A shared read changes nothing of the units that take the record. -/
theorem sharedRead_traces (k j : Nat) (s : State) : (sharedRead k j s).traces = s.traces := by
  unfold sharedRead
  split
  · exact traces_of_spectra (s := nextFree (nextFree (mFrame k _ s))) (spectra_eccEvent ..)
  · rfl

theorem sharedRead_planes (k j : Nat) (s : State) : (sharedRead k j s).planes = s.planes := by
  unfold sharedRead
  split
  · exact planes_of_spectra (s := nextFree (nextFree (mFrame k _ s))) (spectra_eccEvent ..)
  · rfl

theorem logEvent_mTrace (code source : Nat) (params : List Nat) (d : Nat) (f : Trace → Trace) (s : State) :
    logEvent code source params (mTrace d f s) = mTrace d f (logEvent code source params s) := by
  have hrec : recordOf (mTrace d f s) code source params = recordOf s code source params := rfl
  simp only [logEvent, mTrace_recorder, hrec]
  split
  · rfl
  · split <;> rfl

theorem eccEvent_mTrace (x : Ecc) (d : Nat) (f : Trace → Trace) (s : State) :
    eccEvent x (mTrace d f s) = mTrace d f (eccEvent x s) := by
  cases x with
  | clean => rfl
  | corrected a => rfl
  | bad a =>
    have hsleeve : sleeveOf (mTrace d f s) a = sleeveOf s a := rfl
    simp only [eccEvent, hsleeve]
    refine Eq.trans ?_ (logEvent_mTrace _ _ _ d f _)
    split <;> rfl

/-- A detector's own state has no part in the shared read. -/
theorem sharedRead_mTrace (k j d : Nat) (f : Trace → Trace) (s : State) :
    sharedRead k j (mTrace d f s) = mTrace d f (sharedRead k j s) := by
  have hstream : frameStream (mTrace d f s) k = frameStream s k := rfl
  simp only [sharedRead, hstream]
  split
  · exact eccEvent_mTrace _ d f (nextFree (nextFree (mFrame k (fun f => { f with readTo := j + 1 }) s)))
  · rfl

end

/-! ## A record at a detector -/

section
variable {k born : Nat} {t : TraceDecl} {bs : List Byte} {s : State}

theorem Holds.mTrace {x y : Trace} {f : Trace → Trace} (h : Holds {} k x s.traces) (hf : f x = y) :
    Holds {} k y (mTrace k f s).traces :=
  h.upd hf

theorem traceOf_mTrace {f : Trace → Trace} {u : State} (hwf : wf {} s.traces = true) (h : spectra u = spectra s) :
    traceOf (mTrace k f u) k = f (traceOf s k) :=
  (Holds.mTrace ⟨by rw [traces_of_spectra h, hwf], traceOf_of_spectra h k⟩ rfl).entry

/-- Frame at which interval `x.interval` of a detector ends (R268). -/
def TraceDecl.lastFrame (t : TraceDecl) (x : Trace) : Nat := t.firstFrame + x.interval * t.interval + t.interval - 1

/-- A detector without the points of its interval. -/
def Trace.pointless (x : Trace) : Trace := { x with peak := [], low := [], acc := [] }

theorem Trace.pointless_tracePoint (t : TraceDecl) (f : FrameDecl) (bs : List Byte) (first : Bool) (free q : Nat)
    (x : Trace) : (tracePoint t f bs first free x q).pointless = x.pointless := by
  simp only [tracePoint]
  repeat' split
  all_goals rfl

theorem Trace.pointless_tracePoints (t : TraceDecl) (f : FrameDecl) (bs : List Byte) (first : Bool) (free : Nat)
    (l : List Nat) (x : Trace) : (l.foldl (tracePoint t f bs first free) x).pointless = x.pointless :=
  List.foldlRecOn l _ (motive := fun y => Trace.pointless y = x.pointless) rfl
    fun _ hy q _ => (pointless_tracePoint t f bs first free q _).trans hy

/-- A frame before the detector's first is read and passed by (R265). -/
theorem traceRecord_before (h : recNumber bs < t.firstFrame) : traceRecord k t bs born s =
    mTrace k (fun x => { x with readRecords := x.readRecords + 1 }) (sharedRead t.stream (traceOf s k).readRecords s) :=
  if_pos h

/-- A frame beyond the interval stays for the next one, and the interval is over (R268). -/
theorem traceRecord_beyond (hfirst : t.firstFrame ≤ recNumber bs) (h : t.lastFrame (traceOf s k) < recNumber bs) :
    traceRecord k t bs born s = mTrace k (fun x => { x with ready := true, closeAt := born }) s :=
  (if_neg (Nat.not_lt.mpr hfirst)).trans (if_pos h)

/-- A detector whose interval's last frame this one may be (R268). -/
def Trace.judged (t : TraceDecl) (n born : Nat) (x : Trace) : Trace :=
  { x with ready := n == t.lastFrame x, closeAt := if n == t.lastFrame x then born else x.closeAt }

/-- The state in which a detector has read a frame of its interval, before the frame counts. -/
def traceRead (k : Nat) (t : TraceDecl) (n born : Nat) (s : State) : State :=
  mTrace k (fun y => { y with readRecords := y.readRecords + 1 }) (sharedRead t.stream (traceOf s k).readRecords
    (mTrace k (fun y => { y with
      ready := n == t.lastFrame (traceOf s k)
      closeAt := if n == t.lastFrame (traceOf s k) then born else y.closeAt }) s))

theorem traceRead_holds (hwf : wf {} s.traces = true) (n born : Nat) :
    Holds {} k { (traceOf s k).judged t n born with readRecords := (traceOf s k).readRecords + 1 }
      (traceRead k t n born s).traces := by
  have hjudged : Holds {} k ((traceOf s k).judged t n born) (sharedRead t.stream (traceOf s k).readRecords
      (mTrace k (fun y => { y with
        ready := n == t.lastFrame (traceOf s k)
        closeAt := if n == t.lastFrame (traceOf s k) then born else y.closeAt }) s)).traces := by
    rw [sharedRead_traces]
    exact Holds.upd ⟨hwf, rfl⟩ rfl
  exact hjudged.upd (f := fun y => { y with readRecords := y.readRecords + 1 }) rfl

theorem traceRead_snap (n born : Nat) :
    (traceRead k t n born s).snap = (sharedRead t.stream (traceOf s k).readRecords s).snap := by
  rw [traceRead, sharedRead_mTrace]
  rfl

theorem traceRecord_within (hfirst : t.firstFrame ≤ recNumber bs) (h : recNumber bs ≤ t.lastFrame (traceOf s k)) :
    traceRecord k t bs born s =
      let r := traceRead k t (recNumber bs) born s
      if recSkipped bs then bump 11 (0x40 * k + 0x20) (mTrace k (fun x => { x with sums := x.sums.skip }) r)
      else
        let point := tracePoint t (frameDecl s t.stream) bs ((traceOf s k).sums.used == 0) r.free
        tracesFree t (mTrace k (fun x => { ((List.range t.pointCount).foldl point x) with sums := x.sums.take bs }) r) :=
  (if_neg (Nat.not_lt.mpr hfirst)).trans (if_neg (Nat.not_lt.mpr h))

/-- A frame of the interval is read, and is counted as skipped or taken into the sums (R265, R268, R270). -/
theorem traceRecord_takes (hwf : wf {} s.traces = true) (hfirst : t.firstFrame ≤ recNumber bs)
    (h : recNumber bs ≤ t.lastFrame (traceOf s k)) :
    let x := traceOf s k
    let u := traceRecord k t bs born s
    (traceOf u k).readRecords = x.readRecords + 1 ∧ (traceOf u k).ready = (recNumber bs == t.lastFrame x) ∧
      (traceOf u k).sums = (if recSkipped bs then x.sums.skip else x.sums.take bs) ∧
      u.snap = (if recSkipped bs then bump 11 (0x40 * k + 0x20) (sharedRead t.stream x.readRecords s)
        else sharedRead t.stream x.readRecords s).snap := by
  intro x u
  have hu : u = _ := traceRecord_within hfirst h
  have hread := traceRead_holds (t := t) (k := k) hwf (recNumber bs) born
  have hsnap := traceRead_snap (k := k) (t := t) (s := s) (recNumber bs) born
  generalize traceRead k t (recNumber bs) born s = r at hu hread hsnap
  dsimp only at hu
  rw [hu]
  cases recSkipped bs
  case true =>
    have hskip := hread.upd (f := fun x => { x with sums := x.sums.skip }) rfl
    rw [traceOf, if_pos rfl, bump_traces, mTrace_traces, hskip.entry]
    refine ⟨rfl, rfl, rfl, ?_⟩
    exact congrArg (·.bump (holdKey 11 (0x40 * k + 0x20)) 1) hsnap
  case false =>
    have htake (f : Trace → Trace) : Holds {} k (f _) (tracesFree t (mTrace k f r)).traces := hread.upd rfl
    rw [traceOf, if_neg Bool.false_ne_true, (htake _).entry]
    have hpoints := Trace.pointless_tracePoints t (frameDecl s t.stream) bs ((traceOf s k).sums.used == 0) r.free
      (List.range t.pointCount) { x.judged t (recNumber bs) born with readRecords := x.readRecords + 1 }
    exact ⟨(congrArg Trace.readRecords hpoints :), (congrArg Trace.ready hpoints :), rfl, hsnap⟩

end

/-! ## TRACE_FRAME -/

section
variable {k : Nat} {t : TraceDecl} {s : State}

theorem traceFrame_of_record (hlive : functionLive s = true) (ht : traceDecl s k = some t)
    (hready : (traceOf s k).ready = false) (hrec : recordReady s t.stream (traceOf s k).readRecords = true) :
    traceFrame k s = traceRecord k t (frameRecord s t.stream (traceOf s k).readRecords)
      (recordAt s t.stream (traceOf s k).readRecords) s := by
  simp [traceFrame, ht, hlive, hready, hrec]

theorem traceFrame_of_idle (h : traceDecl s k = none ∨ (traceOf s k).ready = true ∨
    ∀ t, traceDecl s k = some t → recordReady s t.stream (traceOf s k).readRecords = false) : traceFrame k s = s := by
  unfold traceFrame
  split
  · rfl
  · next t ht =>
    refine if_pos ?_
    rcases h with h | h | h
    · exact absurd (h.symm.trans ht) (Option.some_ne_none t).symm
    · simp [h]
    · simp [h t ht]

theorem exec_traceFrame {u : State} (h : traceFrame k (fresh s) = u) : exec (.traceFrame k) s = .next (settle s u) :=
  act_of_effect h

end

/-! ## TRACE_INTERVAL_CLOSE -/

section
variable {k : Nat} {t : TraceDecl} {s : State}

/-- A detector that has closed its interval: the next one begins without a frame (R268). -/
def Trace.closed (x : Trace) : Trace :=
  { x with interval := x.interval + 1, sums := {}, peak := [], low := [], acc := [], ready := false, last := x.interval }

theorem traceClose_of_idle (h : traceDecl s k = none ∨ (traceOf s k).ready = false) : traceClose k s = s := by
  unfold traceClose
  split
  · rfl
  · next t ht =>
    rcases h with h | h
    · exact absurd (h.symm.trans ht) (Option.some_ne_none t).symm
    · exact if_pos (by simp [h])

/-- Whether the trace is written or not, the next interval begins (R268, R272). -/
theorem traceOf_traceClose (hwf : wf {} s.traces = true) (hlive : functionLive s = true) (ht : traceDecl s k = some t)
    (hready : (traceOf s k).ready = true) : traceOf (traceClose k s) k = (traceOf s k).closed := by
  have hclosed : traceOf (mTrace k Trace.closed
      (appendRecord t.dst (traceOf s k).sums.time (traceBytes s k t (traceOf s k)) s).1) k = (traceOf s k).closed :=
    traceOf_mTrace hwf (spectra_appendRecord ..)
  rw [← hclosed]
  refine traceOf_of_spectra ?_ k
  simp only [traceClose, ht, hlive, hready]
  rw [if_neg (by simp)]
  split
  · rw [spectra_measure]
    split
    · rw [spectra_pulse0, spectra_bump]
      rfl
    · rw [spectra_bump]
      rfl
  · split
    · rw [spectra_pulse0, spectra_bump]
      rfl
    · rfl

theorem exec_traceIntervalClose {u : State} (h : traceClose k (fresh s) = u) :
    exec (.traceIntervalClose k) s = .next (settle s (afterWrite u)) :=
  act_of_effect (f := fun v => afterWrite (traceClose k v)) (congrArg afterWrite h)

end
end Sys2Proof.Machine
end

section
/-! PROOF. The density planes: the records they take, the ends of their exposures and their copy passes (11 R265, R273 to
R276; log 25, 27, 129). -/

namespace Sys2Proof.Machine

/-! ## A record at a plane -/

section
variable {p : Nat} {d : PlaneDecl} {s : State}

theorem Holds.mPlane {x y : Plane} {f : Plane → Plane} (h : Holds {} p x s.planes) (hf : f x = y) :
    Holds {} p y (mPlane p f s).planes :=
  h.upd hf

theorem planeOf_mPlane {f : Plane → Plane} {u : State} (hwf : wf {} s.planes = true) (h : spectra u = spectra s) :
    planeOf (mPlane p f u) p = f (planeOf s p) :=
  (Holds.mPlane ⟨by rw [planes_of_spectra h, hwf], planeOf_of_spectra h p⟩ rfl).entry

/-- Frame at which exposure `x.exposure` of a plane ends (R274). -/
def PlaneDecl.lastFrame (d : PlaneDecl) (x : Plane) : Nat := d.firstFrame + x.exposure * d.exposure + d.exposure - 1

/-- The state in which a plane has read a record. -/
def planeRead (p j : Nat) (d : PlaneDecl) (s : State) : State :=
  mPlane p (fun y => { y with readRecords := y.readRecords + 1 }) (sharedRead d.stream j s)

theorem planeRead_holds {x : Plane} (h : Holds {} p x s.planes) (j : Nat) :
    Holds {} p { x with readRecords := x.readRecords + 1 } (planeRead p j d s).planes := by
  rw [planeRead, mPlane_planes, sharedRead_planes]
  exact h.upd rfl

/-- The increments of a frame change the active buffer alone (R273). -/
theorem incrementCells_eq (d : PlaneDecl) (cs : List CondDecl) (l : List Nat) (a : Plane × List Nat) :
    (l.foldl (incrementCell d cs) a).1 = { a.1 with active := (l.foldl (incrementCell d cs) a).1.active } :=
  List.foldlRecOn l _ (motive := fun b : Plane × List Nat => b.1 = { a.1 with active := b.1.active }) rfl
    fun b hb cell _ => congrArg (fun y : Plane => { y with active := (incrementCell d cs b cell).1.active }) hb

@[simp] theorem spectra_raiseOcc (c time : Nat) (s : State) : spectra (raiseOcc c time s) = spectra s :=
  (foldl_leaves (fun s g => spectra_mGroup g _ s) _ _).trans (spectra_bump ..)

theorem spectra_fireDensity (p born time : Nat) (s : State) (c : CondDecl) :
    spectra (fireDensity p born time s c) = spectra s := by
  refine (foldl_leaves (fun s (k : TrigCond) => spectra_raiseOcc k.cond (256 * time) s) _ _).trans ?_
  rw [spectra_measure, spectra_pulse0, spectra_bump]

/-- A used frame counts in the plane's cells and its sums; the conditions that it fires leave the plane (R273, R279). -/
theorem planeUse_holds {x : Plane} {bs : List Byte} (h : Holds {} p x s.planes) (born : Nat) :
    ∃ active, Holds {} p { x with active := active, sums := x.sums.take bs } (planeUse p d bs born s).planes := by
  have hx : planeOf s p = x := h.entry
  simp only [planeUse, hx]
  rw [planes_of_spectra (foldl_leaves (fun s i => spectra_fireDensity p born (recTime bs) s _) _ _)]
  have hcells := incrementCells_eq d ((img s).denConds.filter (fun c => c.plane == p))
    (frameCells d (frameDecl s d.stream) bs) (x, ((img s).denConds.filter (fun c => c.plane == p)).map (fun _ => 0))
  generalize (frameCells d (frameDecl s d.stream) bs).foldl _ _ = r at hcells ⊢
  rw [mPlane_planes, hcells]
  exact ⟨_, h.upd rfl⟩

end

/-! ## DENSITY_FRAME -/

section
variable {p : Nat} {d : PlaneDecl} {s : State}

theorem exec_densityFrame {u : State} (h : densityFrame p (fresh s) = u) :
    exec (.densityFrame p) s = .next (settle s u) :=
  act_of_effect h

theorem densityFrame_of_idle (h : planeDecl s p = none ∨ (planeOf s p).ready = true ∨
    ∀ d, planeDecl s p = some d → recordReady s d.stream (planeOf s p).readRecords = false) : densityFrame p s = s := by
  unfold densityFrame
  split
  · rfl
  · next d hd =>
    refine if_pos ?_
    rcases h with h | h | h
    · exact absurd (h.symm.trans hd) (Option.some_ne_none d).symm
    · simp [h]
    · simp [h d hd]

section
variable (hlive : functionLive s = true) (hd : planeDecl s p = some d) (hready : (planeOf s p).ready = false)
  (hrec : recordReady s d.stream (planeOf s p).readRecords = true)
include hlive hd hready hrec

/-- What a plane does with its stream's next record, which is complete (R265, R273, R274). -/
theorem densityFrame_of_record :
    densityFrame p s =
      let j := (planeOf s p).readRecords
      let bs := frameRecord s d.stream j
      let n := recNumber bs
      let last := d.lastFrame (planeOf s p)
      if n < d.firstFrame then planeRead p j d s
      else if last < n then mPlane p (fun x => { x with ready := true }) s
      else
        let r := planeRead p j d (mPlane p (fun x => { x with ready := n == last }) s)
        if recSkipped bs then mPlane p (fun x => { x with sums := x.sums.skip }) r
        else planeUse p d bs (recordAt s d.stream j) r := by
  simp only [densityFrame, hd]
  exact if_neg (by simp [hlive, hready, hrec])

/-- A frame of the exposure is read, and is counted as skipped or taken (R265, R273, R274). -/
theorem densityFrame_takes (hwf : wf {} s.planes = true)
    (hfirst : d.firstFrame ≤ recNumber (frameRecord s d.stream (planeOf s p).readRecords))
    (h : recNumber (frameRecord s d.stream (planeOf s p).readRecords) ≤ d.lastFrame (planeOf s p)) :
    let y := planeOf s p
    let bs := frameRecord s d.stream y.readRecords
    let z := planeOf (densityFrame p s) p
    z.readRecords = y.readRecords + 1 ∧ z.ready = (recNumber bs == d.lastFrame y) ∧
      z.sums = (if recSkipped bs then y.sums.skip else y.sums.take bs) ∧ (recSkipped bs = true → z.active = y.active) := by
  intro y bs z
  have hz : z = look {} (densityFrame p s).planes p := rfl
  rw [densityFrame_of_record hlive hd hready hrec] at hz
  dsimp only at hz
  rw [if_neg (Nat.not_lt.mpr hfirst), if_neg (Nat.not_lt.mpr h)] at hz
  have hy : Holds {} p y s.planes := ⟨hwf, rfl⟩
  have hread := planeRead_holds (d := d)
    (hy.mPlane (f := fun x => { x with ready := recNumber bs == d.lastFrame y }) rfl) y.readRecords
  cases hskip : recSkipped bs
  case true =>
    have hskipped := hread.mPlane (f := fun x => { x with sums := x.sums.skip }) rfl
    rw [if_pos hskip, hskipped.entry] at hz
    rw [hz]
    exact ⟨rfl, rfl, rfl, fun _ => rfl⟩
  case false =>
    obtain ⟨active, hused⟩ := planeUse_holds (d := d) (bs := bs) hread (recordAt s d.stream y.readRecords)
    rw [if_neg (ne_true_of_eq_false hskip), hused.entry] at hz
    rw [hz]
    exact ⟨rfl, rfl, rfl, fun hs => Bool.noConfusion hs⟩

end
end

/-! ## EXPOSURE_CLOSE -/

section
variable {p : Nat} {s : State}

theorem exec_exposureClose {u : State} (h : exposureClose p (fresh s) = u) :
    exec (.exposureClose p) s = .next (settle s u) :=
  act_of_effect h

theorem exposureClose_of_idle (h : (planeOf s p).ready = false) : exposureClose p s = s :=
  if_pos (by simp [h])

/-- The buffers change roles, and a copy pass is due (R274). -/
theorem exposureClose_swaps (hlive : functionLive s = true) (hready : (planeOf s p).ready = true)
    (hpass : (planeOf s p).pass = none) : exposureClose p s = mPlane p (fun x => { x with
      exposure := x.exposure + 1, merged := 0, ready := false, sums := {}, active := [], copyBuf := x.active
      pass := some { exposure := x.exposure, merged := x.merged + 1, sums := x.sums, started := false
                     writing := false, cell := 0, satCells := 0 } }) (bump 12 (0x40 * p) s) := by
  simp [exposureClose, hlive, hready, hpass]

/-- The exposure merges with the next one while a copy pass stands (R275). -/
theorem exposureClose_merges (hlive : functionLive s = true) (hready : (planeOf s p).ready = true)
    (hpass : (planeOf s p).pass.isSome = true) : exposureClose p s =
      pulse0 12 1 (bump 12 (0x40 * p + 0x10) (mPlane p (fun x => { x with
        exposure := x.exposure + 1, merged := x.merged + 1, ready := false }) (bump 12 (0x40 * p) s))) := by
  obtain ⟨c, hc⟩ := Option.isSome_iff_exists.mp hpass
  simp [exposureClose, hlive, hready, hc]

end

/-! ## Copy passes -/

section
variable {p : Nat} {d : PlaneDecl} {c : CopyPass} {s : State}

theorem spectra_openSpan (r a n : Nat) (data : Option (List Byte)) (q : Purpose) (s : State) :
    spectra (openSpan r a n data q s) = spectra s := by
  simp only [openSpan, openRequest]
  split <;> simp

theorem spectra_queueDensity (p i : Nat) (data : List Byte) (s : State) : spectra (queueDensity p i data s) = spectra s :=
  (foldl_leaves (fun s (x : Nat × List Byte) => spectra_openSpan 4 x.1 x.2.length (some x.2) (.denCopy p) s) _ _).trans
    (by simp)

/-- A copy pass that has begun: whether its record is written, and the saturated cells it found (R274, R276). -/
def CopyPass.begun (writing : Bool) (satCells : Nat) (c : CopyPass) : CopyPass :=
  { c with started := true, writing := writing, satCells := satCells }

theorem exec_copyPassStart {u : State} (h : copyStart p (fresh s) = u) :
    exec (.copyPassStart p) s = .next (settle s (afterWrite u)) :=
  act_of_effect (f := fun v => afterWrite (copyStart p v)) (congrArg afterWrite h)

theorem exec_copyPassEnd {u : State} (h : copyEnd p (fresh s) = u) : exec (.copyPassEnd p) s = .next (settle s u) :=
  act_of_effect h

variable (hd : planeDecl s p = some d) (hc : (planeOf s p).pass = some c)
include hd hc

/-- Whether its record is queued or dropped, the pass begins (R274, R278). -/
theorem spectra_copyStart (hlive : functionLive s = true) (hfree : copyRuns s = false) :
    spectra (copyStart p s) = spectra (mPlane p (fun x => { x with pass := some (c.begun
      (!(sleeve s d.dst).stopped && fits s d.dst (64 + 4 * d.cells))
      ((planeOf s p).copyBuf.filter (fun e => e.2 == 0xFFFFFFFF)).length) }) s) := by
  simp only [copyStart, hd, hc, hlive, hfree, CopyPass.begun]
  rw [if_neg (by simp)]
  split
  · exact spectra_queueDensity ..
  · repeat' split
    all_goals simp

theorem copyEnd_of_waiting (hstarted : c.started = true) (hwriting : c.writing = true) (hwaits : densityWaits s p = true) :
    copyEnd p s = s := by
  simp [copyEnd, hd, hc, hstarted, hwriting, hwaits]

/-- Every cell has passed, and the pass is over (R274, R276; log 26). -/
theorem spectra_copyEnd (hstarted : c.started = true) (hdone : c.writing = false ∨ densityWaits s p = false) :
    spectra (copyEnd p s) = spectra (mPlane p (fun x => { passCells d d.cells x with
      pass := none, last := c.exposure, sat := if c.writing then c.satCells != 0 else x.sat }) s) := by
  simp only [copyEnd, hd, hc, hstarted]
  rw [if_neg (by rcases hdone with h | h <;> simp [h])]
  split
  · exact (spectra_pulse0 ..).trans (spectra_bump ..)
  · rfl

end

/-! ## The statement -/

/-- Settles O52: the stamper's record, then a detector's and a plane's next one, by its frame number, and what closes. -/
theorem framesTracesAndPlanes : Obligations.FramesTracesAndPlanes := by
  unfold Obligations.FramesTracesAndPlanes
  intro s k p j hplanes htraces hframes hlive f d x y bsT bsP readT readP go ecc endT endP
  refine ⟨exec_frameStamp_of_idle, ?stamp, sharedRead_again, sharedRead_first, ?trace,
    fun h => exec_traceFrame (traceFrame_of_idle (s := fresh s) h),
    fun h => exec_traceIntervalClose (traceClose_of_idle (s := fresh s) h), ?close,
    fun h => exec_densityFrame (densityFrame_of_idle (s := fresh s) h), ?plane,
    fun h => exec_exposureClose (exposureClose_of_idle (s := fresh s) h), ?swap, ?merge, ?pass⟩
  case stamp =>
    intro hrows hbytes hleft hbuf
    obtain ⟨t, ht, h⟩ := exec_frameStamp_of_header hframes hlive hrows hbytes hleft hbuf
    exact ⟨t, ht, h.next, h.buf, h.left, fun hgo => ⟨h.told hgo, h.shown hgo, h.storing hgo⟩, h.dropped⟩
  case trace =>
    intro t ht hready hrec
    have hframe := traceFrame_of_record (s := fresh s) hlive ht hready hrec
    refine ⟨fun hn => ?before, fun hfirst hlast => ?beyond, fun hfirst hlast => ?within⟩
    case before =>
      rw [exec_traceFrame (hframe.trans (traceRecord_before hn)), mTrace, sharedRead_traces]
      rfl
    case beyond =>
      have hends (f : Trace → Trace) : traceOf (settle s (mTrace k f (fresh s))) k = f x := traceOf_mTrace htraces rfl
      refine ⟨_, exec_traceFrame (hframe.trans (traceRecord_beyond hfirst hlast)), ?_⟩
      rw [hends]
      exact ⟨rfl, rfl, rfl⟩
    case within => exact ⟨_, exec_traceFrame hframe, traceRecord_takes (s := fresh s) htraces hfirst hlast⟩
  case close =>
    intro t ht hready
    have hclosed : traceOf (settle s (afterWrite (traceClose k (fresh s)))) k = x.closed :=
      (traceOf_of_spectra ((spectra_settle ..).trans (spectra_afterWrite _)) k).trans
        (traceOf_traceClose htraces hlive ht hready)
    refine ⟨_, exec_traceIntervalClose rfl, ?_⟩
    rw [hclosed]
    exact ⟨rfl, rfl, rfl, rfl, rfl, rfl, rfl⟩
  case plane =>
    intro t ht hready hrec
    have hframe := densityFrame_of_record (s := fresh s) hlive ht hready hrec
    refine ⟨fun hn => ?before, fun hfirst hlast => ?beyond, fun hfirst hlast => ?within⟩
    case before =>
      rw [exec_densityFrame (hframe.trans (if_pos hn)), planeRead, mPlane, sharedRead_planes]
      rfl
    case beyond =>
      exact exec_densityFrame (hframe.trans ((if_neg (Nat.not_lt.mpr hfirst)).trans (if_pos hlast)))
    case within =>
      exact ⟨_, exec_densityFrame rfl, densityFrame_takes (s := fresh s) hlive ht hready hrec hplanes hfirst hlast⟩
  case swap =>
    intro hready hpass
    rw [exec_exposureClose (exposureClose_swaps (s := fresh s) hlive hready hpass), mPlane, bump_planes]
    rfl
  case merge =>
    intro hready hpass
    refine ⟨_, exec_exposureClose (exposureClose_merges (s := fresh s) hlive hready hpass), ?_, rfl⟩
    exact (planeOf_of_spectra ((spectra_settle ..).trans ((spectra_pulse0 ..).trans (spectra_bump ..))) p).trans
      (planeOf_mPlane hplanes ((spectra_bump ..).trans (spectra_fresh s)))
  case pass =>
    intro t c ht hc
    refine ⟨fun hwaits hfree => ?start, fun hstarted hdone => ?ends, fun hstarted hwriting hwaits => ?waits⟩
    case start =>
      have hstart : planeOf (settle s (afterWrite (copyStart p (fresh s)))) p = _ :=
        (planeOf_of_spectra ((spectra_settle ..).trans ((spectra_afterWrite _).trans
          (spectra_copyStart (s := fresh s) ht hc hlive hfree))) p).trans (planeOf_mPlane hplanes rfl)
      refine ⟨_, _, exec_copyPassStart rfl, congrArg Plane.pass hstart, rfl, rfl, rfl, rfl⟩
    case ends =>
      have hends : planeOf (settle s (copyEnd p (fresh s))) p = _ :=
        (planeOf_of_spectra (spectra_copyEnd (s := fresh s) ht hc hstarted hdone) p).trans (planeOf_mPlane hplanes rfl)
      exact ⟨_, exec_copyPassEnd rfl, congrArg Plane.pass hends, congrArg Plane.last hends⟩
    case waits => exact exec_copyPassEnd (copyEnd_of_waiting (s := fresh s) ht hc hstarted hwriting hwaits)

end Sys2Proof.Machine
end

section
/-! PROOF. What a record or an event generated leaves of its context (12 R296 to R303; log 127). -/

namespace Sys2Proof.Machine

/-! ## A context in a state -/

/-- The contexts of a state stand in canonical form, and `P` holds of context `c`. -/
structure Stands (c : Nat) (P : Context → Prop) (s : State) : Prop where
  canonical : wf {} s.ctxs = true
  holds : P (ctxOf s c)

section
variable {c : Nat} {P Q : Context → Prop} {s t : State}

theorem Stands.mono (h : Stands c P s) (hPQ : ∀ x, P x → Q x) : Stands c Q s := ⟨h.canonical, hPQ _ h.holds⟩

theorem Stands.of_ctxs (h : Stands c P s) (ht : t.ctxs = s.ctxs) : Stands c P t where
  canonical := by rw [ht, h.canonical]
  holds := by rw [ctxOf, ht]; exact h.holds

theorem Stands.of_upd {f : Context → Context} (h : Stands c P s) (ht : t.ctxs = upd {} c f s.ctxs)
    (hf : ∀ x, P x → Q (f x)) : Stands c Q t := by
  have hupd : Holds {} c (f (ctxOf s c)) (upd {} c f s.ctxs) := Holds.upd ⟨h.canonical, rfl⟩ rfl
  refine ⟨by rw [ht, hupd.canonical], ?_⟩
  rw [ctxOf, ht, hupd.entry]
  exact hf _ h.holds

/-- A change of the context itself. -/
theorem Stands.change {f : Context → Context} (h : Stands c P s) (hf : ∀ x, P x → Q (f x)) : Stands c Q (mCtx c f s) :=
  h.of_upd rfl hf

theorem Stands.counted (h : Stands c P s) (n off : Nat) : Stands c P (bump n off s) := h.of_ctxs (bump_ctxs ..)

theorem Stands.pulsed (h : Stands c P s) (n bit : Nat) : Stands c P (pulse0 n bit s) := h.of_ctxs rfl

theorem Stands.noted (h : Stands c P s) (n bit m off : Nat) : Stands c P (pulse0 n bit (bump m off s)) :=
  (h.counted m off).pulsed ..

theorem Stands.sleeved (h : Stands c P s) (i : Nat) (f : Sleeve → Sleeve) : Stands c P (mSleeve i f s) := h.of_ctxs rfl

theorem Stands.ite {p : Prop} [Decidable p] (hs : p → Stands c P s) (ht : ¬ p → Stands c P t) :
    Stands c P (if p then s else t) := by
  split
  · exact hs ‹_›
  · exact ht ‹_›

theorem Stands.foldl {α : Type} {f : State → α → State} (h : Stands c P s)
    (hf : ∀ s a, Stands c P s → Stands c P (f s a)) (l : List α) : Stands c P (l.foldl f s) :=
  List.foldlRecOn l f (motive := Stands c P) h fun s hs a _ => hf s a hs

end

/-! ## What a context tallies with its records -/

/-- A context without what a record's generation tallies: its number, the bits it carried and the losses counted. -/
def Context.untallied (x : Context) : Context :=
  { x with seq := 0, gapFlag := false, sat := false, discarded := 0, eventsLost := 0, samplesLost := 0 }

/-- A property of contexts that does not look at the tallies. -/
def TallyBlind (P : Context → Prop) : Prop := ∀ x y, y.untallied = x.untallied → P x → P y

section
variable {c : Nat} {s : State} {P : Context → Prop} (hP : TallyBlind P) (h : Stands c P s)
include hP h

theorem stands_nextSeq : Stands c P (nextSeq c s) := h.change fun x => hP x _ rfl

theorem stands_clearFallback : Stands c P (clearFallback c s) := h.change fun x => hP x _ rfl

theorem stands_discardRecord (n : Nat) : Stands c P (discardRecord c n s) := by
  refine Stands.counted (h.change ?_) ..
  exact fun x => hP x _ rfl

theorem stands_loseEvent : Stands c P (loseEvent c s) := by
  refine Stands.noted (h.change ?_) ..
  exact fun x => hP x _ rfl

theorem stands_carryOver : Stands c P (carryOver c s) :=
  have hcleared : Stands c P (mCtx c (fun x => { x with gapFlag := false, sat := false }) s) :=
    h.change fun x => hP x _ rfl
  .ite (fun _ => hcleared.noted ..) fun _ => hcleared

end

/-! ## The beginning of a fall-back -/

/-- Where a context stands: rows taken, the index of its next row and its phase. -/
def Context.place (x : Context) : Nat × Nat × Nat := (x.stored, x.row, x.phase)

/-- What a record generated leaves of a context `x`: its place, its interval, and no IQ record where none was open. -/
structure Context.Records (x y : Context) : Prop where
  place : y.place = x.place
  interval : y.interval = x.interval
  detCount : y.detCount = x.detCount
  iq : x.iq = [] → y.iq = []

/-- A context `x` in fall-back with no IQ record open, its queue being `q` (R299, R301). -/
structure Context.FallsBack (x : Context) (q : List CtxRecord) (y : Context) : Prop extends x.Records y where
  fallback : y.fallback = true
  closed : y.iq = []
  queue : y.queue = q

theorem Context.tallyBlind_fallsBack {x : Context} {q : List CtxRecord} : TallyBlind (x.FallsBack q) :=
  fun _ _ h hy => {
    place := (congrArg Context.place h :).trans hy.place
    interval := (congrArg Context.interval h :).trans hy.interval
    detCount := (congrArg Context.detCount h :).trans hy.detCount
    iq := fun _ => (congrArg Context.iq h :).trans hy.closed
    fallback := (congrArg Context.fallback h :).trans hy.fallback
    closed := (congrArg Context.iq h :).trans hy.closed
    queue := (congrArg Context.queue h :).trans hy.queue }

/-- The queue with one record more, in the reserved place. -/
def Reserving (q : List CtxRecord) (P : List CtxRecord → Context → Prop) (y : Context) : Prop :=
  ∃ w : CtxRecord, w.reserved = true ∧ P (q ++ [w]) y

section
variable {c : Nat} {s : State}

theorem tallyBlind_reserving {q : List CtxRecord} {P : List CtxRecord → Context → Prop} (h : ∀ q, TallyBlind (P q)) :
    TallyBlind (Reserving q P) :=
  fun x y hxy ⟨w, hw, hx⟩ => ⟨w, hw, h _ x y hxy hx⟩

theorem stands_queueCtx_reserved {q : List CtxRecord} {P : List CtxRecord → Context → Prop} (h : Stands c (P q) s)
    (hqueue : ∀ x, P q x → x.queue = q) (hP : ∀ x q', P q x → P q' { x with queue := q' })
    (bs : List Byte) (input : Nat) :
    Stands c (Reserving q P) (queueCtx c bs input true s) := by
  refine h.change fun x hx => ?_
  rw [hqueue x hx]
  exact ⟨_, rfl, hP x _ hx⟩

/-- The open IQ record is discarded and FALLBACK_ENTER waits in the reserved place (R299, R301). -/
theorem stands_enterFallback (h : wf {} s.ctxs = true) (cause time : Nat) :
    Stands c (Reserving (ctxOf s c).queue (ctxOf s c).FallsBack) (enterFallback c cause time s) := by
  have hblind : TallyBlind ((ctxOf s c).FallsBack (ctxOf s c).queue) := Context.tallyBlind_fallsBack
  have hreserved : TallyBlind (Reserving (ctxOf s c).queue (ctxOf s c).FallsBack) :=
    tallyBlind_reserving fun _ => Context.tallyBlind_fallsBack
  have hbegun : Stands c ((ctxOf s c).FallsBack (ctxOf s c).queue)
      (mCtx c (fun x => { x with fallback := true, iq := [], iqFlags := 0, iqUnsettled := 0 }) s) :=
    Stands.change (P := (ctxOf s c = ·)) ⟨h, rfl⟩ fun _ hx => hx ▸ ⟨⟨rfl, rfl, rfl, fun _ => rfl⟩, rfl, rfl, rfl⟩
  refine Stands.noted (stands_carryOver hreserved (stands_nextSeq hreserved (stands_queueCtx_reserved (.ite
    (fun _ => hbegun) fun _ => stands_nextSeq hblind (stands_discardRecord hblind hbegun _)) (fun _ hx => hx.queue)
    (fun _ _ hx => ⟨⟨hx.place, hx.interval, hx.detCount, hx.iq⟩, hx.fallback, hx.closed, rfl⟩) ..))) ..

end

/-! ## A record or an event generated -/

/-- A property of contexts that a record generated does not end. -/
def Lasting (P : Context → Prop) : Prop := ∀ x y, x.Records y → P x → P y

theorem Lasting.tallyBlind {P : Context → Prop} (h : Lasting P) : TallyBlind P :=
  fun x y hxy => h x y ⟨(congrArg Context.place hxy :), (congrArg Context.interval hxy :),
    (congrArg Context.detCount hxy :), (congrArg Context.iq hxy :).trans⟩

theorem lasting_place (v : Nat × Nat × Nat) : Lasting (·.place = v) := fun _ _ h hx => h.place.trans hx

theorem lasting_noIq : Lasting (·.iq = []) := fun _ _ h hx => h.iq hx

section
variable {c cls n time cycles : Nat} {d : ContextDecl} {s : State} {P : Context → Prop}

@[simp] theorem measure_ctxs : (measure cls n cycles s).ctxs = s.ctxs := by
  simp only [measure]
  repeat' split
  · rfl
  · rfl
  · exact bump_ctxs ..
  · exact logEvent_ctxs ..

theorem stands_raiseOcc (h : Stands c P s) : Stands c P (raiseOcc n time s) := by
  refine Stands.foldl (h.counted ..) ?_ _
  exact fun s g h => h.of_ctxs rfl

variable (hP : Lasting P) (h : Stands c P s)
include hP h

theorem stands_queueCtx (bs : List Byte) (input : Nat) (reserved : Bool) :
    Stands c P (queueCtx c bs input reserved s) :=
  h.change fun x => hP x _ ⟨rfl, rfl, rfl, id⟩

theorem stands_putRecord (kind : Nat) (bs : List Byte) (samples time input : Nat) :
    Stands c P (putRecord c kind bs samples time input s) :=
  have hnumbered : Stands c P (carryOver c (nextSeq c s)) :=
    stands_carryOver hP.tallyBlind (stands_nextSeq hP.tallyBlind h)
  have hdropped {t : State} (ht : Stands c P t) :
      Stands c P (if kind = 3 then loseEvent c t else discardRecord c samples t) :=
    .ite (fun _ => stands_loseEvent hP.tallyBlind ht) fun _ => stands_discardRecord hP.tallyBlind ht _
  have hcleared := hdropped (stands_clearFallback hP.tallyBlind hnumbered)
  .ite (fun _ => hdropped hnumbered) fun _ => .ite (fun _ => stands_queueCtx hP hnumbered ..) fun _ =>
    .ite (fun _ => hdropped hnumbered) fun _ => (stands_enterFallback hcleared.canonical ..).mono
      fun y ⟨_, _, hy⟩ => hP _ y hy.toRecords hcleared.holds

theorem stands_closeIq (part : Bool) : Stands c P (closeIq c part s) := by
  refine .ite (fun _ => h) fun _ => stands_putRecord hP (h.change ?_) ..
  exact fun x => hP x _ ⟨rfl, rfl, rfl, fun _ => rfl⟩

theorem stands_ctxEvent (rise : Bool) (value thr time input marks : Nat) :
    Stands c P (ctxEvent c d rise value thr time input marks s) := by
  refine .ite (fun _ => stands_putRecord hP ?_ ..) fun _ => ?_
  all_goals
    refine .ite (fun _ => ?told) fun _ => .counted (h.change ?_) ..
    case told =>
      refine Stands.of_ctxs (.foldl (.counted (h.change ?_) ..) (fun _ _ h => stands_raiseOcc h) _) measure_ctxs
      exact fun x => hP x _ ⟨rfl, rfl, rfl, id⟩
    exact fun x => hP x _ ⟨rfl, rfl, rfl, id⟩

theorem stands_threshold (wide value time input marks : Nat) :
    Stands c P (threshold c d wide value time input marks s) :=
  .ite (fun _ => stands_ctxEvent hP h ..) fun _ => .ite (fun _ => stands_ctxEvent hP h ..) fun _ => h

end

end Sys2Proof.Machine
end

section
/-! PROOF. A context's intervals, fades, rows and outputs, and where they leave it (12 R285 to R299, R305). -/

namespace Sys2Proof.Machine

/-! ## Detector intervals and resets -/

section
variable {c : Nat} {d : ContextDecl} {s : State} {P Q : Context → Prop} {v : Nat × Nat × Nat}

/-- The next interval begins with nothing taken; the record of the one that closes ends nothing else (R296). -/
theorem stands_closeDet (hQ : Lasting Q) (h : Stands c P s) (hcount : (ctxOf s c).detCount ≠ 0)
    (hnext : ∀ x, P x → Q { x with
      interval := x.interval + 1, detCount := 0, detPeak := 0, detMin := 0, detSum := 0, detFlags := 0 })
    (part : Bool) : Stands c Q (closeDet c d part s) := by
  have hclosed := h.change hnext
  have hwritten {bs : List Byte} {time input : Nat} {settled : Bool} {t : State} (ht : Stands c Q t) :
      Stands c Q (putRecord c 2 bs 0 time input
        (mCtx c (fun x => { x with settledDue := x.settledDue && !settled }) t)) := by
    refine stands_putRecord hQ (ht.change ?_) ..
    exact fun x => hQ x _ ⟨rfl, rfl, rfl, id⟩
  rw [closeDet, if_neg hcount]
  exact .ite (fun _ => stands_threshold hQ (.ite (fun _ => hwritten hclosed) fun _ => hclosed) ..)
    fun _ => .ite (fun _ => hwritten hclosed) fun _ => hclosed

variable (h : Stands c (·.place = v) s)
include h

theorem closeDet_keeps_place (part : Bool) : Stands c (·.place = v) (closeDet c d part s) := by
  by_cases hcount : (ctxOf s c).detCount = 0
  · rwa [closeDet, if_pos hcount]
  · exact stands_closeDet (lasting_place v) h hcount (fun _ hx => hx) part

/-- A reset is at the next row still; only the phase begins anew (R293). -/
theorem stands_resetContext : Stands c (fun y => y.stored = v.1 ∧ y.row = v.2.1) (resetContext c d s) := by
  have hclosed := closeDet_keeps_place (d := d) (stands_closeIq (lasting_place v) h true) true
  refine .ite (fun _ => Stands.noted (hclosed.change ?_) ..)
    fun _ => Stands.counted (hclosed.change ?_) ..
  all_goals exact fun x hx => hx ▸ ⟨rfl, rfl⟩

end

/-! ## Fades -/

/-- A bank's coefficients written, one after another: the rest of the context stays. -/
theorem Context.foldl_setBank (l : List (Nat × Nat × Nat × Int)) (x : Context) : ∃ a b,
    l.foldl (fun x h => x.setBank h.1 h.2.1 h.2.2.1 h.2.2.2) x = { x with bankA := a, bankB := b } := by
  induction l generalizing x with
  | nil => exact ⟨x.bankA, x.bankB, rfl⟩
  | cons p l ih =>
    obtain ⟨a, b, hl⟩ := ih (x.setBank p.1 p.2.1 p.2.2.1 p.2.2.2)
    refine ⟨a, b, hl.trans ?_⟩
    unfold setBank
    split <;> rfl

/-- A swap request outside a fade begins one, if it is for the other bank (R291). -/
theorem Context.swap_of_no_fade {x : Context} (h : x.fade = none) (b : Nat) :
    x.swap b = if b = x.bank then x else { x with fade := some { source := x.bank, target := b, pos := 0 } } := by
  simp [Context.swap, h]

@[simp] theorem Context.place_swap (x : Context) (b : Nat) : (x.swap b).place = x.place := by
  unfold Context.swap
  repeat' split
  all_goals rfl

@[simp] theorem Context.place_setBank (x : Context) (b t k : Nat) (v : Int) : (x.setBank b t k v).place = x.place := by
  unfold Context.setBank
  split <;> rfl

/-- A context `x` whose fade `f` has ended: the bank faded to is in force, the coefficients held for the other have been
written, and a held request for another bank has begun the next fade (R291, R292). -/
structure Context.FadeEnds (f : Fade) (x y : Context) : Prop where
  place : y.place = x.place
  bank : y.bank = f.target
  heldBank : y.heldBank = none
  idle : x.heldBank = none → y.fade = none
  next : ∀ b, x.heldBank = some b → b ≠ f.target → y.fade = some { source := f.target, target := b, pos := 0 }
  coefs : y.heldCoefs = x.heldCoefs.filter (fun h => h.1 != f.source)

section
variable {c : Nat} {d : ContextDecl} {f : Fade} {s : State} {v : Nat × Nat × Nat}

theorem endFade_of_running (hd : ctxDecl s c = some d)
    (h : (ctxOf s c).fade = none ∨ ∃ f, (ctxOf s c).fade = some f ∧ f.pos < d.xfLen) : endFade c s = s := by
  rcases h with h | ⟨f, hf, hpos⟩
  · simp [endFade, hd, h]
  · simp [endFade, hd, hf, hpos]

theorem stands_endFade (hwf : wf {} s.ctxs = true) (hd : ctxDecl s c = some d) (hf : (ctxOf s c).fade = some f)
    (hpos : d.xfLen ≤ f.pos) : Stands c ((ctxOf s c).FadeEnds f) (endFade c s) := by
  simp only [endFade, hd, hf]
  rw [if_neg (Nat.not_lt.mpr hpos)]
  refine Stands.change (P := (ctxOf s c = ·)) ⟨hwf, rfl⟩ ?_
  rintro _ rfl
  obtain ⟨a, b, hbanks⟩ := Context.foldl_setBank ((ctxOf s c).heldCoefs.filter (fun h => h.1 == f.source))
    { ctxOf s c with
      bank := f.target, fade := none, heldCoefs := (ctxOf s c).heldCoefs.filter (fun h => h.1 != f.source) }
  simp only [hbanks]
  cases hheld : (ctxOf s c).heldBank with
  | none => exact ⟨rfl, rfl, rfl, fun _ => rfl, fun _ hb => by simp [hheld] at hb, rfl⟩
  | some n =>
    dsimp only
    rw [Context.swap_of_no_fade rfl]
    split
    case isTrue heq =>
      refine ⟨rfl, rfl, rfl, fun hb => by simp [hheld] at hb, fun m hm hne => absurd ?_ hne, rfl⟩
      exact (Option.some.inj (hheld.symm.trans hm)).symm.trans heq
    case isFalse =>
      refine ⟨rfl, rfl, rfl, fun hb => by simp [hheld] at hb, fun m hm _ => ?_, rfl⟩
      rw [Option.some.inj (hheld.symm.trans hm)]

theorem endFade_keeps_place (h : Stands c (·.place = v) s) : Stands c (·.place = v) (endFade c s) := by
  cases hd : ctxDecl s c with
  | none => simpa only [endFade, hd] using h
  | some d =>
    cases hf : (ctxOf s c).fade with
    | none => rwa [endFade_of_running hd (.inl hf)]
    | some f =>
      rcases Nat.lt_or_ge f.pos d.xfLen with hpos | hpos
      · rwa [endFade_of_running hd (.inr ⟨f, hf, hpos⟩)]
      · exact (stands_endFade h.canonical hd hf hpos).mono fun y hy => hy.place.trans h.holds

end

/-! ## Values that come into force -/

section
variable {c t : Nat} {d : ContextDecl} {s : State} {v : Nat × Nat × Nat}

@[simp] theorem Context.place_setRow (x : Context) (field : Nat) (w : Word) : (x.setRow field w).1.place = x.place := by
  have htuned (n : Nat) : { x with tw := n }.place = x.place := rfl
  unfold Context.setRow
  split
  case h_1 | h_2 => exact htuned _
  case h_8 =>
    repeat' split
    all_goals rfl
  all_goals rfl

variable (h : Stands c (·.place = v) s)
include h

theorem rowValues_keeps_place : Stands c (·.place = v) (rowValues c t s) := by
  refine h.change fun x hx => ?_
  exact List.foldlRecOn _ _ (motive := (Context.place · = v)) hx fun y hy p _ =>
    (Context.place_setRow y p.2.1 p.2.2).trans hy

theorem outValue_keeps_place (p : Nat × Nat × Word) : Stands c (·.place = v) (outValue c s p) := by
  refine .ite (fun _ => ?swap) fun _ => .ite (fun _ => ?held) fun _ => ?written
  case swap => exact h.change fun x hx => (x.place_swap _).trans hx
  case held => exact Stands.noted (h.change fun x hx => hx) ..
  case written => exact h.change fun x hx => (x.place_setBank ..).trans hx

theorem outValues_keeps_place : Stands c (·.place = v) (outValues c t s) := by
  refine Stands.foldl (h.change ?_) (fun s p hs => outValue_keeps_place hs p) _
  exact fun x hx => hx

end

/-! ## Outputs -/

section
variable {c time input : Nat} {d : ContextDecl} {s : State} {v : Nat × Nat × Nat}

theorem settle_of_early (hd : ctxDecl s c = some d) (h : (ctxOf s c).settled = true ∨ (ctxOf s c).resetDue = true ∨
    (ctxOf s c).out < settleLen d (ctxOf s c).stages) : settle_ c s = s := by
  simp only [settle_, hd]
  refine if_neg ?_
  rcases h with h | h | h <;> simp [h]

theorem settle_of_due (hd : ctxDecl s c = some d) (hsettled : (ctxOf s c).settled = false)
    (hreset : (ctxOf s c).resetDue = false) (hout : settleLen d (ctxOf s c).stages ≤ (ctxOf s c).out) :
    settle_ c s = mCtx c (fun x => { x with settled := true, settledDue := true }) s := by
  simp [settle_, hd, hsettled, hreset, hout]

theorem settle_keeps_place (h : Stands c (·.place = v) s) : Stands c (·.place = v) (settle_ c s) := by
  unfold settle_
  split
  · exact .ite (fun _ => h.change fun _ hx => hx) fun _ => h
  · exact h

theorem closeFull_keeps_place (h : Stands c (·.place = v) s) : Stands c (·.place = v) (closeFull c d s) :=
  have hclosed := stands_closeIq (lasting_place v) h false
  .ite (fun _ => closeDet_keeps_place (.ite (fun _ => hclosed) fun _ => h) false)
    fun _ => .ite (fun _ => hclosed) fun _ => h

theorem iqSample_keeps_place (y : Cx) (unsettled : Bool) (h : Stands c (·.place = v) s) :
    Stands c (·.place = v) (iqSample c d y unsettled time s) :=
  .ite (fun _ => h) fun _ => h.change fun _ hx => hx

theorem ctxOutput_keeps_place (u : Cx) (h : Stands c (·.place = v) s) :
    Stands c (·.place = v) (ctxOutput c d u time input s) := by
  have hdue := settle_keeps_place (closeFull_keeps_place (d := d)
    (outValues_keeps_place (t := time / 256) (endFade_keeps_place h)))
  have hfiltered {f g : Context → Context} (hf : ∀ x : Context, (f x).place = x.place)
      (hg : ∀ x : Context, (g x).place = x.place) : Stands c (·.place = v) (mCtx c g (mCtx c f
        (settle_ c (closeFull c d (outValues c (time / 256) (endFade c s)))))) :=
    (hdue.change fun x hx => (hf x).trans hx).change fun x hx => (hg x).trans hx
  have hemitted {f : Context → Context} {t : State} {y : Cx} {b : Bool} {p : Nat} (ht : Stands c (·.place = v) t)
      (hf : ∀ x : Context, (f x).place = x.place) :
      Stands c (·.place = v) (detSample c p b time (iqSample c d y b time (bump 13 (0x40 * c) (mCtx c f t)))) :=
    (iqSample_keeps_place y b ((ht.change fun x hx => (hf x).trans hx).counted ..)).change fun _ hx => hx
  refine .ite (fun _ => hfiltered (fun _ => rfl) fun _ => rfl) fun _ => .ite (fun _ => ?_) fun _ =>
    stands_threshold (lasting_place v) ?_ ..
  all_goals exact hemitted (hfiltered (fun _ => rfl) fun _ => rfl) fun _ => rfl

end

/-! ## A row of the source sleeve -/

section
variable {c : Nat} {d : ContextDecl} {s : State} {x : Context}

@[simp] theorem ctxAdvance_ctxs (i : Nat) (s : State) : (ctxAdvance i s).ctxs = s.ctxs := by
  simp only [ctxAdvance, mCtxReader]
  split <;> rfl

/-- A row before its samples are taken: the values due come into force, then the reset due (R293, R305). -/
def rowBegun (c : Nat) (d : ContextDecl) (s : State) : State :=
  let t := rowValues c (rowFine s d (ctxOf s c).row / 256) s
  if (ctxOf t c).resetDue then resetContext c d t else t

theorem rowBegun_stands (hwf : wf {} s.ctxs = true) :
    Stands c (fun y => y.stored = (ctxOf s c).stored ∧ y.row = (ctxOf s c).row) (rowBegun c d s) := by
  have hvalued : Stands c (·.place = (ctxOf s c).place) _ :=
    rowValues_keeps_place (t := rowFine s d (ctxOf s c).row / 256) ⟨hwf, rfl⟩
  exact .ite (fun _ => stands_resetContext hvalued) fun _ => hvalued.mono fun y hy =>
    ⟨(congrArg Prod.fst hy :), (congrArg (·.2.1) hy :)⟩

/-- With no value and no reset due, nothing of the context changes before the row. -/
theorem rowBegun_quiet (hwf : wf {} s.ctxs = true) (hreset : (ctxOf s c).resetDue = false)
    (hvalues : (ctxOf s c).rowPending = []) : ctxOf (rowBegun c d s) c = ctxOf s c := by
  have hvalued : Stands c (ctxOf s c = ·) (rowValues c (rowFine s d (ctxOf s c).row / 256) s) := by
    refine Stands.change (P := (ctxOf s c = ·)) ⟨hwf, rfl⟩ ?_
    rintro _ rfl
    simp only [hvalues, List.filter_nil, List.foldl_nil]
    rw [← hvalues]
  rw [rowBegun, if_neg (by rw [← hvalued.holds, hreset]; decide), ← hvalued.holds]

/-- The row is taken where the context stands then: one row further, the phase by one tuning word (R285, R287). -/
theorem takeRow_stands (hwf : wf {} s.ctxs = true) : Stands c (fun y =>
    y.stored = (ctxOf s c).stored + 1 ∧ y.row = (ctxOf s c).row + 1 ∧
    y.phase = ((ctxOf (rowBegun c d s) c).phase + (ctxOf (rowBegun c d s) c).tw) % 2 ^ 48) (takeRow c d s) := by
  obtain ⟨hcanonical, hstored, hrow⟩ := rowBegun_stands (d := d) hwf
  have hplace (x : Context) (n m p : Nat) (g : List Stage) (b : Bool) :
      { x with stored := n, row := m, phase := p, stages := g, sat := b }.place = (n, m, p) := rfl
  have hread (g : List Stage) (b : Context → Bool) : Stands c (·.place = ((ctxOf s c).stored + 1, (ctxOf s c).row + 1,
      ((ctxOf (rowBegun c d s) c).phase + (ctxOf (rowBegun c d s) c).tw) % 2 ^ 48)) (mCtx c (fun x => { x with
      stored := x.stored + 1, row := x.row + 1, phase := (x.phase + x.tw) % 2 ^ 48, stages := g, sat := b x })
      (rowBegun c d s)) := by
    refine Stands.change (P := (ctxOf (rowBegun c d s) c = ·)) ⟨hcanonical, rfl⟩ ?_
    rintro _ rfl
    rw [hplace, hstored, hrow]
  refine Stands.mono (P := (·.place = (_, _, _))) (Stands.of_ctxs ?_ (ctxAdvance_ctxs d.src _)) fun y hy =>
    ⟨(congrArg Prod.fst hy :), (congrArg (·.2.1) hy :), (congrArg (·.2.2) hy :)⟩
  split
  · exact ctxOutput_keeps_place _ (hread _ _)
  · exact hread _ _

end

end Sys2Proof.Machine
end

section
/-! PROOF. The narrowband contexts: rows taken and lost, what closes, records offered, and fall-back (12 R285 to
R303). -/

namespace Sys2Proof.Machine

/-! ## Rows taken and lost -/

section
variable {c : Nat} {d : ContextDecl} {s : State} (hd : ctxDecl s c = some d) (hlive : functionLive s = true)
include hd

theorem contextRow_of_absent (h : rowReady s d (ctxOf s c) = false) : contextRow c s = s := by
  simp [contextRow, hd, h]

/-- A context that has lost `n` rows of its source and `m` more that never came to it has a reset due (R286). -/
structure Context.Loses (n m : Nat) (x y : Context) : Prop where
  resetDue : y.resetDue = true
  gapDue : y.gapDue = true
  stored : y.stored = x.stored + n
  row : y.row = x.row + n + m

include hlive

theorem contextRow_of_ready (h : rowReady s d (ctxOf s c) = true) : contextRow c s = takeRow c d s := by
  simp [contextRow, hd, hlive, h]

theorem stands_contextLoss (hwf : wf {} s.ctxs = true) {l : InputLoss} (h : ctxLoss s d (ctxOf s c) = some l) :
    Stands c (fun y => y.passed = (ctxOf s c).passed + 1 ∧ (ctxOf s c).Loses
      ((l.stop - (ctxOf s c).stored * (8 * d.stride) + 8 * d.stride - 1) / (8 * d.stride))
      (l.blocks * 4096 / (8 * d.stride)) y) (contextLoss c s) := by
  simp only [contextLoss, hd, hlive, h]
  refine Stands.of_ctxs (Stands.change (P := (ctxOf s c = ·)) ⟨hwf, rfl⟩ ?_) (ctxAdvance_ctxs ..)
  rintro _ rfl
  exact ⟨rfl, rfl, rfl, rfl, rfl⟩

/-- A row that a marker of the raw sleeve tears is lost when it has landed (log 128). -/
theorem stands_contextLoss_torn (hwf : wf {} s.ctxs = true) (h : ctxLoss s d (ctxOf s c) = none)
    (htorn : rowTorn s d (ctxOf s c).row = true)
    (hlanded : (landedAt s d.src ((ctxOf s c).stored * (8 * d.stride) + 8 * (d.stride - 1))).isSome = true) :
    Stands c ((ctxOf s c).Loses 1 0) (contextLoss c s) := by
  simp only [contextLoss, hd, hlive, h, htorn, hlanded]
  refine Stands.of_ctxs (Stands.change (P := (ctxOf s c = ·)) ⟨hwf, rfl⟩ ?_) (ctxAdvance_ctxs ..)
  rintro _ rfl
  exact ⟨rfl, rfl, rfl, rfl⟩

omit hlive in
theorem contextLoss_of_none (h : ctxLoss s d (ctxOf s c) = none) (hwhole : rowTorn s d (ctxOf s c).row = false ∨
    landedAt s d.src ((ctxOf s c).stored * (8 * d.stride) + 8 * (d.stride - 1)) = none) : contextLoss c s = s := by
  rcases hwhole with htorn | hlanded
  · simp [contextLoss, hd, h, htorn]
  · simp [contextLoss, hd, h, hlanded]

end

/-! ## Records offered -/

section
variable {c : Nat} {d : ContextDecl} {r : CtxRecord} {s : State}

/-- An open request is the last of its requester's queue, with or without a tag (R167). -/
theorem waiting_openRequest (q a n : Nat) (data : Option (List Byte)) (p : Purpose) (s : State) :
    ∃ w, waiting (openRequest q a n data p s) q = waiting s q ++ [w] ∧ w.data = data ∧ w.purpose = p ∧ w.len = n := by
  refine ⟨{ addr := a, len := n, data := data, purpose := p, tag := !tagWaits s q && tagFree s q }, ?_, rfl, rfl, rfl⟩
  simp only [waiting, openRequest, mStore_store, upd]
  rw [look_put_of_ne_default (by simp), if_pos rfl]
  split <;> simp [mStore]

theorem stands_openRequest {P : Context → Prop} (h : Stands c P s) (q a n : Nat) (data : Option (List Byte))
    (p : Purpose) : Stands c P (openRequest q a n data p s) := by
  refine h.of_ctxs ?_
  simp only [openRequest]
  split <;> simp

theorem offerRecord_of_none (h : (ctxOf s c).queue.find? (fun r => !r.offered) = none) : offerRecord c s = s := by
  cases hd : ctxDecl s c <;> simp [offerRecord, hd, h]

variable (hd : ctxDecl s c = some d) (hr : (ctxOf s c).queue.find? (fun r => !r.offered) = some r)
include hd hr

theorem offerRecord_of_waiting (h : r.held = true ∨ recordFits s d.dst 256 = false ∨ fits s d.dst 256 = false) :
    offerRecord c s = s := by
  simp only [offerRecord, hd, hr]
  refine if_pos ?_
  rcases h with h | h | h <;> simp [h]

/-- The oldest record not offered is offered: an open write of its bytes waits last (R300; log 127). -/
theorem offerRecord_offers (hwf : wf {} s.ctxs = true) (hlive : functionLive s = true) (hheld : r.held = false)
    (hspace : recordFits s d.dst 256 = true) (hfits : fits s d.dst 256 = true) :
    Stands c (·.queue = (ctxOf s c).queue.map (fun y => if y == r then { y with offered := true } else y))
      (offerRecord c s) ∧
    ∃ w, waiting (offerRecord c s) 3 = waiting s 3 ++ [w] ∧ w.data = some r.bytes ∧ w.purpose = .ctxWrite c ∧
      w.len = 256 := by
  simp only [offerRecord, hd, hr]
  rw [if_neg (by simp [hlive, hheld, hspace, hfits])]
  refine ⟨stands_openRequest (.sleeved (Stands.change (P := (ctxOf s c = ·)) ⟨hwf, rfl⟩ ?_) ..) ..,
    waiting_openRequest ..⟩
  rintro _ rfl
  rfl

end

/-! ## What closes -/

section
variable {c : Nat} {d : ContextDecl} {s : State} (hd : ctxDecl s c = some d)
include hd

theorem exec_detectorIntervalClose : exec (.detectorIntervalClose c) s = .next (settle s
    (if (ctxOf s c).detInterval ≤ (ctxOf s c).detCount then closeDet c d false (fresh s) else fresh s)) := by
  have hd : ctxDecl (fresh s) c = some d := hd
  change execDetectorIntervalClose c s = _
  unfold execDetectorIntervalClose
  refine act_of_effect ?_
  simp only [hd, decide_eq_true_eq]
  rfl

theorem exec_detectorIntervalClose_of_open
    (h : (ctxOf s c).detCount < (ctxOf s c).detInterval ∨ (ctxOf s c).detCount = 0) :
    exec (.detectorIntervalClose c) s = .next (settle s (fresh s)) := by
  rw [exec_detectorIntervalClose hd]
  rcases h with h | h
  · rw [if_neg (Nat.not_le.mpr h)]
  · have hempty : closeDet c d false (fresh s) = fresh s := if_pos h
    rw [hempty, ite_self]

theorem exec_iqRecordClose : exec (.iqRecordClose c) s = .next (settle s
    (if d.recordFill ≤ (ctxOf s c).iq.length then closeIq c false (fresh s) else fresh s)) := by
  have hd : ctxDecl (fresh s) c = some d := hd
  change execIqRecordClose c s = _
  unfold execIqRecordClose
  refine act_of_effect ?_
  simp only [hd, decide_eq_true_eq]
  rfl

omit hd in
/-- No IQ record is open once one has closed (R299). -/
theorem closeIq_closes (hwf : wf {} s.ctxs = true) (part : Bool) : Stands c (·.iq = []) (closeIq c part s) := by
  refine .ite (fun h => ⟨hwf, List.isEmpty_iff.mp h⟩) fun _ =>
    stands_putRecord lasting_noIq (.change (P := (ctxOf s c = ·)) ⟨hwf, rfl⟩ ?_) ..
  exact fun _ _ => rfl

omit hd in
theorem closeDet_closes (hwf : wf {} s.ctxs = true) (hcount : (ctxOf s c).detCount ≠ 0) (part : Bool) :
    Stands c (fun y => y.interval = (ctxOf s c).interval + 1 ∧ y.detCount = 0) (closeDet c d part s) :=
  stands_closeDet (P := (ctxOf s c = ·)) (fun _ _ h hx => ⟨h.interval.trans hx.1, h.detCount.trans hx.2⟩) ⟨hwf, rfl⟩
    hcount (fun _ hx => hx ▸ ⟨rfl, rfl⟩) part

end

/-! ## Fall-back -/

section
variable {c : Nat} {d : ContextDecl} {r : CtxRecord} {s : State} (hd : ctxDecl s c = some d)
include hd

theorem toleranceExpiry_of_early (h : (ctxOf s c).fallback = true ∨ (ctxOf s c).queue = [] ∨
    ∃ r, (ctxOf s c).queue.head? = some r ∧ s.time.cycle < r.born + 1280 * d.toleranceUs) :
    toleranceExpiry c s = s := by
  refine if_neg ?_
  rcases h with h | h | ⟨r, hr, h⟩
  · simp [h]
  · simp [toleranceOver, h]
  · obtain ⟨q, hq⟩ := List.head?_eq_some_iff.mp hr
    simp [toleranceOver, hd, hq, h]

theorem stands_toleranceExpiry (hwf : wf {} s.ctxs = true) (hlive : functionLive s = true)
    (hr : (ctxOf s c).queue.head? = some r) (hfall : (ctxOf s c).fallback = false)
    (hborn : r.born + 1280 * d.toleranceUs ≤ s.time.cycle) :
    Stands c (Reserving (ctxOf s c).queue (fun q y => y.fallback = true ∧ y.iq = [] ∧ y.queue = q))
      (toleranceExpiry c s) := by
  obtain ⟨q, hq⟩ := List.head?_eq_some_iff.mp hr
  have hover : toleranceOver s c = true := by simp [toleranceOver, hd, hq, hborn]
  have hcleared : Stands c (·.queue = (ctxOf s c).queue) (clearFallback c s) :=
    Stands.change (P := (ctxOf s c = ·)) ⟨hwf, rfl⟩ fun _ hx => hx ▸ rfl
  rw [toleranceExpiry, if_pos (by simp [hlive, hfall, hover])]
  refine (stands_enterFallback hcleared.canonical 1 (256 * now s)).mono ?_
  rw [hcleared.holds]
  exact fun y ⟨w, hw, hy⟩ => ⟨w, hw, hy.fallback, hy.closed, hy.queue⟩

theorem fallbackExit_of_busy (h : (ctxOf s c).fallback = false ∨ (ctxOf s c).queue ≠ [] ∨
    recordFits s d.dst 1024 = false ∨ fits s d.dst 1024 = false) : fallbackExit c s = s := by
  simp only [fallbackExit, hd]
  refine if_neg ?_
  rcases h with h | h | h | h <;> simp [h]

/-- Fall-back ends: FALLBACK_EXIT waits in the reserved place (R303). -/
theorem stands_fallbackExit (hwf : wf {} s.ctxs = true) (hlive : functionLive s = true)
    (hfall : (ctxOf s c).fallback = true) (hqueue : (ctxOf s c).queue = []) (hspace : recordFits s d.dst 1024 = true)
    (hfits : fits s d.dst 1024 = true) :
    Stands c (Reserving [] (fun q y => y.fallback = false ∧ y.iq = [] ∧ y.queue = q)) (fallbackExit c s) := by
  have hblind : TallyBlind (Reserving [] fun q y => y.queue = q) :=
    tallyBlind_reserving fun _ _ _ h => (congrArg Context.queue h :).trans
  simp only [fallbackExit, hd]
  rw [if_pos (by simp [hlive, hfall, hqueue, hspace, hfits])]
  refine .pulsed (.change (stands_carryOver hblind (stands_nextSeq hblind (stands_queueCtx_reserved
    (P := fun q y => y.queue = q) ⟨hwf, hqueue⟩ (fun _ hx => hx) (fun _ _ _ => rfl) _ _))) ?_) ..
  exact fun y ⟨w, hw, hy⟩ => ⟨w, hw, rfl, rfl, hy⟩

end

/-! ## The statement -/

section
variable {c : Nat} {i : Instr} {f : State → State} {s : State} {P : Context → Prop}

/-- A command whose effect leaves the context with a property answers a state in which the context has it. -/
theorem Stands.answers (h : Stands c P (f (fresh s))) (hi : exec i s = act f s) :
    ∃ t, exec i s = .next t ∧ P (ctxOf t c) :=
  ⟨_, hi.trans (act_of_effect rfl), h.holds⟩

end

/-- Settles O53: each command from the state its clause names, by what it makes of the context. -/
theorem contextRowsRecordsAndFallback : Obligations.ContextRowsRecordsAndFallback := by
  unfold Obligations.ContextRowsRecordsAndFallback
  intro s c rows d hd hlive hwf x rb q idle ctx
  refine ⟨fun h => act_of_effect (contextRow_of_absent (s := fresh s) hd h), ?row, ?loss, ?torn,
    fun h hw => act_of_effect (contextLoss_of_none (s := fresh s) hd h hw),
    fun h => act_of_effect (settle_of_early (s := fresh s) hd h),
    fun h1 h2 h3 => act_of_effect (settle_of_due (s := fresh s) hd h1 h2 h3),
    fun h => act_of_effect (endFade_of_running (s := fresh s) hd h), ?fade,
    exec_detectorIntervalClose_of_open hd, ?interval, ?short, ?record,
    fun h => act_of_effect (offerRecord_of_none (s := fresh s) h), ?offer,
    fun h => act_of_effect (toleranceExpiry_of_early (s := fresh s) hd h), ?enter,
    fun h => act_of_effect (fallbackExit_of_busy (s := fresh s) hd h), ?exit⟩
  case row =>
    intro h
    obtain ⟨t, ht, hstored, hrow, hphase⟩ := Stands.answers (i := .contextInputRow c) (f := contextRow c)
      (by rw [contextRow_of_ready (s := fresh s) hd hlive h]; exact takeRow_stands hwf) rfl
    refine ⟨t, ht, hstored, hrow, fun hreset hvalues => ?_⟩
    rw [hphase, rowBegun_quiet (s := fresh s) hwf hreset hvalues]
    rfl
  case loss =>
    intro l h
    obtain ⟨t, ht, hpassed, hlost⟩ := (stands_contextLoss (s := fresh s) hd hlive hwf h).answers
      (i := .contextInputLoss c rows) rfl
    exact ⟨t, ht, hlost.resetDue, hlost.gapDue, hpassed, hlost.stored, hlost.row⟩
  case torn =>
    intro h htorn hlanded
    obtain ⟨t, ht, hlost⟩ := (stands_contextLoss_torn (s := fresh s) hd hlive hwf h htorn hlanded).answers
      (i := .contextInputLoss c rows) rfl
    exact ⟨t, ht, hlost.resetDue, hlost.gapDue, hlost.stored, hlost.row⟩
  case fade =>
    intro f hf hpos
    obtain ⟨t, ht, hends⟩ := (stands_endFade (s := fresh s) hwf hd hf hpos).answers (i := .crossfadeEnd c) rfl
    exact ⟨t, ht, hends.bank, hends.heldBank, hends.idle, hends.next, hends.coefs⟩
  case interval =>
    intro hfull hcount
    refine (closeDet_closes (s := fresh s) hwf hcount false).answers (f := closeDet c d false) ?_
    rw [exec_detectorIntervalClose hd, if_pos hfull]
    rfl
  case short =>
    intro h
    rw [exec_iqRecordClose hd, if_neg (Nat.not_le.mpr h)]
  case record =>
    intro hfull
    refine (closeIq_closes (s := fresh s) hwf false).answers (f := closeIq c false) ?_
    rw [exec_iqRecordClose hd, if_pos hfull]
    rfl
  case offer =>
    intro r hr
    refine ⟨fun h => act_of_effect (offerRecord_of_waiting (s := fresh s) hd hr h), fun hheld hspace hfits => ?_⟩
    obtain ⟨hstands, w, hwaiting, hdata, hpurpose, hlen⟩ :=
      offerRecord_offers (s := fresh s) hd hr hwf hlive hheld hspace hfits
    exact ⟨_, w, act_of_effect rfl, hwaiting, hdata, hpurpose, hlen, hstands.holds⟩
  case enter =>
    intro r hr hfall hborn
    obtain ⟨t, ht, w, hw, hback, hiq, hqueue⟩ :=
      (stands_toleranceExpiry (s := fresh s) hd hwf hlive hr hfall hborn).answers (i := .fallbackToleranceExpiry c) rfl
    exact ⟨t, w, ht, hback, hiq, hqueue, hw⟩
  case exit =>
    intro hfall hqueue hspace hfits
    obtain ⟨t, ht, w, hw, hback, hiq, hleft⟩ :=
      (stands_fallbackExit (s := fresh s) hd hwf hlive hfall hqueue hspace hfits).answers (i := .fallbackExit c) rfl
    exact ⟨t, w, ht, hback, hiq, hleft, hw⟩

end Sys2Proof.Machine
end

section
/-! PROOF. The state right after reset, the steps of a calibration turn and the mismatch tracker: what each names
(01, 17). -/

namespace Sys2Proof.Machine

/-- Settles O3: each value as reset sets it. -/
theorem resetValues : Obligations.ResetValues := by
  unfold Obligations.ResetValues
  exact ⟨rfl, rfl, rfl, rfl, rfl, fun n => by simp [State.reset, StatusTree.group, look], rfl, fun _ _ => rfl,
    rfl, rfl, fun _ => rfl, rfl, rfl, rfl, rfl, rfl, fun _ => rfl, fun _ => rfl, rfl, rfl, rfl⟩

section
variable {u : CalRun} {s : State}

theorem calMeasured_of_idle (h : s.cal.run = none) (m : Measurement) : calMeasured m s = s := by
  simp [calMeasured, h]

theorem calComputed_of_idle (h : s.cal.run = none) (resid : List (Nat × List Byte)) : calComputed resid s = s := by
  simp [calComputed, h]

theorem calTurnEnd_of_idle (h : s.cal.run = none) : calTurnEnd s = s := by
  simp [calTurnEnd, h]

theorem mCalRun_of_run (h : s.cal.run = some u) (f : CalRun → CalRun) :
    mCalRun f s = mCal (fun k => { k with run := some (f u) }) s := by
  simp [mCalRun, mCal, h]

theorem trackFrom_eq (ch : Nat) (s : State) : trackFrom ch s = { s with
    chans := upd {} ch (fun h => { h with flagged := 0 }) s.chans
    cal := { s.cal with trackTemps := put [] ch (chipTemps s) s.cal.trackTemps } } := rfl

theorem chipTemps_of_mon {s t : State} (h : t.mon = s.mon) : chipTemps t = chipTemps s := by
  rw [chipTemps, chipTemps, h]

@[simp] theorem chipTemps_fresh (s : State) : chipTemps (fresh s) = chipTemps s := rfl
@[simp] theorem chipTemps_bump (n a : Nat) (s : State) : chipTemps (bump n a s) = chipTemps s :=
  chipTemps_of_mon (by simp)
@[simp] theorem chipTemps_trackFrom (ch : Nat) (s : State) : chipTemps (trackFrom ch s) = chipTemps s := rfl
theorem bump_fresh_snap (n a : Nat) (s : State) : (bump n a (fresh s)).snap = (bump n a s).snap := rfl
@[simp] theorem trackFrom_snap (ch : Nat) (s : State) : (trackFrom ch s).snap = s.snap := rfl

/-- Whether an update is the calibration's: all 48 trims and the delay of its channel within the limits of R412. -/
structure Computed (u : CalRun) (resid : List (Nat × List Byte)) (x : TrimUpdate) : Prop where
  kind : x.kind = 1
  channel : x.channel = u.channel
  resid : x.resid = u.resid ++ resid
  trims : x.trims = (List.range 48).map (fun k => (48 * u.channel + k,
    (limitTrim (48 * u.channel + k) (look {} u.measured (48 * u.channel + k))).1))
  delay : x.delay = some (limitDelay u.channel u.delay).1

theorem calComputed_of_due (h : s.cal.run = some u) (hstep : u.step = .compute) (habort : u.aborting = false)
    (resid : List (Nat × List Byte)) : ∃ x, Computed u resid x ∧ calComputed resid s =
      mCal (fun k => { k with
        updates := k.updates ++ [x], run := some { u with step := .ret, awaitSeam := true } }) s := by
  simp only [calComputed, h, hstep, habort, mCalRun_of_run h]
  exact ⟨_, ⟨rfl, rfl, rfl, by simp, rfl⟩, rfl⟩

end

/-- Settles O58: each step of a turn by the state of the turn it is in. -/
theorem calibrationTurnSteps : Obligations.CalibrationTurnSteps := by
  unfold Obligations.CalibrationTurnSteps
  intro s u m resid got temps anew rest
  refine ⟨fun h => ⟨act_of_effect (calMeasured_of_idle (s := fresh s) h m),
    act_of_effect (calComputed_of_idle (s := fresh s) h resid),
    act_of_effect (calTurnEnd_of_idle (s := fresh s) h)⟩, fun hrun => ?_⟩
  have hfresh : (fresh s).cal.run = some u := hrun
  refine ⟨?next, ?last, ?compute, ?rest⟩
  case next =>
    intro hstep habort hrange
    refine act_of_effect (f := calMeasured m) ?_
    simp only [calMeasured, hfresh, hstep, habort, hrange, mCalRun_of_run hfresh]
    simp
    rfl
  case last =>
    intro hstep habort hrange
    refine act_of_effect (f := calMeasured m) ?_
    simp only [calMeasured, hfresh, hstep, habort, mCalRun_of_run hfresh]
    simp [hrange, got]
    rfl
  case compute =>
    intro hstep habort
    obtain ⟨x, hx, hcomputed⟩ := calComputed_of_due hfresh hstep habort resid
    refine ⟨_, x, act_of_effect (f := calComputed resid) hcomputed, ?_⟩
    simp [hx.kind, hx.channel, hx.resid, hx.trims, hx.delay, habort]
  case rest =>
    intro hstep hseam hrelay
    have hrelay' : (chan (fresh s) u.channel).liningTransit = none := hrelay
    refine ⟨fun hw ha => ?_, fun hw ha => ?_, fun hw => ?_⟩
    · refine act_of_effect (f := calTurnEnd) ?_
      simp only [calTurnEnd, hfresh, hstep, hseam, hrelay', hw, ha, trackFrom_eq]
      simp
      rfl
    · refine act_of_effect (f := calTurnEnd) ?_
      simp only [calTurnEnd, hfresh, hstep, hseam, hrelay', hw, ha, trackFrom_eq]
      simp
      rfl
    · refine ⟨_, act_of_effect (f := calTurnEnd) rfl, ?_⟩
      simp only [calTurnEnd, hfresh, hstep, hseam, hrelay', startCalRun, beginTurn]
      cases ha : u.aborting <;> simp [hw, rest, bump_fresh_snap]

/-- Whether a calibration's turn is the channel's. -/
def inTurn (s : State) (ch : Nat) : Bool := match s.cal.run with
  | some u => u.channel == ch
  | none => false

/-- A tracker interval's end with the drifts of its channel kept and the next interval begun (R417). -/
def driftsKept (ch : Nat) (power : Bool) (ofs : List Int) (est : List Estimate) (s : State) : State :=
  mCal (fun k => { k with drifts := (List.range 16).foldl (fun m j => put {} (16 * ch + j)
    (driftOf (trimOf (trackFrom ch (bump 22 (0x40 * ch) s)) (trimIndex ch (chan s ch).range j)) (ofs.getD j 0)
      (est.getD j {}) (usable s ch) (usable s ch && power)) m) k.drifts }) (trackFrom ch (bump 22 (0x40 * ch) s))

/-- The tracker's correction of a channel whose drifts are kept in `v` (R419). -/
def correction (ch : Nat) (power : Bool) (ofs : List Int) (est : List Estimate) (s v : State) : TrimUpdate :=
  let es := (List.range 16).map (fun k => (trimIndex ch (chan s ch).range k, ofs.getD k 0, est.getD k {}))
  let ts := es.map (fun p => (p.1, trackTrim v p.1 p.2.1 p.2.2 (usable s ch) (usable s ch && power)))
  { kind := 2, channel := ch, trims := ts.map (fun p => (p.1, p.2.1)), delay := none
    limited := ts.any (fun p => p.2.2.2), trackLimited := ts.any (fun p => p.2.2.1)
    resid := es.map (fun p => (0xA00 + 6 * p.1, trackResid
      (trackTrim v p.1 p.2.1 p.2.2 (usable s ch) (usable s ch && power)).1 p.2.1 p.2.2 (usable s ch)
      (usable s ch && power)))
    temps := look [] s.cal.trackTemps ch }

section
variable (ch : Nat) (power : Bool) (ofs : List Int) (est : List Estimate) (s : State)

@[simp] theorem driftsKept_policy : (driftsKept ch power ofs est s).cal.policy = s.cal.policy := by
  simp [driftsKept, trackFrom]
@[simp] theorem driftsKept_updates : (driftsKept ch power ofs est s).cal.updates = s.cal.updates := by
  simp [driftsKept, trackFrom]
@[simp] theorem driftsKept_lastApplied : (driftsKept ch power ofs est s).cal.lastApplied = s.cal.lastApplied := by
  simp [driftsKept, trackFrom]
@[simp] theorem driftsKept_trims : (driftsKept ch power ofs est s).cal.trims = s.cal.trims := by
  simp [driftsKept, trackFrom]
@[simp] theorem driftsKept_anchor : (driftsKept ch power ofs est s).cal.anchor = s.cal.anchor := by
  simp [driftsKept, trackFrom]
@[simp] theorem driftsKept_snap : (driftsKept ch power ofs est s).snap = (bump 22 (0x40 * ch) s).snap := rfl
@[simp] theorem driftsKept_now : now (driftsKept ch power ofs est s) = now s := by
  simp [driftsKept, trackFrom, now]
@[simp] theorem driftsKept_chans :
    (driftsKept ch power ofs est s).chans = upd {} ch (fun h => { h with flagged := 0 }) s.chans := by
  simp [driftsKept, trackFrom_eq]

@[simp] theorem trimOf_driftsKept (e : Nat) : trimOf (driftsKept ch power ofs est s) e = trimOf s e := by
  simp [trimOf]

@[simp] theorem trackTrim_driftsKept (e : Nat) (o : Int) (x : Estimate) (ov gv : Bool) :
    trackTrim (driftsKept ch power ofs est s) e o x ov gv = trackTrim s e o x ov gv := by
  simp [trackTrim, anchorOf]

theorem correction_trims : (correction ch power ofs est s (driftsKept ch power ofs est s)).trims =
    (List.range 16).map (fun k => (trimIndex ch (chan s ch).range k, (trackTrim s (trimIndex ch (chan s ch).range k)
      (ofs.getD k 0) (est.getD k {}) (usable s ch) (usable s ch && power)).1)) := by
  simp [correction]

theorem driftsKept_drifts : (driftsKept ch power ofs est s).cal.drifts = (List.range 16).foldl
    (fun m j => put {} (16 * ch + j) (driftOf (trimOf s (trimIndex ch (chan s ch).range j)) (ofs.getD j 0)
      (est.getD j {}) (usable s ch) (usable s ch && power)) m) s.cal.drifts := by
  simp [driftsKept, trackFrom, trimOf]

end

section
variable {ch : Nat} {s : State}

theorem trimOf_fresh (s : State) (e : Nat) : trimOf (fresh s) e = trimOf s e := rfl
theorem chan_fresh (s : State) (ch : Nat) : chan (fresh s) ch = chan s ch := rfl
theorem usable_fresh (s : State) (ch : Nat) : usable (fresh s) ch = usable s ch := rfl

theorem trackerEnd_of_idle (power : Bool) (ofs : List Int) (est : List Estimate)
    (h : functionLive s = false ∨ calActive s ch = true ∨ inTurn s ch = true) :
    trackerEnd ch power ofs est s = s := by
  refine if_pos (c := (!functionLive s || calActive s ch || inTurn s ch) = true) ?_
  rcases h with h | h | h <;> simp [h]

theorem trackerEnd_of_live (power : Bool) (ofs : List Int) (est : List Estimate)
    (h : (!functionLive s || calActive s ch || inTurn s ch) = false) : trackerEnd ch power ofs est s =
      let v := driftsKept ch power ofs est s
      let es := (List.range 16).map (fun k => (trimIndex ch (chan s ch).range k, ofs.getD k 0, est.getD k {}))
      let late := look 0 v.cal.lastApplied ch = 0 ∨ look 0 v.cal.lastApplied ch + 204800000000 ≤ now v + 1
      if v.cal.policy = 1 ∧ late ∧
          es.any (fun p => trackDue (trimOf v p.1) p.2.1 p.2.2 (usable s ch) (usable s ch && power)) ∧
          v.cal.updates.all (fun u => u.channel != ch) then
        mCal (fun k => { k with updates := k.updates ++ [correction ch power ofs est s v] }) v
      else v := if_neg (Bool.not_eq_true _ ▸ h)

end

/-- Settles O59: the drifts are kept, then the correction waits or not. -/
theorem trackerCorrects : Obligations.TrackerCorrects := by
  unfold Obligations.TrackerCorrects
  intro s ch power ofs est turn o g e due late idle
  refine ⟨fun h => act_of_effect (trackerEnd_of_idle (s := fresh s) power ofs est h), fun hlive hcal hturn => ?_⟩
  have hfree : (!functionLive s || calActive s ch || inTurn s ch) = false := by
    simp [hlive, hcal, show inTurn s ch = false from hturn]
  refine ⟨_, act_of_effect (f := trackerEnd ch power ofs est)
    (trackerEnd_of_live (s := fresh s) power ofs est hfree), ?_⟩
  simp only [driftsKept_policy, driftsKept_updates, driftsKept_lastApplied, driftsKept_now, List.any_map,
    Function.comp_def, trimOf_driftsKept]
  have hdrifts := driftsKept_drifts ch power ofs est (fresh s)
  simp only [trimOf_fresh, chan_fresh, usable_fresh, fresh_cal] at hdrifts
  split
  next h =>
    obtain ⟨hpolicy, hlate, hdue, hidle⟩ := h
    refine ⟨rfl, by simp [hdrifts]; rfl, by simp, by simp,
      fun _ _ _ _ => ⟨_, by simp, rfl, rfl, rfl, correction_trims ch power ofs est (fresh s)⟩, ?_⟩
    rintro (h | h | h | h)
    · exact absurd hpolicy h
    · exact absurd hlate h
    · exact absurd (h.symm.trans hdue) (by decide)
    · exact absurd (h.symm.trans hidle) (by decide)
  next h =>
    exact ⟨rfl, by simp [hdrifts]; rfl, by simp, by simp,
      fun hpolicy hlate hdue hidle => (h ⟨hpolicy, hlate, hdue, hidle⟩).elim, fun _ => by simp⟩

end Sys2Proof.Machine
end

section
/-! PROOF. An event record that begins no block and does not fit (07 R175, 14 R347): a refutation. -/

namespace Sys2Proof.Machine

/-- An image whose event input 0 writes its records to a CAPTURE sleeve of one granule with a guarded reader. -/
def eventRecordImage : Image :=
  { sleeves := [{ kind := .capture, format := .result, maxGranules := 1, granules := 1
                  writerUnit := 0x07, writerIndex := 0
                  readers := [{ unit := 0x11, index := 0, guarded := true }] }] }

/-- One event record waits. The writer has come round to the place behind its reader, which has read the first record of
the pass before: no block begins at the next record, and there is no room for it. -/
def eventRecordBehindReader : State :=
  { State.reset with
    image := some eventRecordImage
    sleeves := [(0, { inForce := 1, active := 1, prevLen := 4096, passStart := 4096, wcount := 4128
                      readers := [(0, { count := 32 })] })]
    tiu := { inputs := [(0, { queue := [{ bytes := tiuBytes 0 0 0 0 0 0 0, time := 0 }] })] } }

/-- No block begins at the record, so that none has to fit. -/
theorem recordFits_within_block : recordFits eventRecordBehindReader 0 (tiuBytes 0 0 0 0 0 0 0).length = true := by
  decide

/-- The record is refused: the writer stops and the record stays queued (R175, R347). -/
theorem recordWrite_keeps_refused_record :
    (evt (checkCaptures (recordWrite 0 (fresh eventRecordBehindReader))) 0).queue ≠ [] := by decide

/-- Refutes O55: a record that begins no block fits as `recordFits` says, and its bytes have no room behind the guarded
reader all the same, so that it stays in the queue. -/
theorem not_edgesCalibrationGatesAndPulses : ¬ Obligations.EdgesCalibrationGatesAndPulses := by
  unfold Obligations.EdgesCalibrationGatesAndPulses
  intro h
  obtain ⟨-, -, -, -, -, -, -, -, -, -, -, -, -, -, -, hwrite⟩ :=
    h eventRecordBehindReader 0 0 0 false 0 [] (by decide) (by decide)
  obtain ⟨t, ht, hqueue⟩ := hwrite _ [] 0 rfl (by decide) rfl recordFits_within_block
  obtain rfl := effect_of_act (f := fun s => checkCaptures (recordWrite 0 s)) ht
  exact recordWrite_keeps_refused_record hqueue

end Sys2Proof.Machine
end

section
/-! PROOF. The end of a disable that a failed fetch has halted (16 R401): a refutation. -/

namespace Sys2Proof.Machine

theorem ring_settle (o s : State) (q : Nat) : ring (settle o s) q = ring s q := rfl

/-- Ring 0 was disabled while a descriptor's read was under way, and the read has failed. -/
def haltedDisable : State :=
  { State.reset with rings := [(0, { running := true, disabling := true, halt := 1 })] }

/-- The next write of 0 to ENABLE ends the disable (log 155). -/
theorem writeCtrl_ends_halted_disable :
    (ring (afterWrite (writeCtrl 0 0 (fresh haltedDisable))) 0).running = false := by decide +kernel

/-- Refutes O57: the statement has a CTRL write of a ring that is disabled and still running change its settings alone,
and a write of 0 to ENABLE ends a disable that a failed fetch has halted. -/
theorem not_ringsRunTheirDescriptors : ¬ Obligations.RingsRunTheirDescriptors := by
  unfold Obligations.RingsRunTheirDescriptors
  intro h
  obtain ⟨-, -, hdisabled, -⟩ := h haltedDisable 0 0 0 0 0 [] none
    default (by decide)
  obtain ⟨-, hsettings⟩ := hdisabled rfl
  obtain ⟨t, ht, hring⟩ := hsettings (.inl rfl)
  obtain rfl := effect_of_act (f := fun s => afterWrite (writeCtrl 0 0 s)) ht
  rw [ring_settle] at hring
  exact absurd (writeCtrl_ends_halted_disable.symm.trans (congrArg Ring.running hring)) (by decide)

end Sys2Proof.Machine
end

section
/-! PROOF. What one record write makes of the recorder (18 R426 to R435). -/

namespace Sys2Proof.Machine

/-- The recorder with the parts taken out that hold the records of MRAM and their places. Two recorders with the same
`besideRecords` agree in every other part. -/
def Recorder.besideRecords (r : Recorder) : Recorder :=
  { r with
    mram := [], seals := [], prevSeal := 0, seq := 0, bad := [], moved := [], ringOpen := (0, 0), ringUsed := []
    resOpen := none, resUsed := [], newest := (0, 0), newestRing := none, reservedFull := false }

/-! ## Places -/

theorem takeRing_leaves (r : Recorder) : (takeRing r).1.besideRecords = r.besideRecords ∧
    (takeRing r).1.bad = r.bad ∧ (takeRing r).1.seq = r.seq ∧ (takeRing r).1.resOpen = r.resOpen ∧
    (takeRing r).1.newestRing = r.newestRing := by
  unfold takeRing
  dsimp only
  split <;> exact ⟨rfl, rfl, rfl, rfl, rfl⟩

theorem giveBlock_leaves (r : Recorder) : (giveBlock r).1.besideRecords = r.besideRecords ∧
    (giveBlock r).1.bad = r.bad ∧ (giveBlock r).1.seq = r.seq := by
  unfold giveBlock
  split
  · exact ⟨rfl, rfl, rfl⟩
  · dsimp only
    split
    · obtain ⟨hrest, hbad, hseq, -⟩ := takeRing_leaves _
      exact ⟨hrest.trans rfl, hbad, hseq⟩
    · exact ⟨rfl, rfl, rfl⟩

/-- A record that does not fill its block takes the place it goes to (R427). -/
theorem storeRec_within {e : Rec} {r : Recorder} (h : (r.placeFor e).2 + 1 < 64) : (storeRec e r).1 =
    { r with
      mram := put none (64 * (r.placeFor e).1 + (r.placeFor e).2) (some e) r.mram
      newest := r.placeFor e
      newestRing := if r.goesReserved e then r.newestRing else some (r.placeFor e)
      resOpen := if r.goesReserved e then some ((r.placeFor e).1, (r.placeFor e).2 + 1) else r.resOpen
      ringOpen := if r.goesReserved e then r.ringOpen else ((r.placeFor e).1, (r.placeFor e).2 + 1) } := by
  unfold storeRec
  dsimp only
  rw [if_pos h]

theorem storeRec_leaves (e : Rec) (r : Recorder) : (storeRec e r).1.besideRecords = r.besideRecords ∧
    (storeRec e r).1.bad = r.bad ∧ (storeRec e r).1.seq = r.seq := by
  by_cases h : (r.placeFor e).2 + 1 < 64
  · rw [storeRec_within h]
    exact ⟨rfl, rfl, rfl⟩
  · unfold storeRec
    dsimp only
    rw [if_neg h]
    split
    · exact ⟨rfl, rfl, rfl⟩
    · obtain ⟨hrest, hbad, hseq, -⟩ := takeRing_leaves _
      exact ⟨hrest.trans rfl, hbad, hseq⟩

theorem replaceBlock_leaves (e : Rec) (r : Recorder) : (replaceBlock e r).1.besideRecords = r.besideRecords ∧
    (replaceBlock e r).1.bad = (r.placeFor e).1 :: r.bad ∧ (replaceBlock e r).1.seq = r.seq := by
  unfold replaceBlock
  dsimp only
  split
  · obtain ⟨hrest, hbad, hseq⟩ := giveBlock_leaves
      { r with bad := (r.placeFor e).1 :: r.bad, seals := put 0 (r.placeFor e).1 (BitVec.allOnes 256) r.seals }
    exact ⟨hrest, hbad, hseq⟩
  · obtain ⟨hrest, hbad, hseq, -⟩ := takeRing_leaves { r with
      bad := (r.placeFor e).1 :: r.bad, seals := put 0 (r.placeFor e).1 (BitVec.allOnes 256) r.seals
      ringOpen := ((r.placeFor e).1, 0) }
    exact ⟨hrest, hbad, hseq⟩

/-! ## Records -/

section
variable {e : Rec} {s : State}

theorem putRec_merged {bp : Nat × Nat} (h : s.recorder.mergeable e = some bp) : (putRec e s).recorder =
    { s.recorder with
      mram := put none (64 * bp.1 + bp.2) (some (((look none s.recorder.mram (64 * bp.1 + bp.2)).getD {}).merge e))
        s.recorder.mram } := by
  simp only [putRec, h, mergeRec]
  split <;> simp

theorem putRec_placed (h : s.recorder.mergeable e = none) : (putRec e s).recorder =
    (storeRec (numberRec s.recorder e) { s.recorder with
      seq := s.recorder.seq + 1
      reservedFull := s.recorder.reservedFull || (numberRec s.recorder e).reservedFull }).1 := by
  simp only [putRec, h]
  exact placeRec_recorder (numberRec s.recorder e) s.recorder s

theorem putRec_leaves (e : Rec) (s : State) : (putRec e s).recorder.besideRecords = s.recorder.besideRecords ∧
    (putRec e s).recorder.bad = s.recorder.bad := by
  cases h : s.recorder.mergeable e with
  | some bp =>
    rw [putRec_merged h]
    exact ⟨rfl, rfl⟩
  | none =>
    rw [putRec_placed h]
    obtain ⟨hrest, hbad, -⟩ := storeRec_leaves (numberRec s.recorder e) _
    exact ⟨hrest.trans rfl, hbad⟩

theorem remapBlock_recorder (e : Rec) (s : State) :
    (remapBlock e s).recorder = (replaceBlock e s.recorder).1 := by
  simp [remapBlock]

theorem degrade_of_degraded (reason : Nat) (h : s.recorder.degraded = true) : degrade reason s = s := if_pos h

theorem degrade_recorder (reason : Nat) (h : s.recorder.degraded = false) : (degrade reason s).recorder =
    (writeVolatile (recordOf s 0x4023 0xFF [reason])
      { s with recorder := { s.recorder with degraded := true, stored := s.recorder.numbers } }).recorder := by
  rw [degrade, if_neg (by simp [h])]

theorem degrade_degrades (reason : Nat) (s : State) : (degrade reason s).recorder.degraded = true := by
  cases h : s.recorder.degraded with
  | true => rw [degrade_of_degraded reason h, h]
  | false => rw [degrade_recorder reason h, writeVolatile_recorder]

/-- Of what a record write ends, entering DEGRADED touches none of what stands in MRAM. -/
theorem degrade_leaves (reason : Nat) (s : State) : (degrade reason s).recorder.queue = s.recorder.queue ∧
    (degrade reason s).recorder.bad = s.recorder.bad := by
  cases h : s.recorder.degraded with
  | true => rw [degrade_of_degraded reason h]; exact ⟨rfl, rfl⟩
  | false => rw [degrade_recorder reason h, writeVolatile_recorder]; exact ⟨rfl, rfl⟩

end

end Sys2Proof.Machine
end

section
/-! PROOF. A record write that ends (18 R426 to R435): what each clause of the statement says of it. -/

namespace Sys2Proof.Machine

/-! ## The write that ends -/

theorem recordWritten_of_still {s : State} (h : s.pwr.osc = false ∨ s.recorder.freeze.isSome = true)
    (vf cv sv : Bool) :
    recordWritten vf cv sv s = s := by
  refine if_pos ?_
  rcases h with h | h <;> simp [frozen, h]

theorem mramSilent_of_still {s : State} (h : s.pwr.osc = false ∨ s.recorder.freeze.isSome = true) :
    mramSilent s = s := by
  refine if_neg ?_
  rcases h with h | h <;> simp [frozen, h]

/-- LOG_RECORD_WRITTEN answers a state whose recorder has a property. -/
def Wrote (s : State) (vf cv sv : Bool) (P : Recorder → Prop) : Prop :=
  ∃ t, exec (.logRecordWritten vf cv sv) s = .next t ∧ P t.recorder

theorem reload_of_no_stop {s : State} (h : s.life.stop = none) : reload s = s := by
  simp [reload, h]

/-- The recorder writes its records, and neither a stop nor a staged turn-off waits for them. -/
structure Recording (s : State) : Prop where
  osc : s.pwr.osc = true
  free : s.recorder.freeze = none
  noStop : s.life.stop = none
  powered : s.pwr.staged = false

section
variable {s : State} (hs : Recording s)
include hs

theorem recordWritten_eq (vf cv sv : Bool) : recordWritten vf cv sv s =
    if (writeRecord vf cv sv s).mbox.running == some .logFreeze then beginFreeze (writeRecord vf cv sv s)
    else writeRecord vf cv sv s := by
  have hout := outsideLog_writeRecord vf cv sv s
  have hstop' : (writeRecord vf cv sv s).life.stop = none :=
    (congrArg (fun x : State => x.life.stop) hout :).trans hs.noStop
  have hstaged' : (writeRecord vf cv sv s).pwr.staged = false :=
    (congrArg (fun x : State => x.pwr.staged) hout :).trans hs.powered
  unfold recordWritten
  rw [if_neg (by simp [frozen, hs.osc, hs.free])]
  dsimp only
  split
  · rw [if_neg (by simp [beginFreeze, hstaged'])]
    exact reload_of_no_stop hstop'
  · rw [if_neg (by simp [hstaged']), reload_of_no_stop hstop']

theorem recordWritten_recorder (vf cv sv : Bool) : ∃ f,
    (recordWritten vf cv sv s).recorder = { (writeRecord vf cv sv s).recorder with freeze := f } := by
  rw [recordWritten_eq hs]
  split
  · exact ⟨_, rfl⟩
  · exact ⟨_, rfl⟩

/-- A record write answers a state whose recorder is that of `writeRecord`, but for a freeze that may begin. -/
theorem Wrote.of_writeRecord {vf cv sv : Bool} {P : Recorder → Prop}
    (h : ∀ f, P { (writeRecord vf cv sv (fresh s)).recorder with freeze := f }) : Wrote s vf cv sv P := by
  obtain ⟨f, hf⟩ := recordWritten_recorder (s := fresh s) ⟨hs.osc, hs.free, hs.noStop, hs.powered⟩ vf cv sv
  exact ⟨_, act_of_effect (f := recordWritten vf cv sv) rfl, by rw [settle_recorder, hf]; exact h f⟩

theorem recordWritten_of_none (hmbox : s.mbox.running ≠ some .logFreeze) (hnone : takeRec s = none)
    (vf cv sv : Bool) :
    recordWritten vf cv sv s = s := by
  have hwrite : writeRecord vf cv sv s = s := by simp [writeRecord, hnone]
  rw [recordWritten_eq hs, hwrite, if_neg (by simpa using hmbox)]

end

/-! ## The record that comes next -/

section
variable {s : State}

theorem takeRec_none (hlost : s.recorder.lost = 0) (hqueue : s.recorder.queue = [])
    (hfrozen : s.recorder.lostFrozen = 0) :
    takeRec s = none := by
  simp [takeRec, hlost, hqueue, hfrozen]

/-- The recorder once the record of a discard has been taken: the count that it tells is 0 again (R426, R430). -/
def Recorder.told (r : Recorder) : Recorder :=
  { r with lost := 0, lostFrozen := if r.lost = 0 then 0 else r.lostFrozen }

theorem takeRec_lost {k : Nat} (h : s.recorder.lost = k ∧ k ≠ 0 ∨
    s.recorder.lost = 0 ∧ s.recorder.lostFrozen = k ∧ k ≠ 0 ∧ s.recorder.lostAfter = 0) :
    takeRec s = some (recordOf s 0x2025 0xFF [k], { s with recorder := s.recorder.told }) := by
  rcases h with ⟨hlost, hk⟩ | ⟨hlost, hfrozen, hk, hafter⟩
  · simp [takeRec, Recorder.told, hlost, hk]
  · simp [takeRec, Recorder.told, hlost, hfrozen, hk, hafter]

/-- The recorder once the queue's first record has been taken. -/
def Recorder.unqueued (q : List Rec) (r : Recorder) : Recorder := { r with queue := q, lostAfter := r.lostAfter - 1 }

theorem takeRec_queue {x : Rec} {q : List Rec} (hqueue : s.recorder.queue = x :: q) (hlost : s.recorder.lost = 0)
    (hfrozen : s.recorder.lostFrozen = 0 ∨ s.recorder.lostAfter ≠ 0) :
    takeRec s = some (x, { s with recorder := s.recorder.unqueued q }) := by
  have hafter : ¬ (s.recorder.lostFrozen ≠ 0 ∧ s.recorder.lostAfter = 0) := by tauto
  rw [takeRec, if_neg (not_not.mpr hlost), if_neg hafter, hqueue]
  rfl

theorem writeRecord_of_take {e : Rec} {t : State} (h : takeRec s = some (e, t)) (vf cv sv : Bool) :
    writeRecord vf cv sv s = if t.recorder.degraded then writeVolatile e t
      else if sv then (if vf then putRec e t else failRec e cv t)
      else degrade 2 (if vf then putRec e t else failRec e cv t) := by
  simp [writeRecord, h]

end

end Sys2Proof.Machine
end

section
/-! PROOF. A record write whose verify failed (18 R434): the block's earlier places stand in the block that replaces it,
and the record and BLOCK_BAD after them. -/

namespace Sys2Proof.Machine

theorem wfFrom_filter {α : Type} [DecidableEq α] {d : α} {m : Sparse α} (f : Nat × α → Bool) {lo : Nat}
    (h : wfFrom d lo m = true) : wfFrom d lo (m.filter f) = true := by
  induction m generalizing lo with
  | nil => rfl
  | cons p r ih =>
    obtain ⟨⟨hlo, hne⟩, hrest⟩ : (lo ≤ p.1 ∧ p.2 ≠ d) ∧ wfFrom d (p.1 + 1) r = true := by
      simpa [wfFrom] using h
    rw [List.filter_cons]
    split
    · simpa [wfFrom, hlo, hne] using ih hrest
    · exact Laws.wfFrom_mono (by omega) (ih hrest)

theorem wf_takeRing {r : Recorder} (h : wf none r.mram = true) : wf none (takeRing r).1.mram = true := by
  unfold takeRing
  dsimp only
  split <;> exact wfFrom_filter _ h

/-- Consecutive places written from `base` on. -/
theorem wf_foldl_put {α : Type} [DecidableEq α] {d : α} {m : Sparse α} (h : wf d m = true)
    (base n : Nat) (f : Nat → α) :
    wf d ((List.range n).foldl (fun m p => put d (base + p) (f p) m) m) = true := by
  induction n with
  | zero => exact h
  | succ n ih =>
    rw [List.range_succ, List.foldl_append]
    exact Laws.wf_put ih

theorem look_foldl_put {α : Type} [DecidableEq α] {d : α} {m : Sparse α} (h : wf d m = true)
    (base n : Nat) (f : Nat → α)
    {k : Nat} (hk : k < n) :
    look d ((List.range n).foldl (fun m p => put d (base + p) (f p) m) m) (base + k) = f k := by
  induction n with
  | zero => exact absurd hk (Nat.not_lt_zero k)
  | succ n ih =>
    rw [List.range_succ, List.foldl_append]
    refine (Laws.look_put (wf_foldl_put h base n f)).trans ?_
    rcases Nat.lt_succ_iff_lt_or_eq.mp hk with hlt | rfl
    · rw [if_neg (by omega), ih hlt]
    · exact if_pos rfl

section
variable {e : Rec} {r : Recorder} (hring : r.goesReserved e = false) (hwf : wf none r.mram = true)
include hring

/-- The recorder with a failed ring block marked bad and the next one open. -/
def Recorder.ringReplaced (r : Recorder) : Recorder :=
  (takeRing { r with
    bad := r.ringOpen.1 :: r.bad, seals := put 0 r.ringOpen.1 (BitVec.allOnes 256) r.seals
    ringOpen := (r.ringOpen.1, 0) }).1

/-- The places of a block before its first free one. -/
def Recorder.ringKept (r : Recorder) : List (Option Rec) :=
  (List.range r.ringOpen.2).map (fun p => look none r.mram (64 * r.ringOpen.1 + p))

theorem replaceBlock_ring : (replaceBlock e r).1 = { r.ringReplaced with
    mram := (List.range r.ringKept.length).foldl
      (fun m p => put none (64 * r.ringReplaced.ringOpen.1 + p) (r.ringKept.getD p none) m) r.ringReplaced.mram
    ringOpen := (r.ringReplaced.ringOpen.1, r.ringOpen.2)
    newestRing := match r.ringReplaced.newestRing with
      | some (b, p) => if b = r.ringOpen.1 then some (r.ringReplaced.ringOpen.1, p) else some (b, p)
      | none => none } := by
  have hplace : r.placeFor e = r.ringOpen := by simp [Recorder.placeFor, hring]
  unfold replaceBlock
  simp only [hplace, hring]
  rfl

include hwf in
/-- A ring block is replaced: the next open block stands as far as the bad one did, with a copy of its places. -/
theorem replaceBlock_copies : wf none (replaceBlock e r).1.mram = true ∧
    (replaceBlock e r).1.ringOpen.2 = r.ringOpen.2 ∧ (replaceBlock e r).1.resOpen = r.resOpen ∧
    ∀ k, k < r.ringOpen.2 → look none (replaceBlock e r).1.mram (64 * (replaceBlock e r).1.ringOpen.1 + k) =
      look none r.mram (64 * r.ringOpen.1 + k) := by
  have hcanonical : wf none r.ringReplaced.mram = true := wf_takeRing hwf
  rw [replaceBlock_ring hring]
  refine ⟨wf_foldl_put hcanonical .., rfl, ?_, fun k hk => ?_⟩
  · obtain ⟨-, -, -, hopen, -⟩ := takeRing_leaves { r with
      bad := r.ringOpen.1 :: r.bad, seals := put 0 r.ringOpen.1 (BitVec.allOnes 256) r.seals
      ringOpen := (r.ringOpen.1, 0) }
    exact hopen
  · refine (look_foldl_put hcanonical _ _ _ (by simpa [Recorder.ringKept] using hk)).trans ?_
    simp [Recorder.ringKept, hk]

end

/-! ## The two records after the copy -/

section
variable {e : Rec} {s : State}

/-- A ring record that merges with no other and does not fill its block stands at the block's next place. -/
theorem putRec_ring (hring : s.recorder.goesReserved e = false) (hmerge : s.recorder.mergeable e = none)
    (hfits : s.recorder.ringOpen.2 + 1 < 64) : (putRec e s).recorder = { s.recorder with
      seq := s.recorder.seq + 1
      reservedFull := s.recorder.reservedFull || (numberRec s.recorder e).reservedFull
      mram := put none (64 * s.recorder.ringOpen.1 + s.recorder.ringOpen.2) (some (numberRec s.recorder e))
        s.recorder.mram
      newest := s.recorder.ringOpen
      newestRing := some s.recorder.ringOpen
      ringOpen := (s.recorder.ringOpen.1, s.recorder.ringOpen.2 + 1) } := by
  have hplace : s.recorder.placeFor e = s.recorder.ringOpen := by simp [Recorder.placeFor, hring]
  rw [putRec_placed hmerge, storeRec_within (by exact hplace.symm ▸ hfits)]
  have hring' (q : Nat) (b : Bool) :
      ({ s.recorder with seq := q, reservedFull := b } : Recorder).goesReserved (numberRec s.recorder e) = false :=
        hring
  have hplace' (q : Nat) (b : Bool) :
      ({ s.recorder with seq := q, reservedFull := b } : Recorder).placeFor (numberRec s.recorder e) =
        s.recorder.ringOpen := hplace
  simp only [hring', hplace']
  rfl

/-- A record whose verify failed with its block replaced: it stands at its place, or merged, in the copy (R434). -/
def remapped (e : Rec) (s : State) : State :=
  if (s.recorder.mergeable e).isSome then remapBlock e (putRec e s) else putRec e (remapBlock e s)

theorem remapped_leaves (e : Rec) (s : State) : (remapped e s).recorder.besideRecords = s.recorder.besideRecords ∧
    (remapped e s).recorder.bad = (s.recorder.placeFor e).1 :: s.recorder.bad := by
  obtain ⟨hput, hputbad⟩ := putRec_leaves e s
  unfold remapped
  cases h : s.recorder.mergeable e with
  | some bp =>
    obtain ⟨hrest, hbad, -⟩ := replaceBlock_leaves e (putRec e s).recorder
    simp only [Option.isSome_some, if_true, remapBlock_recorder]
    refine ⟨hrest.trans hput, hbad.trans ?_⟩
    rw [putRec_merged h]
    rfl
  | none =>
    obtain ⟨hrest, hbad, -⟩ := replaceBlock_leaves e s.recorder
    obtain ⟨hafter, hafterbad⟩ := putRec_leaves e (remapBlock e s)
    rw [remapBlock_recorder] at hafter hafterbad
    exact ⟨hafter.trans hrest, hafterbad.trans hbad⟩

/-- What a record write whose verify failed does while the recorder still has blocks to spare (R434). -/
theorem failRec_spares (hbad : s.recorder.bad.length < 64) (e : Rec) : failRec e true s =
    pulse0 23 2 (putRec (recordOf (remapped e s) 0x2022 0xFF [(s.recorder.placeFor e).1, s.recorder.bad.length + 1])
      (remapped e s)) := by
  have hcount : (remapped e s).recorder.bad.length = s.recorder.bad.length + 1 := by
    rw [(remapped_leaves e s).2, List.length_cons]
  rw [← hcount]
  exact if_neg (Nat.not_le.mpr hbad)

theorem failRec_spares_leaves (hbad : s.recorder.bad.length < 64) (e : Rec) :
    (failRec e true s).recorder.besideRecords = s.recorder.besideRecords ∧
    (failRec e true s).recorder.bad = (s.recorder.placeFor e).1 :: s.recorder.bad := by
  rw [failRec_spares hbad, pulse0_recorder]
  obtain ⟨hrest, hbads⟩ := putRec_leaves (recordOf (remapped e s) 0x2022 0xFF
    [(s.recorder.placeFor e).1, s.recorder.bad.length + 1]) (remapped e s)
  obtain ⟨hrest', hbads'⟩ := remapped_leaves e s
  exact ⟨hrest.trans hrest', hbads.trans hbads'⟩

/-- The record with its ring block replaced stands at the next place of the copy. -/
theorem remapped_ring (hring : s.recorder.goesReserved e = false) (hmerge : s.recorder.mergeable e = none)
    (hmoved : (replaceBlock e s.recorder).1.mergeable e = none)
    (hopen : (replaceBlock e s.recorder).1.resOpen = s.recorder.resOpen)
    (hfits : (replaceBlock e s.recorder).1.ringOpen.2 + 1 < 64) :
    let u := (replaceBlock e s.recorder).1
    (remapped e s).recorder.seq = u.seq + 1 ∧
    (remapped e s).recorder.mram = put none (64 * u.ringOpen.1 + u.ringOpen.2) (some (numberRec u e)) u.mram ∧
    (remapped e s).recorder.newestRing = some u.ringOpen ∧
    (remapped e s).recorder.ringOpen = (u.ringOpen.1, u.ringOpen.2 + 1) := by
  have hring' : (replaceBlock e s.recorder).1.goesReserved e = false := by
    simpa [Recorder.goesReserved, hopen] using hring
  have hput := putRec_ring (e := e) (s := remapBlock e s) (by rwa [remapBlock_recorder])
    (by rwa [remapBlock_recorder]) (by rwa [remapBlock_recorder])
  have hremapped : remapped e s = putRec e (remapBlock e s) := by simp [remapped, hmerge]
  rw [hremapped, hput, remapBlock_recorder]
  exact ⟨rfl, rfl, rfl, rfl⟩

/-- A record of another code than the newest one does not merge with it (R428). -/
theorem mergeable_of_other_code {r : Recorder} {x : Rec} {bp : Nat × Nat} (hnewest : r.newestRing = some bp)
    (hstored : look none r.mram (64 * bp.1 + bp.2) = some x) (hcode : x.code ≠ e.code) : r.mergeable e = none := by
  have hsame : x.same e = false := by simp [Rec.same, hcode]
  simp only [Recorder.mergeable, hnewest, hstored, hsame]
  split <;> rfl

/-- The places up to a ring block's open one after a failed verify: the copy, the record and BLOCK_BAD (R434). -/
theorem failRec_records (hwf : wf none s.recorder.mram = true) (hbad : s.recorder.bad.length < 64)
    (hcode : e.code ≠ 0x2022) (hring : s.recorder.goesReserved e = false) (hmerge : s.recorder.mergeable e = none)
    (hmoved : (replaceBlock e s.recorder).1.mergeable e = none) (hfits : s.recorder.ringOpen.2 < 62) :
    let r := s.recorder
    let u := (replaceBlock e r).1
    let y := (failRec e true s).recorder
    y.seq = r.seq + 2 ∧ look none y.mram (64 * u.ringOpen.1 + r.ringOpen.2) = some (numberRec u e) ∧
    ((look none y.mram (64 * u.ringOpen.1 + r.ringOpen.2 + 1)).map (fun z => (z.code, z.params.take 2))) =
      some (0x2022, [r.ringOpen.1, r.bad.length + 1]) ∧
    (∀ k, k < r.ringOpen.2 →
      look none y.mram (64 * u.ringOpen.1 + k) = look none r.mram (64 * r.ringOpen.1 + k)) := by
  intro r u y
  obtain ⟨hcanonical, hplace, hopen, hkept⟩ := replaceBlock_copies hring hwf
  obtain ⟨-, -, hseq⟩ := replaceBlock_leaves e s.recorder
  obtain ⟨hseq', hmram, hnewest, hnext⟩ := remapped_ring hring hmerge hmoved hopen (by omega)
  have hplaceFor : s.recorder.placeFor e = s.recorder.ringOpen := by simp [Recorder.placeFor, hring]
  have hput := putRec_ring (s := remapped e s) (e := recordOf (remapped e s) 0x2022 0xFF
      [s.recorder.ringOpen.1, s.recorder.bad.length + 1]) rfl
    (mergeable_of_other_code (x := numberRec u e) hnewest (by rw [hmram]; exact Laws.look_put_same hcanonical) hcode)
    (by rw [hnext]; dsimp only; omega)
  have hy : y = (putRec (recordOf (remapped e s) 0x2022 0xFF [s.recorder.ringOpen.1, s.recorder.bad.length + 1])
      (remapped e s)).recorder := by
    simp only [y, failRec_spares hbad, pulse0_recorder, hplaceFor]
  rw [hput, hnext] at hy
  have hmram' : y.mram = put none (64 * u.ringOpen.1 + (u.ringOpen.2 + 1)) (some (numberRec (remapped e s).recorder
      (recordOf (remapped e s) 0x2022 0xFF [s.recorder.ringOpen.1, s.recorder.bad.length + 1])))
      (put none (64 * u.ringOpen.1 + u.ringOpen.2) (some (numberRec u e)) u.mram) := by rw [hy, ← hmram]
  have hp : r.ringOpen.2 = u.ringOpen.2 := hplace.symm
  rw [hmram', hp]
  refine ⟨by rw [hy]; simp only [hseq', hseq]; rfl, ?_, ?_, fun k hk => ?_⟩
  · rw [Laws.look_put_other (by omega), Laws.look_put_same hcanonical]
  · rw [Nat.add_assoc, Laws.look_put_same (Laws.wf_put hcanonical)]
    rfl
  · rw [Laws.look_put_other (by omega), Laws.look_put_other (by omega)]
    exact hkept k (hp ▸ hk)

end

end Sys2Proof.Machine
end

section
/-! PROOF. A record write in each of the recorder's states, by the record that comes next (18 R426 to R435). -/

namespace Sys2Proof.Machine

/-! ## Entering DEGRADED with a record to write -/

/-- A recorder that has entered DEGRADED with a record of code `code` to write: LOG_DEGRADED and the record after it are
the volatile ring's newest entries (R434, R435). -/
structure Recorder.Failed (r : Recorder) (e : Rec) (y : Recorder) : Prop where
  degraded : y.degraded = true
  queue : y.queue = r.queue
  kept : y.vqueue.take r.vqueue.length = r.vqueue
  codes : (y.vqueue.drop r.vqueue.length).map Rec.code = [0x4023, e.code]
  last : y.vqueue.getLast? = some { e with seq := r.seq + 2, fallback := true }

section
variable {e : Rec} {s : State}

theorem writeVolatile_degrade_fails (reason : Nat) (h : s.recorder.degraded = false) (e : Rec) :
    Recorder.Failed s.recorder e (writeVolatile e (degrade reason s)).recorder := by
  rw [writeVolatile_recorder, degrade_recorder reason h, writeVolatile_recorder]
  constructor
  · rfl
  · rfl
  · simp
  · simp [recordOf]
  · simp

theorem failRec_fails {cv : Bool} (h : s.recorder.degraded = false)
    (hfail : 64 ≤ s.recorder.bad.length ∨ cv = false)
    (e : Rec) : Recorder.Failed s.recorder e (failRec e cv s).recorder := by
  unfold failRec
  by_cases hbad : 64 ≤ s.recorder.bad.length
  · rw [if_pos hbad]
    exact writeVolatile_degrade_fails 1 h e
  · rw [if_neg hbad, if_pos (by simp [hfail.resolve_left hbad])]
    exact writeVolatile_degrade_fails 0 h e

end

/-! ## The next record written -/

section
variable {e : Rec} {s t : State} (htake : takeRec s = some (e, t))
include htake

theorem writeRecord_volatile (h : t.recorder.degraded = true) (vf cv sv : Bool) :
    writeRecord vf cv sv s = writeVolatile e t := by
  rw [writeRecord_of_take htake, if_pos h]

section
variable (h : t.recorder.degraded = false)
include h

theorem writeRecord_verified (cv : Bool) : writeRecord true cv true s = putRec e t := by
  rw [writeRecord_of_take htake, if_neg (by simp [h])]
  rfl

theorem writeRecord_remapped (cv : Bool) : writeRecord false cv true s = failRec e cv t := by
  rw [writeRecord_of_take htake, if_neg (by simp [h])]
  rfl

theorem writeRecord_state_block_fails (vf cv : Bool) : (writeRecord vf cv false s).recorder.degraded = true := by
  rw [writeRecord_of_take htake, if_neg (by simp [h])]
  exact degrade_degrades 2 _

theorem writeRecord_fails {cv : Bool} (hfail : 64 ≤ t.recorder.bad.length ∨ cv = false) (sv : Bool) :
    Recorder.Failed t.recorder e (writeRecord false cv sv s).recorder := by
  have hfailed := failRec_fails h hfail e
  rw [writeRecord_of_take htake, if_neg (by simp [h])]
  cases sv with
  | true => exact hfailed
  | false =>
    show Recorder.Failed t.recorder e (degrade 2 (failRec e cv t)).recorder
    rwa [degrade_of_degraded 2 hfailed.degraded]

theorem writeRecord_spares (hbad : t.recorder.bad.length < 64) (sv : Bool) :
    (writeRecord false true sv s).recorder.queue = t.recorder.queue ∧
    (writeRecord false true sv s).recorder.bad = (t.recorder.placeFor e).1 :: t.recorder.bad := by
  obtain ⟨hrest, hbads⟩ := failRec_spares_leaves hbad e
  have hqueue : (failRec e true t).recorder.queue = t.recorder.queue := 
    (congrArg Recorder.queue hrest :)
  rw [writeRecord_of_take htake, if_neg (by simp [h])]
  cases sv with
  | true => exact ⟨hqueue, hbads⟩
  | false =>
    obtain ⟨hq, hb⟩ := degrade_leaves 2 (failRec e true t)
    exact ⟨hq.trans hqueue, hb.trans hbads⟩

end

end

/-- A record stored at its place: numbered, and nothing else of the queue or the counts of discarded records touched. -/
theorem putRec_stores {e : Rec} {s : State} (hwf : wf none s.recorder.mram = true)
    (hmerge : s.recorder.mergeable e = none) (hfits : (s.recorder.placeFor e).2 < 63) :
    (putRec e s).recorder.besideRecords = s.recorder.besideRecords ∧
    (putRec e s).recorder.seq = s.recorder.seq + 1 ∧
    look none (putRec e s).recorder.mram (64 * (s.recorder.placeFor e).1 + (s.recorder.placeFor e).2) =
      some (numberRec s.recorder e) := by
  have hplace (q : Nat) (b : Bool) : ({ s.recorder with seq := q, reservedFull := b } : Recorder).placeFor
      (numberRec s.recorder e) = s.recorder.placeFor e := rfl
  refine ⟨(putRec_leaves e s).1, ?_⟩
  rw [putRec_placed hmerge, storeRec_within (by rw [hplace]; omega), hplace]
  exact ⟨rfl, Laws.look_put_same hwf⟩

/-- A record merged into the newest one (R428). -/
theorem merge_eq (a x : Rec) : a.merge x = { a with
    again := min 65535 (a.again + x.again + 1), lastSeconds := x.lastSeconds
    repeatSat := a.repeatSat || decide (65535 ≤ a.again + x.again + 1) } := by
  have hsat : (min 65535 (a.again + x.again + 1) == 65535) = decide (65535 ≤ a.again + x.again + 1) := by
    rw [Bool.eq_iff_iff, beq_iff_eq, decide_eq_true_eq]
    exact min_eq_left_iff
  simp only [Rec.merge, hsat]

end Sys2Proof.Machine
end

section
/-! PROOF. LOG_RECORD_WRITTEN by the recorder's state and the record that comes next (18 R426 to R435). -/

namespace Sys2Proof.Machine

section
variable {s : State} (hs : Recording s)
include hs

/-! ## RECORDS_LOST -/

section
variable {k : Nat} (hk : s.recorder.lost = k ∧ k ≠ 0 ∨
  s.recorder.lost = 0 ∧ s.recorder.lostFrozen = k ∧ k ≠ 0 ∧ s.recorder.lostAfter = 0)
include hk

theorem wrote_lost_degraded (hdeg : s.recorder.degraded = true) (hvring : wf none s.recorder.vring = true)
    (vf cv sv : Bool) : Wrote s vf cv sv (fun y => (y.queue = s.recorder.queue ∧ y.lost = 0 ∧
      y.seq = s.recorder.seq + 1 ∧ y.lostFrozen = if s.recorder.lost = 0 then 0 else s.recorder.lostFrozen) ∧
      look none y.vring s.recorder.vnext =
        some { recordOf s 0x2025 0xFF [k] with seq := s.recorder.seq + 1, fallback := true }) := by
  refine .of_writeRecord hs fun f => ?_
  rw [writeRecord_volatile (takeRec_lost (s := fresh s) hk) hdeg, writeVolatile_recorder]
  exact ⟨⟨rfl, rfl, rfl, rfl⟩, Laws.look_put_same hvring⟩

theorem wrote_lost (hdeg : s.recorder.degraded = false) (hmram : wf none s.recorder.mram = true)
    (hmerge : s.recorder.mergeable (recordOf s 0x2025 0xFF [k]) = none)
    (hfits : (s.recorder.placeFor (recordOf s 0x2025 0xFF [k])).2 < 63) (cv : Bool) :
    Wrote s true cv true (fun y => (y.queue = s.recorder.queue ∧ y.lost = 0 ∧
      y.seq = s.recorder.seq + 1 ∧ y.lostFrozen = if s.recorder.lost = 0 then 0 else s.recorder.lostFrozen) ∧
      look none y.mram (64 * (s.recorder.placeFor (recordOf s 0x2025 0xFF [k])).1 +
          (s.recorder.placeFor (recordOf s 0x2025 0xFF [k])).2) =
        some (numberRec s.recorder (recordOf s 0x2025 0xFF [k]))) := by
  refine .of_writeRecord hs fun f => ?_
  rw [writeRecord_verified (takeRec_lost (s := fresh s) hk) hdeg]
  obtain ⟨hrest, hseq, hlook⟩ := putRec_stores (s := { fresh s with recorder := s.recorder.told })
    (e := recordOf s 0x2025 0xFF [k]) hmram hmerge hfits
  exact ⟨⟨(congrArg Recorder.queue hrest :), (congrArg Recorder.lost hrest :), hseq,
    (congrArg Recorder.lostFrozen hrest :)⟩, hlook⟩

end

/-! ## The queue's first record -/

section
variable {x : Rec} {q : List Rec} (hqueue : s.recorder.queue = x :: q) (hlost : s.recorder.lost = 0)
  (hfrozen : s.recorder.lostFrozen = 0 ∨ s.recorder.lostAfter ≠ 0)
include hqueue hlost hfrozen

theorem wrote_queued_degraded (hdeg : s.recorder.degraded = true) (hvring : wf none s.recorder.vring = true)
    (vf cv sv : Bool) : Wrote s vf cv sv (fun y => y.queue = q ∧ y.seq = s.recorder.seq + 1 ∧
      y.vqueue = s.recorder.vqueue ++ [{ x with seq := s.recorder.seq + 1, fallback := true }] ∧
      look none y.vring s.recorder.vnext = some { x with seq := s.recorder.seq + 1, fallback := true }) := by
  refine .of_writeRecord hs fun f => ?_
  rw [writeRecord_volatile (takeRec_queue (s := fresh s) hqueue hlost hfrozen) hdeg, writeVolatile_recorder]
  exact ⟨rfl, rfl, rfl, Laws.look_put_same hvring⟩

section
variable (hdeg : s.recorder.degraded = false)
include hdeg

theorem wrote_merged (hmram : wf none s.recorder.mram = true) {k : Nat × Nat}
    (hk : s.recorder.mergeable x = some k) (cv : Bool) :
    Wrote s true cv true (fun y => y.queue = q ∧ y.seq = s.recorder.seq ∧
      look none y.mram (64 * k.1 + k.2) = some (((look none s.recorder.mram (64 * k.1 + k.2)).getD {}).merge x)) := by
  refine .of_writeRecord hs fun f => ?_
  have hput := putRec_merged (s := { fresh s with recorder := s.recorder.unqueued q }) (e := x) (bp := k) hk
  rw [writeRecord_verified (takeRec_queue (s := fresh s) hqueue hlost hfrozen) hdeg]
  exact ⟨(congrArg Recorder.queue hput :), (congrArg Recorder.seq hput :),
    (congrArg (fun y : Recorder => look none y.mram (64 * k.1 + k.2)) hput :).trans (Laws.look_put_same hmram)⟩

theorem wrote_placed (hmram : wf none s.recorder.mram = true) (hmerge : s.recorder.mergeable x = none)
    (hfits : (s.recorder.placeFor x).2 < 63) (cv : Bool) :
    Wrote s true cv true (fun y => y.queue = q ∧ y.seq = s.recorder.seq + 1 ∧
      look none y.mram (64 * (s.recorder.placeFor x).1 + (s.recorder.placeFor x).2) =
        some (numberRec s.recorder x)) := by
  refine .of_writeRecord hs fun f => ?_
  rw [writeRecord_verified (takeRec_queue (s := fresh s) hqueue hlost hfrozen) hdeg]
  obtain ⟨hrest, hseq, hlook⟩ := putRec_stores (s := { fresh s with recorder := s.recorder.unqueued q }) (e := x)
    hmram hmerge hfits
  exact ⟨(congrArg Recorder.queue hrest :), hseq, hlook⟩

theorem wrote_state_block_fails (vf cv : Bool) : Wrote s vf cv false (fun y => y.degraded = true) :=
  .of_writeRecord hs fun _ =>
    writeRecord_state_block_fails (takeRec_queue (s := fresh s) hqueue hlost hfrozen) hdeg vf cv

theorem wrote_spares (hbad : s.recorder.bad.length < 64) (sv : Bool) : Wrote s false true sv (fun y =>
    y.queue = q ∧ y.bad = (s.recorder.placeFor x).1 :: s.recorder.bad) :=
  .of_writeRecord hs fun _ =>
    writeRecord_spares (takeRec_queue (s := fresh s) hqueue hlost hfrozen) hdeg hbad sv

theorem wrote_records (hmram : wf none s.recorder.mram = true) (hbad : s.recorder.bad.length < 64)
    (hcode : x.code ≠ 0x2022) (hring : s.recorder.goesReserved x = false) (hmerge : s.recorder.mergeable x = none)
    (hmoved : (replaceBlock x (s.recorder.unqueued q)).1.mergeable x = none) (hfits : s.recorder.ringOpen.2 < 62) :
    let r := s.recorder
    let u := (replaceBlock x (s.recorder.unqueued q)).1
    Wrote s false true true (fun y => y.seq = r.seq + 2 ∧
      look none y.mram (64 * u.ringOpen.1 + r.ringOpen.2) = some (numberRec u x) ∧
      ((look none y.mram (64 * u.ringOpen.1 + r.ringOpen.2 + 1)).map (fun z => (z.code, z.params.take 2))) =
        some (0x2022, [r.ringOpen.1, r.bad.length + 1]) ∧
      (∀ k, k < r.ringOpen.2 →
        look none y.mram (64 * u.ringOpen.1 + k) = look none r.mram (64 * r.ringOpen.1 + k))) := by
  refine .of_writeRecord hs fun f => ?_
  rw [writeRecord_remapped (takeRec_queue (s := fresh s) hqueue hlost hfrozen) hdeg]
  exact failRec_records (s := { fresh s with recorder := s.recorder.unqueued q }) hmram hbad hcode hring hmerge hmoved
    hfits

theorem wrote_fails {cv : Bool} (hfail : 64 ≤ s.recorder.bad.length ∨ cv = false) (sv : Bool) :
    Wrote s false cv sv (fun y => y.degraded = true ∧ y.queue = q ∧
      y.vqueue.take s.recorder.vqueue.length = s.recorder.vqueue ∧
      (y.vqueue.drop s.recorder.vqueue.length).map Rec.code = [0x4023, x.code] ∧
      y.vqueue.getLast? = some { x with seq := s.recorder.seq + 2, fallback := true }) := by
  refine .of_writeRecord hs fun f => ?_
  have hfailed := writeRecord_fails (takeRec_queue (s := fresh s) hqueue hlost hfrozen) hdeg hfail sv
  exact ⟨hfailed.degraded, hfailed.queue, hfailed.kept, hfailed.codes, hfailed.last⟩

end

end

end

end Sys2Proof.Machine
end

section
/-! PROOF. Input power, the engine rail and its slack, the monitor converters, the management ports and the recorder's
other events (18 R430 to R435, 19 R443 to R459, 20 R470 to R473). -/

namespace Sys2Proof.Machine

/-! ## The recorder -/

section
variable {s : State}

theorem mramSilent_eq (hosc : s.pwr.osc = true) (hfree : s.recorder.freeze = none) :
    mramSilent s = degrade 3 { s with recorder := { s.recorder with unread := true } } :=
  if_pos (by simp [hosc, frozen, hfree])

theorem programFallback_of_idle (h : s.recorder.vqueue = [] ∨ flashHeld s = true) : programFallback s = s := by
  unfold programFallback
  split
  · rfl
  · rcases h with h | h
    · simp_all
    · exact if_pos h

theorem programFallback_within {x : Rec} {q : List Rec} (hq : s.recorder.vqueue = x :: q) (hheld : flashHeld s = false)
    (hroom : s.recorder.fbNext < 1024) : programFallback s =
      emit (.flashProgram (s.loader.areas.logFallback + 64 * s.recorder.fbNext) x.bytes) { s with recorder :=
        { s.recorder with
          vqueue := q, fbArea := put none s.recorder.fbNext (some x) s.recorder.fbArea
          fbNext := s.recorder.fbNext + 1 } } := by
  simp only [programFallback, hq, hheld, hroom]
  rfl

theorem programFallback_erases {x : Rec} {q : List Rec} (hq : s.recorder.vqueue = x :: q) (hheld : flashHeld s = false)
    (hfull : 1024 ≤ s.recorder.fbNext) : ∃ k, programFallback s =
      emit (.flashProgram (s.loader.areas.logFallback + 64 * 0) x.bytes)
        (bumpBy 23 0x20 s.recorder.fbArea.length { emit (.flashErase s.loader.areas.logFallback k (65536 / k)) s with
          recorder := { s.recorder with vqueue := q, fbArea := put none 0 (some x) [], fbNext := 1 } }) := by
  refine ⟨eraseSize s.loader.flash, ?_⟩
  have hnot : ¬ s.recorder.fbNext < 1024 := Nat.not_lt.mpr hfull
  simp only [programFallback, hq, hheld, hnot]
  rfl

/-! ## Input power and the engine rail -/

theorem pwrInUpdate_of_no_osc (h : s.pwr.osc = false) (p : Nat) : pwrInUpdate p s = s := if_pos (by simp [h])

/-- The highest input power of the class, in mW (R444; log 89). -/
def classLimit (s : State) : Nat := match s.pwr.cls with
  | some c => if c < 5 then classMw c else 200000
  | none => 200000

/-- The state with the input power's average shown, and whether it exceeds the class (R443). -/
def powerShown (p : Nat) (s : State) : State :=
  mPwr (fun x => { x with pwrIn := p % 65536, overClass := decide (classLimit s < p * 100) }) s

theorem pwrInUpdate_eq (h : s.pwr.osc = true) (p : Nat) : pwrInUpdate p s =
    if decide (classLimit s < p * 100) && !s.pwr.overClass then bump 20 0x20 (powerShown p s) else powerShown p s :=
  if_neg (by simp [h])

theorem slackLow_of_no_analysis (h : s.pwr.analysis = false) (slack : Nat) : slackLow slack s = s :=
  if_pos (by simp [h])
theorem avsLower_of_no_analysis (h : s.pwr.analysis = false) (slack : Nat) : avsLower slack s = s :=
  if_pos (by simp [h])

/-- The state with the slack of the last 1 ms shown (R445). -/
def slackShown (slack : Nat) (s : State) : State := mPwr (fun p => p.slackIs slack) s

section
variable (h : s.pwr.analysis = true)
include h

theorem slackLow_eq (slack : Nat) : slackLow slack s =
    if 26 ≤ slack then slackShown slack s
    else if s.pwr.setpoint < 850 then raiseRail (slackShown slack s)
    else if slack < 13 then controlledStop .margin (slackShown slack s)
    else slackShown slack s := if_neg (by simp [h])

theorem avsLower_stays {slack : Nat} (hstay : s.pwr.avsHold = true ∨ slack < 51 ∨ s.pwr.setpoint ≤ 650) :
    avsLower slack s = slackShown slack s := by
  refine (if_neg (by simp [h])).trans (if_pos ?_)
  rcases hstay with h | h | h <;> simp [mPwr, Power.slackIs, h]

theorem avsLower_lowers {slack : Nat} (hhold : s.pwr.avsHold = false) (hslack : 51 ≤ slack)
    (hset : 650 < s.pwr.setpoint) : avsLower slack s =
      bump 20 0x10 (mPwr (fun p => { p with setpoint := p.setpoint - 5 }) (slackShown slack s)) := by
  refine (if_neg (by simp [h])).trans (if_neg ?_)
  simp [mPwr, Power.slackIs, hhold, hslack, hset]

end

theorem bump_snap_of {n a : Nat} {s t : State} (h : t.snap = s.snap) : (bump n a t).snap = (bump n a s).snap :=
  congrArg (fun p : Snapshot => p.bump (holdKey n a) 1) h

/-- The setpoint after one step up; the step is counted, and under HOLD recorded (R445, R447). -/
theorem raiseRail_pwr (s : State) : (raiseRail s).pwr = { s.pwr with setpoint := min 850 (s.pwr.setpoint + 5) } := by
  unfold raiseRail
  dsimp only
  split <;> simp [mPwr]

theorem raiseRail_adaptive (h : s.pwr.avsHold = false) :
    (raiseRail s).recorder = s.recorder ∧ (raiseRail s).snap = (bump 20 0 s).snap := by
  unfold raiseRail
  dsimp only
  rw [if_neg (by simp [h])]
  exact ⟨by simp, bump_snap_of (by simp)⟩

/-- Outside a freeze, an event takes a place of the queue that has one (R426). -/
theorem logEvent_queued {code source : Nat} {ps : List Nat} (hfree : s.recorder.freeze = none)
    (hroom : s.recorder.queue.length < 256) : logEvent code source ps s =
      { s with recorder := { s.recorder with queue := s.recorder.queue ++ [recordOf s code source ps] } } := by
  simp [logEvent, hfree, hroom]

theorem raiseRail_held (h : s.pwr.avsHold = true) (hfree : s.recorder.freeze = none)
    (hroom : s.recorder.queue.length < 256) : (raiseRail s).snap = (bump 20 0 s).snap ∧
      ∃ z, (raiseRail s).recorder.queue = s.recorder.queue ++ [z] ∧ z.code = 0x1020 := by
  unfold raiseRail
  dsimp only
  rw [if_pos (by simp [h]), logEvent_queued (by simpa using hfree) (by simpa using hroom)]
  exact ⟨bump_snap_of (by simp), _, by simp; rfl, rfl⟩

theorem controlledStop_of_idle (r : StopReason) (hrun : s.life.sys ≠ .running) (hrestart : s.life.sys ≠ .restarting)
    (hload : s.life.sys ≠ .loading) (hr : r ≠ .thermal) : controlledStop r s = s := by
  unfold controlledStop
  split
  · contradiction
  · exact if_neg (by simp [overrides, hr])
  · contradiction
  · contradiction
  · rfl

theorem controlledStop_again (r : StopReason) (hsys : s.life.sys = .restarting ∨ s.life.sys = .loading)
    (hr : r ≠ .thermal)
    (hstop : s.life.stopAtStart ≠ .none) : controlledStop r s = s := by
  rcases hsys with hsys | hsys <;> simp [controlledStop, hsys, hstop, overrides, hr]

theorem controlledStop_at_start (r : StopReason) (hsys : s.life.sys = .restarting ∨ s.life.sys = .loading)
    (hstop : s.life.stopAtStart = .none) : controlledStop r s =
      mLife (fun l => { l with stopAtStart := r, stopCycle := s.time.cycle }) (stopRecord r s) := by
  rcases hsys with hsys | hsys <;> simp [controlledStop, hsys, hstop]

theorem controlledStop_running (r : StopReason) (hsys : s.life.sys = .running) : controlledStop r s =
    mLife (fun l => { l with stopReason := r, stopCycle := s.time.cycle })
      (beginStop .controlled .stopped (stopRecord r s)) := by
  simp [controlledStop, hsys]

theorem beginStop_mon (kind : StopKind) (into : SysState) (s : State) : (beginStop kind into s).mon = s.mon :=
  (congrArg State.mon (beyondStop_stopStep1 s) :)

@[simp] theorem stopRecord_mon (r : StopReason) (s : State) : (stopRecord r s).mon = s.mon := logEvent_mon ..
@[simp] theorem stopRecord_pwr (r : StopReason) (s : State) : (stopRecord r s).pwr = s.pwr := logEvent_pwr ..

theorem controlledStop_mon (r : StopReason) (s : State) : (controlledStop r s).mon = s.mon := by
  unfold controlledStop
  split
  case h_1 => exact (beginStop_mon .controlled .stopped _).trans (stopRecord_mon r s)
  case h_2 => split <;> rfl
  case h_5 => rfl
  all_goals
    split
    · exact stopRecord_mon r s
    · split <;> rfl

/-- A controlled stop of a function that runs (R448, R451). -/
theorem controlledStop_stops (r : StopReason) (hsys : s.life.sys = .running) :
    (controlledStop r s).life.sys = .stopped ∧ (controlledStop r s).life.stopReason = r ∧
    (controlledStop r s).life.stop.isSome = true ∧ (controlledStop r s).pwr = s.pwr := by
  obtain ⟨hlife, hpwr, -⟩ := beginStop_leaves .controlled .stopped (stopRecord r s)
  rw [controlledStop_running r hsys]
  simp [mLife, hlife, hpwr]

theorem newJunction_mon (s : State) : (newJunction s).mon = s.mon := by
  unfold newJunction
  dsimp only
  split <;> split <;> simp [controlledStop_mon]

/-! ## Monitors -/

theorem monPassStart_of_idle (h : s.pwr.osc = false ∨ s.mon.inPass = true ∧ s.mon.entry < passEntries s.mon) :
    monPassStart s = s := by
  refine if_pos ?_
  rcases h with h | ⟨h, h'⟩ <;> simp [*]

theorem monEntryStart_of_not_due (h : entryDue s = false) : monEntryStart s = s := if_pos (by simp [h])
theorem monStartTimeout_of_not_due (h : entryDue s = false) : monStartTimeout s = s := if_pos (by simp [h])
theorem monStartTimeout_of_no_wait (h : (passEntry s.mon s.mon.entry).wait = false) : monStartTimeout s = s :=
  if_pos (by simp [h])

theorem monEntryEnd_of_idle (h : s.pwr.osc = false ∨ s.mon.inPass = false ∨ s.mon.started = false)
    (a b : List Nat) :
    monEntryEnd a b s = s := by
  refine if_pos ?_
  rcases h with h | h | h <;> simp [h]

theorem monUrgent_of_no_osc (h : s.pwr.osc = false) (w : Word) : monUrgent w s = s := if_pos (by simp [h])
theorem urgentDone_of_none (h : s.mon.urgent = none) (a b : Nat) : urgentDone a b s = s := if_neg (by simp [h])

/-- A monitor pass that begins: the one before, if any, is counted (R456). -/
theorem monPassStart_eq (hosc : s.pwr.osc = true) (h : s.mon.inPass = false ∨ passEntries s.mon ≤ s.mon.entry) :
    monPassStart s =
      let u := mPwr (fun p => { p with passCool := true }) (if s.mon.inPass then bump 21 0 s else s)
      mMon (fun m => { m with
        passCfg := m.cfg, passTimer := m.timer, passHost := m.host, inPass := true, entry := 0, started := false
        passLen := if m.inPass then (u.time.cycle - m.passStart) / 8 % 2 ^ 24 else m.passLen
        pass := if m.inPass then m.pass + 1 else m.pass
        passStart := u.time.cycle }) u :=
  if_neg (by rcases h with h | h <;> simp [hosc, h])

@[simp] theorem startLost_mon (s : State) : (startLost s).mon = s.mon := by simp [startLost]

theorem monEntryStart_eq (h : entryDue s = true) : monEntryStart s =
    mMon (fun m => { m with started := true })
      (if (passEntry s.mon s.mon.entry).wait && tbit s.mon.passCfg.toNat 6 &&
        !stageSwitches s (fld s.mon.passCfg.toNat 8 2) then startLost s else s) :=
  if_neg (by simp [h])

theorem monStartTimeout_eq (h : entryDue s = true) (hwait : (passEntry s.mon s.mon.entry).wait = true) :
    monStartTimeout s = mMon (fun m => { m with started := true }) (startLost s) :=
  if_neg (by simp [h, hwait])

/-- The monitor once an entry's conversions have ended: their means stand in the results (R458). -/
def Monitor.converted (a b : List Nat) (m : Monitor) : Monitor :=
  let e := passEntry m m.entry
  { m with
    entry := m.entry + 1, started := false
    resA := put (0, 0) e.inputA (meanOf a (e.reps + 1) % 65536, m.pass % 256) m.resA
    resB := put (0, 0) e.inputB (meanOf b (e.reps + 1) % 65536, m.pass % 256) m.resB }

theorem monEntryStart_mon (h : entryDue s = true) :
    (monEntryStart s).mon = { s.mon with started := true } := by
  rw [monEntryStart_eq h, mMon_mon, apply_ite State.mon, startLost_mon, ite_self]

theorem monEntryStart_snap (h : entryDue s = true) : (monEntryStart s).snap =
    (if (passEntry s.mon s.mon.entry).wait && tbit s.mon.passCfg.toNat 6 &&
      !stageSwitches s (fld s.mon.passCfg.toNat 8 2) then bump 21 0x30 s else s).snap := by
  rw [monEntryStart_eq h, mMon_snap, apply_ite State.snap, apply_ite State.snap]
  rfl

theorem monEntryEnd_mon (hosc : s.pwr.osc = true) (hpass : s.mon.inPass = true) (hstarted : s.mon.started = true)
    (a b : List Nat) : (monEntryEnd a b s).mon = s.mon.converted a b := by
  unfold monEntryEnd
  rw [if_neg (by simp [hosc, hpass, hstarted])]
  simp only [apply_ite State.mon, mPwr_mon, newJunction_mon, ite_self]
  rfl

theorem monUrgent_eq (hosc : s.pwr.osc = true) (w : Word) : monUrgent w s =
    let u := mMon (fun m => { m with urgentIn := (fld w.toNat 0 5, fld w.toNat 8 5) }) s
    if !tbit w.toNat 31 then u
    else if u.mon.urgent.isSome then bump 21 0x20 (pulse0 21 1 u)
    else bump 21 0x10 (mMon (fun m => { m with urgent := some (fld w.toNat 0 5, fld w.toNat 8 5) }) u) :=
  if_neg (by simp [hosc])

theorem monUrgent_without_go (hosc : s.pwr.osc = true) {w : Word} (h : tbit w.toNat 31 = false) :
    monUrgent w s = { s with mon := { s.mon with urgentIn := (fld w.toNat 0 5, fld w.toNat 8 5) } } :=
  (monUrgent_eq hosc w).trans (if_pos (by simp [h]))

theorem monUrgent_taken (hosc : s.pwr.osc = true) {w : Word} (h : tbit w.toNat 31 = true)
    (hnone : s.mon.urgent = none) :
    monUrgent w s = bump 21 0x10 { s with mon := { s.mon with
      urgentIn := (fld w.toNat 0 5, fld w.toNat 8 5), urgent := some (fld w.toNat 0 5, fld w.toNat 8 5) } } :=
  (monUrgent_eq hosc w).trans ((if_neg (by simp [h])).trans (if_neg (by simp [hnone])))

theorem monUrgent_lost (hosc : s.pwr.osc = true) {w : Word} (h : tbit w.toNat 31 = true)
    (hsome : s.mon.urgent.isSome = true) : monUrgent w s = bump 21 0x20 (pulse0 21 1
      { s with mon := { s.mon with urgentIn := (fld w.toNat 0 5, fld w.toNat 8 5) } }) :=
  (monUrgent_eq hosc w).trans ((if_neg (by simp [h])).trans (if_pos (by simpa using hsome)))

/-! ## The management ports -/

theorem smbusOffset_of_no_vaux (h : s.pwr.vaux = false) (off : Nat) : smbusOffset off s = s := if_neg (by simp [h])
theorem smbusRead_of_no_vaux (h : s.pwr.vaux = false) : smbusRead s = s := if_neg (by simp [h])
theorem smbusState_of_no_vaux (h : s.pwr.vaux = false) : smbusState s = s := if_neg (by simp [h])

theorem tapInstruction_of_refused {n : Nat}
    (h : s.pwr.vaux = false ∨ s.pwr.testEn = false ∧ n % 256 ≠ 1 ∧ n % 256 ≠ 0xFF) :
    tapInstruction n s = s := by
  refine if_neg ?_
  rcases h with h | ⟨htest, hid, hbypass⟩ <;> simp [tapAlways, *]

theorem tapScan_eq (n : Nat) (s : State) : tapScan n s = { s with
    free := if s.pwr.testEn then s.free + 1 else s.free
    pkg := if s.pwr.testEn then { s.pkg with
        boundary := Config.freeValue s.free, driven := Config.tapDrives n && n != 1 && n != 0xFF }
      else { s.pkg with driven := false } } := by
  have hnot : (!tapAlways n) = (n != 1 && n != 0xFF) := by simp [tapAlways, bne]
  unfold tapScan
  rw [hnot, ← Bool.and_assoc]
  split <;> rfl

theorem tapInstruction_taken {n : Nat} (hvaux : s.pwr.vaux = true)
    (h : s.pwr.testEn = true ∨ n % 256 = 0xFF ∨ n % 256 = 1) : tapInstruction n s =
      let u := tapScan (n % 256) (mPkg (fun k => { k with tap := n % 256 }) s)
      if n % 256 = 1 then emit (.word idcode) u else u := by
  refine if_pos ?_
  rcases h with h | h | h <;> simp [tapAlways, hvaux, h]

end

end Sys2Proof.Machine
end

section
/-! PROOF. The recorder, the rail, the monitors and the management ports: the statement (18, 19, 20). -/

namespace Sys2Proof.Machine

theorem settle_keeps_output {s u : State} {x : Output} (h : x ∈ u.outbox) : x ∈ (settle s u).outbox := by
  rcases settle_outbox s u with hout | ⟨a, d, hout⟩ <;> simp [hout, h]

/-- Settles O60: each event by the state that its clause names, a record write by the record that comes next. -/
theorem recorderMonitorsRailAndManagement : Obligations.RecorderMonitorsRailAndManagement := by
  unfold Obligations.RecorderMonitorsRailAndManagement
  intro s n p slack w a b vf cv sv hmram hvring r m idle pwr_ mon_ pkg_ wrote on e limit low asked
  refine ⟨fun h => ⟨act_of_effect (recordWritten_of_still (s := fresh s) h vf cv sv),
    act_of_effect (mramSilent_of_still (s := fresh s) h)⟩, ?records, ?silent, ?silentAgain, rfl,
    fun h => act_of_effect (programFallback_of_idle (s := fresh s) h), ?fallback,
    fun h => act_of_effect (pwrInUpdate_of_no_osc (s := fresh s) h p), ?power,
    fun h => ⟨act_of_effect (slackLow_of_no_analysis (s := fresh s) h slack),
      act_of_effect (avsLower_of_no_analysis (s := fresh s) h slack)⟩, ?slack,
    fun h => act_of_effect (monPassStart_of_idle (s := fresh s) h), ?pass,
    fun h => ⟨act_of_effect (monEntryStart_of_not_due (s := fresh s) h),
      act_of_effect (monStartTimeout_of_not_due (s := fresh s) h)⟩, ?entry, ?entryEnd,
    fun h => act_of_effect (monEntryEnd_of_idle (s := fresh s) h a b),
    fun h => act_of_effect (monUrgent_of_no_osc (s := fresh s) h w), ?urgent,
    fun h => act_of_effect (urgentDone_of_none (s := fresh s) h n p), ?urgentDone, ?unpowered,
    ?management, ?held, ?released⟩
  case records =>
    intro hosc hfree hstop hstaged
    have hs : Recording s := ⟨hosc, hfree, hstop, hstaged⟩
    refine ⟨fun hlost hqueue hfrozen hmbox => act_of_effect (recordWritten_of_none (s := fresh s)
        ⟨hosc, hfree, hstop, hstaged⟩ hmbox (takeRec_none hlost hqueue hfrozen) vf cv sv),
      fun k hk => ⟨fun hdeg => wrote_lost_degraded hs hk hdeg hvring vf cv sv,
        fun hdeg hmerge hfits => wrote_lost hs hk hdeg hmram hmerge hfits cv⟩, ?queued⟩
    intro x q hqueue hlost hfrozen u after
    refine ⟨fun hdeg => wrote_queued_degraded hs hqueue hlost hfrozen hdeg hvring vf cv sv,
      fun hdeg => ⟨fun k hk => ?merged,
      fun hmerge hfits => wrote_placed hs hqueue hlost hfrozen hdeg hmram hmerge hfits cv,
      wrote_state_block_fails hs hqueue hlost hfrozen hdeg true cv,
      fun hbad => wrote_spares hs hqueue hlost hfrozen hdeg hbad sv,
      fun hbad hcode hring hmerge hmoved hfits =>
        wrote_records hs hqueue hlost hfrozen hdeg hmram hbad hcode hring hmerge hmoved hfits,
      fun hbad => wrote_fails hs hqueue hlost hfrozen hdeg (.inl hbad) sv,
      fun _ => wrote_fails hs hqueue hlost hfrozen hdeg (.inr rfl) sv⟩⟩
    have hmerged := wrote_merged hs hqueue hlost hfrozen hdeg hmram hk cv
    rwa [merge_eq] at hmerged
  case silent =>
    intro hosc hfree hdeg
    have hrec := degrade_recorder (s := { fresh s with recorder := { r with unread := true } }) 3 hdeg
    rw [writeVolatile_recorder] at hrec
    refine ⟨_, act_of_effect (f := mramSilent) (mramSilent_eq (s := fresh s) hosc hfree), ?_⟩
    rw [settle_recorder]
    exact ⟨(congrArg Recorder.degraded hrec :), (congrArg Recorder.unread hrec :), (congrArg Recorder.mram hrec :),
      (congrArg Recorder.queue hrec :), _, (congrArg Recorder.vqueue hrec :), rfl⟩
  case silentAgain =>
    intro hosc hfree hdeg
    exact act_of_effect (f := mramSilent) ((mramSilent_eq (s := fresh s) hosc hfree).trans (degrade_of_degraded 3 hdeg))
  case fallback =>
    intro x q hq hheld
    refine ⟨fun hroom => ?_, fun hfull => ?_⟩
    · refine ⟨_, act_of_effect (f := programFallback)
        (programFallback_within (s := fresh s) hq hheld hroom), rfl, ?_⟩
      exact settle_keeps_output (by simp [emit, r])
    · obtain ⟨k, hk⟩ := programFallback_erases (s := fresh s) hq hheld hfull
      refine ⟨_, k, act_of_effect (f := programFallback) hk, ?_, ?_, ?_, ?_⟩
      · rw [settle_recorder, emit_recorder, bumpBy_recorder]
        rfl
      · exact settle_keeps_output (by simp [emit])
      · exact settle_keeps_output (by simp [emit])
      · rw [settle_snap, emit_snap, bumpBy, bumpBy, apply_ite State.snap, apply_ite State.snap]
        rfl
  case power =>
    intro hosc
    refine ⟨_, act_of_effect (f := pwrInUpdate p) (pwrInUpdate_eq (s := fresh s) hosc p), ?_, ?_⟩
    · rw [settle_pwr, apply_ite State.pwr, bump_pwr, ite_self]
      rfl
    · rw [settle_snap, apply_ite State.snap, apply_ite State.snap]
      rfl
  case slack =>
    intro han
    have hlow := slackLow_eq (s := fresh s) han slack
    have hmargin (hlt : slack < 13) (hmax : 850 ≤ s.pwr.setpoint) :
        slackLow slack (fresh s) = controlledStop .margin (slackShown slack (fresh s)) := by
      rw [hlow, if_neg (by omega), if_neg (Nat.not_lt.mpr (by exact hmax)), if_pos hlt]
    refine ⟨?_, ?_, fun hlt hmax => ⟨?_, ?_, ?_, ?_⟩, ?_, ?_⟩
    · intro h
      refine act_of_effect (f := slackLow slack) (hlow.trans ?_)
      rcases h with h | ⟨hmax, h⟩
      · exact if_pos h
      · by_cases h26 : 26 ≤ slack
        · exact if_pos h26
        · rw [if_neg h26, if_neg (Nat.not_lt.mpr (by exact hmax)), if_neg (Nat.not_lt.mpr h)]
          rfl
    · intro hlt hset
      rw [if_neg (by omega), if_pos (by exact hset)] at hlow
      exact ⟨_, act_of_effect (f := slackLow slack) hlow, raiseRail_pwr _,
        fun hhold => raiseRail_adaptive (s := slackShown slack (fresh s)) hhold,
        fun hhold hfree hroom => raiseRail_held (s := slackShown slack (fresh s)) hhold hfree hroom⟩
    · intro hrun
      obtain ⟨hsys, hreason, hstop, hpwr⟩ := controlledStop_stops (s := slackShown slack (fresh s)) .margin hrun
      exact ⟨_, act_of_effect (f := slackLow slack) (hmargin hlt hmax), hsys, hreason, hstop,
        (congrArg Power.setpoint hpwr :)⟩
    · intro hsys hstop
      refine ⟨_, act_of_effect (f := slackLow slack) ((hmargin hlt hmax).trans
        (controlledStop_at_start (s := slackShown slack (fresh s)) .margin hsys hstop)), rfl, ?_⟩
      exact stopRecord_pwr .margin _
    · intro hsys hstop
      exact act_of_effect (f := slackLow slack) ((hmargin hlt hmax).trans
        (controlledStop_again (s := slackShown slack (fresh s)) .margin hsys (by decide) hstop))
    · intro hrun hrestart hload
      exact act_of_effect (f := slackLow slack) ((hmargin hlt hmax).trans
        (controlledStop_of_idle (s := slackShown slack (fresh s)) .margin hrun hrestart hload (by decide)))
    · exact fun h => act_of_effect (avsLower_stays (s := fresh s) han h)
    · exact fun hhold hge hset => act_of_effect (avsLower_lowers (s := fresh s) han hhold hge hset)
  case pass =>
    intro hosc h
    refine ⟨_, act_of_effect (f := monPassStart) (monPassStart_eq (s := fresh s) hosc h), ?_⟩
    have hmon : (if m.inPass then bump 21 0 (fresh s) else fresh s).mon = m := by
      rw [apply_ite State.mon, bump_mon, fresh_mon, ite_self]
    have hpwr : (if m.inPass then bump 21 0 (fresh s) else fresh s).pwr = s.pwr := by
      rw [apply_ite State.pwr, bump_pwr, fresh_pwr, ite_self]
    refine ⟨rfl, rfl, rfl, (congrArg Monitor.cfg hmon :), (congrArg Monitor.timer hmon :),
      (congrArg Monitor.host hmon :),
      ?_, (congrArg (fun p : Power => { p with passCool := true }) hpwr :), ?_⟩
    · exact (congrArg (fun x : Monitor => if x.inPass then x.pass + 1 else x.pass) hmon :)
    · rw [apply_ite State.snap]
      exact apply_ite State.snap ..
  case entry =>
    intro hdue
    refine ⟨⟨_, act_of_effect (f := monEntryStart) rfl, monEntryStart_mon (s := fresh s) hdue,
      (monEntryStart_snap (s := fresh s) hdue).trans ?_⟩, fun hwait => ?_,
      fun hwait => act_of_effect (monStartTimeout_of_no_wait (s := fresh s) hwait)⟩
    · rw [apply_ite State.snap, apply_ite State.snap]
      rfl
    · exact act_of_effect (f := monStartTimeout) ((monStartTimeout_eq (s := fresh s) hdue hwait).trans rfl)
  case entryEnd =>
    intro hosc hpass hstarted
    exact ⟨_, act_of_effect (f := monEntryEnd a b) rfl, monEntryEnd_mon (s := fresh s) hosc hpass hstarted a b⟩
  case urgent =>
    intro hosc
    exact ⟨fun h => act_of_effect (monUrgent_without_go (s := fresh s) hosc h),
      fun h hnone => act_of_effect (monUrgent_taken (s := fresh s) hosc h hnone),
      fun h hsome => act_of_effect (monUrgent_lost (s := fresh s) hosc h hsome)⟩
  case urgentDone =>
    intro h
    exact act_of_effect (f := urgentDone n p) (if_pos h)
  case unpowered =>
    intro h
    exact ⟨act_of_effect (smbusOffset_of_no_vaux (s := fresh s) h n),
      act_of_effect (smbusRead_of_no_vaux (s := fresh s) h),
      act_of_effect (smbusState_of_no_vaux (s := fresh s) h),
      act_of_effect (tapInstruction_of_refused (s := fresh s) (.inl h))⟩
  case management =>
    intro h
    refine ⟨?_, ?_, ?_, ?_, ?_⟩
    · exact act_of_effect (f := smbusOffset n) (if_pos h)
    · exact act_of_effect (f := smbusRead) (if_pos h)
    · exact act_of_effect (f := smbusState) (if_pos h)
    · intro hcode
      refine act_of_effect (f := tapInstruction n) ((tapInstruction_taken (s := fresh s) h hcode).trans ?_)
      rw [tapScan_eq]
      by_cases hid : n % 256 = 1
      · rw [if_pos hid, if_pos hid]
        cases htest : s.pwr.testEn <;> simp [htest, emit, mPkg]
      · rw [if_neg hid, if_neg hid]
        cases htest : s.pwr.testEn <;> simp [htest, mPkg]
    · exact fun htest hid hbypass => act_of_effect
        (tapInstruction_of_refused (s := fresh s) (.inr ⟨htest, hid, hbypass⟩))
  case held =>
    exact fun h => act_of_effect (f := dperstReleased p) (if_neg (by simp [show tbit s.pkg.dperstDue p = false from h]))
  case released =>
    exact fun h => act_of_effect (f := dperstReleased p) (if_pos h)
end Sys2Proof.Machine
end

section
/-! PROOF. What a sleeve's writer leaves alone (07 R174 to R180): everything but the sleeves, the store's bytes, the
counters and the status tree. -/

namespace Sys2Proof.Machine

/-- The state with the parts taken out that a sleeve's writer works on: the sleeves, the store, the counters and the
status tree. Two states with the same `outsideWriters` agree in every other part. -/
def outsideWriters (s : State) : State := { s with sleeves := [], store := {}, snap := {}, stat := {} }

section
variable (i : Nat) (s : State)

@[simp] theorem outsideWriters_mSleeve (f : Sleeve → Sleeve) : outsideWriters (mSleeve i f s) = outsideWriters s := rfl
@[simp] theorem outsideWriters_pulse (n k : Nat) (w : Word) : outsideWriters (pulse n k w s) = outsideWriters s := rfl
@[simp] theorem outsideWriters_pulse0 (n bit : Nat) : outsideWriters (pulse0 n bit s) = outsideWriters s := rfl

@[simp] theorem outsideWriters_bumpBy (n off k : Nat) : outsideWriters (bumpBy n off k s) = outsideWriters s := by
  unfold bumpBy
  split <;> rfl

@[simp] theorem outsideWriters_bump (n off : Nat) : outsideWriters (bump n off s) = outsideWriters s :=
  outsideWriters_bumpBy s n off 1

/-! ## Markers -/

@[simp] theorem outsideWriters_resumeWriter : outsideWriters (resumeWriter i s) = outsideWriters s :=
  foldl_leaves (fun s j => outsideWriters_mSleeve j s _) _ s

@[simp] theorem outsideWriters_tidyLoop (k : Nat) : outsideWriters (tidyLoop i k s) = outsideWriters s := by
  induction k generalizing s with
  | zero => rfl
  | succ k ih =>
    unfold tidyLoop
    split
    · rfl
    · split <;> simp [ih]

@[simp] theorem outsideWriters_tidyMarkers : outsideWriters (tidyMarkers i s) = outsideWriters s := by
  simp only [tidyMarkers]
  split <;> simp

@[simp] theorem outsideWriters_placeMarker (overflow : Bool) (blocks time : Nat) :
    outsideWriters (placeMarker i overflow blocks time s) = outsideWriters s := by
  simp only [placeMarker]
  split <;> simp

@[simp] theorem outsideWriters_endDrop : outsideWriters (endDrop i s) = outsideWriters s := by
  simp only [endDrop]
  split <;> simp

@[simp] theorem outsideWriters_stopWriter (time : Nat) : outsideWriters (stopWriter i time s) = outsideWriters s :=
  outsideWriters_placeMarker i s true 0 time

@[simp] theorem outsideWriters_dropBlock (time : Nat) : outsideWriters (dropBlock i time s) = outsideWriters s :=
  outsideWriters_bump ..

@[simp] theorem outsideWriters_noteResult (t : Nat) : outsideWriters (noteResult i t s) = outsideWriters s := by
  unfold noteResult
  split <;> rfl

/-! ## Readers -/

@[simp] theorem outsideWriters_lapReader (j : Nat) : outsideWriters (lapReader i s j) = outsideWriters s := by
  rcases lapReader_cases i j s with h | ⟨off, k, f, h⟩
  · rw [h]
  · rw [h]
    exact outsideWriters_bumpBy s 19 off k

@[simp] theorem outsideWriters_settleDsk : outsideWriters (settleDsk i s) = outsideWriters s := by
  simp only [settleDsk]
  split <;> simp

@[simp] theorem outsideWriters_wrapSleeve : outsideWriters (wrapSleeve i s) = outsideWriters s := by
  refine foldl_leaves (fun s j => ?_) _ _
  simp only [settleReader]
  repeat' split
  all_goals rfl

/-! ## Bytes -/

theorem outsideWriters_storeChunk (data : List Byte) : outsideWriters (storeChunk i data s) = outsideWriters s := by
  have hread : outsideWriters (overtaken i data s) = outsideWriters s :=
    foldl_leaves (fun s j => outsideWriters_lapReader i s j) _ (placed i data s)
  simp only [storeChunk]
  split
  · exact (outsideWriters_wrapSleeve i _).trans hread
  · exact hread

theorem outsideWriters_storeBytes (k : Nat) (data : List Byte) :
    outsideWriters (storeBytes i k data s) = outsideWriters s := by
  induction k generalizing data s with
  | zero => rfl
  | succ k ih =>
    simp only [storeBytes]
    split
    · rfl
    · split
      · rfl
      · exact (ih _ _).trans (outsideWriters_storeChunk i s _)

@[simp] theorem outsideWriters_storeAll (data : List Byte) : outsideWriters (storeAll i data s) = outsideWriters s := by
  simp only [storeAll]
  split <;> exact outsideWriters_storeBytes i s _ data

theorem outsideWriters_appendLoop (tm : Nat → Nat) (k o : Nat) (data : List Byte) :
    outsideWriters (appendLoop i tm k o data s) = outsideWriters s := by
  induction k generalizing o data s with
  | zero => rfl
  | succ k ih =>
    simp only [appendLoop]
    repeat' split
    all_goals simp [ih]

@[simp] theorem outsideWriters_appendBytes (time : Nat) (data : List Byte) :
    outsideWriters (appendBytes i time data s) = outsideWriters s :=
  (outsideWriters_tidyMarkers ..).trans (outsideWriters_appendLoop ..)

end

/-- The records of a capture go to a sleeve (R333). -/
@[simp] theorem outsideWriters_sleeveRecord (g notice : Nat) (c : Capture) (stop : Option Nat) (s : State) :
    outsideWriters (sleeveRecord g notice c stop s) = outsideWriters s := by
  unfold sleeveRecord
  split
  · exact outsideWriters_appendBytes ..
  · rfl

end Sys2Proof.Machine
end

section
/-! PROOF. A trigger group in a state, and what captures make of it (13 R318 to R336). -/

namespace Sys2Proof.Machine

/-- The state with the parts taken out that a capture works on besides its group: those of the sleeves' writers, the
recording engine, the output pins and what leaves the module. -/
def outsideCaptures (s : State) : State := { outsideWriters s with disk := {}, outbox := [], tiu := {} }

theorem outsideCaptures_of_writers {s t : State} (h : outsideWriters t = outsideWriters s) :
    outsideCaptures t = outsideCaptures s :=
  congrArg (fun x : State => { x with disk := {}, outbox := [], tiu := {} }) h

theorem outsideCaptures_of_drives {s t : State} (h : outsideDrives t = outsideDrives s) :
    outsideCaptures t = outsideCaptures s :=
  congrArg (fun x : State => { x with store := {}, tiu := {} }) h

theorem outsideCaptures_of_pins {s t : State} (h : outsidePins t = outsidePins s) :
    outsideCaptures t = outsideCaptures s :=
  (congrArg outsideCaptures h :)

theorem outsideCaptures_mJob (n : Nat) (f : CapJob → CapJob) (s : State) :
    outsideCaptures (mJob n f s) = outsideCaptures s := rfl

theorem outsideCaptures_bump (n off : Nat) (s : State) : outsideCaptures (bump n off s) = outsideCaptures s :=
  outsideCaptures_of_writers (outsideWriters_bump s n off)

theorem outsideCaptures_requestPulse (o : Nat) (s : State) :
    outsideCaptures (requestPulse o s) = outsideCaptures s := by
  have hpin (f : OutPin → OutPin) : outsideCaptures (drivePin o f s) = outsideCaptures s :=
    outsideCaptures_of_pins (outsidePins_drivePin o f s)
  unfold requestPulse
  split
  · rfl
  · dsimp only
    split
    · rfl
    · split
      · exact (outsideCaptures_bump 16 0x400 _).trans (hpin _)
      · exact (outsideCaptures_bump 16 (0x300 + 0x10 * o) _).trans (hpin _)

theorem outsideCaptures_handOver (g : Nat) (provisional : Bool) (c : Capture) (s : State) :
    outsideCaptures (handOver g provisional c s) = outsideCaptures s := by
  unfold handOver
  split
  · split
    · exact foldl_leaves (p := outsideCaptures)
        (fun s i => outsideCaptures_of_writers (outsideWriters_settleDsk i s)) _ _
    · rfl
  · rfl

/-! ## A group in a state -/

/-- Group `g` of a state is declared as `d`, the groups stand in canonical form, and `P` holds of group `g`. -/
structure InGroup (g : Nat) (d : GroupDecl) (P : Group → Prop) (s : State) : Prop where
  decl : groupDecl s g = some d
  canonical : wf {} s.trig.groups = true
  holds : P (group s g)

section
variable {g : Nat} {d : GroupDecl} {P Q : Group → Prop} {s t : State}

theorem InGroup.mono (h : InGroup g d P s) (hPQ : ∀ x, P x → Q x) : InGroup g d Q s :=
  ⟨h.decl, h.canonical, hPQ _ h.holds⟩

theorem InGroup.of_groups (h : InGroup g d P s) (himage : t.image = s.image) (ht : t.trig.groups = s.trig.groups) :
    InGroup g d P t where
  decl := by rw [groupDecl, img, himage]; exact h.decl
  canonical := by rw [ht, h.canonical]
  holds := by rw [group, ht]; exact h.holds

theorem InGroup.of_outside (h : InGroup g d P s) (ht : outsideCaptures t = outsideCaptures s) : InGroup g d P t :=
  h.of_groups (congrArg State.image ht :) (congrArg (fun x : State => x.trig.groups) ht :)

/-- A change of the group itself. -/
theorem InGroup.change {f : Group → Group} (h : InGroup g d P s) (hf : ∀ x, P x → Q (f x)) :
    InGroup g d Q (mGroup g f s) where
  decl := h.decl
  canonical := Laws.wf_upd h.canonical
  holds := by
    have hlook : group (mGroup g f s) g = f (group s g) := (Laws.look_upd h.canonical).trans (if_pos rfl)
    rw [hlook]
    exact hf _ h.holds

/-- A change of another group. -/
theorem InGroup.other (h : InGroup g d P s) {j : Nat} (hj : j ≠ g) (f : Group → Group) :
    InGroup g d P (mGroup j f s) where
  decl := h.decl
  canonical := Laws.wf_upd h.canonical
  holds := by
    have hlook : group (mGroup j f s) g = group s g := (Laws.look_upd h.canonical).trans (if_neg hj.symm)
    rw [hlook]
    exact h.holds

theorem InGroup.counted (h : InGroup g d P s) (n off : Nat) : InGroup g d P (bump n off s) :=
  h.of_outside (outsideCaptures_bump n off s)

theorem InGroup.pulsed (h : InGroup g d P s) (n bit : Nat) : InGroup g d P (pulse0 n bit s) := h.of_outside rfl

theorem InGroup.noted (h : InGroup g d P s) (n bit m off : Nat) : InGroup g d P (pulse0 n bit (bump m off s)) :=
  (h.counted m off).pulsed n bit

theorem InGroup.ite {p : Prop} [Decidable p] (hs : p → InGroup g d P s) (ht : ¬ p → InGroup g d P t) :
    InGroup g d P (if p then s else t) := by
  split
  · exact hs ‹_›
  · exact ht ‹_›

theorem InGroup.foldl {α : Type} {f : State → α → State} (h : InGroup g d P s)
    (hf : ∀ s a, InGroup g d P s → InGroup g d P (f s a)) (l : List α) : InGroup g d P (l.foldl f s) :=
  List.foldlRecOn l f (motive := InGroup g d P) h fun s hs a _ => hf s a hs

theorem InGroup.requestPulses (h : InGroup g d P s) (l : List Nat) :
    InGroup g d P (l.foldl (fun s o => requestPulse o s) s) :=
  h.foldl (fun s o hs => hs.of_outside (outsideCaptures_requestPulse o s)) l

theorem InGroup.resumeWriters (h : InGroup g d P s) (l : List Nat) :
    InGroup g d P (l.foldl (fun s i => resumeWriter i s) s) :=
  h.foldl (fun s i hs => hs.of_outside (outsideCaptures_of_writers (outsideWriters_resumeWriter i s))) l

theorem InGroup.sleeveRecord (h : InGroup g d P s) (j notice : Nat) (c : Capture) (stop : Option Nat) :
    InGroup g d P (sleeveRecord j notice c stop s) :=
  h.of_outside (outsideCaptures_of_writers (outsideWriters_sleeveRecord j notice c stop s))

/-! ## Notices -/

/-- A property of groups that does not look at the notices that wait. -/
def NoticeBlind (P : Group → Prop) : Prop := ∀ x n, P x → P { x with notices := n }

theorem InGroup.sendNotice (h : InGroup g d P s) (hP : NoticeBlind P) (j notice : Nat) (c : Capture)
    (stop : Option Nat) : InGroup g d P (sendNotice j notice c stop s) := by
  have hnotice (d' : GroupDecl) : InGroup g d P (mGroup j (fun x => { x with
      notices := x.notices ++ d'.rings.map (fun q => (q, s.time.cycle, captureRecord s j notice c stop)) }) s) := by
    by_cases hj : j = g
    · subst hj
      exact h.change fun x hx => hP x _ hx
    · exact h.other hj _
  unfold Machine.sendNotice
  split
  · exact h
  · exact .ite (fun _ => (hnotice _).counted ..) fun _ => hnotice _

/-! ## A capture closes -/

/-- A group whose capture has closed with STOP_TIME `stop`, the capture being `c` then (R333). -/
def Group.closed (stop : Nat) (c : Capture) (x : Group) : Group :=
  { x with state := .holdoff, stopTime := stop, capture := some c, capNo := c.number, capFlags := c.flags }

theorem closeCapture_of_none (h : (group s g).capture = none) (stop flags : Nat) : closeCapture g stop flags s = s := by
  simp [closeCapture, h]

/-- The state in which the group of a closing capture, `c` from then on, enters HOLDOFF (R333). -/
def closing (j stop : Nat) (c : Capture) (s : State) : State :=
  mGroup j (Group.closed stop c) (Machine.sleeveRecord j 4 c (some stop)
    (Machine.sendNotice j 4 c (some stop) (mJob c.number (CapJob.close s c) s)))

/-- The markers and output pulses of a capture that has closed are on no group. -/
theorem InGroup.of_closing {j stop flags : Nat} {c : Capture} (hc : (group s j).capture = some c)
    (h : InGroup g d P (closing j stop ((c.ended s stop).flag flags) s)) :
    InGroup g d P (closeCapture j stop flags s) := by
  have hcounted := h.noted 15 0 15 (0x40 * j)
  have hmarked : InGroup g d P _ := .ite (p := tbit ((c.ended s stop).flag flags).flags 2 = true)
    (fun _ => hcounted.noted 15 1 15 (0x40 * j + 0x10)) fun _ => hcounted
  have hcut : InGroup g d P _ := .ite
    (p := (tbit ((c.ended s stop).flag flags).flags 3 || tbit ((c.ended s stop).flag flags).flags 4) = true)
    (fun _ => hmarked.noted 15 4 15 (0x40 * j + 0x20)) fun _ => hmarked
  unfold closeCapture
  simp only [hc]
  split
  · exact hcut.requestPulses _
  · exact hcut

theorem InGroup.close {c : Capture} (h : InGroup g d P s) (hP : NoticeBlind P) (hc : (group s g).capture = some c)
    {stop flags : Nat} (hQ : ∀ x, P x → Q (x.closed stop ((c.ended s stop).flag flags))) :
    InGroup g d Q (closeCapture g stop flags s) := by
  have hjob : InGroup g d P (mJob c.number (CapJob.close s ((c.ended s stop).flag flags)) s) := h.of_outside rfl
  exact .of_closing hc (((hjob.sendNotice hP g 4 _ _).sleeveRecord g 4 _ _).change hQ)

/-- Another group's capture closes. -/
theorem InGroup.closeOther (h : InGroup g d P s) (hP : NoticeBlind P) {j : Nat} (hj : j ≠ g) (stop flags : Nat) :
    InGroup g d P (closeCapture j stop flags s) := by
  cases hc : (group s j).capture with
  | none => rwa [closeCapture_of_none hc]
  | some c =>
    have hjob : InGroup g d P (mJob c.number (CapJob.close s ((c.ended s stop).flag flags)) s) := h.of_outside rfl
    exact .of_closing hc (((hjob.sendNotice hP j 4 _ _).sleeveRecord j 4 _ _).other hj _)

end

end Sys2Proof.Machine
end

section
/-! PROOF. Groups through the checks after a write, arming, qualifying and cancelling (13 R318 to R334). -/

namespace Sys2Proof.Machine

section
variable {g : Nat} {d : GroupDecl} {P Q : Group → Prop} {s t : State}

/-! ## The checks after a write -/

/-- A property that a capturing group keeps when its capture closes. -/
def Closes (P : Group → Prop) : Prop := ∀ x stop c c', P x → x.state = .capturing → x.capture = some c →
  c'.number = c.number → P (x.closed stop c')

/-- A capture that ends early closes at its hem or at its cause, whichever is first (R326, R330). -/
theorem closeAt_eq (j t flags : Nat) (c : Capture) (s : State) :
    ∃ stop flags', Machine.closeAt j t flags c s = closeCapture j stop flags' s := by
  unfold Machine.closeAt
  split
  · split <;> exact ⟨_, _, rfl⟩
  · exact ⟨_, _, rfl⟩

/-- The check of a group either leaves the state or closes the group's running capture (R330, R331). -/
theorem captureCheck_cases (s : State) (j : Nat) : captureCheck s j = s ∨
    ∃ c stop flags, (group s j).state = .capturing ∧ (group s j).capture = some c ∧
      captureCheck s j = closeCapture j stop flags s := by
  unfold captureCheck
  dsimp only
  split
  case h_2 => exact .inl rfl
  case h_1 c hstate hc =>
    split
    case h_1 i _ =>
      obtain ⟨stop, flags, h⟩ := closeAt_eq j (stopSample s i) 4 c s
      exact .inr ⟨c, stop, flags, hstate, hc, h⟩
    case h_2 =>
      split
      case h_2 => exact .inl rfl
      case h_1 k _ =>
        obtain ⟨stop, flags, h⟩ := closeAt_eq j _ 512 c s
        exact .inr ⟨c, stop, flags, hstate, hc, h⟩

theorem InGroup.captureCheck (h : InGroup g d P s) (hP : NoticeBlind P) (hcl : Closes P) (j : Nat) :
    InGroup g d P (captureCheck s j) := by
  rcases captureCheck_cases s j with hsame | ⟨c, stop, flags, hstate, hc, hclose⟩
  · rwa [hsame]
  · rw [hclose]
    by_cases hj : j = g
    · subst hj
      have hat : InGroup j d (fun x => P x ∧ x.state = .capturing ∧ x.capture = some c) s :=
        ⟨h.decl, h.canonical, h.holds, hstate, hc⟩
      exact hat.close (fun x n ⟨hx, hrest⟩ => ⟨hP x n hx, hrest⟩) hc
        fun x ⟨hx, hst, hcap⟩ => hcl x stop c _ hx hst hcap rfl
    · exact h.closeOther hP hj stop flags

/-- What follows a write to a sleeve leaves a group with what the end of its capture does not change. -/
theorem InGroup.afterWrite (h : InGroup g d P s) (hP : NoticeBlind P) (hcl : Closes P) :
    InGroup g d P (afterWrite s) :=
  (h.foldl (fun _ j hs => hs.captureCheck hP hcl j) _).of_outside (outsideCaptures_of_drives (outsideDrives_progress _))

/-! ## ARMED and DISARMED -/

theorem InGroup.toArmed (h : InGroup g d P s) (tArm : Nat)
    (hQ : ∀ x levels runs, P x → Q { x with
      state := .armed, tArm := tArm, levelDue := levels, capture := none, pendingArm := false, disarmCycle := false
      disarmed := runs }) : InGroup g d Q (toArmed g tArm s) := by
  simp only [Machine.toArmed, h.decl]
  refine InGroup.resumeWriters (h.change fun x hx => ?_) _
  exact hQ x _ _ hx

theorem InGroup.toDisarmed (h : InGroup g d P s) (hQ : ∀ x, P x → Q { x with
      state := .disarmed, capture := none, pendingArm := false, disarmCycle := false, disarmedFrom := now s
      levelDue := [] }) : InGroup g d Q (toDisarmed g s) := h.change hQ

end

end Sys2Proof.Machine
end

section
/-! PROOF. Groups through qualifying, cancelling and the arrival of an occurrence (13 R316 to R334). -/

namespace Sys2Proof.Machine

/-! ## A trigger taken -/

/-- A group that has taken a trigger with capture number `n`: it captures, or its capture has closed already. -/
structure Taken (o : Occ) (n : Nat) (y : Group) : Prop where
  last : y.last = some o
  capNo : y.capNo = n
  begun : (y.state = .capturing ∧ ∃ c, y.capture = some c ∧ c.number = n) ∨ y.state = .holdoff

theorem Taken.noticeBlind (o : Occ) (n : Nat) : NoticeBlind (Taken o n) := fun _ _ h => ⟨h.last, h.capNo, h.begun⟩

theorem Taken.closes (o : Occ) (n : Nat) : Closes (Taken o n) := by
  intro x stop c c' h hstate hc hnumber
  refine ⟨h.last, ?_, .inr rfl⟩
  rcases h.begun with ⟨-, c₀, hc₀, hn⟩ | hhold
  · obtain rfl : c₀ = c := Option.some.inj (hc₀.symm.trans hc)
    exact hnumber.trans hn
  · exact absurd (hstate.symm.trans hhold) (by decide)

section
variable {g : Nat} {d : GroupDecl} {P Q : Group → Prop} {s t : State} {c : Capture}

/-- The state in which a trigger's capture has begun to run (R326). -/
def capturing (g : Nat) (c : Capture) (d : GroupDecl) (s : State) : State :=
  (maskOuts d.outMask 0 4).foldl (fun s o => requestPulse o s) (pulse0 14 0 (bump 14 (0x40 * g + 0x10)
    (mGroup g (fun x => { x with
      state := .capturing, capture := some c, provisional := none, awaitsRun := false, last := some c.trig
      capNo := if d.dest == .none then x.capNo else c.number }) s)))

theorem InGroup.capturing (h : InGroup g d P s) (hQ : ∀ x, P x → Q { x with
      state := .capturing, capture := some c, provisional := none, awaitsRun := false, last := some c.trig
      capNo := if d.dest == .none then x.capNo else c.number }) : InGroup g d Q (capturing g c d s) :=
  ((h.change hQ).noted 14 0 14 (0x40 * g + 0x10)).requestPulses _

/-- A trigger that only pulses outputs: its group stands in HOLDOFF (R318). -/
theorem InGroup.qualifyPulse (hdest : d.dest = .none) (h : InGroup g d P s) (hP : NoticeBlind P)
    (hQ : ∀ x c', P x → Q { x with
      state := .holdoff, stopTime := c.trig.time / 256, capture := some c', provisional := none, awaitsRun := false
      last := some c.trig }) : InGroup g d Q (qualify g c d s) := by
  have hbegun : InGroup g d (fun y => ∃ x, P x ∧ y = { x with
      state := .capturing, capture := some { c with qual := now s }, provisional := none, awaitsRun := false
      last := some c.trig }) (Machine.capturing g { c with qual := now s } d s) :=
    h.capturing fun x hx => ⟨x, hx, by simp [hdest]⟩
  have hnoticed : InGroup g d _ _ := .ite (p := tbit c.flags 6 = true)
    (fun _ => hbegun.sendNotice (by rintro y n ⟨x, hx, rfl⟩; exact ⟨_, hP x n hx, rfl⟩)
      g 2 { c with qual := now s } none)
    fun _ => hbegun
  unfold qualify
  dsimp only
  rw [if_pos (by simp [hdest])]
  refine hnoticed.change ?_
  rintro y ⟨x, hx, rfl⟩
  exact hQ x _ hx

/-- A trigger whose capture begins, and closes at once where it has no place to be recorded (R326, R330). -/
theorem InGroup.qualifyCapture (hdest : d.dest ≠ .none) (h : InGroup g d P s)
    (hQ : ∀ x c', P x → c'.number = c.number → Q { x with
      state := .capturing, capture := some c', provisional := none, awaitsRun := false, last := some c.trig
      capNo := c.number }) (hQn : NoticeBlind Q) (hcl : Closes Q) : InGroup g d Q (qualify g c d s) := by
  have hbegun : InGroup g d (fun y => Q y ∧ y.state = .capturing ∧ y.capture = some { c with qual := now s })
      (Machine.capturing g { c with qual := now s } d s) :=
    h.capturing fun x hx => ⟨by simpa [hdest] using hQ x { c with qual := now s } hx rfl, rfl, rfl⟩
  have hblind : NoticeBlind (fun y => Q y ∧ y.state = .capturing ∧ y.capture = some { c with qual := now s }) :=
    fun y n ⟨hy, hrest⟩ => ⟨hQn y n hy, hrest⟩
  have hnoticed := (hbegun.of_outside (outsideCaptures_mJob c.number (fun j => { j with provisional := false }) _)
    |>.sendNotice hblind g 2 { c with qual := now s } none)
  have hcuff : InGroup g d _ _ := .ite (p := tbit c.flags 0 = true) (fun _ => hnoticed.pulsed 15 3) fun _ => hnoticed
  have hhem : InGroup g d _ _ := .ite (p := tbit c.flags 1 = true) (fun _ => hcuff.noted 15 2 15 (0x40 * g + 0x30))
    fun _ => hcuff
  unfold qualify
  dsimp only
  rw [if_neg (by simp [hdest])]
  refine .ite (fun _ => ?_) fun _ => hhem.mono fun y hy => hy.1
  obtain ⟨-, -, hc⟩ := hhem.holds
  exact hhem.close hblind hc fun x ⟨hx, hstate, hcap⟩ => hcl x _ _ _ hx hstate hcap rfl

/-- A group's capture begins at a trigger, with the next number (R326). -/
theorem InGroup.beginCapture (hdest : d.dest ≠ .none) (h : InGroup g d P s) (o : Occ) :
    InGroup g d (Taken o s.trig.next) (beginCapture g o d s) := by
  have hcleared : InGroup g d (fun _ => True) (clearMisses g s) := h.change fun _ _ => trivial
  have hnumbered : InGroup g d (fun _ => True) (takeNumber (clearMisses g s)) := hcleared.of_groups rfl rfl
  unfold Machine.beginCapture
  dsimp only
  rw [if_neg (by simp [hdest])]
  exact (hnumbered.of_outside (outsideCaptures_handOver ..)).qualifyCapture hdest
    (fun x c' _ hc' => ⟨rfl, rfl, .inl ⟨rfl, c', rfl, hc'⟩⟩) (Taken.noticeBlind _ _) (Taken.closes _ _)

/-- A trigger of a group of DEST NONE (R318). -/
theorem InGroup.beginPulse (hdest : d.dest = .none) (h : InGroup g d P s) (hP : NoticeBlind P) (o : Occ)
    (hQ : ∀ x c', P x → Q { x with
      misses := 0, firstMiss := none, state := .holdoff, stopTime := o.time / 256, capture := some c'
      provisional := none, awaitsRun := false, last := some o }) : InGroup g d Q (Machine.beginCapture g o d s) := by
  have hcleared : InGroup g d (fun y => ∃ x, P x ∧ y = { x with misses := 0, firstMiss := none }) (clearMisses g s) :=
    h.change fun x hx => ⟨x, hx, rfl⟩
  unfold Machine.beginCapture
  dsimp only
  rw [if_pos (by simp [hdest])]
  refine hcleared.qualifyPulse hdest ?_ ?_
  · rintro y n ⟨x, hx, rfl⟩
    exact ⟨_, hP x n hx, rfl⟩
  · rintro y c' ⟨x, hx, rfl⟩
    exact hQ x c' hx

/-! ## A trigger missed, and the end of a hold-off -/

theorem leaveHoldoff_cases (g : Nat) (s : State) : leaveHoldoff g s = s ∨ leaveHoldoff g s = toArmed g (now s) s ∨
    leaveHoldoff g s = toDisarmed g s := by
  unfold leaveHoldoff
  dsimp only
  split
  · split
    · split
      · exact .inr (.inl rfl)
      · exact .inr (.inr rfl)
    · exact .inl rfl
  · exact .inl rfl

/-- A property of groups that arming and disarming keep. -/
def ArmBlind (P : Group → Prop) : Prop := ∀ x state tArm levels runs from_, P x → P { x with
  state := state, tArm := tArm, levelDue := levels, capture := none, pendingArm := false, disarmCycle := false
  disarmed := runs, disarmedFrom := from_ }

theorem InGroup.leaveHoldoff (h : InGroup g d P s) (hP : ArmBlind P) : InGroup g d P (leaveHoldoff g s) := by
  rcases leaveHoldoff_cases g s with hsame | harm | hdis
  · rwa [hsame]
  · rw [harm]
    exact h.toArmed _ fun x levels runs hx => hP x .armed _ levels runs x.disarmedFrom hx
  · rw [hdis]
    exact h.toDisarmed fun x hx => hP x .disarmed x.tArm [] x.disarmed _ hx

theorem InGroup.missTrigger (h : InGroup g d P s) (o : Occ)
    (hQ : ∀ x first, P x → Q { x with misses := x.misses + 1, firstMiss := first }) (hQa : ArmBlind Q) :
    InGroup g d Q (missTrigger g o s) :=
  InGroup.leaveHoldoff ((h.change fun x hx => hQ x _ hx).noted 14 1 14 (0x40 * g)) hQa

end

end Sys2Proof.Machine
end

section
/-! PROOF. An occurrence that arrives, the occurrences on their paths being left alone (13 R316, R319). -/

namespace Sys2Proof.Machine

/-- A property of groups that looks at nothing but the occurrences on their paths. -/
def InboxOnly (P : Group → Prop) : Prop := ∀ x y, y.inbox = x.inbox → P x → P y

section
variable {g : Nat} {d : GroupDecl} {P : Group → Prop} {s : State} (hP : InboxOnly P) (h : InGroup g d P s)
include hP

theorem InboxOnly.noticeBlind : NoticeBlind P := fun x _ => hP x _ rfl
theorem InboxOnly.closes : Closes P := fun x _ _ _ hx _ _ _ => hP x _ rfl hx
theorem InboxOnly.armBlind : ArmBlind P := fun x _ _ _ _ _ => hP x _ rfl

include h

theorem InGroup.qualify_inbox (c : Capture) : InGroup g d P (qualify g c d s) := by
  by_cases hdest : d.dest = .none
  · exact h.qualifyPulse hdest hP.noticeBlind fun x _ => hP x _ rfl
  · exact h.qualifyCapture hdest (fun x _ hx _ => hP x _ rfl hx) hP.noticeBlind hP.closes

theorem InGroup.beginCapture_inbox (o : Occ) : InGroup g d P (Machine.beginCapture g o d s) := by
  have hcleared : InGroup g d P (clearMisses g s) := h.change fun x => hP x _ rfl
  have hnumbered : InGroup g d P (takeNumber (clearMisses g s)) := hcleared.of_groups rfl rfl
  exact .ite (fun _ => hcleared.qualify_inbox hP _)
    fun _ => (hnumbered.of_outside (outsideCaptures_handOver ..)).qualify_inbox hP _

theorem InGroup.judge_inbox (o : Occ) : InGroup g d P (judge g o s) := by
  have hmiss : InGroup g d P (Machine.missTrigger g o s) := h.missTrigger o (fun x _ => hP x _ rfl) hP.armBlind
  simp only [judge, h.decl]
  split
  · exact .ite (fun _ => h.beginCapture_inbox hP o) fun _ => .ite (fun _ => h) fun _ => hmiss
  · exact h
  · exact hmiss

theorem InGroup.raiseProvisional_inbox (o : Occ) : InGroup g d P (raiseProvisional g o s) := by
  have hcleared : InGroup g d P (takeNumber (clearMisses g s)) :=
    InGroup.of_groups (h.change (f := fun x => { x with misses := 0, firstMiss := none }) fun x => hP x _ rfl) rfl rfl
  have hnoticed := (InGroup.noted (hcleared.change (f := fun x => { x with
      state := .provisional, capture := some (makeCapture s g d o true), provisional := some o, awaitsRun := false
      capNo := (makeCapture s g d o true).number }) fun x => hP x _ rfl) 14 2 14 (0x40 * g + 0x20)).sendNotice
        hP.noticeBlind g 1 (makeCapture s g d o true) none
  simp only [raiseProvisional, h.decl]
  exact .ite (fun _ => hnoticed.of_outside (outsideCaptures_handOver ..)) fun _ => h

theorem InGroup.qualifyPending_inbox : InGroup g d P (qualifyPending g s) := by
  simp only [qualifyPending, h.decl]
  split
  next hd hc =>
    obtain rfl := Option.some.inj hd
    exact .ite (fun _ => h.qualify_inbox hP _) fun _ => h
  · exact h

theorem InGroup.holdA_inbox (o : Occ) : InGroup g d P (holdA g o s) := by
  have hheld : InGroup g d P (mGroup g (fun x => { x with heldA := (holdOcc o (group s g).heldA).1 }) s) :=
    h.change fun x => hP x _ rfl
  exact .ite (fun _ => hheld.pulsed 14 4) fun _ => hheld

theorem InGroup.holdB_inbox (o : Occ) : InGroup g d P (holdB g o s) := by
  have hheld : InGroup g d P (mGroup g (fun x => { x with heldB := (holdOcc o (group s g).heldB).1 }) s) :=
    h.change fun x => hP x _ rfl
  exact .ite (fun _ => hheld.pulsed 14 4) fun _ => hheld

theorem InGroup.arriveA_inbox (o : Occ) : InGroup g d P (arriveA g d o s) := by
  unfold arriveA
  dsimp only
  split
  · exact h.judge_inbox hP o
  · split
    · refine InGroup.judge_inbox hP (h.change fun x hx => ?_) _
      exact hP x _ rfl hx
    · exact .ite (fun _ => h.raiseProvisional_inbox hP o) fun _ => h.holdA_inbox hP o

theorem InGroup.arriveB_inbox (o : Occ) : InGroup g d P (arriveB g d o s) := by
  unfold arriveB
  refine .ite (fun _ => h) fun _ => .ite (fun _ => h.qualifyPending_inbox hP) fun _ => ?_
  split
  · refine InGroup.judge_inbox hP (h.change fun x hx => ?_) _
    exact hP x _ rfl hx
  · exact h.holdB_inbox hP o

theorem InGroup.arrive_inbox (o : Occ) : InGroup g d P (arrive g o s) := by
  simp only [arrive, h.decl]
  split
  · unfold runCompletes
    dsimp only
    split
    · exact h.qualifyPending_inbox hP
    · split
      · exact InGroup.qualifyPending_inbox hP (h.change fun x => hP x _ rfl)
      · exact h.change fun x => hP x _ rfl
  · have ha : InGroup g d P _ := .ite (p := d.condsA.contains o.cond = true) (fun _ => h.arriveA_inbox hP o) fun _ => h
    exact .ite (fun _ => ha.arriveB_inbox hP o) fun _ => ha

end

end Sys2Proof.Machine
end

section
/-! PROOF. What the groups leave of the conditions, and a mask condition's records (13 R312 to R314). -/

namespace Sys2Proof.Machine

/-- The conditions of a state. -/
def conditions (s : State) : Sparse Cond := s.trig.conds

theorem conditions_of_outside {s t : State} (h : outsideCaptures t = outsideCaptures s) : conditions t = conditions s :=
  (congrArg conditions h :)

section
variable (g : Nat) (s : State)

@[simp] theorem conditions_mGroup (f : Group → Group) : conditions (mGroup g f s) = conditions s := rfl
@[simp] theorem conditions_pulse0 (n bit : Nat) : conditions (pulse0 n bit s) = conditions s := rfl
@[simp] theorem conditions_bump (n off : Nat) : conditions (bump n off s) = conditions s :=
  conditions_of_outside (outsideCaptures_bump n off s)
@[simp] theorem conditions_mJob (n : Nat) (f : CapJob → CapJob) : conditions (mJob n f s) = conditions s := rfl
@[simp] theorem conditions_takeNumber : conditions (takeNumber s) = conditions s := rfl
@[simp] theorem conditions_clearMisses : conditions (clearMisses g s) = conditions s := rfl
@[simp] theorem conditions_handOver (provisional : Bool) (c : Capture) :
    conditions (handOver g provisional c s) = conditions s := conditions_of_outside (outsideCaptures_handOver ..)
@[simp] theorem conditions_sleeveRecord (notice : Nat) (c : Capture) (stop : Option Nat) :
    conditions (sleeveRecord g notice c stop s) = conditions s :=
  conditions_of_outside (outsideCaptures_of_writers (outsideWriters_sleeveRecord ..))

@[simp] theorem conditions_requestPulses (l : List Nat) :
    conditions (l.foldl (fun s o => requestPulse o s) s) = conditions s :=
  foldl_leaves (fun s o => conditions_of_outside (outsideCaptures_requestPulse o s)) l s

@[simp] theorem conditions_sendNotice (notice : Nat) (c : Capture) (stop : Option Nat) :
    conditions (sendNotice g notice c stop s) = conditions s := by
  unfold sendNotice
  split
  · rfl
  · dsimp only
    split <;> simp

@[simp] theorem conditions_closeCapture (stop flags : Nat) :
    conditions (closeCapture g stop flags s) = conditions s := by
  unfold closeCapture
  split
  · rfl
  · dsimp only
    repeat' split
    all_goals simp

/-! ## Arming, qualifying and missing -/

@[simp] theorem conditions_toArmed (tArm : Nat) : conditions (toArmed g tArm s) = conditions s := by
  unfold toArmed
  split
  · rfl
  · exact foldl_leaves (p := conditions)
      (fun s i => conditions_of_outside (outsideCaptures_of_writers (outsideWriters_resumeWriter i s))) _ _

@[simp] theorem conditions_toDisarmed : conditions (toDisarmed g s) = conditions s := rfl

@[simp] theorem conditions_leaveHoldoff : conditions (leaveHoldoff g s) = conditions s := by
  rcases leaveHoldoff_cases g s with h | h | h <;> simp [h]

@[simp] theorem conditions_missTrigger (o : Occ) : conditions (missTrigger g o s) = conditions s := by
  simp [missTrigger]

@[simp] theorem conditions_qualify (c : Capture) (d : GroupDecl) : conditions (qualify g c d s) = conditions s := by
  simp only [qualify, pulseOnly]
  repeat' split
  all_goals simp

@[simp] theorem conditions_beginCapture (o : Occ) (d : GroupDecl) :
    conditions (beginCapture g o d s) = conditions s := by
  simp only [beginCapture]
  split <;> simp

@[simp] theorem conditions_judge (o : Occ) : conditions (judge g o s) = conditions s := by
  simp only [judge]
  repeat' split
  all_goals simp

@[simp] theorem conditions_raiseProvisional (o : Occ) : conditions (raiseProvisional g o s) = conditions s := by
  simp only [raiseProvisional, beginProvisional]
  repeat' split
  all_goals simp

@[simp] theorem conditions_qualifyPending : conditions (qualifyPending g s) = conditions s := by
  unfold qualifyPending
  repeat' split
  all_goals simp

@[simp] theorem conditions_cancelProvisional (flags : Nat) :
    conditions (cancelProvisional g flags s) = conditions s := by
  simp only [cancelProvisional]
  repeat' split
  all_goals simp

/-! ## An occurrence that arrives -/

@[simp] theorem conditions_arriveA (d : GroupDecl) (o : Occ) : conditions (arriveA g d o s) = conditions s := by
  simp only [arriveA, holdA]
  repeat' split
  all_goals simp

@[simp] theorem conditions_arriveB (d : GroupDecl) (o : Occ) : conditions (arriveB g d o s) = conditions s := by
  simp only [arriveB, holdB]
  repeat' split
  all_goals simp

@[simp] theorem conditions_arrive (o : Occ) : conditions (arrive g o s) = conditions s := by
  simp only [arrive, runCompletes]
  repeat' split
  all_goals simp

@[simp] theorem conditions_afterWrite : conditions (afterWrite s) = conditions s := by
  refine (conditions_of_outside (outsideCaptures_of_drives (outsideDrives_progress _))).trans
    (foldl_leaves (fun s j => ?_) _ s)
  rcases captureCheck_cases s j with h | ⟨c, stop, flags, -, -, h⟩ <;> simp [h]

end

/-! ## The record a mask condition reads -/

/-- Condition `c` of a state has read `j` records, the last one of number `n`. -/
structure HasRead (c j n : Nat) (s : State) : Prop where
  readRecords : (cond s c).readRecords = j
  lastFrame : (cond s c).lastFrame = some n

section
variable {c j n : Nat} {s t : State}

theorem HasRead.of_conditions (h : HasRead c j n s) (ht : conditions t = conditions s) : HasRead c j n t := by
  have hcond : cond t c = cond s c := congrArg (fun m : Sparse Cond => look ({} : Cond) m c) ht
  exact ⟨by rw [hcond, h.readRecords], by rw [hcond, h.lastFrame]⟩

/-- A condition that has read a record shows a change whatever form the storage of the conditions has. -/
theorem hasRead_mCond {f : Cond → Cond} (hread : (f (cond s c)).readRecords = j)
    (hlast : (f (cond s c)).lastFrame = some n) : HasRead c j n (mCond c f s) := by
  have hcond : cond (mCond c f s) c = f (cond s c) :=
    (look_put_of_ne_default (fun hd => by simp [show f (cond s c) = {} from hd] at hlast) c c s.trig.conds).trans
      (if_pos rfl)
  exact ⟨by rw [hcond, hread], by rw [hcond, hlast]⟩

theorem HasRead.change (h : HasRead c j n s) {f : Cond → Cond} (hread : ∀ k, (f k).readRecords = k.readRecords)
    (hlast : ∀ k, (f k).lastFrame = k.lastFrame) : HasRead c j n (mCond c f s) :=
  hasRead_mCond ((hread _).trans h.readRecords) ((hlast _).trans h.lastFrame)

@[simp] theorem conditions_measure (cls index cycles : Nat) (s : State) :
    conditions (measure cls index cycles s) = conditions s := by
  simp only [measure]
  repeat' split
  · rfl
  · rfl
  · exact conditions_bump ..
  · exact (congrArg conditions (outsideLog_logEvent ..) :)

theorem HasRead.ite {p : Prop} [Decidable p] (hs : p → HasRead c j n s) (ht : ¬ p → HasRead c j n t) :
    HasRead c j n (if p then s else t) := by
  split
  · exact hs ‹_›
  · exact ht ‹_›

theorem HasRead.endRun (h : HasRead c j n s) : HasRead c j n (endRun c s) := by
  have hgroups : conditions ((maskGroups s c).foldl (fun t g =>
      if completesRun t g (runOcc s c) then cancelProvisional g 0 t else t) s) = conditions s :=
    foldl_leaves (fun t g => by split <;> simp) _ s
  exact (h.of_conditions hgroups).change (fun _ => rfl) fun _ => rfl

theorem HasRead.extendRun (h : HasRead c j n s) (time : Nat) : HasRead c j n (extendRun c time s) := by
  have hbegun : HasRead c j n (mCond c (fun k => { k with run := 1, runTime := time, runDone := false }) s) :=
    h.change (fun _ => rfl) fun _ => rfl
  unfold Machine.extendRun
  split
  · dsimp only
    split
    · exact hbegun.of_conditions (foldl_leaves (p := conditions) (fun t g => by simp) _ _)
    · exact hbegun
  · exact h.change (fun _ => rfl) fun _ => rfl

theorem HasRead.qualifyRun (h : HasRead c j n s) : HasRead c j n (qualifyRun c s) := by
  have hset : HasRead c j n (mCond c (fun k => { k with runDone := true }) s) := h.change (fun _ => rfl) fun _ => rfl
  have hdone := hset.of_conditions (conditions_bump _ 14 (0x1000 + 0x10 * c))
  unfold Machine.qualifyRun
  dsimp only
  split
  · exact hdone.of_conditions (foldl_leaves (p := conditions) (fun t g => by simp) _ _)
  · exact h

end

/-- A mask condition takes the next record of its stream once (R312, log 27). -/
theorem hasRead_maskFrame {c : Nat} {k : TrigCond} {s : State} (hk : condDecl s c = some k) (hcls : k.cls = .mask)
    (hlive : functionLive s = true) (hrun : running s = true)
    (hready : recordReady s k.stream (cond s c).readRecords = true) :
    HasRead c ((cond s c).readRecords + 1) (recNumber (frameRecord s k.stream (cond s c).readRecords))
      (maskFrame c s) := by
  unfold maskFrame
  simp only [hk]
  rw [if_neg (by simp [hcls, hlive, hrun, hready])]
  have hread := hasRead_mCond (c := c) (s := sharedRead k.stream (cond s c).readRecords s)
    (j := (cond s c).readRecords + 1) (n := recNumber (frameRecord s k.stream (cond s c).readRecords))
    (f := fun x => { (x.apply (recTime (frameRecord s k.stream (cond s c).readRecords))) with
      readRecords := (cond s c).readRecords + 1
      lastFrame := some (recNumber (frameRecord s k.stream (cond s c).readRecords)) }) rfl rfl
  refine HasRead.of_conditions (.ite (fun _ => ?_) fun _ => ?_) (conditions_measure ..)
  · exact ((HasRead.ite (fun _ => hread.endRun) fun _ => hread).extendRun _).qualifyRun
  · exact .ite (fun _ => hread.endRun) fun _ => hread

theorem maskFrame_of_no_record {c : Nat} {k : TrigCond} {s : State} (hk : condDecl s c = some k)
    (hready : recordReady s k.stream (cond s c).readRecords = false) : maskFrame c s = s := by
  simp [maskFrame, hk, hready]

end Sys2Proof.Machine
end

section
/-! PROOF. The commands of the trigger engine on one group (13 R318 to R334). -/

namespace Sys2Proof.Machine

/-! ## A mask of one group -/

theorem filter_tbit_single : ∀ g < 16, (List.range 16).filter (tbit (w32 (2 ^ g)).toNat) = [g] := by decide

section
variable {g : Nat} {d : GroupDecl} {P Q : Group → Prop} {s : State}

theorem eachGroup_single (hg : g < 16) (hrun : running s = true) (hlive : functionLive s = true)
    (f : Nat → State → State) : eachGroup f (w32 (2 ^ g)) s = f g s := by
  rw [eachGroup, if_pos (by simp [hrun, hlive]), filter_tbit_single g hg]
  rfl

theorem abortCaptures_single (hg : g < 16) (hlive : functionLive s = true) :
    abortCaptures (w32 (2 ^ g)) s = abortCapture g s := by
  rw [abortCaptures, if_pos hlive, filter_tbit_single g hg]
  rfl

/-! ## Arming and disarming -/

theorem armGroup_disarmed (hd : groupDecl s g = some d) (h : (group s g).state = .disarmed) :
    armGroup g s = toArmed g (now s) s := by
  simp [armGroup, hd, h]

theorem armGroup_armed (hd : groupDecl s g = some d) (h : (group s g).state = .armed) : armGroup g s = s := by
  simp [armGroup, hd, h]

theorem armGroup_busy (hd : groupDecl s g = some d) (h : (group s g).state ≠ .disarmed)
    (h' : (group s g).state ≠ .armed) :
    armGroup g s = mGroup g (fun x => { x with pendingArm := true }) s := by
  cases hs : (group s g).state <;> simp_all [armGroup]

theorem disarmGroup_armed (hd : groupDecl s g = some d) (h : (group s g).state = .armed) :
    disarmGroup g s = toDisarmed g s := by
  simp [disarmGroup, hd, h]

theorem disarmGroup_disarmed (hd : groupDecl s g = some d) (h : (group s g).state = .disarmed) :
    disarmGroup g s = s := by
  simp [disarmGroup, hd, h]

theorem disarmGroup_busy (hd : groupDecl s g = some d) (h : (group s g).state ≠ .disarmed)
    (h' : (group s g).state ≠ .armed) :
    disarmGroup g s = mGroup g (fun x => { x with pendingArm := false, disarmCycle := true }) s := by
  cases hs : (group s g).state <;> simp_all [disarmGroup]

/-! ## Triggers -/

theorem judge_disarmed (hd : groupDecl s g = some d) (h : (group s g).state = .disarmed) (o : Occ) :
    judge g o s = s := by
  simp [judge, hd, h]

theorem judge_armed (hd : groupDecl s g = some d) (h : (group s g).state = .armed) {o : Occ}
    (ht : (group s g).tArm ≤ o.time / 256) : judge g o s = beginCapture g o d s := by
  simp [judge, hd, h, ht]

theorem judge_busy (hd : groupDecl s g = some d) (h : (group s g).state ≠ .disarmed) (h' : (group s g).state ≠ .armed)
    (o : Occ) : judge g o s = missTrigger g o s := by
  cases hs : (group s g).state <;> simp_all [judge]

/-- In a SINGLE group an occurrence of its condition is judged at once (R316). -/
theorem arrive_single (hd : groupDecl s g = some d) (hmode : d.mode = 0) {o : Occ}
    (hcond : d.condsA.contains o.cond = true) (h : (group s g).state = .armed) : arrive g o s = judge g o s := by
  have hmem : o.cond ∈ d.condsA := by simpa using hcond
  simp [arrive, hd, completesRun, h, hmem, arriveA, arriveB, hmode]

/-! ## Ends -/

theorem hemEnd_of_not_capturing (h : (group s g).state ≠ .capturing) : hemEnd g s = s := by
  unfold hemEnd
  split
  · contradiction
  · rfl

theorem hemEnd_of_hem {c : Capture} {n : Nat} (h : (group s g).state = .capturing)
    (hc : (group s g).capture = some c) (hn : c.hem = some n) :
    hemEnd g s = if samplesPast s (c.trig.time / 256 + n) then closeCapture g (c.trig.time / 256 + n) 0 s else s := by
  simp only [hemEnd, h, hc, hn]

theorem hemEnd_of_no_hem {c : Capture} (h : (group s g).state = .capturing) (hc : (group s g).capture = some c)
    (hn : c.hem = none) : hemEnd g s = s := by
  simp only [hemEnd, h, hc, hn]

theorem abortCapture_of_idle (h : (group s g).state ≠ .capturing) (h' : (group s g).state ≠ .provisional) :
    abortCapture g s = s := by
  unfold abortCapture
  dsimp only
  split
  · contradiction
  · contradiction
  · rfl

theorem abortCapture_of_hem {c : Capture} {n : Nat} (h : (group s g).state = .capturing)
    (hc : (group s g).capture = some c) (hn : c.hem = some n) : abortCapture g s =
      if c.trig.time / 256 + n ≤ cycleBase s then closeCapture g (c.trig.time / 256 + n) 16 s
      else closeCapture g (max c.start (cycleBase s)) 8 s := by
  simp only [abortCapture, h, hc, hn]

theorem abortCapture_of_no_hem {c : Capture} (h : (group s g).state = .capturing)
    (hc : (group s g).capture = some c) (hn : c.hem = none) :
    abortCapture g s = closeCapture g (max c.start (cycleBase s)) 8 s := by
  simp only [abortCapture, h, hc, hn]

theorem abortCapture_of_provisional {c : Capture} (h : (group s g).state = .provisional)
    (hc : (group s g).capture = some c) : abortCapture g s = cancelProvisional g 8 s := by
  simp only [abortCapture, h, hc]

/-- A provisional trigger that is cancelled leaves the flags of the last closed capture (R334, log 38). -/
theorem InGroup.cancel {c : Capture} {x : Group} (h : InGroup g d (· = x) s) (hc : x.capture = some c) (flags : Nat) :
    InGroup g d (fun y => y.capture = none ∧ y.state = (if x.disarmCycle && !x.pendingArm then .disarmed else .armed) ∧
      y.capFlags = x.capFlags) (cancelProvisional g flags s) := by
  have hgroup : (group s g).capture = some c := by rw [h.holds, hc]
  have hjob : InGroup g d (fun y => ∃ n, y = { x with notices := n })
      (mJob (c.flag flags).number (fun j => { j with cancelled := true }) s) :=
    InGroup.of_outside (h.mono fun y hy => ⟨x.notices, hy⟩) rfl
  have hnoticed := (hjob.sendNotice (by rintro y n ⟨m, rfl⟩; exact ⟨n, rfl⟩) g 3 (c.flag flags) none).sleeveRecord g 3
    (c.flag flags) none
  have hcounted := hnoticed.noted 14 3 14 (0x40 * g + 0x30)
  have hmarked : InGroup g d _ _ := .ite (p := flags = 0) (fun _ => hcounted)
    fun _ => hcounted.noted 15 4 15 (0x40 * g + 0x20)
  have hended := hmarked.change (f := fun y => { y with provisional := none, awaitsRun := false })
    (Q := fun y => y.disarmCycle = x.disarmCycle ∧ y.pendingArm = x.pendingArm ∧ y.capFlags = x.capFlags)
    (by rintro y ⟨n, rfl⟩; exact ⟨rfl, rfl, rfl⟩)
  obtain ⟨hcycle, hpending, -⟩ := hended.holds
  unfold cancelProvisional
  simp only [hgroup, hcycle, hpending]
  split
  · exact hended.toDisarmed fun y ⟨_, _, hflags⟩ => ⟨rfl, rfl, hflags⟩
  · exact hended.toArmed _ fun y levels runs ⟨_, _, hflags⟩ => ⟨rfl, rfl, hflags⟩

end

end Sys2Proof.Machine
end

section
/-! PROOF. The trigger groups, their captures and the mask conditions: the statement (13). -/

namespace Sys2Proof.Machine

section
variable {g : Nat} {d : GroupDecl} {P : Group → Prop} {f : State → State} {s : State}

theorem InGroup.settled {t : State} (h : InGroup g d P t) : P (group (settle s t) g) :=
  (h.of_groups (t := settle s t) rfl rfl).holds

/-- A command whose effect is followed by the checks after a write answers with the property that its effect gives the
group, when the end of its capture keeps that. -/
theorem InGroup.answers (h : InGroup g d P (f (fresh s))) (hP : NoticeBlind P) (hcl : Closes P) :
    ∃ t, act (fun s => Machine.afterWrite (f s)) s = .next t ∧ P (group t g) :=
  ⟨_, act_of_effect (f := fun s => Machine.afterWrite (f s)) rfl, (h.afterWrite hP hcl).settled⟩

/-- A command without those checks. -/
theorem InGroup.answersPlain (h : InGroup g d P (f (fresh s))) : ∃ t, act f s = .next t ∧ P (group t g) :=
  ⟨_, act_of_effect rfl, h.settled⟩

theorem act_afterWrite_of_idle (h : f (fresh s) = fresh s) :
    act (fun s => afterWrite (f s)) s = .next (settle s (afterWrite (fresh s))) :=
  act_of_effect (f := fun s => afterWrite (f s)) (congrArg afterWrite h)

theorem HasRead.settled {c j n : Nat} {t : State} (h : HasRead c j n t) : HasRead c j n (settle s t) :=
  h.of_conditions rfl

theorem HasRead.answers {c j n : Nat} (h : HasRead c j n (f (fresh s))) :
    ∃ t, act (fun s => Machine.afterWrite (f s)) s = .next t ∧ (cond t c).readRecords = j ∧
      (cond t c).lastFrame = some n := by
  have hsettled := (h.of_conditions (conditions_afterWrite (f (fresh s)))).settled (s := s)
  exact ⟨_, act_of_effect (f := fun s => Machine.afterWrite (f s)) rfl, hsettled.readRecords, hsettled.lastFrame⟩

/-- A property that says of a group that it does not capture. -/
theorem closes_of_state (hP : ∀ x, P x → x.state ≠ .capturing) : Closes P :=
  fun x _ _ _ hx hstate => (hP x hx hstate).elim

theorem Taken.state_cases {o : Occ} {n : Nat} {y : Group} (h : Taken o n y) :
    y.state = .capturing ∨ y.state = .holdoff := h.begun.imp_left And.left

/-! ## The commands of one group -/

theorem leaveHoldoff_due {c : Capture} (hd : groupDecl s g = some d) (h : (group s g).state = .holdoff)
    (hc : (group s g).capture = some c) (hstop : (group s g).stopTime ≤ now s)
    (hhold : c.trig.time / 256 + c.holdoff ≤ now s) (hevents : c.holdoffEvents ≤ (group s g).misses)
    (hroom : (group s g).notices.length < 64) :
    leaveHoldoff g s = if (d.auto && !(group s g).disarmCycle) || (group s g).pendingArm then
      toArmed g (now s) s else toDisarmed g s := by
  simp only [leaveHoldoff, h, hc, hd]
  exact if_pos ⟨hstop, hhold, hevents, hroom⟩

theorem leaveHoldoff_waits (h : (group s g).state ≠ .holdoff ∨ now s < (group s g).stopTime ∨
    64 ≤ (group s g).notices.length ∨ ∃ c, (group s g).capture = some c ∧
      (now s < c.trig.time / 256 + c.holdoff ∨ (group s g).misses < c.holdoffEvents)) : leaveHoldoff g s = s := by
  unfold leaveHoldoff
  dsimp only
  split
  case h_2 => rfl
  case h_1 c _ hstate hc _ =>
    refine if_neg fun ⟨hstop, hhold, hevents, hroom⟩ => ?_
    rcases h with h | h | h | ⟨c', hc', h⟩
    · exact h hstate
    · omega
    · omega
    · obtain rfl : c' = c := Option.some.inj (hc'.symm.trans hc)
      omega

theorem arrivalOf_none {k : Nat} (h : (group s g).inbox[k]? = none) : arrivalOf g k s = s := by
  simp [arrivalOf, h]

/-- What the arrival of occurrence `k` of group `x`, an `o`, leaves of the group, `n` being the next capture number. -/
structure Arrived (d : GroupDecl) (x : Group) (k n : Nat) (o : Occ) (y : Group) : Prop where
  inbox : y.inbox = x.inbox.eraseIdx k
  taken : d.mode = 0 → d.condsA.contains o.cond = true → x.state = .armed → x.tArm ≤ o.time / 256 → d.dest ≠ .none →
    Taken o n y

theorem Arrived.noticeBlind (d : GroupDecl) (x : Group) (k n : Nat) (o : Occ) : NoticeBlind (Arrived d x k n o) :=
  fun y m h => ⟨h.inbox, fun h1 h2 h3 h4 h5 => Taken.noticeBlind o n y m (h.taken h1 h2 h3 h4 h5)⟩

theorem Arrived.closes (d : GroupDecl) (x : Group) (k n : Nat) (o : Occ) : Closes (Arrived d x k n o) :=
  fun y stop c c' h hstate hc hn =>
    ⟨h.inbox, fun h1 h2 h3 h4 h5 => Taken.closes o n y stop c c' (h.taken h1 h2 h3 h4 h5) hstate hc hn⟩

theorem InGroup.arrival {x : Group} {k : Nat} {o : Occ} (h : InGroup g d (· = x) s) (hlive : functionLive s = true)
    (hrun : running s = true) (ho : x.inbox[k]? = some o) :
    InGroup g d (Arrived d x k s.trig.next o) (arrivalOf g k s) := by
  have hgroup : group s g = x := h.holds
  have hleft : InGroup g d (· = { x with inbox := x.inbox.eraseIdx k })
      (mGroup g (fun x => { x with inbox := x.inbox.eraseIdx k }) s) := h.change fun y hy => hy ▸ rfl
  have hinbox : InGroup g d (fun y => y.inbox = x.inbox.eraseIdx k)
      (mGroup g (fun x => { x with inbox := x.inbox.eraseIdx k }) s) :=
    hleft.mono fun y hy => hy ▸ rfl
  have harrive : arrivalOf g k s = arrive g o (mGroup g (fun x => { x with inbox := x.inbox.eraseIdx k }) s) := by
    simp only [arrivalOf, hgroup, ho]
    exact if_pos (by simp [hlive, hrun])
  rw [harrive]
  have hall := hinbox.arrive_inbox (fun x y hy hx => hy.trans hx) o
  refine ⟨hall.decl, hall.canonical, hall.holds, fun hmode hcond hstate htime hdest => ?_⟩
  rw [arrive_single hleft.decl hmode hcond (by rw [hleft.holds]; exact hstate),
    judge_armed hleft.decl (by rw [hleft.holds]; exact hstate) (by rw [hleft.holds]; exact htime)]
  exact (hleft.beginCapture hdest o).holds

theorem expire_held {o : Occ} (hd : groupDecl s g = some d) (h : (group s g).state ≠ .provisional)
    (ho : earliest (fun _ => true) ((group s g).heldA ++ (group s g).heldB) = some o) :
    expire g s = if expired s g d o then mGroup g (fun x => { x with
      heldA := x.heldA.erase o, heldB := if x.heldA.contains o then x.heldB else x.heldB.erase o }) s else s := by
  simp only [expire, hd, ho]
  rw [if_neg (by simp [h])]
  rfl

variable {c : Capture}

theorem InGroup.closeAnswers {x : Group} (h : InGroup g d (· = x) (fresh s)) (hc : x.capture = some c)
    {stop flags : Nat}
    (hf : f (fresh s) = closeCapture g stop flags (fresh s)) :
    ∃ t, act (fun s => Machine.afterWrite (f s)) s = .next t ∧ (group t g).state = .holdoff ∧
      (group t g).stopTime = stop ∧ (group t g).capFlags = c.flags ||| flags := by
  refine InGroup.answers (d := d)
    (P := fun y => y.state = .holdoff ∧ y.stopTime = stop ∧ y.capFlags = c.flags ||| flags) ?_ (fun _ _ h => h)
    (closes_of_state fun y hy => by simp [hy.1])
  rw [hf]
  exact (h.mono fun _ _ => trivial).close (P := fun _ => True) (fun _ _ h => h)
    (h.holds ▸ hc) fun _ _ => ⟨rfl, rfl, rfl⟩

end

/-- Settles O54: each command on a group in the state that its clause names. -/
theorem triggerGroupsAndCaptures : Obligations.TriggerGroupsAndCaptures := by
  unfold Obligations.TriggerGroupsAndCaptures
  intro s g k d hg hd hrun hlive hwf x v after idle taken force
  have hx : InGroup g d (· = x) (fresh s) := ⟨hd, hwf, rfl⟩
  have hdf : groupDecl (fresh s) g = some d := hd
  have hlf : functionLive (fresh s) = true := hlive
  have hsingle (f : Nat → State → State) : eachGroup f v (fresh s) = f g (fresh s) :=
    eachGroup_single (s := fresh s) hg hrun hlive f
  have habort : abortCaptures v (fresh s) = abortCapture g (fresh s) := abortCaptures_single (s := fresh s) hg hlive
  have hforce (h : x.state = .armed) (ht : x.tArm ≤ now s) :
      eachGroup forceGroup v (fresh s) = beginCapture g force d (fresh s) :=
    (hsingle _).trans (judge_armed hdf h (ht.trans (Nat.mul_div_cancel_left _ (by decide)).ge))
  refine ⟨?arm, ?armed, ?pending, ?disarm, ?disarmed, ?late, ?forceNone, ?force, ?pulse, ?miss, ?close, ?cancel, ?past,
    ?noHem, ?leave, ?stay, ?noOcc, ?occ, ?expire, ?mask⟩
  case arm =>
    intro h
    refine InGroup.answers (d := d) (f := eachGroup armGroup v)
      (P := fun y => y.state = .armed ∧ y.tArm = now s ∧ y.pendingArm = false)
      ?_ (fun _ _ h => h) (closes_of_state fun y hy => by simp [hy.1])
    rw [hsingle, armGroup_disarmed hdf h]
    exact hx.toArmed _ fun _ _ _ _ => ⟨rfl, rfl, rfl⟩
  case armed =>
    intro h
    exact act_afterWrite_of_idle ((hsingle _).trans (armGroup_armed hdf h))
  case pending =>
    intro h h'
    refine InGroup.answers (d := d) (f := eachGroup armGroup v) (P := fun y => y.pendingArm = true) ?_ (fun _ _ h => h)
      (fun _ _ _ _ h _ _ _ => h)
    rw [hsingle, armGroup_busy hdf h h']
    exact hx.change fun _ _ => rfl
  case disarm =>
    intro h
    refine InGroup.answersPlain (d := d) (f := eachGroup disarmGroup v)
      (P := fun y => y.state = .disarmed ∧ y.disarmedFrom = now s) ?_
    rw [hsingle, disarmGroup_armed hdf h]
    exact hx.toDisarmed fun _ _ => ⟨rfl, rfl⟩
  case disarmed =>
    intro h
    exact act_of_effect (f := eachGroup disarmGroup v) ((hsingle _).trans (disarmGroup_disarmed hdf h))
  case late =>
    intro h h'
    refine InGroup.answersPlain (f := eachGroup disarmGroup v) (d := d)
      (P := (· = { x with pendingArm := false, disarmCycle := true })) ?_
    rw [hsingle, disarmGroup_busy hdf h h']
    exact hx.change fun y hy => hy ▸ rfl
  case forceNone =>
    intro h
    exact act_afterWrite_of_idle ((hsingle _).trans (judge_disarmed hdf h _))
  case force =>
    intro h ht hdest
    obtain ⟨t, ht, htaken⟩ := InGroup.answers (d := d) (f := eachGroup forceGroup v)
      (hforce h ht ▸ hx.beginCapture hdest force)
      (Taken.noticeBlind _ _) (Taken.closes _ _)
    exact ⟨t, ht, htaken.last, htaken.capNo, htaken.state_cases⟩
  case pulse =>
    intro h ht hdest
    refine InGroup.answers (d := d) (f := eachGroup forceGroup v)
      (P := fun y => y.state = .holdoff ∧ y.last = some force ∧
      y.stopTime = now s ∧ y.capNo = x.capNo ∧ y.capFlags = x.capFlags)
      ?_ (fun _ _ h => h) (closes_of_state fun y hy => by simp [hy.1])
    rw [hforce h ht]
    have hblind : InGroup g d (fun y => y.capNo = x.capNo ∧ y.capFlags = x.capFlags) (fresh s) :=
      hx.mono fun y hy => hy ▸ ⟨rfl, rfl⟩
    exact hblind.beginPulse hdest (fun _ _ h => h) force fun y c' hy =>
      ⟨rfl, rfl, Nat.mul_div_cancel_left _ (by decide), hy⟩
  case miss =>
    intro h h'
    refine InGroup.answers (d := d) (f := eachGroup forceGroup v) (P := fun y => y.misses = x.misses + 1) ?_
      (fun _ _ h => h)
      (fun _ _ _ _ h _ _ _ => h)
    rw [hsingle, forceGroup, judge_busy hdf h h']
    exact hx.missTrigger _ (fun y _ hy => hy ▸ rfl) fun _ _ _ _ _ _ h => h
  case close =>
    intro c h hc
    refine ⟨fun n hn hpast => ?_, fun n hn hnot => ?_, fun hn => ⟨?_, ?_⟩, fun n hn hpast => ?_, fun n hn hnot => ?_⟩
    · exact Nat.or_zero c.flags ▸ hx.closeAnswers hc (f := hemEnd g)
        ((hemEnd_of_hem (s := fresh s) h hc hn).trans (if_pos hpast))
    · have hfuture : samplesPast (fresh s) (c.trig.time / 256 + n) = false := by
        have hbase : cycleBase (fresh s) = cycleBase s := rfl
        simp only [samplesPast, hbase, Bool.or_eq_false_iff, Bool.and_eq_false_iff, decide_eq_false_iff_not]
        omega
      exact act_afterWrite_of_idle (f := hemEnd g)
        ((hemEnd_of_hem (s := fresh s) h hc hn).trans (if_neg (by simp [hfuture])))
    · exact act_afterWrite_of_idle (f := hemEnd g) (hemEnd_of_no_hem (s := fresh s) h hc hn)
    · exact hx.closeAnswers hc (f := abortCaptures v)
        (habort.trans (abortCapture_of_no_hem (s := fresh s) h hc hn))
    · exact hx.closeAnswers hc (f := abortCaptures v)
        (habort.trans ((abortCapture_of_hem (s := fresh s) h hc hn).trans (if_pos hpast)))
    · exact hx.closeAnswers hc (f := abortCaptures v)
        (habort.trans ((abortCapture_of_hem (s := fresh s) h hc hn).trans (if_neg hnot.not_ge)))
  case cancel =>
    intro c h hc
    refine InGroup.answers (d := d) (f := abortCaptures v) (P := fun y => y.capture = none ∧
      y.state = (if x.disarmCycle && !x.pendingArm then .disarmed else .armed) ∧ y.capFlags = x.capFlags)
      ?_ (fun _ _ h => h) (closes_of_state fun y hy => by rw [hy.2.1]; split <;> decide)
    rw [habort, abortCapture_of_provisional (s := fresh s) h hc]
    exact hx.cancel hc 8
  case past =>
    intro n hn
    simp [samplesPast, hn]
  case noHem =>
    intro h
    exact ⟨act_afterWrite_of_idle (f := hemEnd g) (hemEnd_of_not_capturing (s := fresh s) h), fun h' =>
      act_afterWrite_of_idle (f := abortCaptures v) (habort.trans (abortCapture_of_idle (s := fresh s) h h'))⟩
  case leave =>
    intro c h hc hstop hhold hevents hroom
    have hend := leaveHoldoff_due (s := fresh s) hdf h hc hstop hhold hevents hroom
    refine ⟨fun hauto => ?_, fun hauto hpending => ?_⟩
    · refine InGroup.answersPlain (d := d) (f := fun s => if functionLive s then leaveHoldoff g s else s)
        (P := fun y => y.state = .armed ∧ y.tArm = now s ∧ y.capture = none) ?_
      rw [if_pos hlf, hend, if_pos (by simpa [hx.holds] using hauto)]
      exact hx.toArmed _ fun _ _ _ _ => ⟨rfl, rfl, rfl⟩
    · refine InGroup.answersPlain (d := d) (f := fun s => if functionLive s then leaveHoldoff g s else s)
        (P := fun y => y.state = .disarmed ∧ y.capture = none) ?_
      rw [if_pos hlf, hend, if_neg (by rcases hauto with h | h <;> simp [hx.holds, h, hpending])]
      exact hx.toDisarmed fun _ _ => ⟨rfl, rfl⟩
  case stay =>
    intro h
    exact act_of_effect (f := fun s => if functionLive s then leaveHoldoff g s else s)
      ((if_pos hlf).trans (leaveHoldoff_waits (s := fresh s) h))
  case noOcc =>
    intro h
    exact act_afterWrite_of_idle (f := arrivalOf g k) (arrivalOf_none (s := fresh s) h)
  case occ =>
    intro o ho
    obtain ⟨t, hexec, hinbox, htaken⟩ := InGroup.answers (d := d) (f := arrivalOf g k)
      (hx.arrival hlive hrun (s := fresh s) ho) (Arrived.noticeBlind _ _ _ _ _) (Arrived.closes _ _ _ _ _)
    refine ⟨t, hexec, hinbox, fun hmode hcond hstate htime hdest => ?_⟩
    have h := htaken hmode hcond hstate htime hdest
    exact ⟨h.last, h.capNo, h.state_cases⟩
  case expire =>
    intro o h ho
    have hfresh : expired (fresh s) g d o = expired s g d o := rfl
    refine ⟨fun hstill => ?_, fun hover => ?_⟩
    · exact act_afterWrite_of_idle (f := fun s => if functionLive s then expire g s else s)
        ((if_pos hlf).trans ((expire_held (s := fresh s) hdf h ho).trans (if_neg (by rw [hfresh, hstill]; decide))))
    · refine InGroup.answers (d := d) (f := fun s => if functionLive s then expire g s else s)
        (P := fun y => y.heldA = x.heldA.erase o ∧ y.heldB = (if x.heldA.contains o then x.heldB else x.heldB.erase o))
        ?_ (fun _ _ h => h) (fun _ _ _ _ h _ _ _ => h)
      rw [if_pos hlf, expire_held (s := fresh s) hdf h ho, if_pos (hfresh.trans hover)]
      exact hx.change fun y hy => hy ▸ ⟨rfl, rfl⟩
  case mask =>
    intro m hm hcls
    refine ⟨fun hready => act_afterWrite_of_idle (f := maskFrame k)
      (maskFrame_of_no_record (s := fresh s) hm hready), fun hready => ?_⟩
    exact (hasRead_maskFrame (s := fresh s) hm hcls hlive hrun hready).answers

end Sys2Proof.Machine
end

section
/-! PROOF. What the recording engine leaves of the drives and of the volume as it goes on (15 R361 to R377). -/

namespace Sys2Proof.Machine

/-- A drive without its commands and its setup: what is left of it while commands come and go. -/
def Drive.mark (v : Drive) : Drive :=
  { v with nextId := 0, cmds := [], waiting := [], setup := [], qs := [], entries := [] }

/-- What is left of a volume while recording goes on or stops. -/
def Volume.mark (v : Volume) : Nat × Nat × Nat × Bool × Sparse Nat :=
  (v.volumeId, v.members, v.parity, v.full, v.nextWc)

/-- From one state to another the drives keep their marks, and the volume keeps its mark and stays stopped. -/
structure Works (s t : State) : Prop where
  canonical : wf {} s.disk.drives = true → wf {} t.disk.drives = true
  drives : wf {} s.disk.drives = true → ∀ d, (drive t d).mark = (drive s d).mark
  volume : t.disk.vol.mark = s.disk.vol.mark
  stopped : s.disk.vol.state = .stopped → t.disk.vol.state = .stopped

section
variable {s t u : State}

theorem Works.refl (s : State) : Works s s := ⟨id, fun _ _ => rfl, rfl, id⟩

theorem Works.trans (h : Works s t) (h' : Works t u) : Works s u where
  canonical hwf := h'.canonical (h.canonical hwf)
  drives hwf d := (h'.drives (h.canonical hwf) d).trans (h.drives hwf d)
  volume := h'.volume.trans h.volume
  stopped hs := h'.stopped (h.stopped hs)

theorem Works.nextWc (h : Works s t) : t.disk.vol.nextWc = s.disk.vol.nextWc :=
  (congrArg (fun x => x.2.2.2.2) h.volume :)

theorem Works.full (h : Works s t) : t.disk.vol.full = s.disk.vol.full := (congrArg (fun x => x.2.2.2.1) h.volume :)

theorem Works.state (h : Works s t) (hwf : wf {} s.disk.drives = true) (d : Nat) :
    (drive t d).state = (drive s d).state := (congrArg Drive.state (h.drives hwf d) :)

theorem Works.of_disk (h : t.disk = s.disk) : Works s t where
  canonical := h ▸ id
  drives _ d := congrArg (fun k : Disk => (look ({} : Drive) k.drives d).mark) h
  volume := h ▸ rfl
  stopped := h ▸ id

theorem Works.of_writers (h : outsideWriters t = outsideWriters s) : Works s t := .of_disk (congrArg State.disk h :)

theorem Works.mVol {f : Volume → Volume} (s : State) (h : ∀ v, (f v).mark = v.mark := by intros; rfl)
    (hstop : ∀ v, v.state = .stopped → (f v).state = .stopped := by exact fun _ h => h) : Works s (mVol f s) :=
  ⟨id, fun _ _ => rfl, h _, hstop _⟩

theorem Works.mExtent (seq : Nat) (f : Extent → Extent) (s : State) : Works s (mExtent seq f s) :=
  .mVol s

theorem Works.mDrive (d : Nat) {f : Drive → Drive} (s : State) (h : ∀ v, (f v).mark = v.mark := by intros; rfl) :
    Works s (mDrive d f s) where
  canonical := Laws.wf_upd
  drives hwf e := by
    have hlook : drive (Machine.mDrive d f s) e = if e = d then f (drive s e) else drive s e := Laws.look_upd hwf
    rw [hlook]
    split
    · exact h _
    · rfl
  volume := rfl
  stopped := id

theorem Works.foldl {α : Type} {f : State → α → State} (hf : ∀ s a, Works s (f s a)) (l : List α) (s : State) :
    Works s (l.foldl f s) :=
  List.foldlRecOn l f (motive := Works s) (.refl s) fun _ hs a _ => hs.trans (hf _ a)

theorem Works.ite {p : Prop} [Decidable p] (ht : p → Works s t) (hu : ¬ p → Works s u) :
    Works s (if p then t else u) := by
  split
  · exact ht ‹_›
  · exact hu ‹_›

theorem Works.bump (n off : Nat) (s : State) : Works s (bump n off s) := .of_writers (outsideWriters_bump s n off)

theorem Works.bumpBy (n off k : Nat) (s : State) : Works s (bumpBy n off k s) :=
  .of_writers (outsideWriters_bumpBy s n off k)

theorem Works.pulse0 (n bit : Nat) (s : State) : Works s (pulse0 n bit s) := .of_disk rfl

theorem Works.emit (o : Output) (s : State) : Works s (emit o s) := .of_disk rfl

theorem Works.logEvent (code source : Nat) (params : List Nat) (s : State) : Works s (logEvent code source params s) :=
  .of_disk (congrArg State.disk (outsideLog_logEvent code source params s) :)

end

/-! ## Commands -/

theorem Works.issueCmd (d q : Nat) (op : NvmeOp) (retried : Bool) (s : State) :
    Works s (issueCmd d q op retried s) := by
  exact (((Works.mDrive d s).trans (.bump ..)).trans (.emit ..)).trans (.emit ..)

theorem Works.submit (d : Nat) (op : NvmeOp) (retried : Bool) (s : State) : Works s (submit d op retried s) := by
  have hwait : Works s (Machine.mDrive d (fun v => { v with waiting := v.waiting ++ [(op, retried)] }) s) :=
    .mDrive d s
  unfold Machine.submit
  dsimp only
  split
  · split
    · exact .issueCmd ..
    · exact hwait
  · exact hwait

theorem Works.pumpDrive (d : Nat) (s : State) : Works s (pumpDrive s d) :=
  (Works.mDrive d s).trans (.foldl (fun _ _ => .submit ..) _ _)

theorem Works.submitLive (op : NvmeOp) (s : State) : Works s (submitLive op s) := .foldl (fun _ _ => .submit ..) _ _

/-! ## Extents and labels -/

theorem Works.putHeader (seq : Nat) (f : Extent → Extent) (s : State) : Works s (putHeader seq f s) := by
  unfold Machine.putHeader
  dsimp only
  split
  · exact ((Works.mExtent seq f s).trans (.mExtent ..)).trans (.submitLive ..)
  · exact .mExtent seq f s

theorem Works.writeLabel (closed : Bool) (s : State) : Works s (writeLabel closed s) := by
  unfold Machine.writeLabel
  dsimp only
  split
  · exact .mVol s
  · exact ((Works.mVol s).trans (.mVol _)).trans
      (.submitLive ..)

theorem mark_freeRun (start n : Nat) (v : Volume) : (freeRun start n v).mark = v.mark := by
  unfold freeRun
  split <;> rfl

theorem state_freeRun (start n : Nat) (v : Volume) : (freeRun start n v).state = v.state := by
  unfold freeRun
  split <;> rfl

theorem Works.freeRun (start n : Nat) (s : State) : Works s (Machine.mVol (freeRun start n) s) :=
  .mVol s (mark_freeRun start n) fun v h => (state_freeRun start n v).trans h

theorem Works.closeExtent (seq bits : Nat) (s : State) : Works s (closeExtent seq bits s) := by
  unfold Machine.closeExtent
  split
  · split
    · exact (Works.mExtent ..).trans (.freeRun ..)
    · exact .refl s
  · exact .refl s

theorem Works.chainExtent (seq : Nat) (s : State) : Works s (chainExtent seq s) := by
  unfold Machine.chainExtent
  split
  · exact .refl s
  · exact .putHeader ..

theorem Works.endRewrite (e : Extent) (s : State) : Works s (endRewrite s e) := by
  have hdrop : Works s (Machine.mVol (fun v => Machine.freeRun e.start e.reserve (dropExtent e.seq v)) s) :=
    .mVol s (fun v => mark_freeRun ..) fun v h => (state_freeRun ..).trans h
  have htip : Works s (Machine.mVol (fun v => dropExtent e.seq (v.moveTip e)) s) := .mVol s
  unfold Machine.endRewrite
  exact .ite (fun _ => (hdrop.trans (.bump ..)).trans (.pulse0 ..)) fun _ =>
    .ite (fun _ => (htip.trans (.bump ..)).trans (.writeLabel ..)) fun _ => .mExtent ..

theorem Works.advanceExtent (e : Extent) (s : State) : Works s (advanceExtent s e) := by
  unfold Machine.advanceExtent
  refine .ite (fun _ => .refl s) fun _ => ?_
  cases e.phase with
  | opened => exact .refl s
  | draining => exact .ite (fun _ => (Works.mExtent ..).trans (.submitLive ..)) fun _ => .putHeader ..
  | flushing => exact .ite (fun _ => .refl s) fun _ => .chainExtent ..
  | rewriting => exact .endRewrite ..
  | held => exact .refl s

theorem Works.advanceLabel (s : State) : Works s (advanceLabel s) := by
  unfold Machine.advanceLabel
  dsimp only
  split
  · exact .refl s
  · next w hw =>
    have hdone : Works s (Machine.mVol (fun v => { v with
        labelWrite := none, head := w.head, lastSeq := w.lastSeq, reserveWait := false
        closing := v.closing && !w.closed
        state := if w.closed && v.state != .stopped then .closed else v.state }) s) :=
      .mVol s (hstop := fun v h => by simp [h])
    refine .ite (fun _ => .refl s) fun _ => .ite (fun _ => ?_) fun _ => ?_
    · exact (Works.mVol s).trans (.submitLive ..)
    · split
      · exact hdone.trans (.writeLabel ..)
      · exact hdone

theorem Works.labelDue (s : State) : Works s (labelDue s) := by
  unfold Machine.labelDue
  exact .ite (fun _ => .refl s) fun _ => .ite (fun _ => .ite (fun _ => .writeLabel ..) fun _ => .refl s) fun _ =>
    .ite (fun _ => .writeLabel ..) fun _ => .refl s

theorem Works.endStripes (s : State) : Works s (endStripes s) := by
  unfold Machine.endStripes
  exact (Works.bumpBy ..).trans (.mVol _)

theorem Works.serveExtent (e : Extent) (s : State) : Works s (serveExtent s e) := by
  unfold Machine.serveExtent
  refine .ite (fun _ => .refl s) fun _ => ?_
  split
  · exact .refl s
  · next j _ =>
    refine .ite (fun _ => .ite (fun _ => .refl s) fun _ => (Works.closeExtent ..).trans (.putHeader ..)) fun _ => ?_
    have hwant : Works s _ := .ite (p := (!j.provisional && !e.wantFinal) = true)
      (fun _ => .mExtent e.seq (fun e => { e with
        wantFinal := true, phase := if e.phase = .held then .draining else e.phase }) s) fun _ => .refl s
    exact .ite (fun _ => hwant.trans (.closeExtent ..)) fun _ => hwant

theorem Works.serveJobs (s : State) : Works s (serveJobs s) :=
  (Works.foldl (fun s e => .serveExtent e s) _ s).trans (.mVol _)

theorem Works.settleDsks (l : List Nat) (s : State) : Works s (l.foldl (fun s i => settleDsk i s) s) :=
  .foldl (fun s i => .of_writers (outsideWriters_settleDsk i s)) l s

/-- Whatever comes about as commands complete, the drives and the volume keep their marks (R371 to R374). -/
theorem Works.progress (s : State) : Works s (progress s) :=
  ((((((Works.foldl (fun s d => .pumpDrive d s) _ s).trans (.endStripes _)).trans (.serveJobs _)).trans
    (.advanceLabel _)).trans (.foldl (fun s e => .advanceExtent e s) _ _)).trans (.labelDue _)).trans (.settleDsks _ _)

end Sys2Proof.Machine
end

section
/-! PROOF. Recording stops, parity is read and a drive is given up: what is left of the drives (15 R359 to R377). -/

namespace Sys2Proof.Machine

theorem Works.mGroup (g : Nat) (f : Group → Group) (s : State) : Works s (mGroup g f s) := .of_disk rfl

theorem Works.mStore (f : Store → Store) (s : State) : Works s (mStore f s) := .of_disk rfl

/-! ## A capture closes -/

theorem Works.mJob (n : Nat) (f : CapJob → CapJob) (s : State) : Works s (mJob n f s) :=
  .mVol (f := fun v => { v with captures := v.captures.map (fun j => if j.number = n then f j else j) }) s

theorem Works.sendNotice (g notice : Nat) (c : Capture) (stop : Option Nat) (s : State) :
    Works s (sendNotice g notice c stop s) := by
  unfold Machine.sendNotice
  split
  · exact .refl s
  · exact .ite (fun _ => (Works.mGroup ..).trans (.bump ..)) fun _ => .mGroup ..

theorem Works.sleeveRecord (g notice : Nat) (c : Capture) (stop : Option Nat) (s : State) :
    Works s (sleeveRecord g notice c stop s) := .of_writers (outsideWriters_sleeveRecord ..)

theorem Works.requestPulse (o : Nat) (s : State) : Works s (requestPulse o s) := by
  have hpin (f : OutPin → OutPin) : Works s (drivePin o f s) :=
    .of_disk (congrArg State.disk (outsidePins_drivePin o f s) :)
  unfold Machine.requestPulse
  exact .ite (fun _ => .refl s) fun _ => .ite (fun _ => .refl s) fun _ =>
    .ite (fun _ => ((hpin _).trans (.bump ..)).trans (.pulse0 ..)) fun _ => (hpin _).trans (.bump ..)

theorem Works.closeCapture (g stop flags : Nat) (s : State) : Works s (closeCapture g stop flags s) := by
  unfold Machine.closeCapture
  split
  · exact .refl s
  · next c _ =>
    have hrecorded := ((Works.mJob c.number (CapJob.close s ((c.ended s stop).flag flags)) s).trans
      (.sendNotice g 4 ((c.ended s stop).flag flags) (some stop) _)).trans
      (.sleeveRecord g 4 ((c.ended s stop).flag flags) (some stop) _)
    have hclosed := ((hrecorded.trans (.mGroup g (Group.closed stop ((c.ended s stop).flag flags)) _)).trans
      (.bump 15 (0x40 * g) _)).trans (.pulse0 15 0 _)
    have hmarked : Works s _ := .ite (p := tbit ((c.ended s stop).flag flags).flags 2 = true)
      (fun _ => (hclosed.trans (.bump 15 (0x40 * g + 0x10) _)).trans (.pulse0 15 1 _)) fun _ => hclosed
    have hcut : Works s _ := .ite
      (p := (tbit ((c.ended s stop).flag flags).flags 3 || tbit ((c.ended s stop).flag flags).flags 4) = true)
      (fun _ => (hmarked.trans (.bump 15 (0x40 * g + 0x20) _)).trans (.pulse0 15 4 _)) fun _ => hmarked
    dsimp only
    split
    · exact hcut.trans (.foldl (fun s o => .requestPulse o s) _ _)
    · exact hcut

/-! ## Recording stops -/

theorem Works.overflowJob (j : CapJob) (s : State) : Works s (overflowJob s j) :=
  .ite (fun _ => .closeCapture ..) fun _ => .refl s

theorem Works.truncateExtents (s : State) : Works s (truncateExtents s) := .foldl (fun _ _ => .closeExtent ..) _ s

theorem Works.stopRecording (s : State) : Works s (stopRecording s) := by
  unfold Machine.stopRecording
  exact (((Works.serveJobs s).trans (.foldl (fun s j => .overflowJob j s) _ _)).trans
    (.mVol _ (hstop := fun _ _ => rfl))).trans (.truncateExtents _)

/-- Recording that stops leaves the volume STOPPED (R375). -/
theorem state_stopRecording (s : State) : (stopRecording s).disk.vol.state = .stopped :=
  (Works.truncateExtents _).stopped rfl

/-! ## Parity -/

theorem Works.openSpan (r a n : Nat) (data : Option (List Byte)) (p : Purpose) (s : State) :
    Works s (openSpan r a n data p s) := by
  unfold Machine.openSpan openRequest
  dsimp only
  exact Works.trans (.ite (fun _ => (Works.mStore ..).trans (.bump ..)) fun _ => .refl s) (.mStore ..)

theorem Works.dskReads (i wc n : Nat) (p : Nat → Nat → Purpose) (s : State) : Works s (dskReads i wc n p s) :=
  .foldl (fun _ _ => .openSpan ..) _ s

theorem Works.parityRead (m seq st : Nat) (s : State) : Works s (parityRead m seq st s) := by
  unfold Machine.parityRead
  split
  · exact .ite (fun _ => .refl s) fun _ => .foldl (fun _ _ => .dskReads ..) _ s
  · exact .refl s

/-! ## A drive is given up -/

theorem drive_mDrive {s : State} (h : wf {} s.disk.drives = true) (d : Nat) (f : Drive → Drive) (e : Nat) :
    drive (mDrive d f s) e = if e = d then f (drive s e) else drive s e := Laws.look_upd h

theorem drive_mDrive_same {s : State} (h : wf {} s.disk.drives = true) (d : Nat) (f : Drive → Drive) :
    drive (mDrive d f s) d = f (drive s d) := (drive_mDrive h d f d).trans (if_pos rfl)

/-- A drive that has been given up for a reason (R360, R374). -/
def Drive.cut (reason : Nat) (quarantine : Bool) (v : Drive) : Drive :=
  { v.idle with reason := reason, state := if quarantine then .quarantined else .failed }

theorem Works.failMember (d reason : Nat) (q : Bool) (s : State) :
    Works (Machine.mDrive d (Drive.cut reason q) s) (failMember d reason q s) := by
  unfold Machine.failMember
  dsimp only
  cases (drive s d).member with
  | none => exact .refl _
  | some m =>
    refine .ite (fun _ => .refl _) fun _ => ?_
    refine Works.trans ?_ (.progress _)
    refine Works.trans ?_ (.ite (fun _ => .stopRecording _) fun _ => .foldl (fun _ _ => .parityRead ..) _ _)
    refine Works.trans ?_ (.pulse0 ..)
    refine Works.trans ?_ (.ite (fun _ => .refl _) fun _ => .logEvent ..)
    exact Works.trans (.mVol _ (hstop := fun v hv => by simp [hv])) (.foldl (fun _ _ => .putHeader ..) _ _)

theorem canonical_mDrive {s : State} (h : wf {} s.disk.drives = true) (d : Nat) (f : Drive → Drive) :
    wf {} (mDrive d f s).disk.drives = true := Laws.wf_upd h

theorem failMember_drive {s : State} (h : wf {} s.disk.drives = true) (d reason : Nat) (q : Bool) :
    (drive (failMember d reason q s) d).mark = ((drive s d).cut reason q).mark :=
  ((Works.failMember d reason q s).drives (canonical_mDrive h d _) d).trans
    (congrArg Drive.mark (drive_mDrive_same h d _))

end Sys2Proof.Machine
end

section
/-! PROOF. Commands submitted to a drive, and their ends (15 R358 to R362). -/

namespace Sys2Proof.Machine

/-! ## A command is issued, or waits -/

/-- The command that a drive is given next. -/
def Drive.nextCmd (q : Nat) (op : NvmeOp) (retried : Bool) (v : Drive) : NvmeCmd :=
  { id := v.nextId, op := op, retried := retried, queue := q, slot := freePlace v, aborted := false }

/-- What drive `d` becomes as a command for it is put in its queue `q`,
the command and its entry being those for `u`. -/
def Drive.given (d q : Nat) (op : NvmeOp) (retried : Bool) (u v : Drive) : Drive :=
  { v with
    nextId := (v.nextId + 1) % 65536, cmds := v.cmds ++ [u.nextCmd q op retried]
    entries := put [] (32 * q + (nvmeQueue u q).tail) (queueEntry d u (u.nextCmd q op retried)) v.entries
    qs := upd {} q (fun x => { x with tail := ((nvmeQueue u q).tail + 1) % queueDepth }) v.qs }

/-- Drive `d` once a command has been put in its queue `q`. -/
def Drive.issued (d q : Nat) (op : NvmeOp) (retried : Bool) (v : Drive) : Drive :=
  Drive.given d q op retried v v

/-- A drive with one more operation that waits for room. -/
def Drive.waited (op : NvmeOp) (retried : Bool) (v : Drive) : Drive :=
  { v with waiting := v.waiting ++ [(op, retried)] }

section
variable {s : State} (h : wf {} s.disk.drives = true) (d : Nat) (op : NvmeOp) (retried : Bool)

theorem drive_bump (s : State) (e n off : Nat) : drive (bump n off s) e = drive s e :=
  congrArg (fun k : Disk => look ({} : Drive) k.drives e) (congrArg State.disk (outsideWriters_bump s n off) :)

include h

theorem drive_issueCmd (q e : Nat) : drive (issueCmd d q op retried s) e =
    if e = d then (drive s d).issued d q op retried else drive s e := by
  have hput := drive_mDrive h d (Drive.given d q op retried (drive s d)) e
  refine (drive_bump _ e 17 (0x40 * d + 0x10)).trans (hput.trans ?_)
  split
  · next he => subst he; rfl
  · rfl

/-- A command that is submitted enters a queue of the drive, or waits; no other drive sees it (R361). -/
theorem drive_submit_cases :
    (∃ q, ∀ e, drive (submit d op retried s) e = if e = d then (drive s d).issued d q op retried else drive s e) ∨
    ∀ e, drive (submit d op retried s) e = if e = d then (drive s d).waited op retried else drive s e := by
  have hwait (e : Nat) : drive (mDrive d (Drive.waited op retried) s) e =
      if e = d then (drive s d).waited op retried else drive s e := by
    rw [drive_mDrive h]
    split
    · next he => subst he; rfl
    · rfl
  unfold submit
  dsimp only
  split
  · split
    · exact .inl ⟨_, drive_issueCmd h d op retried _⟩
    · exact .inr hwait
  · exact .inr hwait

theorem drive_submit_other {e : Nat} (he : e ≠ d) : drive (submit d op retried s) e = drive s e := by
  obtain ⟨q, hq⟩ | hw := drive_submit_cases h d op retried
  · rw [hq, if_neg he]
  · rw [hw, if_neg he]

theorem setup_submit (e : Nat) : (drive (submit d op retried s) e).setup = (drive s e).setup := by
  obtain ⟨q, hq⟩ | hw := drive_submit_cases h d op retried
  · rw [hq]
    split
    · next he => subst he; rfl
    · rfl
  · rw [hw]
    split
    · next he => subst he; rfl
    · rfl

end

/-- A drive has been given an operation: it is outstanding, or it waits. -/
def Sent (op : NvmeOp) (again : Bool) (v : Drive) : Prop :=
  (v.cmds.any (fun c => c.op == op && c.retried == again) || v.waiting.contains (op, again)) = true

theorem Sent.issued {op : NvmeOp} {again : Bool} {v : Drive} (h : Sent op again v) (d q : Nat) (op' : NvmeOp)
    (again' : Bool) : Sent op again (v.issued d q op' again') := by
  unfold Sent at h ⊢
  simp only [Drive.issued, Drive.given, List.any_append, Bool.or_eq_true] at h ⊢
  tauto

theorem Sent.waited {op : NvmeOp} {again : Bool} {v : Drive} (h : Sent op again v) (op' : NvmeOp) (again' : Bool) :
    Sent op again (v.waited op' again') := by
  unfold Sent at h ⊢
  simp only [Drive.waited, List.contains_append, Bool.or_eq_true] at h ⊢
  tauto

theorem sent_issued (d q : Nat) (op : NvmeOp) (again : Bool) (v : Drive) : Sent op again (v.issued d q op again) := by
  simp [Sent, Drive.issued, Drive.given, Drive.nextCmd]

theorem sent_waited (op : NvmeOp) (again : Bool) (v : Drive) : Sent op again (v.waited op again) := by
  simp [Sent, Drive.waited]

section
variable {s : State} (h : wf {} s.disk.drives = true) (d : Nat) (op : NvmeOp) (again : Bool)
include h

theorem sent_submit : Sent op again (drive (submit d op again s) d) := by
  obtain ⟨q, hq⟩ | hw := drive_submit_cases h d op again
  · rw [hq, if_pos rfl]
    exact sent_issued ..
  · rw [hw, if_pos rfl]
    exact sent_waited ..

theorem Sent.submit {op' : NvmeOp} {again' : Bool} (hs : Sent op' again' (drive s d)) :
    Sent op' again' (drive (submit d op again s) d) := by
  obtain ⟨q, hq⟩ | hw := drive_submit_cases h d op again
  · rw [hq, if_pos rfl]
    exact hs.issued ..
  · rw [hw, if_pos rfl]
    exact hs.waited ..

end

/-! ## A command ends -/

/-- A drive whose command `c` has been consumed, the queue's head now being `head`. -/
def Drive.consumed (c : NvmeCmd) (head : Nat) (v : Drive) : Drive :=
  { v with
    cmds := v.cmds.filter (fun x => x.id ≠ c.id)
    qs := upd {} c.queue (fun x => { x with
      head := head, cqHead := ((nvmeQueue v c.queue).cqHead + 1) % queueDepth
      phase := if ((nvmeQueue v c.queue).cqHead + 1) % queueDepth = 0 then !x.phase else x.phase }) v.qs }

theorem drive_consumeCmd {s : State} (h : wf {} s.disk.drives = true) (d : Nat) (c : NvmeCmd) (head e : Nat) :
    drive (consumeCmd d c head s) e = if e = d then (drive s d).consumed c head else drive s e := by
  refine (drive_mDrive h d _ e).trans ?_
  split
  · next he => subst he; rfl
  · rfl

theorem Works.consumeCmd (d : Nat) (c : NvmeCmd) (head : Nat) (s : State) : Works s (consumeCmd d c head s) :=
  (Works.mDrive d s).trans (.emit (.driveReg d (.cqHead c.queue) _) _)

/-! ## The commands of a kind end -/

/-- The state with the commands of a list consumed, each with its queue's tail for a head. -/
def consumeAll (d : Nat) (l : List NvmeCmd) (s : State) : State :=
  l.foldl (fun s c => consumeCmd d c (nvmeQueue (drive s d) c.queue).tail s) s

theorem Works.consumeAll (d : Nat) (l : List NvmeCmd) (s : State) : Works s (consumeAll d l s) :=
  .foldl (fun _ _ => .consumeCmd ..) l s

theorem drive_consumeAll (d : Nat) (l : List NvmeCmd) {s : State} (h : wf {} s.disk.drives = true) :
    (∀ x ∈ (drive (consumeAll d l s) d).cmds, x ∈ (drive s d).cmds ∧ ∀ c ∈ l, x.id ≠ c.id) ∧
      (drive (consumeAll d l s) d).waiting = (drive s d).waiting := by
  induction l generalizing s with
  | nil => exact ⟨fun x hx => ⟨hx, nofun⟩, rfl⟩
  | cons c l ih =>
    have hc := drive_consumeCmd h d c (nvmeQueue (drive s d) c.queue).tail d
    rw [if_pos rfl] at hc
    obtain ⟨hcmds, hwaiting⟩ := ih (s := consumeCmd d c (nvmeQueue (drive s d) c.queue).tail s)
      ((Works.consumeCmd ..).canonical h)
    rw [hc] at hcmds hwaiting
    refine ⟨fun x hx => ?_, hwaiting⟩
    obtain ⟨hmem, hrest⟩ := hcmds x hx
    obtain ⟨hin, hid⟩ := List.mem_filter.mp hmem
    exact ⟨hin, List.forall_mem_cons.mpr ⟨by simpa using hid, hrest⟩⟩

theorem Works.endOps (d : Nat) (f : NvmeOp → Bool) (s : State) : Works s (endOps d f s) :=
  (Works.mDrive d s).trans (.consumeAll d _ _)

/-- No command of the kind is left, outstanding or waiting (R357, R368). -/
theorem endOps_none {s : State} (h : wf {} s.disk.drives = true) (d : Nat) (f : NvmeOp → Bool) :
    (drive (endOps d f s) d).cmds.any (fun c => f c.op) = false ∧
      (drive (endOps d f s) d).waiting.any (fun x => f x.1) = false := by
  have hset := drive_mDrive_same h d (fun v => { v with setup := [], waiting := v.waiting.filter (fun x => !f x.1) })
  obtain ⟨hcmds, hwaiting⟩ := drive_consumeAll d ((drive s d).cmds.filter (fun c => f c.op))
    (canonical_mDrive h d (fun v => { v with setup := [], waiting := v.waiting.filter (fun x => !f x.1) }))
  rw [hset] at hcmds hwaiting
  constructor
  · refine List.any_eq_false.mpr fun x hx hf => ?_
    obtain ⟨hin, hrest⟩ := hcmds x hx
    exact hrest x (List.mem_filter.mpr ⟨hin, hf⟩) rfl
  · refine List.any_eq_false.mpr fun x hx hf => ?_
    rw [show (drive (Machine.endOps d f s) d).waiting = _ from hwaiting] at hx
    obtain ⟨-, hnot⟩ := List.mem_filter.mp hx
    simp [hf] at hnot

end Sys2Proof.Machine
end

section
/-! PROOF. A drive comes up, is checked and is accepted or refused: each command's effect (15 R353 to R361). -/

namespace Sys2Proof.Machine

theorem act_answers {f : State → State} {s : State} (P : State → Prop) (h : P (settle s (f (fresh s)))) :
    ∃ t, act f s = .next t ∧ P t := ⟨_, act_of_effect rfl, h⟩

section
variable {s : State}

/-! ## The link -/

/-- A drive whose link has come up at a position of a port mode, with the state and the reason it is given. -/
def Drive.linked (modes : List Nat) (d speed width : Nat) (state : DriveState) (reason : Nat) (v : Drive) : Drive :=
  { v with
    state := state, reason := reason
    speed := min speed (positionSpeed modes d), width := min width (positionLanes modes d) }

section
variable {d : Nat} (hused : positionUsed (img s).drives.modes d = true) (hlive : functionLive s = true)
  (hperst : tbit s.pkg.dperst (d / 2) = true) (hstate : (drive s d).state = .absent)
include hused hlive hperst hstate

theorem driveLinkUp_without_link (width : Nat) (nvme : Bool) : driveLinkUp d 0 width nvme s = rejectDrive d 1 s := by
  simp [driveLinkUp, hused, hlive, hperst, hstate]

theorem driveLinkUp_without_nvme {speed : Nat} (hspeed : speed ≠ 0) (width : Nat) :
    driveLinkUp d speed width false s =
      mDrive d (Drive.linked (img s).drives.modes d speed width .rejected 2) s := by
  simp only [driveLinkUp, hused, hlive, hperst, hstate]
  exact if_neg hspeed

theorem driveLinkUp_with_nvme {speed : Nat} (hspeed : speed ≠ 0) (width : Nat) : driveLinkUp d speed width true s =
    enableDrive d (mDrive d (Drive.linked (img s).drives.modes d speed width .checking 0) s) := by
  simp only [driveLinkUp, hused, hlive, hperst, hstate]
  exact if_neg hspeed

end

theorem driveLinkUp_idle {d : Nat} (h : positionUsed (img s).drives.modes d = false ∨ functionLive s = false ∨
    tbit s.pkg.dperst (d / 2) = false ∨ (drive s d).state ≠ .absent) (speed width : Nat) (nvme : Bool) :
    driveLinkUp d speed width nvme s = s := by
  refine if_neg fun hall => ?_
  simp only [Bool.and_eq_true, beq_iff_eq] at hall
  obtain ⟨⟨⟨hused, hlive⟩, hperst⟩, hstate⟩ := hall
  rcases h with h | h | h | h
  · simp [hused] at h
  · simp [hlive] at h
  · simp [hperst] at h
  · exact h hstate

/-- The registers written when a controller is enabled, the enabling itself last (R356). -/
def enableRegs (d : Nat) : List (DriveReg × Nat) :=
  [(.aqa, 65536 * (queueDepth - 1) + queueDepth - 1), (.asq, sqAt d 0), (.acq, cqAt d 0)] ++
    (List.range 17).flatMap (fun q => [(.msixAddr q, bellAt d q), (.msixData q, q)]) ++ [(.cc, 0x00460001)]

theorem drive_emits (e d : Nat) (l : List (DriveReg × Nat)) (s : State) :
    drive (l.foldl (fun s r => emit (.driveReg d r.1 r.2) s) s) e = drive s e :=
  foldl_leaves (p := fun s => drive s e) (hf := by intros; rfl) l s

theorem mem_outbox_emits (d : Nat) {r : DriveReg × Nat} {l : List (DriveReg × Nat)} (hr : r ∈ l) (s : State) :
    Output.driveReg d r.1 r.2 ∈ (l.foldl (fun s r => emit (.driveReg d r.1 r.2) s) s).outbox := by
  have houtbox (l : List (DriveReg × Nat)) (s : State) : (l.foldl (fun s r => emit (.driveReg d r.1 r.2) s) s).outbox =
      s.outbox ++ l.map (fun r => Output.driveReg d r.1 r.2) := by
    induction l generalizing s with
    | nil => simp
    | cons r l ih => rw [List.foldl_cons, ih, emit_outbox, List.map_cons, List.append_assoc, List.singleton_append]
  rw [houtbox]
  exact List.mem_append_right _ (List.mem_map_of_mem hr)

theorem enableDrive_eq (d : Nat) (s : State) : enableDrive d s =
    (enableRegs d).foldl (fun s r => emit (.driveReg d r.1 r.2) s) (mDrive d (fun v => { v with queues := 1 }) s) := rfl

theorem enableDrive_enables (d : Nat) (s : State) : Output.driveReg d .cc 0x00460001 ∈ (enableDrive d s).outbox := by
  rw [enableDrive_eq]
  exact mem_outbox_emits d (r := (.cc, 0x00460001)) (List.mem_append_right _ (List.mem_singleton.mpr rfl)) _

theorem drive_enableDrive (h : wf {} s.disk.drives = true) (d : Nat) :
    drive (enableDrive d s) d = { drive s d with queues := 1 } := by
  rw [enableDrive_eq]
  exact (drive_emits d d _ _).trans (drive_mDrive_same h d _)

/-! ## A refusal -/

theorem drive_rejectDrive (h : wf {} s.disk.drives = true) (d reason : Nat) :
    drive (rejectDrive d reason s) d = { (drive s d).idle with state := .rejected, reason := reason } :=
  drive_mDrive_same h d _

theorem driveLinkTimeout_of_absent {d : Nat} (hused : positionUsed (img s).drives.modes d = true)
    (hstate : (drive s d).state = .absent) : driveLinkTimeout d s = rejectDrive d 1 s :=
  if_pos (by simp [hused, hstate])

theorem driveLinkTimeout_idle {d : Nat} (h :
    positionUsed (img s).drives.modes d = false ∨ (drive s d).state ≠ .absent) :
    driveLinkTimeout d s = s :=
  if_neg (by rcases h with h | h <;> simp [h])

theorem driveReadyTimeout_of_checking {d : Nat} (hstate : (drive s d).state = .checking) :
    driveReadyTimeout d s = rejectDrive d 3 s := if_pos (by simp [hstate])

theorem driveReadyTimeout_idle {d : Nat} (hstate : (drive s d).state ≠ .checking) : driveReadyTimeout d s = s :=
  if_neg (by simp [hstate])

theorem driveReady_idle {d : Nat} (h : (drive s d).state ≠ .checking ∨ (drive s d).cmds ≠ []) : driveReady d s = s :=
  if_neg (by rcases h with h | h <;> simp [h])

theorem identifyDone_idle {d : Nat} (hstate : (drive s d).state ≠ .checking) (info : IdentifyInfo) :
    identifyDone d info s = s := if_pos hstate

/-! ## Commands outstanding -/

/-- What the entries of storage count for, summed, after a write. -/
theorem sum_put {α : Type} [DecidableEq α] {d : α} {g : α → Nat} (hd : g d = 0) (k : Nat) (v : α)
    {m : Sparse α} {lo : Nat}
    (h : wfFrom d lo m = true) : ((put d k v m).map (fun p => g p.2)).sum + g (look d m k) =
      (m.map (fun p => g p.2)).sum + g v := by
  induction m generalizing lo with
  | nil =>
    unfold put look
    split
    · next hv => simp [hv, hd]
    · simp [hd]
  | cons p r ih =>
    obtain ⟨j, w⟩ := p
    have hp : lo ≤ j ∧ w ≠ d ∧ wfFrom d (j + 1) r = true := by simpa [wfFrom, and_assoc] using h
    obtain ⟨-, -, hr⟩ := hp
    unfold put look
    by_cases hlt : k < j
    · rw [if_pos hlt, if_neg (show ¬ j = k by omega), Laws.look_below hr (by omega), hd]
      split
      · next hv => simp [hv, hd]
      · simp only [List.map_cons, List.sum_cons]
        omega
    · rw [if_neg hlt]
      by_cases heq : k = j
      · rw [if_pos heq, if_pos heq.symm]
        split
        · next hv =>
          simp only [hv, hd, List.map_cons, List.sum_cons]
          omega
        · simp only [List.map_cons, List.sum_cons]
          omega
      · rw [if_neg heq, if_neg (Ne.symm heq)]
        have hrest := ih hr
        simp only [List.map_cons, List.sum_cons]
        omega

theorem outstanding_eq (s : State) : outstanding s = (s.disk.drives.map (fun p => p.2.cmds.length)).sum := by
  have hfold (m : Sparse Drive) (n : Nat) : m.foldl (fun n p => n + p.2.cmds.length) n =
      n + (m.map (fun p => p.2.cmds.length)).sum := by
    induction m generalizing n with
    | nil => rfl
    | cons p m ih => rw [List.foldl_cons, ih, List.map_cons, List.sum_cons, Nat.add_assoc]
  exact (hfold _ _).trans (Nat.zero_add _)

theorem outstanding_mDrive (h : wf {} s.disk.drives = true) (d : Nat) (f : Drive → Drive) :
    outstanding (mDrive d f s) + (drive s d).cmds.length = outstanding s + (f (drive s d)).cmds.length := by
  rw [outstanding_eq, outstanding_eq]
  exact sum_put (g := fun v => v.cmds.length) rfl d (f (drive s d)) h

theorem outstanding_bump (n off : Nat) (s : State) : outstanding (bump n off s) = outstanding s :=
  congrArg (fun k : Disk => k.drives.foldl (fun n (p : Nat × Drive) => n + p.2.cmds.length) 0)
    (congrArg State.disk (outsideWriters_bump s n off) :)

theorem outstanding_issueCmd (h : wf {} s.disk.drives = true) (d q : Nat) (op : NvmeOp) (retried : Bool) :
    outstanding (issueCmd d q op retried s) = outstanding s + 1 := by
  have hput := outstanding_mDrive h d (Drive.given d q op retried (drive s d))
  have hsame : outstanding (issueCmd d q op retried s) =
      outstanding (mDrive d (Drive.given d q op retried (drive s d)) s) := outstanding_bump 17 (0x40 * d + 0x10) _
  have hone : (Drive.given d q op retried (drive s d) (drive s d)).cmds.length = (drive s d).cmds.length + 1 :=
    List.length_append
  omega

/-! ## A drive that is ready -/

/-- A drive being checked whose admin queue holds `k` commands, all it has, none of them consumed. -/
structure Admin (k : Nat) (v : Drive) : Prop where
  state : v.state = .checking
  waiting : v.waiting = []
  canonical : wf {} v.qs = true
  tail : (nvmeQueue v 0).tail = k
  head : (nvmeQueue v 0).head = 0
  count : v.cmds.length = k

theorem qs_issued (v : Drive) (d q : Nat) (op : NvmeOp) (retried : Bool) : (v.issued d q op retried).qs =
    upd {} q (fun x => { x with tail := ((nvmeQueue v q).tail + 1) % queueDepth }) v.qs := rfl

theorem nvmeQueue_issued {v : Drive} (h : wf {} v.qs = true) (d q : Nat) (op : NvmeOp) (retried : Bool) :
    nvmeQueue (v.issued d q op retried) q = { nvmeQueue v q with tail := ((nvmeQueue v q).tail + 1) % queueDepth } := by
  rw [nvmeQueue, qs_issued]
  exact (Laws.look_upd h).trans (if_pos rfl)

theorem Admin.issued {k : Nat} {v : Drive} (h : Admin k v) (hk : k < 31) (d : Nat) (op : NvmeOp) (retried : Bool) :
    Admin (k + 1) (v.issued d 0 op retried) where
  state := h.state
  waiting := h.waiting
  canonical := by
    rw [qs_issued]
    exact Laws.wf_upd h.canonical
  tail := by
    rw [nvmeQueue_issued h.canonical, h.tail]
    exact Nat.mod_eq_of_lt (by simp only [queueDepth]; omega)
  head := by
    rw [nvmeQueue_issued h.canonical]
    exact h.head
  count := by simp [Drive.issued, Drive.given, h.count]

/-- With room in the window, an admin command is issued to such a drive at once (R361). -/
theorem Admin.submit {k : Nat} {d : Nat} {op : NvmeOp} (h : Admin k (drive s d)) (hk : k < 31)
    (hadmin : op.admin = true)
    (hroom : mapRoom (drive s d) op = true) (hall : outstanding s < 8192) :
    submit d op false s = issueCmd d 0 op false s := by
  have hqueue : queueFor (drive s d) op = some 0 := by
    simp only [queueFor, hadmin, if_true, queueRoom, h.tail, h.head]
    exact if_pos (by simp only [queueDepth, bne_iff_ne]; omega)
  unfold Machine.submit
  dsimp only
  rw [if_pos (by simp only [h.waiting, hroom, h.count, List.isEmpty_nil, Bool.true_and,
    Bool.and_eq_true, decide_eq_true_eq]; omega), hqueue]

theorem Admin.step (hwf : wf {} s.disk.drives = true) {k : Nat} {d : Nat} {op : NvmeOp} (h : Admin k (drive s d))
    (hk : k < 31) (hadmin : op.admin = true) (hroom : mapRoom (drive s d) op = true) (hall : outstanding s < 8192) :
    ∃ t, Machine.submit d op false s = t ∧ wf {} t.disk.drives = true ∧ Admin (k + 1) (drive t d) ∧
      (drive t d).cmds = (drive s d).cmds ++ [(drive s d).nextCmd 0 op false] ∧ outstanding t = outstanding s + 1 := by
  have hdrive : drive (issueCmd d 0 op false s) d = (drive s d).issued d 0 op false :=
    (drive_issueCmd hwf d op false 0 d).trans (if_pos rfl)
  refine ⟨_, h.submit hk hadmin hroom hall, (Works.issueCmd ..).canonical hwf, ?_, ?_, outstanding_issueCmd hwf ..⟩
  · rw [hdrive]
    exact h.issued hk ..
  · rw [hdrive]
    rfl

/-- One command takes one place at most. -/
theorem mapRoom_of_single {v : Drive} {c : NvmeCmd} (h : v.cmds = [c]) (op : NvmeOp) : mapRoom v op = true := by
  have hplace : (List.range dataPlaces).any (placeFree v) = true := by
    by_cases hslot : c.slot = 0
    · exact List.any_eq_true.mpr ⟨1, List.mem_range.mpr (by decide), by simp [placeFree, h, hslot]⟩
    · exact List.any_eq_true.mpr ⟨0, List.mem_range.mpr (by decide), by simp [placeFree, h, hslot]⟩
  simp [mapRoom, hplace]

theorem mapRoom_of_none {v : Drive} (h : v.cmds = []) (op : NvmeOp) : mapRoom v op = true := by
  have hplace : (List.range dataPlaces).any (placeFree v) = true :=
    List.any_eq_true.mpr ⟨0, List.mem_range.mpr (by decide), by simp [placeFree, h]⟩
  simp [mapRoom, hplace]

theorem driveReady_commands (h : wf {} s.disk.drives = true) {d : Nat} (hstate : (drive s d).state = .checking)
    (hcmds : (drive s d).cmds = []) (hwaiting : (drive s d).waiting = []) (hqs : (drive s d).qs = [])
    (hall : outstanding s + 3 ≤ 8192) : (drive (driveReady d s) d).state = .checking ∧
      (drive (driveReady d s) d).cmds.map NvmeCmd.op = [.identify 1, .identify 0, .setFeature 0x07] := by
  have h0 : Admin 0 (drive s d) := ⟨hstate, hwaiting, by rw [hqs]; rfl, by rw [nvmeQueue, hqs]; rfl,
    by rw [nvmeQueue, hqs]; rfl, by rw [hcmds]; rfl⟩
  obtain ⟨t1, ht1, hwf1, h1, hc1, ho1⟩ := h0.step h (by decide) (op := .identify 1)
    rfl (mapRoom_of_none hcmds _) (by omega)
  rw [hcmds] at hc1
  obtain ⟨t2, ht2, hwf2, h2, hc2, ho2⟩ := h1.step hwf1 (by decide) (op := .identify 0) rfl (mapRoom_of_single hc1 _)
    (by omega)
  obtain ⟨t3, ht3, -, h3, hc3, -⟩ := h2.step hwf2 (by decide) (op := .setFeature 0x07) rfl rfl (by omega)
  have hready : driveReady d s = t3 := by
    rw [← ht3, ← ht2, ← ht1]
    exact if_pos (by simp [hstate, hcmds])
  rw [hready]
  refine ⟨h3.state, ?_⟩
  rw [hc3, hc2, hc1]
  rfl

end

end Sys2Proof.Machine
end

section
/-! PROOF. Identify, a drive given up, and a drive cut off: each command's effect (15 R357 to R362). -/

namespace Sys2Proof.Machine

/-! ## What is left of the volume -/

theorem vol_consumeAll (d : Nat) (l : List NvmeCmd) (s : State) : (consumeAll d l s).disk.vol = s.disk.vol :=
  foldl_leaves (p := fun s : State => s.disk.vol)
    (f := fun s c => consumeCmd d c (nvmeQueue (drive s d) c.queue).tail s) (fun _ _ => rfl) l s

theorem vol_endOps (d : Nat) (f : NvmeOp → Bool) (s : State) : (endOps d f s).disk.vol = s.disk.vol :=
  vol_consumeAll d _ _

section
variable {s : State}

/-! ## Identify -/

theorem nextSetup_of_cons {d : Nat} {op : NvmeOp} {rest : List NvmeOp} (hsetup : (drive s d).setup = op :: rest)
    (hcmds : (drive s d).cmds.any (fun c => c.op.bringUp) = false)
    (hwaiting : (drive s d).waiting.any (fun x => x.1.bringUp) = false) :
    nextSetup d s = submit d op false (mDrive d (fun v => { v with setup := rest }) s) := by
  simp [nextSetup, hsetup, hcmds, hwaiting]

/-- The state in which the checks of a drive's Identify are made. -/
def identified (d : Nat) (x : IdentifyInfo) (s : State) : State :=
  mDrive d (fun v => { v with mdts := x.mdts, blocks := x.blocks }) (endOps d NvmeOp.bringUp s)

/-- What Identify of the controller and of its namespaces must show (R357). -/
def Fits (x : IdentifyInfo) : Prop :=
  ¬ (x.mdts ≠ 0 ∧ x.mdts < 5) ∧ 1 ≤ x.queues ∧ x.nn ≠ 0 ∧ x.nn ≤ 1024 ∧ x.blocks ≤ 2 ^ 48

section
variable {d : Nat} {x : IdentifyInfo} (hstate : (drive s d).state = .checking)
include hstate

theorem identifyDone_of_unfit (hfits : ¬ Fits x) : identifyDone d x s = rejectDrive d 4 (identified d x s) := by
  unfold Fits at hfits
  unfold identifyDone
  rw [if_neg (by simp [hstate])]
  exact if_pos (by omega)

section
variable (hfits : Fits x)
include hfits

theorem identifyDone_of_fit : identifyDone d x s =
    if x.lbaBytes ≠ 4096 ∨ x.metadata ≠ 0 then rejectDrive d 5 (identified d x s)
    else if x.blocks * 4096 < 2097152 + 268435456 then rejectDrive d 6 (identified d x s)
    else nextSetup d (mDrive d (fun v => { v with
      state := .accepted, queues := 1 + min 16 x.queues
      setup := setupOps (min 16 x.queues) ((identified d x s).disk.vol.state == .bringup) }) (identified d x s)) := by
  unfold Fits at hfits
  unfold identifyDone
  rw [if_neg (by simp [hstate])]
  exact if_neg (by omega)

theorem identifyDone_of_format (hformat : x.lbaBytes ≠ 4096 ∨ x.metadata ≠ 0) :
    identifyDone d x s = rejectDrive d 5 (identified d x s) :=
  (identifyDone_of_fit hstate hfits).trans (if_pos hformat)

theorem identifyDone_of_small (hbytes : x.lbaBytes = 4096) (hmeta : x.metadata = 0)
    (hsmall : x.blocks * 4096 < 270532608) : identifyDone d x s = rejectDrive d 6 (identified d x s) :=
  ((identifyDone_of_fit hstate hfits).trans (if_neg (by omega))).trans (if_pos hsmall)

theorem identifyDone_of_good (hbytes : x.lbaBytes = 4096) (hmeta : x.metadata = 0)
    (hlarge : 270532608 ≤ x.blocks * 4096) : identifyDone d x s = nextSetup d (mDrive d (fun v => { v with
      state := .accepted, queues := 1 + min 16 x.queues
      setup := setupOps (min 16 x.queues) (s.disk.vol.state == .bringup) }) (identified d x s)) := by
  have hvol : (identified d x s).disk.vol = s.disk.vol := vol_endOps d NvmeOp.bringUp s
  rw [identifyDone_of_fit hstate hfits, if_neg (by omega), if_neg hlarge.not_gt, hvol]

end

end

variable (h : wf {} s.disk.drives = true)
include h

theorem canonical_identified (d : Nat) (x : IdentifyInfo) : wf {} (identified d x s).disk.drives = true :=
  canonical_mDrive ((Works.endOps ..).canonical h) d _

theorem identifyDone_fails {d reason : Nat} {x : IdentifyInfo}
    (hx : identifyDone d x s = rejectDrive d reason (identified d x s)) :
    (drive (identifyDone d x s) d).state = .rejected ∧ (drive (identifyDone d x s) d).reason = reason := by
  rw [hx, drive_rejectDrive (canonical_identified h d x)]
  exact ⟨rfl, rfl⟩

theorem identifyDone_accepts {d : Nat} {x : IdentifyInfo} {queues : Nat}
    (hx : identifyDone d x s = nextSetup d (mDrive d (fun v => { v with
      state := .accepted, queues := 1 + queues, setup := setupOps queues (s.disk.vol.state == .bringup) })
      (identified d x s))) :
    (drive (identifyDone d x s) d).state = .accepted ∧ (drive (identifyDone d x s) d).blocks = x.blocks ∧
      (drive (identifyDone d x s) d).mdts = x.mdts ∧ (drive (identifyDone d x s) d).queues = 1 + queues ∧
      (drive (identifyDone d x s) d).setup = (setupOps queues (s.disk.vol.state == .bringup)).drop 1 := by
  have hended := (Works.endOps d NvmeOp.bringUp s).canonical h
  obtain ⟨hcmds, hwaiting⟩ := endOps_none h d NvmeOp.bringUp
  have hidentified : drive (identified d x s) d =
      { drive (endOps d NvmeOp.bringUp s) d with mdts := x.mdts, blocks := x.blocks } := drive_mDrive_same hended d _
  have haccepted := drive_mDrive_same (canonical_identified h d x) d (fun v => { v with
    state := .accepted, queues := 1 + queues, setup := setupOps queues (s.disk.vol.state == .bringup) })
  have hwf := canonical_mDrive (canonical_identified h d x) d (fun v => { v with
    state := .accepted, queues := 1 + queues, setup := setupOps queues (s.disk.vol.state == .bringup) })
  rw [hidentified] at haccepted
  rw [hx, nextSetup_of_cons (op := .setFeature 0x0C)
    (rest := (setupOps queues (s.disk.vol.state == .bringup)).drop 1) (by rw [haccepted]; rfl)
    (by rw [haccepted]; exact hcmds) (by rw [haccepted]; exact hwaiting)]
  have hnext := drive_mDrive_same hwf d
    (fun v => { v with setup := (setupOps queues (s.disk.vol.state == .bringup)).drop 1 })
  rw [haccepted] at hnext
  have hmark := (Works.submit d (.setFeature 0x0C) false _).drives (canonical_mDrive hwf d
    (fun v => { v with setup := (setupOps queues (s.disk.vol.state == .bringup)).drop 1 })) d
  rw [hnext] at hmark
  refine ⟨(congrArg Drive.state hmark :), (congrArg Drive.blocks hmark :), (congrArg Drive.mdts hmark :),
    (congrArg Drive.queues hmark :), ?_⟩
  rw [setup_submit (canonical_mDrive hwf d _), hnext]

/-! ## A drive given up -/

theorem giveUp_drive (d reason : Nat) : (drive (giveUp d reason s) d).reason = reason ∧
    (drive (giveUp d reason s) d).state = (if (drive s d).member.isSome then .failed else .rejected) := by
  unfold giveUp
  split
  · have hmark := failMember_drive h d reason false
    exact ⟨(congrArg Drive.reason hmark :), (congrArg Drive.state hmark :)⟩
  · rw [drive_rejectDrive h]
    exact ⟨rfl, rfl⟩

theorem quarantine_drive (d reason addr : Nat) : (drive (quarantine d reason addr s) d).state = .quarantined ∧
    (drive (quarantine d reason addr s) d).reason = reason ∧ (drive (quarantine d reason addr s) d).badAddr = addr := by
  have hnoted : Works (mDrive d (fun v => { v with badAddr := addr }) s)
      (logEvent 0x3018 17 [d, reason, addr % 2 ^ 32, addr / 2 ^ 32] (pulse0 17 1 (bump 17 (0x40 * d + 0x30)
        (mDrive d (fun v => { v with badAddr := addr }) s)))) :=
    ((Works.bump ..).trans (.pulse0 ..)).trans (.logEvent ..)
  have hwf := canonical_mDrive h d (fun v => { v with badAddr := addr })
  have hmark := hnoted.drives hwf d
  rw [drive_mDrive_same h] at hmark
  have hcut := failMember_drive (hnoted.canonical hwf) d reason true
  refine ⟨(congrArg Drive.state hcut :), (congrArg Drive.reason hcut :), ?_⟩
  exact (congrArg Drive.badAddr hcut :).trans (congrArg Drive.badAddr hmark :)

theorem refuseAccess_drive (d reason a : Nat) : (drive (refuseAccess d reason a s) d).state = .quarantined ∧
    (drive (refuseAccess d reason a s) d).reason = reason ∧ (drive (refuseAccess d reason a s) d).badAddr = a :=
  quarantine_drive (s := emit (.driveRefused d) s) h d reason a

end

/-! ## Commands that fail -/

section
variable {s : State} (h : wf {} s.disk.drives = true) {d : Nat} {c : NvmeCmd} {reason : Nat}

theorem attemptFailed_of_first (hretried : c.retried = false) (hstop : stopPast s = false) :
    attemptFailed d c reason s = submit d c.op true (pulse0 17 4 (bump 17 (0x40 * d + 0x20) s)) :=
  if_neg (by simp [hretried, hstop])

theorem attemptFailed_of_last (hlast : c.retried = true ∨ stopPast s = true) :
    attemptFailed d c reason s = giveUp d reason s :=
  if_pos (by rcases hlast with h | h <;> simp [h])

theorem commandTimeout_of_none {id : Nat} (hc : (drive s d).cmds.find? (fun c => c.id == id && !c.aborted) = none) :
    commandTimeout d id s = s := by
  simp only [commandTimeout, hc]

theorem commandTimeout_of_abort {id q k : Nat}
    (hc : (drive s d).cmds.find? (fun c => c.id == id && !c.aborted) = some c)
    (hop : c.op = .abort q k) : commandTimeout d id s = s := by
  simp only [commandTimeout, hc, hop]

/-- A drive one of whose commands is to be aborted. -/
def Drive.aborting (c : NvmeCmd) (v : Drive) : Drive :=
  { v with cmds := v.cmds.map (fun x => if x.id = c.id then { x with aborted := true } else x) }

theorem commandTimeout_of_found {id : Nat} (hc : (drive s d).cmds.find? (fun c => c.id == id && !c.aborted) = some c)
    (hop : ∀ q k, c.op ≠ .abort q k) : commandTimeout d id s =
      if c.retried || stopPast s then giveUp d 0x10 s
      else attemptFailed d c 0x10 (submit d (.abort c.queue c.id) false (mDrive d (Drive.aborting c) s)) := by
  simp only [commandTimeout, hc]
  cases hcop : c.op with
  | abort q k => exact absurd hcop (hop q k)
  | _ => rfl

end

end Sys2Proof.Machine
end

section
/-! PROOF. A volume is opened or formatted (15 R364, R368). -/

namespace Sys2Proof.Machine

/-! ## The failed members as bits -/

/-- The bits of the members below `n` for which a test fails. -/
def lostMask (p : Nat → Bool) (n : Nat) : Nat := (List.range n).foldl (fun f m => if p m then f else f + 2 ^ m) 0

theorem tbit_eq_testBit (w i : Nat) : tbit w i = w.testBit i := by
  rw [tbit, Nat.testBit_eq_decide_div_mod_eq, Nat.shiftRight_eq_div_pow]

theorem lostMask_succ (p : Nat → Bool) (n : Nat) :
    lostMask p (n + 1) = if p n then lostMask p n else lostMask p n + 2 ^ n := by
  simp [lostMask, List.range_succ]

theorem lostMask_lt (p : Nat → Bool) (n : Nat) : lostMask p n < 2 ^ n := by
  induction n with
  | zero => exact Nat.one_pos
  | succ n ih =>
    rw [lostMask_succ, Nat.pow_succ]
    split <;> omega

theorem tbit_lostMask (p : Nat → Bool) {n m : Nat} (hm : m < n) : tbit (lostMask p n) m = !p m := by
  induction n with
  | zero => omega
  | succ n ih =>
    rw [lostMask_succ]
    by_cases hmn : m = n
    · subst hmn
      cases hp : p m with
      | true =>
        rw [if_pos rfl, tbit_eq_testBit]
        exact Nat.testBit_lt_two_pow (lostMask_lt p m)
      | false =>
        rw [if_neg (by decide), tbit_eq_testBit, Nat.add_comm, Nat.testBit_two_pow_add_eq,
          Nat.testBit_lt_two_pow (lostMask_lt p m)]
    · have hlt : m < n := by omega
      split
      · exact ih hlt
      · rw [tbit_eq_testBit, Nat.add_comm, Nat.testBit_two_pow_add_gt hlt, ← tbit_eq_testBit, ih hlt]

theorem filter_lostMask {p q : Nat → Bool} {n : Nat} (hpq : ∀ m < n, q m = !p m) :
    (List.range n).filter (fun m => tbit (lostMask p n) m) = (List.range n).filter q :=
  List.filter_congr fun m hm => by
    have hlt := List.mem_range.mp hm
    rw [tbit_lostMask p hlt, hpq m hlt]

theorem lostMask_eq_zero {p q : Nat → Bool} {n : Nat} (hpq : ∀ m < n, q m = !p m) :
    lostMask p n = 0 ↔ (List.range n).filter q = [] := by
  rw [List.filter_eq_nil_iff]
  constructor
  · intro hzero m hm
    have hlt := List.mem_range.mp hm
    rw [hpq m hlt, ← tbit_lostMask p hlt, hzero]
    simp [tbit]
  · intro hnone
    have hall : ∀ m < n, p m = true := fun m hlt => by simpa [hpq m hlt] using hnone m (List.mem_range.mpr hlt)
    exact List.foldlRecOn (List.range n) _ (motive := (· = 0)) rfl fun f hf m hm =>
      (if_pos (hall m (List.mem_range.mp hm))).trans hf

/-! ## What a label write leaves of the volume -/

theorem vol_bump (n off : Nat) (s : State) : (bump n off s).disk.vol = s.disk.vol :=
  congrArg Disk.vol (congrArg State.disk (outsideWriters_bump s n off) :)

theorem vol_submit (d : Nat) (op : NvmeOp) (retried : Bool) (s : State) :
    (submit d op retried s).disk.vol = s.disk.vol := by
  unfold submit
  dsimp only
  split
  · split
    · exact vol_bump 17 (0x40 * d + 0x10) _
    · rfl
  · rfl

theorem vol_submitLive (op : NvmeOp) (s : State) : (submitLive op s).disk.vol = s.disk.vol :=
  foldl_leaves (p := fun s : State => s.disk.vol) (f := fun s (p : Nat × Nat) => submit p.1 op false s)
    (fun s p => vol_submit p.1 op false s) _ s

theorem vol_writeLabel (closed : Bool) (s : State) :
    ∃ g w, (writeLabel closed s).disk.vol = { s.disk.vol with labelGen := g, labelWrite := w } := by
  unfold writeLabel
  dsimp only
  split
  · exact ⟨_, _, rfl⟩
  · exact ⟨_, _, vol_submitLive ..⟩

theorem vol_startStreams (s : State) : ∃ n, (startStreams s).disk.vol = { s.disk.vol with nextWc := n } :=
  ⟨_, foldl_leaves (p := fun s : State => s.disk.vol) (f := fun s i => settleDsk i s)
    (fun s i => congrArg Disk.vol (congrArg State.disk (outsideWriters_settleDsk i s) :)) _ _⟩

/-- A volume that opens is as set, but for the write counts of its streams and its first label write. -/
theorem vol_opening (s : State) : ∃ g w n, (writeLabel false (startStreams s)).disk.vol =
    { s.disk.vol with labelGen := g, labelWrite := w, nextWc := n } := by
  obtain ⟨n, hn⟩ := vol_startStreams s
  obtain ⟨g, w, hw⟩ := vol_writeLabel false (startStreams s)
  exact ⟨g, w, n, by rw [hw, hn]⟩

/-! ## Formatting -/

/-- The drive of each member of MEMBER_MAP, where it is accepted (R368). -/
def formatMap (s : State) : List (Option Nat) := (List.range (img s).drives.members).map (fun m =>
  let d := (img s).drives.memberMap.getD m 0xFF
  if (acceptedDrives s).contains d then some d else none)

/-- The members of a new volume that have no drive. -/
def formatFailed (s : State) : Nat :=
  lostMask (fun m => ((formatMap s).getD m none).isSome) (img s).drives.members

theorem formatVolume_begins (entropy : Nat) (s : State) : ∃ t, formatVolume entropy s =
      (if (writeLabel false (startStreams t)).disk.vol.parity <
        (writeLabel false (startStreams t)).disk.vol.failures then
        stopRecording (writeLabel false (startStreams t)) else writeLabel false (startStreams t)) ∧
    t.disk.vol.volumeId = entropy % 2 ^ 128 ∧ t.disk.vol.members = (img s).drives.members ∧
    t.disk.vol.parity = (img s).drives.parity ∧ t.disk.vol.failed = formatFailed s ∧
    t.disk.vol.state = if formatFailed s = 0 then .opened else .degraded :=
  ⟨_, rfl, rfl, rfl, rfl, rfl, rfl⟩

theorem formatFailed_eq_zero {s : State}
    (h : ∀ m, m < (img s).drives.members → (img s).drives.memberMap.getD m 0xFF ∈ acceptedDrives s) :
    formatFailed s = 0 := by
  refine (lostMask_eq_zero (fun _ _ => rfl)).mpr (List.filter_eq_nil_iff.mpr fun m hm => ?_)
  have hlt := List.mem_range.mp hm
  simpa [formatMap, hlt] using h m hlt

theorem mark_stopIfLost (s : State) :
    (if s.disk.vol.parity < s.disk.vol.failures then stopRecording s else s).disk.vol.mark = s.disk.vol.mark := by
  split
  · exact (Works.stopRecording s).volume
  · rfl

theorem formatVolume_volume (entropy : Nat) (s : State) :
    (formatVolume entropy s).disk.vol.volumeId = entropy % 2 ^ 128 ∧
    (formatVolume entropy s).disk.vol.members = (img s).drives.members ∧
    (formatVolume entropy s).disk.vol.parity = (img s).drives.parity ∧
    ((∀ m, m < (img s).drives.members → (img s).drives.memberMap.getD m 0xFF ∈ acceptedDrives s) →
      (formatVolume entropy s).disk.vol.state = .opened ∧ (formatVolume entropy s).disk.vol.failed = 0) := by
  obtain ⟨t, ht, hid, hmembers, hparity, hfailed, hstate⟩ := formatVolume_begins entropy s
  obtain ⟨g, w, n, hvol⟩ := vol_opening t
  rw [ht]
  have hmark := (mark_stopIfLost (writeLabel false (startStreams t))).trans (congrArg Volume.mark hvol)
  refine ⟨(congrArg Prod.fst hmark :).trans hid, (congrArg (fun x => x.2.1) hmark :).trans hmembers,
    (congrArg (fun x => x.2.2.1) hmark :).trans hparity, fun hall => ?_⟩
  have hzero := formatFailed_eq_zero hall
  rw [hzero] at hfailed
  rw [hzero, if_pos rfl] at hstate
  have hnone : (writeLabel false (startStreams t)).disk.vol.failures = 0 := by
    rw [hvol]
    simp [Volume.failures, hfailed, tbit]
  rw [if_neg (by omega), hvol]
  exact ⟨hstate, hfailed⟩

/-! ## Opening -/

/-- The state with the drives of a list refused for their label (R368). -/
def refuseDrives (l : List Nat) (s : State) : State :=
  l.foldl (fun s d => mDrive d (fun v => { v with state := .rejected, reason := 7 }) s) s

theorem openVolume_nil (s : State) : openVolume [] s =
    mVol (fun v => { v with state := .none, mismatch := true }) (refuseDrives (acceptedDrives s) s) := rfl

theorem drive_refuseDrives (l : List Nat) {s : State} (h : wf {} s.disk.drives = true) {d : Nat} :
    (d ∈ l ∨ (drive s d).state = .rejected ∧ (drive s d).reason = 7) →
      (drive (refuseDrives l s) d).state = .rejected ∧ (drive (refuseDrives l s) d).reason = 7 := by
  induction l generalizing s with
  | nil => exact fun hd => hd.resolve_left nofun
  | cons e l ih =>
    intro hd
    refine ih (s := mDrive e (fun v => { v with state := .rejected, reason := 7 }) s) (canonical_mDrive h ..) ?_
    rw [drive_mDrive h]
    by_cases hde : d = e
    · exact .inr (by rw [if_pos hde]; exact ⟨rfl, rfl⟩)
    · rw [if_neg hde]
      exact hd.imp_left fun hin => (List.mem_cons.mp hin).resolve_left hde

end Sys2Proof.Machine
end

section
/-! PROOF. A volume is opened from its labels, and what the labels read decide (15 R364, R368). -/

namespace Sys2Proof.Machine

/-- The labels of the volume of a first label. -/
def ownLabels (first : Nat × List Byte) (labels : List (Nat × List Byte)) : List (Nat × List Byte) :=
  labels.filter (fun l => le l.2 0x10 16 == le first.2 0x10 16)

/-- The newest of the labels of a volume. -/
def newestLabel (first : Nat × List Byte) (mine : List (Nat × List Byte)) : List Byte :=
  mine.foldl (fun b l => if le b 0x0C 4 < le l.2 0x0C 4 then l.2 else b) first.2

/-- The members that have no label, or that the newest label shows as failed. -/
def lostMembers (mine : List (Nat × List Byte)) (top : List Byte) : List Nat :=
  (List.range (le top 7 1)).filter (fun m => !(mine.any (fun l => le l.2 6 1 == m)) || tbit (le top 0x0A 2) m)

/-- Whether a member is there, as the map built from the labels shows it. -/
def memberThere (mine : List (Nat × List Byte)) (top : List Byte) (m : Nat) : Bool :=
  (((List.range (le top 7 1)).map (fun m => (mine.find? (fun l => le l.2 6 1 == m)).map Prod.fst)).getD m
    none).isSome &&
    !tbit (le top 0x0A 2) m

theorem lost_eq_not_there {mine : List (Nat × List Byte)} {top : List Byte} {m : Nat} (hm : m < le top 7 1) :
    (!(mine.any (fun l => le l.2 6 1 == m)) || tbit (le top 0x0A 2) m) = !memberThere mine top m := by
  have hget : ((List.range (le top 7 1)).map (fun m => (mine.find? (fun l => le l.2 6 1 == m)).map Prod.fst)).getD m
      none = (mine.find? (fun l => le l.2 6 1 == m)).map Prod.fst := by simp [hm]
  rw [memberThere, hget, Option.isSome_map, List.isSome_find?, Bool.not_and, Bool.not_not]

section
variable (first : Nat × List Byte) (rest : List (Nat × List Byte)) (s : State)

/-- The members that a map built from the labels leaves out, as bits. -/
def lostBits (mine : List (Nat × List Byte)) (top : List Byte) : Nat :=
  lostMask (memberThere mine top) (le top 7 1)

theorem filter_lostBits (mine : List (Nat × List Byte)) (top : List Byte) :
    (List.range (le top 7 1)).filter (fun m => tbit (lostBits mine top) m) = lostMembers mine top :=
  filter_lostMask fun _ => lost_eq_not_there

theorem lostBits_eq_zero (mine : List (Nat × List Byte)) (top : List Byte) :
    lostBits mine top = 0 ↔ lostMembers mine top = [] := lostMask_eq_zero fun _ => lost_eq_not_there

/-- A volume opens from its newest label, or none does when more members are lost than it has parity (R368). -/
theorem openVolume_cons : ∃ t u,
    let mine := ownLabels first (first :: rest)
    let top := newestLabel first mine
    openVolume (first :: rest) s =
      (if le top 8 1 < ((List.range (le top 7 1)).filter (fun m => tbit (lostBits mine top) m)).length then
        mVol (fun v => { v with state := .none, mismatch := true }) t else writeLabel false (startStreams u)) ∧
    u.disk.vol.state = (if lostBits mine top = 0 then .opened else .degraded) ∧
    u.disk.vol.volumeId = le first.2 0x10 16 ∧ u.disk.vol.members = le top 7 1 ∧ u.disk.vol.parity = le top 8 1 ∧
    u.disk.vol.alloc = le top 0x28 8 ∧ u.disk.vol.nextSeq = le top 0x30 8 + 1 :=
  ⟨_, _, rfl, rfl, rfl, rfl, rfl, rfl, rfl⟩

theorem openVolume_lost (h : le (newestLabel first (ownLabels first (first :: rest))) 8 1 <
    (lostMembers (ownLabels first (first :: rest)) (newestLabel first (ownLabels first (first :: rest)))).length) :
    (openVolume (first :: rest) s).disk.vol.state = .none ∧
      (openVolume (first :: rest) s).disk.vol.mismatch = true := by
  obtain ⟨t, u, hopen, -⟩ := openVolume_cons first rest s
  rw [hopen, filter_lostBits, if_pos h]
  exact ⟨rfl, rfl⟩

theorem openVolume_opens (h : (lostMembers (ownLabels first (first :: rest))
      (newestLabel first (ownLabels first (first :: rest)))).length ≤
      le (newestLabel first (ownLabels first (first :: rest))) 8 1) :
    let top := newestLabel first (ownLabels first (first :: rest))
    let v := (openVolume (first :: rest) s).disk.vol
    v.state = (if lostMembers (ownLabels first (first :: rest)) top = [] then .opened else .degraded) ∧
      v.volumeId = le first.2 0x10 16 ∧ v.members = le top 7 1 ∧ v.parity = le top 8 1 ∧ v.alloc = le top 0x28 8 ∧
      v.nextSeq = le top 0x30 8 + 1 := by
  obtain ⟨t, u, hopen, hstate, hrest⟩ := openVolume_cons first rest s
  obtain ⟨g, w, n, hvol⟩ := vol_opening u
  dsimp only at hopen hrest ⊢
  rw [hopen, filter_lostBits, if_neg h.not_gt, hvol]
  exact ⟨hstate.trans (if_congr (lostBits_eq_zero _ _) rfl rfl), hrest⟩

end

/-! ## The labels read -/

/-- The state with the bring-up commands of the drives of a list over. -/
def endBringUps (l : List Nat) (s : State) : State := l.foldl (fun s d => endOps d NvmeOp.bringUp s) s

theorem Works.endBringUps (l : List Nat) (s : State) : Works s (endBringUps l s) := .foldl (fun _ _ => .endOps ..) l s

theorem img_consumeAll (d : Nat) (l : List NvmeCmd) (s : State) : (consumeAll d l s).image = s.image :=
  foldl_leaves (p := State.image) (f := fun s c => consumeCmd d c (nvmeQueue (drive s d) c.queue).tail s)
    (fun _ _ => rfl) l s

theorem image_endBringUps (l : List Nat) (s : State) : (endBringUps l s).image = s.image :=
  foldl_leaves (p := State.image) (f := fun s d => endOps d NvmeOp.bringUp s) (fun _ _ => img_consumeAll ..) l s

theorem img_endBringUps (l : List Nat) (s : State) : img (endBringUps l s) = img s := by
  rw [img, image_endBringUps, img]

theorem acceptedDrives_of_works {s t : State} (h : Works s t) (hwf : wf {} s.disk.drives = true) :
    acceptedDrives t = acceptedDrives s :=
  List.filter_congr fun d _ => by rw [h.state hwf d]

/-- The best label of each accepted drive that has one. -/
def goodLabels (labels : List (Nat × List (List Byte))) (s : State) : List (Nat × List Byte) :=
  (acceptedDrives s).filterMap (fun k =>
    ((labels.find? (fun l => l.1 == k)).bind (fun l => bestLabel l.2)).map (fun b => (k, b)))

theorem labelRead_idle {s : State} (h : s.disk.vol.state ≠ .bringup) (labels : List (Nat × List (List Byte)))
    (entropy : Nat) : labelRead labels entropy s = s := if_pos h

theorem labelRead_formats {s : State} (h : s.disk.vol.state = .bringup) {labels : List (Nat × List (List Byte))}
    (hmode : (img s).drives.volumeMode = 2 ∨ (img s).drives.volumeMode = 1 ∧ goodLabels labels s = []) (entropy : Nat) :
    labelRead labels entropy s = formatVolume entropy (endBringUps (acceptedDrives s) s) := by
  have himg : img (List.foldl (fun s d => endOps d NvmeOp.bringUp s) s (acceptedDrives s)) = img s :=
    img_endBringUps _ s
  unfold labelRead
  rw [if_neg (by simp [h])]
  dsimp only
  rw [himg]
  rcases hmode with hmode | ⟨hmode, hgood⟩
  · rw [hmode]
    rfl
  · rw [hmode]
    exact if_pos (List.isEmpty_iff.mpr hgood)

theorem labelRead_opens {s : State} (h : s.disk.vol.state = .bringup) {labels : List (Nat × List (List Byte))}
    (hmode : (img s).drives.volumeMode = 0 ∨ (img s).drives.volumeMode = 1 ∧ goodLabels labels s ≠ []) (entropy : Nat) :
    labelRead labels entropy s = openVolume (goodLabels labels s) (endBringUps (acceptedDrives s) s) := by
  have himg : img (List.foldl (fun s d => endOps d NvmeOp.bringUp s) s (acceptedDrives s)) = img s :=
    img_endBringUps _ s
  unfold labelRead
  rw [if_neg (by simp [h])]
  dsimp only
  rw [himg]
  rcases hmode with hmode | ⟨hmode, hgood⟩
  · rw [hmode]
    rfl
  · rw [hmode]
    exact if_neg (by rw [List.isEmpty_iff]; exact hgood)

end Sys2Proof.Machine
end

section
/-! PROOF. A drive's accesses, its completions and its time-outs: each command's effect (15 R358 to R362). -/

namespace Sys2Proof.Machine

/-! ## The pages of an access -/

/-- An access that stays on one page. -/
theorem cutBlocks_of_page {a n : Nat} (k : Nat) (hn : 0 < n) (hpage : a % 4096 + n ≤ 4096) :
    cutBlocks (k + 2) a n = [(a, n)] := by
  have hmin : min n (4096 - a % 4096) = n := by omega
  simp only [cutBlocks, if_neg hn.ne', hmin, Nat.sub_self, if_true]

theorem firstBlock_of_page {a n : Nat} (hpage : a % 4096 + n ≤ 4096) (s : State) (d : Nat)
    (f : Option PageUse → Option Nat) :
    firstBlock s d f (cutBlocks (n / 4096 + 2) a (max 1 n)) = (f (pageUse s d a)).map (fun r => (r, a)) := by
  rw [cutBlocks_of_page _ (by omega) (by have := Nat.mod_lt a (show 0 < 4096 by decide); omega), firstBlock]
  simp only [List.findSome?_cons, List.findSome?_nil]
  cases f (pageUse s d a) <;> rfl

section
variable {s : State} {d : Nat}

theorem driveAccess_of_absent (h : (drive s d).state = .absent) (x : DriveAccess) : driveAccess d x s = s :=
  if_pos (by simp [h])

theorem driveAccess_of_quarantined (h : (drive s d).state = .quarantined) (x : DriveAccess) :
    driveAccess d x s = emit (.driveRefused d) (bump 17 (0x40 * d + 0x30) s) :=
  (if_neg (by simp [h])).trans (if_pos (by simp [h]))

theorem completion_of_absent (h : (drive s d).state = .absent) (id : Nat) (x : CompletionEntry) :
    completion d id x s = s := if_pos (by simp [h])

theorem completion_of_quarantined (h : (drive s d).state = .quarantined) (id : Nat) (x : CompletionEntry) :
    completion d id x s = emit (.driveRefused d) (bump 17 (0x40 * d + 0x30) s) :=
  (if_neg (by simp [h])).trans (if_pos (by simp [h]))

variable (hpresent : (drive s d).state ≠ .absent) (hfree : (drive s d).state ≠ .quarantined)
include hpresent hfree

theorem driveAccess_peer (a : Nat) : driveAccess d (.peer a) s = refuseAccess d 0x24 a s := by
  simp [driveAccess, hpresent, hfree]

theorem driveAccess_irq (a : Nat) (w : Word) : driveAccess d (.irq a w) s = driveIrq d a w (pageUse s d a) s := by
  simp [driveAccess, hpresent, hfree]

theorem driveAccess_read_denied {a n r : Nat} (hpage : a % 4096 + n ≤ 4096) (hr : readDenied (pageUse s d a) = some r) :
    driveAccess d (.read a n) s = refuseAccess d r a s := by
  simp [driveAccess, hpresent, hfree, firstBlock_of_page hpage, hr]

theorem driveAccess_read_served {a n : Nat} (hn : 0 < n) (hpage : a % 4096 + n ≤ 4096)
    (hr : readDenied (pageUse s d a) = none) : driveAccess d (.read a n) s = readPage d a n s := by
  have hpages : cutBlocks (n / 4096 + 2) a n = [(a, n)] := cutBlocks_of_page _ hn hpage
  have hserved : driveAccess d (.read a n) s =
      (cutBlocks (n / 4096 + 2) a n).foldl (fun s p => readPage d p.1 p.2 s) s := by
    simp only [driveAccess]
    rw [if_neg (by simp [hpresent]), if_neg (by simp [hfree]), firstBlock_of_page hpage, hr, Option.map_none]
  rw [hserved, hpages, List.foldl_cons, List.foldl_nil]

theorem driveAccess_write_denied {a r : Nat} {bs : List Byte} (hpage : a % 4096 + bs.length ≤ 4096)
    (hr : writeDenied (pageUse s d a) = some r) : driveAccess d (.write a bs) s = refuseAccess d r a s := by
  simp [driveAccess, hpresent, hfree, firstBlock_of_page hpage, hr]

theorem driveAccess_write_allowed {a : Nat} {bs : List Byte} (hpage : a % 4096 + bs.length ≤ 4096)
    (hr : writeDenied (pageUse s d a) = none) : driveAccess d (.write a bs) s = s := by
  simp [driveAccess, hpresent, hfree, firstBlock_of_page hpage, hr]

omit hpresent hfree in
theorem driveIrq_of_bell {a : Nat} {w : Word} {use : Option PageUse} (h : use = some (.doorbell w.toNat))
    (ha : a % 4 = 0) : driveIrq d a w use s = s := by
  simp [driveIrq, h, ha]

omit hpresent hfree in
theorem driveIrq_of_other {a : Nat} {w : Word} {use : Option PageUse}
    (h : a % 4 ≠ 0 ∨ use ≠ some (.doorbell w.toNat)) : driveIrq d a w use s = refuseAccess d 0x23 a s := by
  unfold driveIrq
  split
  · next q =>
    have hother : ¬ (a % 4 = 0 ∧ w.toNat = q) := fun hbell => h.elim (fun ha => ha hbell.1) fun hq => hq (hbell.2 ▸ rfl)
    rw [if_neg hother]
  · rfl

theorem completion_of_bad {id : Nat} {x : CompletionEntry} (hc : completes (drive s d) id x = none) :
    completion d id x s = quarantine d 0x22 0 s := by
  refine ((if_neg (by simp [hpresent])).trans (if_neg (by simp [hfree]))).trans ?_
  simp only [hc]

theorem completion_of_command {id : Nat} {x : CompletionEntry} {c : NvmeCmd} (hc : completes (drive s d) id x = some c)
    (haborted : c.aborted = false) (hop : ∀ q k, c.op ≠ .abort q k) : completion d id x s =
      if x.error then attemptFailed d c 0x11 (consumeCmd d c x.head s)
      else completeCmd d c (consumeCmd d c x.head s) := by
  refine ((if_neg (by simp [hpresent])).trans (if_neg (by simp [hfree]))).trans ?_
  simp only [hc, completed]
  cases hcop : c.op with
  | abort q k => exact absurd hcop (hop q k)
  | _ => exact if_neg (by simp [haborted])

end

/-! ## A drive at work without a volume -/

/-- A volume with nothing at work. -/
structure Quiet (v : Volume) : Prop where
  state : v.state = .none
  members : v.members = 0
  extents : v.extents = []
  captures : v.captures = []
  label : v.labelWrite = none
  closing : v.closing = false

/-- Drive `d` of a state is `v`, the drives stand in canonical form, and the volume is quiet. -/
structure Rests (d : Nat) (v : Drive) (s : State) : Prop where
  canonical : wf {} s.disk.drives = true
  drive : drive s d = v
  quiet : Quiet s.disk.vol

section
variable {d : Nat} {v : Drive} {s t : State}

theorem Rests.of_disk (h : Rests d v s) (ht : t.disk = s.disk) : Rests d v t where
  canonical := by rw [ht, h.canonical]
  drive := by rw [Machine.drive, ht]; exact h.drive
  quiet := by rw [ht]; exact h.quiet

theorem Rests.mVol (h : Rests d v s) {f : Volume → Volume} (hf : Quiet (f s.disk.vol)) : Rests d v (mVol f s) :=
  ⟨h.canonical, h.drive, hf⟩

theorem Rests.submitOther (h : Rests d v s) {e : Nat} (he : e ≠ d) (op : NvmeOp) (again : Bool) :
    Rests d v (submit e op again s) where
  canonical := (Works.submit ..).canonical h.canonical
  drive := (drive_submit_other h.canonical e op again he.symm).trans h.drive
  quiet := by rw [vol_submit]; exact h.quiet

theorem Rests.pumpDrive (h : Rests d v s) (hv : v.waiting = []) (e : Nat) : Rests d v (pumpDrive s e) := by
  have hcanonical := canonical_mDrive h.canonical e (fun v => { v with waiting := [] })
  unfold Machine.pumpDrive
  by_cases he : e = d
  · subst he
    rw [h.drive, hv]
    refine ⟨hcanonical, ?_, h.quiet⟩
    rw [List.foldl_nil, drive_mDrive_same h.canonical, h.drive, ← hv]
  · have hother : Rests d v (mDrive e (fun v => { v with waiting := [] }) s) :=
      ⟨hcanonical, by rw [drive_mDrive h.canonical, if_neg (Ne.symm he)]; exact h.drive, h.quiet⟩
    exact List.foldlRecOn _ _ (motive := Rests d v) hother fun _ ht x _ => ht.submitOther he x.1 x.2

theorem Rests.bumpBy (h : Rests d v s) (n off k : Nat) : Rests d v (bumpBy n off k s) :=
  h.of_disk (congrArg State.disk (outsideWriters_bumpBy s n off k) :)

theorem Rests.endStripes (h : Rests d v s) : Rests d v (endStripes s) := by
  have hcounted (k : Nat) := h.bumpBy 17 0x1020 k
  unfold Machine.endStripes
  exact (hcounted _).mVol ⟨(hcounted _).quiet.state, (hcounted _).quiet.members, (hcounted _).quiet.extents,
    (hcounted _).quiet.captures, (hcounted _).quiet.label, (hcounted _).quiet.closing⟩

theorem Rests.serveJobs (h : Rests d v s) : Rests d v (serveJobs s) := by
  obtain ⟨hstate, hmembers, hextents, hcaptures, hlabel, hclosing⟩ := h.quiet
  unfold Machine.serveJobs
  rw [hextents]
  exact h.mVol ⟨hstate, hmembers, hextents, by simp [hcaptures], hlabel, hclosing⟩

theorem Rests.advance (h : Rests d v s) :
    labelDue ((advanceLabel s).disk.vol.extents.foldl advanceExtent (advanceLabel s)) = s := by
  obtain ⟨hstate, hmembers, hextents, hcaptures, hlabel, hclosing⟩ := h.quiet
  have hsame : advanceLabel s = s := by simp [advanceLabel, hlabel]
  rw [hsame, hextents, List.foldl_nil]
  simp [labelDue, hlabel, hclosing, volumeRuns, hstate]

theorem Rests.progress (h : Rests d v s) (hv : v.waiting = []) : Rests d v (progress s) := by
  have hpumped : Rests d v (pumpAll s) :=
    List.foldlRecOn _ _ (motive := Rests d v) h fun _ ht e _ => ht.pumpDrive hv e
  have hserved := hpumped.endStripes.serveJobs
  unfold Machine.progress
  dsimp only
  rw [hserved.advance]
  exact List.foldlRecOn _ _ (motive := Rests d v) hserved fun t ht i _ =>
    ht.of_disk (congrArg State.disk (outsideWriters_settleDsk i t) :)

theorem Rests.checkLag (h : Rests d v s) : checkLag s = s := by
  have hnone : liveDrives s = [] := by simp [liveDrives, h.quiet.members]
  simp [Machine.checkLag, hnone]

/-- Without a volume a command that completes only ends (R362). -/
theorem Rests.completeCmd (h : Rests d v s) (hwaiting : v.waiting = []) (hsetup : v.setup = []) (c : NvmeCmd) :
    Rests d v (completeCmd d c s) := by
  have hcounted := h.bumpBy 17 (0x40 * d) (writtenBytes (Machine.drive s d) c.op)
  have hends {t : State} (ht : Rests d v t) : Rests d v (Machine.checkLag (Machine.progress (nextSetup d t))) := by
    have hnext : nextSetup d t = t := by simp [nextSetup, ht.drive, hsetup]
    rw [hnext, (ht.progress hwaiting).checkLag]
    exact ht.progress hwaiting
  unfold Machine.completeCmd
  dsimp only
  refine hends ?_
  split
  · split
    · exact hcounted
    · exact (hcounted.mVol ⟨hcounted.quiet.state, hcounted.quiet.members, hcounted.quiet.extents,
        hcounted.quiet.captures, hcounted.quiet.label, hcounted.quiet.closing⟩)
  · exact hcounted

end

/-! ## A command's attempt fails -/

section
variable {s : State} (h : wf {} s.disk.drives = true) {d : Nat} {c : NvmeCmd}

theorem stopPast_submit (e : Nat) (op : NvmeOp) (again : Bool) (s : State) :
    stopPast (submit e op again s) = stopPast s :=
  (congrArg stopPast (outsideDrives_submit e op again s) :)

include h

/-- The command is submitted once more (R362). -/
theorem attemptFailed_retries {reason : Nat} (hretried : c.retried = false) (hstop : stopPast s = false) :
    Works s (attemptFailed d c reason s) ∧ Sent c.op true (drive (attemptFailed d c reason s) d) ∧
      ∀ op again, Sent op again (drive s d) → Sent op again (drive (attemptFailed d c reason s) d) := by
  have hnoted : Works s (pulse0 17 4 (bump 17 (0x40 * d + 0x20) s)) := (Works.bump ..).trans (.pulse0 ..)
  have hdrive : drive (pulse0 17 4 (bump 17 (0x40 * d + 0x20) s)) d = drive s d := drive_bump s d 17 (0x40 * d + 0x20)
  rw [attemptFailed_of_first hretried hstop]
  exact ⟨hnoted.trans (.submit ..), sent_submit (hnoted.canonical h) .., fun op again hs =>
    Sent.submit (hnoted.canonical h) d c.op true (hdrive ▸ hs)⟩

theorem commandTimeout_retries {id : Nat} (hc : (drive s d).cmds.find? (fun c => c.id == id && !c.aborted) = some c)
    (hop : ∀ q k, c.op ≠ .abort q k) (hretried : c.retried = false) (hstop : stopPast s = false) :
    (drive (commandTimeout d id s) d).state = (drive s d).state ∧
      Sent (.abort c.queue c.id) false (drive (commandTimeout d id s) d) ∧
      Sent c.op true (drive (commandTimeout d id s) d) := by
  have hmarked : Works s (mDrive d (Drive.aborting c) s) := .mDrive d s
  have haborted := hmarked.trans (.submit d (.abort c.queue c.id) false _)
  have hstop' : stopPast (submit d (.abort c.queue c.id) false (mDrive d (Drive.aborting c) s)) = false :=
    (stopPast_submit d (.abort c.queue c.id) false (mDrive d (Drive.aborting c) s)).trans hstop
  obtain ⟨hworks, hsent, hkeeps⟩ := attemptFailed_retries (haborted.canonical h) (d := d)
    (reason := 0x10) hretried hstop'
  rw [commandTimeout_of_found hc hop, if_neg (by simp [hretried, hstop])]
  exact ⟨(congrArg Drive.state ((haborted.trans hworks).drives h d) :),
    hkeeps _ _ (sent_submit (hmarked.canonical h) ..), hsent⟩

section
variable {id : Nat} {x : CompletionEntry} (hpresent : (drive s d).state ≠ .absent)
  (hfree : (drive s d).state ≠ .quarantined) (hc : completes (drive s d) id x = some c) (haborted : c.aborted = false)
  (hop : ∀ q k, c.op ≠ .abort q k)
include hpresent hfree hc haborted hop

/-- A command that completes leaves its drive, which does nothing else while there is no volume (R362). -/
theorem completion_succeeds (herror : x.error = false) (hvol : s.disk.vol = {}) (hwaiting : (drive s d).waiting = [])
    (hsetup : (drive s d).setup = []) : drive (completion d id x s) d = (drive s d).consumed c x.head := by
  have hrests : Rests d ((drive s d).consumed c x.head) (consumeCmd d c x.head s) :=
    ⟨(Works.consumeCmd ..).canonical h, (drive_consumeCmd h d c x.head d).trans (if_pos rfl),
      by rw [show (consumeCmd d c x.head s).disk.vol = {} from hvol]; exact ⟨rfl, rfl, rfl, rfl, rfl, rfl⟩⟩
  rw [completion_of_command hpresent hfree hc haborted hop, if_neg (by simp [herror])]
  exact (hrests.completeCmd hwaiting hsetup c).drive

theorem completion_retries (herror : x.error = true) (hretried : c.retried = false) (hstop : stopPast s = false) :
    (drive (completion d id x s) d).state = (drive s d).state ∧ Sent c.op true (drive (completion d id x s) d) := by
  have hconsumed := Works.consumeCmd d c x.head s
  obtain ⟨hworks, hsent, -⟩ := attemptFailed_retries (hconsumed.canonical h) (d := d) (reason := 0x11) hretried
    (show stopPast (consumeCmd d c x.head s) = false from hstop)
  rw [completion_of_command hpresent hfree hc haborted hop, if_pos herror]
  exact ⟨(hconsumed.trans hworks).state h d, hsent⟩

theorem completion_gives_up (herror : x.error = true) (hlast : c.retried = true ∨ stopPast s = true) :
    (drive (completion d id x s) d).reason = 0x11 ∧
      (drive (completion d id x s) d).state = (if (drive s d).member.isSome then .failed else .rejected) := by
  have hmember : (drive (consumeCmd d c x.head s) d).member = (drive s d).member := by
    rw [drive_consumeCmd h, if_pos rfl]
    rfl
  rw [completion_of_command hpresent hfree hc haborted hop, if_pos herror,
    attemptFailed_of_last (s := consumeCmd d c x.head s) hlast, ← hmember]
  exact giveUp_drive ((Works.consumeCmd ..).canonical h) d 0x11

end

/-- A command that cannot be tried again gives its drive up when it times out (R362, R75). -/
theorem commandTimeout_gives_up {id : Nat} (hc : (drive s d).cmds.find? (fun c => c.id == id && !c.aborted) = some c)
    (hop : ∀ q k, c.op ≠ .abort q k) (hlast : c.retried = true ∨ stopPast s = true) :
    (drive (commandTimeout d id s) d).reason = 0x10 ∧
      (drive (commandTimeout d id s) d).state = (if (drive s d).member.isSome then .failed else .rejected) := by
  rw [commandTimeout_of_found hc hop, if_pos (by rcases hlast with h | h <;> simp [h])]
  exact giveUp_drive h d 0x10

theorem linkLost_of_heeded (hheeded : heeded (drive s d) = true) : (drive (linkLost d s) d).reason = 0x13 ∧
    (drive (linkLost d s) d).state = (if (drive s d).member.isSome then .failed else .rejected) := by
  have hlost := drive_mDrive_same h d (fun v => { v with speed := 0, width := 0 })
  have hgiven := giveUp_drive (canonical_mDrive h d (fun v => { v with speed := 0, width := 0 })) d 0x13
  rw [hlost] at hgiven
  have hlink : linkLost d s = giveUp d 0x13 (mDrive d (fun v => { v with speed := 0, width := 0 }) s) :=
    if_pos (by rw [hlost]; exact hheeded)
  rw [hlink]
  exact hgiven

theorem linkLost_of_unheeded (hheeded : heeded (drive s d) = false) :
    drive (linkLost d s) d = { drive s d with speed := 0, width := 0 } := by
  have hlost := drive_mDrive_same h d (fun v => { v with speed := 0, width := 0 })
  have hlink : linkLost d s = mDrive d (fun v => { v with speed := 0, width := 0 }) s :=
    if_neg (by rw [hlost]; simpa [heeded] using hheeded)
  rw [hlink, hlost]

end

end Sys2Proof.Machine
end

section
/-! PROOF. A stripe of a CONTINUOUS stream is issued, or recording stops with the volume full (15 R366 to R375). -/

namespace Sys2Proof.Machine

section
variable {s : State} {i stream k : Nat}

theorem stripeWrite_idle (h : volumeRuns s = false ∨ stopPast s = true ∨ nextData s i = none) :
    stripeWrite i s = s := by
  rcases h with h | h | h <;> simp [stripeWrite, h]

section
variable (hruns : volumeRuns s = true) (hstop : stopPast s = false)
  (hnext : nextData s i = some (stream, none, k, none))
  (hcut : passCut s i k = false)
include hruns hstop hnext hcut

/-- A CONTINUOUS sleeve whose pass is whole gives a stripe once all its bytes are there (R366, R370). -/
theorem stripeWrite_continuous : stripeWrite i s =
    if (sleeve s i).wcount - k < s.disk.vol.dataUnits * unitSize then s
    else placeStripe stream i k
      (sleeveBytes s i k (min ((sleeve s i).wcount - k) (s.disk.vol.dataUnits * unitSize))) none s := by
  have htop : runEnd s i k = (sleeve s i).wcount := by simp [runEnd, hcut]
  simp only [stripeWrite, hruns, hstop, hnext, htop, hcut]
  simp

end

theorem length_sleeveBytes (s : State) (i q n : Nat) : (sleeveBytes s i q n).length = n := by simp [sleeveBytes]

theorem placeStripe_of_continued {e : Extent} (hopen : openFor s stream i = some e) (hcont : continues_ e k 0 = true)
    (data : List Byte) : placeStripe stream i k data none s = progress (issueStripe e k data none s) := by
  simp [placeStripe, hopen, hcont]

theorem placeStripe_of_full (hopen : openFor s stream i = none) (htake : takeRun s.disk.vol = none) (data : List Byte) :
    placeStripe stream i k data none s = progress (stopRecording (mVol (fun v => { v with full := true }) s)) := by
  have hextent : openExtent stream i k none s = (none, s) := by simp [openExtent, htake]
  simp [placeStripe, hopen, openRoom, hextent]

/-- The state with a stripe's units submitted to the live members. -/
def submitUnits (seq st : Nat) (s : State) : State := (liveDrives s).foldl (fun s p =>
  (List.range (unitParts (drive s p.1))).foldl (fun s k => submit p.1 (.unit seq st k) false s) s) s

/-- The state with a stripe's data read for the members that are not live. -/
def readLost (seq st : Nat) (s : State) : State :=
  ((List.range s.disk.vol.members).filter (fun m => !s.disk.vol.live m)).foldl (fun s m => parityRead m seq st s) s

/-- The state with a stripe of a CONTINUOUS stream entered in its extent and among those with units incomplete. -/
def enterStripe (e : Extent) (n : Nat) (data : List Byte) (s : State) : State :=
  mVol (fun v => { v with
    issued := v.issued + 1
    runs := v.runs ++ [{ extent := e.seq, stripe := e.start + 1 + e.stripes, order := v.issued, sleeve := e.sleeve
                         from_ := n, upTo := n + data.length }]
    nextWc := put 0 e.sleeve (n + data.length) v.nextWc
    captures := v.captures.map (fun j => if some j.number = (none : Option CapJob).map CapJob.number then { j with
      regions := j.regions.map (fun r => if r.1 = e.sleeve then (r.1, n + data.length, r.2.2) else r) } else j) })
    (mExtent e.seq (fun e => { e with stripes := e.stripes + 1, payload := e.payload ++ data })
      (if n + data.length = runEnd s e.sleeve n then resizeDsk e.sleeve n s else s))

theorem issueStripe_eq (e : Extent) (n : Nat) (data : List Byte) (s : State) : issueStripe e n data none s =
    if e.stripes + 1 = 255 ∨ e.stripes + 2 = e.reserve then
      closeExtent e.seq 0 (readLost e.seq (e.start + 1 + e.stripes) (submitUnits e.seq (e.start + 1 + e.stripes)
        (enterStripe e n data s)))
    else readLost e.seq (e.start + 1 + e.stripes) (submitUnits e.seq (e.start + 1 + e.stripes)
      (enterStripe e n data s)) := rfl

/-- A stripe moves its sleeve's next write count on. -/
theorem nextWc_issueStripe (e : Extent) (n : Nat) (data : List Byte) (s : State) :
    ∃ m, (issueStripe e n data none s).disk.vol.nextWc = put 0 e.sleeve (n + data.length) m := by
  have hunits (t : State) : Works t (submitUnits e.seq (e.start + 1 + e.stripes) t) :=
    .foldl (fun _ _ => .foldl (fun _ _ => .submit ..) _ _) _ t
  have hread (t : State) : Works t (readLost e.seq (e.start + 1 + e.stripes) t) :=
    .foldl (fun _ _ => .parityRead ..) _ t
  have hworks : Works (enterStripe e n data s) (issueStripe e n data none s) := by
    rw [issueStripe_eq]
    exact .ite (fun _ => ((hunits _).trans (hread _)).trans (.closeExtent ..)) fun _ => (hunits _).trans (hread _)
  exact ⟨_, hworks.nextWc⟩

theorem look_nextWc_stripeWrite (hruns : volumeRuns s = true) (hstop : stopPast s = false)
    (hnext : nextData s i = some (stream, none, k, none)) (hcut : passCut s i k = false)
    (hunits : 0 < s.disk.vol.dataUnits) (hdata : s.disk.vol.dataUnits * unitSize ≤ (sleeve s i).wcount - k)
    {e : Extent} (hopen : openFor s stream i = some e) (hcont : continues_ e k 0 = true) :
    look 0 (stripeWrite i s).disk.vol.nextWc i = k + s.disk.vol.dataUnits * unitSize := by
  have hsleeve : e.sleeve = i := by
    have h := List.find?_some hopen
    simp only [Bool.and_eq_true, beq_iff_eq] at h
    exact h.1.2
  have hpos : 0 < s.disk.vol.dataUnits * unitSize := Nat.mul_pos hunits (by decide)
  obtain ⟨m, hm⟩ := nextWc_issueStripe e k (sleeveBytes s i k (s.disk.vol.dataUnits * unitSize)) s
  rw [stripeWrite_continuous hruns hstop hnext hcut, if_neg hdata.not_gt, Nat.min_eq_right hdata,
    placeStripe_of_continued hopen hcont, (Works.progress _).nextWc, hm, length_sleeveBytes, hsleeve]
  exact (look_put_of_ne_default (by omega) i i m).trans (if_pos rfl)

theorem stripeWrite_full (hruns : volumeRuns s = true) (hstop : stopPast s = false)
    (hnext : nextData s i = some (stream, none, k, none)) (hcut : passCut s i k = false)
    (hdata : s.disk.vol.dataUnits * unitSize ≤ (sleeve s i).wcount - k) (hopen : openFor s stream i = none)
    (htake : takeRun s.disk.vol = none) :
    (stripeWrite i s).disk.vol.full = true ∧ (stripeWrite i s).disk.vol.state = .stopped := by
  have hfull := (Works.stopRecording (mVol (fun v => { v with full := true }) s)).trans (.progress _)
  rw [stripeWrite_continuous hruns hstop hnext hcut, if_neg hdata.not_gt, placeStripe_of_full hopen htake]
  exact ⟨hfull.full, (Works.progress _).stopped (state_stopRecording _)⟩

end

end Sys2Proof.Machine
end

section
/-! PROOF. The drives, their checks, accesses and commands: the statement (15). -/

namespace Sys2Proof.Machine

section
variable {s : State} {d : Nat} {f : State → State} {P : Drive → Prop}

theorem driveAnswers (h : P (drive (f (fresh s)) d)) : ∃ t, act f s = .next t ∧ P (drive t d) :=
  act_answers (fun t => P (drive t d)) h

theorem driveEquals {y : Drive} (h : drive (f (fresh s)) d = y) : ∃ t, act f s = .next t ∧ drive t d = y :=
  driveAnswers (P := (· = y)) h

theorem rejectedAnswers {state : DriveState} {reason : Nat}
    (h : (drive (f (fresh s)) d).state = state ∧ (drive (f (fresh s)) d).reason = reason) :
    ∃ t, act f s = .next t ∧ (drive t d).state = state ∧ (drive t d).reason = reason :=
  driveAnswers (P := fun y => y.state = state ∧ y.reason = reason) h

theorem failedAnswers {state : DriveState} {reason : Nat}
    (h : (drive (f (fresh s)) d).reason = reason ∧ (drive (f (fresh s)) d).state = state) :
    ∃ t, act f s = .next t ∧ (drive t d).reason = reason ∧ (drive t d).state = state :=
  driveAnswers (P := fun y => y.reason = reason ∧ y.state = state) h

theorem quarantinedAnswers {reason addr : Nat} (h : (drive (f (fresh s)) d).state = .quarantined ∧
      (drive (f (fresh s)) d).reason = reason ∧ (drive (f (fresh s)) d).badAddr = addr) :
    ∃ t, act f s = .next t ∧ (drive t d).state = .quarantined ∧ (drive t d).reason = reason ∧
      (drive t d).badAddr = addr :=
  driveAnswers (P := fun y => y.state = .quarantined ∧ y.reason = reason ∧ y.badAddr = addr) h

theorem outputAnswers {o : Output} (h : o ∈ (f (fresh s)).outbox) : ∃ t, act f s = .next t ∧ o ∈ t.outbox :=
  act_answers (fun t => o ∈ t.outbox) (settle_keeps_output h)

theorem refused_answers (h : f (fresh s) = emit (.driveRefused d) (bump 17 (0x40 * d + 0x30) (fresh s))) :
    ∃ t, act f s = .next t ∧ t.snap = (bump 17 (0x40 * d + 0x30) s).snap ∧ Output.driveRefused d ∈ t.outbox := by
  refine act_answers (fun t => t.snap = (bump 17 (0x40 * d + 0x30) s).snap ∧ Output.driveRefused d ∈ t.outbox) ?_
  rw [h]
  exact ⟨rfl, settle_keeps_output (by simp [emit])⟩

end

/-- Settles O56: each command on a drive in the state that its clause names. -/
theorem drivesChecksAccessesAndCommands : Obligations.DrivesChecksAccessesAndCommands := by
  unfold Obligations.DrivesChecksAccessesAndCommands
  intro s d id i a n speed width entropy nvme info w bs x labels hwf v p used after idle fits quarantined failed refused
    sent good
  have hfresh : wf {} (fresh s).disk.drives = true := hwf
  refine ⟨?linkUp, ?noLinkUp, ?linkTimeout, ?noLinkTimeout, ?ready, ?notReady, ?checking, ?notChecking, ?noLabel,
    ?mismatch, ?format, ?opens, ?absent, ?cutOff, ?present, ?noTimeout, ?timeout, ?lost, ?unlinked, ?noStripe, ?stripe⟩
  case linkUp =>
    intro hused hlive hperst hstate
    refine ⟨fun hspeed => ?_, fun hspeed => ?_, fun hspeed hnvme => ?_⟩
    · subst hspeed
      refine driveEquals (d := d) (f := driveLinkUp d 0 width nvme) ?_
      rw [driveLinkUp_without_link (s := fresh s) hused hlive hperst hstate]
      exact drive_rejectDrive hfresh d 1
    · refine driveEquals (d := d) (f := driveLinkUp d speed width nvme) ?_
      cases nvme with
      | false =>
        rw [driveLinkUp_without_nvme (s := fresh s) hused hlive hperst hstate hspeed]
        exact drive_mDrive_same hfresh d _
      | true =>
        rw [driveLinkUp_with_nvme (s := fresh s) hused hlive hperst hstate hspeed,
          drive_enableDrive (canonical_mDrive hfresh d _), drive_mDrive_same hfresh]
        rfl
    · subst hnvme
      refine outputAnswers (f := driveLinkUp d speed width true) ?_
      rw [driveLinkUp_with_nvme (s := fresh s) hused hlive hperst hstate hspeed]
      exact enableDrive_enables d _
  case noLinkUp =>
    intro h
    exact act_of_effect (f := driveLinkUp d speed width nvme) (driveLinkUp_idle (s := fresh s) h speed width nvme)
  case linkTimeout =>
    intro hused hstate
    refine driveEquals (d := d) (f := driveLinkTimeout d) ?_
    rw [driveLinkTimeout_of_absent (s := fresh s) hused hstate]
    exact drive_rejectDrive hfresh d 1
  case noLinkTimeout =>
    intro h
    exact act_of_effect (f := driveLinkTimeout d) (driveLinkTimeout_idle (s := fresh s) h)
  case ready =>
    intro hstate hcmds hwaiting hqs hall
    exact driveAnswers (f := driveReady d) (P := fun y => y.state = .checking ∧
      y.cmds.map NvmeCmd.op = [.identify 1, .identify 0, .setFeature 0x07])
      (driveReady_commands hfresh hstate hcmds hwaiting hqs hall)
  case notReady =>
    intro h
    exact act_of_effect (f := driveReady d) (driveReady_idle (s := fresh s) h)
  case checking =>
    intro hstate
    refine ⟨?_, fun hfits => ?_, fun hfits hformat => ?_, fun hfits hbytes hmeta hsmall => ?_,
      fun hfits hbytes hmeta hlarge => ?_⟩
    · refine driveEquals (d := d) (f := driveReadyTimeout d) ?_
      rw [driveReadyTimeout_of_checking (s := fresh s) hstate]
      exact drive_rejectDrive hfresh d 3
    · exact rejectedAnswers (d := d) (f := identifyDone d info)
        (identifyDone_fails hfresh (identifyDone_of_unfit (s := fresh s) hstate hfits))
    · exact rejectedAnswers (d := d) (f := identifyDone d info)
        (identifyDone_fails hfresh (identifyDone_of_format (s := fresh s) hstate hfits hformat))
    · exact rejectedAnswers (d := d) (f := identifyDone d info)
        (identifyDone_fails hfresh (identifyDone_of_small (s := fresh s) hstate hfits hbytes hmeta hsmall))
    · exact driveAnswers (d := d) (f := identifyDone d info)
        (P := fun y => y.state = .accepted ∧ y.blocks = info.blocks ∧
        y.mdts = info.mdts ∧ y.queues = 1 + min 16 info.queues ∧
        y.setup = (setupOps (min 16 info.queues) (s.disk.vol.state == .bringup)).drop 1)
        (identifyDone_accepts hfresh (identifyDone_of_good (s := fresh s) hstate hfits hbytes hmeta hlarge))
  case notChecking =>
    intro hstate
    exact ⟨act_of_effect (f := driveReadyTimeout d) (driveReadyTimeout_idle (s := fresh s) hstate),
      act_of_effect (f := identifyDone d info) (identifyDone_idle (s := fresh s) hstate info)⟩
  case noLabel =>
    intro hstate
    exact act_of_effect (f := labelRead labels entropy) (labelRead_idle (s := fresh s) hstate labels entropy)
  case mismatch =>
    intro hbringup hmode hgood
    have hwf' := (Works.endBringUps (acceptedDrives (fresh s)) (fresh s)).canonical hfresh
    have haccepted := acceptedDrives_of_works (Works.endBringUps (acceptedDrives (fresh s)) (fresh s)) hfresh
    have hread := labelRead_opens (s := fresh s) hbringup (labels := labels) (.inl hmode) entropy
    rw [show goodLabels labels (fresh s) = [] from hgood, openVolume_nil, haccepted] at hread
    refine act_answers (f := labelRead labels entropy) (fun t => t.disk.vol.state = .none ∧ t.disk.vol.mismatch = true ∧
      (v.state = .accepted → d < 16 → (drive t d).state = .rejected ∧ (drive t d).reason = 7)) ?_
    rw [hread]
    refine ⟨rfl, rfl, fun hstate hd => ?_⟩
    exact drive_refuseDrives (acceptedDrives s) hwf' (d := d)
      (.inl (List.mem_filter.mpr ⟨List.mem_range.mpr hd, by simpa using hstate⟩))
  case format =>
    intro hbringup hmode
    have hread := labelRead_formats (s := fresh s) hbringup (labels := labels) hmode entropy
    have himg := img_endBringUps (acceptedDrives (fresh s)) (fresh s)
    have haccepted := acceptedDrives_of_works (Works.endBringUps (acceptedDrives (fresh s)) (fresh s)) hfresh
    have hformat := formatVolume_volume entropy (endBringUps (acceptedDrives (fresh s)) (fresh s))
    rw [himg, haccepted, ← hread] at hformat
    exact act_answers (f := labelRead labels entropy) (fun t => t.disk.vol.volumeId = entropy % 2 ^ 128 ∧
      t.disk.vol.members = p.members ∧ t.disk.vol.parity = p.parity ∧
      ((∀ m, m < p.members → p.memberMap.getD m 0xFF ∈ acceptedDrives s) →
        t.disk.vol.state = .opened ∧ t.disk.vol.failed = 0)) hformat
  case opens =>
    intro first rest hgood hbringup hmode mine top lost
    have hmine : mine = ownLabels first (first :: rest) := congrArg (ownLabels first) hgood
    have hlost : lost = lostMembers mine top := rfl
    have hread := labelRead_opens (s := fresh s) hbringup (labels := labels)
      (by
        rcases (by omega : p.volumeMode = 0 ∨ p.volumeMode = 1) with h | h
        · exact .inl h
        · exact .inr ⟨h, fun hnil => List.cons_ne_nil first rest (hgood.symm.trans hnil)⟩) entropy
    rw [show goodLabels labels (fresh s) = first :: rest from hgood] at hread
    refine ⟨fun hless => ?_, fun hmost => ?_⟩
    · refine act_answers (f := labelRead labels entropy)
        (fun t => t.disk.vol.state = .none ∧ t.disk.vol.mismatch = true) ?_
      rw [hread]
      exact openVolume_lost first rest _ (by rw [← hmine]; exact hless)
    · refine act_answers (f := labelRead labels entropy) (fun t =>
        t.disk.vol.state = (if lost = [] then .opened else .degraded) ∧ t.disk.vol.volumeId = le first.2 0x10 16 ∧
        t.disk.vol.members = le top 7 1 ∧ t.disk.vol.parity = le top 8 1 ∧ t.disk.vol.alloc = le top 0x28 8 ∧
        t.disk.vol.nextSeq = le top 0x30 8 + 1) ?_
      have hopens := openVolume_opens first rest (endBringUps (acceptedDrives (fresh s)) (fresh s))
        (by rw [← hmine]; exact hmost)
      rw [← hmine, ← hread] at hopens
      exact hopens
  case absent =>
    intro hstate
    have haccess (y : DriveAccess) : exec (.driveDmaAccess d y) s = .next (settle s (fresh s)) :=
      act_of_effect (f := driveAccess d y) (driveAccess_of_absent (s := fresh s) hstate y)
    exact ⟨haccess _, haccess _, haccess _, haccess _,
      act_of_effect (f := completion d id x) (completion_of_absent (s := fresh s) hstate id x)⟩
  case cutOff =>
    intro hstate
    have haccess (y : DriveAccess) := refused_answers (f := driveAccess d y)
      (driveAccess_of_quarantined (s := fresh s) hstate y)
    exact ⟨haccess _, haccess _, haccess _, haccess _, refused_answers (f := completion d id x)
      (completion_of_quarantined (s := fresh s) hstate id x)⟩
  case present =>
    intro hpresent hfree
    refine ⟨?_, fun hpage r hr => ?_, fun q off hn hpage huse => ?_, fun hpage => ⟨fun r hr => ?_, fun hr => ?_⟩,
      fun huse ha => ?_, fun h => ?_, fun hc => ?_, fun c hc haborted hop => ⟨fun herror hvol hwaiting hsetup => ?_,
      fun herror hretried hstop => ?_, fun herror hlast => ?_⟩⟩
    · refine quarantinedAnswers (d := d) (f := driveAccess d (.peer a)) ?_
      rw [driveAccess_peer (s := fresh s) hpresent hfree]
      exact refuseAccess_drive hfresh d 0x24 a
    · refine quarantinedAnswers (d := d) (f := driveAccess d (.read a n)) ?_
      rw [driveAccess_read_denied (s := fresh s) hpresent hfree hpage hr]
      exact refuseAccess_drive hfresh d r a
    · have huse' : pageUse (fresh s) d a = some (.submission q off) := huse
      have hread : driveAccess d (.read a n) (fresh s) =
          emit (.driveData d a (slice (submissionPage v q) off n)) (fresh s) := by
        rw [driveAccess_read_served (s := fresh s) hpresent hfree hn hpage (by rw [huse']; rfl), readPage, huse']
        rfl
      refine act_answers (f := driveAccess d (.read a n)) (fun t => drive t d = v ∧
        Output.driveData d a (slice (submissionPage v q) off n) ∈ t.outbox) ?_
      rw [hread]
      exact ⟨rfl, settle_keeps_output (by simp [emit])⟩
    · refine quarantinedAnswers (d := d) (f := driveAccess d (.write a bs)) ?_
      rw [driveAccess_write_denied (s := fresh s) hpresent hfree hpage hr]
      exact refuseAccess_drive hfresh d r a
    · exact act_of_effect (f := driveAccess d (.write a bs))
        (driveAccess_write_allowed (s := fresh s) hpresent hfree hpage hr)
    · exact act_of_effect (f := driveAccess d (.irq a w))
        ((driveAccess_irq (s := fresh s) hpresent hfree a w).trans (driveIrq_of_bell huse ha))
    · refine quarantinedAnswers (d := d) (f := driveAccess d (.irq a w)) ?_
      rw [driveAccess_irq (s := fresh s) hpresent hfree, driveIrq_of_other (use := pageUse (fresh s) d a) h]
      exact refuseAccess_drive hfresh d 0x23 a
    · refine quarantinedAnswers (d := d) (f := completion d id x) ?_
      rw [completion_of_bad (s := fresh s) hpresent hfree hc]
      exact quarantine_drive hfresh d 0x22 0
    · refine driveAnswers (d := d) (f := completion d id x)
        (P := fun y => y.state = v.state ∧ y.cmds = v.cmds.filter (fun k => k.id ≠ c.id)) ?_
      rw [completion_succeeds hfresh hpresent hfree hc haborted hop herror hvol hwaiting hsetup]
      exact ⟨rfl, rfl⟩
    · exact driveAnswers (d := d) (f := completion d id x) (P := fun y => y.state = v.state ∧ sent c.op true y)
        (completion_retries hfresh hpresent hfree hc haborted hop herror hretried hstop)
    · exact failedAnswers (d := d) (f := completion d id x)
        (completion_gives_up hfresh hpresent hfree hc haborted hop herror hlast)
  case noTimeout =>
    intro hc
    exact act_of_effect (f := commandTimeout d id) (commandTimeout_of_none (s := fresh s) hc)
  case timeout =>
    intro c hc
    refine ⟨fun ⟨q, k, hop⟩ => act_of_effect (f := commandTimeout d id) (commandTimeout_of_abort (s := fresh s) hc hop),
      fun hop => ⟨fun hretried hstop => ?_, fun hlast => ?_⟩⟩
    · exact driveAnswers (d := d) (f := commandTimeout d id) (P := fun y => y.state = v.state ∧
        sent (.abort c.queue c.id) false y ∧ sent c.op true y) (commandTimeout_retries hfresh hc hop hretried hstop)
    · exact failedAnswers (d := d) (f := commandTimeout d id) (commandTimeout_gives_up hfresh hc hop hlast)
  case lost =>
    intro hheeded
    exact failedAnswers (d := d) (f := linkLost d) (linkLost_of_heeded hfresh hheeded)
  case unlinked =>
    intro hheeded
    exact driveEquals (d := d) (f := linkLost d) (linkLost_of_unheeded hfresh hheeded)
  case noStripe =>
    intro h
    exact act_of_effect (f := stripeWrite i) (stripeWrite_idle (s := fresh s) h)
  case stripe =>
    intro stream k hruns hstop hnext hcut
    refine ⟨fun hless => ?_, fun e hunits hdata hopen hcont => ?_, fun hunits hdata hopen htake => ?_⟩
    · exact act_of_effect (f := stripeWrite i)
        ((stripeWrite_continuous (s := fresh s) hruns hstop hnext hcut).trans (if_pos hless))
    · exact act_answers (f := stripeWrite i) (fun t => look 0 t.disk.vol.nextWc i = k + s.disk.vol.dataUnits * unitSize)
        (look_nextWc_stripeWrite (s := fresh s) hruns hstop hnext hcut hunits hdata hopen hcont)
    · exact act_answers (f := stripeWrite i) (fun t => t.disk.vol.full = true ∧ t.disk.vol.state = .stopped)
        (stripeWrite_full (s := fresh s) hruns hstop hnext hcut hdata hopen htake)

end Sys2Proof.Machine
end
